-- ==== Sys2Proof/Word.lean ====
section
/-! DEFINITION. The widths of the manual's values (section 5 of 00_scope.md) and their plainest arithmetic. -/

namespace Sys2Proof

/-- A byte, or one byte lane of a word. -/
abbrev Byte := BitVec 8
/-- A word is 16 bits. -/
abbrev Word := BitVec 16
/-- A 32-bit value, stored as two words. -/
abbrev DWord := BitVec 32

/-- Addition that stays at the greatest value once it is reached (00_scope.md section 5: counters, counts and amounts saturate). -/
def satAdd {w : Nat} (a b : BitVec w) : BitVec w :=
  if a.toNat + b.toNat < 2 ^ w then a + b else BitVec.allOnes w

/-- Subtraction that leaves 0 where the result would be below 0 (R115). -/
def satSub {w : Nat} (a b : BitVec w) : BitVec w :=
  if b.toNat ≤ a.toNat then a - b else 0#w

/-- The successor in a sequence that skips 0: it goes from 65535 to 1 (00_scope.md section 5). -/
def nextSkippingZero (n : Word) : Word :=
  if n = 0xFFFF#16 then 1#16 else n + 1#16

end Sys2Proof
end

