-- ==== Sys2Proof/Syntax.lean ====
section
/-! DEFINITION. The commands of the block: one constructor of `Instr` for each row of spec/opcode_table.json, with the row's operands. -/

namespace Sys2Proof

/-- The byte lanes of a processor cycle, BL0 (the byte at the even address) and BL1 (R186). -/
structure Lanes where
  lo : Bool
  hi : Bool
  deriving DecidableEq, Repr

/-- Both lanes: a word cycle. -/
def Lanes.both : Lanes := ⟨true, true⟩

/-- The three rings (R123). -/
inductive RingId where
  | outbound | inbound | triplog
  deriving DecidableEq, Repr

/-- The two words of a ring descriptor (R218). -/
inductive DescriptorWord where
  | base | size
  deriving DecidableEq, Repr

/-- The two coordinates of the position (R10). -/
inductive Coordinate where
  | first | second
  deriving DecidableEq, Repr

/-- The six counters, in the order of the counter field (R207, R218). -/
inductive Counter where
  | beaconsMissed | checkErrors | contentionFails | offersMissed | messagesDropped | guardHits
  deriving DecidableEq, Repr

/-- The two assembly buffers (R137). -/
inductive BufferId where
  | buffer0 | buffer1
  deriving DecidableEq, Repr

/-- The header of a downlink frame that passed the check (R225): fleet code, site number, destination kind, class mask and destination value, as sent. -/
structure DownHeader where
  fleet : Byte
  site : Word
  dest : Byte
  mask : Byte
  value : Word
  deriving DecidableEq, Repr

/-- The body of a BEACON (R225). -/
structure BeaconBody where
  cycle : Word
  time : DWord
  abilities : Byte
  contention : Byte
  heard : List Word
  deriving DecidableEq, Repr

/-- The body of an OFFER or an AWARD (R225). -/
structure OfferBody where
  job : DWord
  lifetime : Byte
  zone : Byte
  farePresent : Byte
  fare : DWord
  text : List Byte
  deriving DecidableEq, Repr

/-- The body of a downlink TEXT (R225). -/
structure TextBody where
  tag : Word
  index : Byte
  count : Byte
  flags : Byte
  text : List Byte
  deriving DecidableEq, Repr

/-- A trip reference: shift number and trip number (R96). -/
structure TripRef where
  shift : Word
  trip : Word
  deriving DecidableEq, Repr

/-- The commands: the steps of spec/opcode_table.json. A processor write of one field carries its byte lanes and the bytes on them;
where the row fixes the code, the command carries the lanes alone and the bytes are those of the code. -/
inductive Instr where
  /-- POWER_ON_RESET: RESETn is released with the given levels on ASEL3-ASEL0 (R180, R186, R200). -/
  | powerOnReset (asel : BitVec 4)
  /-- EEPROM_NO_ACKNOWLEDGE (R180). -/
  | eepromNoAcknowledge
  /-- IMAGE_READ_TIMEOUT (R180). -/
  | imageReadTimeout
  /-- IMAGE_READ_COMPLETE: the 64 bytes read (R181). -/
  | imageReadComplete (image : List Byte)
  /-- RECOVERY_READ_COMPLETE (R166). -/
  | recoveryReadComplete
  /-- START_UP_READY (R184). -/
  | startUpReady
  /-- RESET_WORD_WRITE: a write of 00FFh with both lanes to the reset word (R204). -/
  | resetWordWrite
  /-- SOFT_RESET (R201). -/
  | softReset
  /-- PROCESSOR_WRITE: a write cycle at a word address A19-A1 (R188). -/
  | processorWrite (address : BitVec 19) (lanes : Lanes) (data : Word)
  /-- PROCESSOR_READ: a read cycle at a word address A19-A1 (R192). -/
  | processorRead (address : BitVec 19) (lanes : Lanes)
  /-- DRAIN_COMPLETE (R191). -/
  | drainComplete
  /-- INTERNAL_OPERATION_START (R195). -/
  | internalOperationStart
  /-- OFFER_ENTRY_REWRITE_COMPLETE (R70). -/
  | offerEntryRewriteComplete
  /-- EMERGENCY_RECORD_REWRITE_COMPLETE (R159). -/
  | emergencyRecordRewriteComplete
  /-- TOTALS_SNAPSHOT_COMPLETE (R117). -/
  | totalsSnapshotComplete
  /-- TRIP_LOG_DEPOSIT_COMPLETE (R107). -/
  | tripLogDepositComplete
  /-- INBOUND_DEPOSIT_COMPLETE (R141). -/
  | inboundDepositComplete
  /-- OUTBOUND_FETCH_COMPLETE (R132). -/
  | outboundFetchComplete
  /-- OUTBOUND_COMPLETION_COMPLETE (R136). -/
  | outboundCompletionComplete
  /-- OPEN_CHECK_HEADER_READ_COMPLETE (R128). -/
  | openCheckHeaderReadComplete
  /-- LOGON: a write of the driver ID field (R3). -/
  | logon (lanes : Lanes) (data : Word)
  /-- STATUS_REQUEST_FREE: a write of the code FREE to the status request field (R6). -/
  | statusRequestFree (lanes : Lanes)
  /-- STATUS_REQUEST_BREAK (R6). -/
  | statusRequestBreak (lanes : Lanes)
  /-- CLOSE: a write of the code CLOSE to the shift-control request field (R7, R8). -/
  | close (lanes : Lanes)
  /-- CLOSE_TRIP (R7, R105). -/
  | closeTrip (lanes : Lanes)
  /-- ZONE_WRITE: a write of the word of the zone byte (R9). -/
  | zoneWrite (lanes : Lanes) (data : Word)
  /-- POSITION_LOWER_WORD_WRITE (R10). -/
  | positionLowerWordWrite (coordinate : Coordinate) (lanes : Lanes) (data : Word)
  /-- FIRST_COORDINATE_WRITE: a write of the higher word of the first coordinate (R10). -/
  | firstCoordinateWrite (lanes : Lanes) (data : Word)
  /-- SECOND_COORDINATE_WRITE: a write of the higher word of the second coordinate (R10). -/
  | secondCoordinateWrite (lanes : Lanes) (data : Word)
  /-- POWER_REQUEST_ACTIVE: a write of the code ACTIVE to the power request field (R169, R174). -/
  | powerRequestActive (lanes : Lanes)
  /-- POWER_REQUEST_STANDBY (R169, R170). -/
  | powerRequestStandby (lanes : Lanes)
  /-- POWER_REQUEST_SLEEP (R169, R173). -/
  | powerRequestSleep (lanes : Lanes)
  /-- RING_DESCRIPTOR_WRITE: a write of one word of a ring's descriptor field (R123). -/
  | ringDescriptorWrite (ring : RingId) (part : DescriptorWord) (lanes : Lanes) (data : Word)
  /-- RING_CONTROL_OPEN: a write of the code OPEN to a ring control field (R128). -/
  | ringControlOpen (ring : RingId) (lanes : Lanes)
  /-- RING_CONTROL_CLOSE (R130). -/
  | ringControlClose (ring : RingId) (lanes : Lanes)
  /-- RING_POINTER_WRITE: a write of the header word of the pointer that the processor owns (R127). -/
  | ringPointerWrite (ring : RingId) (lanes : Lanes) (data : Word)
  /-- EMERGENCY_RAISE: a write of the emergency raise field (R151). -/
  | emergencyRaise (lanes : Lanes) (data : Word)
  /-- ATTENTION_CLEAR: a write of the attention clear field (R209). -/
  | attentionClear (lanes : Lanes) (data : Word)
  /-- ATTENTION_ENABLE: a write of the attention enable field (R210). -/
  | attentionEnable (lanes : Lanes) (data : Word)
  /-- ATTENTION_DONE: a write of the attention done field (R212). -/
  | attentionDone (lanes : Lanes) (data : Word)
  /-- RESPONSE_ACCEPT: a write of the code ACCEPT and a token to an entry's response field (R74, R75). -/
  | responseAccept (entry : Fin 16) (lanes : Lanes) (token : Byte)
  /-- RESPONSE_DECLINE (R74, R76). -/
  | responseDecline (entry : Fin 16) (lanes : Lanes) (token : Byte)
  /-- RESPONSE_RELEASE (R74, R77). -/
  | responseRelease (entry : Fin 16) (lanes : Lanes) (token : Byte)
  /-- COUNTER_READ: a read of one counter word (R207). -/
  | counterRead (counter : Counter) (lanes : Lanes)
  /-- WAKE_REASON_READ (R178). -/
  | wakeReasonRead (lanes : Lanes)
  /-- LINK_STATUS_READ: a read of one of the five words of the link status field (R37). -/
  | linkStatusRead (word : Fin 5) (lanes : Lanes)
  /-- CAB_CLOCK_LOWER_WORD_READ (R38). -/
  | cabClockLowerWordRead (lanes : Lanes)
  /-- METER_FIRST_WORD_READ (R97). -/
  | meterFirstWordRead (lanes : Lanes)
  /-- TOTALS_FIRST_WORD_READ (R116). -/
  | totalsFirstWordRead (lanes : Lanes)
  /-- HIRE (R98). -/
  | hire (tariff : Byte)
  /-- STEP (R99). -/
  | step (component : Byte) (amount : Word)
  /-- TARIFF (R100). -/
  | tariff (tariff : Byte)
  /-- STOP (R102). -/
  | stop (fare : DWord)
  /-- FAULT (R95). -/
  | fault (code : Byte)
  /-- ALIVE (R93). -/
  | alive
  /-- MALFORMED_METER_MESSAGE: bytes of the meter link; `gap` says that more than 50 ms fell between two of them (R93, R226). -/
  | malformedMeterMessage (bytes : List Byte) (gap : Bool)
  /-- SILENCE_TIMER_EXPIRY (R94). -/
  | silenceTimerExpiry
  /-- EMSW_CLOSING (R149). -/
  | emswClosing
  /-- EMSW_OPENING (R149). -/
  | emswOpening
  /-- IGNITION_ON (R175). -/
  | ignitionOn
  /-- IGNITION_OFF (R175). -/
  | ignitionOff
  /-- HOLD_TIMER_EXPIRY (R150). -/
  | holdTimerExpiry
  /-- REPEAT_TIMER_EXPIRY (R156). -/
  | repeatTimerExpiry
  /-- LIFETIME_EXPIRY of one entry (R73). -/
  | lifetimeExpiry (entry : Fin 16)
  /-- AWARD_WAIT_EXPIRY of one entry (R83). -/
  | awardWaitExpiry (entry : Fin 16)
  /-- ACKNOWLEDGMENT_WAIT_EXPIRY (R134). -/
  | acknowledgmentWaitExpiry
  /-- INTER_FRAGMENT_TIMER_EXPIRY of one assembly buffer (R139). -/
  | interFragmentTimerExpiry (buffer : BufferId)
  /-- FARE_REPORT_RETRANSMIT_TIME of the report of one trip (R111). -/
  | fareReportRetransmitTime (reference : TripRef)
  /-- SHIFT_REPORT_RETRANSMIT_TIME (R118). -/
  | shiftReportRetransmitTime
  /-- CAB_CLOCK_SECOND (R20). -/
  | cabClockSecond
  /-- FLASH_TIMER_PHASE (R12). -/
  | flashTimerPhase
  /-- ALARM_FLASH_TOGGLE (R13). -/
  | alarmFlashToggle
  /-- CYCLE_START (R18). -/
  | cycleStart
  /-- BEACON_WINDOW_CLOSE (R18). -/
  | beaconWindowClose
  /-- QUIET_WAIT_END (R22). -/
  | quietWaitEnd
  /-- LISTEN_END (R23). -/
  | listenEnd
  /-- JOIN_GRANT_WAIT_EXPIRY (R27). -/
  | joinGrantWaitExpiry
  /-- SLOT_START (R44). -/
  | slotStart
  /-- BACKOFF_EXPIRY (R54). -/
  | backoffExpiry
  /-- GRANT_WAIT_EXPIRY (R60). -/
  | grantWaitExpiry
  /-- REST_EXPIRY (R60). -/
  | restExpiry
  /-- GRANT_EXPIRY (R62). -/
  | grantExpiry
  /-- PARKING_COUNT_EXPIRY (R171). -/
  | parkingCountExpiry
  /-- SHORT_FRAME_SENT (R52). -/
  | shortFrameSent
  /-- LONG_FRAME_SENT (R62). -/
  | longFrameSent
  /-- DAMAGED_FRAME: the bytes of one delivered downlink frame (R17, R215). -/
  | damagedFrame (bytes : List Byte)
  /-- BEACON (R30). -/
  | beacon (header : DownHeader) (body : BeaconBody)
  /-- GRANT_JOIN (R29). -/
  | grantJoin (header : DownHeader) (slot period phase : Byte)
  /-- DENY (R28). -/
  | deny (header : DownHeader) (reason : Byte)
  /-- REJOIN (R31). -/
  | rejoin (header : DownHeader)
  /-- GRANT_LONG (R61). -/
  | grantLong (header : DownHeader) (cycle : Word) (start count : Byte)
  /-- OFFER (R71). -/
  | offer (header : DownHeader) (body : OfferBody)
  /-- AWARD (R78). -/
  | award (header : DownHeader) (body : OfferBody)
  /-- LOST (R81). -/
  | lost (header : DownHeader) (job : DWord)
  /-- WITHDRAW (R82). -/
  | withdraw (header : DownHeader) (job : DWord)
  /-- TEXT (R137). -/
  | text (header : DownHeader) (body : TextBody)
  /-- ACK_OF_TEXT (R134). -/
  | ackOfText (header : DownHeader) (tag : Word)
  /-- ACK_OF_FARE (R113). -/
  | ackOfFare (header : DownHeader) (reference : TripRef)
  /-- ACK_OF_SHIFT (R118). -/
  | ackOfShift (header : DownHeader) (shift : Word)
  /-- ALERT_ACK (R155). -/
  | alertAck (header : DownHeader) (number : Word)
  /-- ALERT_CANCEL (R157). -/
  | alertCancel (header : DownHeader) (number : Word)
  /-- WAKE: the cab numbers of the body (R176). -/
  | wake (header : DownHeader) (cabs : List Word)
  /-- RESETN_LOW (R200). -/
  | resetnLow
  /-- DRAIN_START (R191). -/
  | drainStart
  /-- INTERNAL_MEMORY_CYCLE_COMPLETE (R195). -/
  | internalMemoryCycleComplete
  /-- STATUS_REQUEST_OTHER_VALUE (R6). -/
  | statusRequestOtherValue (lanes : Lanes) (data : Word)
  /-- SHIFT_CONTROL_OTHER_VALUE (R7). -/
  | shiftControlOtherValue (lanes : Lanes) (data : Word)
  /-- POWER_REQUEST_OTHER_VALUE (R169). -/
  | powerRequestOtherValue (lanes : Lanes) (data : Word)
  /-- RING_CONTROL_OTHER_VALUE (R129). -/
  | ringControlOtherValue (ring : RingId) (lanes : Lanes) (data : Word)
  /-- RESPONSE_OTHER_CODE: a write of an entry's response field (R74). -/
  | responseOtherCode (entry : Fin 16) (lanes : Lanes) (data : Word)
  deriving DecidableEq, Repr

end Sys2Proof
end

