-- ==== Sys2Proof/Config.lean ====
section
/-! DEFINITION. What an implementation or a board fixes and the manual does not: the free values and the content of memory that nothing has written. -/

namespace Sys2Proof.Config

/-- What a byte of the static RAM that nothing has written reads as. DESIGN CHOICE (unsafe), log entry 3: the manual gives RAM no content after power-on. -/
def ramFill : Byte := 0#8

/-- The value of the random source's draw number `n` when it was started from the given cab number.
A free value (log entry 5): R54 does not give the generator, and a draw may give any value of its range. -/
opaque randomDraw (seed : Word) (n : Nat) : Nat

/-- The source that recovery takes from a valid CLEAR record whose source word is none of the listed codes: 0 SWITCH, 1 TERMINAL,
2 RECOVERED. A free value (log entry 6): R166 takes the source from the record and R219 lists three codes. -/
opaque unlistedSource (code : Word) : Fin 3

end Sys2Proof.Config
end

