-- ==== Sys2Proof/Machine/State.lean ====
section
/-! DEFINITION. The state of the LDC-2140 as plain data, block by block as 00_scope.md section 1.1 lists them, with `State.reset` (the values after a power-on reset), and the closed reasons for which a step stops. -/

namespace Sys2Proof.Machine

/-- No step of this block ends in a fault: the manual names no event that stops the part.
The type has no constructor, so that no claim can meet a fault (safe). -/
inductive Fault where
  deriving DecidableEq, Repr

/-- The reasons for which a command is refused. -/
inductive Refusal where
  /-- Raised by `exec` for a command that has no meaning yet, under the mnemonic of its row (safe). -/
  | notModelled (mnemonic : String)
  deriving DecidableEq, Repr

/-- A timer of the part stated in seconds: `none` while stopped, `some n` while `n` ticks of the second timer remain (R20). -/
abbrev Timer := Option Nat

/-- The value of a request's outcome (R203, R219). -/
inductive Outcome where
  | none | taken | pending | notValid | notAllowed | busy | tooLate | noShift | emergency | openTrip | hired
  | size | align | outside | overlap | pointers
  deriving DecidableEq, Repr

/-- A result field: the request word as the owner took it, and the outcome (R203). -/
structure Result where
  echo : Word
  outcome : Outcome
  deriving DecidableEq, Repr

/-- Echoed code 0 and outcome NONE (R203). -/
def Result.reset : Result := ⟨0#16, .none⟩

/-! ## Pins -/

/-- The lines of the part (00_scope.md section 3): the levels of the two inputs and of the five outputs. -/
structure Pins where
  /-- The debounced level of EMSW: closed means pressed (R149). -/
  emswClosed : Bool
  /-- The debounced level of IGN (R175). -/
  ign : Bool
  lampHire : Bool
  lampCall : Bool
  lampAlarm : Bool
  /-- The ATTN line, asserted or not (R211). -/
  attn : Bool
  /-- The WAKE line, asserted or not (R178). -/
  wake : Bool
  deriving DecidableEq, Repr

/-! ## Memory Path -/

/-- An entry of the post buffer: a word address and the posted byte of each lane that was posted (R188). -/
structure PostEntry where
  address : BitVec 19
  lo : Option Byte
  hi : Option Byte
  deriving DecidableEq, Repr

/-- The drain of the oldest entry: not under way, writing memory, or dropping its lanes as a guard hit (R191). -/
inductive Drain where
  | idle | writing | dropping
  deriving DecidableEq, Repr

/-- The operations of the internal requester (R195). -/
inductive OpKind where
  | offerRewrite (entry : Fin 16)
  | emergencyRewrite
  | totalsSnapshot
  | inboundDeposit
  | tripDeposit
  | outboundFetch
  | outboundCompletion
  | headerRead (ring : RingId)
  | recoveryRead
  /-- What is left of an operation that a soft reset abandoned: its memory cycle under way (R201). -/
  | abandoned
  deriving DecidableEq, Repr

/-- A queued operation, with the number of post buffer entries it must still see drained (R196). -/
structure Operation where
  kind : OpKind
  mark : Nat
  deriving DecidableEq, Repr

/-- One word cycle of an internal operation, at an offset within the selected page (R195). -/
inductive MemCycle where
  | write (offset : Nat) (word : Word)
  | read (offset : Nat)
  deriving DecidableEq, Repr

/-- The thirteen attention causes, bit 0 upward (R219). -/
inductive Cause where
  | offerNew | offerChange | msgIn | msgOutDone | tripClosed | reportDone | emergency | link | power | refused | guard
  | illegal | meter
  deriving DecidableEq, Repr

/-- The operation under way: its remaining cycles, the words its reads returned so far, the causes that its end raises,
whether it carries an emergency record of state CLEAR (R157, R195), and the marked post buffer entries that must drain before
its first cycle asks for the port (R196). -/
structure UnderWay where
  kind : OpKind
  cycles : List MemCycle
  got : List Word
  causes : List Cause
  carriesClear : Bool
  mark : Nat
  deriving DecidableEq, Repr

/-- A cycle of the processor bus (R186). -/
inductive BusCycle where
  | read (address : BitVec 19) (lanes : Lanes)
  | write (address : BitVec 19) (lanes : Lanes) (data : Word)
  deriving DecidableEq, Repr

/-- A processor cycle whose ready line is held; `passed` says that a read already waits for its memory cycle, which a later
stall mark does not hold back (R194). -/
structure HeldCycle where
  cycle : BusCycle
  passed : Bool
  deriving DecidableEq, Repr

/-- The bytes with which a processor read was answered, lane by lane (R192). -/
structure Answer where
  address : BitVec 19
  lo : Option Byte
  hi : Option Byte
  deriving DecidableEq, Repr

/-- The state of the Memory Path (chapter 9). The treatment view and the record stall marks are computed from the owners' state
and from the operation under way (Operands.lean), so that each is stored once. -/
structure MemoryPath where
  /-- The area select value, sampled at the release of RESETn (R186). -/
  asel : BitVec 4
  /-- RESETn is low (R200). -/
  inReset : Bool
  buffer : List PostEntry
  drain : Drain
  queue : List Operation
  under : Option UnderWay
  /-- The port runs a cycle of the operation under way (R197). -/
  internal : Bool
  fairness : Nat
  /-- A soft reset waits for the post buffer to empty (R201). -/
  resetDrain : Bool
  /-- The processor cycles whose ready line is held, in the order they were made. -/
  held : List HeldCycle
  /-- The answer last put on the processor's data lines. -/
  answer : Option Answer
  deriving DecidableEq, Repr

/-! ## Control Page -/

/-- The six counters (R207). -/
structure Counters where
  beaconsMissed : Word
  checkErrors : Word
  contentionFails : Word
  offersMissed : Word
  messagesDropped : Word
  guardHits : Word
  deriving DecidableEq, Repr

/-- The state of the Control Page logic (chapter 10). -/
structure ControlPage where
  /-- The attention cause set, a bit for each cause (R208). -/
  causes : BitVec 13
  /-- The enable set (R210). -/
  enables : BitVec 13
  /-- The attention-busy flag (R211). -/
  busy : Bool
  /-- How often ATTN has been asserted since the last reset: R212 asserts it afresh after a pause. -/
  assertions : Nat
  counters : Counters
  statusCopy : Word
  shiftCopy : Word
  powerCopy : Word
  enableCopy : Word
  /-- The link-up latch (R37). -/
  linkUp : Bool
  deriving DecidableEq, Repr

/-! ## Link Controller and the transceiver link -/

/-- The link state (R21). -/
inductive LinkState where
  | off | quiet | hunt | join | joined
  deriving DecidableEq, Repr

/-- A candidate: channel, site number and ability set (R24). -/
structure Candidate where
  channel : Word
  site : Word
  abilities : Byte
  deriving DecidableEq, Repr

/-- The site record (chapter 2). -/
structure SiteRecord where
  channel : Word
  site : Word
  abilities : Byte
  slot : Byte
  period : Byte
  phase : Byte
  deriving DecidableEq, Repr

/-- The run of the channel being listened to: site number, count of beacons, abilities of the latest (R24, R25). -/
structure Run where
  site : Word
  count : Nat
  abilities : Byte
  deriving DecidableEq, Repr

/-- A hunt pass: the channel listened to, the channels still to come, and the run (R23, R24). -/
structure Hunt where
  channel : Word
  rest : List Word
  run : Option Run
  deriving DecidableEq, Repr

/-- The state of the Link Controller (chapter 2). -/
structure LinkController where
  state : LinkState
  /-- The channel list of the configuration image, in image order. -/
  channels : List Word
  candidates : List Candidate
  /-- The candidate being joined. -/
  joining : Option Candidate
  /-- The site record, present while the link is JOINED. -/
  site : Option SiteRecord
  /-- The beacon-loss count. -/
  loss : Nat
  /-- The join attempt count. -/
  attempts : Nat
  /-- Cycle starts left in the grant wait of a JOIN transmission (R27). -/
  grantWait : Option Nat
  /-- Cycle starts counted in QUIET (R22). -/
  quiet : Nat
  hunt : Option Hunt
  /-- The cycle number of the cycle timer (R18). -/
  cycle : Word
  /-- The uplink slot that begins next in the current cycle, 24 when all have begun (R18, R19). -/
  nextSlot : Nat
  /-- The beacon window of the current cycle is open (R18). -/
  window : Bool
  /-- A good beacon of the current cycle has arrived (R18). -/
  beaconIn : Bool
  /-- C, the contention count of the last good beacon (R19). -/
  contention : Nat
  /-- The cab clock (R20). -/
  clock : DWord
  /-- The upper half of the cab clock as last captured (R38). -/
  clockUpper : Word
  /-- The part's second timer: seconds since the power-on reset (R20). -/
  seconds : Nat
  deriving DecidableEq, Repr

/-- The orders to the transceiver (R16, R227). -/
inductive Order where
  | tune (channel : Word)
  | listen
  | off
  | send (slot : Byte) (frame : List Byte)
  deriving DecidableEq, Repr

/-- What the part puts on the transceiver link: an order on serial data out, or the slot mark of a slot (R16). -/
inductive LinkOutput where
  | order (o : Order)
  | slotMark (slot : Nat)
  deriving DecidableEq, Repr

/-- Which frame is on the air. -/
inductive FrameName where
  | join
  | alert (number : Word)
  | ack (tag : Word)
  | bid (job : DWord)
  | flow
  | slotRequest
  | status (park : Bool)
  | fare (reference : TripRef)
  | shift (number : Word)
  | text (tag : Word) (index : Nat)
  deriving DecidableEq, Repr

/-- By which use of a slot a frame is sent (R44). -/
inductive Via where
  | reserved | contention | long
  deriving DecidableEq, Repr

/-- The frame being sent; `live` says that it has not left its place or list since its slot began. -/
structure Sending where
  name : FrameName
  via : Via
  live : Bool
  deriving DecidableEq, Repr

/-- The transceiver as the part drives it (R16). -/
structure Transceiver where
  receiverOn : Bool
  /-- The channel last tuned. -/
  channel : Word
  sending : Option Sending
  /-- Orders that take effect at the end of the frame being sent. -/
  deferred : List Order
  /-- Everything put on the link, oldest first: the model's trace of serial data out and the slot mark line. -/
  output : List LinkOutput
  deriving DecidableEq, Repr

/-! ## Uplink Scheduler -/

/-- A bid code (R84, R219). -/
inductive BidCode where
  | accept | decline | return
  deriving DecidableEq, Repr

/-- A bid list entry (R47). -/
structure Bid where
  job : DWord
  code : BidCode
  attempts : Nat
  deriving DecidableEq, Repr

/-- The ALERT in the ALERT place: what the Emergency Unit set when it filled the place (R153). -/
inductive Source where
  | switch | terminal | recovered
  deriving DecidableEq, Repr, Inhabited

/-- An ALERT waiting in its place (R153). -/
structure AlertFrame where
  number : Word
  source : Source
  deriving DecidableEq, Repr

/-- A flow code (R144, R219). -/
inductive FlowCode where
  | pause | resume
  deriving DecidableEq, Repr

/-- The cab status (R1). -/
inductive CabStatus where
  | offDuty | free | assigned | hired | onBreak
  deriving DecidableEq, Repr

/-- The position as other blocks see it: absent, or two coordinates (R10). -/
abbrev Position := Option (DWord × DWord)

/-- The status report (R11). -/
structure StatusReport where
  status : CabStatus
  shiftNumber : Word
  meterOpened : Bool
  driverId : Word
  emergency : Bool
  zone : Byte
  position : Position
  paused : Bool
  park : Bool
  deriving DecidableEq, Repr

/-- The slot request in its place: its attempt count, and whether it has fallen back to the reserved slot (R57). -/
structure SlotRequest where
  attempts : Nat
  fellBack : Bool
  deriving DecidableEq, Repr

/-- The frames that may use contention (R53). -/
inductive Contender where
  | alert
  | join
  | bid (job : DWord)
  | slotRequest
  deriving DecidableEq, Repr

/-- The contention state. `outstanding none` means that the frame sent has left its place before the answer (R53-R58). -/
inductive Contention where
  | idle
  | waiting (contender : Contender) (cycles : Nat)
  | slotted (contender : Contender) (slot : Nat)
  | outstanding (contender : Option Contender)
  deriving DecidableEq, Repr

/-- The long-slot state, with the cycle starts left in WAIT and REST (R59, R60). -/
inductive LongState where
  | none
  | request
  | wait (left : Nat)
  | held
  | rest (left : Nat)
  deriving DecidableEq, Repr

/-- The grant record, the cycle starts since its arrival, and whether a slot of the granted cycle has begun (R61, R62). -/
structure Grant where
  cycle : Word
  start : Nat
  count : Nat
  since : Nat
  seen : Bool
  deriving DecidableEq, Repr

/-- The state of the Uplink Scheduler (chapter 3). The site view is the Link Controller's site record and contention count. -/
structure Scheduler where
  /-- The JOIN place is filled. -/
  joinPlace : Bool
  joinAttempts : Nat
  alertPlace : Option AlertFrame
  alertAttempts : Nat
  acks : List Word
  bids : List Bid
  flowPlace : Option FlowCode
  slotRequest : Option SlotRequest
  statusPlace : Option StatusReport
  contention : Contention
  long : LongState
  /-- The request count (R60). -/
  requests : Nat
  grant : Option Grant
  /-- How many random values have been drawn; with `seed` it stands for the random source (R54). -/
  draws : Nat
  /-- The cab number from which the random source was started (R54). -/
  seed : Word
  deriving DecidableEq, Repr

/-! ## Offer Engine -/

/-- The state of an offer table entry (R69). -/
inductive OfferState where
  | empty | live | bidding | awarded | declined | lapsed | lost | withdrawn | noAward
  deriving DecidableEq, Repr

/-- The result of the last response taken (R68). -/
structure OfferResult where
  code : Byte
  token : Byte
  outcome : Outcome
  deriving DecidableEq, Repr

/-- An offer table entry (R68). -/
structure OfferEntry where
  state : OfferState
  seq : Byte
  job : DWord
  dest : Byte
  mask : Byte
  zone : Byte
  received : DWord
  expires : DWord
  fare : Option DWord
  text : List Byte
  forced : Bool
  late : Bool
  /-- The response copies: code on the lower lane, token on the higher (R74). -/
  response : Word
  result : OfferResult
  /-- The lifetime timer while LIVE, the award-wait timer while BIDDING (R69). -/
  timer : Timer
  /-- The causes of updates that no rewrite has begun to carry (R70). -/
  causes : List Cause
  deriving DecidableEq, Repr

/-- The state of the Offer Engine (chapter 4): the table, and the numbers of the non-EMPTY entries in entry order, oldest first. -/
structure OfferEngine where
  entries : Vector OfferEntry 16
  order : List (Fin 16)
  deriving DecidableEq, Repr

/-! ## Trip Engine -/

/-- The trip flags (R96, R219). -/
structure TripFlags where
  emergency : Bool
  meterFault : Bool
  interrupted : Bool
  mismatch : Bool
  forcedClose : Bool
  overflow : Bool
  deriving DecidableEq, Repr

/-- An entry of a tariff list: tariff and the cab clock when it came into force (R96). -/
structure TariffEntry where
  tariff : Byte
  time : DWord
  deriving DecidableEq, Repr

/-- The four group amounts (R99). -/
structure Groups where
  g0 : DWord
  g1 : DWord
  g2 : DWord
  g3 : DWord
  deriving DecidableEq, Repr

/-- The open trip record (R96). -/
structure OpenTrip where
  ref : TripRef
  job : Option DWord
  forced : Bool
  startTime : DWord
  startMark : Nat
  tariffs : List TariffEntry
  groups : Groups
  ungrouped : DWord
  stepSum : DWord
  stepCount : Word
  flags : TripFlags
  deriving DecidableEq, Repr

/-- The closed trip record (R106). -/
structure TripRecord where
  ref : TripRef
  driverId : Word
  meterOpened : Bool
  job : Option DWord
  forced : Bool
  startTime : DWord
  closeTime : DWord
  duration : DWord
  tariffs : List TariffEntry
  groups : Groups
  ungrouped : DWord
  stepSum : DWord
  stepCount : Word
  fare : DWord
  extras : DWord
  flags : TripFlags
  faultCode : Byte
  deriving DecidableEq, Repr

/-- A fare report: the record, the send count, the retransmit time on the second timer, and whether that time has come (R110, R111). -/
structure FareReport where
  record : TripRecord
  sends : Nat
  retransmit : Nat
  come : Bool
  deriving DecidableEq, Repr

/-- The shift totals (R115). -/
structure Totals where
  shiftNumber : Word
  driverId : Word
  meterOpened : Bool
  openTime : DWord
  tripsClosed : Word
  tripsWithJob : Word
  tripsWithEmergency : Word
  mismatches : Word
  meterFaults : Word
  reportsAcknowledged : Word
  reportsInList : Word
  reportsAbandoned : Word
  tripsNotLogged : Word
  fareTotal : DWord
  groupTotals : Groups
  ungroupedTotal : DWord
  extrasTotal : DWord
  hiredSeconds : DWord
  deriving DecidableEq, Repr

/-- The totals captured at a taken CLOSE, with the close time (R117). -/
structure ClosedTotals where
  totals : Totals
  closeTime : DWord
  deriving DecidableEq, Repr

/-- The shift report (R118). -/
structure ShiftReport where
  content : ClosedTotals
  sends : Nat
  retransmit : Nat
  come : Bool
  deriving DecidableEq, Repr

/-- Where a ring lies: the base and size of its descriptor (R123). -/
structure Descriptor where
  base : Word
  size : Word
  deriving DecidableEq, Repr

/-- A deposit into a ring the part produces, as it was planned when it began: the ring as it then lay, the input pointer,
whether a WRAP marker is written, the record's bytes and the new input pointer (R125, R130). -/
structure Deposit where
  desc : Descriptor
  inPtr : Nat
  wrap : Bool
  record : List Byte
  newPtr : Nat
  deriving DecidableEq, Repr

/-- The deposit under way into TRIPLOG: the closed record and its plan (R107). -/
structure TripDeposit where
  record : TripRecord
  plan : Deposit
  deriving DecidableEq, Repr

/-- The state of the Trip Engine (chapter 5). -/
structure TripEngine where
  trip : Option OpenTrip
  /-- The trip number counter. -/
  counter : Word
  /-- The component map: the group of each component code, `none` for NONE (R99). -/
  components : List (Option (Fin 4))
  silence : Timer
  lastFault : Byte
  /-- The reference of the last trip closed, zero before the first (R97). -/
  lastRef : TripRef
  deposit : Option TripDeposit
  pendingLog : List TripRecord
  reports : List FareReport
  abandoned : List TripRef
  shiftReport : Option ShiftReport
  totals : Totals
  /-- The totals captured at the last taken CLOSE (R117). -/
  captured : Option ClosedTotals
  /-- The read copy of the meter field, word by word (R97). -/
  meterCopy : List Word
  /-- The read copy of the totals block, word by word (R116). -/
  totalsCopy : List Word
  deriving DecidableEq, Repr

/-! ## Message Engine -/

/-- The state of a ring (R123). -/
inductive RingState where
  | closed | open | closing
  deriving DecidableEq, Repr

/-- A ring record (chapter 6). -/
structure Ring where
  state : RingState
  /-- The part's copies of the descriptor words. -/
  copies : Descriptor
  /-- The descriptor in use, kept as the ring last lay. -/
  desc : Descriptor
  /-- The part's value of its own pointer. -/
  own : Word
  /-- The part's copy of the processor's pointer. -/
  theirs : Word
  /-- The descriptor captured for an OPEN check under way (R128). -/
  check : Option Descriptor
  result : Result
  /-- The request copy of the ring control field (R202). -/
  controlCopy : Word
  deriving DecidableEq, Repr

/-- The outcome of an outbound message (R219). -/
inductive OutOutcome where
  | none | delivered | failed | rejected
  deriving DecidableEq, Repr

/-- An outbound message in flight (R132, R133). -/
structure OutMessage where
  tag : Word
  kind : Byte
  urgent : Bool
  text : List Byte
  fragments : Nat
  next : Nat
  sends : Nat
  ackWait : Timer
  /-- The output pointer at its record, and the pointer past it. -/
  at_ : Nat
  after : Nat
  deriving DecidableEq, Repr

/-- A completion being written: the outcome, the tag, the record's position and whether its outcome field lies in the data area,
and the advanced output pointer (R136). -/
structure OutCompletion where
  outcome : OutOutcome
  tag : Word
  at_ : Nat
  writeOutcome : Bool
  after : Nat
  deriving DecidableEq, Repr

/-- What a fetch found, once its last read is made (R131, R132). -/
inductive FetchVerdict where
  | reading
  | rejected (completion : OutCompletion)
  | passed (message : OutMessage)
  deriving DecidableEq, Repr

/-- The outbound message in flight, from the start of its fetch to its completion (R131). -/
inductive Outbound where
  | none
  | fetching (verdict : FetchVerdict)
  | flight (message : OutMessage)
  | completing (completion : OutCompletion)
  deriving DecidableEq, Repr

/-- A message under assembly: tag, count, flags of the first fragment, the text received for each index, the inter-fragment
timer and the stamp of its beginning (R137, R138). -/
structure Assembly where
  tag : Word
  count : Nat
  urgent : Bool
  ackRequired : Bool
  parts : List (Option (List Byte))
  timer : Timer
  begun : Nat
  deriving DecidableEq, Repr

/-- A closed inbound message (R140), with the stamp of its close. -/
structure InMessage where
  tag : Word
  urgent : Bool
  ackRequired : Bool
  truncated : Bool
  parts : List (Option (List Byte))
  closeTime : DWord
  closedAt : Nat
  deriving DecidableEq, Repr

/-- An assembly buffer (R137). -/
inductive Buffer where
  | empty
  | assembling (a : Assembly)
  | closed (m : InMessage)
  deriving DecidableEq, Repr

/-- The inbound deposit under way (R141). -/
structure InDeposit where
  message : InMessage
  plan : Deposit
  deriving DecidableEq, Repr

/-- The last-outbound value (R136). -/
structure LastOutbound where
  outcome : OutOutcome
  tag : Word
  deriving DecidableEq, Repr

/-- The state of the Message Engine (chapter 6). -/
structure MessageEngine where
  outbound : Ring
  inbound : Ring
  triplog : Ring
  flight : Outbound
  buffer0 : Buffer
  buffer1 : Buffer
  /-- The next stamp, for the order in which assemblies begin and close. -/
  stamp : Nat
  deposit : Option InDeposit
  delivered : List Word
  /-- The inbound flow state is PAUSED (R144). -/
  paused : Bool
  /-- The pause threshold P. -/
  pauseAt : Nat
  /-- The resume threshold Q. -/
  resumeAt : Nat
  lastOut : LastOutbound
  deriving DecidableEq, Repr

/-! ## Emergency Unit -/

/-- The emergency state (R148). -/
inductive EmergencyState where
  | clear | pressed | alerting | acked
  deriving DecidableEq, Repr

/-- The state of the Emergency Unit (chapter 7). -/
structure EmergencyUnit where
  state : EmergencyState
  number : Word
  source : Source
  raisedAt : DWord
  ackedAt : DWord
  cancelledAt : DWord
  sends : Word
  hold : Timer
  /-- Cycle starts left in the repeat timer (R156). -/
  repeatLeft : Option Nat
  raiseResult : Result
  /-- The emergency record as last written by the part, word by word. -/
  image : List Word
  /-- A further rewrite is owed after the one under way (R159). -/
  owed : Bool
  /-- EMERGENCY waits for a rewrite that has not begun (R152). -/
  causeWaits : Bool
  /-- The record stays GUARDED until the cancel's rewrite has completed (R160). -/
  guardHeld : Bool
  deriving DecidableEq, Repr

/-! ## Status Unit -/

/-- The setting of a lamp for a status (R12). -/
inductive Lamp where
  | off | on | flash
  deriving DecidableEq, Repr

/-- The settings of LAMP_HIRE and LAMP_CALL for one status. -/
structure LampPair where
  hire : Lamp
  call : Lamp
  deriving DecidableEq, Repr

/-- The lamp map (R12). -/
structure LampMap where
  offDuty : LampPair
  free : LampPair
  assigned : LampPair
  hired : LampPair
  onBreak : LampPair
  deriving DecidableEq, Repr

/-- The default lamp map (R12). -/
def LampMap.default : LampMap :=
  { offDuty := ⟨.off, .off⟩, free := ⟨.on, .off⟩, assigned := ⟨.off, .on⟩, hired := ⟨.off, .off⟩, onBreak := ⟨.off, .off⟩ }

/-- The copies of the two words of a coordinate field (R10, R205). -/
structure CoordinateCopy where
  lower : Word
  higher : Word
  deriving DecidableEq, Repr

/-- The state of the Status Unit (chapter 1). -/
structure StatusUnit where
  status : CabStatus
  shiftOpen : Bool
  shiftNumber : Word
  driverId : Word
  meterOpened : Bool
  /-- The copies of the two lanes of the driver ID field (R3). -/
  driverCopy : Word
  zone : Byte
  firstCopy : CoordinateCopy
  secondCopy : CoordinateCopy
  /-- The pending copy of the first coordinate (R10). -/
  pendingFirst : DWord
  position : Position
  lampMap : LampMap
  alarmEnabled : Bool
  /-- The phase of the free-running flash timer (R12). -/
  flashOn : Bool
  /-- The phase of the alarm pattern (R13). -/
  alarmOn : Bool
  statusResult : Result
  shiftResult : Result
  deriving DecidableEq, Repr

/-! ## Power and Start-up -/

/-- The power state (R168). -/
inductive PowerState where
  | active | parking | standby | sleep
  deriving DecidableEq, Repr

/-- The start-up state (R180). -/
inductive StartUp where
  | loading | recovering | ready | configFault
  deriving DecidableEq, Repr

/-- The fault reason (R219). -/
inductive FaultReason where
  | none | noImage | check | range
  deriving DecidableEq, Repr

/-- The recovery result (R183). -/
inductive Recovery where
  | none | notValid | clear | resumed
  deriving DecidableEq, Repr

/-- The wake reason set (R178). -/
structure WakeReason where
  switch : Bool
  meter : Bool
  ignition : Bool
  radio : Bool
  deriving DecidableEq, Repr

/-- The empty wake reason set. -/
def WakeReason.empty : WakeReason := ⟨false, false, false, false⟩

/-- The items taken from the configuration image (section 8.4, R224). -/
structure ConfigImage where
  cab : Word
  fleet : Byte
  classFlags : Byte
  channels : List Word
  components : List (Option (Fin 4))
  lampMap : LampMap
  alarmFlash : Bool
  pauseAt : Nat
  resumeAt : Nat
  deriving DecidableEq, Repr

/-- A step of the part's transaction on the I2C port (R180): a start or repeated start condition, the device address byte, a data
byte written, a data byte read and acknowledged or not, and the stop condition. -/
inductive I2cStep where
  | start
  | device (address : BitVec 7) (read : Bool)
  | write (data : Byte)
  | read (acknowledged : Bool)
  | stop
  deriving DecidableEq, Repr

/-- The state of Power and Start-up (chapter 8). -/
structure PowerUnit where
  power : PowerState
  /-- The power note is PARK (R168). -/
  park : Bool
  /-- The parking count. -/
  parking : Nat
  reason : WakeReason
  /-- The ignition level, on or off. -/
  ignition : Bool
  result : Result
  startUp : StartUp
  faultReason : FaultReason
  failingItem : Byte
  recovery : Recovery
  /-- The number of the EEPROM read attempt under way, 1 to 3 (R180). -/
  attempt : Nat
  /-- The transaction that the part drives on the I2C port in the attempt under way, empty outside LOADING (R180). -/
  transaction : List I2cStep
  image : Option ConfigImage
  deriving DecidableEq, Repr

/-! ## The whole part -/

/-- The state of the part, its lines, the static RAM behind it, and the queue of commands that wait. -/
structure State where
  /-- The commands that wait, first in, first out. -/
  pending : List Instr
  /-- The static RAM: the bytes that differ from what an unlisted address reads as, by rising address. -/
  mem : List Host.Cell
  pins : Pins
  path : MemoryPath
  page : ControlPage
  link : LinkController
  radio : Transceiver
  sched : Scheduler
  offers : OfferEngine
  trips : TripEngine
  msgs : MessageEngine
  emerg : EmergencyUnit
  status : StatusUnit
  power : PowerUnit
  deriving DecidableEq, Repr

/-! ## Values after a power-on reset -/

/-- Lines after a power-on reset (R14, R179, R213); EMSW open and IGN off: DESIGN CHOICE, log entry 4. -/
def Pins.reset : Pins := ⟨false, false, false, false, false, false, false⟩

/-- R200; the area select value of the straps: DESIGN CHOICE, log entry 4. -/
def MemoryPath.reset : MemoryPath :=
  { asel := 0#4, inReset := false, buffer := [], drain := .idle, queue := [], under := none, internal := false,
    fairness := 0, resetDrain := false, held := [], answer := none }

/-- R213. -/
def Counters.reset : Counters := ⟨0#16, 0#16, 0#16, 0#16, 0#16, 0#16⟩

/-- R213. -/
def ControlPage.reset : ControlPage :=
  { causes := 0#13, enables := 0#13, busy := false, assertions := 0, counters := Counters.reset, statusCopy := 0#16,
    shiftCopy := 0#16, powerCopy := 0#16, enableCopy := 0#16, linkUp := false }

/-- R41; the cycle timer starts at READY, before which no slot begins. -/
def LinkController.reset : LinkController :=
  { state := .off, channels := [], candidates := [], joining := none, site := none, loss := 0, attempts := 0,
    grantWait := none, quiet := 0, hunt := none, cycle := 0#16, nextSlot := 24, window := false, beaconIn := false,
    contention := 0, clock := 0#32, clockUpper := 0#16, seconds := 0 }

/-- R41: the transceiver is held off; the channel last tuned: DESIGN CHOICE, log entry 4. -/
def Transceiver.reset : Transceiver :=
  { receiverOn := false, channel := 0#16, sending := none, deferred := [], output := [] }

/-- R66; the count of random draws and the seed: DESIGN CHOICE, log entry 4. -/
def Scheduler.reset : Scheduler :=
  { joinPlace := false, joinAttempts := 0, alertPlace := none, alertAttempts := 0, acks := [], bids := [],
    flowPlace := none, slotRequest := none, statusPlace := none, contention := .idle, long := .none, requests := 0,
    grant := none, draws := 0, seed := 0#16 }

/-- An EMPTY entry with sequence 0 (R68, R90). -/
def OfferEntry.reset : OfferEntry :=
  { state := .empty, seq := 0#8, job := 0#32, dest := 0#8, mask := 0#8, zone := 0#8, received := 0#32, expires := 0#32,
    fare := none, text := [], forced := false, late := false, response := 0#16, result := ⟨0#8, 0#8, .none⟩,
    timer := none, causes := [] }

/-- R90. -/
def OfferEngine.reset : OfferEngine := ⟨Vector.replicate 16 OfferEntry.reset, []⟩

/-- Amounts of 0. -/
def Groups.zero : Groups := ⟨0#32, 0#32, 0#32, 0#32⟩

/-- Totals of 0 (R120). -/
def Totals.zero : Totals :=
  { shiftNumber := 0#16, driverId := 0#16, meterOpened := false, openTime := 0#32, tripsClosed := 0#16,
    tripsWithJob := 0#16, tripsWithEmergency := 0#16, mismatches := 0#16, meterFaults := 0#16,
    reportsAcknowledged := 0#16, reportsInList := 0#16, reportsAbandoned := 0#16, tripsNotLogged := 0#16,
    fareTotal := 0#32, groupTotals := Groups.zero, ungroupedTotal := 0#32, extrasTotal := 0#32, hiredSeconds := 0#32 }

/-- R120. The component map until READY, the read copy of the totals and the captured totals: none, log entry 48. -/
def TripEngine.reset : TripEngine :=
  { trip := none, counter := 1#16, components := [], silence := none, lastFault := 0#8, lastRef := ⟨0#16, 0#16⟩,
    deposit := none, pendingLog := [], reports := [], abandoned := [], shiftReport := none, totals := Totals.zero,
    captured := none, meterCopy := [], totalsCopy := [] }

/-- R146. -/
def Ring.reset : Ring :=
  { state := .closed, copies := ⟨0#16, 0#16⟩, desc := ⟨0#16, 0#16⟩, own := 0#16, theirs := 0#16, check := none,
    result := Result.reset, controlCopy := 0#16 }

/-- R146; the thresholds are loaded with the image, the defaults of R144 before. -/
def MessageEngine.reset : MessageEngine :=
  { outbound := Ring.reset, inbound := Ring.reset, triplog := Ring.reset, flight := .none, buffer0 := .empty,
    buffer1 := .empty, stamp := 0, deposit := none, delivered := [], paused := true, pauseAt := 512, resumeAt := 1024,
    lastOut := ⟨.none, 0#16⟩ }

/-- R165. -/
def EmergencyUnit.reset : EmergencyUnit :=
  { state := .clear, number := 0#16, source := .switch, raisedAt := 0#32, ackedAt := 0#32, cancelledAt := 0#32,
    sends := 0#16, hold := none, repeatLeft := none, raiseResult := Result.reset, image := [], owed := false,
    causeWaits := false, guardHeld := false }

/-- R14; the phase of the flash timer: DESIGN CHOICE, log entry 4. -/
def StatusUnit.reset : StatusUnit :=
  { status := .offDuty, shiftOpen := false, shiftNumber := 0#16, driverId := 0#16, meterOpened := false,
    driverCopy := 0#16, zone := 0#8, firstCopy := ⟨0#16, 0#16⟩, secondCopy := ⟨0#16, 0#16⟩, pendingFirst := 0#32,
    position := none, lampMap := LampMap.default, alarmEnabled := false, flashOn := false, alarmOn := false,
    statusResult := Result.reset, shiftResult := Result.reset }

/-- The transaction of a read attempt (R180): the address byte 00h to the device at 50h, and after a repeated start 64 bytes, each
acknowledged but the last, and a stop. -/
def imageTransaction : List I2cStep :=
  [.start, .device 0x50#7 false, .write 0#8, .start, .device 0x50#7 true] ++ List.replicate 63 (.read true) ++ [.read false, .stop]

/-- R179, R180: LOADING with the first read attempt begun. -/
def PowerUnit.reset : PowerUnit :=
  { power := .active, park := false, parking := 0, reason := WakeReason.empty, ignition := false, result := Result.reset,
    startUp := .loading, faultReason := .none, failingItem := 0#8, recovery := .none, attempt := 1,
    transaction := imageTransaction, image := none }

/-- The part right after a power-on reset, with no command waiting and nothing listed in memory. -/
def State.reset : State :=
  { pending := [], mem := [], pins := Pins.reset, path := MemoryPath.reset, page := ControlPage.reset,
    link := LinkController.reset, radio := Transceiver.reset, sched := Scheduler.reset, offers := OfferEngine.reset,
    trips := TripEngine.reset, msgs := MessageEngine.reset, emerg := EmergencyUnit.reset, status := StatusUnit.reset,
    power := PowerUnit.reset }

end Sys2Proof.Machine
end

