-- ==== Sys2Proof/Machine/Ops.lean ====
section
/-! DEFINITION. The named operations over bytes, words and memory: byte order (R214), the two checks (R215, R216), the static RAM in its canonical form, and the transceiver's orders. -/

namespace Sys2Proof.Machine

/-! ## Bytes and words (R214) -/

/-- The lower byte of a word. -/
def Word.lower (w : Word) : Byte := w.setWidth 8
/-- The higher byte of a word. -/
def Word.upper (w : Word) : Byte := (w >>> 8).setWidth 8
/-- A word from its two bytes. -/
def Word.ofBytes (upper lower : Byte) : Word := upper ++ lower
/-- The lower half of a 32-bit value. -/
def DWord.lower (d : DWord) : Word := d.setWidth 16
/-- The higher half of a 32-bit value. -/
def DWord.upper (d : DWord) : Word := (d >>> 16).setWidth 16
/-- A 32-bit value from its two words. -/
def DWord.ofWords (upper lower : Word) : DWord := upper ++ lower

/-- A flag as a bit of a flag set, at position `n`. -/
def flagBit {w : Nat} (n : Nat) (b : Bool) : BitVec w := if b then 1#w <<< n else 0#w

/-- A 16-bit value in memory: the lower byte at the lower address. -/
def le16 (w : Word) : List Byte := [Word.lower w, Word.upper w]
/-- A 32-bit value in memory: the lower half in the lower-addressed word. -/
def le32 (d : DWord) : List Byte := le16 (DWord.lower d) ++ le16 (DWord.upper d)
/-- A 16-bit value on the air: most significant byte first. -/
def be16 (w : Word) : List Byte := [Word.upper w, Word.lower w]
/-- A 32-bit value on the air. -/
def be32 (d : DWord) : List Byte := be16 (DWord.upper d) ++ be16 (DWord.lower d)

/-- The bytes of a record followed by 0 bytes up to `n` of them. -/
def padTo (n : Nat) (l : List Byte) : List Byte := (l ++ List.replicate (n - l.length) 0#8).take n

/-- The words of a sequence of bytes in memory; a last odd byte is completed with 0. -/
def toWords : List Byte → List Word
  | [] => []
  | [b] => [Word.ofBytes 0#8 b]
  | b :: c :: rest => Word.ofBytes c b :: toWords rest

/-- The bytes of a sequence of words in memory. -/
def ofWords : List Word → List Byte
  | [] => []
  | w :: rest => le16 w ++ ofWords rest

/-- The least multiple of 4 that is `n` or more (R214: padding to a 4-byte boundary). -/
def roundUp4 (n : Nat) : Nat := (n + 3) / 4 * 4

/-! ## The checks -/

/-- One bit of the check's register: generator x^16 + x^12 + x^5 + 1 (R215). -/
def crcBit (r : Word) : Word := if r.msb then (r <<< 1) ^^^ 0x1021#16 else r <<< 1

/-- One byte into the check's register, most significant bit first (R215). -/
def crcByte (r : Word) (b : Byte) : Word :=
  crcBit (crcBit (crcBit (crcBit (crcBit (crcBit (crcBit (crcBit (r ^^^ (b.setWidth 16 <<< 8)))))))))

/-- The check of an air frame over its bytes; the register starts at FFFFh (R215). -/
def crc (bytes : List Byte) : Word := bytes.foldl crcByte 0xFFFF#16

/-- The sum modulo 65536 of words taken as unsigned 16-bit values (R216). -/
def wordSum (ws : List Word) : Word := ws.foldl (· + ·) 0#16

/-! ## The static RAM -/

/-- The byte at an address. -/
def Memory.read : List Host.Cell → Nat → Byte
  | [], _ => Config.ramFill
  | (b, v) :: rest, a => if b = a then v else Memory.read rest a

/-- Memory with one byte written, in canonical form. -/
def Memory.write : List Host.Cell → Nat → Byte → List Host.Cell
  | [], a, v => if v = Config.ramFill then [] else [(a, v)]
  | (b, w) :: rest, a, v =>
    if a < b then (if v = Config.ramFill then (b, w) :: rest else (a, v) :: (b, w) :: rest)
    else if a = b then (if v = Config.ramFill then rest else (a, v) :: rest)
    else (b, w) :: Memory.write rest a v

/-- The canonical form: addresses of the 1 MiB space, strictly rising, and no entry equal to what an unlisted address reads as. -/
def Memory.wf : List Host.Cell → Bool
  | [] => true
  | (a, v) :: rest => decide (a < 2 ^ 20) && decide (v ≠ Config.ramFill) && rest.all (fun c => decide (a < c.1)) && Memory.wf rest

/-- The byte address of a lane of a word: the lower lane BL0 at the even address (log entry 9). -/
def laneAddress (address : BitVec 19) (hi : Bool) : Nat := 2 * address.toNat + hi.toNat

/-- The word of memory at a word address. -/
def Memory.readWord (m : List Host.Cell) (address : BitVec 19) : Word :=
  Word.ofBytes (Memory.read m (laneAddress address true)) (Memory.read m (laneAddress address false))

/-- Memory with the given lanes of a word written. -/
def Memory.writeLanes (m : List Host.Cell) (address : BitVec 19) (lo hi : Option Byte) : List Host.Cell :=
  let m := match lo with
    | some b => Memory.write m (laneAddress address false) b
    | none => m
  match hi with
  | some b => Memory.write m (laneAddress address true) b
  | none => m

/-- The word address of an offset within the selected page (R186). -/
def pageAddress (asel : BitVec 4) (offset : Nat) : BitVec 19 := asel ++ BitVec.ofNat 15 (offset / 2)

/-! ## Lanes -/

/-- The word of which the written lanes carry the new bytes and the others the old ones. -/
def laneCombine (l : Lanes) (old new : Word) : Word :=
  Word.ofBytes (if l.hi then Word.upper new else Word.upper old) (if l.lo then Word.lower new else Word.lower old)

/-- The word as written, with 0 in a lane that the write did not cover (R151). -/
def laneMasked (l : Lanes) (data : Word) : Word := laneCombine l 0#16 data

/-- Some lane is covered. -/
def laneAny (l : Lanes) : Bool := l.lo || l.hi

/-! ## Timers -/

/-- A second has passed (R20). -/
def Timer.tick : Timer → Timer
  | some n => some (n - 1)
  | none => none

/-- The stated time has run. -/
def Timer.due (t : Timer) : Bool := t == some 0

/-- One cycle start of a wait counted in cycle starts. -/
def cycleTick : Option Nat → Option Nat
  | some n => some (n - 1)
  | none => none

/-! ## Start-up gate -/

/-- RESETn is high: the part works (R200). -/
def State.running (s : State) : Bool := !s.path.inReset

/-- The part works and start-up is READY (R184). -/
def State.ready (s : State) : Bool := s.running && s.power.startUp == .ready

/-! ## Orders to the transceiver (R16) -/

/-- An order taking effect. -/
def Transceiver.apply (r : Transceiver) : Order → Transceiver
  | .tune c => { r with channel := c }
  | .listen => { r with receiverOn := true }
  | .off => { r with receiverOn := false }
  | .send _ _ => r

/-- An order given: it goes out on serial data out; a TUNE or OFF given while a frame is being sent, and a LISTEN behind one,
takes effect at the end of that frame. -/
def Transceiver.give (r : Transceiver) (o : Order) : Transceiver :=
  let r := { r with output := r.output ++ [LinkOutput.order o] }
  if r.sending.isSome && (o != .listen || !r.deferred.isEmpty) then { r with deferred := r.deferred ++ [o] } else r.apply o

/-- The end of the frame being sent: the orders given meanwhile take effect. -/
def Transceiver.endSend (r : Transceiver) : Transceiver :=
  r.deferred.foldl Transceiver.apply { r with sending := none, deferred := [] }

/-- A frame begins to be sent in a slot. -/
def Transceiver.beginSend (r : Transceiver) (name : FrameName) (via : Via) (slot : Nat) (frame : List Byte) : Transceiver :=
  { r with sending := some ⟨name, via, true⟩, output := r.output ++ [LinkOutput.order (.send (BitVec.ofNat 8 slot) frame)] }

/-- The named frame, if it is the one being sent, has left its place or list. -/
def Transceiver.leave (r : Transceiver) (name : FrameName) : Transceiver :=
  match r.sending with
  | some f => if f.name = name then { r with sending := some { f with live := false } } else r
  | none => r

/-- Each of the named frames has left its place or list. -/
def Transceiver.leaveAll (r : Transceiver) (names : List FrameName) : Transceiver := names.foldl Transceiver.leave r

end Sys2Proof.Machine
end

