-- ==== Sys2Proof/Machine/Flags.lean ====
section
/-! DEFINITION. Attention causes, the enable set, ATTN and the counters (chapter 10). -/

namespace Sys2Proof.Machine

/-- The position of a cause (R219). -/
def Cause.bit : Cause → Nat
  | .offerNew => 0 | .offerChange => 1 | .msgIn => 2 | .msgOutDone => 3 | .tripClosed => 4 | .reportDone => 5
  | .emergency => 6 | .link => 7 | .power => 8 | .refused => 9 | .guard => 10 | .illegal => 11 | .meter => 12

/-- The set that holds one cause. -/
def Cause.mask (c : Cause) : BitVec 13 := 1#13 <<< c.bit

/-- The evaluation of attention (R211): when the flag is clear and a cause is both set and enabled, the flag is set and ATTN
is asserted; otherwise nothing changes. -/
def State.evaluateAttention (s : State) : State :=
  if !s.page.busy && (s.page.causes &&& s.page.enables) != 0#13 then
    { s with
      page := { s.page with busy := true, assertions := s.page.assertions + 1 },
      pins := { s.pins with attn := true } }
  else s

/-- A cause is raised (R208), and attention is evaluated (R211). -/
def State.raise (c : Cause) (s : State) : State :=
  State.evaluateAttention { s with page := { s.page with causes := s.page.causes ||| c.mask } }

/-- Several causes are raised. -/
def State.raiseAll : List Cause → State → State
  | [], s => s
  | c :: rest, s => State.raiseAll rest (s.raise c)

/-- A write of the attention clear field (R209): the causes whose positions hold a one in the written lanes become clear. -/
def State.clearCauses (lanes : Lanes) (data : Word) (s : State) : State :=
  { s with page := { s.page with causes := s.page.causes &&& ~~~((laneMasked lanes data).setWidth 13) } }

/-- A write of the attention enable field (R210). -/
def State.enableCauses (lanes : Lanes) (data : Word) (s : State) : State :=
  let w := laneCombine lanes s.page.enableCopy data
  State.evaluateAttention { s with page := { s.page with enableCopy := w, enables := w.setWidth 13 } }

/-- A write of the attention done field (R212). -/
def State.attentionDone (s : State) : State :=
  if s.page.busy then
    State.evaluateAttention
      { s with page := { s.page with busy := false }, pins := { s.pins with attn := false } }
  else s

/-- The value of a counter. -/
def Counters.get (k : Counters) : Counter → Word
  | .beaconsMissed => k.beaconsMissed
  | .checkErrors => k.checkErrors
  | .contentionFails => k.contentionFails
  | .offersMissed => k.offersMissed
  | .messagesDropped => k.messagesDropped
  | .guardHits => k.guardHits

/-- The counters with one of them set. -/
def Counters.set (k : Counters) (c : Counter) (v : Word) : Counters :=
  match c with
  | .beaconsMissed => { k with beaconsMissed := v }
  | .checkErrors => { k with checkErrors := v }
  | .contentionFails => { k with contentionFails := v }
  | .offersMissed => { k with offersMissed := v }
  | .messagesDropped => { k with messagesDropped := v }
  | .guardHits => { k with guardHits := v }

/-- A counted event (R207): the counter gains 1 and stays at 65535. -/
def State.count (c : Counter) (s : State) : State :=
  { s with page := { s.page with counters := s.page.counters.set c (satAdd (s.page.counters.get c) 1#16) } }

/-- The clearing that a read of a counter's word makes (R207). -/
def State.clearCounter (c : Counter) (s : State) : State :=
  { s with page := { s.page with counters := s.page.counters.set c 0#16 } }

end Sys2Proof.Machine
end

