-- ==== Sys2Proof/Machine/Layout.lean ====
section
/-! DEFINITION. The codes of states, requests and outcomes (R219) and the layouts of the records in the cab area and of the configuration image (R217 to R224). -/

namespace Sys2Proof.Machine

/-! ## Codes (R219) -/

def CabStatus.code : CabStatus → Byte
  | .offDuty => 0#8 | .free => 1#8 | .assigned => 2#8 | .hired => 3#8 | .onBreak => 4#8

def PowerState.code : PowerState → Byte
  | .active => 0#8 | .parking => 1#8 | .standby => 2#8 | .sleep => 3#8

def RingState.code : RingState → Byte
  | .closed => 0#8 | .open => 1#8 | .closing => 2#8

def Outcome.code : Outcome → Byte
  | .none => 0#8 | .taken => 1#8 | .pending => 2#8 | .notValid => 3#8 | .notAllowed => 4#8 | .busy => 5#8
  | .tooLate => 6#8 | .noShift => 7#8 | .emergency => 8#8 | .openTrip => 9#8 | .hired => 10#8 | .size => 11#8
  | .align => 12#8 | .outside => 13#8 | .overlap => 14#8 | .pointers => 15#8

def LinkState.code : LinkState → Byte
  | .off => 0#8 | .quiet => 1#8 | .hunt => 2#8 | .join => 3#8 | .joined => 4#8

def StartUp.code : StartUp → Byte
  | .loading => 0#8 | .recovering => 1#8 | .ready => 2#8 | .configFault => 3#8

def FaultReason.code : FaultReason → Byte
  | .none => 0#8 | .noImage => 1#8 | .check => 2#8 | .range => 3#8

def Recovery.code : Recovery → Byte
  | .none => 0#8 | .notValid => 1#8 | .clear => 2#8 | .resumed => 3#8

def EmergencyState.code : EmergencyState → Byte
  | .clear => 0#8 | .alerting => 1#8 | .acked => 2#8 | .pressed => 3#8

def Source.code : Source → Byte
  | .switch => 1#8 | .terminal => 2#8 | .recovered => 3#8

def OfferState.code : OfferState → Byte
  | .empty => 0#8 | .live => 1#8 | .bidding => 2#8 | .awarded => 3#8 | .declined => 4#8 | .lapsed => 5#8
  | .lost => 6#8 | .withdrawn => 7#8 | .noAward => 8#8

def OutOutcome.code : OutOutcome → Byte
  | .none => 0#8 | .delivered => 1#8 | .failed => 2#8 | .rejected => 3#8

def BidCode.code : BidCode → Byte
  | .accept => 1#8 | .decline => 2#8 | .return => 3#8

def FlowCode.code : FlowCode → Byte
  | .pause => 1#8 | .resume => 2#8

/-- Destination kinds. -/
def destCab : Byte := 1#8
def destZone : Byte := 2#8
def destFleet : Byte := 3#8
def destSite : Byte := 4#8

/-- Request words (R219). -/
def codeFree : Word := 1#16
def codeBreak : Word := 2#16
def codeClose : Word := 1#16
def codeCloseTrip : Word := 2#16
def codeActive : Word := 0#16
def codeStandby : Word := 2#16
def codeSleep : Word := 3#16
def codeRingOpen : Word := 1#16
def codeRingClose : Word := 2#16
/-- Response codes (R219). -/
def codeAccept : Byte := 1#8
def codeDecline : Byte := 2#8
def codeRelease : Byte := 3#8

/-- The abilities of a site: TEXT, FARE, WAKE in bits 0 to 2 (R219). -/
def hasText (abilities : Byte) : Bool := abilities.getLsbD 0
def hasFare (abilities : Byte) : Bool := abilities.getLsbD 1

/-- The trip flags as a byte (R219). -/
def TripFlags.code (f : TripFlags) : Byte :=
  flagBit 0 f.emergency ||| flagBit 1 f.meterFault ||| flagBit 2 f.interrupted ||| flagBit 3 f.mismatch |||
    flagBit 4 f.forcedClose ||| flagBit 5 f.overflow

/-! ## The offer table entry (R220) -/

/-- The 128 bytes of an entry's image. -/
def OfferEntry.bytes (e : OfferEntry) : List Byte :=
  padTo 128
    ([e.state.code, e.seq, e.dest, e.zone] ++ le32 e.job ++
      [e.mask, flagBit 0 e.fare.isSome ||| flagBit 1 e.forced ||| flagBit 2 e.late, BitVec.ofNat 8 e.text.length, 0#8] ++
      le32 e.received ++ le32 e.expires ++ le32 (e.fare.getD 0#32) ++ le16 e.response ++
      [e.result.code, e.result.token, e.result.outcome.code, 0#8, 0#8, 0#8] ++ e.text.take 64)

/-- The 64 words of an entry's image. -/
def OfferEntry.image (e : OfferEntry) : List Word := toWords e.bytes

/-! ## The emergency record (R221) -/

/-- The marker word. -/
def emergencyMarker : Word := 0xE5E5#16

/-- The state that the record shows: PRESSED is never written (R159). -/
def EmergencyState.recorded : EmergencyState → EmergencyState
  | .clear => .clear
  | .pressed => .clear
  | .alerting => .alerting
  | .acked => .acked

/-- The 64 words of the emergency record, check word included (R159, R216, R221). -/
def emergencyImage (e : EmergencyUnit) (zone : Byte) (position : Position) : List Word :=
  let (first, second) := position.getD (0#32, 0#32)
  let body := toWords (padTo 126
    (le16 emergencyMarker ++ le16 (e.state.recorded.code.setWidth 16) ++ le16 e.number ++ le16 (e.source.code.setWidth 16) ++
      le32 e.raisedAt ++ le32 e.ackedAt ++ le32 e.cancelledAt ++ le16 e.sends ++
      [zone, flagBit 0 position.isSome] ++ le32 first ++ le32 second))
  body ++ [wordSum body]

/-- A word of a record read back. -/
def wordAt (ws : List Word) (offset : Nat) : Word := ws.getD (offset / 2) 0#16

/-- A 32-bit field of a record read back. -/
def dwordAt (ws : List Word) (offset : Nat) : DWord := DWord.ofWords (wordAt ws (offset + 2)) (wordAt ws offset)

/-! ## The totals block (R222) -/

/-- The bytes of the totals, from offset 0 to the end of the close time. -/
def Totals.bytes (t : Totals) (closeTime : DWord) : List Byte :=
  le16 t.shiftNumber ++ le16 t.driverId ++ [flagBit 0 t.meterOpened, 0#8, 0#8, 0#8] ++ le32 t.openTime ++
    le16 t.tripsClosed ++ le16 t.tripsWithJob ++ le16 t.tripsWithEmergency ++ le16 t.mismatches ++ le16 t.meterFaults ++
    le16 t.reportsAcknowledged ++ le16 t.reportsInList ++ le16 t.reportsAbandoned ++ le16 t.tripsNotLogged ++ [0#8, 0#8] ++
    le32 t.fareTotal ++ le32 t.groupTotals.g0 ++ le32 t.groupTotals.g1 ++ le32 t.groupTotals.g2 ++ le32 t.groupTotals.g3 ++
    le32 t.ungroupedTotal ++ le32 t.extrasTotal ++ le32 t.hiredSeconds ++ le32 closeTime

/-- The 64 words of the totals block. -/
def Totals.image (t : Totals) (closeTime : DWord) : List Word := toWords (padTo 128 (t.bytes closeTime))

/-! ## The meter field (R97, R218) -/

/-- The seven words of the meter field. -/
def meterWords (t : TripEngine) : List Word :=
  match t.trip with
  | some o =>
    toWords ([flagBit 0 true, ((o.tariffs.getLast?.map (·.tariff)).getD 0#8)] ++ le16 o.ref.shift ++ le16 o.ref.trip ++
      le32 o.stepSum ++ le16 o.stepCount ++ [o.flags.code, t.lastFault])
  | none =>
    toWords ([0#8, 0#8] ++ le16 t.lastRef.shift ++ le16 t.lastRef.trip ++ le32 0#32 ++ le16 0#16 ++ [0#8, t.lastFault])

/-! ## Ring records (R223) -/

/-- The four 8-byte entries of a trip record's tariff list. -/
def tariffBytes : Nat → List TariffEntry → List Byte
  | 0, _ => []
  | n + 1, [] => List.replicate 8 0#8 ++ tariffBytes n []
  | n + 1, e :: rest => [e.tariff, 0#8, 0#8, 0#8] ++ le32 e.time ++ tariffBytes n rest

/-- The 96 bytes of a closed trip record. -/
def TripRecord.bytes (r : TripRecord) : List Byte :=
  [0x20#8, r.flags.code] ++ le16 r.ref.shift ++ le16 r.ref.trip ++ le16 r.driverId ++ le32 (r.job.getD 0#32) ++
    [flagBit 0 r.job.isSome ||| flagBit 1 r.forced ||| flagBit 2 r.meterOpened, r.faultCode] ++ le16 r.stepCount ++
    le32 r.startTime ++ le32 r.closeTime ++ le32 r.duration ++ [BitVec.ofNat 8 r.tariffs.length, 0#8, 0#8, 0#8] ++
    tariffBytes 4 r.tariffs ++ le32 r.groups.g0 ++ le32 r.groups.g1 ++ le32 r.groups.g2 ++ le32 r.groups.g3 ++
    le32 r.ungrouped ++ le32 r.stepSum ++ le32 r.fare ++ le32 r.extras

/-- The texts received, joined in index order (R141). -/
def joinParts : List (Option (List Byte)) → List Byte
  | [] => []
  | some t :: rest => t ++ joinParts rest
  | none :: rest => joinParts rest

/-- The received-index set, bits 0 to 4, from the given bit on. -/
def partBits : Nat → List (Option (List Byte)) → Word
  | _, [] => 0#16
  | n, p :: rest => flagBit n p.isSome ||| partBits (n + 1) rest

/-- The bytes of an inbound record, padded to a 4-byte boundary (R141, R223). -/
def InMessage.bytes (m : InMessage) : List Byte :=
  let text := joinParts m.parts
  padTo (16 + roundUp4 text.length)
    ([0x10#8, flagBit 0 m.urgent ||| flagBit 1 m.ackRequired ||| flagBit 2 m.truncated] ++ le16 m.tag ++
      le16 (partBits 0 m.parts) ++ le16 (BitVec.ofNat 16 text.length) ++ le32 m.closeTime ++ [0#8, 0#8, 0#8, 0#8] ++ text)

/-! ## The configuration image (R181, R224) -/

/-- A byte of the image. -/
def imageByte (b : List Byte) (offset : Nat) : Byte := b.getD offset 0#8
/-- A word of the image. -/
def imageWord (b : List Byte) (offset : Nat) : Word := Word.ofBytes (imageByte b (offset + 1)) (imageByte b offset)

/-- The group that a component byte names; 0Fh is NONE; any other value is out of range. -/
def componentOf (b : Byte) : Option (Option (Fin 4)) :=
  if b = 0#8 then some (some 0) else if b = 1#8 then some (some 1) else if b = 2#8 then some (some 2)
  else if b = 3#8 then some (some 3) else if b = 0x0F#8 then some none else none

/-- The setting that a lamp byte names; any other value is out of range. -/
def lampOf (b : Byte) : Option Lamp :=
  if b = 0#8 then some .off else if b = 1#8 then some .on else if b = 2#8 then some .flash else none

/-- The pair of settings at an offset of the image. -/
def lampPairOf (b : List Byte) (offset : Nat) : Option LampPair :=
  match lampOf (imageByte b offset), lampOf (imageByte b (offset + 1)) with
  | some h, some c => some ⟨h, c⟩
  | _, _ => none

/-- The lamp map of the image, when every byte of it is in range. -/
def lampMapOf (b : List Byte) : Option LampMap :=
  match lampPairOf b 0x26, lampPairOf b 0x28, lampPairOf b 0x2A, lampPairOf b 0x2C, lampPairOf b 0x2E with
  | some o, some f, some a, some h, some k => some ⟨o, f, a, h, k⟩
  | _, _, _, _, _ => none

/-- The component map of the image, when every byte of it is in range. -/
def componentsOf : List Byte → Option (List (Option (Fin 4)))
  | [] => some []
  | b :: rest =>
    match componentOf b, componentsOf rest with
    | some c, some cs => some (c :: cs)
    | _, _ => none

/-- The used channel numbers of the image. -/
def channelsOf (b : List Byte) : Nat → Nat → List Word
  | _, 0 => []
  | offset, n + 1 => imageWord b offset :: channelsOf b (offset + 2) n

/-- What the judging of a complete image finds (R181). -/
inductive ImageJudgment where
  | checkFails
  | outOfRange (item : Byte)
  | good (image : ConfigImage)
  deriving DecidableEq, Repr

/-- The judging of a complete image (R181): the check word first, then each item in the order of the image table. -/
def judgeImage (b : List Byte) : ImageJudgment :=
  let ws := toWords b
  let cab := imageWord b 0
  let fleet := imageByte b 2
  let count := (imageByte b 4).toNat
  let channels := channelsOf b 6 count
  let p := (imageWord b 0x30).toNat
  let q := (imageWord b 0x32).toNat
  if imageWord b 0x3E ≠ wordSum (ws.take 31) then .checkFails
  else if cab = 0#16 ∨ cab = 0xFFFF#16 then .outOfRange 1#8
  else if fleet = 0#8 ∨ fleet = 0xFF#8 then .outOfRange 2#8
  else if count < 1 ∨ 8 < count then .outOfRange 4#8
  else if channels.any (fun c => decide (1023 < c.toNat)) then .outOfRange 5#8
  else
    match componentsOf ((b.drop 0x16).take 16) with
    | none => .outOfRange 6#8
    | some components =>
      match lampMapOf b with
      | none => .outOfRange 7#8
      | some lampMap =>
        if 1 < (imageByte b 5).toNat then .outOfRange 8#8
        else if ¬(p = 0 ∧ q = 0) ∧ ¬(p < q ∧ q ≤ 8192 ∧ p ≤ 8192) then .outOfRange 9#8
        else .good
          { cab, fleet, classFlags := imageByte b 3, channels, components, lampMap,
            alarmFlash := imageByte b 5 == 1#8,
            pauseAt := if p = 0 ∧ q = 0 then 512 else p,
            resumeAt := if p = 0 ∧ q = 0 then 1024 else q }

end Sys2Proof.Machine
end

