-- ==== Sys2Proof/Machine/Frames.lean ====
section
/-! DEFINITION. The air frames: the uplink frames the part sends (R225), the decoding and the filter of downlink frames (R17, R33, R34, R215), and the meter link's messages (R93, R226). -/

namespace Sys2Proof.Machine

/-! ## What the frames carry -/

/-- The emergency flag: set while the emergency state is ALERTING or ACKED (R11). -/
def EmergencyState.raised : EmergencyState → Bool
  | .clear => false
  | .pressed => false
  | .alerting => true
  | .acked => true

/-- The current values of all items of the status report (R11). -/
def State.statusReport (s : State) : StatusReport :=
  { status := s.status.status, shiftNumber := s.status.shiftNumber, meterOpened := s.status.meterOpened,
    driverId := s.status.driverId, emergency := s.emerg.state.raised, zone := s.status.zone,
    position := s.status.position, paused := s.msgs.paused, park := s.power.park }

/-- Both coordinates, most significant byte first, when the position is present. -/
def Position.bytes : Position → List Byte
  | some (a, b) => be32 a ++ be32 b
  | none => []

/-- The site number of the site joined or being joined. -/
def State.uplinkSite (s : State) : Word :=
  match s.link.site, s.link.joining with
  | some r, _ => r.site
  | none, some c => c.site
  | none, none => 0#16

/-- An uplink frame: 8-byte header, body and check (R225). -/
def State.uplinkFrame (s : State) (kind : Byte) (body : List Byte) : List Byte :=
  let fleet := (s.power.image.map (·.fleet)).getD 0#8
  let cab := (s.power.image.map (·.cab)).getD 0#16
  let frame := [kind, fleet] ++ be16 s.uplinkSite ++ be16 cab ++ be16 (BitVec.ofNat 16 body.length) ++ body
  frame ++ be16 (crc frame)

/-- The JOIN frame (R27). -/
def State.joinFrame (s : State) : List Byte :=
  s.uplinkFrame 0x21#8
    ([(s.power.image.map (·.classFlags)).getD 0#8, s.status.status.code] ++ be16 s.status.driverId ++
      [flagBit 0 s.emerg.state.raised])

/-- The ALERT frame (R153). -/
def State.alertFrame (s : State) (a : AlertFrame) : List Byte :=
  s.uplinkFrame 0x22#8
    (be16 a.number ++ [a.source.code, s.status.status.code,
      flagBit 0 s.trips.trip.isSome ||| flagBit 1 s.status.position.isSome, s.status.zone] ++ Position.bytes s.status.position)

/-- The ACK frame (R46). -/
def State.ackFrame (s : State) (tag : Word) : List Byte := s.uplinkFrame 0x23#8 (be16 tag)

/-- The BID frame (R84). -/
def State.bidFrame (s : State) (b : Bid) : List Byte := s.uplinkFrame 0x24#8 (be32 b.job ++ [b.code.code])

/-- The FLOW frame (R48). -/
def State.flowFrame (s : State) (c : FlowCode) : List Byte := s.uplinkFrame 0x25#8 [c.code]

/-- The SLOT_REQUEST frame with the count of long frames (R59). -/
def State.slotRequestFrame (s : State) (count : Nat) : List Byte := s.uplinkFrame 0x26#8 [BitVec.ofNat 8 count]

/-- The STATUS frame (R11, R48). -/
def State.statusFrame (s : State) (r : StatusReport) : List Byte :=
  s.uplinkFrame 0x27#8
    ([r.status.code, flagBit 0 r.meterOpened ||| flagBit 1 r.emergency ||| flagBit 2 r.position.isSome |||
      flagBit 3 r.paused ||| flagBit 4 r.park] ++ be16 r.shiftNumber ++ be16 r.driverId ++ [r.zone] ++ Position.bytes r.position)

/-- Four tariff bytes, unused ones 0. -/
def tariffCodes : Nat → List TariffEntry → List Byte
  | 0, _ => []
  | n + 1, [] => 0#8 :: tariffCodes n []
  | n + 1, e :: rest => e.tariff :: tariffCodes n rest

/-- The FARE frame with its send number (R106, R111). -/
def State.fareFrame (s : State) (send : Nat) (r : TripRecord) : List Byte :=
  s.uplinkFrame 0x28#8
    ([BitVec.ofNat 8 send] ++ be16 r.ref.shift ++ be16 r.ref.trip ++ be16 r.driverId ++
      [r.flags.code, flagBit 0 r.job.isSome ||| flagBit 1 r.forced ||| flagBit 2 r.meterOpened] ++ be32 (r.job.getD 0#32) ++
      [r.faultCode] ++ be32 r.startTime ++ be32 r.closeTime ++ be32 r.duration ++ [BitVec.ofNat 8 r.tariffs.length] ++
      tariffCodes 4 r.tariffs ++ be32 r.groups.g0 ++ be32 r.groups.g1 ++ be32 r.groups.g2 ++ be32 r.groups.g3 ++
      be32 r.ungrouped ++ be32 r.stepSum ++ be32 r.fare ++ be32 r.extras)

/-- The SHIFT frame with its send number: the totals in offset order, each of its own width, the meter-opened flag in one byte
(R118, R225, log entry 24). -/
def State.shiftFrame (s : State) (send : Nat) (c : ClosedTotals) : List Byte :=
  let t := c.totals
  s.uplinkFrame 0x29#8
    ([BitVec.ofNat 8 send] ++ be16 t.shiftNumber ++ be16 t.driverId ++ [flagBit 0 t.meterOpened] ++ be32 t.openTime ++
      be16 t.tripsClosed ++ be16 t.tripsWithJob ++ be16 t.tripsWithEmergency ++ be16 t.mismatches ++ be16 t.meterFaults ++
      be16 t.reportsAcknowledged ++ be16 t.reportsInList ++ be16 t.reportsAbandoned ++ be16 t.tripsNotLogged ++
      be32 t.fareTotal ++ be32 t.groupTotals.g0 ++ be32 t.groupTotals.g1 ++ be32 t.groupTotals.g2 ++
      be32 t.groupTotals.g3 ++ be32 t.ungroupedTotal ++ be32 t.extrasTotal ++ be32 t.hiredSeconds ++ be32 c.closeTime)

/-- The text that fragment `i` of an outbound message carries (R132). -/
def OutMessage.fragment (m : OutMessage) (i : Nat) : List Byte := (m.text.drop (40 * i)).take 40

/-- The TEXT frame of one fragment (R133). -/
def State.textFrame (s : State) (m : OutMessage) (i : Nat) : List Byte :=
  s.uplinkFrame 0x2A#8
    (be16 m.tag ++ [BitVec.ofNat 8 i, BitVec.ofNat 8 m.fragments, m.kind, flagBit 0 m.urgent,
      BitVec.ofNat 8 (m.fragment i).length] ++ m.fragment i)

/-! ## Serial data out -/

/-- An order as its order byte and its parameters, most significant byte first (R227). -/
def Order.bytes : Order → List Byte
  | .tune c => 0x01#8 :: be16 c
  | .listen => [0x02#8]
  | .off => [0x03#8]
  | .send slot frame => [0x04#8, slot] ++ be16 (BitVec.ofNat 16 frame.length) ++ frame

/-- The bytes that an output puts on serial data out; a slot mark goes out on its own line (R16). -/
def LinkOutput.bytes : LinkOutput → List Byte
  | .order o => o.bytes
  | .slotMark _ => []

/-- The bytes that the part has put on serial data out, oldest first (log entry 22). -/
def Transceiver.serialOut (r : Transceiver) : List Byte := r.output.flatMap LinkOutput.bytes

/-! ## Downlink frames -/

/-- A downlink frame of a known kind, as its body is laid out (R225). -/
inductive DownBody where
  | beacon (b : BeaconBody)
  | grantJoin (slot period phase : Byte)
  | grantLong (cycle : Word) (start count : Byte)
  | deny (reason : Byte)
  | rejoin
  | offer (b : OfferBody)
  | award (b : OfferBody)
  | lost (job : DWord)
  | withdraw (job : DWord)
  | text (b : TextBody)
  | ackOfText (tag : Word)
  | ackOfFare (reference : TripRef)
  | ackOfShift (shift : Word)
  | alertAck (number : Word)
  | alertCancel (number : Word)
  | wake (cabs : List Word)
  deriving DecidableEq, Repr

/-- A word sent most significant byte first. -/
def airWord (b : List Byte) (offset : Nat) : Word := Word.ofBytes (b.getD offset 0#8) (b.getD (offset + 1) 0#8)
/-- A 32-bit value sent most significant byte first. -/
def airDWord (b : List Byte) (offset : Nat) : DWord := DWord.ofWords (airWord b offset) (airWord b (offset + 2))

/-- A list of words from an offset on. -/
def airWords (b : List Byte) : Nat → Nat → List Word
  | _, 0 => []
  | offset, n + 1 => airWord b offset :: airWords b (offset + 2) n

/-- The body of an OFFER or AWARD, when its inner count agrees with its length (R33). -/
def decodeOffer (b : List Byte) : Option OfferBody :=
  if b.length < 12 then none
  else if b.length ≠ 12 + (b.getD 11 0#8).toNat then none
  else some ⟨airDWord b 0, b.getD 4 0#8, b.getD 5 0#8, b.getD 6 0#8, airDWord b 7, b.drop 12⟩

/-- The body of a frame by its kind, when its inner counts agree with its length; a kind, a grant kind or an ack kind that
R225 does not list gives none (R33). Bytes behind a body that has no inner count are ignored (R214); a body too short for its
fields gives none (log entry 44). -/
def decodeBody (kind : Byte) (b : List Byte) : Option DownBody :=
  let n := b.length
  match kind.toNat with
  | 0x01 =>
    if 9 ≤ n ∧ n = 9 + 2 * (b.getD 8 0#8).toNat then
      some (.beacon ⟨airWord b 0, airDWord b 2, b.getD 6 0#8, b.getD 7 0#8, airWords b 9 (b.getD 8 0#8).toNat⟩)
    else none
  | 0x02 =>
    match (b.getD 0 0#8).toNat with
    | 1 => if 4 ≤ n then some (.grantJoin (b.getD 1 0#8) (b.getD 2 0#8) (b.getD 3 0#8)) else none
    | 2 => if 5 ≤ n then some (.grantLong (airWord b 1) (b.getD 3 0#8) (b.getD 4 0#8)) else none
    | _ => none
  | 0x03 => if 1 ≤ n then some (.deny (b.getD 0 0#8)) else none
  | 0x04 => some .rejoin
  | 0x05 => (decodeOffer b).map .offer
  | 0x06 => (decodeOffer b).map .award
  | 0x07 => if 4 ≤ n then some (.lost (airDWord b 0)) else none
  | 0x08 => if 4 ≤ n then some (.withdraw (airDWord b 0)) else none
  | 0x09 =>
    if 6 ≤ n ∧ n = 6 + (b.getD 5 0#8).toNat then
      some (.text ⟨airWord b 0, b.getD 2 0#8, b.getD 3 0#8, b.getD 4 0#8, b.drop 6⟩)
    else none
  | 0x0A =>
    match (b.getD 0 0#8).toNat with
    | 1 => if 3 ≤ n then some (.ackOfText (airWord b 1)) else none
    | 2 => if 5 ≤ n then some (.ackOfFare ⟨airWord b 1, airWord b 3⟩) else none
    | 3 => if 3 ≤ n then some (.ackOfShift (airWord b 1)) else none
    | _ => none
  | 0x0B => if 2 ≤ n then some (.alertAck (airWord b 0)) else none
  | 0x0C => if 2 ≤ n then some (.alertCancel (airWord b 0)) else none
  | 0x0D => if 12 ≤ n then some (.wake (airWords b 0 6)) else none
  | _ => none

/-- What the check of a delivered frame finds (R17, R215): damaged, sound but of no known form, or a frame. -/
inductive Received where
  | damaged
  | unknown
  | frame (header : DownHeader) (body : DownBody)
  deriving DecidableEq, Repr

/-- The check of a delivered frame and the reading of its header and body (R17, R215, R225). -/
def decodeFrame (bytes : List Byte) : Received :=
  let n := bytes.length
  if n < 12 then .damaged
  else if airWord bytes (n - 2) ≠ crc (bytes.take (n - 2)) then .damaged
  else if (airWord bytes 8).toNat + 12 ≠ n then .damaged
  else
    match decodeBody (bytes.getD 0 0#8) ((bytes.drop 10).take (n - 12)) with
    | some body => .frame ⟨bytes.getD 1 0#8, airWord bytes 2, bytes.getD 4 0#8, bytes.getD 5 0#8, airWord bytes 6⟩ body
    | none => .unknown

/-- The destination kinds that a frame's kind accepts (R35): to the cab alone, to the cab, a zone or the fleet, or to the site. -/
inductive Accepts where
  | cab | any | site
  deriving DecidableEq, Repr

def DownBody.accepts : DownBody → Accepts
  | .beacon _ => .site
  | .grantJoin _ _ _ => .cab
  | .grantLong _ _ _ => .cab
  | .deny _ => .cab
  | .rejoin => .any
  | .offer _ => .any
  | .award _ => .cab
  | .lost _ => .any
  | .withdraw _ => .any
  | .text _ => .any
  | .ackOfText _ => .cab
  | .ackOfFare _ => .cab
  | .ackOfShift _ => .cab
  | .alertAck _ => .cab
  | .alertCancel _ => .cab
  | .wake _ => .cab

/-- Every flag of the frame's class mask is among the cab's class flags (R34). -/
def State.classPasses (s : State) (mask : Byte) : Bool :=
  (mask &&& ~~~((s.power.image.map (·.classFlags)).getD 0#8)) == 0#8

/-- The destination filter together with the destination kinds that the frame's kind accepts (R33, R34, R35). -/
def State.destinationPasses (s : State) (h : DownHeader) (a : Accepts) : Bool :=
  if h.dest = destCab then
    match a with
    | .cab => h.value != 0#16 && h.value != 0xFFFF#16 && some h.value == s.power.image.map (·.cab)
    | .any => h.value != 0#16 && (h.value == 0xFFFF#16 || some h.value == s.power.image.map (·.cab))
    | .site => false
  else if h.dest = destZone then
    a == .any && s.status.zone != 0#8 && h.value == s.status.zone.setWidth 16 && s.classPasses h.mask
  else if h.dest = destFleet then a == .any && s.classPasses h.mask
  else if h.dest = destSite then a == .site
  else false

/-- The site being tracked: the site joined, or the candidate's site while joining (R33). -/
def State.trackedSite (s : State) : Option Word :=
  match s.link.state with
  | .joined => s.link.site.map (·.site)
  | .join => s.link.joining.map (·.site)
  | .off => none
  | .quiet => none
  | .hunt => none

/-- The link states in which a frame is routed (R35). -/
def DownBody.routedIn (b : DownBody) (l : LinkState) : Bool :=
  match b with
  | .beacon _ => l != .off
  | .grantJoin _ _ _ => l == .join
  | .deny _ => l == .join
  | .rejoin => l == .joined
  | .grantLong _ _ _ => l == .joined
  | .offer _ => l == .joined
  | .award _ => l == .joined
  | .lost _ => l == .joined
  | .withdraw _ => l == .joined
  | .text _ => l == .joined
  | .ackOfText _ => l == .joined
  | .ackOfFare _ => l == .joined
  | .ackOfShift _ => l == .joined
  | .alertAck _ => l == .joined
  | .alertCancel _ => l == .joined
  | .wake _ => l == .joined

/-- The kinds that pass in the power state: all in ACTIVE and PARKING, BEACON and WAKE in STANDBY, none in SLEEP (R36). -/
def DownBody.passesPower (b : DownBody) (p : PowerState) : Bool :=
  match p with
  | .active => true
  | .parking => true
  | .standby => match b with
    | .beacon _ => true
    | .wake _ => true
    | _ => false
  | .sleep => false

/-- A beacon carries the number of the tracked site where one is tracked (R18, R30); any other frame must come from it (R33). -/
def State.sitePasses (s : State) (h : DownHeader) (b : DownBody) : Bool :=
  match s.trackedSite, b with
  | some n, _ => h.site == n
  | none, .beacon _ => true
  | none, _ => false

/-- A frame that passed the check is handed to its owner: the fleet, site, destination and power filters pass, and the link state
routes its kind (R33 to R36). -/
def State.hears (s : State) (h : DownHeader) (b : DownBody) : Bool :=
  s.ready && s.link.state != .off && some h.fleet == s.power.image.map (·.fleet) && b.passesPower s.power.power &&
    s.sitePasses h b && s.destinationPasses h b.accepts && b.routedIn s.link.state

/-! ## Meter messages -/

/-- A well-formed meter message (section 5.1). -/
inductive MeterMessage where
  | hire (tariff : Byte)
  | step (component : Byte) (amount : Word)
  | tariff (tariff : Byte)
  | stop (fare : DWord)
  | fault (code : Byte)
  | alive
  deriving DecidableEq, Repr

/-- The fields of a message are within the ranges of the table of section 5.1 (R93). -/
def MeterMessage.inRange : MeterMessage → Bool
  | .hire t => decide (1 ≤ t.toNat) && decide (t.toNat ≤ 8)
  | .step c a => decide (c.toNat ≤ 15) && decide (1 ≤ a.toNat)
  | .tariff t => decide (1 ≤ t.toNat) && decide (t.toNat ≤ 8)
  | .stop _ => true
  | .fault c => decide (1 ≤ c.toNat)
  | .alive => true

/-- The fields by the kind byte, with the number of field bytes that the kind requires (R226). -/
def decodeMeterFields (kind : Byte) (f : List Byte) : Option MeterMessage :=
  match kind.toNat with
  | 0x01 => if f.length = 1 then some (.hire (f.getD 0 0#8)) else none
  | 0x02 => if f.length = 3 then some (.step (f.getD 0 0#8) (airWord f 1)) else none
  | 0x03 => if f.length = 1 then some (.tariff (f.getD 0 0#8)) else none
  | 0x04 => if f.length = 4 then some (.stop (airDWord f 0)) else none
  | 0x05 => if f.length = 1 then some (.fault (f.getD 0 0#8)) else none
  | 0x06 => if f.length = 0 then some .alive else none
  | _ => none

/-- Bytes before the first start byte A5h are stray (R93). -/
def dropStray : List Byte → List Byte
  | [] => []
  | b :: rest => if b = 0xA5#8 then b :: rest else dropStray rest

/-- The well-formed message that the bytes of the meter link spell, if they spell one (R93, R226): start byte, kind, fields, and
a check byte that makes the sum of all bytes 0 modulo 256. -/
def decodeMeter (bytes : List Byte) : Option MeterMessage :=
  let b := dropStray bytes
  if b.length < 3 then none
  else if b.foldl (· + ·) 0#8 ≠ 0#8 then none
  else
    match decodeMeterFields (b.getD 1 0#8) ((b.drop 2).take (b.length - 3)) with
    | some m => if m.inRange then some m else none
    | none => none

end Sys2Proof.Machine
end

