-- ==== Sys2Proof/Machine/Requester.lean ====
section
/-! DEFINITION. Handing an operation to the internal requester (R195, R196), the status report and the lamps (R11 to R13): what every block's change of state is handed on to. -/

namespace Sys2Proof.Machine

/-! ## Operations handed to the requester -/

/-- An operation of the given kind waits in the queue and has not begun. -/
def MemoryPath.queued (p : MemoryPath) (k : OpKind) : Bool := p.queue.any (fun o => o.kind == k)

/-- An operation of the given kind is under way. -/
def MemoryPath.underWay (p : MemoryPath) (k : OpKind) : Bool := p.under.any (fun u => u.kind == k)

/-- An operation of the given kind waits or is under way. -/
def MemoryPath.busyWith (p : MemoryPath) (k : OpKind) : Bool := p.queued k || p.underWay k

/-- A rewrite handed to the requester: one that has not begun carries the further update too (R70, R195). -/
def MemoryPath.requestRewrite (p : MemoryPath) (k : OpKind) : MemoryPath :=
  if p.queued k then p else { p with queue := p.queue ++ [⟨k, 0⟩] }

/-- Another write operation handed to the requester. -/
def MemoryPath.requestWrite (p : MemoryPath) (k : OpKind) : MemoryPath := { p with queue := p.queue ++ [⟨k, 0⟩] }

/-- A read operation handed to the requester: its drain mark is set to the entries the post buffer holds (R196). -/
def MemoryPath.requestRead (p : MemoryPath) (k : OpKind) : MemoryPath :=
  { p with queue := p.queue ++ [⟨k, p.buffer.length⟩] }

def State.requestRewrite (k : OpKind) (s : State) : State := { s with path := s.path.requestRewrite k }
def State.requestWrite (k : OpKind) (s : State) : State := { s with path := s.path.requestWrite k }
def State.requestRead (k : OpKind) (s : State) : State := { s with path := s.path.requestRead k }

/-! ## The status report (R11) -/

/-- The Status Unit rewrites the STATUS place with the current values of all items, from READY on (R11, R14). -/
def State.refreshReport (s : State) : State :=
  if s.power.startUp == .ready then { s with sched := { s.sched with statusPlace := some s.statusReport } } else s

/-! ## The lamps (R12, R13) -/

def LampMap.at_ (m : LampMap) : CabStatus → LampPair
  | .offDuty => m.offDuty | .free => m.free | .assigned => m.assigned | .hired => m.hired | .onBreak => m.onBreak

/-- Whether a setting is lit in the given phase of the flash timer. -/
def Lamp.lit (flash : Bool) : Lamp → Bool
  | .off => false
  | .on => true
  | .flash => flash

/-- The roof lamps follow the map: in ACTIVE and PARKING, from READY on (R12, R14). -/
def State.lampsFollow (s : State) : Bool :=
  s.power.startUp == .ready && (s.power.power == .active || s.power.power == .parking)

/-- The Status Unit drives the three lamps (R12, R13). -/
def State.driveLamps (s : State) : State :=
  let pair := s.status.lampMap.at_ s.status.status
  { s with
    pins := { s.pins with
      lampHire := s.lampsFollow && pair.hire.lit s.status.flashOn,
      lampCall := s.lampsFollow && pair.call.lit s.status.flashOn,
      lampAlarm := s.power.startUp == .ready && s.status.alarmEnabled && s.emerg.state.raised && s.status.alarmOn } }

/-- A change of an item of the report, of the lamps' state or of the power state is handed on to the report and to the lamps
(R1, R11, R12). -/
def State.handOn (s : State) : State := s.refreshReport.driveLamps

/-- The cab status changes and is handed on (R1). -/
def State.setStatus (st : CabStatus) (s : State) : State :=
  State.handOn { s with status := { s.status with status := st } }

end Sys2Proof.Machine
end

