-- ==== Sys2Proof/Machine/Scheduler.lean ====
section
/-! DEFINITION. The places, the lists, contention and the long-slot state of the Uplink Scheduler (chapter 3). -/

namespace Sys2Proof.Machine

/-! ## Leaving contention (R58) -/

/-- A frame that was the contender leaves its place: WAITING and SLOTTED become IDLE; an outstanding transmission stays, and its
frame is marked as gone. -/
def Contention.leave (k : Contention) (c : Contender) : Contention :=
  match k with
  | .idle => .idle
  | .waiting d w => if d = c then .idle else .waiting d w
  | .slotted d n => if d = c then .idle else .slotted d n
  | .outstanding d => if d = some c then .outstanding none else .outstanding d

def Scheduler.leave (u : Scheduler) (c : Contender) : Scheduler := { u with contention := u.contention.leave c }

/-! ## Bids (R47) -/

def Scheduler.hasBid (u : Scheduler) (job : DWord) : Bool := u.bids.any (fun b => b.job == job)

/-- The bid list without the bid of a job. -/
def Scheduler.dropBid (u : Scheduler) (job : DWord) : Scheduler :=
  if u.hasBid job then { u with bids := u.bids.filter (fun b => b.job != job), contention := u.contention.leave (.bid job) } else u

/-- A full bid list loses its oldest entry (R47). -/
def Scheduler.makeRoomForBid (u : Scheduler) : Scheduler :=
  match u.bids with
  | b :: rest => if 4 ≤ u.bids.length then { u with bids := rest, contention := u.contention.leave (.bid b.job) } else u
  | [] => u

/-- A new bid: in place of a bid of its job, or at the end of the list (R47). -/
def Scheduler.addBid (u : Scheduler) (job : DWord) (code : BidCode) : Scheduler :=
  if u.hasBid job then
    { u with
      bids := u.bids.map (fun b => if b.job = job then ⟨job, code, 0⟩ else b),
      contention := u.contention.leave (.bid job) }
  else
    let u := u.makeRoomForBid
    { u with bids := u.bids ++ [⟨job, code, 0⟩] }

/-- The bids that leave the list when a bid of the job joins it: the one it replaces, or the oldest of a full list (R47). -/
def Scheduler.bidsLost (u : Scheduler) (job : DWord) : List FrameName :=
  if u.hasBid job then [.bid job]
  else if 4 ≤ u.bids.length then (u.bids.take 1).map (fun b => .bid b.job) else []

/-- The bid of a job is on the air in the reserved slot and has not been replaced since. -/
def Transceiver.sendsBid (r : Transceiver) (job : DWord) : Bool := r.sending == some ⟨.bid job, .reserved, true⟩

/-- The Offer Engine queues a bid (R47, R84). A bid whose reserved slot has begun is delivered and leaves the list; the new one
then joins as a new entry (R47, log entry 20). -/
def State.addBid (job : DWord) (code : BidCode) (s : State) : State :=
  let s := if s.radio.sendsBid job then
      { s with sched := s.sched.dropBid job, radio := s.radio.leave (.bid job) }
    else s
  { s with sched := s.sched.addBid job code, radio := s.radio.leaveAll (s.sched.bidsLost job) }

/-- The Offer Engine removes the bid of a job (R82). -/
def State.removeBid (job : DWord) (s : State) : State :=
  { s with sched := s.sched.dropBid job, radio := s.radio.leave (.bid job) }

/-! ## ACKs (R46), FLOW (R48), ALERT (R49), SLOT_REQUEST -/

/-- An ACK for a tag joins the ACK list unless the tag is in it; a full list loses its oldest entry. -/
def Scheduler.addAck (u : Scheduler) (tag : Word) : Scheduler :=
  if u.acks.contains tag then u
  else { u with acks := (if 4 ≤ u.acks.length then u.acks.drop 1 else u.acks) ++ [tag] }

def State.addAck (tag : Word) (s : State) : State :=
  let s := match s.sched.acks with
    | t :: _ => if 4 ≤ s.sched.acks.length && !s.sched.acks.contains tag then { s with radio := s.radio.leave (.ack t) } else s
    | [] => s
  { s with sched := s.sched.addAck tag }

/-- A flow frame goes into the FLOW place, in place of an unsent older one (R48). -/
def State.fillFlow (code : FlowCode) (s : State) : State :=
  { s with sched := { s.sched with flowPlace := some code }, radio := s.radio.leave .flow }

/-- The ALERT place is filled with the current alert number and source; the attempt count is kept (R49). -/
def State.refillAlert (s : State) : State :=
  { s with sched := { s.sched with alertPlace := some ⟨s.emerg.number, s.emerg.source⟩ } }

/-- The Emergency Unit empties the ALERT place; if the ALERT was the contender, R58 applies (R155, R157). The frame of an outstanding ALERT has
left then, also where the place was refilled since the transmission: its beacon counts no outcome for the place, and the attempt count stays
whether it is heard or not. R49 sets the count to 0 when an ALERT is heard; that it does not for one that left so is the model's choice (log
entry 57). -/
def State.emptyAlert (s : State) : State :=
  { s with sched := { s.sched with alertPlace := none, contention := s.sched.contention.leave .alert } }

def Scheduler.emptySlotRequest (u : Scheduler) : Scheduler :=
  match u.slotRequest with
  | some _ => { u with slotRequest := none, contention := u.contention.leave .slotRequest }
  | none => u

/-- The SLOT_REQUEST place is emptied by a rule of the long-slot state (R58). -/
def State.emptySlotRequest (s : State) : State :=
  { s with sched := s.sched.emptySlotRequest, radio := s.radio.leave .slotRequest }

/-! ## Long frames (R50) -/

/-- A report is due when it has not been sent, or when its retransmit time has come at send counts 1 to 4 (R111, R118). -/
def reportDue (sends : Nat) (come : Bool) : Bool := sends == 0 || (decide (sends ≤ 4) && come)

def FareReport.due (r : FareReport) : Bool := reportDue r.sends r.come
def ShiftReport.due (r : ShiftReport) : Bool := reportDue r.sends r.come

/-- The joined site offers FARE. -/
def State.siteHasFare (s : State) : Bool :=
  s.link.state == .joined && s.link.site.any (fun r => hasFare r.abilities)
/-- The joined site offers TEXT. -/
def State.siteHasText (s : State) : Bool :=
  s.link.state == .joined && s.link.site.any (fun r => hasText r.abilities)

/-- The fragments of the message in flight that have not been sent (R50, R133). -/
def Outbound.fragmentsDue : Outbound → Nat
  | .flight m => m.fragments - m.next
  | .none => 0
  | .fetching _ => 0
  | .completing _ => 0

/-- The number of sendable long frames (R50, R59). -/
def State.sendable (s : State) : Nat :=
  (if s.siteHasFare then
    (s.trips.reports.filter FareReport.due).length + (if s.trips.shiftReport.any ShiftReport.due then 1 else 0)
  else 0) + (if s.siteHasText then s.msgs.flight.fragmentsDue else 0)

/-- The rule that asks for long slots (R59): in NONE a sendable frame at a joined site fills the SLOT_REQUEST place; in REQUEST the
place is emptied when no frame is sendable any more. -/
def State.settleLong (s : State) : State :=
  match s.sched.long with
  | .none =>
    if s.link.state == .joined && decide (0 < s.sendable) then
      { s with sched := { s.sched with slotRequest := some ⟨0, false⟩, long := .request } }
    else s
  | .request =>
    if s.sendable = 0 then
      let s := s.emptySlotRequest
      { s with sched := { s.sched with long := .none } }
    else s
  | .wait _ => s
  | .held => s
  | .rest _ => s

/-- A slot request that was delivered or heard is counted, and the grant wait starts (R60). -/
def Scheduler.requestSent (u : Scheduler) : Scheduler :=
  { u with slotRequest := none, requests := u.requests + 1, long := .wait 4 }

/-- The grant wait runs out (R60). With no long frame sendable the state is NONE at a request count of 3 too (log entry 43). -/
def State.grantWaitEnds (s : State) : State :=
  if s.sendable = 0 then { s with sched := { s.sched with long := .none, requests := 0 } }
  else if s.sched.requests < 3 then
    { s with sched := { s.sched with slotRequest := some ⟨0, false⟩, long := .request } }
  else { s with sched := { s.sched with long := .rest 10, requests := 0 } }

/-- The end of the grant: the grant record is cleared, the state becomes NONE, and R59 asks again if need be (R62). -/
def State.endGrant (s : State) : State :=
  State.settleLong { s with sched := { s.sched with grant := none, long := .none } }

/-- The slot after the last one of the grant's long slots. -/
def Grant.stop (g : Grant) : Nat := g.start + 3 * g.count

/-- A GRANT of kind LONG passes the checks of R61 in the given cycle. -/
def grantFits (now cycle : Word) (start count : Byte) : Bool :=
  decide (1 ≤ count.toNat) && decide (count.toNat ≤ 4) && decide (start.toNat + 3 * count.toNat ≤ 24) &&
    decide (1 ≤ (cycle - now).toNat) && decide ((cycle - now).toNat ≤ 4)

/-- REQUEST, WAIT and REST take a grant (R61). -/
def LongState.takesGrant : LongState → Bool
  | .none => false
  | .request => true
  | .wait _ => true
  | .held => false
  | .rest _ => true

/-- A GRANT of kind LONG that reaches the scheduler (R61). -/
def State.takeGrant (cycle : Word) (start count : Byte) (s : State) : State :=
  if grantFits s.link.cycle cycle start count && s.sched.long.takesGrant then
    let s := s.emptySlotRequest
    { s with
      sched := { s.sched with
        grant := some ⟨cycle, start.toNat, count.toNat, 0, false⟩, requests := 0, long := .held } }
  else s

/-! ## When the cab may transmit (R43) -/

def PowerState.transmits : PowerState → Bool
  | .active => true
  | .parking => true
  | .standby => false
  | .sleep => false

/-- Frames other than JOIN may be transmitted. -/
def State.mayTransmit (s : State) : Bool := s.power.power.transmits && s.link.state == .joined
/-- The JOIN frame may be transmitted. -/
def State.mayJoin (s : State) : Bool := s.power.power.transmits && s.link.state == .join

/-! ## Contention (R53 to R57) -/

/-- The contender that R53 chooses: the first waiting frame in its order that may be transmitted in the link state. -/
def State.chooseContender (s : State) : Option Contender :=
  if s.mayTransmit then
    if s.sched.alertPlace.isSome then some .alert
    else match s.sched.bids, s.sched.slotRequest with
      | b :: _, _ => some (.bid b.job)
      | [], some r => if r.fellBack then none else some .slotRequest
      | [], none => none
  else if s.mayJoin && s.sched.joinPlace then some .join
  else none

/-- The attempt count of a contender. -/
def Scheduler.attemptsOf (u : Scheduler) : Contender → Nat
  | .alert => u.alertAttempts
  | .join => u.joinAttempts
  | .bid job => ((u.bids.find? (fun b => b.job == job)).map (·.attempts)).getD 0
  | .slotRequest => (u.slotRequest.map (·.attempts)).getD 0

/-- The random source moves on: a value from 0 to n - 1 (R54). -/
def Scheduler.draw (u : Scheduler) (n : Nat) : Nat := if n ≤ 1 then 0 else Config.randomDraw u.seed u.draws % n

/-- The number of waits that R54 gives for an attempt count. -/
def backoffRange (attempts : Nat) : Nat := 2 ^ min attempts 4

/-- A frame becomes the contender and draws its wait afresh (R53, R54). -/
def Scheduler.newContender (u : Scheduler) (c : Contender) : Scheduler :=
  { u with contention := .waiting c (u.draw (backoffRange (u.attemptsOf c))), draws := u.draws + 1 }

/-- The choice of the contender at a slot 0 start (R53, R54). The same contender stays SLOTTED in its drawn slot (log entry 15). -/
def State.contenderChoice (s : State) : State :=
  if s.mayTransmit || s.mayJoin then
    match s.sched.contention, s.chooseContender with
    | .outstanding _, _ => s
    | _, none => { s with sched := { s.sched with contention := .idle } }
    | .idle, some c => { s with sched := s.sched.newContender c }
    | .waiting d w, some c =>
      if d = c then { s with sched := { s.sched with contention := .waiting d (w - 1) } }
      else { s with sched := s.sched.newContender c }
    | .slotted d _, some c =>
      if d = c then s
      else { s with sched := s.sched.newContender c }
  else s

/-- The cab's reserved slot of the current cycle (R19): the slot of the site record, in a cycle whose number modulo the period
equals the phase, while the link is JOINED. -/
def State.reservedSlot (s : State) : Option Nat :=
  if s.link.state == .joined then
    match s.link.site with
    | some r => if s.link.cycle.toNat % r.period.toNat = r.phase.toNat then some r.slot.toNat else none
    | none => none
  else none

/-- A slot belongs to the grant's long slots of the current cycle. -/
def State.inGrant (s : State) (k : Nat) : Bool :=
  s.sched.grant.any (fun g => g.cycle == s.link.cycle && decide (g.start ≤ k) && decide (k < g.stop))

/-- The contention slots of the current cycle that R54 leaves to draw from. -/
def State.drawableSlots (s : State) : List Nat :=
  (List.range 24).filter (fun k => decide (24 - s.link.contention ≤ k) && s.reservedSlot != some k && !s.inGrant k)

/-- The draw of the slot at a slot 0 start with a wait of 0 (R54); with no slot left it is put off. -/
def State.drawSlot (s : State) : State :=
  match s.sched.contention with
  | .waiting c 0 =>
    match s.drawableSlots with
    | [] => s
    | k :: rest =>
      let slot := (k :: rest).getD (s.sched.draw (k :: rest).length) k
      { s with sched := { s.sched with contention := .slotted c slot, draws := s.sched.draws + 1 } }
  | _ => s

/-- A failed transmission of a bid: at 8 failed attempts it is dropped (R56, R57). -/
def Scheduler.bidFails (u : Scheduler) (job : DWord) : Scheduler :=
  { u with
    bids := (u.bids.map (fun b => if b.job = job then { b with attempts := b.attempts + 1 } else b)).filter
      (fun b => b.job != job || decide (b.attempts < 8)) }

/-- A failed transmission of the slot request: at 8 failed attempts it falls back to the reserved slot (R57). -/
def Scheduler.slotRequestFails (u : Scheduler) : Scheduler :=
  { u with
    slotRequest := u.slotRequest.map (fun r =>
      { attempts := r.attempts + 1, fellBack := r.fellBack || decide (8 ≤ r.attempts + 1) }) }

/-! ## Clearing on link changes (R64) -/

/-- What the scheduler clears when the link leaves JOINED. -/
def Scheduler.clearWorking (u : Scheduler) : Scheduler :=
  { u with
    grant := none, long := .none, requests := 0, contention := .idle, slotRequest := none,
    bids := u.bids.map (fun b => { b with attempts := 0 }), alertAttempts := 0 }

/-- What the scheduler clears when the link leaves JOIN. -/
def Scheduler.clearJoin (u : Scheduler) : Scheduler := { u with joinPlace := false, contention := .idle }

end Sys2Proof.Machine
end

