-- ==== Sys2Proof/Machine/Offers.lean ====
section
/-! DEFINITION. The Offer Engine (chapter 4): the updates of the offer table, the responses, and the events that other blocks hand to it. -/

namespace Sys2Proof.Machine

/-! ## The table -/

/-- The sixteen entry numbers, lowest first. -/
def allEntries : List (Fin 16) := [0, 1, 2, 3, 4, 5, 6, 7, 8, 9, 10, 11, 12, 13, 14, 15]

def OfferEngine.entry (t : OfferEngine) (n : Fin 16) : OfferEntry := t.entries[n]

def OfferEngine.setEntry (t : OfferEngine) (n : Fin 16) (e : OfferEntry) : OfferEngine :=
  { t with entries := t.entries.set n e }

/-- DECLINED, LAPSED, LOST, WITHDRAWN and NO_AWARD (R69). -/
def OfferState.terminal : OfferState → Bool
  | .empty => false
  | .live => false
  | .bidding => false
  | .awarded => false
  | .declined => true
  | .lapsed => true
  | .lost => true
  | .withdrawn => true
  | .noAward => true

/-- BIDDING or AWARDED. -/
def OfferState.claims (o : OfferState) : Bool := o == .bidding || o == .awarded

def OfferEngine.stateOf (t : OfferEngine) (n : Fin 16) : OfferState := (t.entry n).state

/-- The entry that is AWARDED, if one is (R68). -/
def OfferEngine.awarded (t : OfferEngine) : Option (Fin 16) := allEntries.find? (fun n => t.stateOf n == .awarded)

/-- The entry that is BIDDING, if one is. -/
def OfferEngine.bidding (t : OfferEngine) : Option (Fin 16) := allEntries.find? (fun n => t.stateOf n == .bidding)

/-- The non-EMPTY entry that holds a job number. -/
def OfferEngine.find (t : OfferEngine) (job : DWord) : Option (Fin 16) :=
  allEntries.find? (fun n => t.stateOf n != .empty && (t.entry n).job == job)

/-- Some entry other than `n` is BIDDING or AWARDED. -/
def OfferEngine.otherClaims (t : OfferEngine) (n : Fin 16) : Bool :=
  allEntries.any (fun k => k != n && (t.stateOf k).claims)

/-- Some entry is BIDDING or AWARDED. -/
def OfferEngine.anyClaims (t : OfferEngine) : Bool := allEntries.any (fun k => (t.stateOf k).claims)

/-- The entry that a new offer takes: the lowest-numbered EMPTY one, else the terminal one that entered longest ago (R72). -/
def OfferEngine.room (t : OfferEngine) : Option (Fin 16) :=
  match allEntries.find? (fun n => t.stateOf n == .empty) with
  | some n => some n
  | none => t.order.find? (fun n => (t.stateOf n).terminal)

/-! ## Updates (R70) -/

/-- The causes that wait on an entry's rewrite, with further ones. -/
def joinCauses (old new : List Cause) : List Cause := old ++ new.filter (fun c => !old.contains c)

/-- An update of an entry: its new content, the sequence advanced by 1, and the causes that its rewrite will raise. -/
def OfferEngine.update (t : OfferEngine) (n : Fin 16) (f : OfferEntry → OfferEntry) (causes : List Cause) : OfferEngine :=
  let e := f (t.entry n)
  t.setEntry n { e with seq := e.seq + 1#8, causes := joinCauses e.causes causes }

/-- An update of an entry, with its rewrite handed to the requester (R70). -/
def State.updateEntry (n : Fin 16) (f : OfferEntry → OfferEntry) (causes : List Cause) (s : State) : State :=
  State.requestRewrite (.offerRewrite n) { s with offers := s.offers.update n f causes }

/-- An entry that leaves the state in which its timer ran (R69). -/
def OfferEntry.become (st : OfferState) (e : OfferEntry) : OfferEntry := { e with state := st, timer := none }

/-- An entry made EMPTY: it holds no offer, and keeps its sequence, response and result (R68). -/
def OfferEntry.emptied (e : OfferEntry) : OfferEntry :=
  { OfferEntry.reset with seq := e.seq, response := e.response, result := e.result, causes := e.causes }

/-- An EMPTY entry has no place in the entry order. -/
def OfferEngine.forget (t : OfferEngine) (n : Fin 16) : OfferEngine := { t with order := t.order.erase n }

/-- An entry becomes EMPTY by an update. -/
def State.emptyEntry (n : Fin 16) (causes : List Cause) (s : State) : State :=
  let s := s.updateEntry n OfferEntry.emptied causes
  { s with offers := s.offers.forget n }

/-- An offer fills an entry: flags, result and response copies are cleared (R72). -/
def OfferEntry.filled (st : OfferState) (dest mask : Byte) (b : OfferBody) (now expires : DWord) (forced : Bool)
    (timer : Timer) (e : OfferEntry) : OfferEntry :=
  { e with
    state := st, job := b.job, dest := dest, mask := mask, zone := b.zone, received := now, expires := expires,
    fare := if b.farePresent.getLsbD 0 then some b.fare else none, text := b.text, forced := forced, late := false,
    response := 0#16, result := ⟨0#8, 0#8, .none⟩, timer := timer }

/-- The entry becomes the newest in the entry order. -/
def OfferEngine.newest (t : OfferEngine) (n : Fin 16) : OfferEngine := { t with order := t.order.erase n ++ [n] }

/-- A filled entry, the newest of the table. -/
def State.placeEntry (n : Fin 16) (f : OfferEntry → OfferEntry) (causes : List Cause) (s : State) : State :=
  let s := s.updateEntry n f causes
  { s with offers := s.offers.newest n }

/-! ## Offers (R71 to R73) -/

/-- The cab status suits the destination kind of an offer (R71). -/
def CabStatus.suits (c : CabStatus) (dest : Byte) : Bool := if dest = destCab then c != .offDuty else c == .free

/-- The conditions of R71. -/
def State.entersOffer (h : DownHeader) (b : OfferBody) (s : State) : Bool :=
  b.job != 0#32 && decide (5 ≤ b.lifetime.toNat) && decide (b.lifetime.toNat ≤ 120) && decide (b.text.length ≤ 64) &&
    s.power.power == .active && s.emerg.state == .clear && s.status.status.suits h.dest && (s.offers.find b.job).isNone

/-- An OFFER that reaches the Offer Engine (R71, R72). -/
def State.takeOffer (h : DownHeader) (b : OfferBody) (s : State) : State :=
  if s.entersOffer h b then
    match s.offers.room with
    | some n =>
      let now := s.link.clock
      s.placeEntry n (OfferEntry.filled .live h.dest h.mask b now (now + b.lifetime.setWidth 32) false (some b.lifetime.toNat))
        [.offerNew]
    | none => s.count .offersMissed
  else s

/-- The lifetime of an entry runs out (R73). -/
def State.lifetimeEnds (n : Fin 16) (s : State) : State :=
  let e := s.offers.entry n
  if e.state == .live && e.timer.due then s.updateEntry n (OfferEntry.become .lapsed) [.offerChange] else s

/-- The award wait of an entry runs out (R83). -/
def State.awardWaitEnds (n : Fin 16) (s : State) : State :=
  let e := s.offers.entry n
  if e.state == .bidding && e.timer.due then s.updateEntry n (OfferEntry.become .noAward) [.offerChange] else s

/-- A second passes on every lifetime and award-wait timer. -/
def OfferEngine.tick (t : OfferEngine) : OfferEngine :=
  allEntries.foldl (fun t n => t.setEntry n { t.entry n with timer := (t.entry n).timer.tick }) t

/-! ## What the Status Unit is handed (R5) -/

/-- An entry became AWARDED. -/
def State.becameAwarded (s : State) : State := if s.status.status == .free then s.setStatus .assigned else s

/-- The AWARDED entry left AWARDED without a trip. -/
def State.leftAwarded (s : State) : State := if s.status.status == .assigned then s.setStatus .free else s

/-! ## Responses (R74 to R77) -/

/-- The outcome of an ACCEPT (R75). -/
def State.acceptOutcome (n : Fin 16) (s : State) : Outcome :=
  let e := s.offers.entry n
  match e.state with
  | .live =>
    if s.offers.otherClaims n then .busy
    else if s.emerg.state != .clear then .emergency
    else if s.status.status == .free || (s.status.status == .hired && e.dest == destCab) then .taken
    else .notAllowed
  | .lapsed => .tooLate
  | .empty => .notValid
  | .bidding => .notValid
  | .awarded => .notValid
  | .declined => .notValid
  | .lost => .notValid
  | .withdrawn => .notValid
  | .noAward => .notValid

/-- The outcome of a DECLINE (R76). -/
def OfferState.declineOutcome (st : OfferState) : Outcome := if st == .live || st == .bidding then .taken else .notValid

/-- The outcome of a RELEASE (R77). -/
def OfferState.releaseOutcome (st : OfferState) : Outcome := if st.terminal || st == .awarded then .taken else .notValid

/-- The outcome of a response by its code (R74). -/
def State.responseOutcome (n : Fin 16) (code : Byte) (s : State) : Outcome :=
  if code = codeAccept then s.acceptOutcome n
  else if code = codeDecline then (s.offers.stateOf n).declineOutcome
  else if code = codeRelease then (s.offers.stateOf n).releaseOutcome
  else .notValid

/-- The response copies and the result that a response leaves in its entry (R74). -/
def OfferEntry.answered (response : Word) (o : Outcome) (e : OfferEntry) : OfferEntry :=
  { e with response := response, result := ⟨Word.lower response, Word.upper response, o⟩ }

/-- The award wait, in seconds (R75). -/
def awardWait : Nat := 8

/-- A response written to an entry (R74): the written lanes are combined with the copies, the outcome is decided and the entry
is updated. A refusal raises REFUSED with the rewrite (log entry 23). -/
def State.takeResponse (n : Fin 16) (lanes : Lanes) (data : Word) (s : State) : State :=
  let response := laneCombine lanes (s.offers.entry n).response data
  let code := Word.lower response
  let o := s.responseOutcome n code
  let was := s.offers.entry n
  if o ≠ .taken then s.updateEntry n (OfferEntry.answered response o) [.refused]
  else if code = codeAccept then
    State.addBid was.job .accept
      (s.updateEntry n (fun e => { OfferEntry.answered response o (e.become .bidding) with timer := some awardWait }) [])
  else if code = codeDecline then
    State.addBid was.job .decline (s.updateEntry n (fun e => OfferEntry.answered response o (e.become .declined)) [])
  else
    let s := s.updateEntry n (fun e => OfferEntry.answered response o e.emptied) []
    let s := { s with offers := s.offers.forget n }
    if was.state == .awarded then State.leftAwarded (State.addBid was.job .return s) else s

/-! ## Verdicts (R78 to R82) -/

/-- The cab may take an award it did not bid for, leaving the entry `n` aside (R79). -/
def State.eligible (n : Option (Fin 16)) (s : State) : Bool :=
  !(match n with
    | some n => s.offers.otherClaims n
    | none => s.offers.anyClaims) &&
    s.emerg.state == .clear && (s.status.status == .free || s.status.status == .hired)

/-- An AWARD for a job with no entry, when the cab is eligible (R79). -/
def State.awardNoEntry (b : OfferBody) (s : State) : State :=
  match s.offers.room with
  | some n =>
    State.becameAwarded
      (s.placeEntry n (OfferEntry.filled .awarded destCab 0#8 b s.link.clock 0#32 true none) [.offerChange])
  | none => State.addBid b.job .return (s.count .offersMissed)

/-- An AWARD that reaches the Offer Engine (R78 to R80). -/
def State.takeAward (b : OfferBody) (s : State) : State :=
  if b.job = 0#32 ∨ 64 < b.text.length then s
  else
    match s.offers.find b.job with
    | none => if s.eligible none then s.awardNoEntry b else s.addBid b.job .return
    | some n =>
      match s.offers.stateOf n with
      | .bidding => State.becameAwarded (s.updateEntry n (OfferEntry.become .awarded) [.offerChange])
      | .live =>
        if s.eligible (some n) then
          State.becameAwarded (s.updateEntry n (fun e => { e.become .awarded with forced := true }) [.offerChange])
        else s.addBid b.job .return
      | .noAward =>
        if s.eligible (some n) then
          State.becameAwarded (s.updateEntry n (fun e => { e.become .awarded with late := true }) [.offerChange])
        else s.addBid b.job .return
      | .awarded => s
      | .empty => s
      | .declined => s.addBid b.job .return
      | .lapsed => s.addBid b.job .return
      | .lost => s.addBid b.job .return
      | .withdrawn => s.addBid b.job .return

/-- A LOST that reaches the Offer Engine (R81). -/
def State.takeLost (job : DWord) (s : State) : State :=
  match s.offers.find job with
  | none => s
  | some n =>
    if s.offers.stateOf n == .live || s.offers.stateOf n == .bidding then
      s.updateEntry n (OfferEntry.become .lost) [.offerChange]
    else s

/-- A WITHDRAW that reaches the Offer Engine (R82). -/
def State.takeWithdraw (job : DWord) (s : State) : State :=
  match s.offers.find job with
  | none => s
  | some n =>
    let st := s.offers.stateOf n
    if st == .live || st.claims then
      let s := State.removeBid job (s.updateEntry n (OfferEntry.become .withdrawn) [.offerChange])
      if st == .awarded then s.leftAwarded else s
    else s

/-! ## The job at meter start, emergency, shift close (R85 to R87) -/

/-- The job number and forced flag that a HIRE carries into the trip (R85). -/
def OfferEngine.job (t : OfferEngine) : Option (DWord × Bool) :=
  match t.awarded with
  | some n => some ((t.entry n).job, (t.entry n).forced)
  | none => none

/-- The AWARDED entry is emptied by a HIRE (R85). -/
def State.carryJob (s : State) : State :=
  match s.offers.awarded with
  | some n => s.emptyEntry n [.offerChange]
  | none => s

/-- An entry into ALERTING is handed to the Offer Engine (R86). -/
def State.alertingToOffers (s : State) : State :=
  match s.offers.bidding with
  | some n => State.addBid (s.offers.entry n).job .decline (s.updateEntry n (OfferEntry.become .noAward) [.offerChange])
  | none => s

/-- The rewrite that stands last in the queue among those of the given entries. -/
def lastRewrite (among : Fin 16 → Bool) : List Operation → Option (Fin 16)
  | [] => none
  | o :: rest =>
    match lastRewrite among rest, o.kind with
    | some n, _ => some n
    | none, .offerRewrite n => if among n then some n else none
    | none, _ => none

/-- A cause waits on the rewrite of one more entry. -/
def OfferEngine.attach (t : OfferEngine) (n : Fin 16) (causes : List Cause) : OfferEngine :=
  t.setEntry n { t.entry n with causes := joinCauses (t.entry n).causes causes }

/-- Every entry of a list becomes EMPTY. -/
def State.emptyAll : List (Fin 16) → State → State
  | [], s => s
  | n :: rest, s => State.emptyAll rest (s.emptyEntry n [])

/-- A taken CLOSE empties the table (R8, R87). The rewrites are handed over lowest entry first (log entry 21), and OFFER_CHANGE is raised once,
when the last of them has completed (log entry 13). -/
def State.closeOffers (s : State) : State :=
  let t := s.offers
  let s := match t.awarded, t.bidding with
    | some n, _ => s.addBid (t.entry n).job .return
    | none, some n => s.addBid (t.entry n).job .decline
    | none, none => s
  let s := State.emptyAll (allEntries.filter (fun n => t.stateOf n != .empty)) s
  match lastRewrite (fun n => t.stateOf n != .empty) s.path.queue with
  | some n => { s with offers := s.offers.attach n [.offerChange] }
  | none => s

/-! ## Soft reset (R91) -/

/-- The entry after a soft reset: an AWARDED one is kept, every other is EMPTY, with its sequence advanced if it was not. -/
def OfferEntry.softReset (e : OfferEntry) : OfferEntry :=
  { (if e.state == .awarded then e
     else if e.state == .empty then e.emptied
     else { e.emptied with seq := e.seq + 1#8 }) with causes := [] }

/-- The Offer Engine's soft-reset rule for one entry: the image of every entry but an AWARDED one is rewritten. -/
def State.softResetEntry (n : Fin 16) (s : State) : State :=
  if s.offers.stateOf n == .awarded then { s with offers := s.offers.setEntry n (s.offers.entry n).softReset }
  else
    State.requestRewrite (.offerRewrite n)
      { s with offers := OfferEngine.forget (s.offers.setEntry n (s.offers.entry n).softReset) n }

/-- The Offer Engine's soft-reset rule (R91). The rewrites are handed over lowest entry first (log entry 21). -/
def State.softResetOffers (s : State) : State := allEntries.foldl (fun s n => s.softResetEntry n) s

end Sys2Proof.Machine
end

