-- ==== Sys2Proof/Machine/Rings.lean ====
section
/-! DEFINITION. The rings (sections 6.1 and 6.2): pointer arithmetic, the producer's rule, the cycles of a deposit, and the ring records. -/

namespace Sys2Proof.Machine

/-! ## Ring records -/

def MessageEngine.ring (m : MessageEngine) : RingId → Ring
  | .outbound => m.outbound
  | .inbound => m.inbound
  | .triplog => m.triplog

def MessageEngine.setRing (m : MessageEngine) (id : RingId) (r : Ring) : MessageEngine :=
  match id with
  | .outbound => { m with outbound := r }
  | .inbound => { m with inbound := r }
  | .triplog => { m with triplog := r }

def State.setRing (id : RingId) (r : Ring) (s : State) : State := { s with msgs := s.msgs.setRing id r }

/-! ## Arithmetic (R124) -/

/-- D, the bytes of the data area. -/
def Descriptor.dataSize (d : Descriptor) : Nat := d.size.toNat - 4

/-- The filled bytes, (in - out) mod D. -/
def filledBytes (d inPtr outPtr : Nat) : Nat := (inPtr + d - outPtr) % d

/-- The free bytes, (out - in - 4) mod D. -/
def freeBytes (d inPtr outPtr : Nat) : Nat := (outPtr + 2 * d - inPtr - 4) % d

/-- A value is a pointer into a data area of D bytes. -/
def validPointer (d p : Nat) : Bool := decide (p % 4 = 0) && decide (p < d)

/-- The offset in the cab area of a byte of the data area. -/
def Descriptor.dataOffset (d : Descriptor) (p : Nat) : Nat := d.base.toNat + 4 + p

/-- A pointer advanced by a record's length, to 0 when the record ended exactly at the end. -/
def advance (d p n : Nat) : Nat := if p + n = d then 0 else p + n

/-! ## Producing (R125) -/

/-- Where the part writes a record into a ring it produces: `none` when its need exceeds the free bytes. -/
def planDeposit (desc : Descriptor) (inPtr outPtr : Nat) (record : List Byte) : Option Deposit :=
  let d := desc.dataSize
  let free := freeBytes d inPtr outPtr
  let e := d - inPtr
  let n := record.length
  if n ≤ e then
    if n ≤ free then some ⟨desc, inPtr, false, record, advance d inPtr n⟩ else none
  else if e + n ≤ free then some ⟨desc, inPtr, true, record, n⟩
  else none

/-- The plan of a record in a ring that is OPEN and that the part produces. -/
def Ring.plan (r : Ring) (record : List Byte) : Option Deposit :=
  if r.state == .open then planDeposit r.desc r.own.toNat r.theirs.toNat record else none

/-- Word writes at rising offsets. -/
def writeCycles : Nat → List Word → List MemCycle
  | _, [] => []
  | o, w :: rest => .write o w :: writeCycles (o + 2) rest

/-- Word reads at rising offsets. -/
def readCycles : Nat → Nat → List MemCycle
  | _, 0 => []
  | o, n + 1 => .read o :: readCycles (o + 2) n

/-- The cycles of a deposit: the WRAP marker if one is needed, the record, and the new input pointer last. -/
def Deposit.cycles (p : Deposit) : List MemCycle :=
  (if p.wrap then writeCycles (p.desc.dataOffset p.inPtr) [0xFFFF#16, 0xFFFF#16] else []) ++
    writeCycles (p.desc.dataOffset (if p.wrap then 0 else p.inPtr)) (toWords p.record) ++
    [.write p.desc.base.toNat (BitVec.ofNat 16 p.newPtr)]

/-- The part's own pointer moves. -/
def State.moveOwn (id : RingId) (p : Nat) (s : State) : State :=
  s.setRing id { s.msgs.ring id with own := BitVec.ofNat 16 p }

/-! ## Validation at OPEN (R128) -/

/-- Two rings share a byte: the higher of the two bases lies below the lower of the two ends, so that a ring of size 0 shares none. -/
def Descriptor.overlaps (a b : Descriptor) : Bool :=
  decide (max a.base.toNat b.base.toNat < min (a.base.toNat + a.size.toNat) (b.base.toNat + b.size.toNat))

/-- The pointer write of the deposit under way is complete: the deposit has ended, and its owner is still to be told (R107, R130, R195). -/
def State.depositWritten (k : OpKind) (s : State) : Bool := s.path.under.any (fun u => u.kind == k && u.cycles.isEmpty)

/-- The plan of the deposit still completing into a ring: until its pointer write is complete (R124). -/
def State.depositPlan (s : State) : RingId → Option Deposit
  | .outbound => none
  | .inbound => if s.depositWritten .inboundDeposit then none else s.msgs.deposit.map (·.plan)
  | .triplog => if s.depositWritten .tripDeposit then none else s.trips.deposit.map (·.plan)

/-- The bytes that a ring claims against another ring's OPEN: its ring when OPEN or CLOSING, the captured one under an OPEN check,
and the ring of a deposit that is still completing. -/
def State.ringClaims (s : State) (id : RingId) : List Descriptor :=
  let r := s.msgs.ring id
  (if r.state != .closed then [r.desc] else []) ++ r.check.toList ++ ((s.depositPlan id).map (·.desc)).toList

def allRings : List RingId := [.outbound, .inbound, .triplog]

/-- The header pointers of a ring: input, then output. -/
structure HeaderWords where
  input : Word
  output : Word
  deriving DecidableEq, Repr

/-- The first check of R128 that fails for a captured descriptor and the header read; TAKEN when none does. -/
def State.openOutcome (id : RingId) (d : Descriptor) (h : HeaderWords) (s : State) : Outcome :=
  let size := d.size.toNat
  let base := d.base.toNat
  if size < 256 ∨ 8192 < size ∨ size % 16 ≠ 0 then .size
  else if base % 16 ≠ 0 then .align
  else if base < 0x0A00 ∨ 0x4000 < base + size then .outside
  else if allRings.any (fun k => k != id && (s.ringClaims k).any d.overlaps) then .overlap
  else if !(validPointer d.dataSize h.input.toNat && validPointer d.dataSize h.output.toNat &&
      (id == .outbound || h.input == h.output)) then .pointers
  else .taken

/-- A ring that has passed its OPEN check. -/
def Ring.opened (r : Ring) (id : RingId) (d : Descriptor) (h : HeaderWords) : Ring :=
  { r with
    state := .open, desc := d, copies := d, check := none, result := ⟨codeRingOpen, .taken⟩,
    own := (if id == .outbound then h.output else h.input),
    theirs := (if id == .outbound then h.input else h.output) }

end Sys2Proof.Machine
end

