-- ==== Sys2Proof/Machine/Trips.lean ====
section
/-! DEFINITION. The Trip Engine (chapter 5): trips, the trip log, fare and shift reports, and the shift totals. -/

namespace Sys2Proof.Machine

/-! ## Totals and fates (R112, R115) -/

/-- A change of the totals. -/
def State.changeTotals (f : Totals → Totals) (s : State) : State :=
  { s with trips := { s.trips with totals := f s.trips.totals } }

/-- A trip belongs to the open shift. -/
def State.ofOpenShift (r : TripRef) (s : State) : Bool := s.status.shiftOpen && r.shift == s.status.shiftNumber

/-- A change of the totals for a trip, made when the trip belongs to the open shift. -/
def State.changeTotalsFor (r : TripRef) (f : Totals → Totals) (s : State) : State :=
  if s.ofOpenShift r then s.changeTotals f else s

def Totals.listedToAcknowledged (t : Totals) : Totals :=
  { t with reportsInList := satSub t.reportsInList 1#16, reportsAcknowledged := satAdd t.reportsAcknowledged 1#16 }

def Totals.listedToAbandoned (t : Totals) : Totals :=
  { t with reportsInList := satSub t.reportsInList 1#16, reportsAbandoned := satAdd t.reportsAbandoned 1#16 }

def Totals.abandonedToAcknowledged (t : Totals) : Totals :=
  { t with reportsAbandoned := satSub t.reportsAbandoned 1#16, reportsAcknowledged := satAdd t.reportsAcknowledged 1#16 }

/-- The report list without the report of a trip. -/
def TripEngine.unlist (t : TripEngine) (r : TripRef) : TripEngine :=
  { t with reports := t.reports.filter (fun e => e.record.ref != r) }

/-- The last 16 references of a list (R112). -/
def lastSixteen (l : List TripRef) : List TripRef := l.drop (l.length - 16)

/-- A listed report is abandoned (R112). -/
def State.abandonReport (r : TripRef) (s : State) : State :=
  let t := s.trips.unlist r
  State.raise .reportDone
    (State.changeTotalsFor r Totals.listedToAbandoned
      { s with trips := { t with abandoned := lastSixteen (t.abandoned ++ [r]) }, radio := s.radio.leave (.fare r) })

/-- The oldest report of a full list is abandoned (R110). -/
def State.makeRoomForReport (s : State) : State :=
  match s.trips.reports with
  | e :: _ => if 8 ≤ s.trips.reports.length then s.abandonReport e.record.ref else s
  | [] => s

/-- The report of a closed trip enters the list (R110): a report of the same reference, and then the oldest of a full list, is
abandoned first (log entry 32). -/
def State.listReport (record : TripRecord) (s : State) : State :=
  let r := record.ref
  let s := if s.trips.reports.any (fun e => e.record.ref == r) then s.abandonReport r else s
  let s := s.makeRoomForReport
  State.changeTotalsFor r (fun t => { t with reportsInList := satAdd t.reportsInList 1#16 })
    { s with
      trips := { s.trips with
        abandoned := s.trips.abandoned.erase r, reports := s.trips.reports ++ [⟨record, 0, 0, false⟩] } }

/-! ## The trip log (R107 to R109) -/

/-- The deposit of a record begins. -/
def State.beginTripDeposit (record : TripRecord) (plan : Deposit) (s : State) : State :=
  State.requestWrite .tripDeposit { s with trips := { s.trips with deposit := some ⟨record, plan⟩ } }

/-- A record joins the end of the pending-log list; a full list loses its oldest record (R108). -/
def State.pendRecord (record : TripRecord) (s : State) : State :=
  let s := match s.trips.pendingLog with
    | old :: rest =>
      if 2 ≤ s.trips.pendingLog.length then
        State.changeTotalsFor old.ref (fun t => { t with tripsNotLogged := satAdd t.tripsNotLogged 1#16 })
          { s with trips := { s.trips with pendingLog := rest } }
      else s
    | [] => s
  { s with trips := { s.trips with pendingLog := s.trips.pendingLog ++ [record] } }

/-- A closed record is offered to the trip log (R107). -/
def State.offerToLog (record : TripRecord) (s : State) : State :=
  if s.trips.deposit.isNone && s.trips.pendingLog.isEmpty then
    match s.msgs.triplog.plan record.bytes with
    | some plan => s.beginTripDeposit record plan
    | none => s.pendRecord record
  else s.pendRecord record

/-- The pending-log list is served (R108). -/
def State.servePending (s : State) : State :=
  match s.trips.deposit, s.trips.pendingLog with
  | none, record :: rest =>
    match s.msgs.triplog.plan record.bytes with
    | some plan => State.beginTripDeposit record plan { s with trips := { s.trips with pendingLog := rest } }
    | none => s
  | _, _ => s

/-- The end of a TRIPLOG deposit (R107, R108). -/
def State.endTripDeposit (s : State) : State :=
  match s.trips.deposit with
  | some d =>
    State.servePending
      (State.raise .tripClosed (State.moveOwn .triplog d.plan.newPtr { s with trips := { s.trips with deposit := none } }))
  | none => s

/-! ## Shifts (R2, R114, R117, R118) -/

/-- The read copy of the totals block is loaded with the current totals (R116). -/
def State.loadTotalsCopy (s : State) : State :=
  { s with trips := { s.trips with totalsCopy := s.trips.totals.image 0#32 } }

/-- A shift opens (R2, R114): the number advances, the totals are zeroed, trip numbering restarts and the totals' read copy is loaded. -/
def State.openShift (driver : Word) (meterOpened : Bool) (s : State) : State :=
  let number := nextSkippingZero s.status.shiftNumber
  State.loadTotalsCopy
    { s with
      status := { s.status with shiftOpen := true, shiftNumber := number, driverId := driver, meterOpened := meterOpened },
      trips := { s.trips with
        counter := 1#16,
        totals := { Totals.zero with
          shiftNumber := number, driverId := driver, meterOpened := meterOpened, openTime := s.link.clock } } }

/-- A taken CLOSE in the Trip Engine (R117, R118): the totals are captured, the snapshot is handed to the requester and the shift
report place is filled; an older report is abandoned. -/
def State.closeTotals (s : State) : State :=
  let c : ClosedTotals := ⟨s.trips.totals, s.link.clock⟩
  let older := s.trips.shiftReport
  let s := State.requestRewrite .totalsSnapshot
    { s with
      trips := { s.trips with captured := some c, shiftReport := some ⟨c, 0, 0, false⟩ },
      radio := match older with
        | some r => s.radio.leave (.shift r.content.totals.shiftNumber)
        | none => s.radio }
  State.settleLong (if older.isSome then s.raise .reportDone else s)

/-! ## The open trip (R96 to R101) -/

def Groups.add (g : Groups) (k : Fin 4) (amount : DWord) : Groups :=
  match k with
  | 0 => { g with g0 := satAdd g.g0 amount }
  | 1 => { g with g1 := satAdd g.g1 amount }
  | 2 => { g with g2 := satAdd g.g2 amount }
  | 3 => { g with g3 := satAdd g.g3 amount }

def Groups.addAll (a b : Groups) : Groups := ⟨satAdd a.g0 b.g0, satAdd a.g1 b.g1, satAdd a.g2 b.g2, satAdd a.g3 b.g3⟩

/-- The silence time, in seconds (R94). -/
def silenceTime : Nat := 15

/-- A well-formed message restarts the silence timer while a trip is open (R94). -/
def State.restartSilence (s : State) : State :=
  if s.trips.trip.isSome then { s with trips := { s.trips with silence := some silenceTime } } else s

/-- A change of the open trip record. -/
def State.changeTrip (f : OpenTrip → OpenTrip) (s : State) : State :=
  { s with trips := { s.trips with trip := s.trips.trip.map f } }

/-- A STEP on the open trip, with the group that the component map gives (R99). -/
def OpenTrip.step (group : Option (Fin 4)) (amount : DWord) (t : OpenTrip) : OpenTrip :=
  let t := { t with stepSum := satAdd t.stepSum amount, stepCount := satAdd t.stepCount 1#16 }
  match group with
  | some g => { t with groups := t.groups.add g amount }
  | none => { t with ungrouped := satAdd t.ungrouped amount }

/-- A TARIFF on the open trip (R100). -/
def OpenTrip.changeTariff (tariff : Byte) (now : DWord) (t : OpenTrip) : OpenTrip :=
  if t.tariffs.getLast?.map (·.tariff) = some tariff then t
  else if t.tariffs.length < 4 then { t with tariffs := t.tariffs ++ [⟨tariff, now⟩] }
  else { t with tariffs := t.tariffs.take 3 ++ [⟨tariff, now⟩], flags := { t.flags with overflow := true } }

/-- The meter-fault flag of the open trip is set (R94, R95). -/
def OpenTrip.fault (t : OpenTrip) : OpenTrip := { t with flags := { t.flags with meterFault := true } }

/-- The emergency flag of the open trip is set (R101). -/
def State.markTripEmergency (s : State) : State :=
  s.changeTrip (fun t => { t with flags := { t.flags with emergency := true } })

/-- Flags all clear. -/
def TripFlags.none : TripFlags := ⟨false, false, false, false, false, false⟩

/-- A trip opens (R98): the job is taken from the AWARDED entry, the record is filled and the status becomes HIRED. -/
def State.openTrip (tariff : Byte) (s : State) : State :=
  let job := s.offers.job
  let s := s.carryJob
  let now := s.link.clock
  State.setStatus .hired
    { s with
      trips := { s.trips with
        trip := some
          { ref := ⟨s.status.shiftNumber, s.trips.counter⟩, job := job.map (·.1), forced := (job.map (·.2)).getD false,
            startTime := now, startMark := s.link.seconds, tariffs := [⟨tariff, now⟩], groups := Groups.zero,
            ungrouped := 0#32, stepSum := 0#32, stepCount := 0#16,
            flags := { TripFlags.none with emergency := s.emerg.state != .clear } },
        counter := nextSkippingZero s.trips.counter,
        silence := some silenceTime } }

/-! ## Closing a trip (R102 to R106) -/

/-- What the cause of a close decides: the final fare, and the flags it sets. -/
structure TripEnd where
  fare : DWord
  interrupted : Bool
  forcedClose : Bool
  deriving DecidableEq, Repr

/-- The closed trip record (R106). The mismatch flag and the extras amount follow from the final fare (R102). -/
def State.closedRecord (t : OpenTrip) (e : TripEnd) (s : State) : TripRecord :=
  { ref := t.ref, driverId := s.status.driverId, meterOpened := s.status.meterOpened, job := t.job, forced := t.forced,
    startTime := t.startTime, closeTime := s.link.clock, duration := BitVec.ofNat 32 (s.link.seconds - t.startMark),
    tariffs := t.tariffs, groups := t.groups, ungrouped := t.ungrouped, stepSum := t.stepSum, stepCount := t.stepCount,
    fare := e.fare, extras := satSub e.fare t.stepSum,
    flags := { t.flags with
      interrupted := e.interrupted, forcedClose := e.forcedClose, mismatch := e.fare != t.stepSum },
    faultCode := if t.flags.meterFault then s.trips.lastFault else 0#8 }

/-- One more where the condition holds. -/
def countIf (b : Bool) (n : Word) : Word := if b then satAdd n 1#16 else n

/-- The shift totals take a closed trip (R115). -/
def Totals.take (r : TripRecord) (t : Totals) : Totals :=
  { t with
    tripsClosed := satAdd t.tripsClosed 1#16, tripsWithJob := countIf r.job.isSome t.tripsWithJob,
    tripsWithEmergency := countIf r.flags.emergency t.tripsWithEmergency, mismatches := countIf r.flags.mismatch t.mismatches,
    meterFaults := countIf r.flags.meterFault t.meterFaults, fareTotal := satAdd t.fareTotal r.fare,
    groupTotals := t.groupTotals.addAll r.groups, ungroupedTotal := satAdd t.ungroupedTotal r.ungrouped,
    extrasTotal := satAdd t.extrasTotal r.extras, hiredSeconds := satAdd t.hiredSeconds r.duration }

/-- The Status Unit is handed a close (R5, R103). -/
def State.statusAfterTrip (s : State) : State :=
  if s.status.status == .hired then s.setStatus (if s.offers.awarded.isSome then .assigned else .free) else s

/-- The close of the open trip (R103); an interrupted close does not reach the status (R104). -/
def State.closeTrip (e : TripEnd) (s : State) : State :=
  match s.trips.trip with
  | some t =>
    let record := s.closedRecord t e
    let s := State.changeTotals (Totals.take record)
      { s with trips := { s.trips with trip := none, silence := none, lastRef := t.ref } }
    let s := if e.interrupted then s else s.statusAfterTrip
    State.settleLong (State.listReport record (s.offerToLog record))
  | none => s

/-- The step sum of the open trip. -/
def TripEngine.openSum (t : TripEngine) : DWord := (t.trip.map (·.stepSum)).getD 0#32

/-! ## Meter messages (R93 to R104) -/

/-- A HIRE (R98, R104). -/
def State.takeHire (tariff : Byte) (s : State) : State :=
  if s.trips.trip.isSome then State.openTrip tariff (s.closeTrip ⟨s.trips.openSum, true, false⟩)
  else State.openTrip tariff (if s.status.shiftOpen then s else s.openShift 0#16 true)

/-- The group of a component code. -/
def TripEngine.groupOf (t : TripEngine) (component : Byte) : Option (Fin 4) := t.components.getD component.toNat none

/-- A STEP (R99). -/
def State.takeStep (component : Byte) (amount : Word) (s : State) : State :=
  State.restartSilence (s.changeTrip (OpenTrip.step (s.trips.groupOf component) (amount.setWidth 32)))

/-- A TARIFF (R100). -/
def State.takeTariff (tariff : Byte) (s : State) : State :=
  State.restartSilence (s.changeTrip (OpenTrip.changeTariff tariff s.link.clock))

/-- A STOP (R102). -/
def State.takeStop (fare : DWord) (s : State) : State := s.closeTrip ⟨fare, false, false⟩

/-- A FAULT (R95). -/
def State.takeFault (code : Byte) (s : State) : State :=
  let s := State.restartSilence (s.changeTrip OpenTrip.fault)
  State.raise .meter { s with trips := { s.trips with lastFault := code } }

/-- The silence timer runs out (R94). -/
def State.silenceEnds (s : State) : State :=
  if s.trips.trip.isSome && s.trips.silence.due then
    let s := s.changeTrip OpenTrip.fault
    State.raise .meter { s with trips := { s.trips with lastFault := 0#8, silence := none } }
  else s

/-- A taken CLOSE_TRIP (R105). -/
def State.forceClose (s : State) : State := s.closeTrip ⟨s.trips.openSum, false, true⟩

/-! ## Reports (R111 to R113, R118) -/

/-- The retransmit interval, in seconds (R111). -/
def retransmitAfter : Nat := 30

/-- A report's send is counted. -/
def FareReport.sent (now : Nat) (e : FareReport) : FareReport :=
  { e with sends := e.sends + 1, retransmit := now + retransmitAfter, come := false }

def ShiftReport.sent (now : Nat) (e : ShiftReport) : ShiftReport :=
  { e with sends := e.sends + 1, retransmit := now + retransmitAfter, come := false }

/-- The scheduler reports a fare report sent; a report that has left the list is ignored (R111). -/
def State.fareSent (r : TripRef) (s : State) : State :=
  { s with
    trips := { s.trips with
      reports := s.trips.reports.map (fun e => if e.record.ref = r then e.sent s.link.seconds else e) } }

/-- The scheduler reports a shift report sent (R118). -/
def State.shiftSent (number : Word) (s : State) : State :=
  { s with
    trips := { s.trips with
      shiftReport := s.trips.shiftReport.map (fun e =>
        if e.content.totals.shiftNumber = number then e.sent s.link.seconds else e) } }

/-- A sent report's retransmit time has come and was not taken yet. -/
def retransmitComes (now sends retransmit : Nat) (come : Bool) : Bool :=
  decide (1 ≤ sends) && !come && decide (retransmit ≤ now)

/-- The retransmit time of a listed report (R111). -/
def State.fareRetransmit (r : TripRef) (s : State) : State :=
  match s.trips.reports.find? (fun e => e.record.ref == r) with
  | some e =>
    if retransmitComes s.link.seconds e.sends e.retransmit e.come then
      State.settleLong
        (if 5 ≤ e.sends then s.abandonReport r
         else
          { s with
            trips := { s.trips with
              reports := s.trips.reports.map (fun e => if e.record.ref = r then { e with come := true } else e) } })
    else s
  | none => s

/-- The retransmit time of the shift report (R118). -/
def State.shiftRetransmit (s : State) : State :=
  match s.trips.shiftReport with
  | some e =>
    if retransmitComes s.link.seconds e.sends e.retransmit e.come then
      State.settleLong
        (if 5 ≤ e.sends then State.raise .reportDone { s with trips := { s.trips with shiftReport := none } }
         else { s with trips := { s.trips with shiftReport := some { e with come := true } } })
    else s
  | none => s

/-- An ACK of kind FARE (R113). A report on the air is sent to its end with no effect. -/
def State.ackFare (r : TripRef) (s : State) : State :=
  if s.trips.reports.any (fun e => e.record.ref == r) then
    State.settleLong
      (State.raise .reportDone
        (State.changeTotalsFor r Totals.listedToAcknowledged
          { s with trips := s.trips.unlist r, radio := s.radio.leave (.fare r) }))
  else if s.trips.abandoned.contains r then
    State.raise .reportDone
      (State.changeTotalsFor r Totals.abandonedToAcknowledged
        { s with trips := { s.trips with abandoned := s.trips.abandoned.erase r } })
  else s

/-- An ACK of kind SHIFT (R118). -/
def State.ackShift (number : Word) (s : State) : State :=
  match s.trips.shiftReport with
  | some e =>
    if e.content.totals.shiftNumber = number then
      State.settleLong
        (State.raise .reportDone
          { s with trips := { s.trips with shiftReport := none }, radio := s.radio.leave (.shift number) })
    else s
  | none => s

/-! ## Soft reset (R121) -/

/-- The record of a deposit under way returns to the head of the pending-log list, also while its pointer write is on the port (log entry 49);
a full list loses its oldest pending record (R108, R109). A deposit whose pointer write is complete has ended, and its record does not return
(R107). -/
def State.returnDeposit (s : State) : State :=
  match s.trips.deposit with
  | some d =>
    let written := s.depositWritten .tripDeposit
    let s := { s with trips := { s.trips with deposit := none } }
    if written then s
    else
    let s := match s.trips.pendingLog with
      | old :: rest =>
        if 2 ≤ s.trips.pendingLog.length then
          State.changeTotalsFor old.ref (fun t => { t with tripsNotLogged := satAdd t.tripsNotLogged 1#16 })
            { s with trips := { s.trips with pendingLog := rest } }
        else s
      | [] => s
    { s with trips := { s.trips with pendingLog := d.record :: s.trips.pendingLog } }
  | none => s

/-- The Trip Engine's soft-reset rule, but for the deposit under way (R121). -/
def State.softResetTrips (s : State) : State :=
  State.loadTotalsCopy { s with trips := { s.trips with meterCopy := [] } }

end Sys2Proof.Machine
end

