-- ==== Sys2Proof/Machine/Messages.lean ====
section
/-! DEFINITION. The Message Engine (chapter 6): ring requests, outbound messages, inbound assembly, judging and flow. -/

namespace Sys2Proof.Machine

/-! ## Inbound flow (R144) -/

/-- The flow state changes and the flow frame is queued. -/
def State.changeFlow (paused : Bool) (s : State) : State :=
  State.handOn (State.fillFlow (if paused then .pause else .resume) { s with msgs := { s.msgs with paused := paused } })

/-- The free bytes of a ring in use. -/
def Ring.free (r : Ring) : Nat := freeBytes r.desc.dataSize r.own.toNat r.theirs.toNat

/-- The evaluation of the flow state; a CLOSED INBOUND counts as PAUSED. -/
def State.evaluateFlow (s : State) : State :=
  if s.msgs.inbound.state != .open then s
  else if !s.msgs.paused && decide (s.msgs.inbound.free < s.msgs.pauseAt) then s.changeFlow true
  else if s.msgs.paused && decide (s.msgs.resumeAt ≤ s.msgs.inbound.free) then s.changeFlow false
  else s

/-! ## Outbound fetch (R131, R132) -/

/-- The events of R131 look for a record to fetch. -/
def State.lookForRecord (s : State) : State :=
  if s.msgs.outbound.state == .open && s.msgs.flight == .none && s.msgs.outbound.theirs != s.msgs.outbound.own then
    State.requestRead .outboundFetch { s with msgs := { s.msgs with flight := .fetching .reading } }
  else s

/-- The reads at the output pointer with which a fetch begins. -/
def Ring.firstReads (r : Ring) : List MemCycle := readCycles (r.desc.dataOffset r.own.toNat) 2

/-- Completion of a record that fails a check: its advance is its length where it lies within the filled bytes and before the end, and
otherwise the input pointer copy (R132). A header that runs past the end of the data area has no outcome field to write. -/
def Ring.rejection (r : Ring) (tag : Word) (length filled : Nat) : OutCompletion :=
  let d := r.desc.dataSize
  let out := r.own.toNat
  let n := 8 + roundUp4 length
  { outcome := .rejected, tag := tag, at_ := out, writeOutcome := decide (out + 8 ≤ d),
    after := if n ≤ filled ∧ out + n ≤ d then advance d out n else r.theirs.toNat }

/-- FREE or CANNED. -/
def validKind (k : Byte) : Bool := k == 1#8 || k == 2#8

/-- What a fetch does once the reads so far are made. -/
inductive FetchStep where
  | more (cycles : List MemCycle)
  | wrapped (cycles : List MemCycle)
  | incomplete
  | done (verdict : FetchVerdict)
  deriving DecidableEq, Repr

/-- The message that a fetched record makes (R132, R223). Its length is the word at 04h (the model's choice, log entry 59). -/
def Ring.fetched (r : Ring) (got : List Word) : OutMessage :=
  let w0 := got.getD 0 0#16
  let n := (got.getD 2 0#16).toNat
  { tag := got.getD 1 0#16, kind := Word.lower w0, urgent := w0.getLsbD 8, text := (ofWords (got.drop 4)).take n,
    fragments := if n = 0 then 1 else (n + 39) / 40, next := 0, sends := 1, ackWait := none, at_ := r.own.toNat,
    after := advance r.desc.dataSize r.own.toNat (8 + roundUp4 n) }

/-- The first 4 bytes are read (R126, R131): a WRAP marker moves the fetch to 0; fewer than 8 filled bytes end it; else the rest of
the header is read, unless it lies past the end of the data area (log entry 18). -/
def Ring.afterFirst (r : Ring) (got : List Word) : FetchStep :=
  let d := r.desc.dataSize
  let out := r.own.toNat
  let filled := filledBytes d r.theirs.toNat out
  if got.getD 0 0#16 = 0xFFFF#16 ∧ got.getD 1 0#16 = 0xFFFF#16 ∧ 4 ≤ filled then
    .wrapped (.write (r.desc.base.toNat + 2) 0#16 :: readCycles (r.desc.dataOffset 0) 2)
  else if filled < 8 then .incomplete
  else if d < out + 8 then .done (.rejected (r.rejection (got.getD 1 0#16) 0 filled))
  else .more (readCycles (r.desc.dataOffset (out + 4)) 2)

/-- The header is read (R131, R132, R223). The length field at 04h is read as the word of the bytes 04h and 05h, so that a byte 05h other than 0
makes the length exceed 200 and the record REJECTED; R223 does not state the field's width, and the word is the model's choice (log entry
59). -/
def Ring.afterHeader (r : Ring) (got : List Word) : FetchStep :=
  let d := r.desc.dataSize
  let out := r.own.toNat
  let filled := filledBytes d r.theirs.toNat out
  let length := (got.getD 2 0#16).toNat
  let n := 8 + roundUp4 length
  if !validKind (Word.lower (got.getD 0 0#16)) || decide (200 < length) then
    .done (.rejected (r.rejection (got.getD 1 0#16) length filled))
  else if filled < n then .incomplete
  else if d < out + n then .done (.rejected (r.rejection (got.getD 1 0#16) length filled))
  else if length = 0 then .done (.passed (r.fetched got))
  else .more (readCycles (r.desc.dataOffset (out + 8)) (roundUp4 length / 2))

/-- The next step of a fetch by the number of words read. -/
def Ring.fetchStep (r : Ring) (got : List Word) : FetchStep :=
  if got.length = 2 then r.afterFirst got
  else if got.length = 4 then r.afterHeader got
  else .done (.passed (r.fetched got))

/-- OUTBOUND becomes CLOSED when its message has completed or its fetch has ended. -/
def State.closeIfClosing (s : State) : State :=
  if s.msgs.outbound.state == .closing then s.setRing .outbound { s.msgs.outbound with state := .closed } else s

/-- The reads of a fetch that were ordered are made: the fetch goes on, it ends at once on an incomplete record with no message in
flight (R131), or its verdict stands. -/
def State.continueFetch (u : UnderWay) (s : State) : State :=
  let r := s.msgs.outbound
  match r.fetchStep u.got with
  | .more cycles => { s with path := { s.path with under := some { u with cycles := cycles } } }
  | .wrapped cycles =>
    State.moveOwn .outbound 0 { s with path := { s.path with under := some { u with cycles := cycles, got := [] } } }
  | .incomplete => State.closeIfClosing { s with msgs := { s.msgs with flight := .none } }
  | .done v => { s with msgs := { s.msgs with flight := .fetching v } }

/-- The message completes while a fragment is on the air: the fragment is sent to its end and the report of its send is ignored (R134). -/
def Transceiver.leaveText (r : Transceiver) : Transceiver :=
  match r.sending with
  | some ⟨.text tag index, _, _⟩ => r.leave (.text tag index)
  | _ => r

/-- The message in flight completes (R136). -/
def State.completeOutbound (c : OutCompletion) (s : State) : State :=
  State.settleLong
    (State.requestWrite .outboundCompletion
      { s with msgs := { s.msgs with flight := .completing c }, radio := s.radio.leaveText })

/-- The end of a fetch by its verdict (R132); one that found an incomplete record has ended before (R131). -/
def State.endFetch (s : State) : State :=
  match s.msgs.flight with
  | .fetching (.rejected c) => s.completeOutbound c
  | .fetching (.passed m) => State.settleLong { s with msgs := { s.msgs with flight := .flight m } }
  | _ => s

/-- The cycles of a completion: the outcome, then the output pointer (R136). -/
def Ring.completionCycles (r : Ring) (c : OutCompletion) : List MemCycle :=
  (if c.writeOutcome then [.write (r.desc.dataOffset (c.at_ + 6)) (c.outcome.code.setWidth 16)] else []) ++
    [.write (r.desc.base.toNat + 2) (BitVec.ofNat 16 c.after)]

/-- The end of a completion (R136). -/
def State.endCompletion (s : State) : State :=
  match s.msgs.flight with
  | .completing c =>
    let s := State.moveOwn .outbound c.after
      { s with msgs := { s.msgs with flight := .none, lastOut := ⟨c.outcome, c.tag⟩ } }
    State.lookForRecord (State.closeIfClosing (s.raise .msgOutDone))
  | _ => s

/-! ## The message in flight (R133 to R135) -/

/-- A change of the message in flight. -/
def State.changeFlight (f : OutMessage → OutMessage) (s : State) : State :=
  match s.msgs.flight with
  | .flight m => { s with msgs := { s.msgs with flight := .flight (f m) } }
  | _ => s

/-- The acknowledgment wait, in seconds (R133). -/
def ackWaitTime : Nat := 20

/-- A fragment was sent: the last one starts the acknowledgment wait (R62, R133), and the one offered next moves the message on (log entry
17). -/
def OutMessage.fragmentSent (index : Nat) (m : OutMessage) : OutMessage :=
  { m with
    next := if m.next = index then index + 1 else m.next,
    ackWait := if index + 1 = m.fragments then some ackWaitTime else m.ackWait }

/-- The scheduler reports a fragment of the tag in flight sent (R62, R133). -/
def State.textSent (tag : Word) (index : Nat) (s : State) : State :=
  s.changeFlight (fun m => if m.tag = tag ∧ index < m.fragments then m.fragmentSent index else m)

def OutMessage.completion (m : OutMessage) (o : OutOutcome) : OutCompletion := ⟨o, m.tag, m.at_, true, m.after⟩

/-- An ACK of TEXT (R134). One that comes while the record of its tag is being fetched, or while the completion is being written, changes
nothing (log entry 53). -/
def State.ackText (tag : Word) (s : State) : State :=
  match s.msgs.flight with
  | .flight m => if m.tag = tag then s.completeOutbound (m.completion .delivered) else s
  | _ => s

/-- The whole message is offered again. The owner is told of a fragment on the air as of any other send (R43, R62, log entry 17). -/
def State.restartMessage (f : OutMessage → OutMessage) (s : State) : State :=
  s.changeFlight (fun m => { f m with next := 0 })

/-- The acknowledgment wait runs out (R134). -/
def State.ackWaitEnds (s : State) : State :=
  match s.msgs.flight with
  | .flight m =>
    if m.ackWait.due then
      if 3 ≤ m.sends then s.completeOutbound (m.completion .failed)
      else
        State.settleLong (s.restartMessage (fun m => { m with sends := m.sends + 1, ackWait := none }))
    else s
  | _ => s

/-- An exit from JOINED is handed to the Message Engine (R135). -/
def State.exitToMessages (s : State) : State := s.restartMessage id

/-! ## Inbound messages (R137 to R143) -/

def MessageEngine.buffer (m : MessageEngine) : BufferId → Buffer
  | .buffer0 => m.buffer0
  | .buffer1 => m.buffer1

def MessageEngine.setBuffer (m : MessageEngine) (b : BufferId) (v : Buffer) : MessageEngine :=
  match b with
  | .buffer0 => { m with buffer0 := v }
  | .buffer1 => { m with buffer1 := v }

def State.setBuffer (b : BufferId) (v : Buffer) (s : State) : State := { s with msgs := s.msgs.setBuffer b v }

def Buffer.assembly? : Buffer → Option Assembly
  | .empty => none
  | .assembling a => some a
  | .closed _ => none

def Buffer.message? : Buffer → Option InMessage
  | .empty => none
  | .assembling _ => none
  | .closed m => some m

/-- Every index is received. -/
def Assembly.complete (a : Assembly) : Bool := a.parts.all Option.isSome

/-- A message closes: it stays in its buffer with the close time (R140). -/
def State.closeBuffer (b : BufferId) (a : Assembly) (truncated : Bool) (s : State) : State :=
  { s with
    msgs := { s.msgs.setBuffer b
        (.closed ⟨a.tag, a.urgent, a.ackRequired, truncated, a.parts, s.link.clock, s.msgs.stamp⟩) with
      stamp := s.msgs.stamp + 1 } }

/-- The ACK that a complete message asks for is queued (R140, R141). -/
def State.queueAck (m : InMessage) (s : State) : State := if m.ackRequired && !m.truncated then s.addAck m.tag else s

/-- A message is dropped (R142). -/
def State.dropMessage (s : State) : State := s.count .messagesDropped

/-- The judging of the message of a CLOSED buffer, which becomes EMPTY (R140 to R142). -/
def State.judge (b : BufferId) (m : InMessage) (s : State) : State :=
  let s := s.setBuffer b .empty
  if s.msgs.delivered.contains m.tag then s.queueAck m
  else
    match s.msgs.inbound.plan m.bytes with
    | some plan => State.requestWrite .inboundDeposit { s with msgs := { s.msgs with deposit := some ⟨m, plan⟩ } }
    | none => s.dropMessage

/-- The CLOSED buffer that closed earliest. -/
def MessageEngine.earliestClosed (m : MessageEngine) : Option (BufferId × InMessage) :=
  match m.buffer0.message?, m.buffer1.message? with
  | some a, some b => if a.closedAt < b.closedAt then some (.buffer0, a) else some (.buffer1, b)
  | some a, none => some (.buffer0, a)
  | none, some b => some (.buffer1, b)
  | none, none => none

/-- One judging, when no deposit is under way. -/
def State.judgeNext (s : State) : State :=
  match s.msgs.deposit, s.msgs.earliestClosed with
  | none, some (b, m) => s.judge b m
  | _, _ => s

/-- Judging goes on until a deposit begins or no CLOSED buffer remains; there are two buffers (R140). -/
def State.judgeAll (s : State) : State := s.judgeNext.judgeNext

/-- The ASSEMBLING buffer that holds a tag. -/
def MessageEngine.assemblingTag (m : MessageEngine) (tag : Word) : Option (BufferId × Assembly) :=
  match m.buffer0.assembly?, m.buffer1.assembly? with
  | some a, some b => if a.tag = tag then some (.buffer0, a) else if b.tag = tag then some (.buffer1, b) else none
  | some a, none => if a.tag = tag then some (.buffer0, a) else none
  | none, some b => if b.tag = tag then some (.buffer1, b) else none
  | none, none => none

/-- The inter-fragment time, in seconds (R137). -/
def interFragment : Nat := 10

/-- A fragment stored at its index restarts the timer; a duplicate's text is ignored (R137). -/
def Assembly.take (a : Assembly) (b : TextBody) : Assembly :=
  { a with
    parts := if (a.parts.getD b.index.toNat none).isSome then a.parts else a.parts.set b.index.toNat (some b.text),
    timer := some interFragment }

/-- A fragment that starts a new assembly (R138). -/
def newAssembly (b : TextBody) (stamp : Nat) : Assembly :=
  { tag := b.tag, count := b.count.toNat, urgent := b.flags.getLsbD 0, ackRequired := b.flags.getLsbD 1,
    parts := (List.replicate b.count.toNat none).set b.index.toNat (some b.text), timer := some interFragment, begun := stamp }

/-- An assembly is put into its buffer, and closes when every index is received. -/
def State.assemble (b : BufferId) (a : Assembly) (s : State) : State :=
  if a.complete then State.judgeAll (s.closeBuffer b a false) else s.setBuffer b (.assembling a)

/-- The buffer that a new assembly takes, with the assembly that is truncated for it (R138). -/
def MessageEngine.bufferFor (m : MessageEngine) : Option (BufferId × Option Assembly) :=
  match m.buffer0, m.buffer1 with
  | .empty, _ => some (.buffer0, none)
  | _, .empty => some (.buffer1, none)
  | .assembling a, .assembling b => if a.begun < b.begun then some (.buffer0, some a) else some (.buffer1, some b)
  | .assembling a, .closed _ => some (.buffer0, some a)
  | .closed _, .assembling b => some (.buffer1, some b)
  | .closed _, .closed _ => none

/-- An assembly is truncated so that its buffer can be taken: it is judged at once, and where it would have to wait it is dropped,
unless it repeats a message already delivered (log entry 29). -/
def State.truncateFor (b : BufferId) (a : Assembly) (s : State) : State :=
  let s := State.judgeAll (s.closeBuffer b a true)
  match s.msgs.buffer b with
  | .closed m =>
    let s := s.setBuffer b .empty
    if s.msgs.delivered.contains m.tag then s else s.dropMessage
  | .empty => s
  | .assembling _ => s

/-- A TEXT fragment that reaches the Message Engine (R137, R138). -/
def State.takeText (b : TextBody) (s : State) : State :=
  if b.count.toNat ≤ b.index.toNat ∨ b.count.toNat < 1 ∨ 5 < b.count.toNat ∨ 40 < b.text.length then s
  else
    match s.msgs.assemblingTag b.tag with
    | some (id, a) => if a.count = b.count.toNat then s.assemble id (a.take b) else s
    | none =>
      match s.msgs.bufferFor with
      | none => s
      | some (id, old) =>
        let s := match old with
          | some a => s.truncateFor id a
          | none => s
        let s := { s with msgs := { s.msgs with stamp := s.msgs.stamp + 1 } }
        s.assemble id (newAssembly b s.msgs.stamp)

/-- The inter-fragment timer of a buffer runs out (R139). -/
def State.interFragmentEnds (b : BufferId) (s : State) : State :=
  match s.msgs.buffer b with
  | .assembling a => if a.timer.due then State.judgeAll (s.closeBuffer b a true) else s
  | .empty => s
  | .closed _ => s

/-- The last four tags of a list (R143). -/
def lastFour (l : List Word) : List Word := l.drop (l.length - 4)

/-- The end of an inbound deposit (R141). -/
def State.endInboundDeposit (s : State) : State :=
  match s.msgs.deposit with
  | some d =>
    let s := State.raise .msgIn (State.moveOwn .inbound d.plan.newPtr { s with msgs := { s.msgs with deposit := none } })
    let s := { s with msgs := { s.msgs with delivered := lastFour (s.msgs.delivered ++ [d.message.tag]) } }
    State.judgeAll (State.evaluateFlow (s.queueAck d.message))
  | none => s

/-! ## Ring requests (R123, R127 to R130) -/

/-- A request's result is written. -/
def State.ringResult (id : RingId) (r : Result) (s : State) : State := s.setRing id { s.msgs.ring id with result := r }

/-- A refused ring request (R129). -/
def State.ringNotValid (id : RingId) (w : Word) (s : State) : State := State.raise .illegal (s.ringResult id ⟨w, .notValid⟩)

/-- OPEN (R128, R129): on a CLOSED ring with no OPEN check under way the check starts. -/
def State.ringOpen (id : RingId) (w : Word) (s : State) : State :=
  let r := s.msgs.ring id
  if r.state == .closed && r.check.isNone then
    State.requestRead (.headerRead id) (s.setRing id { r with check := some r.copies, result := ⟨w, .pending⟩ })
  else s.ringNotValid id w

/-- The waiting message of a CLOSED buffer is dropped (R130, R142). -/
def State.dropWaiting (b : BufferId) (s : State) : State :=
  match s.msgs.buffer b with
  | .closed _ => State.dropMessage (s.setBuffer b .empty)
  | .empty => s
  | .assembling _ => s

/-- CLOSE on an OPEN ring (R130, R144). -/
def State.closeRing (id : RingId) (s : State) : State :=
  match id with
  | .outbound =>
    s.setRing .outbound { s.msgs.outbound with state := if s.msgs.flight == .none then .closed else .closing }
  | .inbound =>
    let s := s.setRing .inbound { s.msgs.inbound with state := .closed }
    let s := State.dropWaiting .buffer1 (s.dropWaiting .buffer0)
    if s.msgs.paused then s else s.changeFlow true
  | .triplog => s.setRing .triplog { s.msgs.triplog with state := .closed }

/-- CLOSE (R129, R130). -/
def State.ringClose (id : RingId) (w : Word) (s : State) : State :=
  match (s.msgs.ring id).state with
  | .closed => s.ringNotValid id w
  | .closing => s.ringResult id ⟨w, .taken⟩
  | .open => State.closeRing id (s.ringResult id ⟨w, .taken⟩)

/-- A ring control request (R128 to R130, R202). -/
def State.ringControl (id : RingId) (lanes : Lanes) (data : Word) (s : State) : State :=
  let w := laneCombine lanes (s.msgs.ring id).controlCopy data
  let s := s.setRing id { s.msgs.ring id with controlCopy := w }
  if w = codeRingOpen then s.ringOpen id w
  else if w = codeRingClose then s.ringClose id w
  else s.ringNotValid id w

/-- A write of a descriptor word of a CLOSED ring (R123). -/
def State.descriptorWrite (id : RingId) (part : DescriptorWord) (lanes : Lanes) (data : Word) (s : State) : State :=
  let r := s.msgs.ring id
  s.setRing id
    { r with
      copies := match part with
        | .base => { r.copies with base := laneCombine lanes r.copies.base data }
        | .size => { r.copies with size := laneCombine lanes r.copies.size data } }

/-- What an acted-on pointer write starts (R127). -/
def State.pointerMoved (id : RingId) (s : State) : State :=
  match id with
  | .outbound => s.lookForRecord
  | .inbound => s.evaluateFlow
  | .triplog => s.servePending

/-- A write of the header word of the processor's pointer (R127). -/
def State.pointerWrite (id : RingId) (lanes : Lanes) (data : Word) (s : State) : State :=
  let r := s.msgs.ring id
  let w := laneCombine lanes r.theirs data
  if validPointer r.desc.dataSize w.toNat then State.pointerMoved id (s.setRing id { r with theirs := w })
  else State.raise .illegal (s.ringResult id ⟨0#16, .pointers⟩)

/-- The end of an OPEN check's header read (R128, R203). The result names OPEN with its outcome, also when another request was taken during the
check (log entry 46). -/
def State.endOpenCheck (id : RingId) (h : HeaderWords) (s : State) : State :=
  match (s.msgs.ring id).check with
  | some d =>
    let o := s.openOutcome id d h
    if o = .taken then State.pointerMoved id (s.setRing id ((s.msgs.ring id).opened id d h))
    else
      State.raise .illegal
        (s.setRing id { s.msgs.ring id with check := none, result := ⟨codeRingOpen, o⟩ })
  | none => s

/-! ## Seconds and soft reset -/

def Buffer.tick : Buffer → Buffer
  | .empty => .empty
  | .assembling a => .assembling { a with timer := a.timer.tick }
  | .closed m => .closed m

def Outbound.tick : Outbound → Outbound
  | .flight m => .flight { m with ackWait := m.ackWait.tick }
  | .none => .none
  | .fetching v => .fetching v
  | .completing c => .completing c

/-- A second passes on the timers of the Message Engine. -/
def MessageEngine.tick (m : MessageEngine) : MessageEngine :=
  { m with flight := m.flight.tick, buffer0 := m.buffer0.tick, buffer1 := m.buffer1.tick }

/-- The Message Engine's soft-reset rule (R147): the thresholds are kept. -/
def State.softResetMessages (s : State) : State :=
  { s with
    msgs := { MessageEngine.reset with pauseAt := s.msgs.pauseAt, resumeAt := s.msgs.resumeAt, stamp := s.msgs.stamp },
    radio := s.radio.leaveText }

end Sys2Proof.Machine
end

