-- ==== Sys2Proof/Machine/Link.lean ====
section
/-! DEFINITION. The Link Controller (chapter 2): link states, the hunt, joining, membership, cycle starts and beacons, and the outcome of a contention transmission that a beacon decides (R56, R57). -/

namespace Sys2Proof.Machine

/-! ## Orders -/

def State.give (o : Order) (s : State) : State := { s with radio := s.radio.give o }

/-- The channel to which the orders given so far tune the receiver. -/
def Transceiver.tuned (r : Transceiver) : Word :=
  r.deferred.foldl (fun c o => match o with
    | .tune d => d
    | .listen => c
    | .off => c
    | .send _ _ => c) r.channel

/-! ## Leaving JOINED and JOIN (R32, R64) -/

/-- The exit from JOINED is handed on: to the scheduler, the Message Engine and the Control Page logic (R32). LINK is raised at an exit into
SLEEP too (log entry 55). -/
def State.exitJoined (s : State) : State :=
  let s := State.exitToMessages
    { s with sched := s.sched.clearWorking, radio := s.radio.leave .slotRequest, page := { s.page with linkUp := false } }
  s.raise .link

/-- A leave from JOIN is told to the scheduler: the place is emptied and the contention state cleared (R55, R64); a grant wait ends. -/
def State.leaveJoin (s : State) : State :=
  { s with sched := s.sched.clearJoin, radio := s.radio.leave .join, link := { s.link with grantWait := none } }

/-- What the link state being left requires. -/
def State.exitLink (s : State) : State :=
  match s.link.state with
  | .joined => s.exitJoined
  | .join => s.leaveJoin
  | .off => s
  | .quiet => s
  | .hunt => s

/-- Candidate list, site record and counts as every entry into QUIET and OFF leaves them (R21, R22). -/
def LinkController.cleared (l : LinkController) (st : LinkState) : LinkController :=
  { l with
    state := st, candidates := [], joining := none, site := none, loss := 0, attempts := 0, grantWait := none, quiet := 0,
    hunt := none }

/-- The first channel of the channel list. -/
def LinkController.firstChannel (l : LinkController) : Word := l.channels.headD 0#16

/-- Entry into QUIET (R22): `tuneFirst` after power-on and after SLEEP; LISTEN on each entry from OFF. -/
def State.enterQuiet (tuneFirst : Bool) (s : State) : State :=
  let s := s.exitLink
  let s := if tuneFirst then s.give (.tune s.link.firstChannel) else s
  let s := if s.link.state == .off then s.give .listen else s
  { s with link := s.link.cleared .quiet }

/-- Entry into OFF (R21, R40). -/
def State.enterOff (s : State) : State :=
  let s := State.give .off s.exitLink
  { s with link := s.link.cleared .off }

/-! ## Candidates (R26 to R28) -/

/-- The rank of an ability set (R26). -/
def abilityRank (abilities : Byte) : Nat :=
  if hasText abilities && hasFare abilities then 1 else if hasFare abilities then 2 else if hasText abilities then 3 else 4

/-- The candidate of highest rank, the earliest among equals. -/
def selectCandidate : List Candidate → Option Candidate
  | [] => none
  | c :: rest =>
    match selectCandidate rest with
    | some d => if abilityRank d.abilities < abilityRank c.abilities then some d else some c
    | none => some c

/-- Entry into JOIN on a candidate (R27). -/
def State.enterJoin (c : Candidate) (s : State) : State :=
  let s := if s.radio.tuned = c.channel then s else s.give (.tune c.channel)
  { s with
    link := { s.link with state := .join, joining := some c, attempts := 0, loss := 0, grantWait := none, hunt := none },
    sched := { s.sched with joinPlace := true, joinAttempts := 0, contention := .idle } }

/-- A pass ends (R26). -/
def State.endPass (s : State) : State :=
  match selectCandidate s.link.candidates with
  | some c => s.enterJoin c
  | none => s.enterQuiet false

/-- The candidate being joined fails and is removed (R28); outside JOIN there is none. -/
def State.candidateFails (s : State) : State :=
  match s.link.joining with
  | some c =>
    let rest := s.link.candidates.erase c
    let s := s.leaveJoin
    match selectCandidate rest with
    | some d => State.enterJoin d { s with link := { s.link with candidates := rest } }
    | none => State.enterQuiet false { s with link := { s.link with candidates := rest } }
  | none => s

/-! ## The hunt (R23 to R25) -/

/-- A channel list without repeats. -/
def dropRepeats : List Word → List Word
  | [] => []
  | c :: rest => c :: (dropRepeats rest).filter (fun d => d != c)

/-- The hunt is a quick hunt (R25). -/
def State.quickHunt (s : State) : Bool := s.emerg.state != .clear

/-- The receiver is tuned to the next channel of the pass. -/
def State.tuneNext (c : Word) (rest : List Word) (s : State) : State :=
  let s := s.give (.tune c)
  { s with link := { s.link with state := .hunt, hunt := some ⟨c, rest, none⟩ } }

/-- A channel qualifies in the quick hunt: the pass ends and the link enters JOIN on it (R25). -/
def State.quickJoin (channel : Word) (r : Run) (s : State) : State :=
  let c : Candidate := ⟨channel, r.site, r.abilities⟩
  State.enterJoin c { s with link := { s.link with candidates := [c] } }

/-- The run with which the channel being listened to qualifies in a quick hunt that holds no candidate yet (R25). -/
def State.quickRun (h : Hunt) (s : State) : Option Run := if s.quickHunt && s.link.candidates.isEmpty then h.run else none

/-- The listen on a channel has ended: the next channel is tuned, or the pass ends (R23). In a quick hunt the pass ends with the candidates it
holds, and with none the channel qualifies by the beacons of its run, on the last channel too (R25). The emergency state is looked up here as
at each good beacon (log entry 38). -/
def State.nextChannel (s : State) : State :=
  match s.link.hunt with
  | some h =>
    match s.quickRun h, h.rest with
    | some r, _ => s.quickJoin h.channel r
    | none, [] => s.endPass
    | none, c :: rest => if s.quickHunt && !s.link.candidates.isEmpty then s.endPass else s.tuneNext c rest
  | none => s

/-- Entry into HUNT at the end of the QUIET wait (R22, R23). -/
def State.startHunt (s : State) : State :=
  match dropRepeats s.link.channels with
  | c :: rest => State.tuneNext c rest { s with link := { s.link with candidates := [] } }
  | [] => s

/-- The run after a good beacon (R24); `again` says that its cycle had a good beacon before, so that it does not arrive in the cycle after the
run's last beacon (log entry 16). -/
def nextRun (again : Bool) (run : Option Run) (site : Word) (abilities : Byte) : Run :=
  match run with
  | some r => if r.site = site then ⟨site, if again then r.count else r.count + 1, abilities⟩ else ⟨site, 1, abilities⟩
  | none => ⟨site, 1, abilities⟩

/-- A good beacon in HUNT (R24, R25). -/
def State.huntBeacon (again : Bool) (site : Word) (abilities : Byte) (s : State) : State :=
  match s.link.hunt with
  | some h =>
    let r := nextRun again h.run site abilities
    if s.quickHunt then if s.link.candidates.isEmpty then s.quickJoin h.channel r else s.endPass
    else if 3 ≤ r.count then
      State.nextChannel
        { s with
          link := { s.link with
            candidates := s.link.candidates ++ [⟨h.channel, site, abilities⟩], hunt := some { h with run := some r } } }
    else { s with link := { s.link with hunt := some { h with run := some r } } }
  | none => s

/-! ## The outcome of a contention transmission (R56, R57) -/

/-- The heard list holds the cab number: the frame sent is delivered. -/
def Scheduler.heard (u : Scheduler) : Contender → Scheduler
  | .alert => { u with alertAttempts := 0 }
  | .join => { u with joinPlace := false }
  | .bid job => u.dropBid job
  | .slotRequest => if u.slotRequest.isSome then u.requestSent else u

/-- A failed JOIN transmission (R27): the grant wait ends, and the candidate fails with its fourth attempt. -/
def State.joinFails (s : State) : State :=
  if 4 ≤ s.link.attempts then s.candidateFails else { s with link := { s.link with grantWait := none } }

/-- The frame sent has failed. -/
def State.contenderFails (c : Contender) (s : State) : State :=
  match c with
  | .alert => { s with sched := { s.sched with alertAttempts := min 4 (s.sched.alertAttempts + 1) } }
  | .join => State.joinFails { s with sched := { s.sched with joinAttempts := min 4 (s.sched.joinAttempts + 1) } }
  | .bid job => { s with sched := s.sched.bidFails job }
  | .slotRequest => { s with sched := s.sched.slotRequestFails }

/-- The next beacon answers an outstanding transmission (R56). -/
def State.contentionOutcome (heard : Bool) (s : State) : State :=
  match s.sched.contention with
  | .outstanding c =>
    let s := { s with sched := { s.sched with contention := .idle } }
    if heard then
      match c with
      | some c => { s with sched := s.sched.heard c }
      | none => s
    else
      let s := s.count .contentionFails
      match c with
      | some c => s.contenderFails c
      | none => s
  | .idle => s
  | .waiting _ _ => s
  | .slotted _ _ => s

/-! ## Cycles and beacons (R18, R29, R30) -/

def LongState.tick : LongState → LongState
  | .none => .none
  | .request => .request
  | .wait n => .wait (n - 1)
  | .held => .held
  | .rest n => .rest (n - 1)

/-- A grant whose last slot has passed ends (R62). -/
def State.endPassedGrant (s : State) : State :=
  match s.sched.grant with
  | some g => if g.seen && decide (g.stop ≤ s.link.nextSlot) then s.endGrant else s
  | none => s

/-- A cycle start is counted by every wait that is stated in cycles. -/
def State.countCycleStart (s : State) : State :=
  let s := s.endPassedGrant
  { s with
    link := { s.link with
      quiet := if s.link.state == .quiet then s.link.quiet + 1 else s.link.quiet, grantWait := cycleTick s.link.grantWait },
    sched := { s.sched with
      long := s.sched.long.tick, grant := s.sched.grant.map (fun g => { g with since := g.since + 1 }) },
    emerg := { s.emerg with repeatLeft := cycleTick s.emerg.repeatLeft },
    power := { s.power with parking := if s.power.power == .parking then s.power.parking - 1 else s.power.parking } }

/-- The beacon window closes on a miss (R18, R24, R29, R30). -/
def State.missBeacon (s : State) : State :=
  let s := { s with link := { s.link with window := false } }
  match s.link.state with
  | .hunt => { s with link := { s.link with hunt := s.link.hunt.map (fun h => { h with run := none }) } }
  | .join =>
    let s := State.count .beaconsMissed { s with link := { s.link with loss := s.link.loss + 1 } }
    let s := s.contentionOutcome false
    if s.link.state == .join && decide (5 ≤ s.link.loss) then s.candidateFails else s
  | .joined =>
    let s := State.count .beaconsMissed { s with link := { s.link with loss := s.link.loss + 1 } }
    let s := s.contentionOutcome false
    if 5 ≤ s.link.loss then s.enterQuiet false else s
  | .off => s
  | .quiet => s

/-- The beacon window closes: on a miss, unless a good beacon of the cycle has arrived (R18). A window that is still open when the next cycle
or slot 0 begins closes so too (log entry 16). -/
def State.closeWindow (s : State) : State :=
  if s.link.window then
    if s.link.beaconIn then { s with link := { s.link with window := false } } else s.missBeacon
  else s

/-- The timer starts the next cycle itself, and the beacon window of that cycle opens (R18). -/
def State.startCycle (s : State) : State :=
  let s := State.countCycleStart s.closeWindow
  { s with link := { s.link with cycle := s.link.cycle + 1#16, nextSlot := 0, window := true, beaconIn := false } }

/-- The flags of an ability set that the manual names. -/
def namedAbilities (abilities : Byte) : Byte := abilities &&& 7#8

/-- The heard list holds the cab number. -/
def State.heardIn (heard : List Word) (s : State) : Bool := heard.any (fun c => some c == s.power.image.map (·.cab))

/-- A good beacon of the current cycle has arrived and its window is still open: another one realigns the same cycle (R18). -/
def LinkController.beaconAgain (l : LinkController) : Bool := l.window && l.beaconIn

/-- A good beacon starts its cycle, or realigns it while the window is open, and sets the cab clock (R18 to R20). The window stays open until
slot 0 begins, for a cycle that a beacon starts as for one that the timer starts (log entry 16). -/
def State.alignCycle (b : BeaconBody) (s : State) : State :=
  let s := if s.link.window then s else s.countCycleStart
  { s with
    link := { s.link with
      cycle := b.cycle, nextSlot := 0, window := true, beaconIn := true, clock := b.time, contention := min 8 b.contention.toNat } }

/-- A good beacon (R18, R24, R25, R29, R30). -/
def State.takeBeacon (site : Word) (b : BeaconBody) (s : State) : State :=
  let abilities := namedAbilities b.abilities
  let again := s.link.beaconAgain
  let s := s.alignCycle b
  match s.link.state with
  | .off => s
  | .quiet => s
  | .hunt => s.huntBeacon again site abilities
  | .join => State.contentionOutcome (s.heardIn b.heard) { s with link := { s.link with loss := 0 } }
  | .joined =>
    State.settleLong
      (State.contentionOutcome (s.heardIn b.heard)
        { s with
          link := { s.link with loss := 0, site := s.link.site.map (fun r => { r with abilities := abilities }) } })

/-! ## Joining and rejoining (R27 to R31) -/

/-- The items of a GRANT of kind JOIN are in range (R28). -/
def grantJoinFits (slot period phase : Byte) : Bool :=
  decide (slot.toNat ≤ 23) && decide (1 ≤ period.toNat) && decide (period.toNat ≤ 8) && decide (phase.toNat < period.toNat)

/-- Entry into JOINED (R29, R32). The link leaves JOIN: the place is emptied, the grant wait ends, and a JOIN transmission that is outstanding is
forgotten with no outcome counted (R55). -/
def State.enterJoined (c : Candidate) (slot period phase : Byte) (s : State) : State :=
  let s := s.leaveJoin
  State.settleLong
    (State.raise .link
      { s with
        link := { s.link with
          state := .joined, site := some ⟨c.channel, c.site, c.abilities, slot, period, phase⟩, candidates := [], joining := none } })

/-- A GRANT of kind JOIN that reaches the Link Controller (R28, R29). -/
def State.takeGrantJoin (slot period phase : Byte) (s : State) : State :=
  match s.link.joining with
  | some c => if grantJoinFits slot period phase then s.enterJoined c slot period phase else s
  | none => s

/-- The grant wait of a JOIN transmission runs out (R27). -/
def State.joinGrantWaitEnds (s : State) : State :=
  if s.link.state == .join && s.link.grantWait == some 0 then
    if 4 ≤ s.link.attempts then s.candidateFails
    else
      { s with
        link := { s.link with grantWait := none }, sched := { s.sched with joinPlace := true, joinAttempts := 0 } }
  else s

end Sys2Proof.Machine
end

