-- ==== Sys2Proof/Machine/Power.lean ====
section
/-! DEFINITION. The power states, power requests and wake events (chapter 8, sections 8.1 to 8.3). -/

namespace Sys2Proof.Machine

/-! ## Coming up (R174, R177) -/

/-- Entry into ACTIVE: the power note becomes NONE, the parking count stops and keeps its value (log entry 50), and from SLEEP the link enters
QUIET on the first listed channel. -/
def State.enterActive (s : State) : State :=
  let s := if s.power.power == .sleep then s.enterQuiet true else s
  State.handOn { s with power := { s.power with power := .active, park := false } }

/-- The sources of wake events (R175). -/
inductive WakeSource where
  | switch | meter | ignition | radio
  deriving DecidableEq, Repr

/-- A source joins the wake reason set. -/
def WakeReason.add (r : WakeReason) : WakeSource → WakeReason
  | .switch => { r with switch := true }
  | .meter => { r with meter := true }
  | .ignition => { r with ignition := true }
  | .radio => { r with radio := true }

/-- The occurrence is a wake event in the power state (R175). -/
def WakeSource.wakesIn (w : WakeSource) : PowerState → Bool
  | .active => false
  | .parking => w != .radio
  | .standby => true
  | .sleep => w != .radio

/-- An occurrence that may be a wake event (R175, R177). -/
def State.wakeEvent (w : WakeSource) (s : State) : State :=
  if w.wakesIn s.power.power then
    let s := s.enterActive
    State.raise .power
      { s with power := { s.power with reason := s.power.reason.add w }, pins := { s.pins with wake := true } }
  else s

/-! ## Going down (R170 to R173) -/

/-- On entry into STANDBY contention becomes IDLE unless a transmission is outstanding (R65). -/
def Contention.rest : Contention → Contention
  | .outstanding c => .outstanding c
  | .idle => .idle
  | .waiting _ _ => .idle
  | .slotted _ _ => .idle

/-- Entry into PARKING (R170). -/
def State.enterParking (s : State) : State :=
  State.handOn { s with power := { s.power with power := .parking, park := true, parking := 10 } }

/-- Entry into STANDBY (R172): the parking count is 0 there, also when the PARK report has ended PARKING before it (log entry 50). -/
def State.enterStandby (s : State) : State :=
  State.raise .power
    (State.handOn
      { s with
        power := { s.power with power := .standby, parking := 0 }, sched := { s.sched with contention := s.sched.contention.rest } })

/-- Entry into SLEEP: the parking count stops and keeps its value (R173, log entry 50). -/
def State.enterSleep (s : State) : State :=
  let s := s.enterOff
  State.handOn
    { s with
      power := { s.power with power := .sleep },
      sched := { s.sched with contention := s.sched.contention.rest } }

/-- PARKING ends: in STANDBY, or in ACTIVE while the emergency state is not CLEAR (R171). -/
def State.endParking (s : State) : State :=
  if s.power.power == .parking then
    if s.emerg.state == .clear then s.enterStandby else State.raise .power s.enterActive
  else s

/-- The scheduler reports a STATUS frame sent (R48, R171). In PARKING the report of one that carries PARK ends it, also when the frame was keyed
in an earlier PARKING that was cancelled: R171 ignores a later report of that one and also ends PARKING on such a report, and that the report
counts for the new PARKING is the model's choice (log entry 58). -/
def State.statusSent (park : Bool) (s : State) : State := if park then s.endParking else s

/-! ## Power requests (R169) -/

/-- The checks of a STANDBY or SLEEP request (R169). -/
def State.downOutcome (s : State) : Outcome :=
  if s.trips.trip.isSome then .hired else if s.emerg.state != .clear then .emergency else .taken

/-- The outcome of a power request (R169). -/
def State.powerOutcome (w : Word) (s : State) : Outcome :=
  if w = codeActive then .taken
  else if w = codeStandby then (if s.power.power == .active then s.downOutcome else .notValid)
  else if w = codeSleep then (if s.power.power == .sleep then .notValid else s.downOutcome)
  else .notValid

/-- A taken power request is carried out (R170, R173, R174). -/
def State.powerChange (w : Word) (s : State) : State :=
  if w = codeActive then s.enterActive else if w = codeStandby then s.enterParking else s.enterSleep

/-- A write of the power request field (R169, R178, R202). -/
def State.powerRequest (lanes : Lanes) (data : Word) (s : State) : State :=
  let w := laneCombine lanes s.page.powerCopy data
  let s := { s with page := { s.page with powerCopy := w }, pins := { s.pins with wake := false } }
  let o := s.powerOutcome w
  let s := { s with power := { s.power with result := ⟨w, o⟩ } }
  if o = .taken then s.powerChange w else s.raise .refused

end Sys2Proof.Machine
end

