-- ==== Sys2Proof/Machine/Emergency.lean ====
section
/-! DEFINITION. The Emergency Unit (chapter 7): the switch, the raise field, ALERTING, ACKED and the cancel, the emergency record and its recovery. -/

namespace Sys2Proof.Machine

/-! ## Rewrites of the record (R159) -/

/-- A rewrite of the record is requested: one not yet begun carries it; one under way is followed by another. -/
def State.rewriteRecord (s : State) : State :=
  if s.path.queued .emergencyRewrite then s
  else if s.path.underWay .emergencyRewrite then { s with emerg := { s.emerg with owed := true } }
  else s.requestWrite .emergencyRewrite

/-- EMERGENCY waits for the rewrite that carries the change (R152, R155, R157). -/
def State.rewriteWithCause (s : State) : State :=
  State.rewriteRecord { s with emerg := { s.emerg with causeWaits := true } }

/-! ## Entry into ALERTING (R152, R162) -/

/-- The entry is handed to the Offer Engine, the Status Unit and the lamp logic (R86, R11, R13). -/
def State.alertingHandOn (s : State) : State :=
  let s := s.alertingToOffers
  State.handOn { s with status := { s.status with alarmOn := true } }

/-- The ALERT place is filled with an attempt count of 0 (R49). -/
def State.fillAlert (s : State) : State :=
  let s := s.refillAlert
  { s with sched := { s.sched with alertAttempts := 0 } }

/-- Entry into ALERTING from CLEAR or PRESSED (R152). -/
def State.enterAlerting (source : Source) (s : State) : State :=
  let s := if s.emerg.state == .clear then s.markTripEmergency else s
  let s := { s with
    emerg := { s.emerg with
      state := .alerting, number := nextSkippingZero s.emerg.number, source := source, raisedAt := s.link.clock,
      ackedAt := 0#32, cancelledAt := 0#32, sends := 0#16, hold := none } }
  State.alertingHandOn (State.rewriteWithCause s.fillAlert)

/-! ## The switch (R149, R150, R158) -/

/-- The hold time, in seconds. -/
def holdTime : Nat := 2

/-- A closing taken by the Emergency Unit (R149). -/
def State.takeClosing (s : State) : State :=
  let s := s.wakeEvent .switch
  if s.emerg.state == .clear then
    State.markTripEmergency { s with emerg := { s.emerg with state := .pressed, hold := some holdTime } }
  else s

/-- An opening taken by the Emergency Unit (R149). -/
def State.takeOpening (s : State) : State :=
  if s.emerg.state == .pressed then { s with emerg := { s.emerg with state := .clear, hold := none } } else s

/-- The hold timer runs out (R150). -/
def State.holdEnds (s : State) : State :=
  if s.emerg.state == .pressed && s.emerg.hold.due then s.enterAlerting .switch else s

/-! ## The raise field (R151) -/

/-- The outcome of a write of the emergency raise field, judged by the bytes written. -/
def EmergencyState.raiseOutcome (e : EmergencyState) (w : Word) : Outcome :=
  if w = 0#16 then .notValid else if e.raised then .notAllowed else .taken

/-- A write of the emergency raise field (R151). -/
def State.emergencyRaiseWrite (lanes : Lanes) (data : Word) (s : State) : State :=
  let w := laneMasked lanes data
  let o := s.emerg.state.raiseOutcome w
  let s := { s with emerg := { s.emerg with raiseResult := ⟨w, o⟩ } }
  if o = .taken then s.enterAlerting .terminal else s.raise .refused

/-! ## Sends, ACK and cancel (R154 to R157) -/

/-- The repeat time, in cycles. -/
def repeatTime : Nat := 10

/-- A send of the ALERT of a call is counted. -/
def State.countSend (s : State) : State := { s with emerg := { s.emerg with sends := satAdd s.emerg.sends 1#16 } }

/-- The scheduler reports an ALERT sent (R154, R156). -/
def State.alertSent (number : Word) (s : State) : State :=
  if number = s.emerg.number then
    match s.emerg.state with
    | .alerting => State.rewriteRecord (State.refillAlert s.countSend)
    | .acked =>
      State.rewriteRecord
        (State.countSend { s with emerg := { s.emerg with repeatLeft := some repeatTime } })
    | .clear => s
    | .pressed => s
  else s

/-- The repeat timer runs out (R156). -/
def State.repeatEnds (s : State) : State :=
  if s.emerg.state == .acked && s.emerg.repeatLeft == some 0 then
    State.refillAlert { s with emerg := { s.emerg with repeatLeft := none } }
  else s

/-- An ALERT_ACK that reaches the Emergency Unit (R155). -/
def State.takeAlertAck (number : Word) (s : State) : State :=
  if s.emerg.state == .alerting && number == s.emerg.number then
    let s := s.emptyAlert
    State.rewriteWithCause
      { s with emerg := { s.emerg with state := .acked, repeatLeft := some repeatTime, ackedAt := s.link.clock } }
  else s

/-- An ALERT_CANCEL that reaches the Emergency Unit (R157, R160). -/
def State.takeAlertCancel (number : Word) (s : State) : State :=
  if s.emerg.state.raised && number == s.emerg.number then
    let s := s.emptyAlert
    State.handOn
      (State.rewriteWithCause
        { s with
          sched := { s.sched with alertAttempts := 0 },
          emerg := { s.emerg with
            state := .clear, repeatLeft := none, cancelledAt := s.link.clock, guardHeld := true } })
  else s

/-! ## The end of a rewrite (R159, R160) -/

/-- The rewrite of the record has completed: the guard is lifted when it carried CLEAR and no further rewrite is to come; an
owed rewrite is queued. -/
def State.endRecordRewrite (carriesClear : Bool) (s : State) : State :=
  let more := s.emerg.owed || s.path.queued .emergencyRewrite
  let s := if carriesClear && !more then { s with emerg := { s.emerg with guardHeld := false } } else s
  if s.emerg.owed then State.requestWrite .emergencyRewrite { s with emerg := { s.emerg with owed := false } } else s

/-! ## Recovery (R166) -/

/-- What the judgment of the record read in RECOVERING finds. -/
inductive RecordJudgment where
  | notValid
  | clear (number : Word) (source : Source)
  | resumed (number : Word) (raisedAt : DWord) (sends : Word)
  deriving DecidableEq, Repr

/-- The source that the source word of a CLEAR record names; for an unlisted code a free value (log entry 6). -/
def sourceOf (code : Word) : Source :=
  if code = 1#16 then .switch else if code = 2#16 then .terminal else if code = 3#16 then .recovered
  else
    match Config.unlistedSource code with
    | 0 => .switch
    | 1 => .terminal
    | 2 => .recovered

/-- The judgment of the 64 words of the record (R166). -/
def judgeRecord (ws : List Word) : RecordJudgment :=
  let state := wordAt ws 2
  let number := wordAt ws 4
  if wordAt ws 0 ≠ emergencyMarker ∨ wordAt ws 0x7E ≠ wordSum (ws.take 63) then .notValid
  else if state = 0#16 then .clear number (sourceOf (wordAt ws 6))
  else if state = 1#16 ∨ state = 2#16 then
    (if number = 0#16 then .notValid else .resumed number (dwordAt ws 8) (wordAt ws 0x14))
  else .notValid

/-- The judgment is applied, and the recovery result is set (R166, R183). The record image stays empty where no rewrite is requested (log entry
54). -/
def State.recover (j : RecordJudgment) (s : State) : State :=
  match j with
  | .notValid => { s with power := { s.power with recovery := .notValid } }
  | .clear number source =>
    { s with
      power := { s.power with recovery := .clear }, emerg := { s.emerg with number := number, source := source } }
  | .resumed number raisedAt sends =>
    let s := { s with
      power := { s.power with recovery := .resumed },
      emerg := { s.emerg with
        state := .alerting, number := number, source := .recovered, raisedAt := raisedAt, sends := sends,
        ackedAt := 0#32, cancelledAt := 0#32 } }
    State.alertingHandOn (State.rewriteWithCause s.fillAlert)

end Sys2Proof.Machine
end

