-- ==== Sys2Proof/Machine/Slots.lean ====
section
/-! DEFINITION. What an uplink slot carries, and the end of a frame's sending (R44, R51, R52, R55, R62). -/

namespace Sys2Proof.Machine

/-! ## The grant at a slot start (R62) -/

/-- The grant has ended: its last slot has passed, or another cycle has begun after it (R62, log entry 30), in STANDBY too (log entry 47). -/
def State.grantOver (k : Nat) (s : State) : Bool :=
  s.sched.grant.any (fun g => g.seen && (g.cycle != s.link.cycle || decide (g.stop ≤ k)))

/-- A slot of the granted cycle has begun. -/
def State.seeGrant (s : State) : State :=
  { s with
    sched := { s.sched with grant := s.sched.grant.map (fun g => { g with seen := g.seen || g.cycle == s.link.cycle }) } }

/-- A finished grant ends at the start of a slot; one whose cycle has begun is marked. -/
def State.grantAtSlot (k : Nat) (s : State) : State := State.seeGrant (if s.grantOver k then s.endGrant else s)

/-- The slot is the first slot of one of the grant's long slots in the granted cycle (R44). -/
def State.longSlotStarts (k : Nat) (s : State) : Bool :=
  s.sched.grant.any (fun g =>
    g.cycle == s.link.cycle && decide (g.start ≤ k) && decide (k < g.stop) && decide ((k - g.start) % 3 = 0))

/-! ## Choosing a frame -/

/-- A frame as it goes on the air. -/
structure Outgoing where
  name : FrameName
  bytes : List Byte
  deriving DecidableEq, Repr

/-- The long frame chosen for a long slot (R62): the oldest due fare report, the shift report, the next due fragment. -/
def State.longFrame (s : State) : Option Outgoing :=
  let fare := if s.siteHasFare then s.trips.reports.find? FareReport.due else none
  let shift := if s.siteHasFare then s.trips.shiftReport.filter ShiftReport.due else none
  match fare, shift, s.msgs.flight with
  | some r, _, _ => some ⟨.fare r.record.ref, s.fareFrame (r.sends + 1) r.record⟩
  | none, some r, _ => some ⟨.shift r.content.totals.shiftNumber, s.shiftFrame (r.sends + 1) r.content⟩
  | none, none, .flight m =>
    if s.siteHasText && decide (m.next < m.fragments) then some ⟨.text m.tag m.next, s.textFrame m m.next⟩ else none
  | none, none, _ => none

/-- The slot request at the start of its slot, with the count of sendable long frames up to 8 (R59). -/
def State.slotRequestOut (s : State) : Outgoing := ⟨.slotRequest, s.slotRequestFrame (min 8 s.sendable)⟩

/-- The frame that the reserved-slot arbiter takes (R51). -/
def State.arbiterFrame (s : State) : Option Outgoing :=
  match s.sched.alertPlace, s.sched.acks, s.sched.bids, s.sched.flowPlace, s.sched.slotRequest, s.sched.statusPlace with
  | some a, _, _, _, _, _ => some ⟨.alert a.number, s.alertFrame a⟩
  | none, tag :: _, _, _, _, _ => some ⟨.ack tag, s.ackFrame tag⟩
  | none, [], b :: _, _, _, _ => some ⟨.bid b.job, s.bidFrame b⟩
  | none, [], [], some c, _, _ => some ⟨.flow, s.flowFrame c⟩
  | none, [], [], none, some _, _ => some s.slotRequestOut
  | none, [], [], none, none, some r => some ⟨.status r.park, s.statusFrame r⟩
  | none, [], [], none, none, none => none

/-- The contender as it goes on the air, if it is still in its place and may be transmitted (R43, R55). -/
def State.contenderFrame (c : Contender) (s : State) : Option Outgoing :=
  match c with
  | .alert =>
    match s.sched.alertPlace with
    | some a => if s.mayTransmit then some ⟨.alert a.number, s.alertFrame a⟩ else none
    | none => none
  | .join => if s.mayJoin && s.sched.joinPlace then some ⟨.join, s.joinFrame⟩ else none
  | .bid job =>
    match s.sched.bids.find? (fun b => b.job == job) with
    | some b => if s.mayTransmit then some ⟨.bid job, s.bidFrame b⟩ else none
    | none => none
  | .slotRequest => if s.mayTransmit && s.sched.slotRequest.isSome then some s.slotRequestOut else none

/-- A frame is handed to the transceiver for a slot (R16). -/
def State.send (via : Via) (k : Nat) (f : Outgoing) (s : State) : State :=
  { s with radio := s.radio.beginSend f.name via k f.bytes }

/-- A transmission of the JOIN frame is a join attempt and starts the grant wait; the Link Controller is told as it begins (R27, R55). -/
def State.contenderKeyed (c : Contender) (s : State) : State :=
  match c with
  | .join => { s with link := { s.link with attempts := s.link.attempts + 1, grantWait := some 4 } }
  | .alert => s
  | .bid _ => s
  | .slotRequest => s

/-- The use of the drawn contention slot (R55). -/
def State.useDrawnSlot (k : Nat) (s : State) : State :=
  match s.sched.contention with
  | .slotted c d =>
    if d = k then
      match s.contenderFrame c with
      | some f =>
        State.send .contention k f
          (State.contenderKeyed c { s with sched := { s.sched with contention := .outstanding (some c) } })
      | none => { s with sched := { s.sched with contention := .idle } }
    else s
  | .idle => s
  | .waiting _ _ => s
  | .outstanding _ => s

/-- The long frame that begins in the slot, if one does (R44). -/
def State.longUse (k : Nat) (s : State) : Option Outgoing :=
  if s.mayTransmit && s.longSlotStarts k then s.longFrame else none

/-- The frame that the reserved slot carries, if the slot is the cab's reserved slot (R44, R51). -/
def State.reservedUse (k : Nat) (s : State) : Option Outgoing :=
  if s.mayTransmit && s.reservedSlot == some k then s.arbiterFrame else none

/-- What the slot carries: the first use of R44 that applies. While a frame is on the air the slot carries the rest of it. -/
def State.useSlot (k : Nat) (s : State) : State :=
  if s.radio.sending.isSome then s
  else
    match s.longUse k, s.reservedUse k with
    | some f, _ => s.send .long k f
    | none, some f => s.send .reserved k f
    | none, none => s.useDrawnSlot k

/-- The slot mark of a slot (R16). -/
def State.markSlot (k : Nat) (s : State) : State :=
  { s with
    link := { s.link with nextSlot := k + 1 }, radio := { s.radio with output := s.radio.output ++ [LinkOutput.slotMark k] } }

/-- The start of the next uplink slot of the cycle (R44, R53, R62). The beacon window closes when slot 0 begins (R18). The slot mark is recorded
before the SEND of the slot's frame: the model's order (log entry 22). -/
def State.startSlot (s : State) : State :=
  let s := s.closeWindow
  let k := s.link.nextSlot
  let s := State.grantAtSlot k (s.markSlot k)
  let s := if k = 0 then s.contenderChoice else s
  s.useSlot k

/-- The backoff wait has reached 0 at a slot 0 start, and the slot is drawn (R54). -/
def State.backoffEnds (s : State) : State :=
  if s.link.nextSlot = 1 ∧ (s.mayTransmit || s.mayJoin) = true then s.drawSlot else s

/-! ## The end of a short frame (R52, R55) -/

/-- A frame sent in the reserved slot leaves contention while it waits there; an outstanding ALERT stays to be answered (R49, R58). -/
def Contention.yield (k : Contention) (c : Contender) : Contention :=
  match k with
  | .outstanding d => .outstanding d
  | .idle => .idle
  | .waiting d w => if d = c then .idle else .waiting d w
  | .slotted d n => if d = c then .idle else .slotted d n

/-- The scheduler empties the ALERT place after a send and tells the Emergency Unit (R49). -/
def State.alertDelivered (number : Word) (s : State) : State :=
  let s := if s.sched.alertPlace.any (fun a => a.number == number) then
      { s with sched := { s.sched with alertPlace := none } }
    else s
  s.alertSent number

/-- A frame sent in the reserved slot is delivered (R52). One that has left its place meanwhile is not reported, so that a slot request emptied
on the air is not counted (log entry 45). A STATUS frame is reported by the power note that it carries, whatever PARKING it was keyed in: one
that carries PARK, keyed in a PARKING that was cancelled since, ends a PARKING that a new STANDBY request began (the model's choice, log entry
58). -/
def State.deliver (f : Sending) (s : State) : State :=
  match f.name with
  | .alert number =>
    State.alertDelivered number { s with sched := { s.sched with contention := s.sched.contention.yield .alert } }
  | .ack tag => if f.live then { s with sched := { s.sched with acks := s.sched.acks.erase tag } } else s
  | .bid job => if f.live then { s with sched := s.sched.dropBid job } else s
  | .flow => if f.live then { s with sched := { s.sched with flowPlace := none } } else s
  | .slotRequest => if f.live then { s with sched := (s.sched.leave .slotRequest).requestSent } else s
  | .status park => s.statusSent park
  | .join => s
  | .fare _ => s
  | .shift _ => s
  | .text _ _ => s

/-- A frame sent in contention waits for the beacon's answer; the Emergency Unit is told of the send of an ALERT (R49, R55). -/
def State.transmitted (f : Sending) (s : State) : State :=
  match f.name with
  | .alert number => s.alertDelivered number
  | .join => s
  | .ack _ => s
  | .bid _ => s
  | .flow => s
  | .slotRequest => s
  | .status _ => s
  | .fare _ => s
  | .shift _ => s
  | .text _ _ => s

/-- The sending ends; orders given meanwhile take effect (R16). -/
def State.endSend (s : State) : State := { s with radio := s.radio.endSend }

/-- The sending of a short frame ends. -/
def State.shortSent (s : State) : State :=
  match s.radio.sending with
  | some f =>
    match f.via with
    | .reserved => State.deliver f s.endSend
    | .contention => State.transmitted f s.endSend
    | .long => s
  | none => s

/-- The owner of a long frame is told of its send (R62). -/
def State.longDelivered (f : Sending) (s : State) : State :=
  if f.live then
    match f.name with
    | .fare r => s.fareSent r
    | .shift n => s.shiftSent n
    | .text tag index => s.textSent tag index
    | .join => s
    | .alert _ => s
    | .ack _ => s
    | .bid _ => s
    | .flow => s
    | .slotRequest => s
    | .status _ => s
  else s

/-- The sending of a long frame ends. -/
def State.longSent (s : State) : State :=
  match s.radio.sending with
  | some f =>
    match f.via with
    | .long => State.settleLong (State.longDelivered f s.endSend)
    | .reserved => s
    | .contention => s
  | none => s

end Sys2Proof.Machine
end

