-- ==== Sys2Proof/Machine/CycleCommands.lean ====
section
/-! DEFINITION. The commands of the radio cycle: cycle starts, slots, the waits counted in cycles, and the ends of sending. -/

namespace Sys2Proof.Machine

/-- CYCLE_START (R18): from READY on. -/
def execCycleStart (s : State) : Host.Outcome State Fault Refusal := .next (if s.ready then s.startCycle else s)

/-- BEACON_WINDOW_CLOSE (R18). -/
def execBeaconWindowClose (s : State) : Host.Outcome State Fault Refusal := .next (if s.ready then s.closeWindow else s)

/-- QUIET_WAIT_END (R22): at the second cycle start in QUIET. -/
def execQuietWaitEnd (s : State) : Host.Outcome State Fault Refusal :=
  .next (if s.ready && s.link.state == .quiet && decide (2 ≤ s.link.quiet) then s.startHunt else s)

/-- LISTEN_END (R23): the third cycle length since the TUNE ends. -/
def execListenEnd (s : State) : Host.Outcome State Fault Refusal :=
  .next (if s.ready && s.link.state == .hunt then s.nextChannel else s)

/-- JOIN_GRANT_WAIT_EXPIRY (R27). -/
def execJoinGrantWaitExpiry (s : State) : Host.Outcome State Fault Refusal :=
  .next (if s.ready then s.joinGrantWaitEnds else s)

/-- SLOT_START (R44): the next of the 24 uplink slots of the cycle. -/
def execSlotStart (s : State) : Host.Outcome State Fault Refusal :=
  .next (if s.ready && decide (s.link.nextSlot < 24) then s.startSlot else s)

/-- BACKOFF_EXPIRY (R54). -/
def execBackoffExpiry (s : State) : Host.Outcome State Fault Refusal := .next (if s.ready then s.backoffEnds else s)

/-- GRANT_WAIT_EXPIRY (R60). -/
def execGrantWaitExpiry (s : State) : Host.Outcome State Fault Refusal :=
  .next (if s.ready && s.sched.long == .wait 0 then s.grantWaitEnds else s)

/-- REST_EXPIRY (R60). -/
def execRestExpiry (s : State) : Host.Outcome State Fault Refusal :=
  .next
    (if s.ready && s.sched.long == .rest 0 then State.settleLong { s with sched := { s.sched with long := .none } } else s)

/-- GRANT_EXPIRY (R62): four cycle starts since the arrival without a cycle of the granted number. -/
def execGrantExpiry (s : State) : Host.Outcome State Fault Refusal :=
  .next
    (if s.ready && s.sched.grant.any (fun g => decide (4 ≤ g.since) && g.cycle != s.link.cycle) then s.endGrant else s)

/-- PARKING_COUNT_EXPIRY (R171). -/
def execParkingCountExpiry (s : State) : Host.Outcome State Fault Refusal :=
  .next (if s.ready && s.power.parking == 0 then s.endParking else s)

/-- SHORT_FRAME_SENT (R52, R55). -/
def execShortFrameSent (s : State) : Host.Outcome State Fault Refusal := .next (if s.ready then s.shortSent else s)

/-- LONG_FRAME_SENT (R62). -/
def execLongFrameSent (s : State) : Host.Outcome State Fault Refusal := .next (if s.ready then s.longSent else s)

end Sys2Proof.Machine
end

