-- ==== Sys2Proof/Machine/FrameCommands.lean ====
section
/-! DEFINITION. The commands of received downlink frames: the check, the filters and the routing to the owners (R17, R33 to R36). -/

namespace Sys2Proof.Machine

/-- A CAB destination of 65535 is taken as FLEET with an empty class mask (R34). -/
def takenHeader (h : DownHeader) : DownHeader :=
  if h.dest = destCab ∧ h.value = 0xFFFF#16 then { h with dest := destFleet, mask := 0#8 } else h

/-- The WAKE frame's six body fields equal the cab number (R176). -/
def State.wakeMatches (cabs : List Word) (s : State) : Bool :=
  cabs.length == 6 && cabs.all (fun c => some c == s.power.image.map (·.cab))

/-- A WAKE frame that reaches Power and Start-up (R176). -/
def State.takeWake (cabs : List Word) (s : State) : State := if s.wakeMatches cabs then s.wakeEvent .radio else s

/-- A frame is handed to its owner (R35). -/
def State.route (h : DownHeader) (b : DownBody) (s : State) : State :=
  match b with
  | .beacon b => s.takeBeacon h.site b
  | .grantJoin slot period phase => s.takeGrantJoin slot period phase
  | .deny _ => s.candidateFails
  | .rejoin => s.enterQuiet false
  | .grantLong cycle start count => s.takeGrant cycle start count
  | .offer b => s.takeOffer (takenHeader h) b
  | .award b => s.takeAward b
  | .lost job => s.takeLost job
  | .withdraw job => s.takeWithdraw job
  | .text b => s.takeText b
  | .ackOfText tag => s.ackText tag
  | .ackOfFare r => s.ackFare r
  | .ackOfShift n => s.ackShift n
  | .alertAck n => s.takeAlertAck n
  | .alertCancel n => s.takeAlertCancel n
  | .wake cabs => s.takeWake cabs

/-- A frame that passed the check goes through the filters; one that does not pass is discarded silently (R33 to R36). -/
def State.receive (h : DownHeader) (b : DownBody) (s : State) : State := if s.hears h b then s.route h b else s

/-- DAMAGED_FRAME (R17): the bytes of one delivered frame fail the check. The check is made in every link state other than OFF. Bytes
that pass the check are the frame they spell. -/
def execDamagedFrame (bytes : List Byte) (s : State) : Host.Outcome State Fault Refusal :=
  .next
    (if s.ready && s.link.state != .off then
      match decodeFrame bytes with
      | .damaged => s.count .checkErrors
      | .unknown => s
      | .frame h b => s.receive h b
     else s)

/-- BEACON (R30). -/
def execBeacon (h : DownHeader) (b : BeaconBody) (s : State) : Host.Outcome State Fault Refusal := .next (s.receive h (.beacon b))

/-- GRANT_JOIN (R29). -/
def execGrantJoin (h : DownHeader) (slot period phase : Byte) (s : State) : Host.Outcome State Fault Refusal :=
  .next (s.receive h (.grantJoin slot period phase))

/-- DENY (R28): the reason is not interpreted. -/
def execDeny (h : DownHeader) (reason : Byte) (s : State) : Host.Outcome State Fault Refusal := .next (s.receive h (.deny reason))

/-- REJOIN (R31). -/
def execRejoin (h : DownHeader) (s : State) : Host.Outcome State Fault Refusal := .next (s.receive h .rejoin)

/-- GRANT_LONG (R61). -/
def execGrantLong (h : DownHeader) (cycle : Word) (start count : Byte) (s : State) : Host.Outcome State Fault Refusal :=
  .next (s.receive h (.grantLong cycle start count))

/-- OFFER (R71). -/
def execOffer (h : DownHeader) (b : OfferBody) (s : State) : Host.Outcome State Fault Refusal := .next (s.receive h (.offer b))

/-- AWARD (R78). -/
def execAward (h : DownHeader) (b : OfferBody) (s : State) : Host.Outcome State Fault Refusal := .next (s.receive h (.award b))

/-- LOST (R81). -/
def execLost (h : DownHeader) (job : DWord) (s : State) : Host.Outcome State Fault Refusal := .next (s.receive h (.lost job))

/-- WITHDRAW (R82). -/
def execWithdraw (h : DownHeader) (job : DWord) (s : State) : Host.Outcome State Fault Refusal :=
  .next (s.receive h (.withdraw job))

/-- TEXT (R137). -/
def execText (h : DownHeader) (b : TextBody) (s : State) : Host.Outcome State Fault Refusal := .next (s.receive h (.text b))

/-- ACK_OF_TEXT (R134). -/
def execAckOfText (h : DownHeader) (tag : Word) (s : State) : Host.Outcome State Fault Refusal :=
  .next (s.receive h (.ackOfText tag))

/-- ACK_OF_FARE (R113). -/
def execAckOfFare (h : DownHeader) (r : TripRef) (s : State) : Host.Outcome State Fault Refusal :=
  .next (s.receive h (.ackOfFare r))

/-- ACK_OF_SHIFT (R118). -/
def execAckOfShift (h : DownHeader) (shift : Word) (s : State) : Host.Outcome State Fault Refusal :=
  .next (s.receive h (.ackOfShift shift))

/-- ALERT_ACK (R155). -/
def execAlertAck (h : DownHeader) (number : Word) (s : State) : Host.Outcome State Fault Refusal :=
  .next (s.receive h (.alertAck number))

/-- ALERT_CANCEL (R157). -/
def execAlertCancel (h : DownHeader) (number : Word) (s : State) : Host.Outcome State Fault Refusal :=
  .next (s.receive h (.alertCancel number))

/-- WAKE (R176). -/
def execWake (h : DownHeader) (cabs : List Word) (s : State) : Host.Outcome State Fault Refusal := .next (s.receive h (.wake cabs))

end Sys2Proof.Machine
end

