-- ==== Sys2Proof/Machine/InputCommands.lean ====
section
/-! DEFINITION. The commands of the inputs EMSW and IGN (R149, R175, R179). -/

namespace Sys2Proof.Machine

/-- EMSW_CLOSING (R149): taken from READY on. -/
def execEmswClosing (s : State) : Host.Outcome State Fault Refusal :=
  .next
    (if s.pins.emswClosed then s
     else
      let s := { s with pins := { s.pins with emswClosed := true } }
      if s.ready then s.takeClosing else s)

/-- EMSW_OPENING (R149): taken from READY on. -/
def execEmswOpening (s : State) : Host.Outcome State Fault Refusal :=
  .next
    (if s.pins.emswClosed then
      let s := { s with pins := { s.pins with emswClosed := false } }
      if s.ready then s.takeOpening else s
     else s)

/-- The level of IGN changes; the ignition level follows it, but for CONFIG_FAULT (R179, R182). -/
def State.setIgnition (on : Bool) (s : State) : State :=
  let s := { s with pins := { s.pins with ign := on } }
  if s.running && s.power.startUp != .configFault then { s with power := { s.power with ignition := on } } else s

/-- IGNITION_ON (R175). -/
def execIgnitionOn (s : State) : Host.Outcome State Fault Refusal :=
  .next
    (if s.pins.ign then s
     else
      let s := s.setIgnition true
      if s.ready then s.wakeEvent .ignition else s)

/-- IGNITION_OFF (R175). -/
def execIgnitionOff (s : State) : Host.Outcome State Fault Refusal :=
  .next (if s.pins.ign then s.setIgnition false else s)

end Sys2Proof.Machine
end

