-- ==== Sys2Proof/Machine/MeterCommands.lean ====
section
/-! DEFINITION. The commands of the meter link (R93 to R105). -/

namespace Sys2Proof.Machine

/-- A meter message by its kind (R93 to R102); a HIRE is also a wake event (R175). -/
def State.meterMessage (m : MeterMessage) (s : State) : State :=
  match m with
  | .hire t => State.takeHire t (s.wakeEvent .meter)
  | .step c a => s.takeStep c a
  | .tariff t => s.takeTariff t
  | .stop f => s.takeStop f
  | .fault c => s.takeFault c
  | .alive => s.restartSilence

/-- Well-formed messages are taken while start-up is READY; any other message is discarded (R93). -/
def State.takeMeter (m : MeterMessage) (s : State) : State := if s.ready && m.inRange then s.meterMessage m else s

/-- HIRE (R98, R104). -/
def execHire (tariff : Byte) (s : State) : Host.Outcome State Fault Refusal := .next (s.takeMeter (.hire tariff))

/-- STEP (R99). -/
def execStep (component : Byte) (amount : Word) (s : State) : Host.Outcome State Fault Refusal :=
  .next (s.takeMeter (.step component amount))

/-- TARIFF (R100). -/
def execTariff (tariff : Byte) (s : State) : Host.Outcome State Fault Refusal := .next (s.takeMeter (.tariff tariff))

/-- STOP (R102). -/
def execStop (fare : DWord) (s : State) : Host.Outcome State Fault Refusal := .next (s.takeMeter (.stop fare))

/-- FAULT (R95). -/
def execFault (code : Byte) (s : State) : Host.Outcome State Fault Refusal := .next (s.takeMeter (.fault code))

/-- ALIVE (R93). -/
def execAlive (s : State) : Host.Outcome State Fault Refusal := .next (s.takeMeter .alive)

/-- MALFORMED_METER_MESSAGE (R93, R226): bytes of the meter link that spell no well-formed message are discarded. Bytes that do spell
one, with no gap, are that message. -/
def execMalformedMeterMessage (bytes : List Byte) (gap : Bool) (s : State) : Host.Outcome State Fault Refusal :=
  .next (match if gap then none else decodeMeter bytes with
    | some m => s.takeMeter m
    | none => s)

end Sys2Proof.Machine
end

