-- ==== Sys2Proof/Machine/Shift.lean ====
section
/-! DEFINITION. What the Status Unit takes from the processor (R3, R6 to R10): logon, status and shift-control requests, zone and position. -/

namespace Sys2Proof.Machine

/-! ## Logon (R3) -/

/-- The driver ID field is WATCHED: no driver is logged on. -/
def State.driverWatched (s : State) : Bool := !s.status.shiftOpen || s.status.driverId == 0#16

/-- The driver ID of a meter-opened shift is set, in the totals too (R3, R114). -/
def State.attachDriver (driver : Word) (s : State) : State :=
  State.handOn
    { s with
      status := { s.status with driverId := driver },
      trips := { s.trips with totals := { s.trips.totals with driverId := driver } } }

/-- A write of the driver ID field while it is WATCHED. -/
def State.driverWrite (lanes : Lanes) (data : Word) (s : State) : State :=
  let w := laneCombine lanes s.status.driverCopy data
  let s := { s with status := { s.status with driverCopy := w } }
  if w = 0#16 then s
  else if s.status.shiftOpen then s.attachDriver w
  else State.setStatus .free (s.openShift w false)

/-! ## Status requests (R6) -/

/-- The outcome of a status request: the first check that fails. -/
def State.statusOutcome (w : Word) (s : State) : Outcome :=
  if w = codeBreak then
    if !s.status.shiftOpen then .noShift
    else if s.status.status != .free then .notAllowed
    else if s.emerg.state != .clear then .emergency
    else if s.offers.bidding.isSome then .notAllowed
    else .taken
  else if w = codeFree then
    if !s.status.shiftOpen then .noShift else if s.status.status != .onBreak then .notAllowed else .taken
  else .notValid

/-- A write of the status request field (R6, R202). -/
def State.statusRequest (lanes : Lanes) (data : Word) (s : State) : State :=
  let w := laneCombine lanes s.page.statusCopy data
  let o := s.statusOutcome w
  let s := { s with
    page := { s.page with statusCopy := w }, status := { s.status with statusResult := ⟨w, o⟩ } }
  if o = .taken then s.setStatus (if w = codeBreak then .onBreak else .free) else s.raise .refused

/-! ## Shift control (R7, R8) -/

/-- The outcome of a shift-control request: the first check that fails. -/
def State.shiftOutcome (w : Word) (s : State) : Outcome :=
  if w = codeClose then
    if !s.status.shiftOpen then .noShift
    else if s.emerg.state != .clear then .emergency
    else if s.trips.trip.isSome then .openTrip
    else .taken
  else if w = codeCloseTrip then
    if !s.status.shiftOpen then .noShift
    else if s.trips.trip.any (fun t => t.flags.meterFault) then .taken
    else .notAllowed
  else .notValid

/-- A taken CLOSE ends the shift (R8). -/
def State.closeShift (s : State) : State :=
  let s := State.closeTotals s.closeOffers
  State.handOn
    { s with
      status := { s.status with shiftOpen := false, driverId := 0#16, meterOpened := false, status := .offDuty } }

/-- A write of the shift-control request field (R7, R202). -/
def State.shiftControl (lanes : Lanes) (data : Word) (s : State) : State :=
  let w := laneCombine lanes s.page.shiftCopy data
  let o := s.shiftOutcome w
  let s := { s with
    page := { s.page with shiftCopy := w }, status := { s.status with shiftResult := ⟨w, o⟩ } }
  if o = .taken then (if w = codeClose then s.closeShift else s.forceClose) else s.raise .refused

/-! ## Zone and position (R9, R10) -/

/-- A write that covers the zone byte. -/
def State.zoneByte (data : Word) (s : State) : State :=
  State.handOn { s with status := { s.status with zone := Word.lower data } }

/-- A write of the lower word of a coordinate only stores the part's copy of it. -/
def State.coordinateLower (c : Coordinate) (lanes : Lanes) (data : Word) (s : State) : State :=
  match c with
  | .first =>
    { s with
      status := { s.status with
        firstCopy := { s.status.firstCopy with lower := laneCombine lanes s.status.firstCopy.lower data } } }
  | .second =>
    { s with
      status := { s.status with
        secondCopy := { s.status.secondCopy with lower := laneCombine lanes s.status.secondCopy.lower data } } }

/-- A coordinate from its two copies. -/
def CoordinateCopy.value (c : CoordinateCopy) : DWord := DWord.ofWords c.higher c.lower

/-- A write of the higher word makes the coordinate take effect: the first is held pending, the second moves both into the position. -/
def State.coordinateHigher (c : Coordinate) (lanes : Lanes) (data : Word) (s : State) : State :=
  match c with
  | .first =>
    let copy := { s.status.firstCopy with higher := laneCombine lanes s.status.firstCopy.higher data }
    { s with status := { s.status with firstCopy := copy, pendingFirst := copy.value } }
  | .second =>
    let copy := { s.status.secondCopy with higher := laneCombine lanes s.status.secondCopy.higher data }
    State.handOn
      { s with status := { s.status with secondCopy := copy, position := some (s.status.pendingFirst, copy.value) } }

end Sys2Proof.Machine
end

