-- ==== Sys2Proof/Machine/Operands.lean ====
section
/-! DEFINITION. The fields of the cab area (R217, R218): which field a word of it belongs to, the treatment of each lane (section 9.2), what a SHADOWED word answers, what a read of it does, and how a WATCHED write is taken. -/

namespace Sys2Proof.Machine

/-! ## Decode (R186) -/

/-- The offset of a word within the cab area, when its address is in it. -/
def cabOffset (asel : BitVec 4) (address : BitVec 19) : Option Nat :=
  if address.toNat / 2 ^ 13 = asel.toNat * 4 then some (2 * (address.toNat % 2 ^ 13)) else none

/-- What a word of the cab area holds. A `word` counts from the first word of its field. -/
inductive Field where
  | startUp (word : Nat)
  | resetWord
  | attentionDone
  | attentionCause (word : Nat)
  | attentionClear
  | attentionEnable
  | counter (c : Counter)
  | cabClock (upper : Bool)
  | linkStatus (word : Nat)
  | cabState (word : Nat)
  | driverId
  | statusRequest
  | statusResult (word : Nat)
  | shiftControl
  | shiftResult (word : Nat)
  | powerRequest
  | powerResult (word : Nat)
  | powerState (word : Nat)
  | wakeReason
  | emergencyRaise
  | raiseResult (word : Nat)
  | emergencyState (word : Nat)
  | zone
  | position (c : Coordinate) (higher : Bool)
  | meter (word : Nat)
  | ringDescriptor (ring : RingId) (part : DescriptorWord)
  | ringControl (ring : RingId)
  | ringResult (ring : RingId) (word : Nat)
  | lastOutbound (word : Nat)
  /-- A word of the control page that belongs to no field. -/
  | unused
  | offer (entry : Fin 16) (offset : Nat)
  | emergencyRecord
  | totals (word : Nat)
  | ringSpace (offset : Nat)
  deriving DecidableEq, Repr

/-- The fields of a ring in the control page, by the offset from 0080h, 0090h or 00A0h. -/
def ringField (ring : RingId) (offset : Nat) : Field :=
  match offset with
  | 0 => .ringDescriptor ring .base
  | 2 => .ringDescriptor ring .size
  | 4 => .ringControl ring
  | 6 => .ringResult ring 0
  | 8 => .ringResult ring 1
  | _ => .unused

/-- The fields of the control page (R218). -/
def controlField (offset : Nat) : Field :=
  if offset < 0x04 then .startUp (offset / 2)
  else if offset < 0x10 then
    match offset with
    | 0x04 => .resetWord
    | 0x06 => .attentionDone
    | 0x08 => .attentionCause 0
    | 0x0A => .attentionCause 1
    | 0x0C => .attentionClear
    | _ => .attentionEnable
  else if offset < 0x20 then
    match offset with
    | 0x10 => .counter .beaconsMissed
    | 0x12 => .counter .checkErrors
    | 0x14 => .counter .contentionFails
    | 0x16 => .counter .offersMissed
    | 0x18 => .counter .messagesDropped
    | 0x1A => .counter .guardHits
    | 0x1C => .cabClock false
    | _ => .cabClock true
  else if offset < 0x30 then (if offset < 0x2A then .linkStatus ((offset - 0x20) / 2) else .unused)
  else if offset < 0x44 then
    match offset with
    | 0x36 => .driverId
    | 0x38 => .statusRequest
    | 0x3A => .statusResult 0
    | 0x3C => .statusResult 1
    | 0x3E => .shiftControl
    | 0x40 => .shiftResult 0
    | 0x42 => .shiftResult 1
    | _ => .cabState ((offset - 0x30) / 2)
  else if offset < 0x60 then
    match offset with
    | 0x44 => .powerRequest
    | 0x46 => .powerResult 0
    | 0x48 => .powerResult 1
    | 0x4A => .powerState 0
    | 0x4C => .powerState 1
    | 0x4E => .wakeReason
    | 0x50 => .emergencyRaise
    | 0x52 => .raiseResult 0
    | 0x54 => .raiseResult 1
    | 0x56 => .emergencyState 0
    | 0x58 => .emergencyState 1
    | 0x5A => .emergencyState 2
    | _ => .unused
  else if offset < 0x70 then
    match offset with
    | 0x60 => .zone
    | 0x64 => .position .first false
    | 0x66 => .position .first true
    | 0x68 => .position .second false
    | 0x6A => .position .second true
    | _ => .unused
  else if offset < 0x80 then (if offset < 0x7E then .meter ((offset - 0x70) / 2) else .unused)
  else if offset < 0x90 then ringField .outbound (offset - 0x80)
  else if offset < 0xA0 then ringField .inbound (offset - 0x90)
  else if offset < 0xB0 then ringField .triplog (offset - 0xA0)
  else if offset < 0xB4 then .lastOutbound ((offset - 0xB0) / 2)
  else .unused

/-- The field that the word at an even offset of the cab area belongs to (R217). -/
def fieldAt (offset : Nat) : Field :=
  if offset < 0x100 then controlField offset
  else if offset < 0x900 then .offer (Fin.ofNat 16 ((offset - 0x100) / 0x80)) (offset % 0x80)
  else if offset < 0x980 then .emergencyRecord
  else if offset < 0xA00 then .totals ((offset - 0x980) / 2)
  else .ringSpace offset

/-! ## Treatments -/

/-- The treatment of a byte of the cab area. -/
inductive Treatment where
  | plain | watched | shadowed | guarded
  deriving DecidableEq, Repr

/-- The ring whose processor-owned pointer the header word at an offset holds: an OPEN or CLOSING ring's (R124). -/
def Ring.pointerOffsets (r : Ring) (id : RingId) : Nat × Nat :=
  let base := r.desc.base.toNat
  if id == .outbound then (base, base + 2) else (base + 2, base)

/-- The ring whose processor-owned pointer lies at an offset. -/
def State.pointerRing (offset : Nat) (s : State) : Option RingId :=
  allRings.find? (fun id =>
    let r := s.msgs.ring id
    r.state != .closed && offset == (r.pointerOffsets id).1)

/-- The offset holds a pointer that the part owns: of an OPEN or CLOSING ring, or the input pointer of a ring whose deposit is still
completing (R124, R130). -/
def State.ownPointerAt (offset : Nat) (s : State) : Bool :=
  allRings.any (fun id =>
    let r := s.msgs.ring id
    (r.state != .closed && offset == (r.pointerOffsets id).2) ||
      (s.depositPlan id).any (fun p => offset == p.desc.base.toNat))

/-- The totals block is answered by the part: a shift is open, or the snapshot of the last close is still to be written (R116, R117,
log entry 28). -/
def State.totalsShadowed (s : State) : Bool := s.status.shiftOpen || s.path.busyWith .totalsSnapshot

/-- The emergency record is GUARDED (R160, section 9.2). -/
def State.recordGuarded (s : State) : Bool :=
  match s.power.startUp with
  | .loading => true
  | .recovering => true
  | .ready => s.emerg.state != .clear || s.emerg.guardHeld
  | .configFault => false

/-- The treatments of READY, field by field. The byte beside the zone byte is PLAIN (log entry 10). -/
def State.readyTreatment (f : Field) (hi : Bool) (s : State) : Treatment :=
  match f with
  | .startUp _ => .shadowed
  | .resetWord => .watched
  | .attentionDone => .watched
  | .attentionCause _ => .shadowed
  | .attentionClear => .watched
  | .attentionEnable => .watched
  | .counter _ => .shadowed
  | .cabClock _ => .shadowed
  | .linkStatus _ => .shadowed
  | .cabState _ => .shadowed
  | .driverId => if s.driverWatched then .watched else .guarded
  | .statusRequest => .watched
  | .statusResult _ => .shadowed
  | .shiftControl => .watched
  | .shiftResult _ => .shadowed
  | .powerRequest => .watched
  | .powerResult _ => .shadowed
  | .powerState _ => .shadowed
  | .wakeReason => .shadowed
  | .emergencyRaise => .watched
  | .raiseResult _ => .shadowed
  | .emergencyState _ => .shadowed
  | .zone => if hi then .plain else .watched
  | .position _ _ => .watched
  | .meter _ => .shadowed
  | .ringDescriptor r _ => if (s.msgs.ring r).state == .closed then .watched else .guarded
  | .ringControl _ => .watched
  | .ringResult _ _ => .shadowed
  | .lastOutbound _ => .shadowed
  | .unused => .plain
  | .offer _ o => if o = 0x18 then .watched else .guarded
  | .emergencyRecord => if s.recordGuarded then .guarded else .plain
  | .totals _ => if s.totalsShadowed then .shadowed else .plain
  | .ringSpace o =>
    if s.ownPointerAt o then .guarded else if (s.pointerRing o).isSome then .watched else .plain

/-- The treatment of a lane of a field: before READY and in CONFIG_FAULT only the start-up field is SHADOWED and only the emergency
record may be GUARDED (R199, R206). -/
def State.treatment (f : Field) (hi : Bool) (s : State) : Treatment :=
  if s.power.startUp == .ready then s.readyTreatment f hi
  else
    match f with
    | .startUp _ => .shadowed
    | .emergencyRecord => if s.recordGuarded then .guarded else .plain
    | _ => .plain

/-- The treatment of a lane of a cycle; outside the cab area there is none, and the lane is handled as ordinary memory (R186). -/
def State.laneTreatment (address : BitVec 19) (hi : Bool) (s : State) : Treatment :=
  match cabOffset s.path.asel address with
  | some o => s.treatment (fieldAt o) hi
  | none => .plain

/-! ## What a SHADOWED word answers -/

/-- A result field: the echoed word, then the outcome byte (R218). -/
def Result.word (r : Result) (word : Nat) : Word := if word = 0 then r.echo else Word.ofBytes 0#8 r.outcome.code

/-- The wake reason set as flags (R219). -/
def WakeReason.flags (r : WakeReason) : Byte :=
  flagBit 0 r.switch ||| flagBit 1 r.meter ||| flagBit 2 r.ignition ||| flagBit 3 r.radio

/-- The five words of the link status field (R37, R218). -/
def State.linkStatusWord (word : Nat) (s : State) : Word :=
  let r := s.link.site.getD ⟨0#16, 0#16, 0#8, 0#8, 0#8, 0#8⟩
  match word with
  | 0 => Word.ofBytes s.link.state.code (flagBit 0 s.page.linkUp)
  | 1 => r.site
  | 2 => r.channel
  | 3 => Word.ofBytes r.slot r.abilities
  | _ => Word.ofBytes r.phase r.period

/-- The three words of the cab state field (R1, R218). -/
def State.cabStateWord (word : Nat) (s : State) : Word :=
  match word with
  | 0 => Word.ofBytes (flagBit 0 s.status.shiftOpen ||| flagBit 1 s.status.meterOpened) s.status.status.code
  | 1 => s.status.shiftNumber
  | _ => s.status.driverId

/-- The answer of a SHADOWED word by its owner, from its state at the moment of the answer (R192, R206). -/
def State.shadowWord (f : Field) (s : State) : Word :=
  match f with
  | .startUp w =>
    if w = 0 then Word.ofBytes s.power.faultReason.code s.power.startUp.code
    else Word.ofBytes s.power.recovery.code s.power.failingItem
  | .attentionCause w =>
    if w = 0 then s.page.causes.setWidth 16 else s.page.enables.setWidth 16 ||| flagBit 15 s.page.busy
  | .counter c => s.page.counters.get c
  | .cabClock upper => if upper then s.link.clockUpper else DWord.lower s.link.clock
  | .linkStatus w => s.linkStatusWord w
  | .cabState w => s.cabStateWord w
  | .statusResult w => s.status.statusResult.word w
  | .shiftResult w => s.status.shiftResult.word w
  | .powerResult w => s.power.result.word w
  | .powerState w =>
    if w = 0 then Word.ofBytes (flagBit 0 s.power.park) s.power.power.code else Word.ofBytes 0#8 (flagBit 0 s.power.ignition)
  | .wakeReason => Word.ofBytes 0#8 s.power.reason.flags
  | .raiseResult w => s.emerg.raiseResult.word w
  | .emergencyState w =>
    match w with
    | 0 => Word.ofBytes s.emerg.source.code s.emerg.state.code
    | 1 => s.emerg.number
    | _ => s.emerg.sends
  | .meter w => if w = 0 then (meterWords s.trips).getD 0 0#16 else s.trips.meterCopy.getD w 0#16
  | .ringResult r w =>
    let k := s.msgs.ring r
    if w = 0 then k.result.echo else Word.ofBytes k.state.code k.result.outcome.code
  | .lastOutbound w => if w = 0 then Word.ofBytes 0#8 s.msgs.lastOut.outcome.code else s.msgs.lastOut.tag
  | .totals w => if w = 0 then (s.trips.totals.image 0#32).getD 0 0#16 else s.trips.totalsCopy.getD w 0#16
  | _ => 0#16

/-! ## Read effects (R193) -/

/-- What a read of a SHADOWED word does in its owner, once per read cycle. -/
def State.readEffect (f : Field) (s : State) : State :=
  match f with
  | .counter c => s.clearCounter c
  | .wakeReason => { s with power := { s.power with reason := WakeReason.empty } }
  | .linkStatus _ => { s with page := { s.page with linkUp := s.link.state == .joined } }
  | .cabClock upper => if upper then s else { s with link := { s.link with clockUpper := DWord.upper s.link.clock } }
  | .meter w => if w = 0 then { s with trips := { s.trips with meterCopy := meterWords s.trips } } else s
  | .totals w => if w = 0 then s.loadTotalsCopy else s
  | _ => s

/-! ## Taking a WATCHED write (R190, R202) -/

/-- A write of the reset word: the value 00FFh with both lanes asks for a soft reset (R204). -/
def State.resetWordWrite (lanes : Lanes) (data : Word) (s : State) : State :=
  if lanes = Lanes.both ∧ data = 0x00FF#16 then { s with path := { s.path with resetDrain := true } } else s

/-- The owner of a field takes the WATCHED lanes of a write at its acceptance. -/
def State.takeWatched (f : Field) (lanes : Lanes) (data : Word) (s : State) : State :=
  match f with
  | .resetWord => s.resetWordWrite lanes data
  | .attentionDone => s.attentionDone
  | .attentionClear => s.clearCauses lanes data
  | .attentionEnable => s.enableCauses lanes data
  | .driverId => s.driverWrite lanes data
  | .statusRequest => s.statusRequest lanes data
  | .shiftControl => s.shiftControl lanes data
  | .powerRequest => s.powerRequest lanes data
  | .emergencyRaise => s.emergencyRaiseWrite lanes data
  | .zone => s.zoneByte data
  | .position c higher => if higher then s.coordinateHigher c lanes data else s.coordinateLower c lanes data
  | .ringDescriptor r part => s.descriptorWrite r part lanes data
  | .ringControl r => s.ringControl r lanes data
  | .offer n _ => s.takeResponse n lanes data
  | .ringSpace o =>
    match s.pointerRing o with
    | some r => s.pointerWrite r lanes data
    | none => s
  | _ => s

end Sys2Proof.Machine
end

