-- ==== Sys2Proof/Machine/Path.lean ====
section
/-! DEFINITION. The Memory Path (chapter 9): processor cycles, the post buffer and its drain, record stalls, the internal requester's memory cycles and the arbiter. -/

namespace Sys2Proof.Machine

/-! ## The internal requester's claim on the port (R195 to R198) -/

/-- A cycle of the operation under way is ready: one remains, and the operation's drain mark is reached (R196). -/
def MemoryPath.internalReady (p : MemoryPath) : Bool := p.under.any (fun u => u.mark == 0 && !u.cycles.isEmpty)

/-- The next grant goes to the internal requester whatever the processor side asks for (R198). -/
def MemoryPath.internalTurn (p : MemoryPath) : Bool := p.internalReady && decide (16 ≤ p.fairness)

/-- The fairness count after a grant to the processor side (R198). -/
def MemoryPath.processorGrant (p : MemoryPath) : MemoryPath :=
  { p with fairness := if p.internalReady then p.fairness + 1 else 0 }

/-- No cycle is on the port (R197). -/
def MemoryPath.portIdle (p : MemoryPath) : Bool := p.drain == .idle && !p.internal

/-- The arbiter grants an idle port to a ready internal cycle when the post buffer is empty or it is the requester's turn; the grant
returns the fairness count to 0 (R197, R198). A read that waits is served before (`State.service`). -/
def MemoryPath.arbitrate (p : MemoryPath) : MemoryPath :=
  if p.internalReady && p.portIdle && (p.buffer.isEmpty || p.internalTurn) then { p with internal := true, fairness := 0 } else p

/-- The grant after a processor read's memory cycle, when it is the requester's turn (R198). -/
def MemoryPath.giveTurn (p : MemoryPath) : MemoryPath := if p.internalTurn then p.arbitrate else p

/-! ## Processor writes (R188 to R190) -/

/-- The bytes that a set of lanes posts. -/
def postLo (l : Lanes) (data : Word) : Option Byte := if l.lo then some (Word.lower data) else none
def postHi (l : Lanes) (data : Word) : Option Byte := if l.hi then some (Word.upper data) else none

/-- New bytes over old ones. -/
def overlay (new old : Option Byte) : Option Byte :=
  match new with
  | some b => some b
  | none => old

/-- The posted lanes merged into the newest entry, when it is for the same word and its drain has not begun. -/
def mergeNewest (draining : Bool) (address : BitVec 19) (lo hi : Option Byte) : List PostEntry → Option (List PostEntry)
  | [] => none
  | [e] => if e.address = address ∧ draining = false then some [⟨address, overlay lo e.lo, overlay hi e.hi⟩] else none
  | e :: f :: rest => (mergeNewest false address lo hi (f :: rest)).map (fun r => e :: r)

/-- The post buffer after a write, or none when the write must wait for room (R188). -/
def MemoryPath.post (p : MemoryPath) (address : BitVec 19) (l : Lanes) (data : Word) : Option MemoryPath :=
  let lo := postLo l data
  let hi := postHi l data
  match mergeNewest (p.drain != .idle) address lo hi p.buffer with
  | some b => some { p with buffer := b }
  | none => if p.buffer.length < 4 then some { p with buffer := p.buffer ++ [⟨address, lo, hi⟩] } else none

/-- The lanes of a cycle that have a treatment. -/
def State.lanesOf (t : Treatment) (address : BitVec 19) (l : Lanes) (s : State) : Lanes :=
  ⟨l.lo && s.laneTreatment address false == t, l.hi && s.laneTreatment address true == t⟩

/-- The lanes that a write posts: those that are not GUARDED. -/
def State.postedLanes (address : BitVec 19) (l : Lanes) (s : State) : Lanes :=
  ⟨l.lo && s.laneTreatment address false != .guarded, l.hi && s.laneTreatment address true != .guarded⟩

/-- A guard hit (R189, R191). -/
def State.guardHit (s : State) : State := State.raise .guard (s.count .guardHits)

/-- The field of a word of the cab area. -/
def State.fieldOf (address : BitVec 19) (s : State) : Option Field := (cabOffset s.path.asel address).map fieldAt

/-- An accepted write: dropped lanes are a guard hit, and WATCHED lanes are taken by the field's owner. -/
def State.acceptWrite (address : BitVec 19) (l : Lanes) (data : Word) (path : MemoryPath) (s : State) : State :=
  let dropped := laneAny (s.lanesOf .guarded address l)
  let watched := s.lanesOf .watched address l
  let field := s.fieldOf address
  let s := { s with path := path }
  let s := if dropped then s.guardHit else s
  match field with
  | some f => if laneAny watched then s.takeWatched f watched data else s
  | none => s

/-- A processor write (R188, R189): accepted with the state it leaves, or none while it waits for room. -/
def State.processorWrite? (address : BitVec 19) (l : Lanes) (data : Word) (s : State) : Option State :=
  let posted := s.postedLanes address l
  if laneAny posted then (s.path.post address posted data).map (fun p => s.acceptWrite address l data p)
  else some (s.acceptWrite address l data s.path)

/-! ## Processor reads (R192 to R194) -/

/-- The newest posted byte of a lane of a word. -/
def posted (address : BitVec 19) (hi : Bool) : List PostEntry → Option Byte
  | [] => none
  | e :: rest =>
    match posted address hi rest with
    | some b => some b
    | none => if e.address = address then (if hi then e.hi else e.lo) else none

/-- The record that the operation under way rewrites holds the field (R194). -/
def OpKind.stalls (k : OpKind) (f : Field) : Bool :=
  match k, f with
  | .offerRewrite n, .offer m _ => n == m
  | .emergencyRewrite, .emergencyRecord => true
  | .totalsSnapshot, .totals _ => true
  | _, _ => false

/-- A read of the word is held by a record stall. -/
def State.stalled (address : BitVec 19) (s : State) : Bool :=
  match s.fieldOf address, s.path.under with
  | some f, some u => u.kind.stalls f
  | _, _ => false

/-- A lane of a read: by its owner, by the post buffer, or by memory. -/
def State.readLane (address : BitVec 19) (hi : Bool) (s : State) : Byte :=
  match s.fieldOf address with
  | some f =>
    if s.laneTreatment address hi == .shadowed then
      (if hi then Word.upper (s.shadowWord f) else Word.lower (s.shadowWord f))
    else (posted address hi s.path.buffer).getD (Memory.read s.mem (laneAddress address hi))
  | none => (posted address hi s.path.buffer).getD (Memory.read s.mem (laneAddress address hi))

/-- A covered lane is answered from memory. -/
def State.laneNeedsMemory (address : BitVec 19) (hi : Bool) (s : State) : Bool :=
  s.laneTreatment address hi != .shadowed && (posted address hi s.path.buffer).isNone

/-- The read needs a memory cycle (R192). -/
def State.needsMemory (address : BitVec 19) (l : Lanes) (s : State) : Bool :=
  (l.lo && s.laneNeedsMemory address false) || (l.hi && s.laneNeedsMemory address true)

/-- The port is free for a processor read (R197, R198): no cycle on it, no full buffer that drains first, and not the internal
requester's turn. -/
def MemoryPath.portForRead (p : MemoryPath) : Bool := p.portIdle && decide (p.buffer.length < 4) && !p.internalTurn

/-- The answer of a read, put on the data lines, and the effect of its SHADOWED lanes. -/
def State.answerRead (address : BitVec 19) (l : Lanes) (s : State) : State :=
  let answer : Answer :=
    { address := address, lo := if l.lo then some (s.readLane address false) else none,
      hi := if l.hi then some (s.readLane address true) else none }
  let shadowed := laneAny (s.lanesOf .shadowed address l)
  let path := if s.needsMemory address l then s.path.processorGrant.giveTurn else s.path
  let field := s.fieldOf address
  let s := { s with path := { path with answer := some answer } }
  match field with
  | some f => if shadowed then s.readEffect f else s
  | none => s

/-- What an attempt to make a processor cycle gives: it is done, or its ready line stays held. -/
inductive Attempt where
  | done (s : State)
  | waits (h : HeldCycle)

/-- A processor cycle is attempted. A read that already waits for its memory cycle is not held back by a later stall mark (R194). -/
def State.attempt (h : HeldCycle) (s : State) : Attempt :=
  match h.cycle with
  | .write address l data =>
    match s.processorWrite? address l data with
    | some s => .done s
    | none => .waits h
  | .read address l =>
    if s.stalled address && !h.passed then .waits h
    else if s.needsMemory address l && !s.path.portForRead then .waits { h with passed := true }
    else .done (s.answerRead address l)

/-- The Memory Path holds every cycle: RESETn is low, or a soft reset waits (R200, R201). -/
def MemoryPath.holdsAll (p : MemoryPath) : Bool := p.inReset || p.resetDrain

/-- A cycle whose ready line is held joins the held cycles. -/
def State.hold (h : HeldCycle) (s : State) : State := { s with path := { s.path with held := s.path.held ++ [h] } }

/-- A cycle of the processor bus, made by the processor (R188, R192). -/
def State.processorCycle (c : BusCycle) (s : State) : State :=
  if s.path.holdsAll || !s.path.held.isEmpty then s.hold ⟨c, false⟩
  else
    match s.attempt ⟨c, false⟩ with
    | .done s => s
    | .waits h => s.hold h

/-- Cycles are handled in their order in a state that holds none, until one must go on waiting: that one and those behind it are held. -/
def State.serviceList : List HeldCycle → State → State
  | [], s => s
  | h :: rest, s =>
    if s.path.holdsAll then { s with path := { s.path with held := h :: rest } }
    else
      match s.attempt h with
      | .done s => State.serviceList rest s
      | .waits h => { s with path := { s.path with held := h :: rest } }

/-- The internal requester gets the port if no processor-side cycle waits for it (R197). -/
def State.arbitrate (s : State) : State := { s with path := s.path.arbitrate }

/-- The held cycles are handled after an event that may release ready or free the port; then the arbiter looks at the internal
requester. -/
def State.service (s : State) : State :=
  State.arbitrate (State.serviceList s.path.held { s with path := { s.path with held := [] } })

/-! ## Drains (R191) -/

/-- The oldest entry is for a word of the emergency record that is GUARDED now. -/
def State.drainDrops (e : PostEntry) (s : State) : Bool :=
  s.fieldOf e.address == some .emergencyRecord && s.recordGuarded

/-- The arbiter grants the port to the drain of the oldest entry (R191, R197, R198). A drain that is not dropped writes the entry's lanes to
their word; the bytes reach memory at the beginning of its cycle (the model's choice, log entry 56), so that a call raised during the cycle
finds them there (R160). -/
def State.startDrain (s : State) : State :=
  match s.path.buffer with
  | e :: _ =>
    if s.running && s.path.portIdle && !s.path.internalTurn then
      if s.drainDrops e then { s with path := { s.path.processorGrant with drain := .dropping } }
      else
        { s with path := { s.path.processorGrant with drain := .writing }, mem := Memory.writeLanes s.mem e.address e.lo e.hi }
    else s
  | [] => s

/-- One marked entry has drained (R196). -/
def unmark (q : List Operation) : List Operation := q.map (fun o => { o with mark := o.mark - 1 })

/-- The oldest entry leaves the buffer. -/
def MemoryPath.drained (p : MemoryPath) : MemoryPath :=
  { p with
    buffer := p.buffer.drop 1, drain := .idle, queue := unmark p.queue,
    under := p.under.map (fun u => { u with mark := u.mark - 1 }) }

/-- The drain cycle of the oldest entry completes, and the entry leaves the buffer; a dropped one is a guard hit (R191). -/
def State.completeDrain (s : State) : State :=
  match s.path.drain, s.path.buffer with
  | .writing, _ :: _ => State.service { s with path := s.path.drained }
  | .dropping, _ :: _ => State.service (State.guardHit { s with path := s.path.drained })
  | _, _ => s

/-! ## Internal operations (R195) -/

/-- The offset of an offer table entry (R68). -/
def offerOffset (n : Fin 16) : Nat := 0x100 + 0x80 * n.val
def recordOffset : Nat := 0x900
def totalsOffset : Nat := 0x980

/-- What an operation starts with: its cycles, the causes that its end raises, and whether it carries a CLEAR record. -/
structure Content where
  cycles : List MemCycle
  causes : List Cause
  carriesClear : Bool

/-- The content of an operation, taken from its owner's state at its beginning. -/
def State.content (k : OpKind) (s : State) : Content :=
  match k with
  | .offerRewrite n => ⟨writeCycles (offerOffset n) (s.offers.entry n).image, (s.offers.entry n).causes, false⟩
  | .emergencyRewrite =>
    ⟨writeCycles recordOffset (emergencyImage s.emerg s.status.zone s.status.position),
      if s.emerg.causeWaits then [.emergency] else [], s.emerg.state.recorded == .clear⟩
  | .totalsSnapshot =>
    let image := match s.trips.captured with
      | some c => c.totals.image c.closeTime
      | none => []
    ⟨writeCycles totalsOffset image, [], false⟩
  | .inboundDeposit => ⟨((s.depositPlan .inbound).map Deposit.cycles).getD [], [], false⟩
  | .tripDeposit => ⟨((s.depositPlan .triplog).map Deposit.cycles).getD [], [], false⟩
  | .outboundFetch => ⟨s.msgs.outbound.firstReads, [], false⟩
  | .outboundCompletion =>
    let cycles := match s.msgs.flight with
      | .completing c => s.msgs.outbound.completionCycles c
      | _ => []
    ⟨cycles, [], false⟩
  | .headerRead r =>
    let cycles := match (s.msgs.ring r).check with
      | some d => readCycles d.base.toNat 2
      | none => []
    ⟨cycles, [], false⟩
  | .recoveryRead => ⟨readCycles recordOffset 64, [], false⟩
  | .abandoned => ⟨[], [], false⟩

/-- What the beginning of an operation changes in its owner: causes move to the operation, and the record image is the content that is written
(log entry 54). -/
def State.handOver (k : OpKind) (s : State) : State :=
  match k with
  | .offerRewrite n => { s with offers := s.offers.setEntry n { s.offers.entry n with causes := [] } }
  | .emergencyRewrite =>
    { s with
      emerg := { s.emerg with
        image := emergencyImage s.emerg s.status.zone s.status.position, causeWaits := false } }
  | _ => s

/-- The requester begins its oldest queued operation when none is under way (R195). Its drain mark stays with it (R196). -/
def State.startOperation (s : State) : State :=
  match s.path.under, s.path.queue with
  | none, o :: rest =>
    if s.running then
      let c := s.content o.kind
      let u : UnderWay := ⟨o.kind, c.cycles, [], c.causes, c.carriesClear, o.mark⟩
      State.arbitrate (State.handOver o.kind { s with path := { s.path with under := some u, queue := rest } })
    else s
  | _, _ => s

/-- One word cycle at an offset of the selected page completes, and the port is idle again. -/
def State.runCycle (u : UnderWay) (c : MemCycle) (rest : List MemCycle) (s : State) : State :=
  match c with
  | .write o w =>
    { s with
      path := { s.path with under := some { u with cycles := rest }, internal := false },
      mem := Memory.writeLanes s.mem (pageAddress s.path.asel o) (some (Word.lower w)) (some (Word.upper w)) }
  | .read o =>
    let w := Memory.readWord s.mem (pageAddress s.path.asel o)
    { s with path := { s.path with under := some { u with cycles := rest, got := u.got ++ [w] }, internal := false } }

/-- No operation is under way any more; the record's stall mark clears. -/
def State.endOperation (s : State) : State := { s with path := { s.path with under := none } }

/-- What a completed cycle leads to: a fetch whose ordered reads are made goes on (R131, R132), and an abandoned operation stops (R201). -/
def State.afterCycle (s : State) : State :=
  match s.path.under with
  | some u =>
    if u.kind == .abandoned then s.endOperation
    else if u.kind == .outboundFetch && u.cycles.isEmpty then s.continueFetch u
    else s
  | none => s

/-- The word cycle on the port completes (R195, R197). -/
def State.internalCycle (s : State) : State :=
  if s.running && s.path.internal then
    match s.path.under with
    | some u =>
      match u.cycles with
      | c :: rest => State.service (State.afterCycle (s.runCycle u c rest))
      | [] => s
    | none => s
  else s

/-! ## The end of an operation (R195) -/

/-- The operation of the given kind under way, when its last cycle has completed. -/
def State.finished (k : OpKind) (s : State) : Option UnderWay :=
  match s.path.under with
  | some u => if s.running && u.kind == k && u.cycles.isEmpty then some u else none
  | none => none

/-- The end of an operation: its causes are raised, its owner is told, and held cycles go on. -/
def State.complete (k : OpKind) (owner : UnderWay → State → State) (s : State) : State :=
  match s.finished k with
  | some u => State.service (owner u (State.raiseAll u.causes s.endOperation))
  | none => s

/-- The offer entry whose rewrite has finished. -/
def State.finishedOffer (s : State) : Option (Fin 16) :=
  match s.path.under with
  | some u => match u.kind with
    | .offerRewrite n => some n
    | _ => none
  | none => none

/-- The ring whose header read has finished. -/
def State.finishedHeader (s : State) : Option RingId :=
  match s.path.under with
  | some u => match u.kind with
    | .headerRead r => some r
    | _ => none
  | none => none

end Sys2Proof.Machine
end

