-- ==== Sys2Proof/Machine/PathCommands.lean ====
section
/-! DEFINITION. The commands of the Memory Path's own steps: drains, internal memory cycles and the ends of the part's operations. -/

namespace Sys2Proof.Machine

/-- DRAIN_START (R191). -/
def execDrainStart (s : State) : Host.Outcome State Fault Refusal := .next s.startDrain

/-- DRAIN_COMPLETE (R191). -/
def execDrainComplete (s : State) : Host.Outcome State Fault Refusal := .next (if s.running then s.completeDrain else s)

/-- INTERNAL_OPERATION_START (R195). -/
def execInternalOperationStart (s : State) : Host.Outcome State Fault Refusal := .next s.startOperation

/-- INTERNAL_MEMORY_CYCLE_COMPLETE (R195). -/
def execInternalMemoryCycleComplete (s : State) : Host.Outcome State Fault Refusal := .next s.internalCycle

/-- OFFER_ENTRY_REWRITE_COMPLETE (R70). -/
def execOfferEntryRewriteComplete (s : State) : Host.Outcome State Fault Refusal :=
  .next (match s.finishedOffer with
    | some n => s.complete (.offerRewrite n) (fun _ s => s)
    | none => s)

/-- EMERGENCY_RECORD_REWRITE_COMPLETE (R159). -/
def execEmergencyRecordRewriteComplete (s : State) : Host.Outcome State Fault Refusal :=
  .next (s.complete .emergencyRewrite (fun u => State.endRecordRewrite u.carriesClear))

/-- TOTALS_SNAPSHOT_COMPLETE (R117). -/
def execTotalsSnapshotComplete (s : State) : Host.Outcome State Fault Refusal :=
  .next (s.complete .totalsSnapshot (fun _ s => s))

/-- TRIP_LOG_DEPOSIT_COMPLETE (R107). -/
def execTripLogDepositComplete (s : State) : Host.Outcome State Fault Refusal :=
  .next (s.complete .tripDeposit (fun _ => State.endTripDeposit))

/-- INBOUND_DEPOSIT_COMPLETE (R141). -/
def execInboundDepositComplete (s : State) : Host.Outcome State Fault Refusal :=
  .next (s.complete .inboundDeposit (fun _ => State.endInboundDeposit))

/-- OUTBOUND_FETCH_COMPLETE (R132). -/
def execOutboundFetchComplete (s : State) : Host.Outcome State Fault Refusal :=
  .next (s.complete .outboundFetch (fun _ => State.endFetch))

/-- OUTBOUND_COMPLETION_COMPLETE (R136). -/
def execOutboundCompletionComplete (s : State) : Host.Outcome State Fault Refusal :=
  .next (s.complete .outboundCompletion (fun _ => State.endCompletion))

/-- The header words that a header read returned: input pointer, then output pointer (R223). -/
def headerWords (got : List Word) : HeaderWords := ⟨got.getD 0 0#16, got.getD 1 0#16⟩

/-- OPEN_CHECK_HEADER_READ_COMPLETE (R128). -/
def execOpenCheckHeaderReadComplete (s : State) : Host.Outcome State Fault Refusal :=
  .next (match s.finishedHeader with
    | some r => s.complete (.headerRead r) (fun u => State.endOpenCheck r (headerWords u.got))
    | none => s)

end Sys2Proof.Machine
end

