-- ==== Sys2Proof/Machine/ProcessorCommands.lean ====
section
/-! DEFINITION. The commands of the processor bus: memory cycles, and the writes and reads of the fields of the cab area, each made at the field's offset. -/

namespace Sys2Proof.Machine

/-! ## Cycles at an offset of the cab area -/

/-- The processor writes a word of the cab area. -/
def State.writeAt (offset : Nat) (lanes : Lanes) (data : Word) (s : State) : State :=
  s.processorCycle (.write (pageAddress s.path.asel offset) lanes data)

/-- The processor reads a word of the cab area. -/
def State.readAt (offset : Nat) (lanes : Lanes) (s : State) : State :=
  s.processorCycle (.read (pageAddress s.path.asel offset) lanes)

/-- The control-page offsets of a ring's fields (R218). -/
def ringOffset : RingId → Nat
  | .outbound => 0x80
  | .inbound => 0x90
  | .triplog => 0xA0

/-- The offset of a descriptor word (R218). -/
def descriptorOffset (r : RingId) : DescriptorWord → Nat
  | .base => ringOffset r
  | .size => ringOffset r + 2

/-- The offset of the header word of the pointer that the processor owns, where the ring lies or last lay (R124, log entry 27). -/
def State.pointerOffset (r : RingId) (s : State) : Nat := ((s.msgs.ring r).pointerOffsets r).1

/-- The offset of a coordinate (R218). -/
def coordinateOffset : Coordinate → Nat
  | .first => 0x64
  | .second => 0x68

/-- The offset of a counter (R218). -/
def counterOffset : Counter → Nat
  | .beaconsMissed => 0x10 | .checkErrors => 0x12 | .contentionFails => 0x14
  | .offersMissed => 0x16 | .messagesDropped => 0x18 | .guardHits => 0x1A

/-- The offset of an entry's response field (R220). -/
def responseOffset (n : Fin 16) : Nat := offerOffset n + 0x18

/-- A response word: code on the lower lane, token on the higher (R220). -/
def responseWord (code token : Byte) : Word := Word.ofBytes token code

/-! ## Memory cycles -/

/-- PROCESSOR_WRITE (R188). -/
def execProcessorWrite (address : BitVec 19) (lanes : Lanes) (data : Word) (s : State) : Host.Outcome State Fault Refusal :=
  .next (s.processorCycle (.write address lanes data))

/-- PROCESSOR_READ (R192). -/
def execProcessorRead (address : BitVec 19) (lanes : Lanes) (s : State) : Host.Outcome State Fault Refusal :=
  .next (s.processorCycle (.read address lanes))

/-- RESET_WORD_WRITE (R204): 00FFh with both lanes. -/
def execResetWordWrite (s : State) : Host.Outcome State Fault Refusal := .next (s.writeAt 0x04 Lanes.both 0x00FF#16)

/-! ## Status Unit -/

/-- LOGON (R3). -/
def execLogon (lanes : Lanes) (data : Word) (s : State) : Host.Outcome State Fault Refusal := .next (s.writeAt 0x36 lanes data)

/-- STATUS_REQUEST_FREE (R6). -/
def execStatusRequestFree (lanes : Lanes) (s : State) : Host.Outcome State Fault Refusal :=
  .next (s.writeAt 0x38 lanes codeFree)

/-- STATUS_REQUEST_BREAK (R6). -/
def execStatusRequestBreak (lanes : Lanes) (s : State) : Host.Outcome State Fault Refusal :=
  .next (s.writeAt 0x38 lanes codeBreak)

/-- STATUS_REQUEST_OTHER_VALUE (R6). -/
def execStatusRequestOtherValue (lanes : Lanes) (data : Word) (s : State) : Host.Outcome State Fault Refusal :=
  .next (s.writeAt 0x38 lanes data)

/-- CLOSE (R7, R8). -/
def execClose (lanes : Lanes) (s : State) : Host.Outcome State Fault Refusal := .next (s.writeAt 0x3E lanes codeClose)

/-- CLOSE_TRIP (R7, R105). -/
def execCloseTrip (lanes : Lanes) (s : State) : Host.Outcome State Fault Refusal := .next (s.writeAt 0x3E lanes codeCloseTrip)

/-- SHIFT_CONTROL_OTHER_VALUE (R7). -/
def execShiftControlOtherValue (lanes : Lanes) (data : Word) (s : State) : Host.Outcome State Fault Refusal :=
  .next (s.writeAt 0x3E lanes data)

/-- ZONE_WRITE (R9). -/
def execZoneWrite (lanes : Lanes) (data : Word) (s : State) : Host.Outcome State Fault Refusal :=
  .next (s.writeAt 0x60 lanes data)

/-- POSITION_LOWER_WORD_WRITE (R10). -/
def execPositionLowerWordWrite (c : Coordinate) (lanes : Lanes) (data : Word) (s : State) :
    Host.Outcome State Fault Refusal :=
  .next (s.writeAt (coordinateOffset c) lanes data)

/-- FIRST_COORDINATE_WRITE (R10). -/
def execFirstCoordinateWrite (lanes : Lanes) (data : Word) (s : State) : Host.Outcome State Fault Refusal :=
  .next (s.writeAt (coordinateOffset .first + 2) lanes data)

/-- SECOND_COORDINATE_WRITE (R10). -/
def execSecondCoordinateWrite (lanes : Lanes) (data : Word) (s : State) : Host.Outcome State Fault Refusal :=
  .next (s.writeAt (coordinateOffset .second + 2) lanes data)

/-! ## Power and Start-up -/

/-- POWER_REQUEST_ACTIVE (R174). -/
def execPowerRequestActive (lanes : Lanes) (s : State) : Host.Outcome State Fault Refusal :=
  .next (s.writeAt 0x44 lanes codeActive)

/-- POWER_REQUEST_STANDBY (R170). -/
def execPowerRequestStandby (lanes : Lanes) (s : State) : Host.Outcome State Fault Refusal :=
  .next (s.writeAt 0x44 lanes codeStandby)

/-- POWER_REQUEST_SLEEP (R173). -/
def execPowerRequestSleep (lanes : Lanes) (s : State) : Host.Outcome State Fault Refusal :=
  .next (s.writeAt 0x44 lanes codeSleep)

/-- POWER_REQUEST_OTHER_VALUE (R169). -/
def execPowerRequestOtherValue (lanes : Lanes) (data : Word) (s : State) : Host.Outcome State Fault Refusal :=
  .next (s.writeAt 0x44 lanes data)

/-! ## Rings -/

/-- RING_DESCRIPTOR_WRITE (R123). -/
def execRingDescriptorWrite (r : RingId) (part : DescriptorWord) (lanes : Lanes) (data : Word) (s : State) :
    Host.Outcome State Fault Refusal :=
  .next (s.writeAt (descriptorOffset r part) lanes data)

/-- RING_CONTROL_OPEN (R128). -/
def execRingControlOpen (r : RingId) (lanes : Lanes) (s : State) : Host.Outcome State Fault Refusal :=
  .next (s.writeAt (ringOffset r + 4) lanes codeRingOpen)

/-- RING_CONTROL_CLOSE (R130). -/
def execRingControlClose (r : RingId) (lanes : Lanes) (s : State) : Host.Outcome State Fault Refusal :=
  .next (s.writeAt (ringOffset r + 4) lanes codeRingClose)

/-- RING_CONTROL_OTHER_VALUE (R129). -/
def execRingControlOtherValue (r : RingId) (lanes : Lanes) (data : Word) (s : State) : Host.Outcome State Fault Refusal :=
  .next (s.writeAt (ringOffset r + 4) lanes data)

/-- RING_POINTER_WRITE (R127). -/
def execRingPointerWrite (r : RingId) (lanes : Lanes) (data : Word) (s : State) : Host.Outcome State Fault Refusal :=
  .next (s.writeAt (s.pointerOffset r) lanes data)

/-! ## Emergency and attention -/

/-- EMERGENCY_RAISE (R151). -/
def execEmergencyRaise (lanes : Lanes) (data : Word) (s : State) : Host.Outcome State Fault Refusal :=
  .next (s.writeAt 0x50 lanes data)

/-- ATTENTION_CLEAR (R209). -/
def execAttentionClear (lanes : Lanes) (data : Word) (s : State) : Host.Outcome State Fault Refusal :=
  .next (s.writeAt 0x0C lanes data)

/-- ATTENTION_ENABLE (R210). -/
def execAttentionEnable (lanes : Lanes) (data : Word) (s : State) : Host.Outcome State Fault Refusal :=
  .next (s.writeAt 0x0E lanes data)

/-- ATTENTION_DONE (R212). -/
def execAttentionDone (lanes : Lanes) (data : Word) (s : State) : Host.Outcome State Fault Refusal :=
  .next (s.writeAt 0x06 lanes data)

/-! ## Responses -/

/-- RESPONSE_ACCEPT (R75). -/
def execResponseAccept (n : Fin 16) (lanes : Lanes) (token : Byte) (s : State) : Host.Outcome State Fault Refusal :=
  .next (s.writeAt (responseOffset n) lanes (responseWord codeAccept token))

/-- RESPONSE_DECLINE (R76). -/
def execResponseDecline (n : Fin 16) (lanes : Lanes) (token : Byte) (s : State) : Host.Outcome State Fault Refusal :=
  .next (s.writeAt (responseOffset n) lanes (responseWord codeDecline token))

/-- RESPONSE_RELEASE (R77). -/
def execResponseRelease (n : Fin 16) (lanes : Lanes) (token : Byte) (s : State) : Host.Outcome State Fault Refusal :=
  .next (s.writeAt (responseOffset n) lanes (responseWord codeRelease token))

/-- RESPONSE_OTHER_CODE (R74). -/
def execResponseOtherCode (n : Fin 16) (lanes : Lanes) (data : Word) (s : State) : Host.Outcome State Fault Refusal :=
  .next (s.writeAt (responseOffset n) lanes data)

/-! ## Reads with an effect -/

/-- COUNTER_READ (R207). -/
def execCounterRead (c : Counter) (lanes : Lanes) (s : State) : Host.Outcome State Fault Refusal :=
  .next (s.readAt (counterOffset c) lanes)

/-- WAKE_REASON_READ (R178). -/
def execWakeReasonRead (lanes : Lanes) (s : State) : Host.Outcome State Fault Refusal := .next (s.readAt 0x4E lanes)

/-- LINK_STATUS_READ (R37). -/
def execLinkStatusRead (word : Fin 5) (lanes : Lanes) (s : State) : Host.Outcome State Fault Refusal :=
  .next (s.readAt (0x20 + 2 * word.val) lanes)

/-- CAB_CLOCK_LOWER_WORD_READ (R38). -/
def execCabClockLowerWordRead (lanes : Lanes) (s : State) : Host.Outcome State Fault Refusal := .next (s.readAt 0x1C lanes)

/-- METER_FIRST_WORD_READ (R97). -/
def execMeterFirstWordRead (lanes : Lanes) (s : State) : Host.Outcome State Fault Refusal := .next (s.readAt 0x70 lanes)

/-- TOTALS_FIRST_WORD_READ (R116). -/
def execTotalsFirstWordRead (lanes : Lanes) (s : State) : Host.Outcome State Fault Refusal := .next (s.readAt totalsOffset lanes)

end Sys2Proof.Machine
end

