-- ==== Sys2Proof/Machine/Startup.lean ====
section
/-! DEFINITION. Power-on reset, start-up and the soft reset (R180 to R185, R200, R201, and the reset rules of every block). -/

namespace Sys2Proof.Machine

/-! ## RESETn (R180, R200) -/

/-- RESETn is low: the post buffer's content is lost and no drain or internal cycle runs (R200, log entry 26). -/
def State.resetLow (s : State) : State :=
  { s with path := { s.path with inReset := true, buffer := [], drain := .idle, internal := false } }

/-- RESETn is released: the area select is sampled, every block takes its power-on values and LOADING begins. Memory, the levels of
the inputs, the cycles whose ready is held and the trace of the outputs stay, and no OFF order is given (log entry 33); a cycle held meanwhile
is handled then. -/
def State.powerOn (asel : BitVec 4) (s : State) : State :=
  State.service
    { State.reset with
      pending := s.pending,
      mem := s.mem,
      pins := { Pins.reset with emswClosed := s.pins.emswClosed, ign := s.pins.ign },
      path := { MemoryPath.reset with asel := asel, held := s.path.held, answer := s.path.answer },
      radio := { Transceiver.reset with channel := s.radio.channel, output := s.radio.output },
      status := { StatusUnit.reset with flashOn := s.status.flashOn },
      power := { PowerUnit.reset with ignition := s.pins.ign } }

/-! ## LOADING (R180 to R182) -/

/-- The part works and start-up is LOADING. -/
def State.loading (s : State) : Bool := s.running && s.power.startUp == .loading

/-- Entry into CONFIG_FAULT (R182). -/
def State.configFault (reason : FaultReason) (item : Byte) (s : State) : State :=
  { s with power := { s.power with startUp := .configFault, faultReason := reason, failingItem := item, transaction := [] } }

/-- A read attempt fails: a fresh one follows, or after the third CONFIG_FAULT with NO_IMAGE (R180). Where it was cut is not kept (log entry 51). -/
def State.attemptFails (s : State) : State :=
  if s.power.attempt < 3 then
    { s with power := { s.power with attempt := s.power.attempt + 1, transaction := imageTransaction } }
  else s.configFault .noImage 0#8

/-- The operations of RECOVERING: the read of the emergency record and the sixteen offer images (R183, log entry 21). -/
def recoveryQueue (drainMark : Nat) : List Operation :=
  ⟨.recoveryRead, drainMark⟩ :: allEntries.map (fun n => ⟨.offerRewrite n, 0⟩)

/-- A complete image is judged (R181); a good one is taken and RECOVERING begins. -/
def State.takeImage (b : List Byte) (s : State) : State :=
  match judgeImage b with
  | .checkFails => s.configFault .check 0#8
  | .outOfRange item => s.configFault .range item
  | .good image =>
    { s with
      power := { s.power with startUp := .recovering, transaction := [], image := some image },
      link := { s.link with channels := image.channels },
      sched := { s.sched with seed := image.cab, draws := 0 },
      path := { s.path with queue := recoveryQueue s.path.buffer.length } }

/-! ## READY (R184) -/

/-- RECOVERING has done its work (R183). -/
def State.recovered (s : State) : Bool :=
  s.running && s.power.startUp == .recovering && s.power.recovery != .none && s.path.queue.isEmpty && s.path.under.isNone

/-- The items of the image are applied by the blocks that use them. -/
def State.applyImage (image : ConfigImage) (s : State) : State :=
  { s with
    status := { s.status with lampMap := image.lampMap, alarmEnabled := image.alarmFlash, alarmOn := s.emerg.state.raised },
    trips := { s.trips with components := image.components },
    msgs := { s.msgs with pauseAt := image.pauseAt, resumeAt := image.resumeAt } }

/-- Start-up becomes READY: the link enters QUIET, the cycle timer starts, the STATUS place is filled, the lamps are driven and a
switch already closed is taken as a closing when the state is CLEAR. The first cycle has no open beacon window (log entry 52). -/
def State.becomeReady (s : State) : State :=
  match s.power.image with
  | some image =>
    let s := s.applyImage image
    let s := { s with
      power := { s.power with startUp := .ready }, link := { s.link with nextSlot := 0, window := false, beaconIn := false } }
    let s := State.handOn (s.enterQuiet true)
    if s.pins.emswClosed && s.emerg.state == .clear then s.takeClosing else s
  | none => s

/-! ## Soft reset (R201) -/

/-- The scheduler's soft-reset rule (R67). -/
def Scheduler.softReset (u : Scheduler) : Scheduler :=
  { Scheduler.reset with alertPlace := u.alertPlace, draws := u.draws, seed := u.seed }

/-- A short frame on the air has left its place or list; a long frame is sent to its end and reported (R67). -/
def Transceiver.forgetShort (r : Transceiver) : Transceiver :=
  { r with sending := r.sending.map (fun f => if f.via = .long then f else { f with live := false }) }

/-- The status recomputed from what the other blocks keep (R15). -/
def State.recomputedStatus (s : State) : CabStatus :=
  if !s.status.shiftOpen then .offDuty
  else if s.trips.trip.isSome then .hired
  else if s.offers.awarded.isSome then .assigned
  else .free

/-- The Status Unit's and Power and Start-up's soft-reset rules (R15, R179). -/
def State.softResetStatus (s : State) : State :=
  { s with
    status := { s.status with status := s.recomputedStatus, statusResult := Result.reset, shiftResult := Result.reset },
    power := { s.power with power := .active, park := false, result := Result.reset } }

/-- The operations that a soft reset keeps: offer entry rewrites, the emergency record rewrite and the totals snapshot (R201). -/
def OpKind.kept : OpKind → Bool
  | .offerRewrite _ => true
  | .emergencyRewrite => true
  | .totalsSnapshot => true
  | .inboundDeposit => false
  | .tripDeposit => false
  | .outboundFetch => false
  | .outboundCompletion => false
  | .headerRead _ => false
  | .recoveryRead => false
  | .abandoned => false

/-- The operation under way after a soft reset: a kept one goes on; an abandoned one stops after its memory cycle under way (R201). -/
def MemoryPath.underAfterReset (p : MemoryPath) : Option UnderWay :=
  match p.under with
  | some u =>
    if u.kind.kept then some { u with causes := [] }
    else if p.internal then
      some { u with kind := .abandoned, cycles := u.cycles.take 1, got := [], causes := [], carriesClear := false }
    else none
  | none => none

/-- The Memory Path's values after a soft reset (R201); causes that waited on a kept rewrite are cleared with the others (log entry 13). -/
def MemoryPath.softReset (p : MemoryPath) : MemoryPath :=
  { p with
    buffer := [], fairness := 0, resetDrain := false,
    queue := p.queue.filter (fun o => o.kind.kept), under := p.underAfterReset }

/-- The Emergency Unit's soft-reset rule (R167). -/
def EmergencyUnit.softReset (e : EmergencyUnit) : EmergencyUnit :=
  { e with raiseResult := Result.reset, causeWaits := false }

/-- The Control Page logic after a soft reset (R213). -/
def State.softResetPage (s : State) : State :=
  { s with page := ControlPage.reset, pins := { s.pins with attn := false } }

/-- The part can take the soft reset: it was asked for and the last entry has drained (R201). -/
def State.softResetDue (s : State) : Bool :=
  s.ready && s.path.resetDrain && s.path.buffer.isEmpty && s.path.drain == .idle

/-- A soft reset: every block applies its own rule, operations are kept or abandoned, and ready is released (R201). -/
def State.softReset (s : State) : State :=
  let s := s.enterQuiet false
  let s := { s with
    sched := s.sched.softReset, radio := s.radio.forgetShort, path := s.path.softReset, trips := s.returnDeposit.trips,
    emerg := s.emerg.softReset, link := { s.link with clockUpper := 0#16 } }
  let s := State.softResetTrips s.softResetOffers
  let s := State.softResetStatus s.softResetMessages
  State.service (State.softResetPage s.handOn)

end Sys2Proof.Machine
end

