-- ==== Sys2Proof/Machine/StartUpCommands.lean ====
section
/-! DEFINITION. The commands of reset and start-up: RESETn, the EEPROM read, RECOVERING, READY and the soft reset. -/

namespace Sys2Proof.Machine

/-- POWER_ON_RESET (R180, R186, R200). -/
def execPowerOnReset (asel : BitVec 4) (s : State) : Host.Outcome State Fault Refusal := .next (s.powerOn asel)

/-- RESETN_LOW (R200). -/
def execResetnLow (s : State) : Host.Outcome State Fault Refusal := .next s.resetLow

/-- EEPROM_NO_ACKNOWLEDGE (R180). -/
def execEepromNoAcknowledge (s : State) : Host.Outcome State Fault Refusal := .next (if s.loading then s.attemptFails else s)

/-- IMAGE_READ_TIMEOUT (R180). -/
def execImageReadTimeout (s : State) : Host.Outcome State Fault Refusal := .next (if s.loading then s.attemptFails else s)

/-- IMAGE_READ_COMPLETE (R181): a complete image has 64 bytes. -/
def execImageReadComplete (image : List Byte) (s : State) : Host.Outcome State Fault Refusal :=
  .next (if s.loading && image.length == 64 then s.takeImage image else s)

/-- RECOVERY_READ_COMPLETE (R166). -/
def execRecoveryReadComplete (s : State) : Host.Outcome State Fault Refusal :=
  .next (s.complete .recoveryRead (fun u => State.recover (judgeRecord u.got)))

/-- START_UP_READY (R184). -/
def execStartUpReady (s : State) : Host.Outcome State Fault Refusal := .next (if s.recovered then s.becomeReady else s)

/-- SOFT_RESET (R201). -/
def execSoftReset (s : State) : Host.Outcome State Fault Refusal := .next (if s.softResetDue then s.softReset else s)

end Sys2Proof.Machine
end

