-- ==== Sys2Proof/Machine/TimerCommands.lean ====
section
/-! DEFINITION. The commands of the part's timers that are stated in seconds, the cab clock and the lamp timers. -/

namespace Sys2Proof.Machine

/-- A second passes on every timer stated in seconds (R20). -/
def State.tickTimers (s : State) : State :=
  { s with
    offers := s.offers.tick, trips := { s.trips with silence := s.trips.silence.tick }, msgs := s.msgs.tick,
    emerg := { s.emerg with hold := s.emerg.hold.tick } }

/-- The cab clock and the second timer count up by 1 (R20). -/
def State.second (s : State) : State :=
  State.tickTimers { s with link := { s.link with clock := s.link.clock + 1#32, seconds := s.link.seconds + 1 } }

/-- CAB_CLOCK_SECOND (R20). -/
def execCabClockSecond (s : State) : Host.Outcome State Fault Refusal := .next (if s.running then s.second else s)

/-- FLASH_TIMER_PHASE (R12). -/
def execFlashTimerPhase (s : State) : Host.Outcome State Fault Refusal :=
  .next
    (if s.running then State.driveLamps { s with status := { s.status with flashOn := !s.status.flashOn } } else s)

/-- ALARM_FLASH_TOGGLE (R13): while the state is ALERTING or ACKED. -/
def execAlarmFlashToggle (s : State) : Host.Outcome State Fault Refusal :=
  .next
    (if s.ready && s.emerg.state.raised then
      State.driveLamps { s with status := { s.status with alarmOn := !s.status.alarmOn } }
     else s)

/-- SILENCE_TIMER_EXPIRY (R94). -/
def execSilenceTimerExpiry (s : State) : Host.Outcome State Fault Refusal := .next (if s.ready then s.silenceEnds else s)

/-- HOLD_TIMER_EXPIRY (R150). -/
def execHoldTimerExpiry (s : State) : Host.Outcome State Fault Refusal := .next (if s.ready then s.holdEnds else s)

/-- REPEAT_TIMER_EXPIRY (R156). -/
def execRepeatTimerExpiry (s : State) : Host.Outcome State Fault Refusal := .next (if s.ready then s.repeatEnds else s)

/-- LIFETIME_EXPIRY (R73). -/
def execLifetimeExpiry (n : Fin 16) (s : State) : Host.Outcome State Fault Refusal :=
  .next (if s.ready then s.lifetimeEnds n else s)

/-- AWARD_WAIT_EXPIRY (R83). -/
def execAwardWaitExpiry (n : Fin 16) (s : State) : Host.Outcome State Fault Refusal :=
  .next (if s.ready then s.awardWaitEnds n else s)

/-- ACKNOWLEDGMENT_WAIT_EXPIRY (R134). -/
def execAcknowledgmentWaitExpiry (s : State) : Host.Outcome State Fault Refusal := .next (if s.ready then s.ackWaitEnds else s)

/-- INTER_FRAGMENT_TIMER_EXPIRY (R139). -/
def execInterFragmentTimerExpiry (b : BufferId) (s : State) : Host.Outcome State Fault Refusal :=
  .next (if s.ready then s.interFragmentEnds b else s)

/-- FARE_REPORT_RETRANSMIT_TIME (R111). -/
def execFareReportRetransmitTime (r : TripRef) (s : State) : Host.Outcome State Fault Refusal :=
  .next (if s.ready then s.fareRetransmit r else s)

/-- SHIFT_REPORT_RETRANSMIT_TIME (R118). -/
def execShiftReportRetransmitTime (s : State) : Host.Outcome State Fault Refusal :=
  .next (if s.ready then s.shiftRetransmit else s)

end Sys2Proof.Machine
end

