-- ==== Sys2Proof/Machine/Dispatch.lean ====
section
/-! DEFINITION. The meaning of every command: one call for each constructor of `Instr`. -/

namespace Sys2Proof.Machine

/-- The effect of a command on everything but the queue. -/
def exec (i : Instr) (s : State) : Host.Outcome State Fault Refusal :=
  match i with
  | .powerOnReset asel => Sys2Proof.Machine.execPowerOnReset asel s
  | .eepromNoAcknowledge => Sys2Proof.Machine.execEepromNoAcknowledge s
  | .imageReadTimeout => Sys2Proof.Machine.execImageReadTimeout s
  | .imageReadComplete image => Sys2Proof.Machine.execImageReadComplete image s
  | .recoveryReadComplete => Sys2Proof.Machine.execRecoveryReadComplete s
  | .startUpReady => Sys2Proof.Machine.execStartUpReady s
  | .resetWordWrite => Sys2Proof.Machine.execResetWordWrite s
  | .softReset => Sys2Proof.Machine.execSoftReset s
  | .processorWrite address lanes data => Sys2Proof.Machine.execProcessorWrite address lanes data s
  | .processorRead address lanes => Sys2Proof.Machine.execProcessorRead address lanes s
  | .drainComplete => Sys2Proof.Machine.execDrainComplete s
  | .internalOperationStart => Sys2Proof.Machine.execInternalOperationStart s
  | .offerEntryRewriteComplete => Sys2Proof.Machine.execOfferEntryRewriteComplete s
  | .emergencyRecordRewriteComplete => Sys2Proof.Machine.execEmergencyRecordRewriteComplete s
  | .totalsSnapshotComplete => Sys2Proof.Machine.execTotalsSnapshotComplete s
  | .tripLogDepositComplete => Sys2Proof.Machine.execTripLogDepositComplete s
  | .inboundDepositComplete => Sys2Proof.Machine.execInboundDepositComplete s
  | .outboundFetchComplete => Sys2Proof.Machine.execOutboundFetchComplete s
  | .outboundCompletionComplete => Sys2Proof.Machine.execOutboundCompletionComplete s
  | .openCheckHeaderReadComplete => Sys2Proof.Machine.execOpenCheckHeaderReadComplete s
  | .logon lanes data => Sys2Proof.Machine.execLogon lanes data s
  | .statusRequestFree lanes => Sys2Proof.Machine.execStatusRequestFree lanes s
  | .statusRequestBreak lanes => Sys2Proof.Machine.execStatusRequestBreak lanes s
  | .close lanes => Sys2Proof.Machine.execClose lanes s
  | .closeTrip lanes => Sys2Proof.Machine.execCloseTrip lanes s
  | .zoneWrite lanes data => Sys2Proof.Machine.execZoneWrite lanes data s
  | .positionLowerWordWrite coordinate lanes data => Sys2Proof.Machine.execPositionLowerWordWrite coordinate lanes data s
  | .firstCoordinateWrite lanes data => Sys2Proof.Machine.execFirstCoordinateWrite lanes data s
  | .secondCoordinateWrite lanes data => Sys2Proof.Machine.execSecondCoordinateWrite lanes data s
  | .powerRequestActive lanes => Sys2Proof.Machine.execPowerRequestActive lanes s
  | .powerRequestStandby lanes => Sys2Proof.Machine.execPowerRequestStandby lanes s
  | .powerRequestSleep lanes => Sys2Proof.Machine.execPowerRequestSleep lanes s
  | .ringDescriptorWrite ring part lanes data => Sys2Proof.Machine.execRingDescriptorWrite ring part lanes data s
  | .ringControlOpen ring lanes => Sys2Proof.Machine.execRingControlOpen ring lanes s
  | .ringControlClose ring lanes => Sys2Proof.Machine.execRingControlClose ring lanes s
  | .ringPointerWrite ring lanes data => Sys2Proof.Machine.execRingPointerWrite ring lanes data s
  | .emergencyRaise lanes data => Sys2Proof.Machine.execEmergencyRaise lanes data s
  | .attentionClear lanes data => Sys2Proof.Machine.execAttentionClear lanes data s
  | .attentionEnable lanes data => Sys2Proof.Machine.execAttentionEnable lanes data s
  | .attentionDone lanes data => Sys2Proof.Machine.execAttentionDone lanes data s
  | .responseAccept entry lanes token => Sys2Proof.Machine.execResponseAccept entry lanes token s
  | .responseDecline entry lanes token => Sys2Proof.Machine.execResponseDecline entry lanes token s
  | .responseRelease entry lanes token => Sys2Proof.Machine.execResponseRelease entry lanes token s
  | .counterRead counter lanes => Sys2Proof.Machine.execCounterRead counter lanes s
  | .wakeReasonRead lanes => Sys2Proof.Machine.execWakeReasonRead lanes s
  | .linkStatusRead word lanes => Sys2Proof.Machine.execLinkStatusRead word lanes s
  | .cabClockLowerWordRead lanes => Sys2Proof.Machine.execCabClockLowerWordRead lanes s
  | .meterFirstWordRead lanes => Sys2Proof.Machine.execMeterFirstWordRead lanes s
  | .totalsFirstWordRead lanes => Sys2Proof.Machine.execTotalsFirstWordRead lanes s
  | .hire tariff => Sys2Proof.Machine.execHire tariff s
  | .step component amount => Sys2Proof.Machine.execStep component amount s
  | .tariff tariff => Sys2Proof.Machine.execTariff tariff s
  | .stop fare => Sys2Proof.Machine.execStop fare s
  | .fault code => Sys2Proof.Machine.execFault code s
  | .alive => Sys2Proof.Machine.execAlive s
  | .malformedMeterMessage bytes gap => Sys2Proof.Machine.execMalformedMeterMessage bytes gap s
  | .silenceTimerExpiry => Sys2Proof.Machine.execSilenceTimerExpiry s
  | .emswClosing => Sys2Proof.Machine.execEmswClosing s
  | .emswOpening => Sys2Proof.Machine.execEmswOpening s
  | .ignitionOn => Sys2Proof.Machine.execIgnitionOn s
  | .ignitionOff => Sys2Proof.Machine.execIgnitionOff s
  | .holdTimerExpiry => Sys2Proof.Machine.execHoldTimerExpiry s
  | .repeatTimerExpiry => Sys2Proof.Machine.execRepeatTimerExpiry s
  | .lifetimeExpiry entry => Sys2Proof.Machine.execLifetimeExpiry entry s
  | .awardWaitExpiry entry => Sys2Proof.Machine.execAwardWaitExpiry entry s
  | .acknowledgmentWaitExpiry => Sys2Proof.Machine.execAcknowledgmentWaitExpiry s
  | .interFragmentTimerExpiry buffer => Sys2Proof.Machine.execInterFragmentTimerExpiry buffer s
  | .fareReportRetransmitTime reference => Sys2Proof.Machine.execFareReportRetransmitTime reference s
  | .shiftReportRetransmitTime => Sys2Proof.Machine.execShiftReportRetransmitTime s
  | .cabClockSecond => Sys2Proof.Machine.execCabClockSecond s
  | .flashTimerPhase => Sys2Proof.Machine.execFlashTimerPhase s
  | .alarmFlashToggle => Sys2Proof.Machine.execAlarmFlashToggle s
  | .cycleStart => Sys2Proof.Machine.execCycleStart s
  | .beaconWindowClose => Sys2Proof.Machine.execBeaconWindowClose s
  | .quietWaitEnd => Sys2Proof.Machine.execQuietWaitEnd s
  | .listenEnd => Sys2Proof.Machine.execListenEnd s
  | .joinGrantWaitExpiry => Sys2Proof.Machine.execJoinGrantWaitExpiry s
  | .slotStart => Sys2Proof.Machine.execSlotStart s
  | .backoffExpiry => Sys2Proof.Machine.execBackoffExpiry s
  | .grantWaitExpiry => Sys2Proof.Machine.execGrantWaitExpiry s
  | .restExpiry => Sys2Proof.Machine.execRestExpiry s
  | .grantExpiry => Sys2Proof.Machine.execGrantExpiry s
  | .parkingCountExpiry => Sys2Proof.Machine.execParkingCountExpiry s
  | .shortFrameSent => Sys2Proof.Machine.execShortFrameSent s
  | .longFrameSent => Sys2Proof.Machine.execLongFrameSent s
  | .damagedFrame bytes => Sys2Proof.Machine.execDamagedFrame bytes s
  | .beacon header body => Sys2Proof.Machine.execBeacon header body s
  | .grantJoin header slot period phase => Sys2Proof.Machine.execGrantJoin header slot period phase s
  | .deny header reason => Sys2Proof.Machine.execDeny header reason s
  | .rejoin header => Sys2Proof.Machine.execRejoin header s
  | .grantLong header cycle start count => Sys2Proof.Machine.execGrantLong header cycle start count s
  | .offer header body => Sys2Proof.Machine.execOffer header body s
  | .award header body => Sys2Proof.Machine.execAward header body s
  | .lost header job => Sys2Proof.Machine.execLost header job s
  | .withdraw header job => Sys2Proof.Machine.execWithdraw header job s
  | .text header body => Sys2Proof.Machine.execText header body s
  | .ackOfText header tag => Sys2Proof.Machine.execAckOfText header tag s
  | .ackOfFare header reference => Sys2Proof.Machine.execAckOfFare header reference s
  | .ackOfShift header shift => Sys2Proof.Machine.execAckOfShift header shift s
  | .alertAck header number => Sys2Proof.Machine.execAlertAck header number s
  | .alertCancel header number => Sys2Proof.Machine.execAlertCancel header number s
  | .wake header cabs => Sys2Proof.Machine.execWake header cabs s
  | .resetnLow => Sys2Proof.Machine.execResetnLow s
  | .drainStart => Sys2Proof.Machine.execDrainStart s
  | .internalMemoryCycleComplete => Sys2Proof.Machine.execInternalMemoryCycleComplete s
  | .statusRequestOtherValue lanes data => Sys2Proof.Machine.execStatusRequestOtherValue lanes data s
  | .shiftControlOtherValue lanes data => Sys2Proof.Machine.execShiftControlOtherValue lanes data s
  | .powerRequestOtherValue lanes data => Sys2Proof.Machine.execPowerRequestOtherValue lanes data s
  | .ringControlOtherValue ring lanes data => Sys2Proof.Machine.execRingControlOtherValue ring lanes data s
  | .responseOtherCode entry lanes data => Sys2Proof.Machine.execResponseOtherCode entry lanes data s

end Sys2Proof.Machine
end

