-- ==== Sys2Proof/WellFormed.lean ====
section
/-! DEFINITION. The commands that a sender can make: the operands that the manual's formats allow. `exec` has a meaning for the others too. -/

namespace Sys2Proof

/-- A processor cycle covers at least one lane (R186). -/
def Lanes.wellFormed (l : Lanes) : Bool := l.lo || l.hi

/-- A heard list is counted by one byte (R225). -/
def BeaconBody.wellFormed (b : BeaconBody) : Bool := decide (b.heard.length ≤ 255)

/-- A text is counted by one byte (R225). -/
def OfferBody.wellFormed (b : OfferBody) : Bool := decide (b.text.length ≤ 255)

/-- A text is counted by one byte (R225). -/
def TextBody.wellFormed (b : TextBody) : Bool := decide (b.text.length ≤ 255)

/-- The command is one that the world outside the block can make: a cycle covers a lane, a counted list fits its count, the fields of a
meter message are in range (R93), an image has 64 bytes (R181), a WAKE has six numbers (R176), and damaged bytes are damaged (R17). -/
def Instr.wellFormed (i : Instr) : Bool :=
  match i with
  | .imageReadComplete image => image.length == 64
  | .processorWrite _ l _ => l.wellFormed
  | .processorRead _ l => l.wellFormed
  | .logon l _ => l.wellFormed
  | .statusRequestFree l => l.wellFormed
  | .statusRequestBreak l => l.wellFormed
  | .statusRequestOtherValue l _ => l.wellFormed
  | .close l => l.wellFormed
  | .closeTrip l => l.wellFormed
  | .shiftControlOtherValue l _ => l.wellFormed
  | .zoneWrite l _ => l.wellFormed
  | .positionLowerWordWrite _ l _ => l.wellFormed
  | .firstCoordinateWrite l _ => l.wellFormed
  | .secondCoordinateWrite l _ => l.wellFormed
  | .powerRequestActive l => l.wellFormed
  | .powerRequestStandby l => l.wellFormed
  | .powerRequestSleep l => l.wellFormed
  | .powerRequestOtherValue l _ => l.wellFormed
  | .ringDescriptorWrite _ _ l _ => l.wellFormed
  | .ringControlOpen _ l => l.wellFormed
  | .ringControlClose _ l => l.wellFormed
  | .ringControlOtherValue _ l _ => l.wellFormed
  | .ringPointerWrite _ l _ => l.wellFormed
  | .emergencyRaise l _ => l.wellFormed
  | .attentionClear l _ => l.wellFormed
  | .attentionEnable l _ => l.wellFormed
  | .attentionDone l _ => l.wellFormed
  | .responseAccept _ l _ => l.wellFormed
  | .responseDecline _ l _ => l.wellFormed
  | .responseRelease _ l _ => l.wellFormed
  | .responseOtherCode _ l _ => l.wellFormed
  | .counterRead _ l => l.wellFormed
  | .wakeReasonRead l => l.wellFormed
  | .linkStatusRead _ l => l.wellFormed
  | .cabClockLowerWordRead l => l.wellFormed
  | .meterFirstWordRead l => l.wellFormed
  | .totalsFirstWordRead l => l.wellFormed
  | .hire t => (Machine.MeterMessage.hire t).inRange
  | .step c a => (Machine.MeterMessage.step c a).inRange
  | .tariff t => (Machine.MeterMessage.tariff t).inRange
  | .fault c => (Machine.MeterMessage.fault c).inRange
  | .malformedMeterMessage bytes gap => gap || (Machine.decodeMeter bytes).isNone
  | .damagedFrame bytes => Machine.decodeFrame bytes == .damaged
  | .beacon _ b => b.wellFormed
  | .offer _ b => b.wellFormed
  | .award _ b => b.wellFormed
  | .text _ b => b.wellFormed
  | .wake _ cabs => cabs.length == 6
  | _ => true

end Sys2Proof
end

