-- ==== Sys2Proof/Safety.lean ====
section
/-! DEFINITION. The laws that every step keeps, and the conditions under which a command is taken at once: what the statements are made of. -/

namespace Sys2Proof.Machine

/-! ## The laws -/

/-- R211: ATTN is asserted while the attention-busy flag is set, and a clear flag leaves no cause both set and enabled. -/
def State.attentionLaw (s : State) : Prop :=
  s.pins.attn = s.page.busy ∧ (s.page.busy = false → s.page.causes &&& s.page.enables = 0#13)

/-- The memory is in its canonical form. -/
def State.memoryLaw (s : State) : Prop := Memory.wf s.mem = true

/-- R1, R2: HIRED exactly while a trip is open, OFF_DUTY exactly while no shift is open, no trip outside a shift, and no driver ID and no
meter-opened flag outside a shift. -/
def State.shiftLaw (s : State) : Prop :=
  (s.status.status = .hired ↔ s.trips.trip.isSome = true) ∧ (s.status.status = .offDuty ↔ s.status.shiftOpen = false) ∧
    (s.trips.trip.isSome = true → s.status.shiftOpen = true) ∧
    (s.status.shiftOpen = false → s.status.driverId = 0#16 ∧ s.status.meterOpened = false)

/-- R1: while the status is ASSIGNED some entry of the offer table is AWARDED. -/
def State.assignedLaw (s : State) : Prop := s.status.status = .assigned → ∃ n, s.offers.stateOf n = .awarded

/-- R68: at most one entry is BIDDING or AWARDED, no two entries hold one job, and no entry holds job number 0. -/
def State.offerLaw (s : State) : Prop :=
  (∀ n k, (s.offers.stateOf n).claims = true → (s.offers.stateOf k).claims = true → n = k) ∧
    (∀ n k, s.offers.stateOf n ≠ .empty → s.offers.stateOf k ≠ .empty → (s.offers.entry n).job = (s.offers.entry k).job → n = k) ∧
    (∀ n, s.offers.stateOf n ≠ .empty → (s.offers.entry n).job ≠ 0#32)

/-- R11: from READY on the STATUS place holds the current values of all items of the report. -/
def State.reportLaw (s : State) : Prop := s.power.startUp = .ready → s.sched.statusPlace = some s.statusReport

/-- R12, R13, R14: the lamps are driven by the map while they follow it, and the alarm lamp by the emergency state. -/
def State.lampLaw (s : State) : Prop :=
  s.pins.lampHire = (s.lampsFollow && (s.status.lampMap.at_ s.status.status).hire.lit s.status.flashOn) ∧
    s.pins.lampCall = (s.lampsFollow && (s.status.lampMap.at_ s.status.status).call.lit s.status.flashOn) ∧
    s.pins.lampAlarm =
      (s.power.startUp == .ready && s.status.alarmEnabled && s.emerg.state.raised && s.status.alarmOn)

/-- Chapter 2: a site record exactly while JOINED, a candidate being joined exactly while in JOIN, a channel listened to exactly while in
HUNT; the JOIN place filled and the grant wait running only in JOIN. -/
def State.linkLaw (s : State) : Prop :=
  (s.link.state = .joined ↔ s.link.site.isSome = true) ∧ (s.link.state = .join ↔ s.link.joining.isSome = true) ∧
    (s.link.state = .hunt ↔ s.link.hunt.isSome = true) ∧ (s.sched.joinPlace = true → s.link.state = .join) ∧
    (s.link.grantWait.isSome = true → s.link.state = .join)

/-- The operations of which a block has one at a time, queued or under way: the deposits, the completion and the header reads. -/
def OpKind.once : OpKind → Bool
  | .inboundDeposit => true
  | .tripDeposit => true
  | .outboundCompletion => true
  | .headerRead _ => true
  | .offerRewrite _ => false
  | .emergencyRewrite => false
  | .totalsSnapshot => false
  | .outboundFetch => false
  | .recoveryRead => false
  | .abandoned => false

/-- The lists keep within their sizes: post buffer 4 (R188), ACK list 4 (R46), bid list 4 (R47), pending-log list 2 (R108), report list 8 (R110),
abandoned-report list 16 (R112), delivered-tag list 4 (R143), channel list 8 (R181), candidate list 8 with a place left for each channel
of the pass that is still to qualify (R24, R26), and the tariff list of the open trip 4 (R96). -/
def State.sizeLaw (s : State) : Prop :=
  s.path.buffer.length ≤ 4 ∧ s.sched.acks.length ≤ 4 ∧ s.sched.bids.length ≤ 4 ∧ s.trips.pendingLog.length ≤ 2 ∧
    s.trips.reports.length ≤ 8 ∧ s.trips.abandoned.length ≤ 16 ∧ s.msgs.delivered.length ≤ 4 ∧
    s.link.channels.length ≤ 8 ∧ s.link.candidates.length ≤ 8 ∧
    (∀ h, s.link.hunt = some h → s.link.candidates.length + h.rest.length < 8) ∧
    ∀ o, s.trips.trip = some o → o.tariffs.length ≤ 4

/-- R195: no kind of operation waits twice, and what waits or is under way is what its owner asked for: a fetch while the message in flight is
being fetched, a completion while it is completing (R131, R136), a deposit while its owner has one under way (R107, R141), a header read while
its ring's OPEN check runs (R128), the record read in RECOVERING (R183), and a record rewrite owed only behind the one under way (R159). -/
def State.queueLaw (s : State) : Prop :=
  let waits := fun (k : OpKind) => k ∈ s.path.queue.map (·.kind)
  let runs := fun (k : OpKind) => s.path.under.map (·.kind) = some k
  (s.path.queue.map (·.kind)).Nodup ∧ ¬waits .abandoned ∧ (waits .outboundFetch → s.msgs.flight = .fetching .reading) ∧
    (∀ u, s.path.under = some u → u.kind = .outboundFetch → u.cycles ≠ [] →
      s.msgs.flight = .fetching .reading ∧ ¬waits .outboundFetch) ∧
    (waits .outboundCompletion ∨ runs .outboundCompletion → ∃ c, s.msgs.flight = .completing c) ∧
    (waits .inboundDeposit ∨ runs .inboundDeposit → s.msgs.deposit ≠ none) ∧
    (waits .tripDeposit ∨ runs .tripDeposit → s.trips.deposit ≠ none) ∧
    (∀ r, waits (.headerRead r) ∨ runs (.headerRead r) → (s.msgs.ring r).check ≠ none) ∧
    (∀ k, runs k → k.once = true → ¬waits k) ∧ (waits .recoveryRead → s.power.startUp = .recovering) ∧
    (∀ r, waits (.headerRead r) → s.power.startUp = .ready) ∧
    (s.emerg.owed = true → runs .emergencyRewrite ∧ ¬waits .emergencyRewrite)

/-! ## When a command is taken at once -/

/-- Start-up is READY, RESETn is high, no soft reset waits and no earlier cycle is held: a processor cycle is attempted at once. -/
def State.cyclesFree (s : State) : Bool := s.ready && !s.path.resetDrain && s.path.held.isEmpty

/-- A processor cycle is attempted at once, and the post buffer has room: a write is accepted at once. -/
def State.writesFree (s : State) : Bool := s.cyclesFree && decide (s.path.buffer.length < 4)

/-! ## What a command leaves behind -/

/-- The lanes of a write at an offset of the cab area were posted (R188), and nothing else of the Memory Path changed. -/
def State.posts (s t : State) (offset : Nat) (l : Lanes) (data : Word) : Prop :=
  s.path.post (pageAddress s.path.asel offset) l data = some t.path

/-- The set of some causes. -/
def causesMask (cs : List Cause) : BitVec 13 := cs.foldl (fun m c => m ||| c.mask) 0#13

/-- The causes of a set were raised, and attention was evaluated (R208, R211): of the page only the causes, the busy flag and the count of
assertions may have changed, and of the pins ATTN. -/
def State.raises (s t : State) (added : BitVec 13) : Prop :=
  let causes := s.page.causes ||| added
  let fires := !s.page.busy && (causes &&& s.page.enables) != 0#13
  t.page = { s.page with causes := causes, busy := s.page.busy || fires, assertions := s.page.assertions + fires.toNat } ∧
    t.pins.attn = (s.pins.attn || fires)

/-- The levels of the inputs, ATTN and WAKE stay. -/
def State.linesStay (s t : State) : Prop :=
  t.pins.emswClosed = s.pins.emswClosed ∧ t.pins.ign = s.pins.ign ∧ t.pins.attn = s.pins.attn ∧ t.pins.wake = s.pins.wake

/-- The lamps and the levels of the inputs stay. -/
def State.lampsStay (s t : State) : Prop :=
  t.pins.emswClosed = s.pins.emswClosed ∧ t.pins.ign = s.pins.ign ∧ t.pins.lampHire = s.pins.lampHire ∧
    t.pins.lampCall = s.pins.lampCall ∧ t.pins.lampAlarm = s.pins.lampAlarm

/-- A change was handed on (R11, R12, R13): the STATUS place holds the current report, the scheduler is otherwise as before, and the lamps are driven. -/
def State.handsOn (s t : State) : Prop :=
  t.sched = { s.sched with
    statusPlace := if s.power.startUp = .ready then some t.statusReport else s.sched.statusPlace } ∧ t.lampLaw

/-- The flow state was evaluated with INBOUND OPEN, a data area of `d` bytes and the given pointers (R124, R144): a change is queued as a flow
frame and stands in the report (R11). -/
def State.flows (s t : State) (d : Nat) (own theirs : Word) : Prop :=
  let free := (theirs.toNat + 2 * d - own.toNat - 4) % d
  let pauses := s.msgs.paused = false ∧ free < s.msgs.pauseAt
  let resumes := s.msgs.paused = true ∧ s.msgs.resumeAt ≤ free
  (pauses → t.msgs.paused = true ∧ t.sched.flowPlace = some .pause) ∧
    (resumes → t.msgs.paused = false ∧ t.sched.flowPlace = some .resume) ∧
    (pauses ∨ resumes → s.power.startUp = .ready → t.sched.statusPlace = some t.statusReport) ∧
    (¬pauses → ¬resumes →
      t.msgs.paused = s.msgs.paused ∧ t.sched.flowPlace = s.sched.flowPlace ∧ t.sched.statusPlace = s.sched.statusPlace)

/-- The message of a CLOSED buffer was judged, with no deposit under way, and the buffer is EMPTY (R140 to R143): a repeat of a message delivered
is acknowledged again, another begins its deposit, and one that INBOUND has no room for is dropped. -/
def State.judges (s t : State) (k : BufferId) (m : InMessage) : Prop :=
  let acks := m.ackRequired = true ∧ m.truncated = false
  t = { s with msgs := t.msgs, path := t.path, sched := t.sched, radio := t.radio, page := t.page } ∧
    t.msgs = { s.msgs.setBuffer k .empty with deposit := t.msgs.deposit } ∧
    (m.tag ∈ s.msgs.delivered →
      t.msgs.deposit = none ∧ t.page = s.page ∧ t.path = s.path ∧ t.sched = { s.sched with acks := t.sched.acks } ∧
        (acks → m.tag ∈ t.sched.acks) ∧ (¬acks → t.sched = s.sched ∧ t.radio = s.radio)) ∧
    (m.tag ∉ s.msgs.delivered →
      t.sched = s.sched ∧ t.radio = s.radio ∧
        (∀ plan, s.msgs.inbound.plan m.bytes = some plan →
          t.msgs.deposit = some ⟨m, plan⟩ ∧ t.page = s.page ∧
            t.path = { s.path with queue := s.path.queue ++ [⟨.inboundDeposit, 0⟩] }) ∧
        (s.msgs.inbound.plan m.bytes = none →
          t.msgs.deposit = none ∧ t.path = s.path ∧
            t.page = { s.page with counters := { s.page.counters with
              messagesDropped := satAdd s.page.counters.messagesDropped 1#16 } }))

/-! ## The cycles whose ready is released -/

/-- The processor makes cycles one after another. -/
def State.makes : List BusCycle → State → State → Prop
  | [], s, t => t = s
  | .write a l d :: rest, s, t => ∃ u, exec (.processorWrite a l d) s = .next u ∧ State.makes rest u t
  | .read a l :: rest, s, t => ∃ u, exec (.processorRead a l) s = .next u ∧ State.makes rest u t

/-- The cycles held in `s` are handled from `u`, in which none is held, as if the processor made them there in their order (R188, R194, R200,
R201); then the arbiter gives an idle port to an internal cycle that is ready, when the post buffer is empty or it is its turn (R197, R198).
The first of them may be a read that waited for the port already: it is made so unless it is held or stalled now. -/
def State.serves (s u t : State) : Prop :=
  u.path.held = [] ∧
    ((∀ h ∈ s.path.held.tail, h.passed = false) →
      (∀ h, s.path.held.head? = some h → h.passed = true →
        u.path.inReset = false ∧ u.path.resetDrain = false ∧ ∃ a l, h.cycle = .read a l ∧ u.stalled a = false) →
      ∃ v, State.makes (s.path.held.map (·.cycle)) u v ∧
        let gives := v.path.under.any (fun o => o.mark == 0 && !o.cycles.isEmpty) = true ∧ v.path.drain = .idle ∧
          v.path.internal = false ∧ (v.path.buffer = [] ∨ 16 ≤ v.path.fairness)
        t = { v with path := { v.path with
          internal := v.path.internal || decide gives, fairness := if gives then 0 else v.path.fairness } })

/-! ## What stays -/

/-- Everything but the Memory Path, the Control Page, and the pins stays. -/
def State.blocksStay (s t : State) : Prop :=
  t.pending = s.pending ∧ t.mem = s.mem ∧ t.link = s.link ∧ t.radio = s.radio ∧ t.sched = s.sched ∧ t.offers = s.offers ∧
    t.trips = s.trips ∧ t.msgs = s.msgs ∧ t.emerg = s.emerg ∧ t.status = s.status ∧ t.power = s.power

/-- One guard hit: GUARD_HITS gained 1 and GUARD was raised, and nothing else but the Memory Path may have changed (R189). -/
def State.guardHits (s t : State) : Prop :=
  State.raises
    { s with page := { s.page with counters := { s.page.counters with guardHits := satAdd s.page.counters.guardHits 1#16 } } }
    t 0x400#13 ∧ t.pins = { s.pins with attn := t.pins.attn } ∧ s.blocksStay t

/-- A write was dropped whole: one guard hit, and the Memory Path stays too (R189). -/
def State.dropsWrite (s t : State) : Prop := s.guardHits t ∧ t.path = s.path

end Sys2Proof.Machine
end

