-- ==== Sys2Proof/Certificates/Slice0/Obligations.lean ====
section
/-! DEFINITION. The statements for the provers, each a definition of a proposition about `exec` or `step`. -/

section

open Sys2Proof Sys2Proof.Machine

/-! ## The machine as a whole -/

/-- A step runs the command at the front of the queue on the state with the queue's rest; with no command waiting the block idles
(the model's choice, log entry 2). -/
def Obligations.StepRunsTheFrontCommand : Prop :=
  (∀ (s : State) (c : Instr) (rest : List Instr), s.pending = c :: rest → step s = exec c { s with pending := rest }) ∧
    ∀ s : State, s.pending = [] → step s = .next s

/-- Every command answers a next state in every state, and the queue stays. That no command stops is read from the manual (log entry 31). -/
def Obligations.EveryCommandAnswersANextState : Prop :=
  ∀ (c : Instr) (s : State), ∃ t, exec c s = .next t ∧ t.pending = s.pending

/-- Only the drain of a posted write and a memory cycle of the internal requester change the static RAM (R187, R188, R191, R195). That a drain
changes it at its start is log entry 56. -/
def Obligations.OnlyPortCyclesChangeTheRam : Prop :=
  ∀ (c : Instr) (s t : State), exec c s = .next t → c ≠ .drainStart → c ≠ .internalMemoryCycleComplete → t.mem = s.mem

/-! ## What every step keeps -/

/-- ATTN follows the busy flag, and a clear flag leaves no cause both set and enabled. -/
def Obligations.EveryStepKeepsTheAttentionLaw : Prop :=
  ∀ s t : State, s.attentionLaw → step s = .next t → t.attentionLaw

/-- The memory keeps its canonical form. The form is the model's own. -/
def Obligations.EveryStepKeepsTheMemoryForm : Prop :=
  ∀ s t : State, s.memoryLaw → step s = .next t → t.memoryLaw

/-- HIRED exactly with an open trip, OFF_DUTY exactly without a shift, ASSIGNED only with an AWARDED entry. -/
def Obligations.EveryStepKeepsTheStatusLaws : Prop :=
  (∀ s t : State, s.shiftLaw → step s = .next t → t.shiftLaw) ∧ ∀ s t : State, s.assignedLaw → step s = .next t → t.assignedLaw

/-- The offer table holds at most one BIDDING or AWARDED entry, and no job twice. -/
def Obligations.EveryStepKeepsTheOfferTableLaw : Prop :=
  ∀ s t : State, s.offerLaw → step s = .next t → t.offerLaw

/-- From READY the STATUS place holds the current report. -/
def Obligations.EveryStepKeepsTheReportCurrent : Prop :=
  ∀ s t : State, s.reportLaw → step s = .next t → t.reportLaw

/-- The lamps follow the lamp map and the emergency state. -/
def Obligations.EveryStepKeepsTheLampsDriven : Prop :=
  ∀ s t : State, s.lampLaw → step s = .next t → t.lampLaw

/-- The link state, the site record, the candidate, the hunt and the JOIN place agree. -/
def Obligations.EveryStepKeepsTheLinkLaw : Prop :=
  ∀ s t : State, s.linkLaw → step s = .next t → t.linkLaw

/-- The buffers and lists keep within their sizes. What waits for the internal requester, or is under way, is what its owner asked for, no
kind of it waits twice, and so at most 24 operations wait (R195). -/
def Obligations.EveryStepKeepsTheListSizes : Prop :=
  (∀ s t : State, s.sizeLaw → step s = .next t → t.sizeLaw) ∧ (∀ s t : State, s.queueLaw → step s = .next t → t.queueLaw) ∧
    ∀ s : State, s.queueLaw → s.path.queue.length ≤ 24

/-- The laws hold right after a power-on reset. -/
def Obligations.TheLawsHoldAfterReset : Prop :=
  State.reset.attentionLaw ∧ State.reset.memoryLaw ∧ State.reset.shiftLaw ∧ State.reset.assignedLaw ∧ State.reset.offerLaw ∧
    State.reset.reportLaw ∧ State.reset.lampLaw ∧ State.reset.linkLaw ∧ State.reset.sizeLaw ∧ State.reset.queueLaw ∧
    State.reset.power.startUp = .loading ∧ State.reset.pending = []

/-! ## Reset and start-up -/

/-- RESETn is released: every block takes its power-on values, LOADING begins with the first read attempt, whose transaction on the I2C port
is a read of 64 bytes from address 0 of the device at 50h (R180), and memory, the levels of the inputs, the channel last tuned, the trace of
the outputs and the phase of the flash timer stay; the cycles held meanwhile are handled then (R200). What stays is the model's choice where
the manual gives no value, and so is that no OFF order is given (log entry 33); so is the list of held cycles (log entry 11). -/
def Obligations.PowerOnResetGivesThePowerOnValues : Prop :=
  ∀ (a : BitVec 4) (s : State),
    ∃ u t, exec (.powerOnReset a) s = .next u ∧ s.serves t u ∧ (s.path.held = [] → u = t) ∧
      t.path = { MemoryPath.reset with asel := a, answer := s.path.answer } ∧
      t.page = ControlPage.reset ∧ t.link = LinkController.reset ∧ t.offers = OfferEngine.reset ∧ t.trips = TripEngine.reset ∧
      t.msgs = MessageEngine.reset ∧ t.emerg = EmergencyUnit.reset ∧
      t.status = { StatusUnit.reset with flashOn := s.status.flashOn } ∧ t.sched = Scheduler.reset ∧
      t.radio = { Transceiver.reset with channel := s.radio.channel, output := s.radio.output } ∧
      t.power = { PowerUnit.reset with ignition := s.pins.ign } ∧ t.power.startUp = .loading ∧ t.power.attempt = 1 ∧
      t.power.transaction =
        [.start, .device 0x50#7 false, .write 0#8, .start, .device 0x50#7 true] ++ List.replicate 63 (.read true) ++ [.read false, .stop] ∧
      t.pins = { Pins.reset with emswClosed := s.pins.emswClosed, ign := s.pins.ign } ∧
      t.mem = s.mem ∧ t.pending = s.pending

/-- While RESETn is low the post buffer is empty, no drain or internal cycle runs, and every processor cycle is held. That the values of the
other blocks are those of the next power-on reset, and stay until then, is log entry 26; that the held cycles form a list in the order made
is log entry 11. -/
def Obligations.LowResetEmptiesTheBufferAndHoldsCycles : Prop :=
  (∀ s : State, exec .resetnLow s = .next
      { s with path := { s.path with inReset := true, buffer := [], drain := .idle, internal := false } }) ∧
    (∀ (s : State) (a : BitVec 19) (l : Lanes) (d : Word), s.path.inReset = true →
      exec (.processorWrite a l d) s = .next { s with path := { s.path with held := s.path.held ++ [⟨.write a l d, false⟩] } }) ∧
    ∀ (s : State) (a : BitVec 19) (l : Lanes), s.path.inReset = true →
      exec (.processorRead a l) s = .next { s with path := { s.path with held := s.path.held ++ [⟨.read a l, false⟩] } }

/-- A read attempt that the EEPROM does not acknowledge, or that times out, is followed by a fresh one from address 0; after the third one
start-up is CONFIG_FAULT with NO_IMAGE (R180, R182). Where a failed attempt was cut is not recorded (log entry 51). -/
def Obligations.FailedImageReadsAreRetriedTwice : Prop :=
  ∀ (s : State) (c : Instr), c = .eepromNoAcknowledge ∨ c = .imageReadTimeout → s.running = true → s.power.startUp = .loading →
    ∃ t, exec c s = .next t ∧
      (s.power.attempt < 3 → t = { s with power := { s.power with
        attempt := s.power.attempt + 1,
        transaction := [.start, .device 0x50#7 false, .write 0#8, .start, .device 0x50#7 true] ++ List.replicate 63 (.read true) ++
          [.read false, .stop] } }) ∧
      (3 ≤ s.power.attempt →
        t = { s with power := { s.power with
          startUp := .configFault, faultReason := .noImage, failingItem := 0#8, transaction := [] } })

/-- A complete image is judged: a wrong check word, and an item out of range, put start-up into CONFIG_FAULT with the reason and the item;
a good image is taken, the random source starts from the cab number, and RECOVERING begins with the record read and the sixteen offer
images queued (R181 to R183). That the record read stands first and the images follow lowest entry first is the model's choice (log entry
21). -/
def Obligations.CompleteImageIsJudged : Prop :=
  ∀ (b : List Byte) (s : State), s.running = true → s.power.startUp = .loading → b.length = 64 →
    ∃ t, exec (.imageReadComplete b) s = .next t ∧
      (imageWord b 0x3E ≠ wordSum ((toWords b).take 31) →
        t = { s with power := { s.power with
          startUp := .configFault, faultReason := .check, failingItem := 0#8, transaction := [] } }) ∧
      (∀ item, judgeImage b = .outOfRange item →
        t = { s with power := { s.power with
          startUp := .configFault, faultReason := .range, failingItem := item, transaction := [] } }) ∧
      ∀ image, judgeImage b = .good image →
        t.power = { s.power with startUp := .recovering, image := some image, transaction := [] } ∧
        t.link = { s.link with channels := image.channels } ∧ t.sched = { s.sched with seed := image.cab, draws := 0 } ∧
        t.path = { s.path with
          queue := ⟨.recoveryRead, s.path.buffer.length⟩ :: allEntries.map (fun n => ⟨.offerRewrite n, 0⟩) } ∧
        t.mem = s.mem ∧ t.pins = s.pins ∧ t.page = s.page ∧ t.radio = s.radio ∧ t.offers = s.offers ∧ t.trips = s.trips ∧
        t.msgs = s.msgs ∧ t.emerg = s.emerg ∧ t.status = s.status

/-- How an image is judged (R181, R224): a check word that differs from the sum of the other 31 words fails the check; else the first item out
of range in the order of the image table is the failing item; an image with every item in range is good, and each item is the value that the
image holds. P and Q of 0 give the defaults; channel words beyond the count are not checked. -/
def Obligations.GoodImageIsInRange : Prop :=
  ∀ b : List Byte, b.length = 64 →
    let summed := imageWord b 0x3E = wordSum ((toWords b).take 31)
    let cabBad := imageWord b 0 = 0#16 ∨ imageWord b 0 = 0xFFFF#16
    let fleetBad := imageByte b 2 = 0#8 ∨ imageByte b 2 = 0xFF#8
    let count := (imageByte b 4).toNat
    let countBad := count < 1 ∨ 8 < count
    let channelBad := ∃ k, k < count ∧ 1023 < (imageWord b (6 + 2 * k)).toNat
    let componentBad := ∃ k, k < 16 ∧ 3 < (imageByte b (0x16 + k)).toNat ∧ imageByte b (0x16 + k) ≠ 0x0F#8
    let lampBad := ∃ k, k < 10 ∧ 2 < (imageByte b (0x26 + k)).toNat
    let flashBad := 1 < (imageByte b 5).toNat
    let p := (imageWord b 0x30).toNat
    let q := (imageWord b 0x32).toNat
    let thresholdBad := ¬(p = 0 ∧ q = 0) ∧ ¬(p < q ∧ q ≤ 8192)
    let lamp := fun (k : Nat) => if imageByte b k = 0#8 then Lamp.off else if imageByte b k = 1#8 then Lamp.on else Lamp.flash
    (¬summed → judgeImage b = .checkFails) ∧
    (summed ∧ cabBad → judgeImage b = .outOfRange 1#8) ∧
    (summed ∧ ¬cabBad ∧ fleetBad → judgeImage b = .outOfRange 2#8) ∧
    (summed ∧ ¬cabBad ∧ ¬fleetBad ∧ countBad → judgeImage b = .outOfRange 4#8) ∧
    (summed ∧ ¬cabBad ∧ ¬fleetBad ∧ ¬countBad ∧ channelBad → judgeImage b = .outOfRange 5#8) ∧
    (summed ∧ ¬cabBad ∧ ¬fleetBad ∧ ¬countBad ∧ ¬channelBad ∧ componentBad → judgeImage b = .outOfRange 6#8) ∧
    (summed ∧ ¬cabBad ∧ ¬fleetBad ∧ ¬countBad ∧ ¬channelBad ∧ ¬componentBad ∧ lampBad → judgeImage b = .outOfRange 7#8) ∧
    (summed ∧ ¬cabBad ∧ ¬fleetBad ∧ ¬countBad ∧ ¬channelBad ∧ ¬componentBad ∧ ¬lampBad ∧ flashBad → judgeImage b = .outOfRange 8#8) ∧
    (summed ∧ ¬cabBad ∧ ¬fleetBad ∧ ¬countBad ∧ ¬channelBad ∧ ¬componentBad ∧ ¬lampBad ∧ ¬flashBad ∧ thresholdBad →
      judgeImage b = .outOfRange 9#8) ∧
    (summed ∧ ¬cabBad ∧ ¬fleetBad ∧ ¬countBad ∧ ¬channelBad ∧ ¬componentBad ∧ ¬lampBad ∧ ¬flashBad ∧ ¬thresholdBad →
      ∃ image, judgeImage b = .good image) ∧
    ∀ image, judgeImage b = .good image →
      image.cab = imageWord b 0 ∧ image.fleet = imageByte b 2 ∧ image.classFlags = imageByte b 3 ∧
      image.channels.length = count ∧ (∀ k, k < count → image.channels.getD k 0#16 = imageWord b (6 + 2 * k)) ∧
      image.components.length = 16 ∧
      (∀ k, k < 16 → (imageByte b (0x16 + k) = 0x0F#8 → image.components.getD k none = none) ∧
        ∀ g : Fin 4, imageByte b (0x16 + k) = BitVec.ofNat 8 g.val → image.components.getD k none = some g) ∧
      image.lampMap = ⟨⟨lamp 0x26, lamp 0x27⟩, ⟨lamp 0x28, lamp 0x29⟩, ⟨lamp 0x2A, lamp 0x2B⟩, ⟨lamp 0x2C, lamp 0x2D⟩,
        ⟨lamp 0x2E, lamp 0x2F⟩⟩ ∧
      (image.alarmFlash = true ↔ imageByte b 5 = 1#8) ∧
      (p = 0 ∧ q = 0 → image.pauseAt = 512 ∧ image.resumeAt = 1024) ∧
      (¬(p = 0 ∧ q = 0) → image.pauseAt = p ∧ image.resumeAt = q)

/-- The record read of RECOVERING has completed. A record is valid when its marker is E5E5h, its check word is the sum of its other 63
words, its state is CLEAR, ALERTING or ACKED, and a raised one has a nonzero number. One that is not valid leaves the values of the power-on
reset; a valid CLEAR record gives number and source; a valid ALERTING or ACKED one resumes the emergency in ALERTING with source RECOVERED
(R166, R183). An unlisted source code of a CLEAR record gives a free value (log entry 6). -/
def Obligations.RecoveryReadRestoresTheEmergency : Prop :=
  (∀ ws : List Word, ws.length = 64 →
    let raised := ws.getD 1 0#16 = 1#16 ∨ ws.getD 1 0#16 = 2#16
    let valid := ws.getD 0 0#16 = 0xE5E5#16 ∧ ws.getD 63 0#16 = wordSum (ws.take 63) ∧
      (ws.getD 1 0#16 = 0#16 ∨ (raised ∧ ws.getD 2 0#16 ≠ 0#16))
    (¬valid → judgeRecord ws = .notValid) ∧
    (valid ∧ ¬raised → ∃ source, judgeRecord ws = .clear (ws.getD 2 0#16) source ∧
      (ws.getD 3 0#16 = 1#16 → source = .switch) ∧ (ws.getD 3 0#16 = 2#16 → source = .terminal) ∧
      (ws.getD 3 0#16 = 3#16 → source = .recovered)) ∧
    (valid ∧ raised → judgeRecord ws =
      .resumed (ws.getD 2 0#16) (DWord.ofWords (ws.getD 5 0#16) (ws.getD 4 0#16)) (ws.getD 10 0#16))) ∧
  ∀ (s : State) (u : UnderWay), s.running = true → s.path.held = [] → s.path.under = some u → u.kind = .recoveryRead →
    u.cycles = [] → u.causes = [] →
    ∃ t, exec .recoveryReadComplete s = .next t ∧ t.mem = s.mem ∧ t.page = s.page ∧ t.link = s.link ∧ t.trips = s.trips ∧
      t.msgs = s.msgs ∧ t.path.under = none ∧ t.path.buffer = s.path.buffer ∧
      (judgeRecord u.got = .notValid →
        t.power = { s.power with recovery := .notValid } ∧ t.emerg = s.emerg ∧ t.path.queue = s.path.queue ∧ t.sched = s.sched ∧
        t.offers = s.offers ∧ t.status = s.status) ∧
      (∀ number source, judgeRecord u.got = .clear number source →
        t.power = { s.power with recovery := .clear } ∧ t.emerg = { s.emerg with number := number, source := source } ∧
        t.path.queue = s.path.queue ∧ t.sched = s.sched ∧ t.offers = s.offers ∧ t.status = s.status) ∧
      ∀ number raisedAt sends, judgeRecord u.got = .resumed number raisedAt sends →
        t.power = { s.power with recovery := .resumed } ∧ t.emerg.state = .alerting ∧ t.emerg.number = number ∧
        t.emerg.source = .recovered ∧ t.emerg.raisedAt = raisedAt ∧ t.emerg.sends = sends ∧ t.emerg.ackedAt = 0#32 ∧
        t.emerg.cancelledAt = 0#32 ∧ t.emerg.causeWaits = true ∧ t.sched.alertPlace = some ⟨number, .recovered⟩ ∧
        t.sched.alertAttempts = 0 ∧ t.status.alarmOn = true ∧ t.status.status = s.status.status

/-- RECOVERING has done its work: start-up is READY, the link enters QUIET with the receiver tuned to the first listed channel and listening,
the items of the image are applied, and the report and the lamps are driven. A switch already closed is taken as a closing: in CLEAR it
enters PRESSED with a hold time of 2 seconds (R184, R22, R14, R149). That the first cycle has no open beacon window is log entry 52. -/
def Obligations.StartUpReadyStartsTheWork : Prop :=
  ∀ (s : State) (image : ConfigImage), s.recovered = true → s.power.image = some image → s.link.state = .off →
    s.radio.sending = none → s.power.power = .active ∨ s.pins.emswClosed = false →
    ∃ t, exec .startUpReady s = .next t ∧ t.link.state = .quiet ∧
      t.link.quiet = 0 ∧ t.link.nextSlot = 0 ∧ t.link.window = false ∧ t.link.candidates = [] ∧ t.link.site = none ∧
      t.link.channels = s.link.channels ∧ t.link.clock = s.link.clock ∧
      t.radio.channel = s.link.channels.headD 0#16 ∧ t.radio.receiverOn = true ∧
      t.radio.output = s.radio.output ++ [.order (.tune (s.link.channels.headD 0#16)), .order .listen] ∧
      t.status.lampMap = image.lampMap ∧ t.status.alarmEnabled = image.alarmFlash ∧ t.trips.components = image.components ∧
      t.msgs.pauseAt = image.pauseAt ∧ t.msgs.resumeAt = image.resumeAt ∧ t.offers = s.offers ∧ t.mem = s.mem ∧ t.path = s.path ∧
      t.sched.statusPlace = some t.statusReport ∧ t.lampLaw ∧ t.page = s.page ∧ t.power = { s.power with startUp := .ready } ∧
      s.linesStay t ∧
      (s.pins.emswClosed = true ∧ s.emerg.state = .clear →
        t.emerg = { s.emerg with state := .pressed, hold := some 2 } ∧
        t.trips.trip = s.trips.trip.map (fun o => { o with flags := { o.flags with emergency := true } })) ∧
      (s.pins.emswClosed = false ∨ s.emerg.state ≠ .clear → t.emerg = s.emerg ∧ t.trips.trip = s.trips.trip)

/-- A write of 00FFh with both lanes to the reset word asks for a soft reset, and cycles made afterwards are held: while the reset waits, a
processor write or read joins the cycles whose ready is held, and nothing else changes (R201, R204). That the held cycles form a list in the
order made is the model's choice (log entry 11). -/
def Obligations.ResetWordWriteAsksForASoftReset : Prop :=
  (∀ s : State, s.writesFree = true →
    ∃ t p, exec .resetWordWrite s = .next t ∧
      s.path.post (pageAddress s.path.asel 0x04) Lanes.both 0x00FF#16 = some p ∧ t.path = { p with resetDrain := true } ∧
      s.blocksStay t ∧ t.page = s.page ∧ t.pins = s.pins) ∧
    (∀ (s : State) (a : BitVec 19) (l : Lanes) (d : Word), s.path.resetDrain = true →
      exec (.processorWrite a l d) s = .next { s with path := { s.path with held := s.path.held ++ [⟨.write a l d, false⟩] } }) ∧
    ∀ (s : State) (a : BitVec 19) (l : Lanes), s.path.resetDrain = true →
      exec (.processorRead a l) s = .next { s with path := { s.path with held := s.path.held ++ [⟨.read a l, false⟩] } }

/-- The last entry has drained: the soft reset. The post buffer, the fairness count, attention, enables, counters and copies are cleared, ATTN is
not asserted, the link enters QUIET, the power state is ACTIVE, the status follows what the other blocks keep, every ring is CLOSED, and the
emergency state, the trip, the reports, the shift, zone and position stay. A TRIPLOG deposit under way gives its record back to the head of the
pending-log list, and one whose pointer write is complete has ended and gives none back (R107); every entry but an AWARDED one is EMPTY with its
image to be rewritten; the rewrites and the snapshot are kept, every other operation is abandoned and stops after its memory cycle under way. Then
ready is released, and the held cycles are handled (R201, R15, R41, R67, R91, R109, R121, R147, R167, R179, R213; in the order of their list, log
entry 11). That the causes of a kept operation are dropped is the model's choice (log entry 13, unsafe); that a record whose pointer write is on
the port is returned is log entry 49, that the parking count keeps its value log entry 50. -/
def Obligations.SoftResetAppliesEveryBlocksRule : Prop :=
  ∀ s : State, s.softResetDue = true →
    let kept := fun (k : OpKind) => (∃ n, k = .offerRewrite n) ∨ k = .emergencyRewrite ∨ k = .totalsSnapshot
    let written := ∃ u, s.path.under = some u ∧ u.kind = .tripDeposit ∧ u.cycles = []
    let result := fun t : State => t.page = ControlPage.reset ∧ t.pins.attn = false ∧ t.pins.wake = s.pins.wake ∧ t.lampLaw ∧
      t.path.buffer = [] ∧ t.path.fairness = 0 ∧ t.path.resetDrain = false ∧ t.path.asel = s.path.asel ∧
      (∀ o ∈ s.path.queue, kept o.kind → o ∈ t.path.queue) ∧ (∀ o ∈ t.path.queue, kept o.kind) ∧
      (s.path.under = none → t.path.under = none) ∧
      (∀ u, s.path.under = some u →
        (kept u.kind → t.path.under = some { u with causes := [] }) ∧
        (¬kept u.kind → s.path.internal = false → t.path.under = none) ∧
        (¬kept u.kind → s.path.internal = true → t.path.under = some
          { u with kind := .abandoned, cycles := u.cycles.take 1, got := [], causes := [], carriesClear := false })) ∧
      t.link.state = .quiet ∧ t.link.site = none ∧ t.link.candidates = [] ∧ t.link.clock = s.link.clock ∧
      t.link.clockUpper = 0#16 ∧ t.sched.acks = [] ∧ t.sched.bids = [] ∧ t.sched.flowPlace = none ∧
      t.sched.alertPlace = s.sched.alertPlace ∧ t.sched.alertAttempts = 0 ∧ t.sched.contention = .idle ∧ t.sched.grant = none ∧
      t.sched.joinPlace = false ∧ t.sched.joinAttempts = 0 ∧ t.sched.slotRequest = none ∧ t.sched.long = .none ∧ t.sched.requests = 0 ∧
      t.sched.statusPlace = some t.statusReport ∧ t.sched.draws = s.sched.draws ∧ t.sched.seed = s.sched.seed ∧
      t.msgs.outbound = Ring.reset ∧ t.msgs.inbound = Ring.reset ∧ t.msgs.triplog = Ring.reset ∧ t.msgs.flight = .none ∧
      t.msgs.buffer0 = .empty ∧ t.msgs.buffer1 = .empty ∧ t.msgs.deposit = none ∧ t.msgs.lastOut = MessageEngine.reset.lastOut ∧
      t.msgs.delivered = [] ∧ t.msgs.paused = true ∧ t.msgs.pauseAt = s.msgs.pauseAt ∧ t.msgs.resumeAt = s.msgs.resumeAt ∧
      (s.trips.deposit = none →
        t.trips = { s.trips with meterCopy := [], totalsCopy := s.trips.totals.image 0#32 }) ∧
      (∀ d, s.trips.deposit = some d → written →
        t.trips = { s.trips with deposit := none, meterCopy := [], totalsCopy := s.trips.totals.image 0#32 }) ∧
      (∀ d, s.trips.deposit = some d → ¬written → s.trips.pendingLog.length < 2 →
        t.trips = { s.trips with
          deposit := none, pendingLog := d.record :: s.trips.pendingLog, meterCopy := [],
          totalsCopy := s.trips.totals.image 0#32 }) ∧
      (∀ d old rest, s.trips.deposit = some d → ¬written → s.trips.pendingLog = old :: rest → rest ≠ [] →
        t.trips = { s.trips with
          deposit := none, pendingLog := d.record :: rest, totals := t.trips.totals, meterCopy := [],
          totalsCopy := t.trips.totals.image 0#32 } ∧
        t.trips.totals = (if s.status.shiftOpen = true ∧ old.ref.shift = s.status.shiftNumber
          then { s.trips.totals with tripsNotLogged := satAdd s.trips.totals.tripsNotLogged 1#16 } else s.trips.totals)) ∧
      t.emerg = { s.emerg with raiseResult := Result.reset, causeWaits := false } ∧
      t.status = { s.status with status := t.status.status, statusResult := Result.reset, shiftResult := Result.reset } ∧
      (s.status.shiftOpen = false → t.status.status = .offDuty) ∧
      (s.status.shiftOpen = true → s.trips.trip.isSome = true → t.status.status = .hired) ∧
      (s.status.shiftOpen = true → s.trips.trip = none → (∃ n, s.offers.stateOf n = .awarded) → t.status.status = .assigned) ∧
      (s.status.shiftOpen = true → s.trips.trip = none → (∀ n, s.offers.stateOf n ≠ .awarded) → t.status.status = .free) ∧
      (∀ n, s.offers.stateOf n = .awarded → t.offers.entry n = { s.offers.entry n with causes := [] } ∧
        (n ∈ t.offers.order ↔ n ∈ s.offers.order)) ∧
      (∀ n, s.offers.stateOf n ≠ .awarded → t.path.queued (.offerRewrite n) = true ∧
        t.offers.entry n = { OfferEntry.reset with
          seq := if s.offers.stateOf n = .empty then (s.offers.entry n).seq else (s.offers.entry n).seq + 1#8,
          response := (s.offers.entry n).response, result := (s.offers.entry n).result }) ∧
      t.power = { s.power with power := .active, park := false, result := Result.reset } ∧ t.mem = s.mem
    ∃ u t, exec .softReset s = .next t ∧ result u ∧ s.serves u t ∧ (s.path.held = [] → result t)

/-! ## The Memory Path -/

/-- A field command of the processor is the write or the read of the word at its field's offset in the selected page (R186, R218, R220). For
a CLOSED ring, whose pointer words are PLAIN, the pointer command writes the word at the base last captured: the model's choice (log entry
27). -/
def Obligations.FieldCommandsAreProcessorCycles : Prop :=
  ∀ (s : State) (l : Lanes) (d : Word),
    let w := fun (o : Nat) (d : Word) => exec (.processorWrite (pageAddress s.path.asel o) l d) s
    let r := fun (o : Nat) => exec (.processorRead (pageAddress s.path.asel o) l) s
    exec .resetWordWrite s = exec (.processorWrite (pageAddress s.path.asel 0x04) Lanes.both 0x00FF#16) s ∧
    exec (.attentionDone l d) s = w 0x06 d ∧ exec (.attentionClear l d) s = w 0x0C d ∧ exec (.attentionEnable l d) s = w 0x0E d ∧
    exec (.logon l d) s = w 0x36 d ∧ exec (.statusRequestFree l) s = w 0x38 1#16 ∧ exec (.statusRequestBreak l) s = w 0x38 2#16 ∧
    exec (.statusRequestOtherValue l d) s = w 0x38 d ∧ exec (.close l) s = w 0x3E 1#16 ∧ exec (.closeTrip l) s = w 0x3E 2#16 ∧
    exec (.shiftControlOtherValue l d) s = w 0x3E d ∧ exec (.powerRequestActive l) s = w 0x44 0#16 ∧
    exec (.powerRequestStandby l) s = w 0x44 2#16 ∧ exec (.powerRequestSleep l) s = w 0x44 3#16 ∧
    exec (.powerRequestOtherValue l d) s = w 0x44 d ∧ exec (.emergencyRaise l d) s = w 0x50 d ∧ exec (.zoneWrite l d) s = w 0x60 d ∧
    exec (.positionLowerWordWrite .first l d) s = w 0x64 d ∧ exec (.firstCoordinateWrite l d) s = w 0x66 d ∧
    exec (.positionLowerWordWrite .second l d) s = w 0x68 d ∧ exec (.secondCoordinateWrite l d) s = w 0x6A d ∧
    (∀ id, exec (.ringDescriptorWrite id .base l d) s = w (ringOffset id) d ∧
      exec (.ringDescriptorWrite id .size l d) s = w (ringOffset id + 2) d ∧
      exec (.ringControlOpen id l) s = w (ringOffset id + 4) 1#16 ∧ exec (.ringControlClose id l) s = w (ringOffset id + 4) 2#16 ∧
      exec (.ringControlOtherValue id l d) s = w (ringOffset id + 4) d) ∧
    exec (.ringPointerWrite .outbound l d) s = w s.msgs.outbound.desc.base.toNat d ∧
    exec (.ringPointerWrite .inbound l d) s = w (s.msgs.inbound.desc.base.toNat + 2) d ∧
    exec (.ringPointerWrite .triplog l d) s = w (s.msgs.triplog.desc.base.toNat + 2) d ∧
    (∀ n token, exec (.responseAccept n l token) s = w (0x118 + 0x80 * n.val) (Word.ofBytes token 1#8) ∧
      exec (.responseDecline n l token) s = w (0x118 + 0x80 * n.val) (Word.ofBytes token 2#8) ∧
      exec (.responseRelease n l token) s = w (0x118 + 0x80 * n.val) (Word.ofBytes token 3#8) ∧
      exec (.responseOtherCode n l d) s = w (0x118 + 0x80 * n.val) d) ∧
    exec (.counterRead .beaconsMissed l) s = r 0x10 ∧ exec (.counterRead .checkErrors l) s = r 0x12 ∧
    exec (.counterRead .contentionFails l) s = r 0x14 ∧ exec (.counterRead .offersMissed l) s = r 0x16 ∧
    exec (.counterRead .messagesDropped l) s = r 0x18 ∧ exec (.counterRead .guardHits l) s = r 0x1A ∧
    exec (.cabClockLowerWordRead l) s = r 0x1C ∧ (∀ k : Fin 5, exec (.linkStatusRead k l) s = r (0x20 + 2 * k.val)) ∧
    exec (.wakeReasonRead l) s = r 0x4E ∧ exec (.meterFirstWordRead l) s = r 0x70 ∧ exec (.totalsFirstWordRead l) s = r 0x980

/-- A write that the post buffer has room for, or that merges into the newest entry of a full one, is accepted, before READY too: each covered
lane that is not GUARDED holds the byte written as its newest posted one, every other lane of every word keeps its newest posted byte, and
memory does not change yet. A merge takes no new entry. Before READY nothing but the post buffer changes, unless a lane is GUARDED (R188, R189,
R199). -/
def Obligations.AcceptedWritePostsItsLanes : Prop :=
  ∀ (s : State) (a : BitVec 19) (l : Lanes) (d : Word), s.running = true → s.path.resetDrain = false → s.path.held = [] →
    let newest := ∃ e, s.path.buffer.getLast? = some e ∧ e.address = a
    s.path.buffer.length < 4 ∨ newest →
    ∃ t, exec (.processorWrite a l d) s = .next t ∧ t.mem = s.mem ∧ t.path.held = [] ∧
      (newest → s.path.drain = .idle ∨ 2 ≤ s.path.buffer.length → t.path.buffer.length = s.path.buffer.length) ∧
      (s.power.startUp ≠ .ready → (l.lo = true → s.laneTreatment a false ≠ .guarded) →
        (l.hi = true → s.laneTreatment a true ≠ .guarded) → t = { s with path := { s.path with buffer := t.path.buffer } }) ∧
      ∀ (b : BitVec 19) (hi : Bool), posted b hi t.path.buffer =
        if b = a ∧ (if hi then l.hi else l.lo) = true ∧ s.laneTreatment a hi ≠ .guarded
        then some (if hi then Word.upper d else Word.lower d)
        else posted b hi s.path.buffer

/-- A write all of whose covered lanes are GUARDED is dropped at once, whatever the post buffer holds and before READY too: it is counted
once, GUARD is raised, and nothing else changes. A write that covers a GUARDED lane is counted so with any other lane it covers posted; no
word has a GUARDED lane beside one of another treatment. In LOADING and RECOVERING the emergency record alone is GUARDED, and in CONFIG_FAULT no
byte is. In READY the GUARDED words are those of the emergency record while the state is not CLEAR or a cancel's rewrite is to come, the driver
ID while a shift is open with a nonzero driver ID, every field of an offer entry but its response, the descriptor of a ring that is not CLOSED,
and the pointer that the part owns, of such a ring and of a deposit whose pointer write is to come; the response, and the driver ID, the
descriptor and the processor's pointer where they are not GUARDED, are WATCHED (R3, R70, R123, R124, R130, R160, R185, R189). -/
def Obligations.GuardedWriteIsDropped : Prop :=
  (∀ (s : State) (a : BitVec 19) (l : Lanes) (d : Word), s.running = true → s.path.resetDrain = false → s.path.held = [] →
    laneAny l = true → (l.lo = true → s.laneTreatment a false = .guarded) → (l.hi = true → s.laneTreatment a true = .guarded) →
    ∃ t, exec (.processorWrite a l d) s = .next t ∧ s.dropsWrite t) ∧
  (∀ (s : State) (a : BitVec 19) (l : Lanes) (d : Word), s.running = true → s.path.resetDrain = false → s.path.held = [] →
    s.path.buffer.length < 4 →
    (l.lo = true ∧ s.laneTreatment a false = .guarded) ∨ (l.hi = true ∧ s.laneTreatment a true = .guarded) →
    let others : Lanes :=
      ⟨l.lo && decide (s.laneTreatment a false ≠ .guarded), l.hi && decide (s.laneTreatment a true ≠ .guarded)⟩
    ∃ t, exec (.processorWrite a l d) s = .next t ∧ s.guardHits t ∧
      (laneAny others = true → s.path.post a others d = some t.path) ∧ (laneAny others = false → t.path = s.path)) ∧
  (∀ (s : State) (a : BitVec 19), s.laneTreatment a false = .guarded ↔ s.laneTreatment a true = .guarded) ∧
  (∀ (s : State) (o : Nat) (hi : Bool), s.power.startUp = .loading ∨ s.power.startUp = .recovering → o % 2 = 0 → o < 0x4000 →
    (s.laneTreatment (pageAddress s.path.asel o) hi = .guarded ↔ 0x900 ≤ o ∧ o < 0x980)) ∧
  (∀ (s : State) (a : BitVec 19) (hi : Bool), s.power.startUp = .configFault → s.laneTreatment a hi ≠ .guarded) ∧
  ∀ (s : State) (o : Nat) (hi : Bool), s.power.startUp = .ready → o % 2 = 0 → o < 0x4000 →
    let t := s.laneTreatment (pageAddress s.path.asel o) hi
    let completing := fun (k : OpKind) => ∀ u, s.path.under = some u → u.kind = k → u.cycles ≠ []
    let base := fun (id : RingId) => (s.msgs.ring id).desc.base.toNat
    let descriptor := fun (id : RingId) => o = ringOffset id ∨ o = ringOffset id + 2
    (t = .guarded ↔
      (0x900 ≤ o ∧ o < 0x980 ∧ (s.emerg.state ≠ .clear ∨ s.emerg.guardHeld = true)) ∨
      (o = 0x36 ∧ s.status.shiftOpen = true ∧ s.status.driverId ≠ 0#16) ∨
      (0x100 ≤ o ∧ o < 0x900 ∧ o % 0x80 ≠ 0x18) ∨
      (∃ id, (s.msgs.ring id).state ≠ .closed ∧ descriptor id) ∨
      (0xA00 ≤ o ∧
        ((∃ id, (s.msgs.ring id).state ≠ .closed ∧ o = base id + if id = .outbound then 2 else 0) ∨
          (∃ d, s.msgs.deposit = some d ∧ completing .inboundDeposit ∧ o = d.plan.desc.base.toNat) ∨
          ∃ d, s.trips.deposit = some d ∧ completing .tripDeposit ∧ o = d.plan.desc.base.toNat))) ∧
    (t ≠ .guarded →
      o = 0x36 ∨ (0x100 ≤ o ∧ o < 0x900) ∨ (∃ id, descriptor id) ∨
        (0xA00 ≤ o ∧ ∃ id, (s.msgs.ring id).state ≠ .closed ∧ o = base id + if id = .outbound then 0 else 2) →
      t = .watched)

/-- A write that finds the post buffer full, and whose word is not that of the newest entry, waits with ready held; so does a read of a
record that the operation under way rewrites, a read that needs a memory cycle while the port is taken, the full buffer drains first or it is
the internal requester's turn, and a cycle made behind one that waits, while RESETn is low or while a soft reset waits for the drain. Nothing
else changes, before READY as in it (R188, R194, R197 to R201). That held cycles form a list is the model's choice (log entry 11). -/
def Obligations.CyclesWaitWithReadyHeld : Prop :=
  let free := fun (s : State) => s.running = true ∧ s.path.resetDrain = false ∧ s.path.held = []
  (∀ (s : State) (a : BitVec 19) (l : Lanes) (d : Word), free s → 4 ≤ s.path.buffer.length →
    (∀ e, s.path.buffer.getLast? = some e → e.address ≠ a) → laneAny (s.postedLanes a l) = true →
    exec (.processorWrite a l d) s = .next { s with path := { s.path with held := [⟨.write a l d, false⟩] } }) ∧
  (∀ (s : State) (a : BitVec 19) (l : Lanes), free s → s.stalled a = true →
    exec (.processorRead a l) s = .next { s with path := { s.path with held := [⟨.read a l, false⟩] } }) ∧
  (∀ (s : State) (a : BitVec 19) (l : Lanes), free s → s.stalled a = false → s.needsMemory a l = true →
    s.path.drain ≠ .idle ∨ s.path.internal = true ∨ 4 ≤ s.path.buffer.length ∨ s.path.internalTurn = true →
    exec (.processorRead a l) s = .next { s with path := { s.path with held := [⟨.read a l, true⟩] } }) ∧
  ∀ (s : State) (a : BitVec 19) (l : Lanes) (d : Word), s.path.held ≠ [] ∨ s.path.inReset = true ∨ s.path.resetDrain = true →
    exec (.processorWrite a l d) s = .next { s with path := { s.path with held := s.path.held ++ [⟨.write a l d, false⟩] } } ∧
    exec (.processorRead a l) s = .next { s with path := { s.path with held := s.path.held ++ [⟨.read a l, false⟩] } }

/-- A read that is not stalled, and finds the port free or needs no memory cycle, is answered: a SHADOWED lane by its owner, another lane
with its newest posted byte or else from memory; the owner acts on a read of a SHADOWED lane, and on no other. A memory cycle of a read is a
grant to the processor side, after which a sixteenth in a row that kept an internal cycle waiting gives that cycle the port. Before READY
and in CONFIG_FAULT reads are answered so too, and only the start-up field is SHADOWED then; it answers the start-up state in every one of them
(R182, R185, R192, R193, R198, R199). That a read that finds the port free is answered in that one step is the model's choice (log entry 12). -/
def Obligations.ReadIsAnsweredLaneByLane : Prop :=
  ∀ (s : State) (a : BitVec 19) (l : Lanes), s.running = true → s.path.resetDrain = false → s.path.held = [] → s.stalled a = false →
    (s.needsMemory a l = true → s.path.portForRead = true) →
    let waits := s.path.under.any (fun u => u.mark == 0 && !u.cycles.isEmpty)
    ∃ t ans, exec (.processorRead a l) s = .next t ∧ t.path.answer = some ans ∧ ans.address = a ∧ t.mem = s.mem ∧
      t.path.buffer = s.path.buffer ∧ t.path.queue = s.path.queue ∧ t.path.under = s.path.under ∧ t.path.held = [] ∧
      (l.lo = false → ans.lo = none) ∧ (l.hi = false → ans.hi = none) ∧
      (l.lo = true → s.laneTreatment a false ≠ .shadowed →
        ans.lo = some ((posted a false s.path.buffer).getD (Memory.read s.mem (2 * a.toNat)))) ∧
      (l.hi = true → s.laneTreatment a true ≠ .shadowed →
        ans.hi = some ((posted a true s.path.buffer).getD (Memory.read s.mem (2 * a.toNat + 1)))) ∧
      (∀ o, cabOffset s.path.asel a = some o →
        (l.lo = true → s.treatment (fieldAt o) false = .shadowed → ans.lo = some (Word.lower (s.shadowWord (fieldAt o)))) ∧
        (l.hi = true → s.treatment (fieldAt o) true = .shadowed → ans.hi = some (Word.upper (s.shadowWord (fieldAt o))))) ∧
      (s.power.startUp ≠ .ready → ∀ k, s.laneTreatment a k = .shadowed ↔ ∃ o, cabOffset s.path.asel a = some o ∧ o < 4) ∧
      (cabOffset s.path.asel a = some 0 → l.lo = true →
        (s.power.startUp, ans.lo) ∈ ([(.loading, some 0#8), (.recovering, some 1#8), (.ready, some 2#8), (.configFault, some 3#8)] :
          List (StartUp × Option Byte))) ∧
      (s.needsMemory a l = false → t.path.fairness = s.path.fairness ∧ t.path.internal = s.path.internal) ∧
      (s.needsMemory a l = true → waits = false → t.path.fairness = 0 ∧ t.path.internal = false) ∧
      (s.needsMemory a l = true → waits = true → s.path.fairness < 15 →
        t.path.fairness = s.path.fairness + 1 ∧ t.path.internal = false) ∧
      (s.needsMemory a l = true → waits = true → 15 ≤ s.path.fairness → t.path.fairness = 0 ∧ t.path.internal = true) ∧
      (laneAny (s.lanesOf .shadowed a l) = false →
        t = { s with path := { s.path with answer := some ans, fairness := t.path.fairness, internal := t.path.internal } })

/-- The drain of the oldest entry starts when the port is free and it is not the internal requester's turn. One for the GUARDED emergency record
is dropped: nothing is written. Any other writes the bytes posted in the entry, by the model's choice at the beginning of the drain cycle (log
entry 56), and no other byte. When the drain completes, the entry is gone and memory is as it was at the beginning; a dropped entry is a guard
hit. Every operation's drain mark goes down by one, and a ready internal cycle takes the port when no entry is left or it is its turn (R191, R196
to R198). The cycles that are held are handled then: a write that waited for room, a read that waited for the port, which a stall mark set
meanwhile does not hold back (R188, R194, R197). The two steps of a drain are those of log entry 12, and the list of held cycles is log
entry 11. -/
def Obligations.DrainWritesTheOldestEntry : Prop :=
  let grants := fun (s t : State) (rest : List PostEntry) =>
    t.path.buffer = rest ∧ t.path.drain = .idle ∧ t.path.under = s.path.under.map (fun u => { u with mark := u.mark - 1 }) ∧
    t.path.queue = s.path.queue.map (fun o => ⟨o.kind, o.mark - 1⟩) ∧
    (s.path.internal = false → s.path.under = none → t.path.internal = false ∧ t.path.fairness = s.path.fairness) ∧
    ∀ u, s.path.internal = false → s.path.under = some u →
      let gives := u.mark ≤ 1 ∧ u.cycles ≠ [] ∧ (rest = [] ∨ 16 ≤ s.path.fairness)
      t.path.internal = decide gives ∧ t.path.fairness = if gives then 0 else s.path.fairness
  (∀ (s : State) (e : PostEntry) (rest : List PostEntry), s.path.buffer = e :: rest → s.running = true → s.path.drain = .idle →
    s.path.internal = false → s.path.internalTurn = false → s.memoryLaw →
    ∃ t, exec .drainStart s = .next t ∧
      let drops := s.fieldOf e.address = some .emergencyRecord ∧ s.recordGuarded = true
      t = { s with
        path := { s.path with
          drain := if drops then .dropping else .writing, fairness := if s.path.internalReady then s.path.fairness + 1 else 0 },
        mem := t.mem } ∧
      (drops → t.mem = s.mem) ∧
      (¬drops → ∀ b, Memory.read t.mem b =
        if b = 2 * e.address.toNat then e.lo.getD (Memory.read s.mem b)
        else if b = 2 * e.address.toNat + 1 then e.hi.getD (Memory.read s.mem b)
        else Memory.read s.mem b)) ∧
  (∀ (s : State) (e : PostEntry) (rest : List PostEntry), s.path.buffer = e :: rest → s.running = true → s.path.drain = .writing →
    s.path.held = [] →
    ∃ t, exec .drainComplete s = .next t ∧ grants s t rest ∧ t = { s with path := t.path }) ∧
  (∀ (s : State) (e : PostEntry) (rest : List PostEntry), s.path.buffer = e :: rest → s.running = true → s.path.drain = .dropping →
    s.path.held = [] → ∃ t, exec .drainComplete s = .next t ∧ grants s t rest ∧ s.guardHits t) ∧
  ∀ (s : State) (e : PostEntry) (rest : List PostEntry), s.path.buffer = e :: rest → s.running = true → s.path.drain ≠ .idle →
    ∃ u t, exec .drainComplete s = .next t ∧ s.serves u t ∧
      (s.path.drain = .writing → u = { s with path := u.path }) ∧ (s.path.drain = .dropping → s.guardHits u) ∧
      u.path = { s.path with
        buffer := rest, drain := .idle, held := [], under := s.path.under.map (fun o => { o with mark := o.mark - 1 }),
        queue := s.path.queue.map (fun o => ⟨o.kind, o.mark - 1⟩) } ∧
      ∀ (a : BitVec 19) (l : Lanes), s.path.held = [⟨.read a l, true⟩] → s.path.resetDrain = false → s.path.internal = false →
        s.path.fairness < 16 → rest.length < 4 →
        ∃ ans, t.path.held = [] ∧ t.path.answer = some ans ∧ ans.address = a ∧
          (l.lo = true → s.laneTreatment a false ≠ .shadowed →
            ans.lo = some ((posted a false rest).getD (Memory.read u.mem (2 * a.toNat)))) ∧
          (l.hi = true → s.laneTreatment a true ≠ .shadowed →
            ans.hi = some ((posted a true rest).getD (Memory.read u.mem (2 * a.toNat + 1))))

/-- The oldest waiting operation begins when none is under way, and holds back its first cycle while its drain mark is not reached: its cycles
are those that its kind asks for, with the content that its owner holds at that moment; an offer entry's waiting causes and EMERGENCY go
with it; its first cycle takes a port that is free, in this same step by the model's choice (log entry 12; R70, R125, R136, R159, R195 to
R197). That the record image is set here is log entry 54. What the images of an offer entry, the emergency
record and the totals hold is stated word by word (R216, R219 to R222). -/
def Obligations.OperationBeginsWithItsOwnersContent : Prop :=
  (∀ (s : State) (o : Operation) (rest : List Operation), s.running = true → s.path.under = none → s.path.queue = o :: rest →
    ∃ t u, exec .internalOperationStart s = .next t ∧
      t.path = { s.path with under := some u, queue := rest, internal := t.path.internal, fairness := t.path.fairness } ∧
      u.kind = o.kind ∧ u.mark = o.mark ∧
      (s.path.internal = false →
        let gives := o.mark = 0 ∧ u.cycles ≠ [] ∧ s.path.drain = .idle ∧ (s.path.buffer = [] ∨ 16 ≤ s.path.fairness)
        t.path.internal = decide gives ∧ t.path.fairness = if gives then 0 else s.path.fairness) ∧
      u.got = [] ∧ t.mem = s.mem ∧ t.page = s.page ∧ t.pins = s.pins ∧ t.sched = s.sched ∧ t.trips = s.trips ∧ t.msgs = s.msgs ∧
      t.status = s.status ∧ t.power = s.power ∧ t.link = s.link ∧ t.radio = s.radio ∧
      (∀ n, o.kind = .offerRewrite n →
        u.cycles = writeCycles (0x100 + 0x80 * n.val) (s.offers.entry n).image ∧ u.causes = (s.offers.entry n).causes ∧
        t.offers = s.offers.setEntry n { s.offers.entry n with causes := [] } ∧ t.emerg = s.emerg) ∧
      (o.kind = .emergencyRewrite →
        u.cycles = writeCycles 0x900 (emergencyImage s.emerg s.status.zone s.status.position) ∧
        u.causes = (if s.emerg.causeWaits then [.emergency] else []) ∧
        (u.carriesClear = true ↔ s.emerg.state = .clear ∨ s.emerg.state = .pressed) ∧ t.emerg.causeWaits = false ∧
        t.emerg.image = emergencyImage s.emerg s.status.zone s.status.position ∧ t.offers = s.offers) ∧
      (∀ c, o.kind = .totalsSnapshot → s.trips.captured = some c →
        u.cycles = writeCycles 0x980 (c.totals.image c.closeTime)) ∧
      (∀ c, o.kind = .outboundCompletion → s.msgs.flight = .completing c →
        let ring := s.msgs.outbound.desc.base.toNat
        let field : Word :=
          match c.outcome with
          | .none => 0#16
          | .delivered => 1#16
          | .failed => 2#16
          | .rejected => 3#16
        u.cycles = (if c.writeOutcome then [.write (ring + 4 + (c.at_ + 6)) field] else []) ++ [.write (ring + 2) (BitVec.ofNat 16 c.after)]) ∧
      (let deposits := fun (p : Deposit) =>
        let ring := p.desc.base.toNat
        u.cycles = (if p.wrap then [.write (ring + 4 + p.inPtr) 0xFFFF#16, .write (ring + 4 + p.inPtr + 2) 0xFFFF#16] else []) ++
          writeCycles (ring + 4 + if p.wrap then 0 else p.inPtr) (toWords p.record) ++ [.write ring (BitVec.ofNat 16 p.newPtr)]
       (∀ d, o.kind = .inboundDeposit → s.msgs.deposit = some d → deposits d.plan) ∧
        ∀ d, o.kind = .tripDeposit → s.trips.deposit = some d → deposits d.plan) ∧
      (let ring := s.msgs.outbound.desc.base.toNat
       let out := s.msgs.outbound.own.toNat
       o.kind = .outboundFetch → u.cycles = [.read (ring + 4 + out), .read (ring + 4 + out + 2)]) ∧
      (∀ r d, o.kind = .headerRead r → (s.msgs.ring r).check = some d →
        u.cycles = [.read d.base.toNat, .read (d.base.toNat + 2)]) ∧
      (o.kind = .recoveryRead → u.cycles.length = 64 ∧ ∀ k, k < 64 → u.cycles[k]? = some (.read (0x900 + 2 * k)))) ∧
  (∀ (o : Nat) (ws : List Word) (k : Nat), (writeCycles o ws)[k]? = (ws[k]?).map (.write (o + 2 * k))) ∧
  (let word := fun (w : List Word) (i : Nat) => w.getD (i / 2) 0#16
   let byte := fun (w : List Word) (i : Nat) => if i % 2 = 0 then Word.lower (word w i) else Word.upper (word w i)
   let long := fun (w : List Word) (i : Nat) => DWord.ofWords (word w (i + 2)) (word w i)
   let outcomes : List (Outcome × Byte) :=
     [(.none, 0#8), (.taken, 1#8), (.pending, 2#8), (.notValid, 3#8), (.notAllowed, 4#8), (.busy, 5#8), (.tooLate, 6#8), (.noShift, 7#8),
      (.emergency, 8#8), (.openTrip, 9#8), (.hired, 10#8), (.size, 11#8), (.align, 12#8), (.outside, 13#8), (.overlap, 14#8),
      (.pointers, 15#8)]
   (∀ e : OfferEntry, e.text.length ≤ 64 → let w := e.image
    w.length = 64 ∧
    (e.state, byte w 0) ∈ ([(.empty, 0#8), (.live, 1#8), (.bidding, 2#8), (.awarded, 3#8), (.declined, 4#8), (.lapsed, 5#8), (.lost, 6#8),
      (.withdrawn, 7#8), (.noAward, 8#8)] : List (OfferState × Byte)) ∧
    byte w 1 = e.seq ∧ byte w 2 = e.dest ∧ byte w 3 = e.zone ∧ long w 4 = e.job ∧ byte w 8 = e.mask ∧
    byte w 9 = BitVec.ofNat 8 (e.fare.isSome.toNat + 2 * e.forced.toNat + 4 * e.late.toNat) ∧
    byte w 0xA = BitVec.ofNat 8 e.text.length ∧ byte w 0xB = 0#8 ∧ long w 0xC = e.received ∧ long w 0x10 = e.expires ∧
    long w 0x14 = e.fare.getD 0#32 ∧ word w 0x18 = e.response ∧ byte w 0x1A = e.result.code ∧ byte w 0x1B = e.result.token ∧
    (e.result.outcome, byte w 0x1C) ∈ outcomes ∧ byte w 0x1D = 0#8 ∧ word w 0x1E = 0#16 ∧
    ∀ i, i < 64 → byte w (0x20 + i) = e.text.getD i 0#8) ∧
   (∀ (e : EmergencyUnit) (zone : Byte) (position : Position), let w := emergencyImage e zone position
    w.length = 64 ∧ word w 0 = 0xE5E5#16 ∧
    (e.state, word w 2) ∈ ([(.clear, 0#16), (.pressed, 0#16), (.alerting, 1#16), (.acked, 2#16)] : List (EmergencyState × Word)) ∧
    word w 4 = e.number ∧ (e.source, word w 6) ∈ ([(.switch, 1#16), (.terminal, 2#16), (.recovered, 3#16)] : List (Source × Word)) ∧
    long w 8 = e.raisedAt ∧ long w 0xC = e.ackedAt ∧ long w 0x10 = e.cancelledAt ∧ word w 0x14 = e.sends ∧ byte w 0x16 = zone ∧
    byte w 0x17 = BitVec.ofNat 8 position.isSome.toNat ∧
    long w 0x18 = (position.map Prod.fst).getD 0#32 ∧ long w 0x1C = (position.map Prod.snd).getD 0#32 ∧
    (∀ i, 0x20 ≤ i → i < 0x7E → byte w i = 0#8) ∧ word w 0x7E = (w.take 63).foldl (· + ·) 0#16) ∧
   ∀ (a : Totals) (closeTime : DWord), let w := a.image closeTime
    w.length = 64 ∧ word w 0 = a.shiftNumber ∧ word w 2 = a.driverId ∧ word w 4 = BitVec.ofNat 16 a.meterOpened.toNat ∧ word w 6 = 0#16 ∧
    long w 8 = a.openTime ∧ word w 0xC = a.tripsClosed ∧ word w 0xE = a.tripsWithJob ∧ word w 0x10 = a.tripsWithEmergency ∧
    word w 0x12 = a.mismatches ∧ word w 0x14 = a.meterFaults ∧ word w 0x16 = a.reportsAcknowledged ∧ word w 0x18 = a.reportsInList ∧
    word w 0x1A = a.reportsAbandoned ∧ word w 0x1C = a.tripsNotLogged ∧ word w 0x1E = 0#16 ∧ long w 0x20 = a.fareTotal ∧
    long w 0x24 = a.groupTotals.g0 ∧ long w 0x28 = a.groupTotals.g1 ∧ long w 0x2C = a.groupTotals.g2 ∧ long w 0x30 = a.groupTotals.g3 ∧
    long w 0x34 = a.ungroupedTotal ∧ long w 0x38 = a.extrasTotal ∧ long w 0x3C = a.hiredSeconds ∧ long w 0x40 = closeTime ∧
    ∀ i, 0x44 ≤ i → i < 0x80 → byte w i = 0#8)

/-- The word cycle on the port completes: a write puts the word's two bytes at their addresses of the selected page, a read appends the word
there to the words read, and the port goes to the next cycle when it is free; an abandoned operation stops then (R195, R197, R198, R201).
The last ordered read of an outbound fetch is judged at once: a WRAP marker sends the output pointer and the fetch to 0, a record not yet
filled ends the fetch, one that breaks the format is to be completed with REJECTED, another is read on or passed as the message (R126, R131,
R132, R223; with the pointer copy of that moment, log entry 18; with the length field read as a word, log entry 59). That grant and cycle are two steps is the model's choice (log entry 12). -/
def Obligations.InternalCycleReadsOrWritesOneWord : Prop :=
  (∀ (s : State) (u : UnderWay) (c : MemCycle) (rest : List MemCycle), s.running = true → s.path.internal = true →
    s.path.under = some u → u.cycles = c :: rest → s.path.held = [] → s.memoryLaw →
    let gives := u.mark = 0 ∧ rest ≠ [] ∧ s.path.drain = .idle ∧ (s.path.buffer = [] ∨ 16 ≤ s.path.fairness)
    let goesOn := fun (t : State) (got : List Word) =>
      (u.kind = .abandoned → t.path = { s.path with under := none, internal := false }) ∧
      (u.kind ≠ .abandoned → u.kind ≠ .outboundFetch ∨ rest ≠ [] →
        t = { s with mem := t.mem, path := t.path } ∧
        t.path = { s.path with
          under := some { u with cycles := rest, got := got }, internal := decide gives,
          fairness := if gives then 0 else s.path.fairness })
    ∃ t, exec .internalMemoryCycleComplete s = .next t ∧ t.page = s.page ∧ t.offers = s.offers ∧ t.emerg = s.emerg ∧ t.trips = s.trips ∧
      (∀ o w, c = .write o w → goesOn t u.got ∧
        ∀ b, Memory.read t.mem b =
          if b = 2 * (pageAddress s.path.asel o).toNat then Word.lower w
          else if b = 2 * (pageAddress s.path.asel o).toNat + 1 then Word.upper w
          else Memory.read s.mem b) ∧
      ∀ o, c = .read o → t.mem = s.mem ∧ goesOn t (u.got ++ [Memory.readWord s.mem (pageAddress s.path.asel o)])) ∧
  ∀ (s : State) (u : UnderWay) (o : Nat), s.running = true → s.path.internal = true → s.path.under = some u → u.kind = .outboundFetch →
    u.cycles = [.read o] → s.path.held = [] →
    let got := u.got ++ [Memory.readWord s.mem (pageAddress s.path.asel o)]
    let r := s.msgs.outbound
    let size := r.desc.size.toNat - 4
    let out := r.own.toNat
    let filled := (r.theirs.toNat + size - out) % size
    let data := r.desc.base.toNat + 4
    let length := (got.getD 2 0#16).toNat
    let n := 8 + (length + 3) / 4 * 4
    let bad := (Word.lower (got.getD 0 0#16) ≠ 1#8 ∧ Word.lower (got.getD 0 0#16) ≠ 2#8) ∨ 200 < length
    let wrap := got = [0xFFFF#16, 0xFFFF#16] ∧ 4 ≤ filled
    ∃ t, exec .internalMemoryCycleComplete s = .next t ∧ t = { s with path := t.path, msgs := t.msgs } ∧
      t.path.queue = s.path.queue ∧ t.path.buffer = s.path.buffer ∧
      (let reads := fun (cycles : List MemCycle) (words : List Word) =>
        t.path.under = some { u with cycles := cycles, got := words }
       let rejected := fun (after : Nat) => reads [] got ∧ t.msgs = { s.msgs with
        flight := .fetching (.rejected ⟨.rejected, got.getD 1 0#16, out, decide (out + 8 ≤ size), after⟩) }
       let incomplete := reads [] got ∧ t.msgs = { s.msgs with
        flight := .none, outbound := if r.state = .closing then { r with state := .closed } else r }
       let passed := reads [] got ∧ ∃ m, t.msgs = { s.msgs with flight := .fetching (.passed m) } ∧ m.tag = got.getD 1 0#16 ∧
        m.kind = Word.lower (got.getD 0 0#16) ∧ m.urgent = (got.getD 0 0#16).getLsbD 8 ∧ m.sends = 1 ∧ m.next = 0 ∧ m.ackWait = none ∧
        m.fragments = max 1 ((length + 39) / 40) ∧ m.at_ = out ∧ m.after = (if out + n = size then 0 else out + n) ∧
        (4 + (length + 1) / 2 ≤ got.length → m.text.length = length ∧
          ∀ i, i < length → m.text.getD i 0#8 =
            if i % 2 = 0 then Word.lower (got.getD (4 + i / 2) 0#16) else Word.upper (got.getD (4 + i / 2) 0#16))
       (got.length = 2 →
        (wrap → reads [.write (r.desc.base.toNat + 2) 0#16, .read data, .read (data + 2)] [] ∧
          t.msgs = { s.msgs with outbound := { r with own := 0#16 } }) ∧
        (¬wrap → filled < 8 → incomplete) ∧
        (¬wrap → 8 ≤ filled → size < out + 8 → rejected r.theirs.toNat) ∧
        (¬wrap → 8 ≤ filled → out + 8 ≤ size → t.msgs = s.msgs ∧ reads [.read (data + (out + 4)), .read (data + (out + 4) + 2)] got)) ∧
       (got.length = 4 →
        (bad → rejected (if n ≤ filled ∧ out + n ≤ size then (if out + n = size then 0 else out + n) else r.theirs.toNat)) ∧
        (¬bad → filled < n → incomplete) ∧
        (¬bad → n ≤ filled → size < out + n → rejected r.theirs.toNat) ∧
        (¬bad → n ≤ filled → out + n ≤ size → length = 0 → passed) ∧
        (¬bad → n ≤ filled → out + n ≤ size → length ≠ 0 → t.msgs = s.msgs ∧
          ∃ cycles, reads cycles got ∧ cycles.length = (n - 8) / 2 ∧
            ∀ k, k < (n - 8) / 2 → cycles[k]? = some (.read (data + (out + 8) + 2 * k)))) ∧
       (4 < got.length → passed))

/-- A record rewrite or the totals snapshot has made its last cycle: no operation is under way, its causes are raised, and nothing but the
emergency record's own bookkeeping changes. The guard of a cancelled emergency is lifted when the rewrite carried CLEAR and none is to
follow; a rewrite that is owed joins the queue. The record's stall mark is gone, and the cycles that are held are handled then (R70, R117,
R159, R160, R194; in the order of their list, log entry 11). -/
def Obligations.RecordRewriteCompletes : Prop :=
  ∀ (s : State) (u : UnderWay), s.running = true → s.path.under = some u → u.cycles = [] → s.attentionLaw →
    (∀ (c : Instr), (∃ n, u.kind = .offerRewrite n ∧ c = .offerEntryRewriteComplete) ∨
        (u.kind = .totalsSnapshot ∧ c = .totalsSnapshotComplete) →
      ∃ v t, exec c s = .next v ∧ s.serves t v ∧ (s.path.held = [] → v = t) ∧ s.raises t (causesMask u.causes) ∧ s.lampsStay t ∧
        t.pins.wake = s.pins.wake ∧
        t.path = { s.path with under := none, held := [] } ∧ t.pending = s.pending ∧ t.mem = s.mem ∧ t.link = s.link ∧ t.radio = s.radio ∧
        t.sched = s.sched ∧ t.offers = s.offers ∧ t.trips = s.trips ∧ t.msgs = s.msgs ∧ t.emerg = s.emerg ∧ t.status = s.status ∧
        t.power = s.power) ∧
    (u.kind = .emergencyRewrite →
      ∃ v t, exec .emergencyRecordRewriteComplete s = .next v ∧ s.serves t v ∧ (s.path.held = [] → v = t) ∧
        s.raises t (causesMask u.causes) ∧ s.lampsStay t ∧ t.pins.wake = s.pins.wake ∧
        t.path = { s.path with
          under := none, held := [], queue := s.path.queue ++ (if s.emerg.owed then [⟨.emergencyRewrite, 0⟩] else []) } ∧
        t.emerg = { s.emerg with
          owed := false,
          guardHeld := s.emerg.guardHeld && !(u.carriesClear && !s.emerg.owed && !s.path.queued .emergencyRewrite) } ∧
        t.pending = s.pending ∧ t.mem = s.mem ∧ t.link = s.link ∧ t.radio = s.radio ∧ t.sched = s.sched ∧ t.offers = s.offers ∧
        t.trips = s.trips ∧ t.msgs = s.msgs ∧ t.status = s.status ∧ t.power = s.power)

/-- A TRIPLOG deposit has made its last cycle: the ring's input pointer is the planned one, TRIP_CLOSED is raised, and the oldest record that
waits is deposited next where it fits; else no deposit is under way. An INBOUND deposit has made its last cycle: likewise with MSG_IN, the tag
joins the last four delivered, the ACK that the message asked for is queued, and the flow state is evaluated with the new pointer. Then the CLOSED
buffer that closed earliest is judged, and the other one after it when no deposit has begun. What a trip record and an inbound record hold is stated
byte by byte (R107, R108, R140 to R144, R214, R223). -/
def Obligations.DepositCompletes : Prop :=
  (∀ (s : State) (u : UnderWay) (d : TripDeposit), s.running = true → s.path.held = [] → s.path.under = some u → u.cycles = [] →
    u.causes = [] → u.kind = .tripDeposit → s.trips.deposit = some d →
    let ring := { s.msgs.triplog with own := BitVec.ofNat 16 d.plan.newPtr }
    ∃ t, exec .tripLogDepositComplete s = .next t ∧ s.raises t 0x10#13 ∧ t.msgs = { s.msgs with triplog := ring } ∧ t.mem = s.mem ∧
      t.sched = s.sched ∧ t.emerg = s.emerg ∧ t.status = s.status ∧
      (s.trips.pendingLog = [] → t.trips = { s.trips with deposit := none } ∧ t.path = { s.path with under := none }) ∧
      ∀ (record : TripRecord) (rest : List TripRecord), s.trips.pendingLog = record :: rest →
        (Ring.plan ring record.bytes = none → t.trips = { s.trips with deposit := none } ∧ t.path = { s.path with under := none }) ∧
        ∀ plan : Deposit, Ring.plan ring record.bytes = some plan →
          t.trips = { s.trips with deposit := some ⟨record, plan⟩, pendingLog := rest } ∧
          t.path = { s.path with under := none, queue := s.path.queue ++ [⟨.tripDeposit, 0⟩] }) ∧
  (∀ (s : State) (u : UnderWay) (d : InDeposit), s.running = true → s.path.held = [] → s.path.under = some u → u.cycles = [] →
    u.causes = [] → u.kind = .inboundDeposit → s.msgs.deposit = some d →
    let own := BitVec.ofNat 16 d.plan.newPtr
    let acks := d.message.ackRequired = true ∧ d.message.truncated = false
    let ended := fun (v : State) => s.raises v 0x04#13 ∧ v.path = { s.path with under := none } ∧
      v.msgs = { s.msgs with
        deposit := none, inbound := { s.msgs.inbound with own := own }, paused := v.msgs.paused,
        delivered := (s.msgs.delivered ++ [d.message.tag]).drop (s.msgs.delivered.length + 1 - 4) } ∧
      (acks → d.message.tag ∈ v.sched.acks) ∧ (¬acks → v.sched.acks = s.sched.acks) ∧
      (s.msgs.inbound.state = .open → s.flows v (s.msgs.inbound.desc.size.toNat - 4) own s.msgs.inbound.theirs) ∧
      (s.msgs.inbound.state ≠ .open → v.msgs.paused = s.msgs.paused ∧ v.sched = { s.sched with acks := v.sched.acks }) ∧
      v.mem = s.mem ∧ v.trips = s.trips ∧ v.emerg = s.emerg ∧ v.offers = s.offers ∧ v.link = s.link ∧ v.status = s.status ∧
      v.power = s.power
    ((∀ k, (s.msgs.buffer k).message? = none) → ∃ t, exec .inboundDepositComplete s = .next t ∧ ended t) ∧
    ∀ (k j : BufferId) (m : InMessage), k ≠ j → s.msgs.buffer k = .closed m →
      (s.msgs.buffer j).message? = none ∨ (∃ x, s.msgs.buffer j = .closed x ∧ m.closedAt < x.closedAt) →
      ∃ v t, ended v ∧ v.judges t k m ∧
        ((s.msgs.buffer j).message? = none ∨ t.msgs.deposit ≠ none → exec .inboundDepositComplete s = .next t) ∧
        ∀ x, s.msgs.buffer j = .closed x → t.msgs.deposit = none →
          ∃ w, exec .inboundDepositComplete s = .next w ∧ t.judges w j x) ∧
  (let word := fun (b : List Byte) (i : Nat) => Word.ofBytes (b.getD (i + 1) 0#8) (b.getD i 0#8)
   let long := fun (b : List Byte) (i : Nat) => DWord.ofWords (word b (i + 2)) (word b i)
   (∀ r : TripRecord, r.tariffs.length ≤ 4 → let b := r.bytes
    let f := r.flags
    b.length = 96 ∧ b.getD 0 0#8 = 0x20#8 ∧
    b.getD 1 0#8 = BitVec.ofNat 8 (f.emergency.toNat + 2 * f.meterFault.toNat + 4 * f.interrupted.toNat + 8 * f.mismatch.toNat +
      16 * f.forcedClose.toNat + 32 * f.overflow.toNat) ∧
    word b 2 = r.ref.shift ∧ word b 4 = r.ref.trip ∧ word b 6 = r.driverId ∧ long b 8 = r.job.getD 0#32 ∧
    b.getD 0xC 0#8 = BitVec.ofNat 8 (r.job.isSome.toNat + 2 * r.forced.toNat + 4 * r.meterOpened.toNat) ∧ b.getD 0xD 0#8 = r.faultCode ∧
    word b 0xE = r.stepCount ∧ long b 0x10 = r.startTime ∧ long b 0x14 = r.closeTime ∧ long b 0x18 = r.duration ∧
    b.getD 0x1C 0#8 = BitVec.ofNat 8 r.tariffs.length ∧ b.getD 0x1D 0#8 = 0#8 ∧ word b 0x1E = 0#16 ∧
    (∀ k : Fin 4, b.getD (0x20 + 8 * k.val) 0#8 = ((r.tariffs[k.val]?).map (·.tariff)).getD 0#8 ∧ b.getD (0x21 + 8 * k.val) 0#8 = 0#8 ∧
      word b (0x22 + 8 * k.val) = 0#16 ∧ long b (0x24 + 8 * k.val) = ((r.tariffs[k.val]?).map (·.time)).getD 0#32) ∧
    long b 0x40 = r.groups.g0 ∧ long b 0x44 = r.groups.g1 ∧ long b 0x48 = r.groups.g2 ∧ long b 0x4C = r.groups.g3 ∧
    long b 0x50 = r.ungrouped ∧ long b 0x54 = r.stepSum ∧ long b 0x58 = r.fare ∧ long b 0x5C = r.extras) ∧
   ∀ m : InMessage, m.parts.length ≤ 5 → let b := m.bytes
    let text := (m.parts.filterMap id).flatten
    b.length = 16 + (text.length + 3) / 4 * 4 ∧ b.getD 0 0#8 = 0x10#8 ∧
    b.getD 1 0#8 = BitVec.ofNat 8 (m.urgent.toNat + 2 * m.ackRequired.toNat + 4 * m.truncated.toNat) ∧ word b 2 = m.tag ∧
    (∀ k, k < 16 → (word b 4).getLsbD k = (m.parts.getD k none).isSome) ∧ word b 6 = BitVec.ofNat 16 text.length ∧
    long b 8 = m.closeTime ∧ long b 0xC = 0#32 ∧ ∀ i, b.getD (16 + i) 0#8 = text.getD i 0#8)

/-- An outbound fetch has made its last read: a record that passed goes into flight, and one that failed a check is completed with the
outcome that its judging gave it. An outbound completion has made its last cycle: the part's pointer and the last-outbound value are set,
MSG_OUT_DONE is raised, and the next record is looked for (R131, R132, R136). When the last-outbound value is set is read by inference (log
entry 19). -/
def Obligations.FetchAndCompletionEnd : Prop :=
  (∀ (s : State) (u : UnderWay) (v : FetchVerdict), s.running = true → s.path.held = [] → s.path.under = some u → u.cycles = [] →
    u.causes = [] → u.kind = .outboundFetch → s.msgs.flight = .fetching v → v ≠ .reading →
    ∃ t, exec .outboundFetchComplete s = .next t ∧ t.mem = s.mem ∧ t.page = s.page ∧ t.pins = s.pins ∧ t.path.under = none ∧
      t.trips = s.trips ∧ t.emerg = s.emerg ∧ t.status = s.status ∧ t.msgs.inbound = s.msgs.inbound ∧
      (∀ c, v = .rejected c → t.msgs = { s.msgs with flight := .completing c } ∧
        t.path = { s.path with under := none, queue := s.path.queue ++ [⟨.outboundCompletion, 0⟩] }) ∧
      ∀ m, v = .passed m → t.msgs = { s.msgs with flight := .flight m } ∧ t.path = { s.path with under := none }) ∧
  (∀ (s : State) (u : UnderWay), s.running = true → s.path.held = [] → s.path.under = some u → u.cycles = [] →
    u.causes = [] → u.kind = .outboundFetch → s.msgs.flight = .none →
    exec .outboundFetchComplete s = .next { s with path := { s.path with under := none } }) ∧
  ∀ (s : State) (u : UnderWay) (c : OutCompletion), s.running = true → s.path.held = [] → s.path.under = some u → u.cycles = [] →
    u.causes = [] → u.kind = .outboundCompletion → s.msgs.flight = .completing c →
    ∃ t, exec .outboundCompletionComplete s = .next t ∧ s.raises t 0x08#13 ∧ t.mem = s.mem ∧ t.msgs.lastOut = ⟨c.outcome, c.tag⟩ ∧
      t.msgs.outbound.own = BitVec.ofNat 16 c.after ∧
      t.msgs.outbound.state = (if s.msgs.outbound.state = .closing then .closed else s.msgs.outbound.state) ∧
      t.msgs.flight =
        (if s.msgs.outbound.state = .open ∧ s.msgs.outbound.theirs ≠ BitVec.ofNat 16 c.after then .fetching .reading else .none) ∧
      t.path.under = none ∧ t.sched = s.sched ∧ t.trips = s.trips ∧ t.emerg = s.emerg ∧ t.status = s.status

/-- The header read of an OPEN check has completed: the first check that fails gives the outcome and raises ILLEGAL, and the ring stays
CLOSED; when none fails the ring is OPEN with the captured descriptor and both pointers. INBOUND then evaluates the flow state, OUTBOUND fetches
the record that stands in it when no message is in flight, and TRIPLOG begins the deposit of the oldest record that waits, where it fits and none
is under way (R108, R128, R131, R144, R203). That the result names OPEN also after another request during the check is log entry 46. -/
def Obligations.OpenCheckJudgesTheRing : Prop :=
  ∀ (s : State) (u : UnderWay) (id : RingId) (d : Descriptor), s.running = true → s.path.held = [] → s.path.under = some u →
    u.cycles = [] → u.causes = [] → u.kind = .headerRead id → (s.msgs.ring id).check = some d →
    (s.msgs.ring id).state = .closed →
    let size := d.size.toNat
    let input := u.got.getD 0 0#16
    let output := u.got.getD 1 0#16
    let sizeBad := size < 256 ∨ 8192 < size ∨ size % 16 ≠ 0
    let alignBad := d.base.toNat % 16 ≠ 0
    let outside := d.base.toNat < 0x0A00 ∨ 0x4000 < d.base.toNat + size
    let overlap := ∃ k, k ≠ id ∧ ∃ e ∈ s.ringClaims k, ∃ x, (d.base.toNat ≤ x ∧ x < d.base.toNat + size) ∧
      e.base.toNat ≤ x ∧ x < e.base.toNat + e.size.toNat
    let pointersBad := ¬((input.toNat % 4 = 0 ∧ input.toNat < size - 4) ∧ (output.toNat % 4 = 0 ∧ output.toNat < size - 4) ∧
      (id = .outbound ∨ input = output))
    let stops := { s.path with under := none }
    ∃ t o, exec .openCheckHeaderReadComplete s = .next t ∧ t.mem = s.mem ∧ t.link = s.link ∧ t.offers = s.offers ∧ t.emerg = s.emerg ∧
      t.status = s.status ∧ t.power = s.power ∧
      (t.msgs.ring id).result = ⟨1#16, o⟩ ∧ (t.msgs.ring id).check = none ∧
      (sizeBad → o = .size) ∧ (¬sizeBad ∧ alignBad → o = .align) ∧ (¬sizeBad ∧ ¬alignBad ∧ outside → o = .outside) ∧
      (¬sizeBad ∧ ¬alignBad ∧ ¬outside ∧ overlap → o = .overlap) ∧
      (¬sizeBad ∧ ¬alignBad ∧ ¬outside ∧ ¬overlap ∧ pointersBad → o = .pointers) ∧
      (¬sizeBad ∧ ¬alignBad ∧ ¬outside ∧ ¬overlap ∧ ¬pointersBad → o = .taken) ∧
      (o ≠ .taken → (t.msgs.ring id).state = .closed ∧ s.raises t 0x800#13 ∧ t.msgs = s.msgs.setRing id (t.msgs.ring id) ∧ t.path = stops ∧
        t.trips = s.trips ∧ t.sched = s.sched) ∧
      (o = .taken → (t.msgs.ring id).state = .open ∧ (t.msgs.ring id).desc = d ∧ t.page = s.page ∧
        (id ≠ .outbound → (t.msgs.ring id).own = input ∧ (t.msgs.ring id).theirs = output) ∧
        (id = .outbound → (t.msgs.ring id).own = output ∧ (t.msgs.ring id).theirs = input)) ∧
      (o = .taken → id = .inbound → s.flows t (size - 4) input output ∧
        t.msgs = { s.msgs.setRing id (t.msgs.ring id) with paused := t.msgs.paused } ∧ t.path = stops ∧ t.trips = s.trips) ∧
      (o = .taken → id = .outbound → t.trips = s.trips ∧ t.sched = s.sched ∧
        t.msgs = { s.msgs.setRing id (t.msgs.ring id) with flight := t.msgs.flight } ∧
        (s.msgs.flight = .none ∧ input ≠ output → t.msgs.flight = .fetching .reading ∧
          t.path = { stops with queue := s.path.queue ++ [⟨.outboundFetch, s.path.buffer.length⟩] }) ∧
        (¬(s.msgs.flight = .none ∧ input ≠ output) → t.msgs.flight = s.msgs.flight ∧ t.path = stops)) ∧
      (o = .taken → id = .triplog → t.msgs = s.msgs.setRing id (t.msgs.ring id) ∧ t.sched = s.sched ∧
        (∀ record rest plan, s.trips.deposit = none → s.trips.pendingLog = record :: rest →
          (t.msgs.ring id).plan record.bytes = some plan →
          t.trips = { s.trips with deposit := some ⟨record, plan⟩, pendingLog := rest } ∧
          t.path = { stops with queue := s.path.queue ++ [⟨.tripDeposit, 0⟩] }) ∧
        ((s.trips.deposit = none → ∀ record rest, s.trips.pendingLog = record :: rest → (t.msgs.ring id).plan record.bytes = none) →
          t.trips = s.trips ∧ t.path = stops))

/-! ## Fields that the processor writes and reads -/

/-- A write of the driver ID field while no driver is logged on: the value that the write makes of the field opens a shift, or attaches the
driver to a meter-opened one; a value of 0 does neither. While a shift is open with a nonzero driver ID the field is GUARDED: a write of any
value is dropped, counted as a guard hit and raises GUARD, and changes nothing else (R2, R3, R114). -/
def Obligations.LogonOpensOrJoinsTheShift : Prop :=
  (∀ (s : State) (l : Lanes) (d : Word), s.cyclesFree = true → laneAny l = true →
    s.status.shiftOpen = true → s.status.driverId ≠ 0#16 → ∃ t, exec (.logon l d) s = .next t ∧ s.dropsWrite t) ∧
  ∀ (s : State) (l : Lanes) (d : Word), s.writesFree = true → laneAny l = true →
    (s.status.shiftOpen = false ∨ s.status.driverId = 0#16) →
    let w := laneCombine l s.status.driverCopy d
    let totals : Totals :=
      { Totals.zero with shiftNumber := nextSkippingZero s.status.shiftNumber, driverId := w, openTime := s.link.clock }
    ∃ t, exec (.logon l d) s = .next t ∧ s.posts t 0x36 l d ∧ t.pending = s.pending ∧ t.mem = s.mem ∧ t.page = s.page ∧
      s.linesStay t ∧ t.link = s.link ∧ t.radio = s.radio ∧ t.offers = s.offers ∧ t.msgs = s.msgs ∧ t.emerg = s.emerg ∧
      t.power = s.power ∧
      (w = 0#16 → t.status = { s.status with driverCopy := w } ∧ t.trips = s.trips ∧ t.sched = s.sched ∧ t.pins = s.pins) ∧
      (w ≠ 0#16 → s.handsOn t) ∧
      (w ≠ 0#16 → s.status.shiftOpen = false →
        t.status = { s.status with
          driverCopy := w, status := .free, shiftOpen := true, shiftNumber := nextSkippingZero s.status.shiftNumber,
          driverId := w, meterOpened := false } ∧
        t.trips = { s.trips with counter := 1#16, totals := totals, totalsCopy := totals.image 0#32 }) ∧
      (w ≠ 0#16 → s.status.shiftOpen = true →
        t.status = { s.status with driverCopy := w, driverId := w } ∧
        t.trips = { s.trips with totals := { s.trips.totals with driverId := w } })

/-- A status request: the first check that fails gives the outcome and raises REFUSED; a taken one changes the status, and the change is
handed on (R6, R202, R203). An emergency raised on BREAK leaves the cab on BREAK. A HIRE makes a cab on BREAK HIRED as it does a FREE one, and
an AWARD for a BIDDING entry makes a FREE one ASSIGNED, so that of a request and either of them the order decides. -/
def Obligations.StatusRequestIsJudged : Prop :=
  (∀ (s : State) (l : Lanes) (d : Word) (c : Instr),
    (c = .statusRequestFree l ∧ d = 1#16) ∨ (c = .statusRequestBreak l ∧ d = 2#16) ∨ c = .statusRequestOtherValue l d →
    s.writesFree = true → laneAny l = true →
    let w := laneCombine l s.page.statusCopy d
    let o : Outcome :=
      if w = 2#16 then
        (if s.status.shiftOpen = false then .noShift else if s.status.status ≠ .free then .notAllowed
         else if s.emerg.state ≠ .clear then .emergency else if s.offers.bidding.isSome then .notAllowed else .taken)
      else if w = 1#16 then
        (if s.status.shiftOpen = false then .noShift else if s.status.status ≠ .onBreak then .notAllowed else .taken)
      else .notValid
    ∃ t, exec c s = .next t ∧ s.posts t 0x38 l d ∧ t.pending = s.pending ∧ t.mem = s.mem ∧ t.link = s.link ∧ t.radio = s.radio ∧
      t.offers = s.offers ∧ t.trips = s.trips ∧ t.msgs = s.msgs ∧ t.emerg = s.emerg ∧ t.power = s.power ∧
      (o = .taken →
        t.status = { s.status with status := if w = 2#16 then .onBreak else .free, statusResult := ⟨w, o⟩ } ∧
        t.page = { s.page with statusCopy := w } ∧ s.linesStay t ∧ s.handsOn t) ∧
      (o ≠ .taken →
        t.status = { s.status with statusResult := ⟨w, o⟩ } ∧ t.sched = s.sched ∧
        State.raises { s with page := { s.page with statusCopy := w } } t 0x200#13 ∧ s.lampsStay t ∧ t.pins.wake = s.pins.wake)) ∧
  (∀ (s : State) (l : Lanes) (d : Word), s.writesFree = true → laneAny l = true → s.offerLaw → s.status.status = .onBreak →
    ∃ t, exec (.emergencyRaise l d) s = .next t ∧ t.status.status = .onBreak) ∧
  (∀ s : State, s.ready = true → s.emerg.state = .pressed → s.emerg.hold = some 0 → s.offerLaw → s.status.status = .onBreak →
    ∃ t, exec .holdTimerExpiry s = .next t ∧ t.emerg.state = .alerting ∧ t.status.status = .onBreak) ∧
  (∀ (s : State) (k : Byte), s.ready = true → 1 ≤ k.toNat → k.toNat ≤ 8 → s.status.shiftOpen = true →
    s.status.status = .free ∨ s.status.status = .onBreak → s.trips.trip = none →
    ∃ t, exec (.hire k) s = .next t ∧ t.status.status = .hired) ∧
  ∀ (s : State) (h : DownHeader) (b : OfferBody) (n : Fin 16), s.hears h (.award b) = true → b.job ≠ 0#32 → b.text.length ≤ 64 →
    s.offers.find b.job = some n → s.offers.stateOf n = .bidding → s.status.status = .free →
    ∃ t, exec (.award h b) s = .next t ∧ t.status.status = .assigned

/-- A shift-control request: the first check that fails gives the outcome and raises REFUSED. A taken CLOSE ends the shift: the totals are
captured with the close time, the shift report place is filled, every offer entry is EMPTY and its image is to be rewritten, an AWARDED job is
handed back, a BIDDING one declined, OFFER_CHANGE is raised once, and the status is OFF_DUTY (R7, R8, R84, R87, R117, R118). That OFFER_CHANGE
waits on one of the rewrites is log entry 13. -/
def Obligations.ShiftControlIsJudgedAndCloseEndsTheShift : Prop :=
  ∀ (s : State) (l : Lanes) (d : Word) (c : Instr),
    (c = .close l ∧ d = 1#16) ∨ (c = .closeTrip l ∧ d = 2#16) ∨ c = .shiftControlOtherValue l d →
    s.writesFree = true → laneAny l = true →
    let w := laneCombine l s.page.shiftCopy d
    let o : Outcome :=
      if w = 1#16 then
        (if s.status.shiftOpen = false then .noShift else if s.emerg.state ≠ .clear then .emergency
         else if s.trips.trip.isSome then .openTrip else .taken)
      else if w = 2#16 then
        (if s.status.shiftOpen = false then .noShift
         else if s.trips.trip.any (fun t => t.flags.meterFault) then .taken else .notAllowed)
      else .notValid
    ∃ t, exec c s = .next t ∧ t.pending = s.pending ∧ t.mem = s.mem ∧ t.link = s.link ∧ t.emerg = s.emerg ∧ t.power = s.power ∧
      t.status.shiftResult = ⟨w, o⟩ ∧ t.page.shiftCopy = w ∧
      (o ≠ .taken →
        s.posts t 0x3E l d ∧ t.status = { s.status with shiftResult := ⟨w, o⟩ } ∧ t.sched = s.sched ∧ t.offers = s.offers ∧
        t.trips = s.trips ∧ t.radio = s.radio ∧ t.msgs = s.msgs ∧
        State.raises { s with page := { s.page with shiftCopy := w } } t 0x200#13 ∧ s.lampsStay t ∧ t.pins.wake = s.pins.wake) ∧
      (o = .taken → w = 1#16 →
        t.status = { s.status with
          shiftOpen := false, driverId := 0#16, meterOpened := false, status := .offDuty, shiftResult := ⟨w, o⟩ } ∧
        (∀ n, t.offers.stateOf n = .empty) ∧
        t.trips = { s.trips with
          captured := some ⟨s.trips.totals, s.link.clock⟩, shiftReport := some ⟨⟨s.trips.totals, s.link.clock⟩, 0, 0, false⟩ } ∧
        (∀ n, s.offers.awarded = some n → ⟨(s.offers.entry n).job, .return, 0⟩ ∈ t.sched.bids) ∧
        (∀ n, s.offers.awarded = none → s.offers.bidding = some n → ⟨(s.offers.entry n).job, .decline, 0⟩ ∈ t.sched.bids) ∧
        (∀ n, s.offers.stateOf n = .empty → t.offers.entry n = s.offers.entry n) ∧
        (∀ n, s.offers.stateOf n ≠ .empty → t.path.queued (.offerRewrite n) = true ∧ t.offers.entry n = { OfferEntry.reset with
          seq := (s.offers.entry n).seq + 1#8, response := (s.offers.entry n).response, result := (s.offers.entry n).result,
          causes := (t.offers.entry n).causes }) ∧
        ((∃ n, s.offers.stateOf n ≠ .empty) → ∃ n, s.offers.stateOf n ≠ .empty ∧ .offerChange ∈ (t.offers.entry n).causes ∧
          ∀ k, k ≠ n → (t.offers.entry k).causes = (s.offers.entry k).causes) ∧
        t.page.causes = s.page.causes ||| (if s.trips.shiftReport.isSome then 0x20#13 else 0#13) ∧ t.lampLaw ∧
        t.path.queued .totalsSnapshot = true)

/-- The zone byte takes effect when its lane is written. The lower word of a coordinate is only kept; the higher word of the first makes it
pending, and the higher word of the second moves both into the position, which is then present. Zone and position are handed on (R9, R10,
R11). That the byte beside the zone byte is PLAIN and a write of it alone has no effect is the model's choice (log entry 10, unsafe). -/
def Obligations.ZoneAndPositionTakeEffect : Prop :=
  ∀ (s : State) (l : Lanes) (d : Word), s.writesFree = true → laneAny l = true →
    let rest := fun t : State => t.pending = s.pending ∧ t.mem = s.mem ∧ t.page = s.page ∧ t.link = s.link ∧ t.radio = s.radio ∧
      t.offers = s.offers ∧ t.trips = s.trips ∧ t.msgs = s.msgs ∧ t.emerg = s.emerg ∧ t.power = s.power ∧ s.linesStay t
    let first := s.status.firstCopy
    let second := s.status.secondCopy
    (l.lo = true → ∃ t, exec (.zoneWrite l d) s = .next t ∧ s.posts t 0x60 l d ∧ rest t ∧ s.handsOn t ∧
      t.status = { s.status with zone := Word.lower d }) ∧
    (l.lo = false → ∃ t, exec (.zoneWrite l d) s = .next t ∧ s.posts t 0x60 l d ∧ rest t ∧ t.status = s.status ∧
      t.sched = s.sched ∧ t.pins = s.pins) ∧
    (∃ t, exec (.positionLowerWordWrite .first l d) s = .next t ∧ s.posts t 0x64 l d ∧ rest t ∧ t.sched = s.sched ∧
      t.pins = s.pins ∧ t.status = { s.status with firstCopy := { first with lower := laneCombine l first.lower d } }) ∧
    (∃ t, exec (.positionLowerWordWrite .second l d) s = .next t ∧ s.posts t 0x68 l d ∧ rest t ∧ t.sched = s.sched ∧
      t.pins = s.pins ∧ t.status = { s.status with secondCopy := { second with lower := laneCombine l second.lower d } }) ∧
    (∃ t, exec (.firstCoordinateWrite l d) s = .next t ∧ s.posts t 0x66 l d ∧ rest t ∧ t.sched = s.sched ∧ t.pins = s.pins ∧
      t.status = { s.status with
        firstCopy := { first with higher := laneCombine l first.higher d },
        pendingFirst := DWord.ofWords (laneCombine l first.higher d) first.lower }) ∧
    ∃ t, exec (.secondCoordinateWrite l d) s = .next t ∧ s.posts t 0x6A l d ∧ rest t ∧ s.handsOn t ∧
      t.status = { s.status with
        secondCopy := { second with higher := laneCombine l second.higher d },
        position := some (s.status.pendingFirst, DWord.ofWords (laneCombine l second.higher d) second.lower) }

/-- A power request: WAKE is taken back, and the first check that fails gives the outcome and raises REFUSED. ACTIVE ends the note and the parking
count, and brings the link up from SLEEP; STANDBY enters PARKING for ten cycles; SLEEP turns the receiver and the link off: from JOINED the
scheduler clears its working state and the message in flight is to be offered from its first fragment, from JOIN the JOIN leaves its place (R64,
R135, R169, R170, R173, R174, R178). That an exit from JOINED into SLEEP raises LINK is log entry 55. What the parking count holds once PARKING
has ended is log entry 50. -/
def Obligations.PowerRequestIsJudged : Prop :=
  ∀ (s : State) (l : Lanes) (d : Word) (c : Instr),
    (c = .powerRequestActive l ∧ d = 0#16) ∨ (c = .powerRequestStandby l ∧ d = 2#16) ∨ (c = .powerRequestSleep l ∧ d = 3#16) ∨
      c = .powerRequestOtherValue l d →
    s.writesFree = true → laneAny l = true →
    let w := laneCombine l s.page.powerCopy d
    let down : Outcome := if s.trips.trip.isSome then .hired else if s.emerg.state ≠ .clear then .emergency else .taken
    let o : Outcome :=
      if w = 0#16 then .taken
      else if w = 2#16 then (if s.power.power = .active then down else .notValid)
      else if w = 3#16 then (if s.power.power = .sleep then .notValid else down)
      else .notValid
    ∃ t, exec c s = .next t ∧ s.posts t 0x44 l d ∧ t.pending = s.pending ∧ t.mem = s.mem ∧ t.offers = s.offers ∧ t.trips = s.trips ∧
      t.emerg = s.emerg ∧ t.status = s.status ∧ t.pins.wake = false ∧ t.pins.emswClosed = s.pins.emswClosed ∧ t.pins.ign = s.pins.ign ∧
      (o ≠ .taken →
        t.power = { s.power with result := ⟨w, o⟩ } ∧ t.link = s.link ∧ t.radio = s.radio ∧ t.sched = s.sched ∧ t.msgs = s.msgs ∧
        State.raises { s with page := { s.page with powerCopy := w } } t 0x200#13 ∧ s.lampsStay t) ∧
      (o = .taken → w = 0#16 →
        t.power = { s.power with power := .active, park := false, result := ⟨w, o⟩ } ∧ t.lampLaw ∧
        (s.power.power ≠ .sleep → s.handsOn t ∧ t.page = { s.page with powerCopy := w } ∧ t.link = s.link ∧ t.radio = s.radio ∧
          t.msgs = s.msgs) ∧
        (s.power.power = .sleep → s.link.state = .off →
          t.page = { s.page with powerCopy := w } ∧ t.link.state = .quiet ∧ t.link.quiet = 0 ∧ t.link.candidates = [] ∧
          t.link.channels = s.link.channels ∧ t.msgs = s.msgs ∧
          t.radio.output = s.radio.output ++ [.order (.tune (s.link.channels.headD 0#16)), .order .listen] ∧
          (s.radio.sending = none → t.radio.channel = s.link.channels.headD 0#16 ∧ t.radio.receiverOn = true))) ∧
      (o = .taken → w = 2#16 →
        t.power = { s.power with power := .parking, park := true, parking := 10, result := ⟨w, o⟩ } ∧ s.handsOn t ∧
        t.page = { s.page with powerCopy := w } ∧ t.link = s.link ∧ t.radio = s.radio ∧ t.msgs = s.msgs) ∧
      (o = .taken → w = 3#16 →
        t.power = { s.power with power := .sleep, result := ⟨w, o⟩ } ∧ t.lampLaw ∧ t.link.state = .off ∧
        t.link.site = none ∧ t.link.candidates = [] ∧ t.link.joining = none ∧ t.link.hunt = none ∧
        t.radio.output = s.radio.output ++ [.order .off] ∧ (s.radio.sending = none → t.radio.receiverOn = false) ∧
        t.page.causes = s.page.causes ||| (if s.link.state = .joined then 0x80#13 else 0#13) ∧
        t.page.linkUp = (if s.link.state = .joined then false else s.page.linkUp) ∧ t.sched.statusPlace = some t.statusReport ∧
        (s.link.state = .joined →
          t.sched = { s.sched with
            grant := none, long := .none, requests := 0, contention := .idle, slotRequest := none,
            bids := s.sched.bids.map (fun b => { b with attempts := 0 }), alertAttempts := 0, statusPlace := t.sched.statusPlace } ∧
          (∀ m, s.msgs.flight = .flight m → t.msgs = { s.msgs with flight := .flight { m with next := 0 } }) ∧
          ((∀ m, s.msgs.flight ≠ .flight m) → t.msgs = s.msgs)) ∧
        (s.link.state = .join →
          t.sched = { s.sched with joinPlace := false, contention := .idle, statusPlace := t.sched.statusPlace } ∧ t.msgs = s.msgs) ∧
        (s.link.state ≠ .joined → s.link.state ≠ .join →
          t.sched = { s.sched with contention := t.sched.contention, statusPlace := t.sched.statusPlace } ∧ t.msgs = s.msgs))

/-- The descriptor words of a CLOSED ring are kept as written; a write of one of an OPEN or CLOSING ring is dropped as a guard hit. OPEN on a
CLOSED ring with no OPEN check under way captures them and queues the read of the header behind the writes posted so far; CLOSE on an OPEN ring
closes it, OUTBOUND first completing its message and INBOUND dropping the messages that wait; any other request is NOT_VALID and raises ILLEGAL
(R123, R128 to R130, R142, R144). -/
def Obligations.RingRequestsAreJudged : Prop :=
  ∀ (s : State) (id : RingId) (l : Lanes) (d : Word), s.writesFree = true → laneAny l = true →
    let rest := fun t : State => t.pending = s.pending ∧ t.mem = s.mem ∧ t.link = s.link ∧ t.offers = s.offers ∧ t.trips = s.trips ∧
      t.emerg = s.emerg ∧ t.status = s.status ∧ t.power = s.power
    let r := s.msgs.ring id
    let w := laneCombine l r.controlCopy d
    (r.state ≠ .closed → ∀ part, ∃ t, exec (.ringDescriptorWrite id part l d) s = .next t ∧ s.dropsWrite t) ∧
    (r.state = .closed →
      (∃ t, exec (.ringDescriptorWrite id .base l d) s = .next t ∧ s.posts t (ringOffset id) l d ∧ rest t ∧ t.page = s.page ∧
        t.pins = s.pins ∧ t.sched = s.sched ∧ t.radio = s.radio ∧
        t.msgs = s.msgs.setRing id { r with copies := { r.copies with base := laneCombine l r.copies.base d } }) ∧
      ∃ t, exec (.ringDescriptorWrite id .size l d) s = .next t ∧ s.posts t (ringOffset id + 2) l d ∧ rest t ∧ t.page = s.page ∧
        t.pins = s.pins ∧ t.sched = s.sched ∧ t.radio = s.radio ∧
        t.msgs = s.msgs.setRing id { r with copies := { r.copies with size := laneCombine l r.copies.size d } }) ∧
    ∀ c : Instr, (c = .ringControlOpen id l ∧ d = 1#16) ∨ (c = .ringControlClose id l ∧ d = 2#16) ∨ c = .ringControlOtherValue id l d →
      ∃ t, exec c s = .next t ∧ rest t ∧
        (w = 1#16 → r.state = .closed → r.check = none →
          (∃ p, s.path.post (pageAddress s.path.asel (ringOffset id + 4)) l d = some p ∧
            t.path = { p with queue := s.path.queue ++ [⟨.headerRead id, p.buffer.length⟩] }) ∧
          t.msgs = s.msgs.setRing id { r with controlCopy := w, check := some r.copies, result := ⟨w, .pending⟩ } ∧
          t.page = s.page ∧ t.pins = s.pins ∧ t.sched = s.sched ∧ t.radio = s.radio) ∧
        ((w = 1#16 ∧ ¬(r.state = .closed ∧ r.check = none)) ∨ (w = 2#16 ∧ r.state = .closed) ∨ (w ≠ 1#16 ∧ w ≠ 2#16) →
          s.posts t (ringOffset id + 4) l d ∧ s.raises t 0x800#13 ∧ s.lampsStay t ∧ t.pins.wake = s.pins.wake ∧
          t.msgs = s.msgs.setRing id { r with controlCopy := w, result := ⟨w, .notValid⟩ } ∧ t.sched = s.sched ∧ t.radio = s.radio) ∧
        (w = 2#16 → r.state = .closing → s.posts t (ringOffset id + 4) l d ∧ t.page = s.page ∧ t.sched = s.sched ∧
          t.msgs = s.msgs.setRing id { r with controlCopy := w, result := ⟨w, .taken⟩ }) ∧
        (w = 2#16 → r.state = .open → s.posts t (ringOffset id + 4) l d ∧ (t.msgs.ring id).result = ⟨w, .taken⟩ ∧
          (id = .outbound → t.msgs.outbound.state = (if s.msgs.flight = .none then .closed else .closing) ∧ t.page = s.page ∧
            t.msgs.flight = s.msgs.flight ∧ t.sched = s.sched) ∧
          (id = .triplog → t.msgs.triplog.state = .closed ∧ t.page = s.page ∧ t.sched = s.sched) ∧
          (id = .inbound → t.msgs.inbound.state = .closed ∧ t.msgs.paused = true ∧ t.msgs.buffer0.message? = none ∧
            t.msgs.buffer1.message? = none ∧ (s.msgs.paused = false → t.sched.flowPlace = some .pause) ∧
            (s.msgs.paused = true → t.sched = s.sched) ∧ t.page.causes = s.page.causes))

/-- A write of the header word of the pointer that the processor owns, in an OPEN or CLOSING ring: a value that is no pointer into the data
area is refused with POINTERS and ILLEGAL; another is the part's copy from then on, and starts what the ring does with it: a fetch from an
OPEN OUTBOUND with no message in flight, the flow state of INBOUND, or the deposit of a waiting record into TRIPLOG. A write of the header word
of the pointer that the part owns is dropped as a guard hit (R108, R124, R127, R131, R144). -/
def Obligations.PointerWriteIsTakenOrRefused : Prop :=
  (∀ (s : State) (id : RingId) (l : Lanes) (d : Word), s.cyclesFree = true → laneAny l = true → (s.msgs.ring id).state ≠ .closed →
    let o := (s.msgs.ring id).desc.base.toNat + if id = .outbound then 2 else 0
    o % 2 = 0 → 0x0A00 ≤ o → o < 0x4000 →
    ∃ t, exec (.processorWrite (pageAddress s.path.asel o) l d) s = .next t ∧ s.dropsWrite t) ∧
  ∀ (s : State) (id : RingId) (l : Lanes) (d : Word), s.writesFree = true → laneAny l = true →
    let r := s.msgs.ring id
    let o := s.pointerOffset id
    let w := laneCombine l r.theirs d
    s.pointerRing o = some id → s.ownPointerAt o = false → o % 2 = 0 → 0x0A00 ≤ o → o < 0x4000 →
    ∃ t, exec (.ringPointerWrite id l d) s = .next t ∧ t.pending = s.pending ∧ t.mem = s.mem ∧ t.link = s.link ∧ t.radio.output = s.radio.output ∧
      t.offers = s.offers ∧ t.emerg = s.emerg ∧ t.status = s.status ∧ t.power = s.power ∧
      (¬(w.toNat % 4 = 0 ∧ w.toNat < r.desc.size.toNat - 4) →
        s.posts t o l d ∧ s.raises t 0x800#13 ∧ s.lampsStay t ∧ t.pins.wake = s.pins.wake ∧ t.sched = s.sched ∧ t.trips = s.trips ∧
        t.msgs = s.msgs.setRing id { r with result := ⟨0#16, .pointers⟩ }) ∧
      (w.toNat % 4 = 0 ∧ w.toNat < r.desc.size.toNat - 4 →
        t.page = s.page ∧ t.msgs.ring id = { r with theirs := w } ∧
        (id = .outbound → t.sched = s.sched ∧ t.trips = s.trips ∧
          t.msgs.flight = (if r.state = .open ∧ s.msgs.flight = .none ∧ w ≠ r.own then .fetching .reading else s.msgs.flight)) ∧
        (id = .inbound → r.state = .open → t.trips = s.trips ∧ t.msgs.flight = s.msgs.flight ∧
          (t.msgs.paused ≠ s.msgs.paused → t.sched.flowPlace = some (if t.msgs.paused then .pause else .resume)) ∧
          t.msgs.paused =
            (if freeBytes (r.desc.size.toNat - 4) r.own.toNat w.toNat < s.msgs.pauseAt ∧ s.msgs.paused = false then true
             else if s.msgs.resumeAt ≤ freeBytes (r.desc.size.toNat - 4) r.own.toNat w.toNat ∧ s.msgs.paused = true then false
             else s.msgs.paused)) ∧
        (id = .triplog → t.msgs.flight = s.msgs.flight ∧ t.msgs.paused = s.msgs.paused ∧ t.sched = s.sched ∧
          ∀ record rest plan, s.trips.deposit = none → s.trips.pendingLog = record :: rest →
            ({ r with theirs := w } : Ring).plan record.bytes = some plan →
            t.trips = { s.trips with deposit := some ⟨record, plan⟩, pendingLog := rest }))

/-- A write of the emergency raise field, judged by the bytes written: 0 is NOT_VALID, a write in ALERTING or ACKED is NOT_ALLOWED, and both
raise REFUSED; any other write enters ALERTING with source TERMINAL and the next number, fills the ALERT place, and has the record rewritten
with EMERGENCY to follow it. A BIDDING entry becomes NO_AWARD with a bid DECLINE for its job and OFFER_CHANGE to follow (R151, R152, R84, R86,
R101, R162). -/
def Obligations.EmergencyRaiseEntersAlerting : Prop :=
  ∀ (s : State) (l : Lanes) (d : Word), s.writesFree = true → laneAny l = true → s.offerLaw →
    let w := laneMasked l d
    ∃ t, exec (.emergencyRaise l d) s = .next t ∧ t.pending = s.pending ∧ t.mem = s.mem ∧ t.link = s.link ∧ t.msgs = s.msgs ∧
      t.power = s.power ∧
      (w = 0#16 ∨ s.emerg.state = .alerting ∨ s.emerg.state = .acked →
        t.emerg = { s.emerg with raiseResult := ⟨w, if w = 0#16 then .notValid else .notAllowed⟩ } ∧ s.posts t 0x50 l d ∧
        s.raises t 0x200#13 ∧ s.lampsStay t ∧ t.pins.wake = s.pins.wake ∧ t.sched = s.sched ∧ t.offers = s.offers ∧
        t.trips = s.trips ∧ t.status = s.status ∧ t.radio = s.radio) ∧
      (w ≠ 0#16 → s.emerg.state = .clear ∨ s.emerg.state = .pressed →
        t.emerg = { s.emerg with
          state := .alerting, number := nextSkippingZero s.emerg.number, source := .terminal, raisedAt := s.link.clock,
          ackedAt := 0#32, cancelledAt := 0#32, sends := 0#16, hold := none, raiseResult := ⟨w, .taken⟩, causeWaits := true,
          owed := s.emerg.owed || (!s.path.queued .emergencyRewrite && s.path.underWay .emergencyRewrite) } ∧
        t.sched.alertPlace = some ⟨nextSkippingZero s.emerg.number, .terminal⟩ ∧ t.sched.alertAttempts = 0 ∧
        t.sched.statusPlace = some t.statusReport ∧ t.lampLaw ∧ t.page = s.page ∧ s.linesStay t ∧
        t.status = { s.status with alarmOn := true } ∧ (∀ n, t.offers.stateOf n ≠ .bidding) ∧
        (∀ n, s.offers.stateOf n = .bidding → t.path.queued (.offerRewrite n) = true ∧ .offerChange ∈ (t.offers.entry n).causes ∧
          t.offers.entry n = { s.offers.entry n with
            state := .noAward, timer := none, seq := (s.offers.entry n).seq + 1#8, causes := (t.offers.entry n).causes } ∧
          ⟨(s.offers.entry n).job, .decline, 0⟩ ∈ t.sched.bids) ∧
        (∀ n, s.offers.stateOf n ≠ .bidding → t.offers.entry n = s.offers.entry n) ∧
        (s.path.busyWith .emergencyRewrite = false → ⟨.emergencyRewrite, 0⟩ ∈ t.path.queue) ∧
        (s.emerg.state = .clear → t.trips.trip = s.trips.trip.map (fun o => { o with flags := { o.flags with emergency := true } })) ∧
        (s.emerg.state = .pressed → t.trips = s.trips))

/-- The attention fields: CLEAR clears the causes whose positions hold a one in the written lanes; ENABLE gives the enable set, and a cause
that it makes both set and enabled asserts ATTN; DONE takes ATTN back, and asserts it again while a set cause is enabled (R209 to R212). The
count of assertions is the model's own record of ATTN and of its gap of 1 us (log entries 8 and 22). -/
def Obligations.AttentionFieldsActAsDescribed : Prop :=
  ∀ (s : State) (l : Lanes) (d : Word), s.writesFree = true → laneAny l = true → s.attentionLaw →
    (∃ t, exec (.attentionClear l d) s = .next t ∧ s.posts t 0x0C l d ∧ s.blocksStay t ∧ t.pins = s.pins ∧
      t.page = { s.page with causes := s.page.causes &&& ~~~((laneMasked l d).setWidth 13) }) ∧
    (∃ t, exec (.attentionEnable l d) s = .next t ∧ s.posts t 0x0E l d ∧ s.blocksStay t ∧ s.lampsStay t ∧ t.pins.wake = s.pins.wake ∧
      t.page.enableCopy = laneCombine l s.page.enableCopy d ∧ t.page.enables = (laneCombine l s.page.enableCopy d).setWidth 13 ∧
      t.page.causes = s.page.causes ∧ t.page.counters = s.page.counters ∧
      t.pins.attn = (s.pins.attn || (t.page.causes &&& t.page.enables) != 0#13) ∧ t.page.busy = t.pins.attn) ∧
    ∃ t, exec (.attentionDone l d) s = .next t ∧ s.posts t 0x06 l d ∧ s.blocksStay t ∧ s.lampsStay t ∧ t.pins.wake = s.pins.wake ∧
      t.page.causes = s.page.causes ∧ t.page.enables = s.page.enables ∧ t.page.counters = s.page.counters ∧
      (s.page.busy = false → t.page = s.page ∧ t.pins = s.pins) ∧
      (s.page.busy = true →
        t.pins.attn = ((s.page.causes &&& s.page.enables) != 0#13) ∧ t.page.busy = t.pins.attn ∧
        t.page.assertions = s.page.assertions + ((s.page.causes &&& s.page.enables) != 0#13).toNat)

/-- A response written to an entry: the code of the combined word and the entry's state give the outcome, which the entry then holds with
code and token; its sequence advances and its image is to be rewritten. A taken ACCEPT makes it BIDDING for 8 seconds and bids, a taken
DECLINE makes it DECLINED and bids so, a taken RELEASE empties it, handing an AWARDED job back (R74 to R77, R84, R5). REFUSED waits on the
rewrite (log entry 23). -/
def Obligations.ResponseIsJudgedByItsEntry : Prop :=
  ∀ (s : State) (n : Fin 16) (l : Lanes) (token : Byte) (d : Word) (c : Instr),
    (c = .responseAccept n l token ∧ d = Word.ofBytes token 1#8) ∨ (c = .responseDecline n l token ∧ d = Word.ofBytes token 2#8) ∨
      (c = .responseRelease n l token ∧ d = Word.ofBytes token 3#8) ∨ c = .responseOtherCode n l d →
    s.writesFree = true → laneAny l = true →
    let e := s.offers.entry n
    let resp := laneCombine l e.response d
    let code := Word.lower resp
    let o : Outcome :=
      if code = 1#8 then
        (if e.state = .live then
          (if s.offers.otherClaims n then .busy else if s.emerg.state ≠ .clear then .emergency
           else if s.status.status = .free ∨ (s.status.status = .hired ∧ e.dest = 1#8) then .taken else .notAllowed)
         else if e.state = .lapsed then .tooLate else .notValid)
      else if code = 2#8 then (if e.state = .live ∨ e.state = .bidding then .taken else .notValid)
      else if code = 3#8 then (if e.state = .empty ∨ e.state = .live ∨ e.state = .bidding then .notValid else .taken)
      else .notValid
    ∃ t, exec c s = .next t ∧ t.pending = s.pending ∧ t.mem = s.mem ∧ t.page = s.page ∧ t.link = s.link ∧ t.trips = s.trips ∧
      t.msgs = s.msgs ∧ t.emerg = s.emerg ∧ t.power = s.power ∧ s.linesStay t ∧
      (∀ k, k ≠ n → t.offers.entry k = s.offers.entry k) ∧
      (t.offers.entry n).response = resp ∧ (t.offers.entry n).result = ⟨code, Word.upper resp, o⟩ ∧
      (t.offers.entry n).seq = e.seq + 1#8 ∧ t.path.queued (.offerRewrite n) = true ∧
      (o ≠ .taken → t.sched = s.sched ∧ t.status = s.status ∧ t.radio = s.radio ∧ (t.offers.entry n).state = e.state ∧
        (t.offers.entry n).job = e.job ∧ (t.offers.entry n).timer = e.timer ∧ .refused ∈ (t.offers.entry n).causes) ∧
      (o = .taken → code = 1#8 → (t.offers.entry n).state = .bidding ∧ (t.offers.entry n).timer = some 8 ∧
        (t.offers.entry n).job = e.job ∧ ⟨e.job, .accept, 0⟩ ∈ t.sched.bids ∧ t.status = s.status) ∧
      (o = .taken → code = 2#8 → (t.offers.entry n).state = .declined ∧ (t.offers.entry n).timer = none ∧
        (t.offers.entry n).job = e.job ∧ ⟨e.job, .decline, 0⟩ ∈ t.sched.bids ∧ t.status = s.status) ∧
      (o = .taken → code = 3#8 → (t.offers.entry n).state = .empty ∧
        (e.state ≠ .awarded → t.sched = s.sched ∧ t.status = s.status) ∧
        (e.state = .awarded → ⟨e.job, .return, 0⟩ ∈ t.sched.bids ∧
          t.status = { s.status with status := if s.status.status = .assigned then .free else s.status.status }))

/-- The reads that have an effect: a counter is answered and cleared; the wake reason set is answered and emptied; a read of link status gives
the link-up latch the present state; a read of the clock's lower word captures the upper one; the first word of the meter field and of the
SHADOWED totals block loads the rest for later reads (R207, R178, R37, R38, R97, R116). -/
def Obligations.ReadsHaveTheirEffects : Prop :=
  ∀ (s : State) (l : Lanes), s.cyclesFree = true → laneAny l = true → s.path.under = none →
    let answered := fun (t : State) (o : Nat) (w : Word) =>
      t.path = { s.path with
        answer := some ⟨pageAddress s.path.asel o, if l.lo then some (Word.lower w) else none,
          if l.hi then some (Word.upper w) else none⟩ }
    let rest := fun t : State => t.pending = s.pending ∧ t.mem = s.mem ∧ t.pins = s.pins ∧ t.radio = s.radio ∧ t.sched = s.sched ∧
      t.offers = s.offers ∧ t.msgs = s.msgs ∧ t.emerg = s.emerg ∧ t.status = s.status
    (∀ k : Counter, ∃ t, exec (.counterRead k l) s = .next t ∧ answered t (counterOffset k) (s.page.counters.get k) ∧ rest t ∧
      t.page = { s.page with counters := s.page.counters.set k 0#16 } ∧ t.link = s.link ∧ t.trips = s.trips ∧ t.power = s.power) ∧
    (∃ t, exec (.wakeReasonRead l) s = .next t ∧ answered t 0x4E (Word.ofBytes 0#8 s.power.reason.flags) ∧ rest t ∧
      t.power = { s.power with reason := WakeReason.empty } ∧ t.page = s.page ∧ t.link = s.link ∧ t.trips = s.trips) ∧
    (∀ k : Fin 5, ∃ t, exec (.linkStatusRead k l) s = .next t ∧ answered t (0x20 + 2 * k.val) (s.linkStatusWord k.val) ∧ rest t ∧
      t.page = { s.page with linkUp := s.link.state == .joined } ∧ t.link = s.link ∧ t.trips = s.trips ∧ t.power = s.power) ∧
    (∃ t, exec (.cabClockLowerWordRead l) s = .next t ∧ answered t 0x1C (DWord.lower s.link.clock) ∧ rest t ∧
      t.link = { s.link with clockUpper := DWord.upper s.link.clock } ∧ t.page = s.page ∧ t.trips = s.trips ∧ t.power = s.power) ∧
    (∃ t, exec (.meterFirstWordRead l) s = .next t ∧ answered t 0x70 ((meterWords s.trips).getD 0 0#16) ∧ rest t ∧
      t.trips = { s.trips with meterCopy := meterWords s.trips } ∧ t.page = s.page ∧ t.link = s.link ∧ t.power = s.power) ∧
    (s.status.shiftOpen = true → ∃ t, exec (.totalsFirstWordRead l) s = .next t ∧
      answered t 0x980 ((s.trips.totals.image 0#32).getD 0 0#16) ∧ rest t ∧
      t.trips = { s.trips with totalsCopy := s.trips.totals.image 0#32 } ∧ t.page = s.page ∧ t.link = s.link ∧ t.power = s.power)

/-! ## Meter and trips -/

/-- The messages of the meter link that do not open or close a trip. With a trip open, STEP adds its amount to the step sum and to the group of
its component, TARIFF adds an entry or replaces the last of four, FAULT sets the meter-fault flag, and each, like ALIVE, restarts the silence
timer. FAULT keeps its code and raises METER at all times; the expiry of the silence timer does so with code 0. A malformed message, and a
STEP, TARIFF or ALIVE with no trip, change nothing (R93 to R95, R99, R100). -/
def Obligations.MeterMessagesActOnTheOpenTrip : Prop :=
  ∀ s : State, s.ready = true →
    let only := fun (t : State) => s.blocksStay { t with trips := s.trips } ∧ t.path = s.path
    (∀ (bytes : List Byte) (gap : Bool), gap = true ∨ decodeMeter bytes = none → exec (.malformedMeterMessage bytes gap) s = .next s) ∧
    (∀ (c : Byte) (a : Word), c.toNat ≤ 15 → 1 ≤ a.toNat →
      (s.trips.trip = none → exec (.step c a) s = .next s) ∧
      ∀ o, s.trips.trip = some o → ∃ p, exec (.step c a) s =
          .next { s with trips := { s.trips with trip := some p, silence := some 15 } } ∧
        p = { o with
          stepSum := satAdd o.stepSum (a.setWidth 32), stepCount := satAdd o.stepCount 1#16, groups := p.groups, ungrouped := p.ungrouped } ∧
        (s.trips.components.getD c.toNat none = none → p.groups = o.groups ∧ p.ungrouped = satAdd o.ungrouped (a.setWidth 32)) ∧
        ∀ g, s.trips.components.getD c.toNat none = some g → p.ungrouped = o.ungrouped ∧
          p.groups.g0 = (if g = 0 then satAdd o.groups.g0 (a.setWidth 32) else o.groups.g0) ∧
          p.groups.g1 = (if g = 1 then satAdd o.groups.g1 (a.setWidth 32) else o.groups.g1) ∧
          p.groups.g2 = (if g = 2 then satAdd o.groups.g2 (a.setWidth 32) else o.groups.g2) ∧
          p.groups.g3 = (if g = 3 then satAdd o.groups.g3 (a.setWidth 32) else o.groups.g3)) ∧
    (∀ k : Byte, 1 ≤ k.toNat → k.toNat ≤ 8 →
      (s.trips.trip = none → exec (.tariff k) s = .next s) ∧
      ∀ o, s.trips.trip = some o → ∃ p, exec (.tariff k) s =
          .next { s with trips := { s.trips with trip := some p, silence := some 15 } } ∧
        (o.tariffs.getLast?.map (·.tariff) = some k → p = o) ∧
        (o.tariffs.getLast?.map (·.tariff) ≠ some k → o.tariffs.length < 4 →
          p = { o with tariffs := o.tariffs ++ [⟨k, s.link.clock⟩] }) ∧
        (o.tariffs.getLast?.map (·.tariff) ≠ some k → 4 ≤ o.tariffs.length →
          p = { o with tariffs := o.tariffs.take 3 ++ [⟨k, s.link.clock⟩], flags := { o.flags with overflow := true } })) ∧
    (s.trips.trip = none → exec .alive s = .next s) ∧
    (s.trips.trip ≠ none → exec .alive s = .next { s with trips := { s.trips with silence := some 15 } }) ∧
    (∀ code : Byte, 1 ≤ code.toNat → ∃ t, exec (.fault code) s = .next t ∧ only t ∧ s.raises t 0x1000#13 ∧ s.lampsStay t ∧
      t.pins.wake = s.pins.wake ∧
      t.trips = { s.trips with
        trip := s.trips.trip.map (fun o => { o with flags := { o.flags with meterFault := true } }), lastFault := code,
        silence := if s.trips.trip = none then s.trips.silence else some 15 }) ∧
    (s.trips.trip ≠ none → s.trips.silence = some 0 →
      ∃ t, exec .silenceTimerExpiry s = .next t ∧ only t ∧ s.raises t 0x1000#13 ∧ s.lampsStay t ∧ t.pins.wake = s.pins.wake ∧
        t.trips = { s.trips with
          trip := s.trips.trip.map (fun o => { o with flags := { o.flags with meterFault := true } }), lastFault := 0#8,
          silence := none })

/-- A HIRE opens a trip whatever the power state: it carries the AWARDED job and empties that entry, opens a shift with the meter-opened flag
where none is open, first closes an open trip as interrupted, makes the status HIRED, and is a wake event outside ACTIVE
(R2, R5, R85, R98, R104, R175, R177). What the parking count holds once PARKING has ended is log entry 50. -/
def Obligations.HireOpensATrip : Prop :=
  ∀ (s : State) (k : Byte), s.ready = true → 1 ≤ k.toNat → k.toNat ≤ 8 →
    let number := nextSkippingZero s.status.shiftNumber
    ∃ t o, exec (.hire k) s = .next t ∧ t.trips.trip = some o ∧ t.pending = s.pending ∧ t.mem = s.mem ∧ t.emerg = s.emerg ∧
      o.startTime = s.link.clock ∧ o.startMark = s.link.seconds ∧ o.tariffs = [⟨k, s.link.clock⟩] ∧ o.groups = ⟨0#32, 0#32, 0#32, 0#32⟩ ∧
      o.ungrouped = 0#32 ∧ o.stepSum = 0#32 ∧ o.stepCount = 0#16 ∧
      o.flags = ⟨s.emerg.state != .clear, false, false, false, false, false⟩ ∧ t.trips.silence = some 15 ∧
      o.job = s.offers.awarded.map (fun n => (s.offers.entry n).job) ∧
      o.forced = (s.offers.awarded.any (fun n => (s.offers.entry n).forced)) ∧
      (∀ n, s.offers.awarded = some n → t.offers.stateOf n = .empty ∧ t.path.queued (.offerRewrite n) = true ∧
        .offerChange ∈ (t.offers.entry n).causes) ∧
      (∀ n, s.offers.awarded ≠ some n → t.offers.entry n = s.offers.entry n) ∧
      t.sched.statusPlace = some t.statusReport ∧ t.lampLaw ∧
      (s.trips.trip = none → s.status.shiftOpen = true →
        o.ref = ⟨s.status.shiftNumber, s.trips.counter⟩ ∧ t.status = { s.status with status := .hired } ∧
        t.trips = { s.trips with trip := some o, counter := nextSkippingZero s.trips.counter, silence := some 15 }) ∧
      (s.trips.trip = none → s.status.shiftOpen = false →
        o.ref = ⟨number, 1#16⟩ ∧
        t.status = { s.status with
          status := .hired, shiftOpen := true, shiftNumber := number, driverId := 0#16, meterOpened := true } ∧
        t.trips.counter = 2#16 ∧
        t.trips.totals = { Totals.zero with shiftNumber := number, meterOpened := true, openTime := s.link.clock } ∧
        t.trips.totalsCopy = t.trips.totals.image 0#32) ∧
      (∀ old, s.trips.trip = some old →
        o.ref = ⟨s.status.shiftNumber, s.trips.counter⟩ ∧ t.status = { s.status with status := .hired } ∧ t.trips.lastRef = old.ref ∧
        t.trips.totals.tripsClosed = satAdd s.trips.totals.tripsClosed 1#16 ∧
        ∃ r ∈ t.trips.reports, r.record.ref = old.ref ∧ r.sends = 0 ∧ r.record.flags.interrupted = true ∧
          r.record.fare = old.stepSum ∧ r.record.closeTime = s.link.clock) ∧
      (s.power.power = .active →
        t.power = s.power ∧ t.link = s.link ∧ t.msgs = s.msgs ∧ s.linesStay { t with pins := { t.pins with attn := s.pins.attn } } ∧
        (s.trips.trip = none → t.page = s.page ∧ t.radio = s.radio ∧ s.linesStay t)) ∧
      (s.power.power ≠ .active →
        t.power = { s.power with power := .active, park := false, reason := { s.power.reason with meter := true } } ∧
        t.pins.wake = true ∧ t.page.causes &&& 0x100#13 = 0x100#13)

/-- A trip closes with STOP, or with a taken CLOSE_TRIP while its meter-fault flag is set: the record keeps the fare (STOP's, else the step
sum), the mismatch flag and the extras follow from it, the totals take it, its report joins the list, it goes to the trip log or waits for
it, and the status becomes ASSIGNED or FREE. A STOP with no trip open changes nothing (R5, R93, R102, R103, R105 to R107, R110, R115). -/
def Obligations.TripClosesWithItsRecord : Prop :=
  (∀ (s : State) (fare : DWord), s.ready = true → s.trips.trip = none → exec (.stop fare) s = .next s) ∧
  ∀ (s : State) (o : OpenTrip), s.trips.trip = some o →
    let closes := fun (t : State) (fare : DWord) (forced : Bool) =>
      let r : TripRecord :=
        { ref := o.ref, driverId := s.status.driverId, meterOpened := s.status.meterOpened, job := o.job, forced := o.forced,
          startTime := o.startTime, closeTime := s.link.clock, duration := BitVec.ofNat 32 (s.link.seconds - o.startMark),
          tariffs := o.tariffs, groups := o.groups, ungrouped := o.ungrouped, stepSum := o.stepSum, stepCount := o.stepCount,
          fare := fare, extras := satSub fare o.stepSum,
          flags := { o.flags with interrupted := false, forcedClose := forced, mismatch := decide (fare ≠ o.stepSum) },
          faultCode := if o.flags.meterFault then s.trips.lastFault else 0#8 }
      let a := s.trips.totals
      t.trips.trip = none ∧ t.trips.silence = none ∧ t.trips.lastRef = o.ref ∧ t.trips.counter = s.trips.counter ∧
        t.trips.lastFault = s.trips.lastFault ∧ t.trips.shiftReport = s.trips.shiftReport ∧ t.trips.captured = s.trips.captured ∧
        t.trips.reports.getLast? = some ⟨r, 0, 0, false⟩ ∧
        (t.trips.deposit.map (·.record) = some r ∨ r ∈ t.trips.pendingLog) ∧
        t.trips.totals = { a with
          tripsClosed := satAdd a.tripsClosed 1#16,
          tripsWithJob := (if o.job.isSome then satAdd a.tripsWithJob 1#16 else a.tripsWithJob),
          tripsWithEmergency := (if o.flags.emergency then satAdd a.tripsWithEmergency 1#16 else a.tripsWithEmergency),
          mismatches := (if fare ≠ o.stepSum then satAdd a.mismatches 1#16 else a.mismatches),
          meterFaults := (if o.flags.meterFault then satAdd a.meterFaults 1#16 else a.meterFaults),
          fareTotal := satAdd a.fareTotal fare,
          groupTotals := ⟨satAdd a.groupTotals.g0 o.groups.g0, satAdd a.groupTotals.g1 o.groups.g1,
            satAdd a.groupTotals.g2 o.groups.g2, satAdd a.groupTotals.g3 o.groups.g3⟩,
          ungroupedTotal := satAdd a.ungroupedTotal o.ungrouped, extrasTotal := satAdd a.extrasTotal r.extras,
          hiredSeconds := satAdd a.hiredSeconds r.duration, reportsInList := t.trips.totals.reportsInList,
          reportsAbandoned := t.trips.totals.reportsAbandoned, tripsNotLogged := t.trips.totals.tripsNotLogged } ∧
        (s.trips.reports.length < 8 → (∀ e ∈ s.trips.reports, e.record.ref ≠ o.ref) →
          t.trips.reports = s.trips.reports ++ [⟨r, 0, 0, false⟩] ∧ t.trips.totals.reportsAbandoned = a.reportsAbandoned ∧
          (s.status.shiftOpen = true → o.ref.shift = s.status.shiftNumber →
            t.trips.totals.reportsInList = satAdd a.reportsInList 1#16)) ∧
        t.status.status =
          (if s.status.status = .hired then (if s.offers.awarded.isSome then .assigned else .free) else s.status.status) ∧
        t.status.shiftNumber = s.status.shiftNumber ∧ t.status.driverId = s.status.driverId ∧
        t.pending = s.pending ∧ t.mem = s.mem ∧ t.offers = s.offers ∧ t.msgs = s.msgs ∧ t.link = s.link ∧ t.emerg = s.emerg ∧
        t.power = s.power
    (∀ fare : DWord, s.ready = true → ∃ t, exec (.stop fare) s = .next t ∧ closes t fare false) ∧
    ∀ l : Lanes, s.writesFree = true → laneAny l = true → laneCombine l s.page.shiftCopy 2#16 = 2#16 → s.status.shiftOpen = true →
      o.flags.meterFault = true →
      ∃ t, exec (.closeTrip l) s = .next t ∧ closes t o.stepSum true ∧ t.status.shiftResult = ⟨2#16, .taken⟩

/-- The retransmit time of a sent report offers it again at send counts 1 to 4 and abandons it at 5; an ACK ends a listed report, and one for an
abandoned report moves it to acknowledged. REPORT_DONE is raised wherever a report ends (R111 to R113, R118). -/
def Obligations.ReportsAreRepeatedAndEnded : Prop :=
  ∀ s : State,
    let rest := fun (t : State) => t.pending = s.pending ∧ t.mem = s.mem ∧ t.path = s.path ∧ t.offers = s.offers ∧ t.msgs = s.msgs ∧
      t.link = s.link ∧ t.emerg = s.emerg ∧ t.power = s.power ∧ t.status = s.status ∧ s.lampsStay t ∧ t.trips.trip = s.trips.trip
    let counts := fun (t : State) (r : TripRef) (f : Totals → Totals) =>
      t.trips.totals = if s.status.shiftOpen = true ∧ r.shift = s.status.shiftNumber then f s.trips.totals else s.trips.totals
    let without := fun (r : TripRef) => s.trips.reports.filter (fun e => decide (e.record.ref ≠ r))
    (s.ready = true → ∀ (e : FareReport), s.trips.reports.find? (fun x => x.record.ref == e.record.ref) = some e →
      1 ≤ e.sends → e.come = false → e.retransmit ≤ s.link.seconds →
      ∃ t, exec (.fareReportRetransmitTime e.record.ref) s = .next t ∧ rest t ∧
        (e.sends ≤ 4 → t.page = s.page ∧ t.trips = { s.trips with
          reports := s.trips.reports.map (fun x => if x.record.ref = e.record.ref then { x with come := true } else x) }) ∧
        (5 ≤ e.sends → s.raises t 0x20#13 ∧ t.trips.reports = without e.record.ref ∧ e.record.ref ∈ t.trips.abandoned ∧
          counts t e.record.ref (fun a => { a with
            reportsInList := satSub a.reportsInList 1#16, reportsAbandoned := satAdd a.reportsAbandoned 1#16 }))) ∧
    (s.ready = true → ∀ (e : ShiftReport), s.trips.shiftReport = some e → 1 ≤ e.sends → e.come = false →
      e.retransmit ≤ s.link.seconds →
      ∃ t, exec .shiftReportRetransmitTime s = .next t ∧ rest t ∧
        (e.sends ≤ 4 → t.page = s.page ∧ t.trips = { s.trips with shiftReport := some { e with come := true } }) ∧
        (5 ≤ e.sends → s.raises t 0x20#13 ∧ t.trips = { s.trips with shiftReport := none })) ∧
    (∀ (h : DownHeader) (r : TripRef), s.hears h (.ackOfFare r) = true →
      ∃ t, exec (.ackOfFare h r) s = .next t ∧ rest t ∧
        ((∃ e ∈ s.trips.reports, e.record.ref = r) →
          s.raises t 0x20#13 ∧ t.trips.reports = without r ∧ t.trips.abandoned = s.trips.abandoned ∧
          counts t r (fun a => { a with
            reportsInList := satSub a.reportsInList 1#16, reportsAcknowledged := satAdd a.reportsAcknowledged 1#16 })) ∧
        ((∀ e ∈ s.trips.reports, e.record.ref ≠ r) → r ∈ s.trips.abandoned →
          s.raises t 0x20#13 ∧ t.trips.reports = s.trips.reports ∧ t.trips.abandoned = s.trips.abandoned.erase r ∧
          counts t r (fun a => { a with
            reportsAbandoned := satSub a.reportsAbandoned 1#16, reportsAcknowledged := satAdd a.reportsAcknowledged 1#16 })) ∧
        ((∀ e ∈ s.trips.reports, e.record.ref ≠ r) → r ∉ s.trips.abandoned → t = s)) ∧
    ∀ (h : DownHeader) (n : Word), s.hears h (.ackOfShift n) = true →
      ∃ t, exec (.ackOfShift h n) s = .next t ∧ rest t ∧
        (s.trips.shiftReport.any (fun e => e.content.totals.shiftNumber == n) = true →
          s.raises t 0x20#13 ∧ t.trips = { s.trips with shiftReport := none }) ∧
        (s.trips.shiftReport.any (fun e => e.content.totals.shiftNumber == n) = false → t = s)

/-! ## Inputs and timers -/

/-- The emergency switch: a closing enters PRESSED from CLEAR with a hold time of 2 seconds and marks the open trip, an opening goes back from
PRESSED to CLEAR, and a hold timer that runs out enters ALERTING with source SWITCH, where a BIDDING entry becomes NO_AWARD and is declined. A
closing is a wake event outside ACTIVE. The repeat timer that runs out in ACKED fills the ALERT place again (R84, R86, R101, R149, R150, R152,
R156, R162, R175). That a closing of a closed switch and an opening of an open one change nothing is log entry 1. What the parking count holds
once PARKING has ended is log entry 50. -/
def Obligations.SwitchAndEmergencyTimersAct : Prop :=
  ∀ s : State,
    let marked := s.trips.trip.map (fun o => { o with flags := { o.flags with emergency := true } })
    (s.pins.emswClosed = true → exec .emswClosing s = .next s) ∧
    (s.pins.emswClosed = false → exec .emswOpening s = .next s) ∧
    (s.pins.emswClosed = false → s.ready = true →
      ∃ t, exec .emswClosing s = .next t ∧ t.pending = s.pending ∧ t.mem = s.mem ∧ t.path = s.path ∧ t.offers = s.offers ∧
        t.status = s.status ∧ t.pins.emswClosed = true ∧ t.pins.ign = s.pins.ign ∧
        t.emerg = (if s.emerg.state = .clear then { s.emerg with state := .pressed, hold := some 2 } else s.emerg) ∧
        t.trips = (if s.emerg.state = .clear then { s.trips with trip := marked } else s.trips) ∧
        (s.power.power = .active → t.pins = { s.pins with emswClosed := true } ∧ t.page = s.page ∧ t.link = s.link ∧
          t.radio = s.radio ∧ t.sched = s.sched ∧ t.msgs = s.msgs ∧ t.power = s.power) ∧
        (s.power.power ≠ .active →
          t.power = { s.power with
            power := .active, park := false, reason := { s.power.reason with switch := true } } ∧
          t.pins.wake = true ∧ t.page.causes &&& 0x100#13 = 0x100#13)) ∧
    (s.pins.emswClosed = true → s.ready = true →
      exec .emswOpening s = .next { s with
        pins := { s.pins with emswClosed := false },
        emerg := if s.emerg.state = .pressed then { s.emerg with state := .clear, hold := none } else s.emerg }) ∧
    (s.ready = true → s.emerg.state = .pressed → s.emerg.hold = some 0 → s.offerLaw →
      ∃ t, exec .holdTimerExpiry s = .next t ∧ t.pending = s.pending ∧ t.mem = s.mem ∧ t.link = s.link ∧ t.msgs = s.msgs ∧
        t.power = s.power ∧ t.trips = s.trips ∧ t.page = s.page ∧ s.linesStay t ∧
        t.emerg = { s.emerg with
          state := .alerting, number := nextSkippingZero s.emerg.number, source := .switch, raisedAt := s.link.clock,
          ackedAt := 0#32, cancelledAt := 0#32, sends := 0#16, hold := none, causeWaits := true,
          owed := s.emerg.owed || (!s.path.queued .emergencyRewrite && s.path.underWay .emergencyRewrite) } ∧
        t.sched.alertPlace = some ⟨nextSkippingZero s.emerg.number, .switch⟩ ∧ t.sched.alertAttempts = 0 ∧
        t.sched.statusPlace = some t.statusReport ∧ t.lampLaw ∧ t.status = { s.status with alarmOn := true } ∧
        (∀ n, t.offers.stateOf n ≠ .bidding) ∧
        (∀ n, s.offers.stateOf n = .bidding → t.path.queued (.offerRewrite n) = true ∧ .offerChange ∈ (t.offers.entry n).causes ∧
          t.offers.entry n = { s.offers.entry n with
            state := .noAward, timer := none, seq := (s.offers.entry n).seq + 1#8, causes := (t.offers.entry n).causes } ∧
          ⟨(s.offers.entry n).job, .decline, 0⟩ ∈ t.sched.bids) ∧
        (∀ n, s.offers.stateOf n ≠ .bidding → t.offers.entry n = s.offers.entry n) ∧
        (s.path.busyWith .emergencyRewrite = false → ⟨.emergencyRewrite, 0⟩ ∈ t.path.queue)) ∧
    (s.ready = true → s.emerg.state = .acked → s.emerg.repeatLeft = some 0 →
      exec .repeatTimerExpiry s = .next { s with
        emerg := { s.emerg with repeatLeft := none },
        sched := { s.sched with alertPlace := some ⟨s.emerg.number, s.emerg.source⟩ } })

/-- The ignition input sets the ignition level, and is a wake event outside ACTIVE when it is switched on. A second advances the cab clock, the
second timer and every timer stated in seconds; the flash and alarm timers change their phase, and the lamps follow (R12, R13, R20, R175, R179).
That a level already held changes nothing is log entry 1, and the countdown of the timers by whole seconds is log entry 7. What the parking count
holds once PARKING has ended is log entry 50. -/
def Obligations.IgnitionAndSecondsAct : Prop :=
  ∀ s : State,
    (s.pins.ign = true → exec .ignitionOn s = .next s) ∧ (s.pins.ign = false → exec .ignitionOff s = .next s) ∧
    (s.pins.ign = true → s.ready = true →
      exec .ignitionOff s = .next { s with
        pins := { s.pins with ign := false }, power := { s.power with ignition := false } }) ∧
    (s.pins.ign = false → s.ready = true →
      ∃ t, exec .ignitionOn s = .next t ∧ t.pending = s.pending ∧ t.mem = s.mem ∧ t.path = s.path ∧ t.offers = s.offers ∧
        t.trips = s.trips ∧ t.emerg = s.emerg ∧ t.status = s.status ∧ t.pins.ign = true ∧ t.pins.emswClosed = s.pins.emswClosed ∧
        (s.power.power = .active →
          t = { s with pins := { s.pins with ign := true }, power := { s.power with ignition := true } }) ∧
        (s.power.power ≠ .active →
          t.power = { s.power with
            power := .active, park := false, ignition := true, reason := { s.power.reason with ignition := true } } ∧
          t.pins.wake = true ∧ t.page.causes &&& 0x100#13 = 0x100#13)) ∧
    (s.running = true →
      ∃ t, exec .cabClockSecond s = .next t ∧
        t = { s with link := t.link, trips := t.trips, emerg := t.emerg, offers := t.offers, msgs := t.msgs } ∧
        t.link = { s.link with clock := s.link.clock + 1#32, seconds := s.link.seconds + 1 } ∧
        t.trips = { s.trips with silence := s.trips.silence.map (· - 1) } ∧
        t.emerg = { s.emerg with hold := s.emerg.hold.map (· - 1) } ∧ t.offers.order = s.offers.order ∧
        (∀ n, t.offers.entry n = { s.offers.entry n with timer := (s.offers.entry n).timer.map (· - 1) }) ∧
        t.msgs = { s.msgs with flight := t.msgs.flight, buffer0 := t.msgs.buffer0, buffer1 := t.msgs.buffer1 } ∧
        (∀ m, s.msgs.flight = .flight m → t.msgs.flight = .flight { m with ackWait := m.ackWait.map (· - 1) }) ∧
        (∀ b a, s.msgs.buffer b = .assembling a → t.msgs.buffer b = .assembling { a with timer := a.timer.map (· - 1) })) ∧
    (s.running = true →
      ∃ t, exec .flashTimerPhase s = .next t ∧ t.lampLaw ∧
        t = { s with status := { s.status with flashOn := !s.status.flashOn }, pins := t.pins } ∧ s.linesStay t) ∧
    (s.ready = true → s.emerg.state = .alerting ∨ s.emerg.state = .acked →
      ∃ t, exec .alarmFlashToggle s = .next t ∧ t.lampLaw ∧
        t = { s with status := { s.status with alarmOn := !s.status.alarmOn }, pins := t.pins } ∧ s.linesStay t)

/-- A lifetime that runs out makes a LIVE entry LAPSED, an award wait that runs out makes a BIDDING one NO_AWARD, each by an update with
OFFER_CHANGE to follow. An acknowledgment wait that runs out offers the whole message again, or at the third send completes it with FAILED.
An inter-fragment timer that runs out truncates its message, which is deposited or dropped, or waits for the deposit under way (R70, R73,
R83, R134, R139 to R142). -/
def Obligations.OfferAndMessageTimersAct : Prop :=
  ∀ s : State, s.ready = true →
    let offersOnly := fun (t : State) => t = { s with offers := t.offers, path := t.path } ∧ t.path.buffer = s.path.buffer ∧
      t.path.under = s.path.under ∧ t.offers.order = s.offers.order
    let updated := fun (t : State) (n : Fin 16) (st : OfferState) => offersOnly t ∧
      t.offers.entry n = { s.offers.entry n with
        state := st, timer := none, seq := (s.offers.entry n).seq + 1#8, causes := (t.offers.entry n).causes } ∧
      .offerChange ∈ (t.offers.entry n).causes ∧ t.path.queued (.offerRewrite n) = true ∧
      ∀ k, k ≠ n → t.offers.entry k = s.offers.entry k
    let messagesOnly := fun (t : State) => t = { s with
      msgs := t.msgs, path := t.path, sched := t.sched, radio := t.radio, page := t.page } ∧ t.path.buffer = s.path.buffer ∧
      t.path.under = s.path.under
    (∀ n : Fin 16, s.offers.stateOf n = .live → (s.offers.entry n).timer = some 0 →
      ∃ t, exec (.lifetimeExpiry n) s = .next t ∧ updated t n .lapsed) ∧
    (∀ n : Fin 16, s.offers.stateOf n = .bidding → (s.offers.entry n).timer = some 0 →
      ∃ t, exec (.awardWaitExpiry n) s = .next t ∧ updated t n .noAward) ∧
    (∀ m : OutMessage, s.msgs.flight = .flight m → m.ackWait = some 0 →
      ∃ t, exec .acknowledgmentWaitExpiry s = .next t ∧ messagesOnly t ∧ t.page = s.page ∧
        (m.sends < 3 → t.path = s.path ∧
          t.msgs = { s.msgs with flight := .flight { m with sends := m.sends + 1, ackWait := none, next := 0 } }) ∧
        (3 ≤ m.sends → t.msgs = { s.msgs with flight := .completing ⟨.failed, m.tag, m.at_, true, m.after⟩ } ∧
          t.path = { s.path with queue := s.path.queue ++ [⟨.outboundCompletion, 0⟩] })) ∧
    ∀ (b : BufferId) (a : Assembly), s.msgs.buffer b = .assembling a → a.timer = some 0 →
      (s.msgs.deposit = none → ∀ k, k ≠ b → (s.msgs.buffer k).message? = none) →
      let m : InMessage := ⟨a.tag, a.urgent, a.ackRequired, true, a.parts, s.link.clock, s.msgs.stamp⟩
      ∃ t, exec (.interFragmentTimerExpiry b) s = .next t ∧ messagesOnly t ∧ t.sched = s.sched ∧ t.radio = s.radio ∧
        (s.msgs.deposit.isSome = true → t.msgs.buffer b = .closed m ∧ t.msgs.deposit = s.msgs.deposit ∧ t.page = s.page ∧
          t.path = s.path) ∧
        (s.msgs.deposit = none → t.msgs.buffer b = .empty ∧
          (a.tag ∈ s.msgs.delivered → t.msgs.deposit = none ∧ t.page = s.page ∧ t.path = s.path) ∧
          (a.tag ∉ s.msgs.delivered →
            (∀ plan, s.msgs.inbound.plan m.bytes = some plan →
              t.msgs.deposit = some ⟨m, plan⟩ ∧ t.page = s.page ∧
              t.path = { s.path with queue := s.path.queue ++ [⟨.inboundDeposit, 0⟩] }) ∧
            (s.msgs.inbound.plan m.bytes = none → t.msgs.deposit = none ∧ t.path = s.path ∧
              t.page = { s.page with
                counters := { s.page.counters with messagesDropped := satAdd s.page.counters.messagesDropped 1#16 } })))

/-! ## Cycles, hunt and slots -/

/-- A cycle start counts every wait stated in cycles, advances the cycle number and opens the beacon window. A window that is still open closes
first, as BEACON_WINDOW_CLOSE closes it (log entry 16), and a grant whose last slot has passed ends first. A window that closes after a good
beacon counts nothing, nor does one in OFF or QUIET. One that closes on a miss is counted in JOIN and JOINED, breaks the run in HUNT, and fails
the transmission that was outstanding, which CONTENTION_FAILS counts, at the fifth miss too. In JOIN the fourth failed attempt and the fifth miss
in a row remove the candidate, and the best one left is joined; in JOINED
the fifth miss in a row is a beacon loss. The grant wait, the rest, an unused grant and the parking count run out (R18, R22, R24, R26 to
R30, R32, R56, R57, R59, R60, R62, R64, R171, R172). That a closed window changes nothing is log entry 1; that a grant wait which ends at a
request count of 3 with no sendable frame gives NONE is log entry 43. What the parking count holds once PARKING has ended is log entry 50. -/
def Obligations.CycleStartsAndCycleWaitsAct : Prop :=
  ∀ s : State, s.ready = true →
    let asks := fun (t : State) => t.link = s.link ∧ t.path = s.path ∧ t.page = s.page ∧ t.pins = s.pins ∧ t.mem = s.mem ∧
      (s.link.state = .joined → 0 < s.sendable → t.sched.slotRequest = some ⟨0, false⟩ ∧ t.sched.long = .request) ∧
      (s.link.state ≠ .joined ∨ s.sendable = 0 → t.sched.slotRequest = s.sched.slotRequest ∧ t.sched.long = .none)
    let best := fun (c : Candidate) (l : List Candidate) => ∃ before after, l = before ++ c :: after ∧
      (∀ d ∈ before, abilityRank c.abilities < abilityRank d.abilities) ∧ ∀ d ∈ after, abilityRank c.abilities ≤ abilityRank d.abilities
    let joins := fun (t : State) (c : Candidate) => t.link.state = .join ∧ t.link.joining = some c ∧ t.link.attempts = 0 ∧
      t.link.loss = 0 ∧ t.link.grantWait = none ∧ t.sched.joinPlace = true ∧ t.sched.joinAttempts = 0 ∧ t.sched.contention = .idle
    let quiet := fun (t : State) => t.link.state = .quiet ∧ t.link.candidates = [] ∧ t.link.quiet = 0 ∧ t.link.joining = none ∧
      t.link.grantWait = none ∧ t.sched.joinPlace = false ∧ t.sched.contention = .idle
    let fails := fun (t : State) => t.page.counters.contentionFails = satAdd s.page.counters.contentionFails 1#16
    let ended := fun (g : Grant) => g.seen = true ∧ g.start + 3 * g.count ≤ s.link.nextSlot
    (∃ t, exec .cycleStart s = .next t ∧ t.link.cycle = s.link.cycle + 1#16 ∧ t.link.nextSlot = 0 ∧ t.link.window = true ∧
      t.link.beaconIn = false ∧ t.link.clock = s.link.clock ∧ t.mem = s.mem ∧ t.pending = s.pending ∧
      (s.link.window = false ∨ s.link.beaconIn = true → (∀ g, s.sched.grant = some g → ¬ended g) →
        t = { s with link := t.link, sched := t.sched, emerg := t.emerg, power := t.power } ∧
        t.link = { s.link with
          quiet := (if s.link.state = .quiet then s.link.quiet + 1 else s.link.quiet), grantWait := s.link.grantWait.map (· - 1),
          cycle := s.link.cycle + 1#16, nextSlot := 0, window := true, beaconIn := false } ∧
        t.sched = { s.sched with
          long := t.sched.long, grant := s.sched.grant.map (fun g => { g with since := g.since + 1 }) } ∧
        (∀ n, s.sched.long = .wait n → t.sched.long = .wait (n - 1)) ∧ (∀ n, s.sched.long = .rest n → t.sched.long = .rest (n - 1)) ∧
        (s.sched.long = .none ∨ s.sched.long = .request ∨ s.sched.long = .held → t.sched.long = s.sched.long) ∧
        t.emerg = { s.emerg with repeatLeft := s.emerg.repeatLeft.map (· - 1) } ∧
        t.power = { s.power with parking := if s.power.power = .parking then s.power.parking - 1 else s.power.parking })) ∧
    (s.link.window = true → ∃ u, exec .beaconWindowClose s = .next u ∧ u.link.window = false ∧ exec .cycleStart s = exec .cycleStart u) ∧
    (∀ g, s.link.window = false → s.sched.grant = some g → ended g → ∃ u : State, u = { s with sched := u.sched } ∧
      u.sched = { s.sched with grant := none, long := u.sched.long, slotRequest := u.sched.slotRequest } ∧
      (s.link.state = .joined → 0 < s.sendable → u.sched.long = .request ∧ u.sched.slotRequest = some ⟨0, false⟩) ∧
      (s.link.state ≠ .joined ∨ s.sendable = 0 → u.sched.long = .none ∧ u.sched.slotRequest = s.sched.slotRequest) ∧
      exec .cycleStart s = exec .cycleStart u) ∧
    (s.link.window = false → exec .beaconWindowClose s = .next s) ∧
    (s.link.window = true → s.link.beaconIn = true ∨ s.link.state = .quiet ∨ s.link.state = .off →
      exec .beaconWindowClose s = .next { s with link := { s.link with window := false } }) ∧
    (s.link.window = true → s.link.beaconIn = false → s.link.state = .hunt →
      exec .beaconWindowClose s = .next { s with
        link := { s.link with window := false, hunt := s.link.hunt.map (fun h => { h with run := none }) } }) ∧
    (∀ c, s.link.window = true → s.link.beaconIn = false → s.link.state = .join → s.link.joining = some c →
      ∃ t, exec .beaconWindowClose s = .next t ∧ t = { s with link := t.link, radio := t.radio, sched := t.sched, page := t.page } ∧
        t.page = { s.page with counters := { s.page.counters with
          beaconsMissed := satAdd s.page.counters.beaconsMissed 1#16, contentionFails := t.page.counters.contentionFails } } ∧
        (∀ d, s.sched.contention = .outstanding d → fails t) ∧
        ((∀ d, s.sched.contention ≠ .outstanding d) → t.page.counters.contentionFails = s.page.counters.contentionFails) ∧
        (4 ≤ s.link.loss ∨ (s.sched.contention = .outstanding (some .join) ∧ 4 ≤ s.link.attempts) →
          (s.link.candidates.erase c = [] → quiet t) ∧
          (s.link.candidates.erase c ≠ [] → ∃ d, best d (s.link.candidates.erase c) ∧ joins t d)) ∧
        (s.link.loss < 4 →
          ((∀ d, s.sched.contention ≠ .outstanding d) → t.sched = s.sched ∧ t.radio = s.radio ∧
            t.link = { s.link with window := false, loss := s.link.loss + 1 }) ∧
          (s.sched.contention = .outstanding none → t.sched = { s.sched with contention := .idle } ∧ t.radio = s.radio ∧
            t.link = { s.link with window := false, loss := s.link.loss + 1 }) ∧
          (s.sched.contention = .outstanding (some .join) → s.link.attempts < 4 → t.radio = s.radio ∧
            t.sched = { s.sched with contention := .idle, joinAttempts := min 4 (s.sched.joinAttempts + 1) } ∧
            t.link = { s.link with window := false, loss := s.link.loss + 1, grantWait := none }))) ∧
    (s.link.window = true → s.link.beaconIn = false → s.link.state = .joined → s.sched.contention ≠ .outstanding (some .join) →
      ∃ t, exec .beaconWindowClose s = .next t ∧ t.pending = s.pending ∧ t.mem = s.mem ∧ t.path = s.path ∧
        t.page.counters.beaconsMissed = satAdd s.page.counters.beaconsMissed 1#16 ∧
        (s.link.loss < 4 → t.link = { s.link with window := false, loss := s.link.loss + 1 } ∧ t.radio = s.radio ∧ t.msgs = s.msgs ∧
          t.pins = s.pins ∧ t.page.causes = s.page.causes ∧
          ((∀ c, s.sched.contention ≠ .outstanding c) → t.sched = s.sched ∧
            t.page.counters.contentionFails = s.page.counters.contentionFails) ∧
          (∀ c, s.sched.contention = .outstanding c → fails t ∧
            (c = none → t.sched = { s.sched with contention := .idle }) ∧
            (c = some .alert → t.sched = { s.sched with
              contention := .idle, alertAttempts := min 4 (s.sched.alertAttempts + 1) }) ∧
            (∀ job, c = some (.bid job) → t.sched = { s.sched with
              contention := .idle,
              bids := s.sched.bids.filterMap (fun x =>
                if x.job = job then (if 7 ≤ x.attempts then none else some { x with attempts := x.attempts + 1 }) else some x) }) ∧
            (c = some .slotRequest → t.sched = { s.sched with
              contention := .idle,
              slotRequest := s.sched.slotRequest.map (fun r => ⟨r.attempts + 1, r.fellBack || decide (8 ≤ r.attempts + 1)⟩) }))) ∧
        (4 ≤ s.link.loss → t.link = { s.link with
            window := false, state := .quiet, candidates := [], joining := none, site := none, loss := 0, attempts := 0,
            grantWait := none, quiet := 0, hunt := none } ∧
          (∀ c, s.sched.contention = .outstanding c → fails t) ∧
          ((∀ c, s.sched.contention ≠ .outstanding c) → t.page.counters.contentionFails = s.page.counters.contentionFails) ∧
          t.page.causes = s.page.causes ||| 0x80#13 ∧ t.page.linkUp = false ∧ t.sched.grant = none ∧ t.sched.long = .none ∧
          t.sched.requests = 0 ∧ t.sched.contention = .idle ∧ t.sched.slotRequest = none ∧ t.sched.alertAttempts = 0 ∧
          (∀ b ∈ t.sched.bids, b.attempts = 0) ∧ t.sched.acks = s.sched.acks ∧ t.sched.alertPlace = s.sched.alertPlace)) ∧
    (s.sched.long = .wait 0 →
      exec .grantWaitExpiry s = .next { s with
        sched :=
          if s.sendable = 0 then { s.sched with long := .none, requests := 0 }
          else if s.sched.requests < 3 then { s.sched with slotRequest := some ⟨0, false⟩, long := .request }
          else { s.sched with long := .rest 10, requests := 0 } }) ∧
    (s.sched.long = .rest 0 → ∃ t, exec .restExpiry s = .next t ∧ asks t ∧ t.sched.grant = s.sched.grant) ∧
    (∀ g, s.sched.grant = some g → 4 ≤ g.since → g.cycle ≠ s.link.cycle →
      ∃ t, exec .grantExpiry s = .next t ∧ asks t ∧ t.sched.grant = none) ∧
    (s.power.power = .parking → s.power.parking = 0 →
      ∃ t, exec .parkingCountExpiry s = .next t ∧ t.pending = s.pending ∧ t.mem = s.mem ∧ t.path = s.path ∧ t.link = s.link ∧
        t.offers = s.offers ∧ t.trips = s.trips ∧ t.emerg = s.emerg ∧ t.status = s.status ∧ s.raises t 0x100#13 ∧ t.lampLaw ∧
        t.sched.statusPlace = some t.statusReport ∧
        (s.emerg.state = .clear → t.power = { s.power with power := .standby, parking := 0 } ∧
          t.sched.contention = (match s.sched.contention with | .outstanding c => .outstanding c | _ => .idle)) ∧
        (s.emerg.state ≠ .clear → t.power = { s.power with power := .active, park := false }))

/-- The hunt begins at the end of the QUIET wait on the first channel, with the others to follow in the order of the channel list, each once, and
each listen goes on to the next channel, unless in a quick hunt the channel qualifies by the beacons of its run, the last channel too. A pass that ends joins the best candidate, the earliest of those of highest
rank, or goes back to QUIET. A grant wait that runs out sends the JOIN again, or gives the candidate up after four attempts (R22, R23, R25 to
R28). When the emergency state is looked up is log entry 38. -/
def Obligations.HuntAndJoinProceed : Prop :=
  ∀ s : State, s.ready = true →
    let tunes := fun (t : State) (c : Word) => t.radio.output = s.radio.output ++ [.order (.tune c)] ∧
      (s.radio.sending = none → t.radio.channel = c)
    let listens := fun (t : State) (c : Word) (rest : List Word) => tunes t c ∧ t.link.state = .hunt ∧
      t.link.hunt = some ⟨c, rest, none⟩ ∧ t.sched = s.sched ∧ t.page = s.page
    let joins := fun (t : State) (c : Candidate) => t.link.state = .join ∧ t.link.joining = some c ∧ t.link.attempts = 0 ∧
      t.link.loss = 0 ∧ t.link.grantWait = none ∧ t.sched.joinPlace = true ∧ t.sched.joinAttempts = 0 ∧ t.sched.contention = .idle ∧
      (s.radio.sending = none → s.radio.deferred = [] → t.radio.channel = c.channel)
    let quiet := fun (t : State) => t.link.state = .quiet ∧ t.link.candidates = [] ∧ t.link.quiet = 0 ∧ t.link.joining = none ∧
      t.link.hunt = none ∧ t.link.channels = s.link.channels
    let best := fun (c : Candidate) (l : List Candidate) => ∃ before after, l = before ++ c :: after ∧
      (∀ d ∈ before, abilityRank c.abilities < abilityRank d.abilities) ∧ ∀ d ∈ after, abilityRank c.abilities ≤ abilityRank d.abilities
    let only := fun (t : State) => t = { s with link := t.link, radio := t.radio, sched := t.sched }
    (s.link.state = .quiet → 2 ≤ s.link.quiet → ∀ c cs, s.link.channels = c :: cs →
      ∃ t rest, exec .quietWaitEnd s = .next t ∧ only t ∧ listens t c rest ∧ t.link.candidates = [] ∧ rest.Nodup ∧
        rest.Pairwise (fun d e => cs.idxOf d < cs.idxOf e) ∧ ∀ d, d ∈ rest ↔ d ∈ cs ∧ d ≠ c) ∧
    (s.link.state = .hunt → ∀ h, s.link.hunt = some h →
      ∃ t, exec .listenEnd s = .next t ∧ only t ∧ t.link.clock = s.link.clock ∧
        (∀ d ds, h.rest = d :: ds → s.emerg.state = .clear → listens t d ds ∧ t.link.candidates = s.link.candidates) ∧
        (∀ r, s.emerg.state ≠ .clear → s.link.candidates = [] → h.run = some r → joins t ⟨h.channel, r.site, r.abilities⟩ ∧
          t.link.candidates = [⟨h.channel, r.site, r.abilities⟩]) ∧
        (∀ d ds, h.rest = d :: ds → s.emerg.state ≠ .clear → s.link.candidates = [] → h.run = none → listens t d ds) ∧
        ((h.rest = [] ∧ (s.emerg.state = .clear ∨ s.link.candidates ≠ [] ∨ h.run = none)) ∨
            (s.emerg.state ≠ .clear ∧ s.link.candidates ≠ []) →
          (s.link.candidates = [] → quiet t) ∧
          (s.link.candidates ≠ [] → ∃ c, best c s.link.candidates ∧ joins t c))) ∧
    (s.link.state = .join → s.link.grantWait = some 0 →
      (s.link.attempts < 4 →
        exec .joinGrantWaitExpiry s = .next { s with
          link := { s.link with grantWait := none }, sched := { s.sched with joinPlace := true, joinAttempts := 0 } }) ∧
      (4 ≤ s.link.attempts → ∀ c, s.link.joining = some c →
        ∃ t, exec .joinGrantWaitExpiry s = .next t ∧ only t ∧
          (s.link.candidates.erase c = [] → quiet t ∧ t.sched.joinPlace = false) ∧
          (s.link.candidates.erase c ≠ [] → ∃ d, best d (s.link.candidates.erase c) ∧ joins t d)))

/-- A slot start gives the slot mark and the first use that applies: nothing while a frame is on the air; in a granted long slot the oldest
due fare report, the shift report or the next fragment; in the cab's reserved slot the first of ALERT, ACK, BID, FLOW, SLOT_REQUEST and
STATUS; in the drawn slot the contender, unless it is gone and the slot is given up. A long slot without a sendable frame goes to the next
use. At slot 0 the first of ALERT, JOIN, bid and slot request is the contender: kept as it was when it is the contender already, and else it
draws its wait. An open window closes first, and a grant whose slots have passed ends first. The uplink frames hold their fields (R16, R18,
R19, R27, R43, R44, R50, R51, R53 to R55, R57, R59, R62, R215, R219, R225). A busy slot is log entry 14, a contender's wait in its drawn slot is
log entry 15, the window at slot 0 is log entry 16, the slot mark before SEND is log entry 22, SHIFT's flag byte is log entry 24, the end of a
seen grant when another cycle begins before its last slot is log entry 30 and in STANDBY log entry 47, and a JOIN's attempt and grant wait that
begin with its slot are log entry 39. -/
def Obligations.SlotCarriesTheFirstUse : Prop :=
  (∀ s : State, s.ready = true → ∀ k : Nat, s.link.nextSlot = k → k < 24 →
    let ended := fun (g : Grant) => g.seen = true ∧ (g.cycle ≠ s.link.cycle ∨ g.start + 3 * g.count ≤ k)
    let transmits := s.power.power = .active ∨ s.power.power = .parking
    let may := s.link.state = .joined ∧ transmits
    let mayJoin := s.link.state = .join ∧ transmits
    let fareDue := fun (r : FareReport) => s.siteHasFare = true ∧ s.trips.reports.find? FareReport.due = some r
    let shiftDue := fun (r : ShiftReport) => s.siteHasFare = true ∧ s.trips.shiftReport = some r ∧ reportDue r.sends r.come = true
    let textDue := fun (m : OutMessage) => s.siteHasText = true ∧ s.msgs.flight = .flight m ∧ m.next < m.fragments
    let inLong := may ∧ ∃ g, s.sched.grant = some g ∧ g.cycle = s.link.cycle ∧ g.start ≤ k ∧ k < g.start + 3 * g.count ∧
      (k - g.start) % 3 = 0
    let longUse := inLong ∧ ((∃ r, fareDue r) ∨ (∃ r, shiftDue r) ∨ ∃ m, textDue m)
    let inReserved := may ∧ ∃ r, s.link.site = some r ∧ s.link.cycle.toNat % r.period.toNat = r.phase.toNat ∧ r.slot.toNat = k
    let waiting := s.sched.alertPlace ≠ none ∨ s.sched.acks ≠ [] ∨ s.sched.bids ≠ [] ∨ s.sched.flowPlace ≠ none ∨
      s.sched.slotRequest ≠ none ∨ s.sched.statusPlace ≠ none
    let first := fun (c : Contender) (attempts : Nat) =>
      (c = .alert ∧ may ∧ s.sched.alertPlace ≠ none ∧ attempts = s.sched.alertAttempts) ∨
      (c = .join ∧ mayJoin ∧ s.sched.joinPlace = true ∧ attempts = s.sched.joinAttempts) ∨
      (may ∧ s.sched.alertPlace = none ∧ ∃ b bs, s.sched.bids = b :: bs ∧ c = .bid b.job ∧ attempts = b.attempts) ∨
      (c = .slotRequest ∧ may ∧ s.sched.alertPlace = none ∧ s.sched.bids = [] ∧
        ∃ r, s.sched.slotRequest = some r ∧ r.fellBack = false ∧ attempts = r.attempts)
    let sends := fun (t : State) (name : FrameName) (via : Via) (bytes : List Byte) =>
      t.radio = { s.radio with
        sending := some ⟨name, via, true⟩,
        output := s.radio.output ++ [.slotMark k, .order (.send (BitVec.ofNat 8 k) bytes)] }
    let silent := fun (t : State) => t.radio = { s.radio with output := s.radio.output ++ [.slotMark k] }
    (s.link.window = true → ∃ u, exec .beaconWindowClose s = .next u ∧ u.link.window = false ∧ exec .slotStart s = exec .slotStart u) ∧
    (∀ g, s.link.window = false → s.sched.grant = some g → ended g → ∃ u : State, u = { s with sched := u.sched } ∧
      u.sched = { s.sched with grant := none, long := u.sched.long, slotRequest := u.sched.slotRequest } ∧
      (s.link.state = .joined → 0 < s.sendable → u.sched.long = .request ∧ u.sched.slotRequest = some ⟨0, false⟩) ∧
      (s.link.state ≠ .joined ∨ s.sendable = 0 → u.sched.long = .none ∧ u.sched.slotRequest = s.sched.slotRequest) ∧
      exec .slotStart s = exec .slotStart u) ∧
    (s.link.window = false → (∀ g, s.sched.grant = some g → ¬ended g) →
      ∃ (t : State) (held : Contention), exec .slotStart s = .next t ∧ t = { s with link := t.link, radio := t.radio, sched := t.sched } ∧
        t.sched = { s.sched with
          contention := t.sched.contention, draws := t.sched.draws,
          grant := s.sched.grant.map (fun g => { g with seen := g.seen || g.cycle == s.link.cycle }) } ∧
        (held ≠ .slotted .join k → t.link = { s.link with nextSlot := k + 1 }) ∧
        (k ≠ 0 ∨ ¬(may ∨ mayJoin) ∨ (∃ d, s.sched.contention = .outstanding d) →
          held = s.sched.contention ∧ t.sched.draws = s.sched.draws) ∧
        (k = 0 → may ∨ mayJoin → (∀ d, s.sched.contention ≠ .outstanding d) →
          ((∀ c n, ¬first c n) → held = .idle ∧ t.sched.draws = s.sched.draws) ∧
          ∀ c n, first c n →
            (∀ d, s.sched.contention = .slotted c d → held = .slotted c d ∧ t.sched.draws = s.sched.draws) ∧
            (∀ w, s.sched.contention = .waiting c w → held = .waiting c (w - 1) ∧ t.sched.draws = s.sched.draws) ∧
            ((∀ d, s.sched.contention ≠ .slotted c d) → (∀ w, s.sched.contention ≠ .waiting c w) →
              ∃ w, w < 2 ^ min n 4 ∧ held = .waiting c w ∧ t.sched.draws = s.sched.draws + 1)) ∧
        (s.radio.sending ≠ none → silent t) ∧
        (s.radio.sending ≠ none ∨ longUse ∨ (inReserved ∧ waiting) →
          t.sched.contention = held ∧ t.link = { s.link with nextSlot := k + 1 }) ∧
        (s.radio.sending = none → inLong →
          (∀ r, fareDue r → sends t (.fare r.record.ref) .long (s.fareFrame (r.sends + 1) r.record)) ∧
          ((∀ r, ¬fareDue r) →
            (∀ r, shiftDue r → sends t (.shift r.content.totals.shiftNumber) .long (s.shiftFrame (r.sends + 1) r.content)) ∧
            ((∀ r, ¬shiftDue r) → ∀ m, textDue m → sends t (.text m.tag m.next) .long (s.textFrame m m.next)))) ∧
        (s.radio.sending = none → ¬longUse → inReserved →
          (∀ a, s.sched.alertPlace = some a → sends t (.alert a.number) .reserved (s.alertFrame a)) ∧
          (s.sched.alertPlace = none → (∀ a as', s.sched.acks = a :: as' → sends t (.ack a) .reserved (s.ackFrame a)) ∧
            (s.sched.acks = [] → (∀ b bs, s.sched.bids = b :: bs → sends t (.bid b.job) .reserved (s.bidFrame b)) ∧
              (s.sched.bids = [] → (∀ c, s.sched.flowPlace = some c → sends t .flow .reserved (s.flowFrame c)) ∧
                (s.sched.flowPlace = none →
                  (s.sched.slotRequest ≠ none → sends t .slotRequest .reserved (s.slotRequestFrame (min 8 s.sendable))) ∧
                  (s.sched.slotRequest = none → ∀ r, s.sched.statusPlace = some r →
                    sends t (.status r.park) .reserved (s.statusFrame r))))))) ∧
        (s.radio.sending = none → ¬longUse → ¬(inReserved ∧ waiting) →
          ((∀ c, held ≠ .slotted c k) → silent t ∧ t.sched.contention = held) ∧
          (∀ c, held = .slotted c k →
            (c = .alert ∧ (¬may ∨ s.sched.alertPlace = none)) ∨ (c = .join ∧ (¬mayJoin ∨ s.sched.joinPlace = false)) ∨
              (∃ job, c = .bid job ∧ (¬may ∨ ∀ b ∈ s.sched.bids, b.job ≠ job)) ∨
              (c = .slotRequest ∧ (¬may ∨ s.sched.slotRequest = none)) →
            silent t ∧ t.sched.contention = .idle ∧ t.link = { s.link with nextSlot := k + 1 }) ∧
          (∀ a, held = .slotted .alert k → may → s.sched.alertPlace = some a →
            sends t (.alert a.number) .contention (s.alertFrame a) ∧ t.sched.contention = .outstanding (some .alert)) ∧
          (∀ b, may → s.sched.bids.find? (fun d => d.job == b.job) = some b → held = .slotted (.bid b.job) k →
            sends t (.bid b.job) .contention (s.bidFrame b) ∧ t.sched.contention = .outstanding (some (.bid b.job))) ∧
          (held = .slotted .slotRequest k → may → s.sched.slotRequest ≠ none →
            sends t .slotRequest .contention (s.slotRequestFrame (min 8 s.sendable)) ∧
            t.sched.contention = .outstanding (some .slotRequest)) ∧
          (held = .slotted .join k → mayJoin → s.sched.joinPlace = true →
            sends t .join .contention s.joinFrame ∧ t.sched.contention = .outstanding (some .join) ∧
            t.link = { s.link with nextSlot := k + 1, attempts := s.link.attempts + 1, grantWait := some 4 })))) ∧
  ∀ (s : State) (i : ConfigImage), s.power.image = some i →
    let header := fun (f : List Byte) (kind : Byte) (bodyLength : Nat) => f.length = bodyLength + 10 ∧ f.getD 0 0#8 = kind ∧
      f.getD 1 0#8 = i.fleet ∧ (∀ r, s.link.site = some r → airWord f 2 = r.site) ∧
      (∀ c, s.link.site = none → s.link.joining = some c → airWord f 2 = c.site) ∧ airWord f 4 = i.cab ∧
      (airWord f 6).toNat = bodyLength ∧ airWord f (bodyLength + 8) = crc (f.take (bodyLength + 8))
    let flags := fun (f : List Byte) (at_ : Nat) (bits : List Bool) => ∀ n, n < 8 → (f.getD at_ 0#8).getLsbD n = bits.getD n false
    let placed := fun (f : List Byte) (at_ : Nat) (p : Position) => ∀ x y, p = some (x, y) → airDWord f at_ = x ∧ airDWord f (at_ + 4) = y
    let extra := fun (p : Position) => if p.isSome then 8 else 0
    let raised := s.emerg.state = .alerting ∨ s.emerg.state = .acked
    (CabStatus.offDuty.code = 0#8 ∧ CabStatus.free.code = 1#8 ∧ CabStatus.assigned.code = 2#8 ∧ CabStatus.hired.code = 3#8 ∧
      CabStatus.onBreak.code = 4#8 ∧ Source.switch.code = 1#8 ∧ Source.terminal.code = 2#8 ∧ Source.recovered.code = 3#8 ∧
      BidCode.accept.code = 1#8 ∧ BidCode.decline.code = 2#8 ∧ BidCode.return.code = 3#8 ∧ FlowCode.pause.code = 1#8 ∧
      FlowCode.resume.code = 2#8) ∧
    (let f := s.joinFrame;
      header f 0x21#8 5 ∧ f.getD 8 0#8 = i.classFlags ∧ f.getD 9 0#8 = s.status.status.code ∧ airWord f 10 = s.status.driverId ∧
        flags f 12 [decide raised]) ∧
    (∀ a, let f := s.alertFrame a;
      header f 0x22#8 (6 + extra s.status.position) ∧ airWord f 8 = a.number ∧ f.getD 10 0#8 = a.source.code ∧
        f.getD 11 0#8 = s.status.status.code ∧ flags f 12 [s.trips.trip.isSome, s.status.position.isSome] ∧ f.getD 13 0#8 = s.status.zone ∧
        placed f 14 s.status.position) ∧
    (∀ tag, header (s.ackFrame tag) 0x23#8 2 ∧ airWord (s.ackFrame tag) 8 = tag) ∧
    (∀ b, header (s.bidFrame b) 0x24#8 5 ∧ airDWord (s.bidFrame b) 8 = b.job ∧ (s.bidFrame b).getD 12 0#8 = b.code.code) ∧
    (∀ c, header (s.flowFrame c) 0x25#8 1 ∧ (s.flowFrame c).getD 8 0#8 = c.code) ∧
    (∀ n, header (s.slotRequestFrame n) 0x26#8 1 ∧ (n < 256 → ((s.slotRequestFrame n).getD 8 0#8).toNat = n)) ∧
    (∀ r, let f := s.statusFrame r;
      header f 0x27#8 (7 + extra r.position) ∧ f.getD 8 0#8 = r.status.code ∧
        flags f 9 [r.meterOpened, r.emergency, r.position.isSome, r.paused, r.park] ∧ airWord f 10 = r.shiftNumber ∧
        airWord f 12 = r.driverId ∧ f.getD 14 0#8 = r.zone ∧ placed f 15 r.position) ∧
    (∀ n (r : TripRecord), n < 256 → r.tariffs.length ≤ 4 → let f := s.fareFrame n r;
      header f 0x28#8 63 ∧ (f.getD 8 0#8).toNat = n ∧ airWord f 9 = r.ref.shift ∧ airWord f 11 = r.ref.trip ∧ airWord f 13 = r.driverId ∧
        flags f 15 [r.flags.emergency, r.flags.meterFault, r.flags.interrupted, r.flags.mismatch, r.flags.forcedClose,
          r.flags.overflow] ∧
        flags f 16 [r.job.isSome, r.forced, r.meterOpened] ∧ airDWord f 17 = r.job.getD 0#32 ∧
        f.getD 21 0#8 = r.faultCode ∧ airDWord f 22 = r.startTime ∧ airDWord f 26 = r.closeTime ∧ airDWord f 30 = r.duration ∧
        (f.getD 34 0#8).toNat = r.tariffs.length ∧
        (∀ j, j < 4 → f.getD (35 + j) 0#8 = (r.tariffs[j]?.map (fun e => e.tariff)).getD 0#8) ∧ airDWord f 39 = r.groups.g0 ∧
        airDWord f 43 = r.groups.g1 ∧ airDWord f 47 = r.groups.g2 ∧ airDWord f 51 = r.groups.g3 ∧ airDWord f 55 = r.ungrouped ∧
        airDWord f 59 = r.stepSum ∧ airDWord f 63 = r.fare ∧ airDWord f 67 = r.extras) ∧
    (∀ n (c : ClosedTotals), n < 256 → let f := s.shiftFrame n c;
      let t := c.totals;
      header f 0x29#8 64 ∧ (f.getD 8 0#8).toNat = n ∧ airWord f 9 = t.shiftNumber ∧ airWord f 11 = t.driverId ∧ flags f 13 [t.meterOpened] ∧
        airDWord f 14 = t.openTime ∧ airWord f 18 = t.tripsClosed ∧ airWord f 20 = t.tripsWithJob ∧ airWord f 22 = t.tripsWithEmergency ∧
        airWord f 24 = t.mismatches ∧ airWord f 26 = t.meterFaults ∧ airWord f 28 = t.reportsAcknowledged ∧ airWord f 30 = t.reportsInList ∧
        airWord f 32 = t.reportsAbandoned ∧ airWord f 34 = t.tripsNotLogged ∧ airDWord f 36 = t.fareTotal ∧
        airDWord f 40 = t.groupTotals.g0 ∧ airDWord f 44 = t.groupTotals.g1 ∧ airDWord f 48 = t.groupTotals.g2 ∧
        airDWord f 52 = t.groupTotals.g3 ∧ airDWord f 56 = t.ungroupedTotal ∧ airDWord f 60 = t.extrasTotal ∧
        airDWord f 64 = t.hiredSeconds ∧ airDWord f 68 = c.closeTime) ∧
    ∀ (m : OutMessage) n, n < m.fragments → m.fragments < 256 → let f := s.textFrame m n;
      let part := (m.text.drop (40 * n)).take 40;
      header f 0x2A#8 (7 + part.length) ∧ airWord f 8 = m.tag ∧ (f.getD 10 0#8).toNat = n ∧ (f.getD 11 0#8).toNat = m.fragments ∧
        f.getD 12 0#8 = m.kind ∧ flags f 13 [m.urgent] ∧ (f.getD 14 0#8).toNat = part.length ∧
        ∀ j, j < part.length → f.getD (15 + j) 0#8 = part.getD j 0#8

/-- A wait of 0 at slot 0 draws one of the contention slots that are left, and with none left draws later (R54). The value drawn is free
(log entry 5). -/
def Obligations.BackoffDrawsAContentionSlot : Prop :=
  ∀ (s : State) (c : Contender), s.ready = true → s.link.nextSlot = 1 → s.sched.contention = .waiting c 0 →
    (s.link.state = .joined ∨ s.link.state = .join) → (s.power.power = .active ∨ s.power.power = .parking) →
    let free := fun (d : Nat) => d < 24 ∧ 24 - s.link.contention ≤ d ∧ s.reservedSlot ≠ some d ∧ s.inGrant d = false
    ((∀ d, ¬free d) → exec .backoffExpiry s = .next s) ∧
    ((∃ d, free d) → ∃ d, free d ∧ exec .backoffExpiry s = .next { s with
      sched := { s.sched with contention := .slotted c d, draws := s.sched.draws + 1 } })

/-- The sending of a short frame ends. One sent in the reserved slot is delivered and leaves its place or list, unless it left or was replaced
meanwhile; one sent in contention waits for the beacon's answer, and a JOIN for its grant wait, which runs since its slot began (log entry 39);
an ALERT tells the Emergency Unit, and a STATUS with the note PARK ends PARKING. The owner of a long frame counts its send, that of a fragment
also when the message is offered again meanwhile: the last one starts the acknowledgment wait (R16, R27, R43, R46 to R49, R52, R55, R60, R62,
R111, R118, R133, R154, R156, R171, R172). Which fragment's report advances a message offered again is log entry 17; that a bid replaced on the
air is reported no more is log entry 20; which send an ALERT report belongs to is log entry 35; that a slot request emptied on the air is not
counted is log entry 45; that a report of PARK ends a later PARKING too is log entry 58. What the parking count holds once PARKING has ended is
log entry 50. -/
def Obligations.SentFramesAreReported : Prop :=
  ∀ (s : State) (f : Sending), s.ready = true → s.radio.sending = some f → s.radio.deferred = [] →
    let idle : Transceiver := { s.radio with sending := none }
    (f.via = .reserved → f.live = true →
      (∀ tag, f.name = .ack tag → exec .shortFrameSent s = .next { s with
        radio := idle, sched := { s.sched with acks := s.sched.acks.erase tag } }) ∧
      (∀ job, f.name = .bid job → ∃ t, exec .shortFrameSent s = .next t ∧ t = { s with radio := idle, sched := t.sched } ∧
        t.sched = { s.sched with bids := s.sched.bids.filter (fun b => b.job != job), contention := t.sched.contention }) ∧
      (f.name = .flow → exec .shortFrameSent s = .next { s with radio := idle, sched := { s.sched with flowPlace := none } }) ∧
      (f.name = .slotRequest → ∃ t, exec .shortFrameSent s = .next t ∧ t = { s with radio := idle, sched := t.sched } ∧
        t.sched = { s.sched with
          slotRequest := none, requests := s.sched.requests + 1, long := .wait 4, contention := t.sched.contention })) ∧
    (f.via = .reserved → f.live = false → (∀ n, f.name ≠ .alert n) → (∀ p, f.name ≠ .status p) →
      exec .shortFrameSent s = .next { s with radio := idle }) ∧
    (f.via = .reserved → f.name = .status false ∨ (f.name = .status true ∧ s.power.power ≠ .parking) →
      exec .shortFrameSent s = .next { s with radio := idle }) ∧
    (f.via = .reserved → f.name = .status true → s.power.power = .parking →
      ∃ t, exec .shortFrameSent s = .next t ∧ t.radio = idle ∧
        t.power = (if s.emerg.state = .clear then { s.power with power := .standby, parking := 0 }
          else { s.power with power := .active, park := false }) ∧
        t.page.causes = s.page.causes ||| 0x100#13) ∧
    (∀ n, f.via ≠ .long → f.name = .alert n → n = s.emerg.number →
      ∃ t, exec .shortFrameSent s = .next t ∧ t = { s with radio := idle, sched := t.sched, emerg := t.emerg, path := t.path } ∧
        (s.emerg.state = .alerting → t.emerg.sends = satAdd s.emerg.sends 1#16 ∧
          t.sched.alertPlace = some ⟨s.emerg.number, s.emerg.source⟩ ∧ t.emerg.repeatLeft = s.emerg.repeatLeft ∧
          (s.path.busyWith .emergencyRewrite = false → ⟨.emergencyRewrite, 0⟩ ∈ t.path.queue)) ∧
        (s.emerg.state = .acked → t.emerg.sends = satAdd s.emerg.sends 1#16 ∧ t.emerg.repeatLeft = some 10 ∧
          (s.sched.alertPlace.all (fun a => a.number == n) = true → t.sched.alertPlace = none)) ∧
        (f.via = .contention → t.sched.contention = s.sched.contention)) ∧
    (f.via = .contention → (∀ n, f.name ≠ .alert n) → exec .shortFrameSent s = .next { s with radio := idle }) ∧
    (f.via = .long → f.live = true →
      ∃ t, exec .longFrameSent s = .next t ∧ t.radio.sending = none ∧ t.pins = s.pins ∧ t.page = s.page ∧ t.path = s.path ∧
        t.link = s.link ∧ t.mem = s.mem ∧
        (∀ r, f.name = .fare r → t.msgs = s.msgs ∧ t.trips = { s.trips with
          reports := s.trips.reports.map (fun e => if e.record.ref = r
            then { e with sends := e.sends + 1, retransmit := s.link.seconds + 30, come := false } else e) }) ∧
        (∀ n e, f.name = .shift n → s.trips.shiftReport = some e → e.content.totals.shiftNumber = n → t.msgs = s.msgs ∧
          t.trips = { s.trips with
            shiftReport := some { e with sends := e.sends + 1, retransmit := s.link.seconds + 30, come := false } }) ∧
        (∀ tag i m, f.name = .text tag i → s.msgs.flight = .flight m → t.trips = s.trips ∧
          (m.tag = tag → i < m.fragments → t.msgs = { s.msgs with
            flight := .flight { m with
              next := (if m.next = i then i + 1 else m.next),
              ackWait := if i + 1 = m.fragments then some 20 else m.ackWait } }) ∧
          (m.tag ≠ tag ∨ m.fragments ≤ i → t.msgs = s.msgs))) ∧
    (f.via = .long → f.live = false → ∃ t, exec .longFrameSent s = .next t ∧ t.radio.sending = none ∧ t.trips = s.trips ∧ t.msgs = s.msgs)

/-! ## Downlink frames -/

/-- A delivered frame that is too short, fails its check or disagrees with its body length is counted in CHECK_ERRORS in every link state
other than OFF, and changes nothing else; one of an unknown form changes nothing. A frame that the filters do not pass changes nothing. The
filters pass a frame exactly when it carries the cab's fleet code and the number of the tracked site, where one is tracked and unless it is
a BEACON it must be, when its power and link state route its kind, and when its destination kind is one that its kind accepts and names
this cab: all cabs by 65535 only for kinds that go to a fleet too, a zone or the fleet by its class mask (R17, R18, R33 to R36). -/
def Obligations.FramesAreCheckedAndFiltered : Prop :=
  (∀ bytes : List Byte, decodeFrame bytes = .damaged ↔
    bytes.length < 12 ∨ airWord bytes (bytes.length - 2) ≠ crc (bytes.take (bytes.length - 2)) ∨
      (airWord bytes 8).toNat + 12 ≠ bytes.length) ∧
  (∀ (s : State) (bytes : List Byte), decodeFrame bytes = .damaged →
    (s.ready = true → s.link.state ≠ .off → exec (.damagedFrame bytes) s = .next { s with
      page := { s.page with counters := { s.page.counters with checkErrors := satAdd s.page.counters.checkErrors 1#16 } } }) ∧
    (s.link.state = .off → exec (.damagedFrame bytes) s = .next s)) ∧
  (∀ (s : State) (bytes : List Byte), decodeFrame bytes = .unknown → exec (.damagedFrame bytes) s = .next s) ∧
  (∀ (s : State) (h : DownHeader),
    (∀ b, s.hears h (.beacon b) = false → exec (.beacon h b) s = .next s) ∧
    (∀ a b c, s.hears h (.grantJoin a b c) = false → exec (.grantJoin h a b c) s = .next s) ∧
    (∀ r, s.hears h (.deny r) = false → exec (.deny h r) s = .next s) ∧
    (s.hears h .rejoin = false → exec (.rejoin h) s = .next s) ∧
    (∀ a b c, s.hears h (.grantLong a b c) = false → exec (.grantLong h a b c) s = .next s) ∧
    (∀ b, s.hears h (.offer b) = false → exec (.offer h b) s = .next s) ∧
    (∀ b, s.hears h (.award b) = false → exec (.award h b) s = .next s) ∧
    (∀ j, s.hears h (.lost j) = false → exec (.lost h j) s = .next s) ∧
    (∀ j, s.hears h (.withdraw j) = false → exec (.withdraw h j) s = .next s) ∧
    (∀ b, s.hears h (.text b) = false → exec (.text h b) s = .next s) ∧
    (∀ n, s.hears h (.ackOfText n) = false → exec (.ackOfText h n) s = .next s) ∧
    (∀ r, s.hears h (.ackOfFare r) = false → exec (.ackOfFare h r) s = .next s) ∧
    (∀ n, s.hears h (.ackOfShift n) = false → exec (.ackOfShift h n) s = .next s) ∧
    (∀ n, s.hears h (.alertAck n) = false → exec (.alertAck h n) s = .next s) ∧
    (∀ n, s.hears h (.alertCancel n) = false → exec (.alertCancel h n) s = .next s) ∧
    (∀ l, s.hears h (.wake l) = false → exec (.wake h l) s = .next s)) ∧
  ∀ (s : State) (h : DownHeader) (b : DownBody),
    let tracked : Option Word := match s.link.state with
      | .joined => s.link.site.map (·.site)
      | .join => s.link.joining.map (·.site)
      | _ => none
    let beacon := ∃ x, b = .beacon x
    let wake := ∃ x, b = .wake x
    let toCabOnly := (∃ x y z, b = .grantJoin x y z) ∨ (∃ x y z, b = .grantLong x y z) ∨ (∃ x, b = .deny x) ∨ (∃ x, b = .award x) ∨
      (∃ x, b = .ackOfText x) ∨ (∃ x, b = .ackOfFare x) ∨ (∃ x, b = .ackOfShift x) ∨ (∃ x, b = .alertAck x) ∨
      (∃ x, b = .alertCancel x) ∨ wake
    let routed := (beacon ∧ s.link.state ≠ .off) ∨
      (((∃ x y z, b = .grantJoin x y z) ∨ ∃ x, b = .deny x) ∧ s.link.state = .join) ∨
      (¬beacon ∧ ¬((∃ x y z, b = .grantJoin x y z) ∨ ∃ x, b = .deny x) ∧ s.link.state = .joined)
    let thisCab := h.value ≠ 0#16 ∧ h.value ≠ 0xFFFF#16 ∧ s.power.image.map (·.cab) = some h.value
    let inClass := h.mask &&& ~~~((s.power.image.map (·.classFlags)).getD 0#8) = 0#8
    s.hears h b = true ↔
      s.ready = true ∧ s.power.image.map (·.fleet) = some h.fleet ∧ s.power.power ≠ .sleep ∧
      (s.power.power = .standby → beacon ∨ wake) ∧ routed ∧ (∀ n, tracked = some n → h.site = n) ∧
      (¬beacon → tracked = some h.site) ∧ (beacon → h.dest = 4#8) ∧ (toCabOnly → h.dest = 1#8 ∧ thisCab) ∧
      (¬beacon → ¬toCabOnly →
        (h.dest = 1#8 ∧ (thisCab ∨ h.value = 0xFFFF#16)) ∨
        (h.dest = 2#8 ∧ s.status.zone ≠ 0#8 ∧ h.value.toNat = s.status.zone.toNat ∧ inClass) ∨ (h.dest = 3#8 ∧ inClass))

/-- A good beacon aligns the cycle, or realigns it while its window is open, and sets the cab clock and C. In JOINED and JOIN it ends the run
of misses and answers an outstanding transmission, so that contention is IDLE: an ALERT, a bid and a slot request that the heard list names are
delivered, and one that it does not name has failed once more, which CONTENTION_FAILS counts, a bid leaving its list and a slot request falling
back at the eighth; a frame that has left is counted there only; the fourth failed attempt of a JOIN removes the candidate. A slot request that
waits stays while a long frame is sendable. In HUNT the beacon counts toward its site's run,
once in a cycle; the third makes a candidate, and on the last channel the best candidate is joined; while the emergency state is not CLEAR the
pass ends at once. A GRANT of kind JOIN in range makes the link JOINED and forgets a JOIN that is outstanding, a DENY removes the candidate, a
REJOIN leaves for QUIET, and a GRANT of kind LONG in range is held (R18 to R20, R24 to R32, R47, R49, R55 to R61). Only the named ability flags
are kept (log entry 37); the window stays open to slot 0 (log entry 16); that an ALERT which has left its place leaves the attempt count when it is
heard is log entry 57. -/
def Obligations.BeaconsAndMembershipFramesAct : Prop :=
  ∀ (s : State) (h : DownHeader),
    let joins := fun (t : State) (c : Candidate) => t.link.state = .join ∧ t.link.joining = some c ∧ t.link.attempts = 0 ∧
      t.link.loss = 0 ∧ t.sched.joinPlace = true ∧ t.sched.joinAttempts = 0 ∧ t.sched.contention = .idle
    let best := fun (c : Candidate) (l : List Candidate) => ∃ before after, l = before ++ c :: after ∧
      (∀ d ∈ before, abilityRank c.abilities < abilityRank d.abilities) ∧ ∀ d ∈ after, abilityRank c.abilities ≤ abilityRank d.abilities
    let quiet := fun (t : State) => t.link.state = .quiet ∧ t.link.candidates = [] ∧ t.link.quiet = 0 ∧ t.sched.joinPlace = false
    let heard := fun (b : BeaconBody) => ∃ c ∈ b.heard, s.power.image.map (·.cab) = some c
    let fails := fun (t : State) => t.page.counters.contentionFails = satAdd s.page.counters.contentionFails 1#16
    let again := s.link.window = true ∧ s.link.beaconIn = true
    (∀ b, s.hears h (.beacon b) = true →
      ∃ t, exec (.beacon h b) s = .next t ∧ t.pending = s.pending ∧ t.mem = s.mem ∧ t.offers = s.offers ∧ t.trips = s.trips ∧
        t.status = s.status ∧ t.link.cycle = b.cycle ∧ t.link.nextSlot = 0 ∧ t.link.window = true ∧ t.link.beaconIn = true ∧
        t.link.clock = b.time ∧ t.link.contention = min 8 b.contention.toNat ∧ t.link.channels = s.link.channels ∧
        (s.link.window = true → t.emerg = s.emerg ∧ t.power = s.power) ∧
        (s.link.state = .quiet → t.sched.contention = s.sched.contention ∧ t.page = s.page ∧ t.radio = s.radio ∧
          t.link.quiet = if s.link.window = true then s.link.quiet else s.link.quiet + 1) ∧
        (s.link.state = .joined → s.sched.contention ≠ .outstanding (some .join) →
          t.link.state = .joined ∧ t.link.loss = 0 ∧
          t.link.site = s.link.site.map (fun r => { r with abilities := b.abilities &&& 7#8 }) ∧
          ((∀ c, s.sched.contention ≠ .outstanding c) →
            t.page = s.page ∧ t.sched.bids = s.sched.bids ∧ t.sched.alertAttempts = s.sched.alertAttempts) ∧
          (∀ c, s.sched.contention = .outstanding c →
            t.sched.contention = .idle ∧ (heard b → t.page = s.page) ∧
            (¬heard b → t.page = { s.page with counters := { s.page.counters with
              contentionFails := satAdd s.page.counters.contentionFails 1#16 } }) ∧
            (c ≠ some .alert → t.sched.alertAttempts = s.sched.alertAttempts) ∧
            ((∀ job, c ≠ some (.bid job)) → t.sched.bids = s.sched.bids)) ∧
          (s.sched.contention = .outstanding (some .alert) →
            (heard b → t.sched.alertAttempts = 0) ∧ (¬heard b → t.sched.alertAttempts = min 4 (s.sched.alertAttempts + 1))) ∧
          (∀ job, s.sched.contention = .outstanding (some (.bid job)) →
            (heard b → t.sched.bids = s.sched.bids.filter (fun x => x.job != job)) ∧
            (¬heard b → t.sched.bids = s.sched.bids.filterMap (fun x =>
              if x.job = job then (if 7 ≤ x.attempts then none else some { x with attempts := x.attempts + 1 }) else some x))) ∧
          (∀ r, s.sched.slotRequest = some r →
            (s.sched.contention = .outstanding (some .slotRequest) → heard b →
              t.sched.slotRequest = none ∧ t.sched.requests = s.sched.requests + 1 ∧ t.sched.long = .wait 4) ∧
            (s.sched.long = .request → (s.link.window = true ∨ ∀ g, s.sched.grant = some g → g.seen = true → s.link.nextSlot < g.stop) →
              (s.sched.contention = .outstanding (some .slotRequest) → ¬heard b) →
              t.sched.requests = s.sched.requests ∧
              (t.sendable = 0 → t.sched.slotRequest = none ∧ t.sched.long = .none) ∧
              (0 < t.sendable → t.sched.long = .request ∧
                (s.sched.contention = .outstanding (some .slotRequest) →
                  t.sched.slotRequest = some ⟨r.attempts + 1, r.fellBack || decide (8 ≤ r.attempts + 1)⟩) ∧
                (s.sched.contention ≠ .outstanding (some .slotRequest) → t.sched.slotRequest = some r))))) ∧
        (∀ c, s.link.state = .join → s.link.joining = some c →
          ((∀ d, s.sched.contention ≠ .outstanding d) → t.sched.contention = s.sched.contention ∧ t.page = s.page ∧
            t.sched.joinPlace = s.sched.joinPlace ∧ t.link.state = .join ∧ t.link.joining = some c ∧ t.link.loss = 0 ∧
            t.link.attempts = s.link.attempts) ∧
          (s.sched.contention = .outstanding (some .join) →
            (heard b → t.sched.contention = .idle ∧ t.page = s.page ∧ t.sched.joinPlace = false ∧ t.link.state = .join ∧
              t.link.joining = some c ∧ t.link.loss = 0 ∧ t.link.attempts = s.link.attempts ∧
              (s.link.window = true → t.link.grantWait = s.link.grantWait)) ∧
            (¬heard b → fails t ∧
              (s.link.attempts < 4 → t.sched.contention = .idle ∧ t.sched.joinPlace = s.sched.joinPlace ∧
                t.sched.joinAttempts = min 4 (s.sched.joinAttempts + 1) ∧ t.link.state = .join ∧ t.link.joining = some c ∧
                t.link.loss = 0 ∧ t.link.grantWait = none) ∧
              (4 ≤ s.link.attempts → (s.link.candidates.erase c = [] → quiet t) ∧
                (s.link.candidates.erase c ≠ [] → ∃ d, best d (s.link.candidates.erase c) ∧ joins t d))))) ∧
        (∀ x, s.link.state = .hunt → s.link.hunt = some x → s.emerg.state = .clear → ∀ count,
          ((x.run = none ∨ ∃ r, x.run = some r ∧ r.site ≠ h.site) ∧ count = 1 ∨
            ∃ r, x.run = some r ∧ r.site = h.site ∧ (again → count = r.count) ∧ (¬again → count = r.count + 1)) →
          (count < 3 → t.link.state = .hunt ∧ t.link.hunt = some { x with run := some ⟨h.site, count, b.abilities &&& 7#8⟩ } ∧
            t.link.candidates = s.link.candidates) ∧
          (3 ≤ count → t.link.candidates = s.link.candidates ++ [⟨x.channel, h.site, b.abilities &&& 7#8⟩] ∧
            (∀ d ds, x.rest = d :: ds → t.link.state = .hunt ∧ t.link.hunt = some ⟨d, ds, none⟩) ∧
            (x.rest = [] → ∃ c, best c (s.link.candidates ++ [⟨x.channel, h.site, b.abilities &&& 7#8⟩]) ∧ joins t c))) ∧
        (∀ x, s.link.state = .hunt → s.link.hunt = some x → s.emerg.state ≠ .clear →
          (s.link.candidates = [] → joins t ⟨x.channel, h.site, b.abilities &&& 7#8⟩ ∧
            t.link.candidates = [⟨x.channel, h.site, b.abilities &&& 7#8⟩]) ∧
          (s.link.candidates ≠ [] → ∃ c, best c s.link.candidates ∧ joins t c))) ∧
    (∀ slot period phase, s.hears h (.grantJoin slot period phase) = true →
      let fits := slot.toNat ≤ 23 ∧ 1 ≤ period.toNat ∧ period.toNat ≤ 8 ∧ phase.toNat < period.toNat
      (¬fits → exec (.grantJoin h slot period phase) s = .next s) ∧
      (fits → ∀ c, s.link.joining = some c → ∃ t, exec (.grantJoin h slot period phase) s = .next t ∧
        t.link = { s.link with
          state := .joined, site := some ⟨c.channel, c.site, c.abilities, slot, period, phase⟩, candidates := [], joining := none,
          grantWait := none } ∧
        t.sched.joinPlace = false ∧ t.sched.contention = .idle ∧ t.page.counters = s.page.counters ∧ s.raises t 0x80#13 ∧
        s.lampsStay t ∧ t.mem = s.mem ∧ t.path = s.path ∧ t.offers = s.offers ∧ t.trips = s.trips ∧ t.msgs = s.msgs ∧
        t.emerg = s.emerg ∧ t.status = s.status ∧ t.power = s.power)) ∧
    (∀ reason c, s.hears h (.deny reason) = true → s.link.joining = some c →
      ∃ t, exec (.deny h reason) s = .next t ∧ t = { s with link := t.link, radio := t.radio, sched := t.sched } ∧
        (s.link.candidates.erase c = [] → quiet t) ∧
        (s.link.candidates.erase c ≠ [] → ∃ d, best d (s.link.candidates.erase c) ∧ joins t d)) ∧
    (s.hears h .rejoin = true →
      ∃ t, exec (.rejoin h) s = .next t ∧ t.mem = s.mem ∧ t.path = s.path ∧ t.offers = s.offers ∧ t.trips = s.trips ∧ t.status = s.status ∧
        t.emerg = s.emerg ∧ t.power = s.power ∧
        t.link = { s.link with
          state := .quiet, candidates := [], joining := none, site := none, loss := 0, attempts := 0, grantWait := none, quiet := 0,
          hunt := none } ∧
        t.page.causes = s.page.causes ||| 0x80#13 ∧ t.page.linkUp = false ∧ t.sched.grant = none ∧ t.sched.long = .none ∧
        t.sched.contention = .idle ∧ t.sched.slotRequest = none ∧ t.sched.acks = s.sched.acks ∧
        (∀ m, s.msgs.flight = .flight m → t.msgs = { s.msgs with flight := .flight { m with next := 0 } })) ∧
    ∀ cycle start count, s.hears h (.grantLong cycle start count) = true →
      let fits := 1 ≤ count.toNat ∧ count.toNat ≤ 4 ∧ start.toNat + 3 * count.toNat ≤ 24 ∧ 1 ≤ (cycle - s.link.cycle).toNat ∧
        (cycle - s.link.cycle).toNat ≤ 4 ∧ s.sched.long ≠ .none ∧ s.sched.long ≠ .held
      (¬fits → exec (.grantLong h cycle start count) s = .next s) ∧
      (fits → ∃ t, exec (.grantLong h cycle start count) s = .next t ∧ t = { s with sched := t.sched, radio := t.radio } ∧
        t.sched = { s.sched with
          grant := some ⟨cycle, start.toNat, count.toNat, 0, false⟩, requests := 0, long := .held, slotRequest := none,
          contention := t.sched.contention })

/-- An OFFER that enters the table makes the lowest EMPTY entry, or else the terminal one that is oldest, LIVE with its lifetime running; with
no room it is counted; one that may not enter changes nothing. An AWARD makes a BIDDING entry AWARDED, takes a LIVE, NO_AWARD or new entry
when the cab is eligible, and is handed back otherwise; a new entry is a CAB offer with an empty class mask, the AWARD's items and expires 0, and
is the newest in the entry order. A LOST ends a LIVE or BIDDING entry, a WITHDRAW also an AWARDED one
(R5, R68 to R72, R78 to R82). A CAB offer to 65535 is stored as a FLEET offer (log entry 36). -/
def Obligations.OffersAndVerdictsChangeTheTable : Prop :=
  ∀ (s : State) (h : DownHeader),
    let rest := fun (t : State) => t.pending = s.pending ∧ t.mem = s.mem ∧ t.link = s.link ∧ t.trips = s.trips ∧ t.msgs = s.msgs ∧
      t.emerg = s.emerg ∧ t.power = s.power ∧ s.linesStay t
    let others := fun (t : State) (n : Fin 16) => ∀ k, k ≠ n → t.offers.entry k = s.offers.entry k
    let moved := fun (t : State) (n : Fin 16) (st : OfferState) (forced late : Bool) => rest t ∧ t.page = s.page ∧ others t n ∧
      t.offers.entry n = { s.offers.entry n with
        state := st, timer := none, forced := forced, late := late, seq := (s.offers.entry n).seq + 1#8,
        causes := (t.offers.entry n).causes } ∧
      .offerChange ∈ (t.offers.entry n).causes ∧ t.path.queued (.offerRewrite n) = true
    let assigned := fun (t : State) =>
      t.status = { s.status with status := if s.status.status = .free then .assigned else s.status.status }
    let returned := fun (t : State) (job : DWord) => rest t ∧ t.page = s.page ∧ t.offers = s.offers ∧ t.path = s.path ∧ t.status = s.status ∧
      ⟨job, .return, 0⟩ ∈ t.sched.bids
    let eligible := fun (o : Option (Fin 16)) => (∀ k, o ≠ some k → (s.offers.stateOf k).claims = false) ∧ s.emerg.state = .clear ∧
      (s.status.status = .free ∨ s.status.status = .hired)
    let toCab := h.dest = 1#8 ∧ h.value ≠ 0xFFFF#16
    (∀ b, s.hears h (.offer b) = true →
      let enters := b.job ≠ 0#32 ∧ 5 ≤ b.lifetime.toNat ∧ b.lifetime.toNat ≤ 120 ∧ b.text.length ≤ 64 ∧ s.power.power = .active ∧
        s.emerg.state = .clear ∧ (toCab → s.status.status ≠ .offDuty) ∧ (¬toCab → s.status.status = .free) ∧
        s.offers.find b.job = none
      (¬enters → exec (.offer h b) s = .next s) ∧
      (enters → s.offers.room = none → exec (.offer h b) s = .next { s with
        page := { s.page with counters := { s.page.counters with offersMissed := satAdd s.page.counters.offersMissed 1#16 } } }) ∧
      (enters → ∀ n, s.offers.room = some n → ∃ t, exec (.offer h b) s = .next t ∧
        t = { s with offers := t.offers, path := t.path } ∧ others t n ∧ t.path.queued (.offerRewrite n) = true ∧
        t.offers.order = s.offers.order.erase n ++ [n] ∧
        t.offers.entry n = { s.offers.entry n with
          state := .live, seq := (s.offers.entry n).seq + 1#8, job := b.job, zone := b.zone, received := s.link.clock,
          expires := s.link.clock + b.lifetime.setWidth 32, fare := if b.farePresent.getLsbD 0 then some b.fare else none,
          text := b.text, forced := false, late := false, response := 0#16, result := ⟨0#8, 0#8, .none⟩,
          timer := some b.lifetime.toNat, dest := if h.dest = 1#8 ∧ h.value = 0xFFFF#16 then 3#8 else h.dest,
          mask := if h.dest = 1#8 ∧ h.value = 0xFFFF#16 then 0#8 else h.mask, causes := (t.offers.entry n).causes } ∧
        .offerNew ∈ (t.offers.entry n).causes)) ∧
    (∀ n, s.offers.room = some n →
      (s.offers.stateOf n = .empty ∧ ∀ k, k < n → s.offers.stateOf k ≠ .empty) ∨
      ((∀ k, s.offers.stateOf k ≠ .empty) ∧ (s.offers.stateOf n).terminal = true ∧
        ∃ older newer, s.offers.order = older ++ n :: newer ∧ ∀ k ∈ older, (s.offers.stateOf k).terminal = false)) ∧
    (∀ b, s.hears h (.award b) = true →
      (b.job = 0#32 ∨ 64 < b.text.length → exec (.award h b) s = .next s) ∧
      (b.job ≠ 0#32 → b.text.length ≤ 64 → ∃ t, exec (.award h b) s = .next t ∧
        (∀ n, s.offers.find b.job = some n →
          (s.offers.stateOf n = .bidding → moved t n .awarded (s.offers.entry n).forced (s.offers.entry n).late ∧ assigned t) ∧
          (s.offers.stateOf n = .awarded → t = s) ∧
          (s.offers.stateOf n = .live → eligible (some n) → moved t n .awarded true (s.offers.entry n).late ∧ assigned t) ∧
          (s.offers.stateOf n = .noAward → eligible (some n) → moved t n .awarded (s.offers.entry n).forced true ∧ assigned t) ∧
          ((s.offers.stateOf n = .live ∨ s.offers.stateOf n = .noAward) → ¬eligible (some n) → returned t b.job) ∧
          (s.offers.stateOf n = .declined ∨ s.offers.stateOf n = .lapsed ∨ s.offers.stateOf n = .lost ∨
            s.offers.stateOf n = .withdrawn → returned t b.job)) ∧
        (s.offers.find b.job = none → ¬eligible none → returned t b.job) ∧
        (s.offers.find b.job = none → eligible none → s.offers.room = none →
          ⟨b.job, .return, 0⟩ ∈ t.sched.bids ∧ t.offers = s.offers ∧ t.status = s.status ∧ rest t ∧
          t.page = { s.page with counters := { s.page.counters with offersMissed := satAdd s.page.counters.offersMissed 1#16 } }) ∧
        (∀ n, s.offers.find b.job = none → eligible none → s.offers.room = some n →
          rest t ∧ t.page = s.page ∧ others t n ∧ assigned t ∧ t.offers.order = s.offers.order.erase n ++ [n] ∧
          t.offers.entry n = { s.offers.entry n with
            state := .awarded, seq := (s.offers.entry n).seq + 1#8, job := b.job, dest := 1#8, mask := 0#8, zone := b.zone,
            received := s.link.clock, expires := 0#32, fare := if b.farePresent.getLsbD 0 then some b.fare else none, text := b.text,
            forced := true, late := false, response := 0#16, result := ⟨0#8, 0#8, .none⟩, timer := none,
            causes := (t.offers.entry n).causes } ∧
          .offerChange ∈ (t.offers.entry n).causes ∧ t.path.queued (.offerRewrite n) = true))) ∧
    (∀ job, s.hears h (.lost job) = true →
      (∀ n, s.offers.find job = some n → s.offers.stateOf n = .live ∨ s.offers.stateOf n = .bidding →
        ∃ t, exec (.lost h job) s = .next t ∧ t.status = s.status ∧ t.sched = s.sched ∧
          moved t n .lost (s.offers.entry n).forced (s.offers.entry n).late) ∧
      ((∀ n, s.offers.find job = some n → s.offers.stateOf n ≠ .live ∧ s.offers.stateOf n ≠ .bidding) →
        exec (.lost h job) s = .next s)) ∧
    ∀ job, s.hears h (.withdraw job) = true →
      (∀ n, s.offers.find job = some n →
        s.offers.stateOf n = .live ∨ s.offers.stateOf n = .bidding ∨ s.offers.stateOf n = .awarded →
        ∃ t, exec (.withdraw h job) s = .next t ∧ moved t n .withdrawn (s.offers.entry n).forced (s.offers.entry n).late ∧
          (∀ b ∈ t.sched.bids, b.job ≠ job) ∧
          t.status = { s.status with
            status := if s.offers.stateOf n = .awarded ∧ s.status.status = .assigned then .free else s.status.status }) ∧
      ((∀ n, s.offers.find job = some n →
          s.offers.stateOf n ≠ .live ∧ s.offers.stateOf n ≠ .bidding ∧ s.offers.stateOf n ≠ .awarded) →
        exec (.withdraw h job) s = .next s)

/-- A TEXT fragment out of range changes nothing; another starts an assembly in an empty buffer, the lower-numbered one first, or is stored at its
index of the one that assembles its tag and restarts its 10 seconds. The fragment that completes a message, of one fragment or of several, has it
judged at once, deposited, acknowledged again or dropped, or left CLOSED in its buffer to wait for the deposit under way. With no buffer empty the
assembly begun earlier is truncated and its buffer taken (log entry 29), for a message of one fragment too, and with both CLOSED the fragment is
discarded. An ACK of the message in flight
completes it with DELIVERED. An ALERT_ACK in ALERTING enters ACKED, an ALERT_CANCEL leaves for CLEAR, both only for the current number. A WAKE
whose six fields are the cab number ends STANDBY (R134, R136 to R143, R155, R157, R160, R175 to R177). That an ACK which comes during the fetch or
the completion of its message changes nothing is log entry 53. What the parking count holds once PARKING has ended is log entry 50. -/
def Obligations.MessagesAlertsAndWakeFramesAct : Prop :=
  ∀ (s : State) (h : DownHeader),
    let messagesOnly := fun (t : State) => t = { s with
      msgs := t.msgs, path := t.path, sched := t.sched, radio := t.radio, page := t.page } ∧ t.path.buffer = s.path.buffer ∧
      t.path.under = s.path.under
    let emergencyOnly := fun (t : State) => t.pending = s.pending ∧ t.mem = s.mem ∧ t.page = s.page ∧ t.link = s.link ∧ t.offers = s.offers ∧
      t.trips = s.trips ∧ t.msgs = s.msgs ∧ t.status = s.status ∧ t.power = s.power ∧ t.radio = s.radio ∧ s.linesStay t ∧
      t.sched.alertPlace = none ∧ (s.path.busyWith .emergencyRewrite = false → ⟨.emergencyRewrite, 0⟩ ∈ t.path.queue)
    let judged := fun (t : State) (m : InMessage) =>
      (m.tag ∈ s.msgs.delivered → t.msgs.deposit = none ∧ t.page = s.page ∧ t.path = s.path ∧
        (m.ackRequired = true → m.truncated = false → m.tag ∈ t.sched.acks) ∧
        (¬(m.ackRequired = true ∧ m.truncated = false) → t.sched = s.sched)) ∧
      (m.tag ∉ s.msgs.delivered → t.sched = s.sched ∧
        (∀ plan, s.msgs.inbound.plan m.bytes = some plan → t.msgs.deposit = some ⟨m, plan⟩ ∧ t.page = s.page ∧
          t.path = { s.path with queue := s.path.queue ++ [⟨.inboundDeposit, 0⟩] }) ∧
        (s.msgs.inbound.plan m.bytes = none → t.msgs.deposit = none ∧ t.path = s.path ∧
          t.page.counters.messagesDropped = satAdd s.page.counters.messagesDropped 1#16))
    let owed := s.emerg.owed || (!s.path.queued .emergencyRewrite && s.path.underWay .emergencyRewrite)
    (∀ b, s.hears h (.text b) = true →
      let bad := b.count.toNat ≤ b.index.toNat ∨ b.count.toNat < 1 ∨ 5 < b.count.toNat ∨ 40 < b.text.length
      let fresh := ∀ (k : BufferId) a, s.msgs.buffer k = .assembling a → a.tag ≠ b.tag
      (bad → exec (.text h b) s = .next s) ∧
      (¬bad → fresh → 2 ≤ b.count.toNat → s.msgs.buffer0 = .empty →
        exec (.text h b) s = .next { s with msgs := { s.msgs with
          stamp := s.msgs.stamp + 1,
          buffer0 := .assembling ⟨b.tag, b.count.toNat, b.flags.getLsbD 0, b.flags.getLsbD 1,
            (List.replicate b.count.toNat none).set b.index.toNat (some b.text), some 10, s.msgs.stamp + 1⟩ } }) ∧
      (¬bad → fresh → 2 ≤ b.count.toNat → s.msgs.buffer0 ≠ .empty → s.msgs.buffer1 = .empty →
        exec (.text h b) s = .next { s with msgs := { s.msgs with
          stamp := s.msgs.stamp + 1,
          buffer1 := .assembling ⟨b.tag, b.count.toNat, b.flags.getLsbD 0, b.flags.getLsbD 1,
            (List.replicate b.count.toNat none).set b.index.toNat (some b.text), some 10, s.msgs.stamp + 1⟩ } }) ∧
      (∀ (k : BufferId) a, ¬bad → s.msgs.buffer k = .assembling a → a.tag = b.tag →
        (∀ j x, j ≠ k → s.msgs.buffer j = .assembling x → x.tag ≠ b.tag) →
        (a.count ≠ b.count.toNat → exec (.text h b) s = .next s) ∧
        (a.count = b.count.toNat → ∀ p,
          p = (if (a.parts.getD b.index.toNat none).isSome then a.parts else a.parts.set b.index.toNat (some b.text)) →
          (p.all Option.isSome = false →
            exec (.text h b) s = .next { s with msgs := s.msgs.setBuffer k (.assembling { a with parts := p, timer := some 10 }) }) ∧
          (p.all Option.isSome = true →
            let m : InMessage := ⟨a.tag, a.urgent, a.ackRequired, false, p, s.link.clock, s.msgs.stamp⟩
            (s.msgs.deposit ≠ none → exec (.text h b) s = .next { s with
              msgs := { s.msgs.setBuffer k (.closed m) with stamp := s.msgs.stamp + 1 } }) ∧
            (s.msgs.deposit = none → (∀ j, j ≠ k → (s.msgs.buffer j).message? = none) →
              ∃ t, exec (.text h b) s = .next t ∧ messagesOnly t ∧ judged t m ∧ t.msgs.buffer k = .empty ∧
                ∀ j, j ≠ k → t.msgs.buffer j = s.msgs.buffer j)))) ∧
      (¬bad → fresh → (∀ k, (s.msgs.buffer k).message? ≠ none) → exec (.text h b) s = .next s) ∧
      (∀ (k j : BufferId) a, ¬bad → fresh → 2 ≤ b.count.toNat → k ≠ j → s.msgs.buffer k = .assembling a →
        (s.msgs.deposit ≠ none ∧ (s.msgs.buffer j).message? ≠ none) ∨
          (∃ x, s.msgs.buffer j = .assembling x ∧ a.begun < x.begun) →
        let m : InMessage := ⟨a.tag, a.urgent, a.ackRequired, true, a.parts, s.link.clock, s.msgs.stamp⟩
        ∃ t, exec (.text h b) s = .next t ∧ messagesOnly t ∧ t.msgs.buffer j = s.msgs.buffer j ∧
          t.msgs.buffer k = .assembling ⟨b.tag, b.count.toNat, b.flags.getLsbD 0, b.flags.getLsbD 1,
            (List.replicate b.count.toNat none).set b.index.toNat (some b.text), some 10, t.msgs.stamp⟩ ∧
          (s.msgs.deposit = none → judged t m) ∧
          (s.msgs.deposit ≠ none → t.msgs.deposit = s.msgs.deposit ∧ t.path = s.path ∧ t.sched = s.sched ∧
            (m.tag ∈ s.msgs.delivered → t.page = s.page) ∧
            (m.tag ∉ s.msgs.delivered → t.page.counters.messagesDropped = satAdd s.page.counters.messagesDropped 1#16))) ∧
      (∀ k : BufferId, ¬bad → fresh → b.count.toNat = 1 → s.msgs.buffer k = .empty → k = .buffer0 ∨ s.msgs.buffer0 ≠ .empty →
        let m : InMessage := ⟨b.tag, b.flags.getLsbD 0, b.flags.getLsbD 1, false, [some b.text], s.link.clock, s.msgs.stamp + 1⟩
        (s.msgs.deposit ≠ none → exec (.text h b) s = .next { s with
          msgs := { s.msgs.setBuffer k (.closed m) with stamp := s.msgs.stamp + 2 } }) ∧
        (s.msgs.deposit = none → (∀ j, j ≠ k → (s.msgs.buffer j).message? = none) →
          ∃ t, exec (.text h b) s = .next t ∧ messagesOnly t ∧ judged t m ∧ t.msgs.buffer k = .empty ∧
            ∀ j, j ≠ k → t.msgs.buffer j = s.msgs.buffer j)) ∧
      (∀ (k j : BufferId) a, ¬bad → fresh → b.count.toNat = 1 → k ≠ j → s.msgs.buffer k = .assembling a →
        (s.msgs.deposit ≠ none ∧ (s.msgs.buffer j).message? ≠ none) ∨
          (∃ x, s.msgs.buffer j = .assembling x ∧ a.begun < x.begun) →
        let m : InMessage := ⟨a.tag, a.urgent, a.ackRequired, true, a.parts, s.link.clock, s.msgs.stamp⟩
        ∃ u, exec (.text h b) s = exec (.text h b) u ∧ u.msgs.buffer k = .empty ∧ u.msgs.buffer j = s.msgs.buffer j ∧ messagesOnly u ∧
          (s.msgs.deposit = none → judged u m) ∧
          (s.msgs.deposit ≠ none → u.msgs.deposit = s.msgs.deposit ∧ u.path = s.path ∧ u.sched = s.sched ∧
            (m.tag ∈ s.msgs.delivered → u.page = s.page) ∧
            (m.tag ∉ s.msgs.delivered → u.page.counters.messagesDropped = satAdd s.page.counters.messagesDropped 1#16)))) ∧
    (∀ tag, s.hears h (.ackOfText tag) = true →
      (∀ m, s.msgs.flight = .flight m → m.tag = tag → ∃ t, exec (.ackOfText h tag) s = .next t ∧ messagesOnly t ∧ t.page = s.page ∧
        t.msgs = { s.msgs with flight := .completing ⟨.delivered, tag, m.at_, true, m.after⟩ } ∧
        t.path = { s.path with queue := s.path.queue ++ [⟨.outboundCompletion, 0⟩] }) ∧
      ((∀ m, s.msgs.flight = .flight m → m.tag ≠ tag) → exec (.ackOfText h tag) s = .next s)) ∧
    (∀ n, s.hears h (.alertAck n) = true →
      (s.emerg.state = .alerting → n = s.emerg.number → ∃ t, exec (.alertAck h n) s = .next t ∧ emergencyOnly t ∧
        t.sched.statusPlace = s.sched.statusPlace ∧
        t.emerg = { s.emerg with
          state := .acked, repeatLeft := some 10, ackedAt := s.link.clock, causeWaits := true, owed := owed }) ∧
      (s.emerg.state ≠ .alerting ∨ n ≠ s.emerg.number → exec (.alertAck h n) s = .next s)) ∧
    (∀ n, s.hears h (.alertCancel n) = true →
      (s.emerg.state = .alerting ∨ s.emerg.state = .acked → n = s.emerg.number →
        ∃ t, exec (.alertCancel h n) s = .next t ∧ emergencyOnly t ∧ t.sched.alertAttempts = 0 ∧
          t.sched.statusPlace = some t.statusReport ∧ t.lampLaw ∧
          t.emerg = { s.emerg with
            state := .clear, repeatLeft := none, cancelledAt := s.link.clock, guardHeld := true, causeWaits := true, owed := owed }) ∧
      ((s.emerg.state ≠ .alerting ∧ s.emerg.state ≠ .acked) ∨ n ≠ s.emerg.number → exec (.alertCancel h n) s = .next s)) ∧
    ∀ cabs, s.hears h (.wake cabs) = true →
      let ours := cabs.length = 6 ∧ ∀ c ∈ cabs, s.power.image.map (·.cab) = some c
      (ours → s.power.power = .standby → ∃ t, exec (.wake h cabs) s = .next t ∧
        t.power = { s.power with power := .active, park := false, reason := { s.power.reason with radio := true } } ∧
        t.pins.wake = true ∧ s.raises t 0x100#13 ∧ t.lampLaw ∧ t.mem = s.mem ∧ t.path = s.path ∧ t.link = s.link ∧ t.offers = s.offers ∧
        t.trips = s.trips ∧ t.msgs = s.msgs ∧ t.emerg = s.emerg ∧ t.status = s.status) ∧
      (¬ours ∨ s.power.power ≠ .standby → exec (.wake h cabs) s = .next s)

end
end

