-- ==== Sys2Proof/Laws/Blocks.lean ====
section
/-! SUPPORT. What each operation on one block leaves unchanged in it; every lemma is a rewriting rule. -/

namespace Sys2Proof.Machine

@[simp] theorem Scheduler.leave_fields (x : Scheduler) (c : Contender) :
    (Scheduler.leave x c).joinPlace = x.joinPlace ∧ (Scheduler.leave x c).joinAttempts = x.joinAttempts ∧
          (Scheduler.leave x c).alertPlace = x.alertPlace ∧ (Scheduler.leave x c).alertAttempts = x.alertAttempts ∧
          (Scheduler.leave x c).acks = x.acks ∧ (Scheduler.leave x c).bids = x.bids ∧ (Scheduler.leave x c).flowPlace = x.flowPlace ∧
          (Scheduler.leave x c).slotRequest = x.slotRequest ∧ (Scheduler.leave x c).statusPlace = x.statusPlace ∧
          (Scheduler.leave x c).long = x.long ∧ (Scheduler.leave x c).requests = x.requests ∧ (Scheduler.leave x c).grant = x.grant ∧
          (Scheduler.leave x c).draws = x.draws ∧ (Scheduler.leave x c).seed = x.seed := by
  unfold Scheduler.leave; (repeat' split) <;> simp

@[simp] theorem Scheduler.dropBid_fields (x : Scheduler) (j : DWord) :
    (Scheduler.dropBid x j).joinPlace = x.joinPlace ∧ (Scheduler.dropBid x j).joinAttempts = x.joinAttempts ∧
          (Scheduler.dropBid x j).alertPlace = x.alertPlace ∧ (Scheduler.dropBid x j).alertAttempts = x.alertAttempts ∧
          (Scheduler.dropBid x j).acks = x.acks ∧ (Scheduler.dropBid x j).flowPlace = x.flowPlace ∧
          (Scheduler.dropBid x j).slotRequest = x.slotRequest ∧ (Scheduler.dropBid x j).statusPlace = x.statusPlace ∧
          (Scheduler.dropBid x j).long = x.long ∧ (Scheduler.dropBid x j).requests = x.requests ∧
          (Scheduler.dropBid x j).grant = x.grant ∧ (Scheduler.dropBid x j).draws = x.draws ∧ (Scheduler.dropBid x j).seed = x.seed := by
  unfold Scheduler.dropBid; (repeat' split) <;> simp

@[simp] theorem Scheduler.makeRoomForBid_fields (x : Scheduler) :
    (Scheduler.makeRoomForBid x).joinPlace = x.joinPlace ∧ (Scheduler.makeRoomForBid x).joinAttempts = x.joinAttempts ∧
          (Scheduler.makeRoomForBid x).alertPlace = x.alertPlace ∧ (Scheduler.makeRoomForBid x).alertAttempts = x.alertAttempts ∧
          (Scheduler.makeRoomForBid x).acks = x.acks ∧ (Scheduler.makeRoomForBid x).flowPlace = x.flowPlace ∧
          (Scheduler.makeRoomForBid x).slotRequest = x.slotRequest ∧ (Scheduler.makeRoomForBid x).statusPlace = x.statusPlace ∧
          (Scheduler.makeRoomForBid x).long = x.long ∧ (Scheduler.makeRoomForBid x).requests = x.requests ∧
          (Scheduler.makeRoomForBid x).grant = x.grant ∧ (Scheduler.makeRoomForBid x).draws = x.draws ∧
          (Scheduler.makeRoomForBid x).seed = x.seed := by
  unfold Scheduler.makeRoomForBid; (repeat' split) <;> simp

@[simp] theorem Scheduler.addBid_fields (x : Scheduler) (j : DWord) (c : BidCode) :
    (Scheduler.addBid x j c).joinPlace = x.joinPlace ∧ (Scheduler.addBid x j c).joinAttempts = x.joinAttempts ∧
          (Scheduler.addBid x j c).alertPlace = x.alertPlace ∧ (Scheduler.addBid x j c).alertAttempts = x.alertAttempts ∧
          (Scheduler.addBid x j c).acks = x.acks ∧ (Scheduler.addBid x j c).flowPlace = x.flowPlace ∧
          (Scheduler.addBid x j c).slotRequest = x.slotRequest ∧ (Scheduler.addBid x j c).statusPlace = x.statusPlace ∧
          (Scheduler.addBid x j c).long = x.long ∧ (Scheduler.addBid x j c).requests = x.requests ∧
          (Scheduler.addBid x j c).grant = x.grant ∧ (Scheduler.addBid x j c).draws = x.draws ∧ (Scheduler.addBid x j c).seed = x.seed := by
  unfold Scheduler.addBid; (repeat' split) <;> simp

@[simp] theorem Scheduler.addAck_fields (x : Scheduler) (t : Word) :
    (Scheduler.addAck x t).joinPlace = x.joinPlace ∧ (Scheduler.addAck x t).joinAttempts = x.joinAttempts ∧
          (Scheduler.addAck x t).alertPlace = x.alertPlace ∧ (Scheduler.addAck x t).alertAttempts = x.alertAttempts ∧
          (Scheduler.addAck x t).bids = x.bids ∧ (Scheduler.addAck x t).flowPlace = x.flowPlace ∧
          (Scheduler.addAck x t).slotRequest = x.slotRequest ∧ (Scheduler.addAck x t).statusPlace = x.statusPlace ∧
          (Scheduler.addAck x t).contention = x.contention ∧ (Scheduler.addAck x t).long = x.long ∧
          (Scheduler.addAck x t).requests = x.requests ∧ (Scheduler.addAck x t).grant = x.grant ∧
          (Scheduler.addAck x t).draws = x.draws ∧ (Scheduler.addAck x t).seed = x.seed := by
  unfold Scheduler.addAck; (repeat' split) <;> simp

@[simp] theorem Scheduler.emptySlotRequest_fields (x : Scheduler) :
    (Scheduler.emptySlotRequest x).joinPlace = x.joinPlace ∧ (Scheduler.emptySlotRequest x).joinAttempts = x.joinAttempts ∧
          (Scheduler.emptySlotRequest x).alertPlace = x.alertPlace ∧ (Scheduler.emptySlotRequest x).alertAttempts = x.alertAttempts ∧
          (Scheduler.emptySlotRequest x).acks = x.acks ∧ (Scheduler.emptySlotRequest x).bids = x.bids ∧
          (Scheduler.emptySlotRequest x).flowPlace = x.flowPlace ∧ (Scheduler.emptySlotRequest x).statusPlace = x.statusPlace ∧
          (Scheduler.emptySlotRequest x).long = x.long ∧ (Scheduler.emptySlotRequest x).requests = x.requests ∧
          (Scheduler.emptySlotRequest x).grant = x.grant ∧ (Scheduler.emptySlotRequest x).draws = x.draws ∧
          (Scheduler.emptySlotRequest x).seed = x.seed := by
  unfold Scheduler.emptySlotRequest; (repeat' split) <;> simp

@[simp] theorem Scheduler.requestSent_fields (x : Scheduler) :
    (Scheduler.requestSent x).joinPlace = x.joinPlace ∧ (Scheduler.requestSent x).joinAttempts = x.joinAttempts ∧
          (Scheduler.requestSent x).alertPlace = x.alertPlace ∧ (Scheduler.requestSent x).alertAttempts = x.alertAttempts ∧
          (Scheduler.requestSent x).acks = x.acks ∧ (Scheduler.requestSent x).bids = x.bids ∧
          (Scheduler.requestSent x).flowPlace = x.flowPlace ∧ (Scheduler.requestSent x).statusPlace = x.statusPlace ∧
          (Scheduler.requestSent x).contention = x.contention ∧ (Scheduler.requestSent x).grant = x.grant ∧
          (Scheduler.requestSent x).draws = x.draws ∧ (Scheduler.requestSent x).seed = x.seed := by
  unfold Scheduler.requestSent; (repeat' split) <;> simp

@[simp] theorem Scheduler.heard_fields (x : Scheduler) (c : Contender) :
    (Scheduler.heard x c).joinAttempts = x.joinAttempts ∧ (Scheduler.heard x c).alertPlace = x.alertPlace ∧
          (Scheduler.heard x c).acks = x.acks ∧ (Scheduler.heard x c).flowPlace = x.flowPlace ∧
          (Scheduler.heard x c).statusPlace = x.statusPlace ∧ (Scheduler.heard x c).grant = x.grant ∧
          (Scheduler.heard x c).draws = x.draws ∧ (Scheduler.heard x c).seed = x.seed := by
  unfold Scheduler.heard; (repeat' split) <;> simp

@[simp] theorem Scheduler.newContender_fields (x : Scheduler) (c : Contender) :
    (Scheduler.newContender x c).joinPlace = x.joinPlace ∧ (Scheduler.newContender x c).joinAttempts = x.joinAttempts ∧
          (Scheduler.newContender x c).alertPlace = x.alertPlace ∧ (Scheduler.newContender x c).alertAttempts = x.alertAttempts ∧
          (Scheduler.newContender x c).acks = x.acks ∧ (Scheduler.newContender x c).bids = x.bids ∧
          (Scheduler.newContender x c).flowPlace = x.flowPlace ∧ (Scheduler.newContender x c).slotRequest = x.slotRequest ∧
          (Scheduler.newContender x c).statusPlace = x.statusPlace ∧ (Scheduler.newContender x c).long = x.long ∧
          (Scheduler.newContender x c).requests = x.requests ∧ (Scheduler.newContender x c).grant = x.grant ∧
          (Scheduler.newContender x c).seed = x.seed := by
  unfold Scheduler.newContender; (repeat' split) <;> simp

@[simp] theorem Scheduler.bidFails_fields (x : Scheduler) (j : DWord) :
    (Scheduler.bidFails x j).joinPlace = x.joinPlace ∧ (Scheduler.bidFails x j).joinAttempts = x.joinAttempts ∧
          (Scheduler.bidFails x j).alertPlace = x.alertPlace ∧ (Scheduler.bidFails x j).alertAttempts = x.alertAttempts ∧
          (Scheduler.bidFails x j).acks = x.acks ∧ (Scheduler.bidFails x j).flowPlace = x.flowPlace ∧
          (Scheduler.bidFails x j).slotRequest = x.slotRequest ∧ (Scheduler.bidFails x j).statusPlace = x.statusPlace ∧
          (Scheduler.bidFails x j).contention = x.contention ∧ (Scheduler.bidFails x j).long = x.long ∧
          (Scheduler.bidFails x j).requests = x.requests ∧ (Scheduler.bidFails x j).grant = x.grant ∧
          (Scheduler.bidFails x j).draws = x.draws ∧ (Scheduler.bidFails x j).seed = x.seed := by
  unfold Scheduler.bidFails; (repeat' split) <;> simp

@[simp] theorem Scheduler.slotRequestFails_fields (x : Scheduler) :
    (Scheduler.slotRequestFails x).joinPlace = x.joinPlace ∧ (Scheduler.slotRequestFails x).joinAttempts = x.joinAttempts ∧
          (Scheduler.slotRequestFails x).alertPlace = x.alertPlace ∧ (Scheduler.slotRequestFails x).alertAttempts = x.alertAttempts ∧
          (Scheduler.slotRequestFails x).acks = x.acks ∧ (Scheduler.slotRequestFails x).bids = x.bids ∧
          (Scheduler.slotRequestFails x).flowPlace = x.flowPlace ∧ (Scheduler.slotRequestFails x).statusPlace = x.statusPlace ∧
          (Scheduler.slotRequestFails x).contention = x.contention ∧ (Scheduler.slotRequestFails x).long = x.long ∧
          (Scheduler.slotRequestFails x).requests = x.requests ∧ (Scheduler.slotRequestFails x).grant = x.grant ∧
          (Scheduler.slotRequestFails x).draws = x.draws ∧ (Scheduler.slotRequestFails x).seed = x.seed := by
  unfold Scheduler.slotRequestFails; (repeat' split) <;> simp

@[simp] theorem Scheduler.clearWorking_fields (x : Scheduler) :
    (Scheduler.clearWorking x).joinPlace = x.joinPlace ∧ (Scheduler.clearWorking x).joinAttempts = x.joinAttempts ∧
          (Scheduler.clearWorking x).alertPlace = x.alertPlace ∧ (Scheduler.clearWorking x).acks = x.acks ∧
          (Scheduler.clearWorking x).flowPlace = x.flowPlace ∧ (Scheduler.clearWorking x).statusPlace = x.statusPlace ∧
          (Scheduler.clearWorking x).draws = x.draws ∧ (Scheduler.clearWorking x).seed = x.seed := by
  unfold Scheduler.clearWorking; (repeat' split) <;> simp

@[simp] theorem Scheduler.clearJoin_fields (x : Scheduler) :
    (Scheduler.clearJoin x).joinAttempts = x.joinAttempts ∧ (Scheduler.clearJoin x).alertPlace = x.alertPlace ∧
          (Scheduler.clearJoin x).alertAttempts = x.alertAttempts ∧ (Scheduler.clearJoin x).acks = x.acks ∧
          (Scheduler.clearJoin x).bids = x.bids ∧ (Scheduler.clearJoin x).flowPlace = x.flowPlace ∧
          (Scheduler.clearJoin x).slotRequest = x.slotRequest ∧ (Scheduler.clearJoin x).statusPlace = x.statusPlace ∧
          (Scheduler.clearJoin x).long = x.long ∧ (Scheduler.clearJoin x).requests = x.requests ∧
          (Scheduler.clearJoin x).grant = x.grant ∧ (Scheduler.clearJoin x).draws = x.draws ∧ (Scheduler.clearJoin x).seed = x.seed := by
  unfold Scheduler.clearJoin; (repeat' split) <;> simp

@[simp] theorem Scheduler.softReset_fields (x : Scheduler) :
    (Scheduler.softReset x).alertPlace = x.alertPlace ∧ (Scheduler.softReset x).draws = x.draws ∧
          (Scheduler.softReset x).seed = x.seed := by
  unfold Scheduler.softReset; (repeat' split) <;> simp

@[simp] theorem Transceiver.apply_fields (x : Transceiver) (o : Order) :
    (Transceiver.apply x o).sending = x.sending ∧ (Transceiver.apply x o).deferred = x.deferred ∧
          (Transceiver.apply x o).output = x.output := by
  unfold Transceiver.apply; (repeat' split) <;> simp

@[simp] theorem Transceiver.beginSend_fields (x : Transceiver) (n : FrameName) (v : Via) (k : Nat) (f : List Byte) :
    (Transceiver.beginSend x n v k f).receiverOn = x.receiverOn ∧ (Transceiver.beginSend x n v k f).channel = x.channel ∧
          (Transceiver.beginSend x n v k f).deferred = x.deferred := by
  unfold Transceiver.beginSend; (repeat' split) <;> simp

@[simp] theorem Transceiver.leave_fields (x : Transceiver) (n : FrameName) :
    (Transceiver.leave x n).receiverOn = x.receiverOn ∧ (Transceiver.leave x n).channel = x.channel ∧
          (Transceiver.leave x n).deferred = x.deferred ∧ (Transceiver.leave x n).output = x.output := by
  unfold Transceiver.leave; (repeat' split) <;> simp

@[simp] theorem Transceiver.leaveAll_fields (x : Transceiver) (ns : List FrameName) :
    (Transceiver.leaveAll x ns).receiverOn = x.receiverOn ∧ (Transceiver.leaveAll x ns).channel = x.channel ∧
          (Transceiver.leaveAll x ns).deferred = x.deferred ∧ (Transceiver.leaveAll x ns).output = x.output := by
  induction ns generalizing x with
  | nil => simp [Transceiver.leaveAll]
  | cons n ns ih => simpa [Transceiver.leaveAll] using ih (x.leave n)

@[simp] theorem Transceiver.leaveText_fields (x : Transceiver) :
    (Transceiver.leaveText x).receiverOn = x.receiverOn ∧ (Transceiver.leaveText x).channel = x.channel ∧
          (Transceiver.leaveText x).deferred = x.deferred ∧ (Transceiver.leaveText x).output = x.output := by
  unfold Transceiver.leaveText; (repeat' split) <;> simp

@[simp] theorem Transceiver.forgetShort_fields (x : Transceiver) :
    (Transceiver.forgetShort x).receiverOn = x.receiverOn ∧ (Transceiver.forgetShort x).channel = x.channel ∧
          (Transceiver.forgetShort x).deferred = x.deferred ∧ (Transceiver.forgetShort x).output = x.output := by
  unfold Transceiver.forgetShort; (repeat' split) <;> simp

@[simp] theorem OfferEngine.setEntry_fields (x : OfferEngine) (n : Fin 16) (e : OfferEntry) :
    (OfferEngine.setEntry x n e).order = x.order := by
  unfold OfferEngine.setEntry; (repeat' split) <;> simp

@[simp] theorem OfferEngine.forget_fields (x : OfferEngine) (n : Fin 16) :
    (OfferEngine.forget x n).entries = x.entries := by
  unfold OfferEngine.forget; (repeat' split) <;> simp

@[simp] theorem OfferEngine.newest_fields (x : OfferEngine) (n : Fin 16) :
    (OfferEngine.newest x n).entries = x.entries := by
  unfold OfferEngine.newest; (repeat' split) <;> simp

@[simp] theorem OfferEngine.update_fields (x : OfferEngine) (n : Fin 16) (f : OfferEntry → OfferEntry) (cs : List Cause) :
    (OfferEngine.update x n f cs).order = x.order := by
  unfold OfferEngine.update; (repeat' split) <;> simp

@[simp] theorem OfferEngine.attach_fields (x : OfferEngine) (n : Fin 16) (cs : List Cause) :
    (OfferEngine.attach x n cs).order = x.order := by
  unfold OfferEngine.attach; (repeat' split) <;> simp

@[simp] theorem MessageEngine.setRing_fields (x : MessageEngine) (i : RingId) (r : Ring) :
    (MessageEngine.setRing x i r).flight = x.flight ∧ (MessageEngine.setRing x i r).buffer0 = x.buffer0 ∧
          (MessageEngine.setRing x i r).buffer1 = x.buffer1 ∧ (MessageEngine.setRing x i r).stamp = x.stamp ∧
          (MessageEngine.setRing x i r).deposit = x.deposit ∧ (MessageEngine.setRing x i r).delivered = x.delivered ∧
          (MessageEngine.setRing x i r).paused = x.paused ∧ (MessageEngine.setRing x i r).pauseAt = x.pauseAt ∧
          (MessageEngine.setRing x i r).resumeAt = x.resumeAt ∧ (MessageEngine.setRing x i r).lastOut = x.lastOut := by
  cases i <;> simp [MessageEngine.setRing]

@[simp] theorem MessageEngine.setBuffer_fields (x : MessageEngine) (b : BufferId) (v : Buffer) :
    (MessageEngine.setBuffer x b v).outbound = x.outbound ∧ (MessageEngine.setBuffer x b v).inbound = x.inbound ∧
          (MessageEngine.setBuffer x b v).triplog = x.triplog ∧ (MessageEngine.setBuffer x b v).flight = x.flight ∧
          (MessageEngine.setBuffer x b v).stamp = x.stamp ∧ (MessageEngine.setBuffer x b v).deposit = x.deposit ∧
          (MessageEngine.setBuffer x b v).delivered = x.delivered ∧ (MessageEngine.setBuffer x b v).paused = x.paused ∧
          (MessageEngine.setBuffer x b v).pauseAt = x.pauseAt ∧ (MessageEngine.setBuffer x b v).resumeAt = x.resumeAt ∧
          (MessageEngine.setBuffer x b v).lastOut = x.lastOut := by
  cases b <;> simp [MessageEngine.setBuffer]

@[simp] theorem MessageEngine.tick_fields (x : MessageEngine) :
    (MessageEngine.tick x).outbound = x.outbound ∧ (MessageEngine.tick x).inbound = x.inbound ∧
          (MessageEngine.tick x).triplog = x.triplog ∧ (MessageEngine.tick x).stamp = x.stamp ∧
          (MessageEngine.tick x).deposit = x.deposit ∧ (MessageEngine.tick x).delivered = x.delivered ∧
          (MessageEngine.tick x).paused = x.paused ∧ (MessageEngine.tick x).pauseAt = x.pauseAt ∧
          (MessageEngine.tick x).resumeAt = x.resumeAt ∧ (MessageEngine.tick x).lastOut = x.lastOut := by
  unfold MessageEngine.tick; (repeat' split) <;> simp

@[simp] theorem MemoryPath.requestRewrite_fields (x : MemoryPath) (k : OpKind) :
    (MemoryPath.requestRewrite x k).asel = x.asel ∧ (MemoryPath.requestRewrite x k).inReset = x.inReset ∧
          (MemoryPath.requestRewrite x k).buffer = x.buffer ∧ (MemoryPath.requestRewrite x k).drain = x.drain ∧
          (MemoryPath.requestRewrite x k).under = x.under ∧ (MemoryPath.requestRewrite x k).internal = x.internal ∧
          (MemoryPath.requestRewrite x k).fairness = x.fairness ∧ (MemoryPath.requestRewrite x k).resetDrain = x.resetDrain ∧
          (MemoryPath.requestRewrite x k).held = x.held ∧ (MemoryPath.requestRewrite x k).answer = x.answer := by
  unfold MemoryPath.requestRewrite; (repeat' split) <;> simp

@[simp] theorem MemoryPath.requestWrite_fields (x : MemoryPath) (k : OpKind) :
    (MemoryPath.requestWrite x k).asel = x.asel ∧ (MemoryPath.requestWrite x k).inReset = x.inReset ∧
          (MemoryPath.requestWrite x k).buffer = x.buffer ∧ (MemoryPath.requestWrite x k).drain = x.drain ∧
          (MemoryPath.requestWrite x k).under = x.under ∧ (MemoryPath.requestWrite x k).internal = x.internal ∧
          (MemoryPath.requestWrite x k).fairness = x.fairness ∧ (MemoryPath.requestWrite x k).resetDrain = x.resetDrain ∧
          (MemoryPath.requestWrite x k).held = x.held ∧ (MemoryPath.requestWrite x k).answer = x.answer := by
  unfold MemoryPath.requestWrite; (repeat' split) <;> simp

@[simp] theorem MemoryPath.requestRead_fields (x : MemoryPath) (k : OpKind) :
    (MemoryPath.requestRead x k).asel = x.asel ∧ (MemoryPath.requestRead x k).inReset = x.inReset ∧
          (MemoryPath.requestRead x k).buffer = x.buffer ∧ (MemoryPath.requestRead x k).drain = x.drain ∧
          (MemoryPath.requestRead x k).under = x.under ∧ (MemoryPath.requestRead x k).internal = x.internal ∧
          (MemoryPath.requestRead x k).fairness = x.fairness ∧ (MemoryPath.requestRead x k).resetDrain = x.resetDrain ∧
          (MemoryPath.requestRead x k).held = x.held ∧ (MemoryPath.requestRead x k).answer = x.answer := by
  unfold MemoryPath.requestRead; (repeat' split) <;> simp

@[simp] theorem MemoryPath.processorGrant_fields (x : MemoryPath) :
    (MemoryPath.processorGrant x).asel = x.asel ∧ (MemoryPath.processorGrant x).inReset = x.inReset ∧
          (MemoryPath.processorGrant x).buffer = x.buffer ∧ (MemoryPath.processorGrant x).drain = x.drain ∧
          (MemoryPath.processorGrant x).queue = x.queue ∧ (MemoryPath.processorGrant x).under = x.under ∧
          (MemoryPath.processorGrant x).internal = x.internal ∧ (MemoryPath.processorGrant x).resetDrain = x.resetDrain ∧
          (MemoryPath.processorGrant x).held = x.held ∧ (MemoryPath.processorGrant x).answer = x.answer := by
  unfold MemoryPath.processorGrant; (repeat' split) <;> simp

@[simp] theorem MemoryPath.arbitrate_fields (x : MemoryPath) :
    (MemoryPath.arbitrate x).asel = x.asel ∧ (MemoryPath.arbitrate x).inReset = x.inReset ∧ (MemoryPath.arbitrate x).buffer = x.buffer ∧
          (MemoryPath.arbitrate x).drain = x.drain ∧ (MemoryPath.arbitrate x).queue = x.queue ∧
          (MemoryPath.arbitrate x).under = x.under ∧ (MemoryPath.arbitrate x).resetDrain = x.resetDrain ∧
          (MemoryPath.arbitrate x).held = x.held ∧ (MemoryPath.arbitrate x).answer = x.answer := by
  unfold MemoryPath.arbitrate; (repeat' split) <;> simp

@[simp] theorem MemoryPath.giveTurn_fields (x : MemoryPath) :
    (MemoryPath.giveTurn x).asel = x.asel ∧ (MemoryPath.giveTurn x).inReset = x.inReset ∧ (MemoryPath.giveTurn x).buffer = x.buffer ∧
          (MemoryPath.giveTurn x).drain = x.drain ∧ (MemoryPath.giveTurn x).queue = x.queue ∧ (MemoryPath.giveTurn x).under = x.under ∧
          (MemoryPath.giveTurn x).resetDrain = x.resetDrain ∧ (MemoryPath.giveTurn x).held = x.held ∧
          (MemoryPath.giveTurn x).answer = x.answer := by
  unfold MemoryPath.giveTurn; (repeat' split) <;> simp

@[simp] theorem MemoryPath.drained_fields (x : MemoryPath) :
    (MemoryPath.drained x).asel = x.asel ∧ (MemoryPath.drained x).inReset = x.inReset ∧ (MemoryPath.drained x).internal = x.internal ∧
          (MemoryPath.drained x).fairness = x.fairness ∧ (MemoryPath.drained x).resetDrain = x.resetDrain ∧
          (MemoryPath.drained x).held = x.held ∧ (MemoryPath.drained x).answer = x.answer := by
  unfold MemoryPath.drained; (repeat' split) <;> simp

@[simp] theorem MemoryPath.softReset_fields (x : MemoryPath) :
    (MemoryPath.softReset x).asel = x.asel ∧ (MemoryPath.softReset x).inReset = x.inReset ∧ (MemoryPath.softReset x).drain = x.drain ∧
          (MemoryPath.softReset x).internal = x.internal ∧ (MemoryPath.softReset x).held = x.held ∧
          (MemoryPath.softReset x).answer = x.answer := by
  unfold MemoryPath.softReset; (repeat' split) <;> simp

@[simp] theorem EmergencyUnit.softReset_fields (x : EmergencyUnit) :
    (EmergencyUnit.softReset x).state = x.state ∧ (EmergencyUnit.softReset x).number = x.number ∧
          (EmergencyUnit.softReset x).source = x.source ∧ (EmergencyUnit.softReset x).raisedAt = x.raisedAt ∧
          (EmergencyUnit.softReset x).ackedAt = x.ackedAt ∧ (EmergencyUnit.softReset x).cancelledAt = x.cancelledAt ∧
          (EmergencyUnit.softReset x).sends = x.sends ∧ (EmergencyUnit.softReset x).hold = x.hold ∧
          (EmergencyUnit.softReset x).repeatLeft = x.repeatLeft ∧ (EmergencyUnit.softReset x).image = x.image ∧
          (EmergencyUnit.softReset x).owed = x.owed ∧ (EmergencyUnit.softReset x).guardHeld = x.guardHeld := by
  unfold EmergencyUnit.softReset; (repeat' split) <;> simp

@[simp] theorem TripEngine.unlist_fields (x : TripEngine) (r : TripRef) :
    (TripEngine.unlist x r).trip = x.trip ∧ (TripEngine.unlist x r).counter = x.counter ∧
          (TripEngine.unlist x r).components = x.components ∧ (TripEngine.unlist x r).silence = x.silence ∧
          (TripEngine.unlist x r).lastFault = x.lastFault ∧ (TripEngine.unlist x r).lastRef = x.lastRef ∧
          (TripEngine.unlist x r).deposit = x.deposit ∧ (TripEngine.unlist x r).pendingLog = x.pendingLog ∧
          (TripEngine.unlist x r).abandoned = x.abandoned ∧ (TripEngine.unlist x r).shiftReport = x.shiftReport ∧
          (TripEngine.unlist x r).totals = x.totals ∧ (TripEngine.unlist x r).captured = x.captured ∧
          (TripEngine.unlist x r).meterCopy = x.meterCopy ∧ (TripEngine.unlist x r).totalsCopy = x.totalsCopy := by
  unfold TripEngine.unlist; (repeat' split) <;> simp

@[simp] theorem LinkController.cleared_fields (x : LinkController) (l : LinkState) :
    (LinkController.cleared x l).channels = x.channels ∧ (LinkController.cleared x l).cycle = x.cycle ∧
          (LinkController.cleared x l).nextSlot = x.nextSlot ∧ (LinkController.cleared x l).window = x.window ∧
          (LinkController.cleared x l).beaconIn = x.beaconIn ∧ (LinkController.cleared x l).contention = x.contention ∧
          (LinkController.cleared x l).clock = x.clock ∧ (LinkController.cleared x l).clockUpper = x.clockUpper ∧
          (LinkController.cleared x l).seconds = x.seconds := by
  unfold LinkController.cleared; (repeat' split) <;> simp

@[simp] theorem MessageEngine.ring_setRing (m : MessageEngine) (i k : RingId) (r : Ring) :
    (m.setRing i r).ring k = if k = i then r else m.ring k := by
  cases i <;> cases k <;> rfl

@[simp] theorem MessageEngine.buffer_setBuffer (m : MessageEngine) (i k : BufferId) (v : Buffer) :
    (m.setBuffer i v).buffer k = if k = i then v else m.buffer k := by
  cases i <;> cases k <;> rfl

@[simp] theorem OfferEngine.entry_setEntry (t : OfferEngine) (n k : Fin 16) (e : OfferEntry) :
    (t.setEntry n e).entry k = if k = n then e else t.entry k := by
  simp only [OfferEngine.entry, OfferEngine.setEntry, Fin.getElem_fin, Vector.getElem_set]
  split
  · rename_i h; simp [Fin.ext h.symm]
  · rename_i h; rw [if_neg (fun e => h (by rw [e]))]

@[simp] theorem OfferEngine.entry_forget (t : OfferEngine) (n k : Fin 16) : (t.forget n).entry k = t.entry k := rfl

@[simp] theorem OfferEngine.entry_newest (t : OfferEngine) (n k : Fin 16) : (t.newest n).entry k = t.entry k := rfl

/-- An update changes its own entry alone; the sequence of that entry advances by 1 (R70). -/
theorem OfferEngine.entry_update (t : OfferEngine) (n k : Fin 16) (f : OfferEntry → OfferEntry) (cs : List Cause) :
    (t.update n f cs).entry k =
      if k = n then { f (t.entry n) with seq := (f (t.entry n)).seq + 1#8, causes := joinCauses (f (t.entry n)).causes cs }
      else t.entry k := by
  simp [OfferEngine.update]

end Sys2Proof.Machine
end

