-- ==== Sys2Proof/Laws/State.lean ====
section
/-! SUPPORT. What each operation of the machine leaves unchanged: one lemma for each operation, and every lemma is a rewriting rule. -/
namespace Sys2Proof.Machine
@[simp] theorem State.evaluateAttention_frame (s : State) :
    (State.evaluateAttention s).pending = s.pending ∧ (State.evaluateAttention s).mem = s.mem ∧
          (State.evaluateAttention s).path = s.path ∧ (State.evaluateAttention s).link = s.link ∧
          (State.evaluateAttention s).radio = s.radio ∧ (State.evaluateAttention s).sched = s.sched ∧
          (State.evaluateAttention s).offers = s.offers ∧ (State.evaluateAttention s).trips = s.trips ∧
          (State.evaluateAttention s).msgs = s.msgs ∧ (State.evaluateAttention s).emerg = s.emerg ∧
          (State.evaluateAttention s).status = s.status ∧ (State.evaluateAttention s).power = s.power := by
  unfold State.evaluateAttention; (repeat' split) <;> simp

@[simp] theorem State.raise_frame (c : Cause) (s : State) :
    (State.raise c s).pending = s.pending ∧ (State.raise c s).mem = s.mem ∧ (State.raise c s).path = s.path ∧
          (State.raise c s).link = s.link ∧ (State.raise c s).radio = s.radio ∧ (State.raise c s).sched = s.sched ∧
          (State.raise c s).offers = s.offers ∧ (State.raise c s).trips = s.trips ∧ (State.raise c s).msgs = s.msgs ∧
          (State.raise c s).emerg = s.emerg ∧ (State.raise c s).status = s.status ∧ (State.raise c s).power = s.power := by
  unfold State.raise; (repeat' split) <;> simp

@[simp] theorem State.raiseAll_frame (cs : List Cause) (s : State) :
    (State.raiseAll cs s).pending = s.pending ∧ (State.raiseAll cs s).mem = s.mem ∧ (State.raiseAll cs s).path = s.path ∧
          (State.raiseAll cs s).link = s.link ∧ (State.raiseAll cs s).radio = s.radio ∧ (State.raiseAll cs s).sched = s.sched ∧
          (State.raiseAll cs s).offers = s.offers ∧ (State.raiseAll cs s).trips = s.trips ∧ (State.raiseAll cs s).msgs = s.msgs ∧
          (State.raiseAll cs s).emerg = s.emerg ∧ (State.raiseAll cs s).status = s.status ∧ (State.raiseAll cs s).power = s.power := by
  induction cs generalizing s with
  | nil => simp [State.raiseAll]
  | cons c cs ih => simp [State.raiseAll, ih]

@[simp] theorem State.clearCauses_frame (l : Lanes) (d : Word) (s : State) :
    (State.clearCauses l d s).pending = s.pending ∧ (State.clearCauses l d s).mem = s.mem ∧ (State.clearCauses l d s).pins = s.pins ∧
          (State.clearCauses l d s).path = s.path ∧ (State.clearCauses l d s).link = s.link ∧ (State.clearCauses l d s).radio = s.radio ∧
          (State.clearCauses l d s).sched = s.sched ∧ (State.clearCauses l d s).offers = s.offers ∧
          (State.clearCauses l d s).trips = s.trips ∧ (State.clearCauses l d s).msgs = s.msgs ∧
          (State.clearCauses l d s).emerg = s.emerg ∧ (State.clearCauses l d s).status = s.status ∧
          (State.clearCauses l d s).power = s.power := by
  unfold State.clearCauses; (repeat' split) <;> simp

@[simp] theorem State.enableCauses_frame (l : Lanes) (d : Word) (s : State) :
    (State.enableCauses l d s).pending = s.pending ∧ (State.enableCauses l d s).mem = s.mem ∧ (State.enableCauses l d s).path = s.path ∧
          (State.enableCauses l d s).link = s.link ∧ (State.enableCauses l d s).radio = s.radio ∧
          (State.enableCauses l d s).sched = s.sched ∧ (State.enableCauses l d s).offers = s.offers ∧
          (State.enableCauses l d s).trips = s.trips ∧ (State.enableCauses l d s).msgs = s.msgs ∧
          (State.enableCauses l d s).emerg = s.emerg ∧ (State.enableCauses l d s).status = s.status ∧
          (State.enableCauses l d s).power = s.power := by
  unfold State.enableCauses; (repeat' split) <;> simp

@[simp] theorem State.attentionDone_frame (s : State) :
    (State.attentionDone s).pending = s.pending ∧ (State.attentionDone s).mem = s.mem ∧ (State.attentionDone s).path = s.path ∧
          (State.attentionDone s).link = s.link ∧ (State.attentionDone s).radio = s.radio ∧ (State.attentionDone s).sched = s.sched ∧
          (State.attentionDone s).offers = s.offers ∧ (State.attentionDone s).trips = s.trips ∧ (State.attentionDone s).msgs = s.msgs ∧
          (State.attentionDone s).emerg = s.emerg ∧ (State.attentionDone s).status = s.status ∧
          (State.attentionDone s).power = s.power := by
  unfold State.attentionDone; (repeat' split) <;> simp

@[simp] theorem State.count_frame (c : Counter) (s : State) :
    (State.count c s).pending = s.pending ∧ (State.count c s).mem = s.mem ∧ (State.count c s).pins = s.pins ∧
          (State.count c s).path = s.path ∧ (State.count c s).link = s.link ∧ (State.count c s).radio = s.radio ∧
          (State.count c s).sched = s.sched ∧ (State.count c s).offers = s.offers ∧ (State.count c s).trips = s.trips ∧
          (State.count c s).msgs = s.msgs ∧ (State.count c s).emerg = s.emerg ∧ (State.count c s).status = s.status ∧
          (State.count c s).power = s.power := by
  unfold State.count; (repeat' split) <;> simp

@[simp] theorem State.clearCounter_frame (c : Counter) (s : State) :
    (State.clearCounter c s).pending = s.pending ∧ (State.clearCounter c s).mem = s.mem ∧ (State.clearCounter c s).pins = s.pins ∧
          (State.clearCounter c s).path = s.path ∧ (State.clearCounter c s).link = s.link ∧ (State.clearCounter c s).radio = s.radio ∧
          (State.clearCounter c s).sched = s.sched ∧ (State.clearCounter c s).offers = s.offers ∧
          (State.clearCounter c s).trips = s.trips ∧ (State.clearCounter c s).msgs = s.msgs ∧ (State.clearCounter c s).emerg = s.emerg ∧
          (State.clearCounter c s).status = s.status ∧ (State.clearCounter c s).power = s.power := by
  unfold State.clearCounter; (repeat' split) <;> simp

@[simp] theorem State.requestRewrite_frame (k : OpKind) (s : State) :
    (State.requestRewrite k s).pending = s.pending ∧ (State.requestRewrite k s).mem = s.mem ∧ (State.requestRewrite k s).pins = s.pins ∧
          (State.requestRewrite k s).page = s.page ∧ (State.requestRewrite k s).link = s.link ∧
          (State.requestRewrite k s).radio = s.radio ∧ (State.requestRewrite k s).sched = s.sched ∧
          (State.requestRewrite k s).offers = s.offers ∧ (State.requestRewrite k s).trips = s.trips ∧
          (State.requestRewrite k s).msgs = s.msgs ∧ (State.requestRewrite k s).emerg = s.emerg ∧
          (State.requestRewrite k s).status = s.status ∧ (State.requestRewrite k s).power = s.power := by
  unfold State.requestRewrite; (repeat' split) <;> simp

@[simp] theorem State.requestWrite_frame (k : OpKind) (s : State) :
    (State.requestWrite k s).pending = s.pending ∧ (State.requestWrite k s).mem = s.mem ∧ (State.requestWrite k s).pins = s.pins ∧
          (State.requestWrite k s).page = s.page ∧ (State.requestWrite k s).link = s.link ∧ (State.requestWrite k s).radio = s.radio ∧
          (State.requestWrite k s).sched = s.sched ∧ (State.requestWrite k s).offers = s.offers ∧
          (State.requestWrite k s).trips = s.trips ∧ (State.requestWrite k s).msgs = s.msgs ∧ (State.requestWrite k s).emerg = s.emerg ∧
          (State.requestWrite k s).status = s.status ∧ (State.requestWrite k s).power = s.power := by
  unfold State.requestWrite; (repeat' split) <;> simp

@[simp] theorem State.requestRead_frame (k : OpKind) (s : State) :
    (State.requestRead k s).pending = s.pending ∧ (State.requestRead k s).mem = s.mem ∧ (State.requestRead k s).pins = s.pins ∧
          (State.requestRead k s).page = s.page ∧ (State.requestRead k s).link = s.link ∧ (State.requestRead k s).radio = s.radio ∧
          (State.requestRead k s).sched = s.sched ∧ (State.requestRead k s).offers = s.offers ∧ (State.requestRead k s).trips = s.trips ∧
          (State.requestRead k s).msgs = s.msgs ∧ (State.requestRead k s).emerg = s.emerg ∧ (State.requestRead k s).status = s.status ∧
          (State.requestRead k s).power = s.power := by
  unfold State.requestRead; (repeat' split) <;> simp

@[simp] theorem State.refreshReport_frame (s : State) :
    (State.refreshReport s).pending = s.pending ∧ (State.refreshReport s).mem = s.mem ∧ (State.refreshReport s).pins = s.pins ∧
          (State.refreshReport s).path = s.path ∧ (State.refreshReport s).page = s.page ∧ (State.refreshReport s).link = s.link ∧
          (State.refreshReport s).radio = s.radio ∧ (State.refreshReport s).offers = s.offers ∧ (State.refreshReport s).trips = s.trips ∧
          (State.refreshReport s).msgs = s.msgs ∧ (State.refreshReport s).emerg = s.emerg ∧ (State.refreshReport s).status = s.status ∧
          (State.refreshReport s).power = s.power := by
  unfold State.refreshReport; (repeat' split) <;> simp

@[simp] theorem State.driveLamps_frame (s : State) :
    (State.driveLamps s).pending = s.pending ∧ (State.driveLamps s).mem = s.mem ∧ (State.driveLamps s).path = s.path ∧
          (State.driveLamps s).page = s.page ∧ (State.driveLamps s).link = s.link ∧ (State.driveLamps s).radio = s.radio ∧
          (State.driveLamps s).sched = s.sched ∧ (State.driveLamps s).offers = s.offers ∧ (State.driveLamps s).trips = s.trips ∧
          (State.driveLamps s).msgs = s.msgs ∧ (State.driveLamps s).emerg = s.emerg ∧ (State.driveLamps s).status = s.status ∧
          (State.driveLamps s).power = s.power := by
  unfold State.driveLamps; (repeat' split) <;> simp

@[simp] theorem State.handOn_frame (s : State) :
    (State.handOn s).pending = s.pending ∧ (State.handOn s).mem = s.mem ∧ (State.handOn s).path = s.path ∧
          (State.handOn s).page = s.page ∧ (State.handOn s).link = s.link ∧ (State.handOn s).radio = s.radio ∧
          (State.handOn s).offers = s.offers ∧ (State.handOn s).trips = s.trips ∧ (State.handOn s).msgs = s.msgs ∧
          (State.handOn s).emerg = s.emerg ∧ (State.handOn s).status = s.status ∧ (State.handOn s).power = s.power := by
  unfold State.handOn; (repeat' split) <;> simp

@[simp] theorem State.setStatus_frame (c : CabStatus) (s : State) :
    (State.setStatus c s).pending = s.pending ∧ (State.setStatus c s).mem = s.mem ∧ (State.setStatus c s).path = s.path ∧
          (State.setStatus c s).page = s.page ∧ (State.setStatus c s).link = s.link ∧ (State.setStatus c s).radio = s.radio ∧
          (State.setStatus c s).offers = s.offers ∧ (State.setStatus c s).trips = s.trips ∧ (State.setStatus c s).msgs = s.msgs ∧
          (State.setStatus c s).emerg = s.emerg ∧ (State.setStatus c s).power = s.power := by
  unfold State.setStatus; (repeat' split) <;> simp

@[simp] theorem State.addBid_frame (j : DWord) (c : BidCode) (s : State) :
    (State.addBid j c s).pending = s.pending ∧ (State.addBid j c s).mem = s.mem ∧ (State.addBid j c s).pins = s.pins ∧
          (State.addBid j c s).path = s.path ∧ (State.addBid j c s).page = s.page ∧ (State.addBid j c s).link = s.link ∧
          (State.addBid j c s).offers = s.offers ∧ (State.addBid j c s).trips = s.trips ∧ (State.addBid j c s).msgs = s.msgs ∧
          (State.addBid j c s).emerg = s.emerg ∧ (State.addBid j c s).status = s.status ∧ (State.addBid j c s).power = s.power := by
  unfold State.addBid; (repeat' split) <;> simp

@[simp] theorem State.removeBid_frame (j : DWord) (s : State) :
    (State.removeBid j s).pending = s.pending ∧ (State.removeBid j s).mem = s.mem ∧ (State.removeBid j s).pins = s.pins ∧
          (State.removeBid j s).path = s.path ∧ (State.removeBid j s).page = s.page ∧ (State.removeBid j s).link = s.link ∧
          (State.removeBid j s).offers = s.offers ∧ (State.removeBid j s).trips = s.trips ∧ (State.removeBid j s).msgs = s.msgs ∧
          (State.removeBid j s).emerg = s.emerg ∧ (State.removeBid j s).status = s.status ∧ (State.removeBid j s).power = s.power := by
  unfold State.removeBid; (repeat' split) <;> simp

@[simp] theorem State.addAck_frame (t : Word) (s : State) :
    (State.addAck t s).pending = s.pending ∧ (State.addAck t s).mem = s.mem ∧ (State.addAck t s).pins = s.pins ∧
          (State.addAck t s).path = s.path ∧ (State.addAck t s).page = s.page ∧ (State.addAck t s).link = s.link ∧
          (State.addAck t s).offers = s.offers ∧ (State.addAck t s).trips = s.trips ∧ (State.addAck t s).msgs = s.msgs ∧
          (State.addAck t s).emerg = s.emerg ∧ (State.addAck t s).status = s.status ∧ (State.addAck t s).power = s.power := by
  unfold State.addAck; (repeat' split) <;> simp

@[simp] theorem State.fillFlow_frame (c : FlowCode) (s : State) :
    (State.fillFlow c s).pending = s.pending ∧ (State.fillFlow c s).mem = s.mem ∧ (State.fillFlow c s).pins = s.pins ∧
          (State.fillFlow c s).path = s.path ∧ (State.fillFlow c s).page = s.page ∧ (State.fillFlow c s).link = s.link ∧
          (State.fillFlow c s).offers = s.offers ∧ (State.fillFlow c s).trips = s.trips ∧ (State.fillFlow c s).msgs = s.msgs ∧
          (State.fillFlow c s).emerg = s.emerg ∧ (State.fillFlow c s).status = s.status ∧ (State.fillFlow c s).power = s.power := by
  unfold State.fillFlow; (repeat' split) <;> simp

@[simp] theorem State.refillAlert_frame (s : State) :
    (State.refillAlert s).pending = s.pending ∧ (State.refillAlert s).mem = s.mem ∧ (State.refillAlert s).pins = s.pins ∧
          (State.refillAlert s).path = s.path ∧ (State.refillAlert s).page = s.page ∧ (State.refillAlert s).link = s.link ∧
          (State.refillAlert s).radio = s.radio ∧ (State.refillAlert s).offers = s.offers ∧ (State.refillAlert s).trips = s.trips ∧
          (State.refillAlert s).msgs = s.msgs ∧ (State.refillAlert s).emerg = s.emerg ∧ (State.refillAlert s).status = s.status ∧
          (State.refillAlert s).power = s.power := by
  unfold State.refillAlert; (repeat' split) <;> simp

@[simp] theorem State.emptyAlert_frame (s : State) :
    (State.emptyAlert s).pending = s.pending ∧ (State.emptyAlert s).mem = s.mem ∧ (State.emptyAlert s).pins = s.pins ∧
          (State.emptyAlert s).path = s.path ∧ (State.emptyAlert s).page = s.page ∧ (State.emptyAlert s).link = s.link ∧
          (State.emptyAlert s).radio = s.radio ∧ (State.emptyAlert s).offers = s.offers ∧ (State.emptyAlert s).trips = s.trips ∧
          (State.emptyAlert s).msgs = s.msgs ∧ (State.emptyAlert s).emerg = s.emerg ∧ (State.emptyAlert s).status = s.status ∧
          (State.emptyAlert s).power = s.power := by
  unfold State.emptyAlert; (repeat' split) <;> simp

@[simp] theorem State.emptySlotRequest_frame (s : State) :
    (State.emptySlotRequest s).pending = s.pending ∧ (State.emptySlotRequest s).mem = s.mem ∧ (State.emptySlotRequest s).pins = s.pins ∧
          (State.emptySlotRequest s).path = s.path ∧ (State.emptySlotRequest s).page = s.page ∧
          (State.emptySlotRequest s).link = s.link ∧ (State.emptySlotRequest s).offers = s.offers ∧
          (State.emptySlotRequest s).trips = s.trips ∧ (State.emptySlotRequest s).msgs = s.msgs ∧
          (State.emptySlotRequest s).emerg = s.emerg ∧ (State.emptySlotRequest s).status = s.status ∧
          (State.emptySlotRequest s).power = s.power := by
  unfold State.emptySlotRequest; (repeat' split) <;> simp

@[simp] theorem State.settleLong_frame (s : State) :
    (State.settleLong s).pending = s.pending ∧ (State.settleLong s).mem = s.mem ∧ (State.settleLong s).pins = s.pins ∧
          (State.settleLong s).path = s.path ∧ (State.settleLong s).page = s.page ∧ (State.settleLong s).link = s.link ∧
          (State.settleLong s).offers = s.offers ∧ (State.settleLong s).trips = s.trips ∧ (State.settleLong s).msgs = s.msgs ∧
          (State.settleLong s).emerg = s.emerg ∧ (State.settleLong s).status = s.status ∧ (State.settleLong s).power = s.power := by
  unfold State.settleLong; (repeat' split) <;> simp

@[simp] theorem State.grantWaitEnds_frame (s : State) :
    (State.grantWaitEnds s).pending = s.pending ∧ (State.grantWaitEnds s).mem = s.mem ∧ (State.grantWaitEnds s).pins = s.pins ∧
          (State.grantWaitEnds s).path = s.path ∧ (State.grantWaitEnds s).page = s.page ∧ (State.grantWaitEnds s).link = s.link ∧
          (State.grantWaitEnds s).radio = s.radio ∧ (State.grantWaitEnds s).offers = s.offers ∧ (State.grantWaitEnds s).trips = s.trips ∧
          (State.grantWaitEnds s).msgs = s.msgs ∧ (State.grantWaitEnds s).emerg = s.emerg ∧ (State.grantWaitEnds s).status = s.status ∧
          (State.grantWaitEnds s).power = s.power := by
  unfold State.grantWaitEnds; (repeat' split) <;> simp

@[simp] theorem State.endGrant_frame (s : State) :
    (State.endGrant s).pending = s.pending ∧ (State.endGrant s).mem = s.mem ∧ (State.endGrant s).pins = s.pins ∧
          (State.endGrant s).path = s.path ∧ (State.endGrant s).page = s.page ∧ (State.endGrant s).link = s.link ∧
          (State.endGrant s).offers = s.offers ∧ (State.endGrant s).trips = s.trips ∧ (State.endGrant s).msgs = s.msgs ∧
          (State.endGrant s).emerg = s.emerg ∧ (State.endGrant s).status = s.status ∧ (State.endGrant s).power = s.power := by
  unfold State.endGrant; (repeat' split) <;> simp

@[simp] theorem State.takeGrant_frame (c : Word) (b n : Byte) (s : State) :
    (State.takeGrant c b n s).pending = s.pending ∧ (State.takeGrant c b n s).mem = s.mem ∧ (State.takeGrant c b n s).pins = s.pins ∧
          (State.takeGrant c b n s).path = s.path ∧ (State.takeGrant c b n s).page = s.page ∧ (State.takeGrant c b n s).link = s.link ∧
          (State.takeGrant c b n s).offers = s.offers ∧ (State.takeGrant c b n s).trips = s.trips ∧
          (State.takeGrant c b n s).msgs = s.msgs ∧ (State.takeGrant c b n s).emerg = s.emerg ∧
          (State.takeGrant c b n s).status = s.status ∧ (State.takeGrant c b n s).power = s.power := by
  unfold State.takeGrant; (repeat' split) <;> simp

@[simp] theorem State.contenderChoice_frame (s : State) :
    (State.contenderChoice s).pending = s.pending ∧ (State.contenderChoice s).mem = s.mem ∧ (State.contenderChoice s).pins = s.pins ∧
          (State.contenderChoice s).path = s.path ∧ (State.contenderChoice s).page = s.page ∧ (State.contenderChoice s).link = s.link ∧
          (State.contenderChoice s).radio = s.radio ∧ (State.contenderChoice s).offers = s.offers ∧
          (State.contenderChoice s).trips = s.trips ∧ (State.contenderChoice s).msgs = s.msgs ∧
          (State.contenderChoice s).emerg = s.emerg ∧ (State.contenderChoice s).status = s.status ∧
          (State.contenderChoice s).power = s.power := by
  unfold State.contenderChoice; (repeat' split) <;> simp

@[simp] theorem State.drawSlot_frame (s : State) :
    (State.drawSlot s).pending = s.pending ∧ (State.drawSlot s).mem = s.mem ∧ (State.drawSlot s).pins = s.pins ∧
          (State.drawSlot s).path = s.path ∧ (State.drawSlot s).page = s.page ∧ (State.drawSlot s).link = s.link ∧
          (State.drawSlot s).radio = s.radio ∧ (State.drawSlot s).offers = s.offers ∧ (State.drawSlot s).trips = s.trips ∧
          (State.drawSlot s).msgs = s.msgs ∧ (State.drawSlot s).emerg = s.emerg ∧ (State.drawSlot s).status = s.status ∧
          (State.drawSlot s).power = s.power := by
  unfold State.drawSlot; (repeat' split) <;> simp

@[simp] theorem State.updateEntry_frame (n : Fin 16) (f : OfferEntry → OfferEntry) (cs : List Cause) (s : State) :
    (State.updateEntry n f cs s).pending = s.pending ∧ (State.updateEntry n f cs s).mem = s.mem ∧
          (State.updateEntry n f cs s).pins = s.pins ∧ (State.updateEntry n f cs s).page = s.page ∧
          (State.updateEntry n f cs s).link = s.link ∧ (State.updateEntry n f cs s).radio = s.radio ∧
          (State.updateEntry n f cs s).sched = s.sched ∧ (State.updateEntry n f cs s).trips = s.trips ∧
          (State.updateEntry n f cs s).msgs = s.msgs ∧ (State.updateEntry n f cs s).emerg = s.emerg ∧
          (State.updateEntry n f cs s).status = s.status ∧ (State.updateEntry n f cs s).power = s.power := by
  unfold State.updateEntry; (repeat' split) <;> simp

@[simp] theorem State.emptyEntry_frame (n : Fin 16) (cs : List Cause) (s : State) :
    (State.emptyEntry n cs s).pending = s.pending ∧ (State.emptyEntry n cs s).mem = s.mem ∧ (State.emptyEntry n cs s).pins = s.pins ∧
          (State.emptyEntry n cs s).page = s.page ∧ (State.emptyEntry n cs s).link = s.link ∧ (State.emptyEntry n cs s).radio = s.radio ∧
          (State.emptyEntry n cs s).sched = s.sched ∧ (State.emptyEntry n cs s).trips = s.trips ∧
          (State.emptyEntry n cs s).msgs = s.msgs ∧ (State.emptyEntry n cs s).emerg = s.emerg ∧
          (State.emptyEntry n cs s).status = s.status ∧ (State.emptyEntry n cs s).power = s.power := by
  unfold State.emptyEntry; (repeat' split) <;> simp

@[simp] theorem State.placeEntry_frame (n : Fin 16) (f : OfferEntry → OfferEntry) (cs : List Cause) (s : State) :
    (State.placeEntry n f cs s).pending = s.pending ∧ (State.placeEntry n f cs s).mem = s.mem ∧
          (State.placeEntry n f cs s).pins = s.pins ∧ (State.placeEntry n f cs s).page = s.page ∧
          (State.placeEntry n f cs s).link = s.link ∧ (State.placeEntry n f cs s).radio = s.radio ∧
          (State.placeEntry n f cs s).sched = s.sched ∧ (State.placeEntry n f cs s).trips = s.trips ∧
          (State.placeEntry n f cs s).msgs = s.msgs ∧ (State.placeEntry n f cs s).emerg = s.emerg ∧
          (State.placeEntry n f cs s).status = s.status ∧ (State.placeEntry n f cs s).power = s.power := by
  unfold State.placeEntry; (repeat' split) <;> simp

@[simp] theorem State.takeOffer_frame (h : DownHeader) (b : OfferBody) (s : State) :
    (State.takeOffer h b s).pending = s.pending ∧ (State.takeOffer h b s).mem = s.mem ∧ (State.takeOffer h b s).pins = s.pins ∧
          (State.takeOffer h b s).link = s.link ∧ (State.takeOffer h b s).radio = s.radio ∧ (State.takeOffer h b s).sched = s.sched ∧
          (State.takeOffer h b s).trips = s.trips ∧ (State.takeOffer h b s).msgs = s.msgs ∧ (State.takeOffer h b s).emerg = s.emerg ∧
          (State.takeOffer h b s).status = s.status ∧ (State.takeOffer h b s).power = s.power := by
  unfold State.takeOffer; (repeat' split) <;> simp

@[simp] theorem State.lifetimeEnds_frame (n : Fin 16) (s : State) :
    (State.lifetimeEnds n s).pending = s.pending ∧ (State.lifetimeEnds n s).mem = s.mem ∧ (State.lifetimeEnds n s).pins = s.pins ∧
          (State.lifetimeEnds n s).page = s.page ∧ (State.lifetimeEnds n s).link = s.link ∧ (State.lifetimeEnds n s).radio = s.radio ∧
          (State.lifetimeEnds n s).sched = s.sched ∧ (State.lifetimeEnds n s).trips = s.trips ∧ (State.lifetimeEnds n s).msgs = s.msgs ∧
          (State.lifetimeEnds n s).emerg = s.emerg ∧ (State.lifetimeEnds n s).status = s.status ∧
          (State.lifetimeEnds n s).power = s.power := by
  unfold State.lifetimeEnds; dsimp only; (repeat' split) <;> simp <;> (repeat' split) <;> simp

@[simp] theorem State.awardWaitEnds_frame (n : Fin 16) (s : State) :
    (State.awardWaitEnds n s).pending = s.pending ∧ (State.awardWaitEnds n s).mem = s.mem ∧ (State.awardWaitEnds n s).pins = s.pins ∧
          (State.awardWaitEnds n s).page = s.page ∧ (State.awardWaitEnds n s).link = s.link ∧ (State.awardWaitEnds n s).radio = s.radio ∧
          (State.awardWaitEnds n s).sched = s.sched ∧ (State.awardWaitEnds n s).trips = s.trips ∧
          (State.awardWaitEnds n s).msgs = s.msgs ∧ (State.awardWaitEnds n s).emerg = s.emerg ∧
          (State.awardWaitEnds n s).status = s.status ∧ (State.awardWaitEnds n s).power = s.power := by
  unfold State.awardWaitEnds; dsimp only; (repeat' split) <;> simp <;> (repeat' split) <;> simp

@[simp] theorem State.becameAwarded_frame (s : State) :
    (State.becameAwarded s).pending = s.pending ∧ (State.becameAwarded s).mem = s.mem ∧ (State.becameAwarded s).path = s.path ∧
          (State.becameAwarded s).page = s.page ∧ (State.becameAwarded s).link = s.link ∧ (State.becameAwarded s).radio = s.radio ∧
          (State.becameAwarded s).offers = s.offers ∧ (State.becameAwarded s).trips = s.trips ∧ (State.becameAwarded s).msgs = s.msgs ∧
          (State.becameAwarded s).emerg = s.emerg ∧ (State.becameAwarded s).power = s.power := by
  unfold State.becameAwarded; (repeat' split) <;> simp

@[simp] theorem State.leftAwarded_frame (s : State) :
    (State.leftAwarded s).pending = s.pending ∧ (State.leftAwarded s).mem = s.mem ∧ (State.leftAwarded s).path = s.path ∧
          (State.leftAwarded s).page = s.page ∧ (State.leftAwarded s).link = s.link ∧ (State.leftAwarded s).radio = s.radio ∧
          (State.leftAwarded s).offers = s.offers ∧ (State.leftAwarded s).trips = s.trips ∧ (State.leftAwarded s).msgs = s.msgs ∧
          (State.leftAwarded s).emerg = s.emerg ∧ (State.leftAwarded s).power = s.power := by
  unfold State.leftAwarded; (repeat' split) <;> simp

@[simp] theorem State.takeResponse_frame (n : Fin 16) (l : Lanes) (d : Word) (s : State) :
    (State.takeResponse n l d s).pending = s.pending ∧ (State.takeResponse n l d s).mem = s.mem ∧
          (State.takeResponse n l d s).page = s.page ∧ (State.takeResponse n l d s).link = s.link ∧
          (State.takeResponse n l d s).trips = s.trips ∧ (State.takeResponse n l d s).msgs = s.msgs ∧
          (State.takeResponse n l d s).emerg = s.emerg ∧ (State.takeResponse n l d s).power = s.power := by
  unfold State.takeResponse; dsimp only; (repeat' split) <;> simp <;> (repeat' split) <;> simp

@[simp] theorem State.awardNoEntry_frame (b : OfferBody) (s : State) :
    (State.awardNoEntry b s).pending = s.pending ∧ (State.awardNoEntry b s).mem = s.mem ∧ (State.awardNoEntry b s).link = s.link ∧
          (State.awardNoEntry b s).trips = s.trips ∧ (State.awardNoEntry b s).msgs = s.msgs ∧ (State.awardNoEntry b s).emerg = s.emerg ∧
          (State.awardNoEntry b s).power = s.power := by
  unfold State.awardNoEntry; (repeat' split) <;> simp

@[simp] theorem State.takeAward_frame (b : OfferBody) (s : State) :
    (State.takeAward b s).pending = s.pending ∧ (State.takeAward b s).mem = s.mem ∧ (State.takeAward b s).link = s.link ∧
          (State.takeAward b s).trips = s.trips ∧ (State.takeAward b s).msgs = s.msgs ∧ (State.takeAward b s).emerg = s.emerg ∧
          (State.takeAward b s).power = s.power := by
  unfold State.takeAward; (repeat' split) <;> simp

@[simp] theorem State.takeLost_frame (j : DWord) (s : State) :
    (State.takeLost j s).pending = s.pending ∧ (State.takeLost j s).mem = s.mem ∧ (State.takeLost j s).pins = s.pins ∧
          (State.takeLost j s).page = s.page ∧ (State.takeLost j s).link = s.link ∧ (State.takeLost j s).radio = s.radio ∧
          (State.takeLost j s).sched = s.sched ∧ (State.takeLost j s).trips = s.trips ∧ (State.takeLost j s).msgs = s.msgs ∧
          (State.takeLost j s).emerg = s.emerg ∧ (State.takeLost j s).status = s.status ∧ (State.takeLost j s).power = s.power := by
  unfold State.takeLost; (repeat' split) <;> simp

@[simp] theorem State.takeWithdraw_frame (j : DWord) (s : State) :
    (State.takeWithdraw j s).pending = s.pending ∧ (State.takeWithdraw j s).mem = s.mem ∧ (State.takeWithdraw j s).page = s.page ∧
          (State.takeWithdraw j s).link = s.link ∧ (State.takeWithdraw j s).trips = s.trips ∧ (State.takeWithdraw j s).msgs = s.msgs ∧
          (State.takeWithdraw j s).emerg = s.emerg ∧ (State.takeWithdraw j s).power = s.power := by
  unfold State.takeWithdraw; dsimp only; (repeat' split) <;> simp <;> (repeat' split) <;> simp

@[simp] theorem State.carryJob_frame (s : State) :
    (State.carryJob s).pending = s.pending ∧ (State.carryJob s).mem = s.mem ∧ (State.carryJob s).pins = s.pins ∧
          (State.carryJob s).page = s.page ∧ (State.carryJob s).link = s.link ∧ (State.carryJob s).radio = s.radio ∧
          (State.carryJob s).sched = s.sched ∧ (State.carryJob s).trips = s.trips ∧ (State.carryJob s).msgs = s.msgs ∧
          (State.carryJob s).emerg = s.emerg ∧ (State.carryJob s).status = s.status ∧ (State.carryJob s).power = s.power := by
  unfold State.carryJob; (repeat' split) <;> simp

@[simp] theorem State.alertingToOffers_frame (s : State) :
    (State.alertingToOffers s).pending = s.pending ∧ (State.alertingToOffers s).mem = s.mem ∧ (State.alertingToOffers s).pins = s.pins ∧
          (State.alertingToOffers s).page = s.page ∧ (State.alertingToOffers s).link = s.link ∧
          (State.alertingToOffers s).trips = s.trips ∧ (State.alertingToOffers s).msgs = s.msgs ∧
          (State.alertingToOffers s).emerg = s.emerg ∧ (State.alertingToOffers s).status = s.status ∧
          (State.alertingToOffers s).power = s.power := by
  unfold State.alertingToOffers; (repeat' split) <;> simp

@[simp] theorem State.emptyAll_frame (ns : List (Fin 16)) (s : State) :
    (State.emptyAll ns s).pending = s.pending ∧ (State.emptyAll ns s).mem = s.mem ∧ (State.emptyAll ns s).pins = s.pins ∧
          (State.emptyAll ns s).page = s.page ∧ (State.emptyAll ns s).link = s.link ∧ (State.emptyAll ns s).radio = s.radio ∧
          (State.emptyAll ns s).sched = s.sched ∧ (State.emptyAll ns s).trips = s.trips ∧ (State.emptyAll ns s).msgs = s.msgs ∧
          (State.emptyAll ns s).emerg = s.emerg ∧ (State.emptyAll ns s).status = s.status ∧ (State.emptyAll ns s).power = s.power := by
  induction ns generalizing s with
  | nil => simp [State.emptyAll]
  | cons c cs ih => simp [State.emptyAll, ih]

@[simp] theorem State.closeOffers_frame (s : State) :
    (State.closeOffers s).pending = s.pending ∧ (State.closeOffers s).mem = s.mem ∧ (State.closeOffers s).pins = s.pins ∧
          (State.closeOffers s).page = s.page ∧ (State.closeOffers s).link = s.link ∧ (State.closeOffers s).trips = s.trips ∧
          (State.closeOffers s).msgs = s.msgs ∧ (State.closeOffers s).emerg = s.emerg ∧ (State.closeOffers s).status = s.status ∧
          (State.closeOffers s).power = s.power := by
  unfold State.closeOffers; dsimp only; (repeat' split) <;> simp <;> (repeat' split) <;> simp

@[simp] theorem State.softResetEntry_frame (n : Fin 16) (s : State) :
    (State.softResetEntry n s).pending = s.pending ∧ (State.softResetEntry n s).mem = s.mem ∧ (State.softResetEntry n s).pins = s.pins ∧
          (State.softResetEntry n s).page = s.page ∧ (State.softResetEntry n s).link = s.link ∧
          (State.softResetEntry n s).radio = s.radio ∧ (State.softResetEntry n s).sched = s.sched ∧
          (State.softResetEntry n s).trips = s.trips ∧ (State.softResetEntry n s).msgs = s.msgs ∧
          (State.softResetEntry n s).emerg = s.emerg ∧ (State.softResetEntry n s).status = s.status ∧
          (State.softResetEntry n s).power = s.power := by
  unfold State.softResetEntry; (repeat' split) <;> simp

@[simp] theorem State.softResetOffers_frame (s : State) :
    (State.softResetOffers s).pending = s.pending ∧ (State.softResetOffers s).mem = s.mem ∧ (State.softResetOffers s).pins = s.pins ∧
          (State.softResetOffers s).page = s.page ∧ (State.softResetOffers s).link = s.link ∧ (State.softResetOffers s).radio = s.radio ∧
          (State.softResetOffers s).sched = s.sched ∧ (State.softResetOffers s).trips = s.trips ∧
          (State.softResetOffers s).msgs = s.msgs ∧ (State.softResetOffers s).emerg = s.emerg ∧
          (State.softResetOffers s).status = s.status ∧ (State.softResetOffers s).power = s.power := by
  simp [State.softResetOffers, allEntries]

@[simp] theorem State.setRing_frame (i : RingId) (r : Ring) (s : State) :
    (State.setRing i r s).pending = s.pending ∧ (State.setRing i r s).mem = s.mem ∧ (State.setRing i r s).pins = s.pins ∧
          (State.setRing i r s).path = s.path ∧ (State.setRing i r s).page = s.page ∧ (State.setRing i r s).link = s.link ∧
          (State.setRing i r s).radio = s.radio ∧ (State.setRing i r s).sched = s.sched ∧ (State.setRing i r s).offers = s.offers ∧
          (State.setRing i r s).trips = s.trips ∧ (State.setRing i r s).emerg = s.emerg ∧ (State.setRing i r s).status = s.status ∧
          (State.setRing i r s).power = s.power := by
  unfold State.setRing; (repeat' split) <;> simp

@[simp] theorem State.moveOwn_frame (i : RingId) (p : Nat) (s : State) :
    (State.moveOwn i p s).pending = s.pending ∧ (State.moveOwn i p s).mem = s.mem ∧ (State.moveOwn i p s).pins = s.pins ∧
          (State.moveOwn i p s).path = s.path ∧ (State.moveOwn i p s).page = s.page ∧ (State.moveOwn i p s).link = s.link ∧
          (State.moveOwn i p s).radio = s.radio ∧ (State.moveOwn i p s).sched = s.sched ∧ (State.moveOwn i p s).offers = s.offers ∧
          (State.moveOwn i p s).trips = s.trips ∧ (State.moveOwn i p s).emerg = s.emerg ∧ (State.moveOwn i p s).status = s.status ∧
          (State.moveOwn i p s).power = s.power := by
  unfold State.moveOwn; (repeat' split) <;> simp

@[simp] theorem State.changeTotals_frame (f : Totals → Totals) (s : State) :
    (State.changeTotals f s).pending = s.pending ∧ (State.changeTotals f s).mem = s.mem ∧ (State.changeTotals f s).pins = s.pins ∧
          (State.changeTotals f s).path = s.path ∧ (State.changeTotals f s).page = s.page ∧ (State.changeTotals f s).link = s.link ∧
          (State.changeTotals f s).radio = s.radio ∧ (State.changeTotals f s).sched = s.sched ∧
          (State.changeTotals f s).offers = s.offers ∧ (State.changeTotals f s).msgs = s.msgs ∧
          (State.changeTotals f s).emerg = s.emerg ∧ (State.changeTotals f s).status = s.status ∧
          (State.changeTotals f s).power = s.power := by
  unfold State.changeTotals; (repeat' split) <;> simp

@[simp] theorem State.changeTotalsFor_frame (r : TripRef) (f : Totals → Totals) (s : State) :
    (State.changeTotalsFor r f s).pending = s.pending ∧ (State.changeTotalsFor r f s).mem = s.mem ∧
          (State.changeTotalsFor r f s).pins = s.pins ∧ (State.changeTotalsFor r f s).path = s.path ∧
          (State.changeTotalsFor r f s).page = s.page ∧ (State.changeTotalsFor r f s).link = s.link ∧
          (State.changeTotalsFor r f s).radio = s.radio ∧ (State.changeTotalsFor r f s).sched = s.sched ∧
          (State.changeTotalsFor r f s).offers = s.offers ∧ (State.changeTotalsFor r f s).msgs = s.msgs ∧
          (State.changeTotalsFor r f s).emerg = s.emerg ∧ (State.changeTotalsFor r f s).status = s.status ∧
          (State.changeTotalsFor r f s).power = s.power := by
  unfold State.changeTotalsFor; (repeat' split) <;> simp

@[simp] theorem State.abandonReport_frame (r : TripRef) (s : State) :
    (State.abandonReport r s).pending = s.pending ∧ (State.abandonReport r s).mem = s.mem ∧ (State.abandonReport r s).path = s.path ∧
          (State.abandonReport r s).link = s.link ∧ (State.abandonReport r s).sched = s.sched ∧
          (State.abandonReport r s).offers = s.offers ∧ (State.abandonReport r s).msgs = s.msgs ∧
          (State.abandonReport r s).emerg = s.emerg ∧ (State.abandonReport r s).status = s.status ∧
          (State.abandonReport r s).power = s.power := by
  unfold State.abandonReport; (repeat' split) <;> simp

@[simp] theorem State.makeRoomForReport_frame (s : State) :
    (State.makeRoomForReport s).pending = s.pending ∧ (State.makeRoomForReport s).mem = s.mem ∧
          (State.makeRoomForReport s).path = s.path ∧ (State.makeRoomForReport s).link = s.link ∧
          (State.makeRoomForReport s).sched = s.sched ∧ (State.makeRoomForReport s).offers = s.offers ∧
          (State.makeRoomForReport s).msgs = s.msgs ∧ (State.makeRoomForReport s).emerg = s.emerg ∧
          (State.makeRoomForReport s).status = s.status ∧ (State.makeRoomForReport s).power = s.power := by
  unfold State.makeRoomForReport; (repeat' split) <;> simp

@[simp] theorem State.listReport_frame (r : TripRecord) (s : State) :
    (State.listReport r s).pending = s.pending ∧ (State.listReport r s).mem = s.mem ∧ (State.listReport r s).path = s.path ∧
          (State.listReport r s).link = s.link ∧ (State.listReport r s).sched = s.sched ∧ (State.listReport r s).offers = s.offers ∧
          (State.listReport r s).msgs = s.msgs ∧ (State.listReport r s).emerg = s.emerg ∧ (State.listReport r s).status = s.status ∧
          (State.listReport r s).power = s.power := by
  unfold State.listReport; dsimp only; (repeat' split) <;> simp <;> (repeat' split) <;> simp

@[simp] theorem State.beginTripDeposit_frame (r : TripRecord) (p : Deposit) (s : State) :
    (State.beginTripDeposit r p s).pending = s.pending ∧ (State.beginTripDeposit r p s).mem = s.mem ∧
          (State.beginTripDeposit r p s).pins = s.pins ∧ (State.beginTripDeposit r p s).page = s.page ∧
          (State.beginTripDeposit r p s).link = s.link ∧ (State.beginTripDeposit r p s).radio = s.radio ∧
          (State.beginTripDeposit r p s).sched = s.sched ∧ (State.beginTripDeposit r p s).offers = s.offers ∧
          (State.beginTripDeposit r p s).msgs = s.msgs ∧ (State.beginTripDeposit r p s).emerg = s.emerg ∧
          (State.beginTripDeposit r p s).status = s.status ∧ (State.beginTripDeposit r p s).power = s.power := by
  unfold State.beginTripDeposit; (repeat' split) <;> simp

@[simp] theorem State.pendRecord_frame (r : TripRecord) (s : State) :
    (State.pendRecord r s).pending = s.pending ∧ (State.pendRecord r s).mem = s.mem ∧ (State.pendRecord r s).pins = s.pins ∧
          (State.pendRecord r s).path = s.path ∧ (State.pendRecord r s).page = s.page ∧ (State.pendRecord r s).link = s.link ∧
          (State.pendRecord r s).radio = s.radio ∧ (State.pendRecord r s).sched = s.sched ∧ (State.pendRecord r s).offers = s.offers ∧
          (State.pendRecord r s).msgs = s.msgs ∧ (State.pendRecord r s).emerg = s.emerg ∧ (State.pendRecord r s).status = s.status ∧
          (State.pendRecord r s).power = s.power := by
  unfold State.pendRecord; (repeat' split) <;> simp

@[simp] theorem State.offerToLog_frame (r : TripRecord) (s : State) :
    (State.offerToLog r s).pending = s.pending ∧ (State.offerToLog r s).mem = s.mem ∧ (State.offerToLog r s).pins = s.pins ∧
          (State.offerToLog r s).page = s.page ∧ (State.offerToLog r s).link = s.link ∧ (State.offerToLog r s).radio = s.radio ∧
          (State.offerToLog r s).sched = s.sched ∧ (State.offerToLog r s).offers = s.offers ∧ (State.offerToLog r s).msgs = s.msgs ∧
          (State.offerToLog r s).emerg = s.emerg ∧ (State.offerToLog r s).status = s.status ∧ (State.offerToLog r s).power = s.power := by
  unfold State.offerToLog; (repeat' split) <;> simp

@[simp] theorem State.servePending_frame (s : State) :
    (State.servePending s).pending = s.pending ∧ (State.servePending s).mem = s.mem ∧ (State.servePending s).pins = s.pins ∧
          (State.servePending s).page = s.page ∧ (State.servePending s).link = s.link ∧ (State.servePending s).radio = s.radio ∧
          (State.servePending s).sched = s.sched ∧ (State.servePending s).offers = s.offers ∧ (State.servePending s).msgs = s.msgs ∧
          (State.servePending s).emerg = s.emerg ∧ (State.servePending s).status = s.status ∧ (State.servePending s).power = s.power := by
  unfold State.servePending; (repeat' split) <;> simp

@[simp] theorem State.endTripDeposit_frame (s : State) :
    (State.endTripDeposit s).pending = s.pending ∧ (State.endTripDeposit s).mem = s.mem ∧ (State.endTripDeposit s).link = s.link ∧
          (State.endTripDeposit s).radio = s.radio ∧ (State.endTripDeposit s).sched = s.sched ∧
          (State.endTripDeposit s).offers = s.offers ∧ (State.endTripDeposit s).emerg = s.emerg ∧
          (State.endTripDeposit s).status = s.status ∧ (State.endTripDeposit s).power = s.power := by
  unfold State.endTripDeposit; (repeat' split) <;> simp

@[simp] theorem State.loadTotalsCopy_frame (s : State) :
    (State.loadTotalsCopy s).pending = s.pending ∧ (State.loadTotalsCopy s).mem = s.mem ∧ (State.loadTotalsCopy s).pins = s.pins ∧
          (State.loadTotalsCopy s).path = s.path ∧ (State.loadTotalsCopy s).page = s.page ∧ (State.loadTotalsCopy s).link = s.link ∧
          (State.loadTotalsCopy s).radio = s.radio ∧ (State.loadTotalsCopy s).sched = s.sched ∧
          (State.loadTotalsCopy s).offers = s.offers ∧ (State.loadTotalsCopy s).msgs = s.msgs ∧
          (State.loadTotalsCopy s).emerg = s.emerg ∧ (State.loadTotalsCopy s).status = s.status ∧
          (State.loadTotalsCopy s).power = s.power := by
  unfold State.loadTotalsCopy; (repeat' split) <;> simp

@[simp] theorem State.openShift_frame (d : Word) (b : Bool) (s : State) :
    (State.openShift d b s).pending = s.pending ∧ (State.openShift d b s).mem = s.mem ∧ (State.openShift d b s).pins = s.pins ∧
          (State.openShift d b s).path = s.path ∧ (State.openShift d b s).page = s.page ∧ (State.openShift d b s).link = s.link ∧
          (State.openShift d b s).radio = s.radio ∧ (State.openShift d b s).sched = s.sched ∧ (State.openShift d b s).offers = s.offers ∧
          (State.openShift d b s).msgs = s.msgs ∧ (State.openShift d b s).emerg = s.emerg ∧ (State.openShift d b s).power = s.power := by
  unfold State.openShift; (repeat' split) <;> simp

@[simp] theorem State.closeTotals_frame (s : State) :
    (State.closeTotals s).pending = s.pending ∧ (State.closeTotals s).mem = s.mem ∧ (State.closeTotals s).link = s.link ∧
          (State.closeTotals s).offers = s.offers ∧ (State.closeTotals s).msgs = s.msgs ∧ (State.closeTotals s).emerg = s.emerg ∧
          (State.closeTotals s).status = s.status ∧ (State.closeTotals s).power = s.power := by
  unfold State.closeTotals; dsimp only; (repeat' split) <;> simp <;> (repeat' split) <;> simp

@[simp] theorem State.restartSilence_frame (s : State) :
    (State.restartSilence s).pending = s.pending ∧ (State.restartSilence s).mem = s.mem ∧ (State.restartSilence s).pins = s.pins ∧
          (State.restartSilence s).path = s.path ∧ (State.restartSilence s).page = s.page ∧ (State.restartSilence s).link = s.link ∧
          (State.restartSilence s).radio = s.radio ∧ (State.restartSilence s).sched = s.sched ∧
          (State.restartSilence s).offers = s.offers ∧ (State.restartSilence s).msgs = s.msgs ∧
          (State.restartSilence s).emerg = s.emerg ∧ (State.restartSilence s).status = s.status ∧
          (State.restartSilence s).power = s.power := by
  unfold State.restartSilence; (repeat' split) <;> simp

@[simp] theorem State.changeTrip_frame (f : OpenTrip → OpenTrip) (s : State) :
    (State.changeTrip f s).pending = s.pending ∧ (State.changeTrip f s).mem = s.mem ∧ (State.changeTrip f s).pins = s.pins ∧
          (State.changeTrip f s).path = s.path ∧ (State.changeTrip f s).page = s.page ∧ (State.changeTrip f s).link = s.link ∧
          (State.changeTrip f s).radio = s.radio ∧ (State.changeTrip f s).sched = s.sched ∧ (State.changeTrip f s).offers = s.offers ∧
          (State.changeTrip f s).msgs = s.msgs ∧ (State.changeTrip f s).emerg = s.emerg ∧ (State.changeTrip f s).status = s.status ∧
          (State.changeTrip f s).power = s.power := by
  unfold State.changeTrip; (repeat' split) <;> simp

@[simp] theorem State.markTripEmergency_frame (s : State) :
    (State.markTripEmergency s).pending = s.pending ∧ (State.markTripEmergency s).mem = s.mem ∧
          (State.markTripEmergency s).pins = s.pins ∧ (State.markTripEmergency s).path = s.path ∧
          (State.markTripEmergency s).page = s.page ∧ (State.markTripEmergency s).link = s.link ∧
          (State.markTripEmergency s).radio = s.radio ∧ (State.markTripEmergency s).sched = s.sched ∧
          (State.markTripEmergency s).offers = s.offers ∧ (State.markTripEmergency s).msgs = s.msgs ∧
          (State.markTripEmergency s).emerg = s.emerg ∧ (State.markTripEmergency s).status = s.status ∧
          (State.markTripEmergency s).power = s.power := by
  unfold State.markTripEmergency; (repeat' split) <;> simp

@[simp] theorem State.openTrip_frame (t : Byte) (s : State) :
    (State.openTrip t s).pending = s.pending ∧ (State.openTrip t s).mem = s.mem ∧ (State.openTrip t s).page = s.page ∧
          (State.openTrip t s).link = s.link ∧ (State.openTrip t s).radio = s.radio ∧ (State.openTrip t s).msgs = s.msgs ∧
          (State.openTrip t s).emerg = s.emerg ∧ (State.openTrip t s).power = s.power := by
  unfold State.openTrip; (repeat' split) <;> simp

@[simp] theorem State.statusAfterTrip_frame (s : State) :
    (State.statusAfterTrip s).pending = s.pending ∧ (State.statusAfterTrip s).mem = s.mem ∧ (State.statusAfterTrip s).path = s.path ∧
          (State.statusAfterTrip s).page = s.page ∧ (State.statusAfterTrip s).link = s.link ∧ (State.statusAfterTrip s).radio = s.radio ∧
          (State.statusAfterTrip s).offers = s.offers ∧ (State.statusAfterTrip s).trips = s.trips ∧
          (State.statusAfterTrip s).msgs = s.msgs ∧ (State.statusAfterTrip s).emerg = s.emerg ∧
          (State.statusAfterTrip s).power = s.power := by
  unfold State.statusAfterTrip; (repeat' split) <;> simp

@[simp] theorem State.closeTrip_frame (e : TripEnd) (s : State) :
    (State.closeTrip e s).pending = s.pending ∧ (State.closeTrip e s).mem = s.mem ∧ (State.closeTrip e s).link = s.link ∧
          (State.closeTrip e s).offers = s.offers ∧ (State.closeTrip e s).msgs = s.msgs ∧ (State.closeTrip e s).emerg = s.emerg ∧
          (State.closeTrip e s).power = s.power := by
  unfold State.closeTrip; (repeat' split) <;> simp

@[simp] theorem State.takeHire_frame (t : Byte) (s : State) :
    (State.takeHire t s).pending = s.pending ∧ (State.takeHire t s).mem = s.mem ∧ (State.takeHire t s).link = s.link ∧
          (State.takeHire t s).msgs = s.msgs ∧ (State.takeHire t s).emerg = s.emerg ∧ (State.takeHire t s).power = s.power := by
  unfold State.takeHire; (repeat' split) <;> simp

@[simp] theorem State.takeStep_frame (c : Byte) (a : Word) (s : State) :
    (State.takeStep c a s).pending = s.pending ∧ (State.takeStep c a s).mem = s.mem ∧ (State.takeStep c a s).pins = s.pins ∧
          (State.takeStep c a s).path = s.path ∧ (State.takeStep c a s).page = s.page ∧ (State.takeStep c a s).link = s.link ∧
          (State.takeStep c a s).radio = s.radio ∧ (State.takeStep c a s).sched = s.sched ∧ (State.takeStep c a s).offers = s.offers ∧
          (State.takeStep c a s).msgs = s.msgs ∧ (State.takeStep c a s).emerg = s.emerg ∧ (State.takeStep c a s).status = s.status ∧
          (State.takeStep c a s).power = s.power := by
  unfold State.takeStep; (repeat' split) <;> simp

@[simp] theorem State.takeTariff_frame (t : Byte) (s : State) :
    (State.takeTariff t s).pending = s.pending ∧ (State.takeTariff t s).mem = s.mem ∧ (State.takeTariff t s).pins = s.pins ∧
          (State.takeTariff t s).path = s.path ∧ (State.takeTariff t s).page = s.page ∧ (State.takeTariff t s).link = s.link ∧
          (State.takeTariff t s).radio = s.radio ∧ (State.takeTariff t s).sched = s.sched ∧ (State.takeTariff t s).offers = s.offers ∧
          (State.takeTariff t s).msgs = s.msgs ∧ (State.takeTariff t s).emerg = s.emerg ∧ (State.takeTariff t s).status = s.status ∧
          (State.takeTariff t s).power = s.power := by
  unfold State.takeTariff; (repeat' split) <;> simp

@[simp] theorem State.takeStop_frame (f : DWord) (s : State) :
    (State.takeStop f s).pending = s.pending ∧ (State.takeStop f s).mem = s.mem ∧ (State.takeStop f s).link = s.link ∧
          (State.takeStop f s).offers = s.offers ∧ (State.takeStop f s).msgs = s.msgs ∧ (State.takeStop f s).emerg = s.emerg ∧
          (State.takeStop f s).power = s.power := by
  unfold State.takeStop; (repeat' split) <;> simp

@[simp] theorem State.takeFault_frame (c : Byte) (s : State) :
    (State.takeFault c s).pending = s.pending ∧ (State.takeFault c s).mem = s.mem ∧ (State.takeFault c s).path = s.path ∧
          (State.takeFault c s).link = s.link ∧ (State.takeFault c s).radio = s.radio ∧ (State.takeFault c s).sched = s.sched ∧
          (State.takeFault c s).offers = s.offers ∧ (State.takeFault c s).msgs = s.msgs ∧ (State.takeFault c s).emerg = s.emerg ∧
          (State.takeFault c s).status = s.status ∧ (State.takeFault c s).power = s.power := by
  unfold State.takeFault; (repeat' split) <;> simp

@[simp] theorem State.silenceEnds_frame (s : State) :
    (State.silenceEnds s).pending = s.pending ∧ (State.silenceEnds s).mem = s.mem ∧ (State.silenceEnds s).path = s.path ∧
          (State.silenceEnds s).link = s.link ∧ (State.silenceEnds s).radio = s.radio ∧ (State.silenceEnds s).sched = s.sched ∧
          (State.silenceEnds s).offers = s.offers ∧ (State.silenceEnds s).msgs = s.msgs ∧ (State.silenceEnds s).emerg = s.emerg ∧
          (State.silenceEnds s).status = s.status ∧ (State.silenceEnds s).power = s.power := by
  unfold State.silenceEnds; (repeat' split) <;> simp

@[simp] theorem State.forceClose_frame (s : State) :
    (State.forceClose s).pending = s.pending ∧ (State.forceClose s).mem = s.mem ∧ (State.forceClose s).link = s.link ∧
          (State.forceClose s).offers = s.offers ∧ (State.forceClose s).msgs = s.msgs ∧ (State.forceClose s).emerg = s.emerg ∧
          (State.forceClose s).power = s.power := by
  unfold State.forceClose; (repeat' split) <;> simp

@[simp] theorem State.fareSent_frame (r : TripRef) (s : State) :
    (State.fareSent r s).pending = s.pending ∧ (State.fareSent r s).mem = s.mem ∧ (State.fareSent r s).pins = s.pins ∧
          (State.fareSent r s).path = s.path ∧ (State.fareSent r s).page = s.page ∧ (State.fareSent r s).link = s.link ∧
          (State.fareSent r s).radio = s.radio ∧ (State.fareSent r s).sched = s.sched ∧ (State.fareSent r s).offers = s.offers ∧
          (State.fareSent r s).msgs = s.msgs ∧ (State.fareSent r s).emerg = s.emerg ∧ (State.fareSent r s).status = s.status ∧
          (State.fareSent r s).power = s.power := by
  unfold State.fareSent; (repeat' split) <;> simp

@[simp] theorem State.shiftSent_frame (n : Word) (s : State) :
    (State.shiftSent n s).pending = s.pending ∧ (State.shiftSent n s).mem = s.mem ∧ (State.shiftSent n s).pins = s.pins ∧
          (State.shiftSent n s).path = s.path ∧ (State.shiftSent n s).page = s.page ∧ (State.shiftSent n s).link = s.link ∧
          (State.shiftSent n s).radio = s.radio ∧ (State.shiftSent n s).sched = s.sched ∧ (State.shiftSent n s).offers = s.offers ∧
          (State.shiftSent n s).msgs = s.msgs ∧ (State.shiftSent n s).emerg = s.emerg ∧ (State.shiftSent n s).status = s.status ∧
          (State.shiftSent n s).power = s.power := by
  unfold State.shiftSent; (repeat' split) <;> simp

@[simp] theorem State.fareRetransmit_frame (r : TripRef) (s : State) :
    (State.fareRetransmit r s).pending = s.pending ∧ (State.fareRetransmit r s).mem = s.mem ∧ (State.fareRetransmit r s).path = s.path ∧
          (State.fareRetransmit r s).link = s.link ∧ (State.fareRetransmit r s).offers = s.offers ∧
          (State.fareRetransmit r s).msgs = s.msgs ∧ (State.fareRetransmit r s).emerg = s.emerg ∧
          (State.fareRetransmit r s).status = s.status ∧ (State.fareRetransmit r s).power = s.power := by
  unfold State.fareRetransmit; (repeat' split) <;> simp

@[simp] theorem State.shiftRetransmit_frame (s : State) :
    (State.shiftRetransmit s).pending = s.pending ∧ (State.shiftRetransmit s).mem = s.mem ∧ (State.shiftRetransmit s).path = s.path ∧
          (State.shiftRetransmit s).link = s.link ∧ (State.shiftRetransmit s).offers = s.offers ∧
          (State.shiftRetransmit s).msgs = s.msgs ∧ (State.shiftRetransmit s).emerg = s.emerg ∧
          (State.shiftRetransmit s).status = s.status ∧ (State.shiftRetransmit s).power = s.power := by
  unfold State.shiftRetransmit; (repeat' split) <;> simp

@[simp] theorem State.ackFare_frame (r : TripRef) (s : State) :
    (State.ackFare r s).pending = s.pending ∧ (State.ackFare r s).mem = s.mem ∧ (State.ackFare r s).path = s.path ∧
          (State.ackFare r s).link = s.link ∧ (State.ackFare r s).offers = s.offers ∧ (State.ackFare r s).msgs = s.msgs ∧
          (State.ackFare r s).emerg = s.emerg ∧ (State.ackFare r s).status = s.status ∧ (State.ackFare r s).power = s.power := by
  unfold State.ackFare; (repeat' split) <;> simp

@[simp] theorem State.ackShift_frame (n : Word) (s : State) :
    (State.ackShift n s).pending = s.pending ∧ (State.ackShift n s).mem = s.mem ∧ (State.ackShift n s).path = s.path ∧
          (State.ackShift n s).link = s.link ∧ (State.ackShift n s).offers = s.offers ∧ (State.ackShift n s).msgs = s.msgs ∧
          (State.ackShift n s).emerg = s.emerg ∧ (State.ackShift n s).status = s.status ∧ (State.ackShift n s).power = s.power := by
  unfold State.ackShift; (repeat' split) <;> simp

@[simp] theorem State.returnDeposit_frame (s : State) :
    (State.returnDeposit s).pending = s.pending ∧ (State.returnDeposit s).mem = s.mem ∧ (State.returnDeposit s).pins = s.pins ∧
          (State.returnDeposit s).path = s.path ∧ (State.returnDeposit s).page = s.page ∧ (State.returnDeposit s).link = s.link ∧
          (State.returnDeposit s).radio = s.radio ∧ (State.returnDeposit s).sched = s.sched ∧ (State.returnDeposit s).offers = s.offers ∧
          (State.returnDeposit s).msgs = s.msgs ∧ (State.returnDeposit s).emerg = s.emerg ∧ (State.returnDeposit s).status = s.status ∧
          (State.returnDeposit s).power = s.power := by
  unfold State.returnDeposit; dsimp only; (repeat' split) <;> simp <;> (repeat' split) <;> simp

@[simp] theorem State.softResetTrips_frame (s : State) :
    (State.softResetTrips s).pending = s.pending ∧ (State.softResetTrips s).mem = s.mem ∧ (State.softResetTrips s).pins = s.pins ∧
          (State.softResetTrips s).path = s.path ∧ (State.softResetTrips s).page = s.page ∧ (State.softResetTrips s).link = s.link ∧
          (State.softResetTrips s).radio = s.radio ∧ (State.softResetTrips s).sched = s.sched ∧
          (State.softResetTrips s).offers = s.offers ∧ (State.softResetTrips s).msgs = s.msgs ∧
          (State.softResetTrips s).emerg = s.emerg ∧ (State.softResetTrips s).status = s.status ∧
          (State.softResetTrips s).power = s.power := by
  unfold State.softResetTrips; (repeat' split) <;> simp

@[simp] theorem State.changeFlow_frame (p : Bool) (s : State) :
    (State.changeFlow p s).pending = s.pending ∧ (State.changeFlow p s).mem = s.mem ∧ (State.changeFlow p s).path = s.path ∧
          (State.changeFlow p s).page = s.page ∧ (State.changeFlow p s).link = s.link ∧ (State.changeFlow p s).offers = s.offers ∧
          (State.changeFlow p s).trips = s.trips ∧ (State.changeFlow p s).emerg = s.emerg ∧ (State.changeFlow p s).status = s.status ∧
          (State.changeFlow p s).power = s.power := by
  unfold State.changeFlow; (repeat' split) <;> simp

@[simp] theorem State.evaluateFlow_frame (s : State) :
    (State.evaluateFlow s).pending = s.pending ∧ (State.evaluateFlow s).mem = s.mem ∧ (State.evaluateFlow s).path = s.path ∧
          (State.evaluateFlow s).page = s.page ∧ (State.evaluateFlow s).link = s.link ∧ (State.evaluateFlow s).offers = s.offers ∧
          (State.evaluateFlow s).trips = s.trips ∧ (State.evaluateFlow s).emerg = s.emerg ∧ (State.evaluateFlow s).status = s.status ∧
          (State.evaluateFlow s).power = s.power := by
  unfold State.evaluateFlow; (repeat' split) <;> simp

@[simp] theorem State.lookForRecord_frame (s : State) :
    (State.lookForRecord s).pending = s.pending ∧ (State.lookForRecord s).mem = s.mem ∧ (State.lookForRecord s).pins = s.pins ∧
          (State.lookForRecord s).page = s.page ∧ (State.lookForRecord s).link = s.link ∧ (State.lookForRecord s).radio = s.radio ∧
          (State.lookForRecord s).sched = s.sched ∧ (State.lookForRecord s).offers = s.offers ∧ (State.lookForRecord s).trips = s.trips ∧
          (State.lookForRecord s).emerg = s.emerg ∧ (State.lookForRecord s).status = s.status ∧
          (State.lookForRecord s).power = s.power := by
  unfold State.lookForRecord; (repeat' split) <;> simp

@[simp] theorem State.closeIfClosing_frame (s : State) :
    (State.closeIfClosing s).pending = s.pending ∧ (State.closeIfClosing s).mem = s.mem ∧ (State.closeIfClosing s).pins = s.pins ∧
          (State.closeIfClosing s).path = s.path ∧ (State.closeIfClosing s).page = s.page ∧ (State.closeIfClosing s).link = s.link ∧
          (State.closeIfClosing s).radio = s.radio ∧ (State.closeIfClosing s).sched = s.sched ∧
          (State.closeIfClosing s).offers = s.offers ∧ (State.closeIfClosing s).trips = s.trips ∧
          (State.closeIfClosing s).emerg = s.emerg ∧ (State.closeIfClosing s).status = s.status ∧
          (State.closeIfClosing s).power = s.power := by
  unfold State.closeIfClosing; (repeat' split) <;> simp

@[simp] theorem State.continueFetch_frame (u : UnderWay) (s : State) :
    (State.continueFetch u s).pending = s.pending ∧ (State.continueFetch u s).mem = s.mem ∧ (State.continueFetch u s).pins = s.pins ∧
          (State.continueFetch u s).page = s.page ∧ (State.continueFetch u s).link = s.link ∧ (State.continueFetch u s).radio = s.radio ∧
          (State.continueFetch u s).sched = s.sched ∧ (State.continueFetch u s).offers = s.offers ∧
          (State.continueFetch u s).trips = s.trips ∧ (State.continueFetch u s).emerg = s.emerg ∧
          (State.continueFetch u s).status = s.status ∧ (State.continueFetch u s).power = s.power := by
  unfold State.continueFetch; dsimp only; (repeat' split) <;> simp <;> (repeat' split) <;> simp

@[simp] theorem State.completeOutbound_frame (c : OutCompletion) (s : State) :
    (State.completeOutbound c s).pending = s.pending ∧ (State.completeOutbound c s).mem = s.mem ∧
          (State.completeOutbound c s).pins = s.pins ∧ (State.completeOutbound c s).page = s.page ∧
          (State.completeOutbound c s).link = s.link ∧ (State.completeOutbound c s).offers = s.offers ∧
          (State.completeOutbound c s).trips = s.trips ∧ (State.completeOutbound c s).emerg = s.emerg ∧
          (State.completeOutbound c s).status = s.status ∧ (State.completeOutbound c s).power = s.power := by
  unfold State.completeOutbound; (repeat' split) <;> simp

@[simp] theorem State.endFetch_frame (s : State) :
    (State.endFetch s).pending = s.pending ∧ (State.endFetch s).mem = s.mem ∧ (State.endFetch s).pins = s.pins ∧
          (State.endFetch s).page = s.page ∧ (State.endFetch s).link = s.link ∧ (State.endFetch s).offers = s.offers ∧
          (State.endFetch s).trips = s.trips ∧ (State.endFetch s).emerg = s.emerg ∧ (State.endFetch s).status = s.status ∧
          (State.endFetch s).power = s.power := by
  unfold State.endFetch; (repeat' split) <;> simp

@[simp] theorem State.endCompletion_frame (s : State) :
    (State.endCompletion s).pending = s.pending ∧ (State.endCompletion s).mem = s.mem ∧ (State.endCompletion s).link = s.link ∧
          (State.endCompletion s).radio = s.radio ∧ (State.endCompletion s).sched = s.sched ∧ (State.endCompletion s).offers = s.offers ∧
          (State.endCompletion s).trips = s.trips ∧ (State.endCompletion s).emerg = s.emerg ∧ (State.endCompletion s).status = s.status ∧
          (State.endCompletion s).power = s.power := by
  unfold State.endCompletion; (repeat' split) <;> simp

@[simp] theorem State.changeFlight_frame (f : OutMessage → OutMessage) (s : State) :
    (State.changeFlight f s).pending = s.pending ∧ (State.changeFlight f s).mem = s.mem ∧ (State.changeFlight f s).pins = s.pins ∧
          (State.changeFlight f s).path = s.path ∧ (State.changeFlight f s).page = s.page ∧ (State.changeFlight f s).link = s.link ∧
          (State.changeFlight f s).radio = s.radio ∧ (State.changeFlight f s).sched = s.sched ∧
          (State.changeFlight f s).offers = s.offers ∧ (State.changeFlight f s).trips = s.trips ∧
          (State.changeFlight f s).emerg = s.emerg ∧ (State.changeFlight f s).status = s.status ∧
          (State.changeFlight f s).power = s.power := by
  unfold State.changeFlight; (repeat' split) <;> simp

@[simp] theorem State.textSent_frame (t : Word) (i : Nat) (s : State) :
    (State.textSent t i s).pending = s.pending ∧ (State.textSent t i s).mem = s.mem ∧ (State.textSent t i s).pins = s.pins ∧
          (State.textSent t i s).path = s.path ∧ (State.textSent t i s).page = s.page ∧ (State.textSent t i s).link = s.link ∧
          (State.textSent t i s).radio = s.radio ∧ (State.textSent t i s).sched = s.sched ∧ (State.textSent t i s).offers = s.offers ∧
          (State.textSent t i s).trips = s.trips ∧ (State.textSent t i s).emerg = s.emerg ∧ (State.textSent t i s).status = s.status ∧
          (State.textSent t i s).power = s.power := by
  unfold State.textSent; (repeat' split) <;> simp

@[simp] theorem State.ackText_frame (t : Word) (s : State) :
    (State.ackText t s).pending = s.pending ∧ (State.ackText t s).mem = s.mem ∧ (State.ackText t s).pins = s.pins ∧
          (State.ackText t s).page = s.page ∧ (State.ackText t s).link = s.link ∧ (State.ackText t s).offers = s.offers ∧
          (State.ackText t s).trips = s.trips ∧ (State.ackText t s).emerg = s.emerg ∧ (State.ackText t s).status = s.status ∧
          (State.ackText t s).power = s.power := by
  unfold State.ackText; (repeat' split) <;> simp

@[simp] theorem State.restartMessage_frame (f : OutMessage → OutMessage) (s : State) :
    (State.restartMessage f s).pending = s.pending ∧ (State.restartMessage f s).mem = s.mem ∧ (State.restartMessage f s).pins = s.pins ∧
          (State.restartMessage f s).path = s.path ∧ (State.restartMessage f s).page = s.page ∧
          (State.restartMessage f s).link = s.link ∧ (State.restartMessage f s).radio = s.radio ∧
          (State.restartMessage f s).sched = s.sched ∧ (State.restartMessage f s).offers = s.offers ∧
          (State.restartMessage f s).trips = s.trips ∧ (State.restartMessage f s).emerg = s.emerg ∧
          (State.restartMessage f s).status = s.status ∧ (State.restartMessage f s).power = s.power := by
  unfold State.restartMessage; (repeat' split) <;> simp

@[simp] theorem State.ackWaitEnds_frame (s : State) :
    (State.ackWaitEnds s).pending = s.pending ∧ (State.ackWaitEnds s).mem = s.mem ∧ (State.ackWaitEnds s).pins = s.pins ∧
          (State.ackWaitEnds s).page = s.page ∧ (State.ackWaitEnds s).link = s.link ∧ (State.ackWaitEnds s).offers = s.offers ∧
          (State.ackWaitEnds s).trips = s.trips ∧ (State.ackWaitEnds s).emerg = s.emerg ∧ (State.ackWaitEnds s).status = s.status ∧
          (State.ackWaitEnds s).power = s.power := by
  unfold State.ackWaitEnds; (repeat' split) <;> simp

@[simp] theorem State.exitToMessages_frame (s : State) :
    (State.exitToMessages s).pending = s.pending ∧ (State.exitToMessages s).mem = s.mem ∧ (State.exitToMessages s).pins = s.pins ∧
          (State.exitToMessages s).path = s.path ∧ (State.exitToMessages s).page = s.page ∧ (State.exitToMessages s).link = s.link ∧
          (State.exitToMessages s).radio = s.radio ∧ (State.exitToMessages s).sched = s.sched ∧
          (State.exitToMessages s).offers = s.offers ∧ (State.exitToMessages s).trips = s.trips ∧
          (State.exitToMessages s).emerg = s.emerg ∧ (State.exitToMessages s).status = s.status ∧
          (State.exitToMessages s).power = s.power := by
  unfold State.exitToMessages; (repeat' split) <;> simp

@[simp] theorem State.setBuffer_frame (b : BufferId) (v : Buffer) (s : State) :
    (State.setBuffer b v s).pending = s.pending ∧ (State.setBuffer b v s).mem = s.mem ∧ (State.setBuffer b v s).pins = s.pins ∧
          (State.setBuffer b v s).path = s.path ∧ (State.setBuffer b v s).page = s.page ∧ (State.setBuffer b v s).link = s.link ∧
          (State.setBuffer b v s).radio = s.radio ∧ (State.setBuffer b v s).sched = s.sched ∧ (State.setBuffer b v s).offers = s.offers ∧
          (State.setBuffer b v s).trips = s.trips ∧ (State.setBuffer b v s).emerg = s.emerg ∧ (State.setBuffer b v s).status = s.status ∧
          (State.setBuffer b v s).power = s.power := by
  unfold State.setBuffer; (repeat' split) <;> simp

@[simp] theorem State.closeBuffer_frame (b : BufferId) (a : Assembly) (t : Bool) (s : State) :
    (State.closeBuffer b a t s).pending = s.pending ∧ (State.closeBuffer b a t s).mem = s.mem ∧
          (State.closeBuffer b a t s).pins = s.pins ∧ (State.closeBuffer b a t s).path = s.path ∧
          (State.closeBuffer b a t s).page = s.page ∧ (State.closeBuffer b a t s).link = s.link ∧
          (State.closeBuffer b a t s).radio = s.radio ∧ (State.closeBuffer b a t s).sched = s.sched ∧
          (State.closeBuffer b a t s).offers = s.offers ∧ (State.closeBuffer b a t s).trips = s.trips ∧
          (State.closeBuffer b a t s).emerg = s.emerg ∧ (State.closeBuffer b a t s).status = s.status ∧
          (State.closeBuffer b a t s).power = s.power := by
  unfold State.closeBuffer; (repeat' split) <;> simp

@[simp] theorem State.queueAck_frame (m : InMessage) (s : State) :
    (State.queueAck m s).pending = s.pending ∧ (State.queueAck m s).mem = s.mem ∧ (State.queueAck m s).pins = s.pins ∧
          (State.queueAck m s).path = s.path ∧ (State.queueAck m s).page = s.page ∧ (State.queueAck m s).link = s.link ∧
          (State.queueAck m s).offers = s.offers ∧ (State.queueAck m s).trips = s.trips ∧ (State.queueAck m s).msgs = s.msgs ∧
          (State.queueAck m s).emerg = s.emerg ∧ (State.queueAck m s).status = s.status ∧ (State.queueAck m s).power = s.power := by
  unfold State.queueAck; (repeat' split) <;> simp

@[simp] theorem State.dropMessage_frame (s : State) :
    (State.dropMessage s).pending = s.pending ∧ (State.dropMessage s).mem = s.mem ∧ (State.dropMessage s).pins = s.pins ∧
          (State.dropMessage s).path = s.path ∧ (State.dropMessage s).link = s.link ∧ (State.dropMessage s).radio = s.radio ∧
          (State.dropMessage s).sched = s.sched ∧ (State.dropMessage s).offers = s.offers ∧ (State.dropMessage s).trips = s.trips ∧
          (State.dropMessage s).msgs = s.msgs ∧ (State.dropMessage s).emerg = s.emerg ∧ (State.dropMessage s).status = s.status ∧
          (State.dropMessage s).power = s.power := by
  unfold State.dropMessage; (repeat' split) <;> simp

@[simp] theorem State.judge_frame (b : BufferId) (m : InMessage) (s : State) :
    (State.judge b m s).pending = s.pending ∧ (State.judge b m s).mem = s.mem ∧ (State.judge b m s).pins = s.pins ∧
          (State.judge b m s).link = s.link ∧ (State.judge b m s).offers = s.offers ∧ (State.judge b m s).trips = s.trips ∧
          (State.judge b m s).emerg = s.emerg ∧ (State.judge b m s).status = s.status ∧ (State.judge b m s).power = s.power := by
  unfold State.judge; dsimp only; (repeat' split) <;> simp <;> (repeat' split) <;> simp

@[simp] theorem State.judgeNext_frame (s : State) :
    (State.judgeNext s).pending = s.pending ∧ (State.judgeNext s).mem = s.mem ∧ (State.judgeNext s).pins = s.pins ∧
          (State.judgeNext s).link = s.link ∧ (State.judgeNext s).offers = s.offers ∧ (State.judgeNext s).trips = s.trips ∧
          (State.judgeNext s).emerg = s.emerg ∧ (State.judgeNext s).status = s.status ∧ (State.judgeNext s).power = s.power := by
  unfold State.judgeNext; (repeat' split) <;> simp

@[simp] theorem State.judgeAll_frame (s : State) :
    (State.judgeAll s).pending = s.pending ∧ (State.judgeAll s).mem = s.mem ∧ (State.judgeAll s).pins = s.pins ∧
          (State.judgeAll s).link = s.link ∧ (State.judgeAll s).offers = s.offers ∧ (State.judgeAll s).trips = s.trips ∧
          (State.judgeAll s).emerg = s.emerg ∧ (State.judgeAll s).status = s.status ∧ (State.judgeAll s).power = s.power := by
  unfold State.judgeAll; (repeat' split) <;> simp

@[simp] theorem State.assemble_frame (b : BufferId) (a : Assembly) (s : State) :
    (State.assemble b a s).pending = s.pending ∧ (State.assemble b a s).mem = s.mem ∧ (State.assemble b a s).pins = s.pins ∧
          (State.assemble b a s).link = s.link ∧ (State.assemble b a s).offers = s.offers ∧ (State.assemble b a s).trips = s.trips ∧
          (State.assemble b a s).emerg = s.emerg ∧ (State.assemble b a s).status = s.status ∧ (State.assemble b a s).power = s.power := by
  unfold State.assemble; (repeat' split) <;> simp

@[simp] theorem State.truncateFor_frame (b : BufferId) (a : Assembly) (s : State) :
    (State.truncateFor b a s).pending = s.pending ∧ (State.truncateFor b a s).mem = s.mem ∧ (State.truncateFor b a s).pins = s.pins ∧
          (State.truncateFor b a s).link = s.link ∧ (State.truncateFor b a s).offers = s.offers ∧
          (State.truncateFor b a s).trips = s.trips ∧ (State.truncateFor b a s).emerg = s.emerg ∧
          (State.truncateFor b a s).status = s.status ∧ (State.truncateFor b a s).power = s.power := by
  unfold State.truncateFor; dsimp only; (repeat' split) <;> simp <;> (repeat' split) <;> simp

@[simp] theorem State.takeText_frame (b : TextBody) (s : State) :
    (State.takeText b s).pending = s.pending ∧ (State.takeText b s).mem = s.mem ∧ (State.takeText b s).pins = s.pins ∧
          (State.takeText b s).link = s.link ∧ (State.takeText b s).offers = s.offers ∧ (State.takeText b s).trips = s.trips ∧
          (State.takeText b s).emerg = s.emerg ∧ (State.takeText b s).status = s.status ∧ (State.takeText b s).power = s.power := by
  unfold State.takeText; (repeat' split) <;> simp

@[simp] theorem State.interFragmentEnds_frame (b : BufferId) (s : State) :
    (State.interFragmentEnds b s).pending = s.pending ∧ (State.interFragmentEnds b s).mem = s.mem ∧
          (State.interFragmentEnds b s).pins = s.pins ∧ (State.interFragmentEnds b s).link = s.link ∧
          (State.interFragmentEnds b s).offers = s.offers ∧ (State.interFragmentEnds b s).trips = s.trips ∧
          (State.interFragmentEnds b s).emerg = s.emerg ∧ (State.interFragmentEnds b s).status = s.status ∧
          (State.interFragmentEnds b s).power = s.power := by
  unfold State.interFragmentEnds; (repeat' split) <;> simp

@[simp] theorem State.endInboundDeposit_frame (s : State) :
    (State.endInboundDeposit s).pending = s.pending ∧ (State.endInboundDeposit s).mem = s.mem ∧
          (State.endInboundDeposit s).link = s.link ∧ (State.endInboundDeposit s).offers = s.offers ∧
          (State.endInboundDeposit s).trips = s.trips ∧ (State.endInboundDeposit s).emerg = s.emerg ∧
          (State.endInboundDeposit s).status = s.status ∧ (State.endInboundDeposit s).power = s.power := by
  unfold State.endInboundDeposit; (repeat' split) <;> simp

@[simp] theorem State.ringResult_frame (i : RingId) (r : Result) (s : State) :
    (State.ringResult i r s).pending = s.pending ∧ (State.ringResult i r s).mem = s.mem ∧ (State.ringResult i r s).pins = s.pins ∧
          (State.ringResult i r s).path = s.path ∧ (State.ringResult i r s).page = s.page ∧ (State.ringResult i r s).link = s.link ∧
          (State.ringResult i r s).radio = s.radio ∧ (State.ringResult i r s).sched = s.sched ∧
          (State.ringResult i r s).offers = s.offers ∧ (State.ringResult i r s).trips = s.trips ∧
          (State.ringResult i r s).emerg = s.emerg ∧ (State.ringResult i r s).status = s.status ∧
          (State.ringResult i r s).power = s.power := by
  unfold State.ringResult; (repeat' split) <;> simp

@[simp] theorem State.ringNotValid_frame (i : RingId) (w : Word) (s : State) :
    (State.ringNotValid i w s).pending = s.pending ∧ (State.ringNotValid i w s).mem = s.mem ∧ (State.ringNotValid i w s).path = s.path ∧
          (State.ringNotValid i w s).link = s.link ∧ (State.ringNotValid i w s).radio = s.radio ∧
          (State.ringNotValid i w s).sched = s.sched ∧ (State.ringNotValid i w s).offers = s.offers ∧
          (State.ringNotValid i w s).trips = s.trips ∧ (State.ringNotValid i w s).emerg = s.emerg ∧
          (State.ringNotValid i w s).status = s.status ∧ (State.ringNotValid i w s).power = s.power := by
  unfold State.ringNotValid; (repeat' split) <;> simp

@[simp] theorem State.ringOpen_frame (i : RingId) (w : Word) (s : State) :
    (State.ringOpen i w s).pending = s.pending ∧ (State.ringOpen i w s).mem = s.mem ∧ (State.ringOpen i w s).link = s.link ∧
          (State.ringOpen i w s).radio = s.radio ∧ (State.ringOpen i w s).sched = s.sched ∧ (State.ringOpen i w s).offers = s.offers ∧
          (State.ringOpen i w s).trips = s.trips ∧ (State.ringOpen i w s).emerg = s.emerg ∧ (State.ringOpen i w s).status = s.status ∧
          (State.ringOpen i w s).power = s.power := by
  unfold State.ringOpen; dsimp only; (repeat' split) <;> simp <;> (repeat' split) <;> simp

@[simp] theorem State.dropWaiting_frame (b : BufferId) (s : State) :
    (State.dropWaiting b s).pending = s.pending ∧ (State.dropWaiting b s).mem = s.mem ∧ (State.dropWaiting b s).pins = s.pins ∧
          (State.dropWaiting b s).path = s.path ∧ (State.dropWaiting b s).link = s.link ∧ (State.dropWaiting b s).radio = s.radio ∧
          (State.dropWaiting b s).sched = s.sched ∧ (State.dropWaiting b s).offers = s.offers ∧ (State.dropWaiting b s).trips = s.trips ∧
          (State.dropWaiting b s).emerg = s.emerg ∧ (State.dropWaiting b s).status = s.status ∧
          (State.dropWaiting b s).power = s.power := by
  unfold State.dropWaiting; (repeat' split) <;> simp

@[simp] theorem State.closeRing_frame (i : RingId) (s : State) :
    (State.closeRing i s).pending = s.pending ∧ (State.closeRing i s).mem = s.mem ∧ (State.closeRing i s).path = s.path ∧
          (State.closeRing i s).link = s.link ∧ (State.closeRing i s).offers = s.offers ∧ (State.closeRing i s).trips = s.trips ∧
          (State.closeRing i s).emerg = s.emerg ∧ (State.closeRing i s).status = s.status ∧ (State.closeRing i s).power = s.power := by
  unfold State.closeRing; dsimp only; (repeat' split) <;> simp <;> (repeat' split) <;> simp

@[simp] theorem State.ringClose_frame (i : RingId) (w : Word) (s : State) :
    (State.ringClose i w s).pending = s.pending ∧ (State.ringClose i w s).mem = s.mem ∧ (State.ringClose i w s).path = s.path ∧
          (State.ringClose i w s).link = s.link ∧ (State.ringClose i w s).offers = s.offers ∧ (State.ringClose i w s).trips = s.trips ∧
          (State.ringClose i w s).emerg = s.emerg ∧ (State.ringClose i w s).status = s.status ∧
          (State.ringClose i w s).power = s.power := by
  unfold State.ringClose; (repeat' split) <;> simp

@[simp] theorem State.ringControl_frame (i : RingId) (l : Lanes) (d : Word) (s : State) :
    (State.ringControl i l d s).pending = s.pending ∧ (State.ringControl i l d s).mem = s.mem ∧
          (State.ringControl i l d s).link = s.link ∧ (State.ringControl i l d s).offers = s.offers ∧
          (State.ringControl i l d s).trips = s.trips ∧ (State.ringControl i l d s).emerg = s.emerg ∧
          (State.ringControl i l d s).status = s.status ∧ (State.ringControl i l d s).power = s.power := by
  unfold State.ringControl; dsimp only; (repeat' split) <;> simp <;> (repeat' split) <;> simp

@[simp] theorem State.descriptorWrite_frame (i : RingId) (p : DescriptorWord) (l : Lanes) (d : Word) (s : State) :
    (State.descriptorWrite i p l d s).pending = s.pending ∧ (State.descriptorWrite i p l d s).mem = s.mem ∧
          (State.descriptorWrite i p l d s).pins = s.pins ∧ (State.descriptorWrite i p l d s).path = s.path ∧
          (State.descriptorWrite i p l d s).page = s.page ∧ (State.descriptorWrite i p l d s).link = s.link ∧
          (State.descriptorWrite i p l d s).radio = s.radio ∧ (State.descriptorWrite i p l d s).sched = s.sched ∧
          (State.descriptorWrite i p l d s).offers = s.offers ∧ (State.descriptorWrite i p l d s).trips = s.trips ∧
          (State.descriptorWrite i p l d s).emerg = s.emerg ∧ (State.descriptorWrite i p l d s).status = s.status ∧
          (State.descriptorWrite i p l d s).power = s.power := by
  unfold State.descriptorWrite; (repeat' split) <;> simp

@[simp] theorem State.pointerMoved_frame (i : RingId) (s : State) :
    (State.pointerMoved i s).pending = s.pending ∧ (State.pointerMoved i s).mem = s.mem ∧ (State.pointerMoved i s).page = s.page ∧
          (State.pointerMoved i s).link = s.link ∧ (State.pointerMoved i s).offers = s.offers ∧
          (State.pointerMoved i s).emerg = s.emerg ∧ (State.pointerMoved i s).status = s.status ∧
          (State.pointerMoved i s).power = s.power := by
  unfold State.pointerMoved; (repeat' split) <;> simp

@[simp] theorem State.pointerWrite_frame (i : RingId) (l : Lanes) (d : Word) (s : State) :
    (State.pointerWrite i l d s).pending = s.pending ∧ (State.pointerWrite i l d s).mem = s.mem ∧
          (State.pointerWrite i l d s).link = s.link ∧ (State.pointerWrite i l d s).offers = s.offers ∧
          (State.pointerWrite i l d s).emerg = s.emerg ∧ (State.pointerWrite i l d s).status = s.status ∧
          (State.pointerWrite i l d s).power = s.power := by
  unfold State.pointerWrite; dsimp only; (repeat' split) <;> simp <;> (repeat' split) <;> simp

@[simp] theorem State.endOpenCheck_frame (i : RingId) (h : HeaderWords) (s : State) :
    (State.endOpenCheck i h s).pending = s.pending ∧ (State.endOpenCheck i h s).mem = s.mem ∧ (State.endOpenCheck i h s).link = s.link ∧
          (State.endOpenCheck i h s).offers = s.offers ∧ (State.endOpenCheck i h s).emerg = s.emerg ∧
          (State.endOpenCheck i h s).status = s.status ∧ (State.endOpenCheck i h s).power = s.power := by
  unfold State.endOpenCheck; dsimp only; (repeat' split) <;> simp <;> (repeat' split) <;> simp

@[simp] theorem State.softResetMessages_frame (s : State) :
    (State.softResetMessages s).pending = s.pending ∧ (State.softResetMessages s).mem = s.mem ∧
          (State.softResetMessages s).pins = s.pins ∧ (State.softResetMessages s).path = s.path ∧
          (State.softResetMessages s).page = s.page ∧ (State.softResetMessages s).link = s.link ∧
          (State.softResetMessages s).sched = s.sched ∧ (State.softResetMessages s).offers = s.offers ∧
          (State.softResetMessages s).trips = s.trips ∧ (State.softResetMessages s).emerg = s.emerg ∧
          (State.softResetMessages s).status = s.status ∧ (State.softResetMessages s).power = s.power := by
  unfold State.softResetMessages; (repeat' split) <;> simp

@[simp] theorem State.give_frame (o : Order) (s : State) :
    (State.give o s).pending = s.pending ∧ (State.give o s).mem = s.mem ∧ (State.give o s).pins = s.pins ∧
          (State.give o s).path = s.path ∧ (State.give o s).page = s.page ∧ (State.give o s).link = s.link ∧
          (State.give o s).sched = s.sched ∧ (State.give o s).offers = s.offers ∧ (State.give o s).trips = s.trips ∧
          (State.give o s).msgs = s.msgs ∧ (State.give o s).emerg = s.emerg ∧ (State.give o s).status = s.status ∧
          (State.give o s).power = s.power := by
  unfold State.give; (repeat' split) <;> simp

@[simp] theorem State.exitJoined_frame (s : State) :
    (State.exitJoined s).pending = s.pending ∧ (State.exitJoined s).mem = s.mem ∧ (State.exitJoined s).path = s.path ∧
          (State.exitJoined s).link = s.link ∧ (State.exitJoined s).offers = s.offers ∧ (State.exitJoined s).trips = s.trips ∧
          (State.exitJoined s).emerg = s.emerg ∧ (State.exitJoined s).status = s.status ∧ (State.exitJoined s).power = s.power := by
  unfold State.exitJoined; (repeat' split) <;> simp

@[simp] theorem State.leaveJoin_frame (s : State) :
    (State.leaveJoin s).pending = s.pending ∧ (State.leaveJoin s).mem = s.mem ∧ (State.leaveJoin s).pins = s.pins ∧
          (State.leaveJoin s).path = s.path ∧ (State.leaveJoin s).page = s.page ∧ (State.leaveJoin s).offers = s.offers ∧
          (State.leaveJoin s).trips = s.trips ∧ (State.leaveJoin s).msgs = s.msgs ∧ (State.leaveJoin s).emerg = s.emerg ∧
          (State.leaveJoin s).status = s.status ∧ (State.leaveJoin s).power = s.power := by
  unfold State.leaveJoin; (repeat' split) <;> simp

@[simp] theorem State.exitLink_frame (s : State) :
    (State.exitLink s).pending = s.pending ∧ (State.exitLink s).mem = s.mem ∧ (State.exitLink s).path = s.path ∧
          (State.exitLink s).offers = s.offers ∧ (State.exitLink s).trips = s.trips ∧ (State.exitLink s).emerg = s.emerg ∧
          (State.exitLink s).status = s.status ∧ (State.exitLink s).power = s.power := by
  unfold State.exitLink; (repeat' split) <;> simp

@[simp] theorem State.enterQuiet_frame (b : Bool) (s : State) :
    (State.enterQuiet b s).pending = s.pending ∧ (State.enterQuiet b s).mem = s.mem ∧ (State.enterQuiet b s).path = s.path ∧
          (State.enterQuiet b s).offers = s.offers ∧ (State.enterQuiet b s).trips = s.trips ∧ (State.enterQuiet b s).emerg = s.emerg ∧
          (State.enterQuiet b s).status = s.status ∧ (State.enterQuiet b s).power = s.power := by
  unfold State.enterQuiet; dsimp only; (repeat' split) <;> simp <;> (repeat' split) <;> simp

@[simp] theorem State.enterOff_frame (s : State) :
    (State.enterOff s).pending = s.pending ∧ (State.enterOff s).mem = s.mem ∧ (State.enterOff s).path = s.path ∧
          (State.enterOff s).offers = s.offers ∧ (State.enterOff s).trips = s.trips ∧ (State.enterOff s).emerg = s.emerg ∧
          (State.enterOff s).status = s.status ∧ (State.enterOff s).power = s.power := by
  unfold State.enterOff; (repeat' split) <;> simp

@[simp] theorem State.enterJoin_frame (c : Candidate) (s : State) :
    (State.enterJoin c s).pending = s.pending ∧ (State.enterJoin c s).mem = s.mem ∧ (State.enterJoin c s).pins = s.pins ∧
          (State.enterJoin c s).path = s.path ∧ (State.enterJoin c s).page = s.page ∧ (State.enterJoin c s).offers = s.offers ∧
          (State.enterJoin c s).trips = s.trips ∧ (State.enterJoin c s).msgs = s.msgs ∧ (State.enterJoin c s).emerg = s.emerg ∧
          (State.enterJoin c s).status = s.status ∧ (State.enterJoin c s).power = s.power := by
  unfold State.enterJoin; (repeat' split) <;> simp

@[simp] theorem State.endPass_frame (s : State) :
    (State.endPass s).pending = s.pending ∧ (State.endPass s).mem = s.mem ∧ (State.endPass s).path = s.path ∧
          (State.endPass s).offers = s.offers ∧ (State.endPass s).trips = s.trips ∧ (State.endPass s).emerg = s.emerg ∧
          (State.endPass s).status = s.status ∧ (State.endPass s).power = s.power := by
  unfold State.endPass; (repeat' split) <;> simp

@[simp] theorem State.candidateFails_frame (s : State) :
    (State.candidateFails s).pending = s.pending ∧ (State.candidateFails s).mem = s.mem ∧ (State.candidateFails s).path = s.path ∧
          (State.candidateFails s).offers = s.offers ∧ (State.candidateFails s).trips = s.trips ∧
          (State.candidateFails s).emerg = s.emerg ∧ (State.candidateFails s).status = s.status ∧
          (State.candidateFails s).power = s.power := by
  unfold State.candidateFails; dsimp only; (repeat' split) <;> simp <;> (repeat' split) <;> simp

@[simp] theorem State.tuneNext_frame (c : Word) (r : List Word) (s : State) :
    (State.tuneNext c r s).pending = s.pending ∧ (State.tuneNext c r s).mem = s.mem ∧ (State.tuneNext c r s).pins = s.pins ∧
          (State.tuneNext c r s).path = s.path ∧ (State.tuneNext c r s).page = s.page ∧ (State.tuneNext c r s).sched = s.sched ∧
          (State.tuneNext c r s).offers = s.offers ∧ (State.tuneNext c r s).trips = s.trips ∧ (State.tuneNext c r s).msgs = s.msgs ∧
          (State.tuneNext c r s).emerg = s.emerg ∧ (State.tuneNext c r s).status = s.status ∧ (State.tuneNext c r s).power = s.power := by
  unfold State.tuneNext; (repeat' split) <;> simp

@[simp] theorem State.quickJoin_frame (c : Word) (r : Run) (s : State) :
    (State.quickJoin c r s).pending = s.pending ∧ (State.quickJoin c r s).mem = s.mem ∧ (State.quickJoin c r s).pins = s.pins ∧
          (State.quickJoin c r s).path = s.path ∧ (State.quickJoin c r s).page = s.page ∧ (State.quickJoin c r s).offers = s.offers ∧
          (State.quickJoin c r s).trips = s.trips ∧ (State.quickJoin c r s).msgs = s.msgs ∧ (State.quickJoin c r s).emerg = s.emerg ∧
          (State.quickJoin c r s).status = s.status ∧ (State.quickJoin c r s).power = s.power := by
  unfold State.quickJoin; (repeat' split) <;> simp

@[simp] theorem State.nextChannel_frame (s : State) :
    (State.nextChannel s).pending = s.pending ∧ (State.nextChannel s).mem = s.mem ∧ (State.nextChannel s).path = s.path ∧
          (State.nextChannel s).offers = s.offers ∧ (State.nextChannel s).trips = s.trips ∧ (State.nextChannel s).emerg = s.emerg ∧
          (State.nextChannel s).status = s.status ∧ (State.nextChannel s).power = s.power := by
  unfold State.nextChannel; (repeat' split) <;> simp

@[simp] theorem State.startHunt_frame (s : State) :
    (State.startHunt s).pending = s.pending ∧ (State.startHunt s).mem = s.mem ∧ (State.startHunt s).pins = s.pins ∧
          (State.startHunt s).path = s.path ∧ (State.startHunt s).page = s.page ∧ (State.startHunt s).sched = s.sched ∧
          (State.startHunt s).offers = s.offers ∧ (State.startHunt s).trips = s.trips ∧ (State.startHunt s).msgs = s.msgs ∧
          (State.startHunt s).emerg = s.emerg ∧ (State.startHunt s).status = s.status ∧ (State.startHunt s).power = s.power := by
  unfold State.startHunt; (repeat' split) <;> simp

@[simp] theorem State.huntBeacon_frame (g : Bool) (n : Word) (a : Byte) (s : State) :
    (State.huntBeacon g n a s).pending = s.pending ∧ (State.huntBeacon g n a s).mem = s.mem ∧ (State.huntBeacon g n a s).path = s.path ∧
          (State.huntBeacon g n a s).offers = s.offers ∧ (State.huntBeacon g n a s).trips = s.trips ∧
          (State.huntBeacon g n a s).emerg = s.emerg ∧ (State.huntBeacon g n a s).status = s.status ∧
          (State.huntBeacon g n a s).power = s.power := by
  unfold State.huntBeacon; dsimp only; (repeat' split) <;> simp <;> (repeat' split) <;> simp

@[simp] theorem State.joinFails_frame (s : State) :
    (State.joinFails s).pending = s.pending ∧ (State.joinFails s).mem = s.mem ∧ (State.joinFails s).path = s.path ∧
          (State.joinFails s).offers = s.offers ∧ (State.joinFails s).trips = s.trips ∧ (State.joinFails s).emerg = s.emerg ∧
          (State.joinFails s).status = s.status ∧ (State.joinFails s).power = s.power := by
  unfold State.joinFails; (repeat' split) <;> simp

@[simp] theorem State.contenderFails_frame (c : Contender) (s : State) :
    (State.contenderFails c s).pending = s.pending ∧ (State.contenderFails c s).mem = s.mem ∧ (State.contenderFails c s).path = s.path ∧
          (State.contenderFails c s).offers = s.offers ∧ (State.contenderFails c s).trips = s.trips ∧
          (State.contenderFails c s).emerg = s.emerg ∧ (State.contenderFails c s).status = s.status ∧
          (State.contenderFails c s).power = s.power := by
  unfold State.contenderFails; (repeat' split) <;> simp

@[simp] theorem State.contentionOutcome_frame (b : Bool) (s : State) :
    (State.contentionOutcome b s).pending = s.pending ∧ (State.contentionOutcome b s).mem = s.mem ∧
          (State.contentionOutcome b s).path = s.path ∧ (State.contentionOutcome b s).offers = s.offers ∧
          (State.contentionOutcome b s).trips = s.trips ∧ (State.contentionOutcome b s).emerg = s.emerg ∧
          (State.contentionOutcome b s).status = s.status ∧ (State.contentionOutcome b s).power = s.power := by
  unfold State.contentionOutcome; (repeat' split) <;> simp

@[simp] theorem State.endPassedGrant_frame (s : State) :
    (State.endPassedGrant s).pending = s.pending ∧ (State.endPassedGrant s).mem = s.mem ∧ (State.endPassedGrant s).pins = s.pins ∧
          (State.endPassedGrant s).path = s.path ∧ (State.endPassedGrant s).page = s.page ∧ (State.endPassedGrant s).link = s.link ∧
          (State.endPassedGrant s).offers = s.offers ∧ (State.endPassedGrant s).trips = s.trips ∧
          (State.endPassedGrant s).msgs = s.msgs ∧ (State.endPassedGrant s).emerg = s.emerg ∧
          (State.endPassedGrant s).status = s.status ∧ (State.endPassedGrant s).power = s.power := by
  unfold State.endPassedGrant; (repeat' split) <;> simp

@[simp] theorem State.countCycleStart_frame (s : State) :
    (State.countCycleStart s).pending = s.pending ∧ (State.countCycleStart s).mem = s.mem ∧ (State.countCycleStart s).pins = s.pins ∧
          (State.countCycleStart s).path = s.path ∧ (State.countCycleStart s).page = s.page ∧
          (State.countCycleStart s).offers = s.offers ∧ (State.countCycleStart s).trips = s.trips ∧
          (State.countCycleStart s).msgs = s.msgs ∧ (State.countCycleStart s).status = s.status := by
  unfold State.countCycleStart; (repeat' split) <;> simp

@[simp] theorem State.missBeacon_frame (s : State) :
    (State.missBeacon s).pending = s.pending ∧ (State.missBeacon s).mem = s.mem ∧ (State.missBeacon s).path = s.path ∧
          (State.missBeacon s).offers = s.offers ∧ (State.missBeacon s).trips = s.trips ∧ (State.missBeacon s).emerg = s.emerg ∧
          (State.missBeacon s).status = s.status ∧ (State.missBeacon s).power = s.power := by
  unfold State.missBeacon; dsimp only; (repeat' split) <;> simp <;> (repeat' split) <;> simp

@[simp] theorem State.closeWindow_frame (s : State) :
    (State.closeWindow s).pending = s.pending ∧ (State.closeWindow s).mem = s.mem ∧ (State.closeWindow s).path = s.path ∧
          (State.closeWindow s).offers = s.offers ∧ (State.closeWindow s).trips = s.trips ∧ (State.closeWindow s).emerg = s.emerg ∧
          (State.closeWindow s).status = s.status ∧ (State.closeWindow s).power = s.power := by
  unfold State.closeWindow; (repeat' split) <;> simp

@[simp] theorem State.startCycle_frame (s : State) :
    (State.startCycle s).pending = s.pending ∧ (State.startCycle s).mem = s.mem ∧ (State.startCycle s).path = s.path ∧
          (State.startCycle s).offers = s.offers ∧ (State.startCycle s).trips = s.trips ∧ (State.startCycle s).status = s.status := by
  unfold State.startCycle; (repeat' split) <;> simp

@[simp] theorem State.alignCycle_frame (b : BeaconBody) (s : State) :
    (State.alignCycle b s).pending = s.pending ∧ (State.alignCycle b s).mem = s.mem ∧ (State.alignCycle b s).pins = s.pins ∧
          (State.alignCycle b s).path = s.path ∧ (State.alignCycle b s).page = s.page ∧ (State.alignCycle b s).offers = s.offers ∧
          (State.alignCycle b s).trips = s.trips ∧ (State.alignCycle b s).msgs = s.msgs ∧ (State.alignCycle b s).status = s.status := by
  unfold State.alignCycle; (repeat' split) <;> simp

@[simp] theorem State.takeBeacon_frame (n : Word) (b : BeaconBody) (s : State) :
    (State.takeBeacon n b s).pending = s.pending ∧ (State.takeBeacon n b s).mem = s.mem ∧ (State.takeBeacon n b s).path = s.path ∧
          (State.takeBeacon n b s).offers = s.offers ∧ (State.takeBeacon n b s).trips = s.trips ∧
          (State.takeBeacon n b s).status = s.status := by
  unfold State.takeBeacon; dsimp only; (repeat' split) <;> simp <;> (repeat' split) <;> simp

@[simp] theorem State.enterJoined_frame (c : Candidate) (x y z : Byte) (s : State) :
    (State.enterJoined c x y z s).pending = s.pending ∧ (State.enterJoined c x y z s).mem = s.mem ∧
          (State.enterJoined c x y z s).path = s.path ∧ (State.enterJoined c x y z s).offers = s.offers ∧
          (State.enterJoined c x y z s).trips = s.trips ∧ (State.enterJoined c x y z s).msgs = s.msgs ∧
          (State.enterJoined c x y z s).emerg = s.emerg ∧ (State.enterJoined c x y z s).status = s.status ∧
          (State.enterJoined c x y z s).power = s.power := by
  unfold State.enterJoined; (repeat' split) <;> simp

@[simp] theorem State.takeGrantJoin_frame (x y z : Byte) (s : State) :
    (State.takeGrantJoin x y z s).pending = s.pending ∧ (State.takeGrantJoin x y z s).mem = s.mem ∧
          (State.takeGrantJoin x y z s).path = s.path ∧ (State.takeGrantJoin x y z s).offers = s.offers ∧
          (State.takeGrantJoin x y z s).trips = s.trips ∧ (State.takeGrantJoin x y z s).msgs = s.msgs ∧
          (State.takeGrantJoin x y z s).emerg = s.emerg ∧ (State.takeGrantJoin x y z s).status = s.status ∧
          (State.takeGrantJoin x y z s).power = s.power := by
  unfold State.takeGrantJoin; (repeat' split) <;> simp

@[simp] theorem State.joinGrantWaitEnds_frame (s : State) :
    (State.joinGrantWaitEnds s).pending = s.pending ∧ (State.joinGrantWaitEnds s).mem = s.mem ∧
          (State.joinGrantWaitEnds s).path = s.path ∧ (State.joinGrantWaitEnds s).offers = s.offers ∧
          (State.joinGrantWaitEnds s).trips = s.trips ∧ (State.joinGrantWaitEnds s).emerg = s.emerg ∧
          (State.joinGrantWaitEnds s).status = s.status ∧ (State.joinGrantWaitEnds s).power = s.power := by
  unfold State.joinGrantWaitEnds; (repeat' split) <;> simp

@[simp] theorem State.enterActive_frame (s : State) :
    (State.enterActive s).pending = s.pending ∧ (State.enterActive s).mem = s.mem ∧ (State.enterActive s).path = s.path ∧
          (State.enterActive s).offers = s.offers ∧ (State.enterActive s).trips = s.trips ∧ (State.enterActive s).emerg = s.emerg ∧
          (State.enterActive s).status = s.status := by
  unfold State.enterActive; (repeat' split) <;> simp

@[simp] theorem State.wakeEvent_frame (w : WakeSource) (s : State) :
    (State.wakeEvent w s).pending = s.pending ∧ (State.wakeEvent w s).mem = s.mem ∧ (State.wakeEvent w s).path = s.path ∧
          (State.wakeEvent w s).offers = s.offers ∧ (State.wakeEvent w s).trips = s.trips ∧ (State.wakeEvent w s).emerg = s.emerg ∧
          (State.wakeEvent w s).status = s.status := by
  unfold State.wakeEvent; (repeat' split) <;> simp

@[simp] theorem State.enterParking_frame (s : State) :
    (State.enterParking s).pending = s.pending ∧ (State.enterParking s).mem = s.mem ∧ (State.enterParking s).path = s.path ∧
          (State.enterParking s).page = s.page ∧ (State.enterParking s).link = s.link ∧ (State.enterParking s).radio = s.radio ∧
          (State.enterParking s).offers = s.offers ∧ (State.enterParking s).trips = s.trips ∧ (State.enterParking s).msgs = s.msgs ∧
          (State.enterParking s).emerg = s.emerg ∧ (State.enterParking s).status = s.status := by
  unfold State.enterParking; (repeat' split) <;> simp

@[simp] theorem State.enterStandby_frame (s : State) :
    (State.enterStandby s).pending = s.pending ∧ (State.enterStandby s).mem = s.mem ∧ (State.enterStandby s).path = s.path ∧
          (State.enterStandby s).link = s.link ∧ (State.enterStandby s).radio = s.radio ∧ (State.enterStandby s).offers = s.offers ∧
          (State.enterStandby s).trips = s.trips ∧ (State.enterStandby s).msgs = s.msgs ∧ (State.enterStandby s).emerg = s.emerg ∧
          (State.enterStandby s).status = s.status := by
  unfold State.enterStandby; (repeat' split) <;> simp

@[simp] theorem State.enterSleep_frame (s : State) :
    (State.enterSleep s).pending = s.pending ∧ (State.enterSleep s).mem = s.mem ∧ (State.enterSleep s).path = s.path ∧
          (State.enterSleep s).offers = s.offers ∧ (State.enterSleep s).trips = s.trips ∧ (State.enterSleep s).emerg = s.emerg ∧
          (State.enterSleep s).status = s.status := by
  unfold State.enterSleep; (repeat' split) <;> simp

@[simp] theorem State.endParking_frame (s : State) :
    (State.endParking s).pending = s.pending ∧ (State.endParking s).mem = s.mem ∧ (State.endParking s).path = s.path ∧
          (State.endParking s).offers = s.offers ∧ (State.endParking s).trips = s.trips ∧ (State.endParking s).emerg = s.emerg ∧
          (State.endParking s).status = s.status := by
  unfold State.endParking; (repeat' split) <;> simp

@[simp] theorem State.statusSent_frame (b : Bool) (s : State) :
    (State.statusSent b s).pending = s.pending ∧ (State.statusSent b s).mem = s.mem ∧ (State.statusSent b s).path = s.path ∧
          (State.statusSent b s).offers = s.offers ∧ (State.statusSent b s).trips = s.trips ∧ (State.statusSent b s).emerg = s.emerg ∧
          (State.statusSent b s).status = s.status := by
  unfold State.statusSent; (repeat' split) <;> simp

@[simp] theorem State.powerChange_frame (w : Word) (s : State) :
    (State.powerChange w s).pending = s.pending ∧ (State.powerChange w s).mem = s.mem ∧ (State.powerChange w s).path = s.path ∧
          (State.powerChange w s).offers = s.offers ∧ (State.powerChange w s).trips = s.trips ∧ (State.powerChange w s).emerg = s.emerg ∧
          (State.powerChange w s).status = s.status := by
  unfold State.powerChange; (repeat' split) <;> simp

@[simp] theorem State.powerRequest_frame (l : Lanes) (d : Word) (s : State) :
    (State.powerRequest l d s).pending = s.pending ∧ (State.powerRequest l d s).mem = s.mem ∧ (State.powerRequest l d s).path = s.path ∧
          (State.powerRequest l d s).offers = s.offers ∧ (State.powerRequest l d s).trips = s.trips ∧
          (State.powerRequest l d s).emerg = s.emerg ∧ (State.powerRequest l d s).status = s.status := by
  unfold State.powerRequest; dsimp only; (repeat' split) <;> simp <;> (repeat' split) <;> simp

@[simp] theorem State.rewriteRecord_frame (s : State) :
    (State.rewriteRecord s).pending = s.pending ∧ (State.rewriteRecord s).mem = s.mem ∧ (State.rewriteRecord s).pins = s.pins ∧
          (State.rewriteRecord s).page = s.page ∧ (State.rewriteRecord s).link = s.link ∧ (State.rewriteRecord s).radio = s.radio ∧
          (State.rewriteRecord s).sched = s.sched ∧ (State.rewriteRecord s).offers = s.offers ∧ (State.rewriteRecord s).trips = s.trips ∧
          (State.rewriteRecord s).msgs = s.msgs ∧ (State.rewriteRecord s).status = s.status ∧ (State.rewriteRecord s).power = s.power := by
  unfold State.rewriteRecord; (repeat' split) <;> simp

@[simp] theorem State.rewriteWithCause_frame (s : State) :
    (State.rewriteWithCause s).pending = s.pending ∧ (State.rewriteWithCause s).mem = s.mem ∧ (State.rewriteWithCause s).pins = s.pins ∧
          (State.rewriteWithCause s).page = s.page ∧ (State.rewriteWithCause s).link = s.link ∧
          (State.rewriteWithCause s).radio = s.radio ∧ (State.rewriteWithCause s).sched = s.sched ∧
          (State.rewriteWithCause s).offers = s.offers ∧ (State.rewriteWithCause s).trips = s.trips ∧
          (State.rewriteWithCause s).msgs = s.msgs ∧ (State.rewriteWithCause s).status = s.status ∧
          (State.rewriteWithCause s).power = s.power := by
  unfold State.rewriteWithCause; (repeat' split) <;> simp

@[simp] theorem State.alertingHandOn_frame (s : State) :
    (State.alertingHandOn s).pending = s.pending ∧ (State.alertingHandOn s).mem = s.mem ∧ (State.alertingHandOn s).page = s.page ∧
          (State.alertingHandOn s).link = s.link ∧ (State.alertingHandOn s).trips = s.trips ∧ (State.alertingHandOn s).msgs = s.msgs ∧
          (State.alertingHandOn s).emerg = s.emerg ∧ (State.alertingHandOn s).power = s.power := by
  unfold State.alertingHandOn; (repeat' split) <;> simp

@[simp] theorem State.fillAlert_frame (s : State) :
    (State.fillAlert s).pending = s.pending ∧ (State.fillAlert s).mem = s.mem ∧ (State.fillAlert s).pins = s.pins ∧
          (State.fillAlert s).path = s.path ∧ (State.fillAlert s).page = s.page ∧ (State.fillAlert s).link = s.link ∧
          (State.fillAlert s).radio = s.radio ∧ (State.fillAlert s).offers = s.offers ∧ (State.fillAlert s).trips = s.trips ∧
          (State.fillAlert s).msgs = s.msgs ∧ (State.fillAlert s).emerg = s.emerg ∧ (State.fillAlert s).status = s.status ∧
          (State.fillAlert s).power = s.power := by
  unfold State.fillAlert; (repeat' split) <;> simp

@[simp] theorem State.enterAlerting_frame (x : Source) (s : State) :
    (State.enterAlerting x s).pending = s.pending ∧ (State.enterAlerting x s).mem = s.mem ∧ (State.enterAlerting x s).page = s.page ∧
          (State.enterAlerting x s).link = s.link ∧ (State.enterAlerting x s).msgs = s.msgs ∧
          (State.enterAlerting x s).power = s.power := by
  unfold State.enterAlerting; (repeat' split) <;> simp

@[simp] theorem State.takeClosing_frame (s : State) :
    (State.takeClosing s).pending = s.pending ∧ (State.takeClosing s).mem = s.mem ∧ (State.takeClosing s).path = s.path ∧
          (State.takeClosing s).offers = s.offers ∧ (State.takeClosing s).status = s.status := by
  unfold State.takeClosing; dsimp only; (repeat' split) <;> simp <;> (repeat' split) <;> simp

@[simp] theorem State.takeOpening_frame (s : State) :
    (State.takeOpening s).pending = s.pending ∧ (State.takeOpening s).mem = s.mem ∧ (State.takeOpening s).pins = s.pins ∧
          (State.takeOpening s).path = s.path ∧ (State.takeOpening s).page = s.page ∧ (State.takeOpening s).link = s.link ∧
          (State.takeOpening s).radio = s.radio ∧ (State.takeOpening s).sched = s.sched ∧ (State.takeOpening s).offers = s.offers ∧
          (State.takeOpening s).trips = s.trips ∧ (State.takeOpening s).msgs = s.msgs ∧ (State.takeOpening s).status = s.status ∧
          (State.takeOpening s).power = s.power := by
  unfold State.takeOpening; (repeat' split) <;> simp

@[simp] theorem State.holdEnds_frame (s : State) :
    (State.holdEnds s).pending = s.pending ∧ (State.holdEnds s).mem = s.mem ∧ (State.holdEnds s).page = s.page ∧
          (State.holdEnds s).link = s.link ∧ (State.holdEnds s).msgs = s.msgs ∧ (State.holdEnds s).power = s.power := by
  unfold State.holdEnds; (repeat' split) <;> simp

@[simp] theorem State.emergencyRaiseWrite_frame (l : Lanes) (d : Word) (s : State) :
    (State.emergencyRaiseWrite l d s).pending = s.pending ∧ (State.emergencyRaiseWrite l d s).mem = s.mem ∧
          (State.emergencyRaiseWrite l d s).link = s.link ∧ (State.emergencyRaiseWrite l d s).msgs = s.msgs ∧
          (State.emergencyRaiseWrite l d s).power = s.power := by
  unfold State.emergencyRaiseWrite; dsimp only; (repeat' split) <;> simp <;> (repeat' split) <;> simp

@[simp] theorem State.countSend_frame (s : State) :
    (State.countSend s).pending = s.pending ∧ (State.countSend s).mem = s.mem ∧ (State.countSend s).pins = s.pins ∧
          (State.countSend s).path = s.path ∧ (State.countSend s).page = s.page ∧ (State.countSend s).link = s.link ∧
          (State.countSend s).radio = s.radio ∧ (State.countSend s).sched = s.sched ∧ (State.countSend s).offers = s.offers ∧
          (State.countSend s).trips = s.trips ∧ (State.countSend s).msgs = s.msgs ∧ (State.countSend s).status = s.status ∧
          (State.countSend s).power = s.power := by
  unfold State.countSend; (repeat' split) <;> simp

@[simp] theorem State.alertSent_frame (n : Word) (s : State) :
    (State.alertSent n s).pending = s.pending ∧ (State.alertSent n s).mem = s.mem ∧ (State.alertSent n s).pins = s.pins ∧
          (State.alertSent n s).page = s.page ∧ (State.alertSent n s).link = s.link ∧ (State.alertSent n s).radio = s.radio ∧
          (State.alertSent n s).offers = s.offers ∧ (State.alertSent n s).trips = s.trips ∧ (State.alertSent n s).msgs = s.msgs ∧
          (State.alertSent n s).status = s.status ∧ (State.alertSent n s).power = s.power := by
  unfold State.alertSent; (repeat' split) <;> simp

@[simp] theorem State.repeatEnds_frame (s : State) :
    (State.repeatEnds s).pending = s.pending ∧ (State.repeatEnds s).mem = s.mem ∧ (State.repeatEnds s).pins = s.pins ∧
          (State.repeatEnds s).path = s.path ∧ (State.repeatEnds s).page = s.page ∧ (State.repeatEnds s).link = s.link ∧
          (State.repeatEnds s).radio = s.radio ∧ (State.repeatEnds s).offers = s.offers ∧ (State.repeatEnds s).trips = s.trips ∧
          (State.repeatEnds s).msgs = s.msgs ∧ (State.repeatEnds s).status = s.status ∧ (State.repeatEnds s).power = s.power := by
  unfold State.repeatEnds; (repeat' split) <;> simp

@[simp] theorem State.takeAlertAck_frame (n : Word) (s : State) :
    (State.takeAlertAck n s).pending = s.pending ∧ (State.takeAlertAck n s).mem = s.mem ∧ (State.takeAlertAck n s).pins = s.pins ∧
          (State.takeAlertAck n s).page = s.page ∧ (State.takeAlertAck n s).link = s.link ∧ (State.takeAlertAck n s).radio = s.radio ∧
          (State.takeAlertAck n s).offers = s.offers ∧ (State.takeAlertAck n s).trips = s.trips ∧
          (State.takeAlertAck n s).msgs = s.msgs ∧ (State.takeAlertAck n s).status = s.status ∧
          (State.takeAlertAck n s).power = s.power := by
  unfold State.takeAlertAck; (repeat' split) <;> simp

@[simp] theorem State.takeAlertCancel_frame (n : Word) (s : State) :
    (State.takeAlertCancel n s).pending = s.pending ∧ (State.takeAlertCancel n s).mem = s.mem ∧
          (State.takeAlertCancel n s).page = s.page ∧ (State.takeAlertCancel n s).link = s.link ∧
          (State.takeAlertCancel n s).radio = s.radio ∧ (State.takeAlertCancel n s).offers = s.offers ∧
          (State.takeAlertCancel n s).trips = s.trips ∧ (State.takeAlertCancel n s).msgs = s.msgs ∧
          (State.takeAlertCancel n s).status = s.status ∧ (State.takeAlertCancel n s).power = s.power := by
  unfold State.takeAlertCancel; (repeat' split) <;> simp

@[simp] theorem State.endRecordRewrite_frame (b : Bool) (s : State) :
    (State.endRecordRewrite b s).pending = s.pending ∧ (State.endRecordRewrite b s).mem = s.mem ∧
          (State.endRecordRewrite b s).pins = s.pins ∧ (State.endRecordRewrite b s).page = s.page ∧
          (State.endRecordRewrite b s).link = s.link ∧ (State.endRecordRewrite b s).radio = s.radio ∧
          (State.endRecordRewrite b s).sched = s.sched ∧ (State.endRecordRewrite b s).offers = s.offers ∧
          (State.endRecordRewrite b s).trips = s.trips ∧ (State.endRecordRewrite b s).msgs = s.msgs ∧
          (State.endRecordRewrite b s).status = s.status ∧ (State.endRecordRewrite b s).power = s.power := by
  unfold State.endRecordRewrite; dsimp only; (repeat' split) <;> simp <;> (repeat' split) <;> simp

@[simp] theorem State.recover_frame (j : RecordJudgment) (s : State) :
    (State.recover j s).pending = s.pending ∧ (State.recover j s).mem = s.mem ∧ (State.recover j s).page = s.page ∧
          (State.recover j s).link = s.link ∧ (State.recover j s).trips = s.trips ∧ (State.recover j s).msgs = s.msgs := by
  unfold State.recover; (repeat' split) <;> simp

@[simp] theorem State.attachDriver_frame (d : Word) (s : State) :
    (State.attachDriver d s).pending = s.pending ∧ (State.attachDriver d s).mem = s.mem ∧ (State.attachDriver d s).path = s.path ∧
          (State.attachDriver d s).page = s.page ∧ (State.attachDriver d s).link = s.link ∧ (State.attachDriver d s).radio = s.radio ∧
          (State.attachDriver d s).offers = s.offers ∧ (State.attachDriver d s).msgs = s.msgs ∧
          (State.attachDriver d s).emerg = s.emerg ∧ (State.attachDriver d s).power = s.power := by
  unfold State.attachDriver; (repeat' split) <;> simp

@[simp] theorem State.driverWrite_frame (l : Lanes) (d : Word) (s : State) :
    (State.driverWrite l d s).pending = s.pending ∧ (State.driverWrite l d s).mem = s.mem ∧ (State.driverWrite l d s).path = s.path ∧
          (State.driverWrite l d s).page = s.page ∧ (State.driverWrite l d s).link = s.link ∧ (State.driverWrite l d s).radio = s.radio ∧
          (State.driverWrite l d s).offers = s.offers ∧ (State.driverWrite l d s).msgs = s.msgs ∧
          (State.driverWrite l d s).emerg = s.emerg ∧ (State.driverWrite l d s).power = s.power := by
  unfold State.driverWrite; dsimp only; (repeat' split) <;> simp <;> (repeat' split) <;> simp

@[simp] theorem State.statusRequest_frame (l : Lanes) (d : Word) (s : State) :
    (State.statusRequest l d s).pending = s.pending ∧ (State.statusRequest l d s).mem = s.mem ∧
          (State.statusRequest l d s).path = s.path ∧ (State.statusRequest l d s).link = s.link ∧
          (State.statusRequest l d s).radio = s.radio ∧ (State.statusRequest l d s).offers = s.offers ∧
          (State.statusRequest l d s).trips = s.trips ∧ (State.statusRequest l d s).msgs = s.msgs ∧
          (State.statusRequest l d s).emerg = s.emerg ∧ (State.statusRequest l d s).power = s.power := by
  unfold State.statusRequest; dsimp only; (repeat' split) <;> simp <;> (repeat' split) <;> simp

@[simp] theorem State.closeShift_frame (s : State) :
    (State.closeShift s).pending = s.pending ∧ (State.closeShift s).mem = s.mem ∧ (State.closeShift s).link = s.link ∧
          (State.closeShift s).msgs = s.msgs ∧ (State.closeShift s).emerg = s.emerg ∧ (State.closeShift s).power = s.power := by
  unfold State.closeShift; (repeat' split) <;> simp

@[simp] theorem State.shiftControl_frame (l : Lanes) (d : Word) (s : State) :
    (State.shiftControl l d s).pending = s.pending ∧ (State.shiftControl l d s).mem = s.mem ∧ (State.shiftControl l d s).link = s.link ∧
          (State.shiftControl l d s).msgs = s.msgs ∧ (State.shiftControl l d s).emerg = s.emerg ∧
          (State.shiftControl l d s).power = s.power := by
  unfold State.shiftControl; dsimp only; (repeat' split) <;> simp <;> (repeat' split) <;> simp

@[simp] theorem State.zoneByte_frame (d : Word) (s : State) :
    (State.zoneByte d s).pending = s.pending ∧ (State.zoneByte d s).mem = s.mem ∧ (State.zoneByte d s).path = s.path ∧
          (State.zoneByte d s).page = s.page ∧ (State.zoneByte d s).link = s.link ∧ (State.zoneByte d s).radio = s.radio ∧
          (State.zoneByte d s).offers = s.offers ∧ (State.zoneByte d s).trips = s.trips ∧ (State.zoneByte d s).msgs = s.msgs ∧
          (State.zoneByte d s).emerg = s.emerg ∧ (State.zoneByte d s).power = s.power := by
  unfold State.zoneByte; (repeat' split) <;> simp

@[simp] theorem State.coordinateLower_frame (c : Coordinate) (l : Lanes) (d : Word) (s : State) :
    (State.coordinateLower c l d s).pending = s.pending ∧ (State.coordinateLower c l d s).mem = s.mem ∧
          (State.coordinateLower c l d s).pins = s.pins ∧ (State.coordinateLower c l d s).path = s.path ∧
          (State.coordinateLower c l d s).page = s.page ∧ (State.coordinateLower c l d s).link = s.link ∧
          (State.coordinateLower c l d s).radio = s.radio ∧ (State.coordinateLower c l d s).sched = s.sched ∧
          (State.coordinateLower c l d s).offers = s.offers ∧ (State.coordinateLower c l d s).trips = s.trips ∧
          (State.coordinateLower c l d s).msgs = s.msgs ∧ (State.coordinateLower c l d s).emerg = s.emerg ∧
          (State.coordinateLower c l d s).power = s.power := by
  unfold State.coordinateLower; (repeat' split) <;> simp

@[simp] theorem State.coordinateHigher_frame (c : Coordinate) (l : Lanes) (d : Word) (s : State) :
    (State.coordinateHigher c l d s).pending = s.pending ∧ (State.coordinateHigher c l d s).mem = s.mem ∧
          (State.coordinateHigher c l d s).path = s.path ∧ (State.coordinateHigher c l d s).page = s.page ∧
          (State.coordinateHigher c l d s).link = s.link ∧ (State.coordinateHigher c l d s).radio = s.radio ∧
          (State.coordinateHigher c l d s).offers = s.offers ∧ (State.coordinateHigher c l d s).trips = s.trips ∧
          (State.coordinateHigher c l d s).msgs = s.msgs ∧ (State.coordinateHigher c l d s).emerg = s.emerg ∧
          (State.coordinateHigher c l d s).power = s.power := by
  unfold State.coordinateHigher; (repeat' split) <;> simp

@[simp] theorem State.readEffect_frame (f : Field) (s : State) :
    (State.readEffect f s).pending = s.pending ∧ (State.readEffect f s).mem = s.mem ∧ (State.readEffect f s).pins = s.pins ∧
          (State.readEffect f s).path = s.path ∧ (State.readEffect f s).radio = s.radio ∧ (State.readEffect f s).sched = s.sched ∧
          (State.readEffect f s).offers = s.offers ∧ (State.readEffect f s).msgs = s.msgs ∧ (State.readEffect f s).emerg = s.emerg ∧
          (State.readEffect f s).status = s.status := by
  unfold State.readEffect; (repeat' split) <;> simp

@[simp] theorem State.resetWordWrite_frame (l : Lanes) (d : Word) (s : State) :
    (State.resetWordWrite l d s).pending = s.pending ∧ (State.resetWordWrite l d s).mem = s.mem ∧
          (State.resetWordWrite l d s).pins = s.pins ∧ (State.resetWordWrite l d s).page = s.page ∧
          (State.resetWordWrite l d s).link = s.link ∧ (State.resetWordWrite l d s).radio = s.radio ∧
          (State.resetWordWrite l d s).sched = s.sched ∧ (State.resetWordWrite l d s).offers = s.offers ∧
          (State.resetWordWrite l d s).trips = s.trips ∧ (State.resetWordWrite l d s).msgs = s.msgs ∧
          (State.resetWordWrite l d s).emerg = s.emerg ∧ (State.resetWordWrite l d s).status = s.status ∧
          (State.resetWordWrite l d s).power = s.power := by
  unfold State.resetWordWrite; (repeat' split) <;> simp

@[simp] theorem State.takeWatched_frame (f : Field) (l : Lanes) (d : Word) (s : State) :
    (State.takeWatched f l d s).pending = s.pending ∧ (State.takeWatched f l d s).mem = s.mem := by
  unfold State.takeWatched; (repeat' split) <;> simp

@[simp] theorem State.guardHit_frame (s : State) :
    (State.guardHit s).pending = s.pending ∧ (State.guardHit s).mem = s.mem ∧ (State.guardHit s).path = s.path ∧
          (State.guardHit s).link = s.link ∧ (State.guardHit s).radio = s.radio ∧ (State.guardHit s).sched = s.sched ∧
          (State.guardHit s).offers = s.offers ∧ (State.guardHit s).trips = s.trips ∧ (State.guardHit s).msgs = s.msgs ∧
          (State.guardHit s).emerg = s.emerg ∧ (State.guardHit s).status = s.status ∧ (State.guardHit s).power = s.power := by
  unfold State.guardHit; (repeat' split) <;> simp

@[simp] theorem State.acceptWrite_frame (a : BitVec 19) (l : Lanes) (d : Word) (p : MemoryPath) (s : State) :
    (State.acceptWrite a l d p s).pending = s.pending ∧ (State.acceptWrite a l d p s).mem = s.mem := by
  unfold State.acceptWrite; dsimp only; (repeat' split) <;> simp <;> (repeat' split) <;> simp

@[simp] theorem State.answerRead_frame (a : BitVec 19) (l : Lanes) (s : State) :
    (State.answerRead a l s).pending = s.pending ∧ (State.answerRead a l s).mem = s.mem ∧ (State.answerRead a l s).pins = s.pins ∧
          (State.answerRead a l s).radio = s.radio ∧ (State.answerRead a l s).sched = s.sched ∧
          (State.answerRead a l s).offers = s.offers ∧ (State.answerRead a l s).msgs = s.msgs ∧
          (State.answerRead a l s).emerg = s.emerg ∧ (State.answerRead a l s).status = s.status := by
  unfold State.answerRead; dsimp only; (repeat' split) <;> simp <;> (repeat' split) <;> simp

@[simp] theorem State.hold_frame (h : HeldCycle) (s : State) :
    (State.hold h s).pending = s.pending ∧ (State.hold h s).mem = s.mem ∧ (State.hold h s).pins = s.pins ∧
          (State.hold h s).page = s.page ∧ (State.hold h s).link = s.link ∧ (State.hold h s).radio = s.radio ∧
          (State.hold h s).sched = s.sched ∧ (State.hold h s).offers = s.offers ∧ (State.hold h s).trips = s.trips ∧
          (State.hold h s).msgs = s.msgs ∧ (State.hold h s).emerg = s.emerg ∧ (State.hold h s).status = s.status ∧
          (State.hold h s).power = s.power := by
  unfold State.hold; (repeat' split) <;> simp

theorem State.processorWrite?_frame {a : BitVec 19} {l : Lanes} {d : Word} {s t : State}
    (h : s.processorWrite? a l d = some t) : t.pending = s.pending ∧ t.mem = s.mem := by
  unfold State.processorWrite? at h; dsimp only at h; split at h
  · simp only [Option.map_eq_some_iff] at h
    obtain ⟨p, -, rfl⟩ := h
    simp
  · cases h; simp

theorem State.attempt_frame {h : HeldCycle} {s t : State} (e : s.attempt h = .done t) :
    t.pending = s.pending ∧ t.mem = s.mem := by
  unfold State.attempt at e
  split at e
  · split at e
    · rename_i w; cases e; exact State.processorWrite?_frame w
    · cases e
  · split at e
    · cases e
    · split at e
      · cases e
      · cases e; simp

@[simp] theorem State.processorCycle_frame (c : BusCycle) (s : State) :
    (State.processorCycle c s).pending = s.pending ∧ (State.processorCycle c s).mem = s.mem := by
  unfold State.processorCycle
  split
  · simp
  · split
    · rename_i e; exact State.attempt_frame e
    · simp

@[simp] theorem State.serviceList_frame (hs : List HeldCycle) (s : State) :
    (State.serviceList hs s).pending = s.pending ∧ (State.serviceList hs s).mem = s.mem := by
  induction hs generalizing s with
  | nil => simp [State.serviceList]
  | cons h rest ih =>
    unfold State.serviceList
    split
    · simp
    · split
      · rename_i t e; simpa [State.attempt_frame e] using ih t
      · simp

@[simp] theorem State.arbitrate_frame (s : State) :
    (State.arbitrate s).pending = s.pending ∧ (State.arbitrate s).mem = s.mem ∧ (State.arbitrate s).pins = s.pins ∧
          (State.arbitrate s).page = s.page ∧ (State.arbitrate s).link = s.link ∧ (State.arbitrate s).radio = s.radio ∧
          (State.arbitrate s).sched = s.sched ∧ (State.arbitrate s).offers = s.offers ∧ (State.arbitrate s).trips = s.trips ∧
          (State.arbitrate s).msgs = s.msgs ∧ (State.arbitrate s).emerg = s.emerg ∧ (State.arbitrate s).status = s.status ∧
          (State.arbitrate s).power = s.power := by
  unfold State.arbitrate; (repeat' split) <;> simp

@[simp] theorem State.service_frame (s : State) :
    (State.service s).pending = s.pending ∧ (State.service s).mem = s.mem := by
  unfold State.service; (repeat' split) <;> simp

@[simp] theorem State.startDrain_frame (s : State) :
    (State.startDrain s).pending = s.pending ∧ (State.startDrain s).pins = s.pins ∧
          (State.startDrain s).page = s.page ∧ (State.startDrain s).link = s.link ∧ (State.startDrain s).radio = s.radio ∧
          (State.startDrain s).sched = s.sched ∧ (State.startDrain s).offers = s.offers ∧ (State.startDrain s).trips = s.trips ∧
          (State.startDrain s).msgs = s.msgs ∧ (State.startDrain s).emerg = s.emerg ∧ (State.startDrain s).status = s.status ∧
          (State.startDrain s).power = s.power := by
  unfold State.startDrain; (repeat' split) <;> simp

@[simp] theorem State.completeDrain_frame (s : State) :
    (State.completeDrain s).pending = s.pending ∧ (State.completeDrain s).mem = s.mem := by
  unfold State.completeDrain; (repeat' split) <;> simp

@[simp] theorem State.handOver_frame (k : OpKind) (s : State) :
    (State.handOver k s).pending = s.pending ∧ (State.handOver k s).mem = s.mem ∧ (State.handOver k s).pins = s.pins ∧
          (State.handOver k s).path = s.path ∧ (State.handOver k s).page = s.page ∧ (State.handOver k s).link = s.link ∧
          (State.handOver k s).radio = s.radio ∧ (State.handOver k s).sched = s.sched ∧ (State.handOver k s).trips = s.trips ∧
          (State.handOver k s).msgs = s.msgs ∧ (State.handOver k s).status = s.status ∧ (State.handOver k s).power = s.power := by
  unfold State.handOver; (repeat' split) <;> simp

@[simp] theorem State.startOperation_frame (s : State) :
    (State.startOperation s).pending = s.pending ∧ (State.startOperation s).mem = s.mem ∧ (State.startOperation s).pins = s.pins ∧
          (State.startOperation s).page = s.page ∧ (State.startOperation s).link = s.link ∧ (State.startOperation s).radio = s.radio ∧
          (State.startOperation s).sched = s.sched ∧ (State.startOperation s).trips = s.trips ∧ (State.startOperation s).msgs = s.msgs ∧
          (State.startOperation s).status = s.status ∧ (State.startOperation s).power = s.power := by
  unfold State.startOperation; (repeat' split) <;> simp

@[simp] theorem State.endOperation_frame (s : State) :
    (State.endOperation s).pending = s.pending ∧ (State.endOperation s).mem = s.mem ∧ (State.endOperation s).pins = s.pins ∧
          (State.endOperation s).page = s.page ∧ (State.endOperation s).link = s.link ∧ (State.endOperation s).radio = s.radio ∧
          (State.endOperation s).sched = s.sched ∧ (State.endOperation s).offers = s.offers ∧ (State.endOperation s).trips = s.trips ∧
          (State.endOperation s).msgs = s.msgs ∧ (State.endOperation s).emerg = s.emerg ∧ (State.endOperation s).status = s.status ∧
          (State.endOperation s).power = s.power := by
  unfold State.endOperation; (repeat' split) <;> simp

@[simp] theorem State.afterCycle_frame (s : State) :
    (State.afterCycle s).pending = s.pending ∧ (State.afterCycle s).mem = s.mem ∧ (State.afterCycle s).pins = s.pins ∧
          (State.afterCycle s).page = s.page ∧ (State.afterCycle s).link = s.link ∧ (State.afterCycle s).radio = s.radio ∧
          (State.afterCycle s).sched = s.sched ∧ (State.afterCycle s).offers = s.offers ∧ (State.afterCycle s).trips = s.trips ∧
          (State.afterCycle s).emerg = s.emerg ∧ (State.afterCycle s).status = s.status ∧ (State.afterCycle s).power = s.power := by
  unfold State.afterCycle; (repeat' split) <;> simp

@[simp] theorem State.internalCycle_frame (s : State) :
    (State.internalCycle s).pending = s.pending := by
  unfold State.internalCycle
  split
  · split
    · split
      · rename_i c rest _
        cases c <;> simp [State.runCycle]
      · simp
    · simp
  · simp

@[simp] theorem State.seeGrant_frame (s : State) :
    (State.seeGrant s).pending = s.pending ∧ (State.seeGrant s).mem = s.mem ∧ (State.seeGrant s).pins = s.pins ∧
          (State.seeGrant s).path = s.path ∧ (State.seeGrant s).page = s.page ∧ (State.seeGrant s).link = s.link ∧
          (State.seeGrant s).radio = s.radio ∧ (State.seeGrant s).offers = s.offers ∧ (State.seeGrant s).trips = s.trips ∧
          (State.seeGrant s).msgs = s.msgs ∧ (State.seeGrant s).emerg = s.emerg ∧ (State.seeGrant s).status = s.status ∧
          (State.seeGrant s).power = s.power := by
  unfold State.seeGrant; (repeat' split) <;> simp

@[simp] theorem State.grantAtSlot_frame (k : Nat) (s : State) :
    (State.grantAtSlot k s).pending = s.pending ∧ (State.grantAtSlot k s).mem = s.mem ∧ (State.grantAtSlot k s).pins = s.pins ∧
          (State.grantAtSlot k s).path = s.path ∧ (State.grantAtSlot k s).page = s.page ∧ (State.grantAtSlot k s).link = s.link ∧
          (State.grantAtSlot k s).offers = s.offers ∧ (State.grantAtSlot k s).trips = s.trips ∧ (State.grantAtSlot k s).msgs = s.msgs ∧
          (State.grantAtSlot k s).emerg = s.emerg ∧ (State.grantAtSlot k s).status = s.status ∧
          (State.grantAtSlot k s).power = s.power := by
  unfold State.grantAtSlot; (repeat' split) <;> simp

@[simp] theorem State.send_frame (v : Via) (k : Nat) (f : Outgoing) (s : State) :
    (State.send v k f s).pending = s.pending ∧ (State.send v k f s).mem = s.mem ∧ (State.send v k f s).pins = s.pins ∧
          (State.send v k f s).path = s.path ∧ (State.send v k f s).page = s.page ∧ (State.send v k f s).link = s.link ∧
          (State.send v k f s).sched = s.sched ∧ (State.send v k f s).offers = s.offers ∧ (State.send v k f s).trips = s.trips ∧
          (State.send v k f s).msgs = s.msgs ∧ (State.send v k f s).emerg = s.emerg ∧ (State.send v k f s).status = s.status ∧
          (State.send v k f s).power = s.power := by
  unfold State.send; (repeat' split) <;> simp

@[simp] theorem State.contenderKeyed_frame (c : Contender) (s : State) :
    (State.contenderKeyed c s).pending = s.pending ∧ (State.contenderKeyed c s).mem = s.mem ∧ (State.contenderKeyed c s).pins = s.pins ∧
          (State.contenderKeyed c s).path = s.path ∧ (State.contenderKeyed c s).page = s.page ∧
          (State.contenderKeyed c s).radio = s.radio ∧ (State.contenderKeyed c s).sched = s.sched ∧
          (State.contenderKeyed c s).offers = s.offers ∧ (State.contenderKeyed c s).trips = s.trips ∧
          (State.contenderKeyed c s).msgs = s.msgs ∧ (State.contenderKeyed c s).emerg = s.emerg ∧
          (State.contenderKeyed c s).status = s.status ∧ (State.contenderKeyed c s).power = s.power := by
  unfold State.contenderKeyed; (repeat' split) <;> simp

@[simp] theorem State.useDrawnSlot_frame (k : Nat) (s : State) :
    (State.useDrawnSlot k s).pending = s.pending ∧ (State.useDrawnSlot k s).mem = s.mem ∧ (State.useDrawnSlot k s).pins = s.pins ∧
          (State.useDrawnSlot k s).path = s.path ∧ (State.useDrawnSlot k s).page = s.page ∧ (State.useDrawnSlot k s).offers = s.offers ∧
          (State.useDrawnSlot k s).trips = s.trips ∧ (State.useDrawnSlot k s).msgs = s.msgs ∧ (State.useDrawnSlot k s).emerg = s.emerg ∧
          (State.useDrawnSlot k s).status = s.status ∧ (State.useDrawnSlot k s).power = s.power := by
  unfold State.useDrawnSlot; (repeat' split) <;> simp

@[simp] theorem State.useSlot_frame (k : Nat) (s : State) :
    (State.useSlot k s).pending = s.pending ∧ (State.useSlot k s).mem = s.mem ∧ (State.useSlot k s).pins = s.pins ∧
          (State.useSlot k s).path = s.path ∧ (State.useSlot k s).page = s.page ∧ (State.useSlot k s).offers = s.offers ∧
          (State.useSlot k s).trips = s.trips ∧ (State.useSlot k s).msgs = s.msgs ∧ (State.useSlot k s).emerg = s.emerg ∧
          (State.useSlot k s).status = s.status ∧ (State.useSlot k s).power = s.power := by
  unfold State.useSlot; (repeat' split) <;> simp

@[simp] theorem State.markSlot_frame (k : Nat) (s : State) :
    (State.markSlot k s).pending = s.pending ∧ (State.markSlot k s).mem = s.mem ∧ (State.markSlot k s).pins = s.pins ∧
          (State.markSlot k s).path = s.path ∧ (State.markSlot k s).page = s.page ∧ (State.markSlot k s).sched = s.sched ∧
          (State.markSlot k s).offers = s.offers ∧ (State.markSlot k s).trips = s.trips ∧ (State.markSlot k s).msgs = s.msgs ∧
          (State.markSlot k s).emerg = s.emerg ∧ (State.markSlot k s).status = s.status ∧ (State.markSlot k s).power = s.power := by
  unfold State.markSlot; (repeat' split) <;> simp

@[simp] theorem State.startSlot_frame (s : State) :
    (State.startSlot s).pending = s.pending ∧ (State.startSlot s).mem = s.mem ∧ (State.startSlot s).path = s.path ∧
          (State.startSlot s).offers = s.offers ∧ (State.startSlot s).trips = s.trips ∧ (State.startSlot s).emerg = s.emerg ∧
          (State.startSlot s).status = s.status ∧ (State.startSlot s).power = s.power := by
  unfold State.startSlot; dsimp only; (repeat' split) <;> simp <;> (repeat' split) <;> simp

@[simp] theorem State.backoffEnds_frame (s : State) :
    (State.backoffEnds s).pending = s.pending ∧ (State.backoffEnds s).mem = s.mem ∧ (State.backoffEnds s).pins = s.pins ∧
          (State.backoffEnds s).path = s.path ∧ (State.backoffEnds s).page = s.page ∧ (State.backoffEnds s).link = s.link ∧
          (State.backoffEnds s).radio = s.radio ∧ (State.backoffEnds s).offers = s.offers ∧ (State.backoffEnds s).trips = s.trips ∧
          (State.backoffEnds s).msgs = s.msgs ∧ (State.backoffEnds s).emerg = s.emerg ∧ (State.backoffEnds s).status = s.status ∧
          (State.backoffEnds s).power = s.power := by
  unfold State.backoffEnds; (repeat' split) <;> simp

@[simp] theorem State.alertDelivered_frame (n : Word) (s : State) :
    (State.alertDelivered n s).pending = s.pending ∧ (State.alertDelivered n s).mem = s.mem ∧ (State.alertDelivered n s).pins = s.pins ∧
          (State.alertDelivered n s).page = s.page ∧ (State.alertDelivered n s).link = s.link ∧
          (State.alertDelivered n s).radio = s.radio ∧ (State.alertDelivered n s).offers = s.offers ∧
          (State.alertDelivered n s).trips = s.trips ∧ (State.alertDelivered n s).msgs = s.msgs ∧
          (State.alertDelivered n s).status = s.status ∧ (State.alertDelivered n s).power = s.power := by
  unfold State.alertDelivered; (repeat' split) <;> simp

@[simp] theorem State.deliver_frame (f : Sending) (s : State) :
    (State.deliver f s).pending = s.pending ∧ (State.deliver f s).mem = s.mem ∧ (State.deliver f s).offers = s.offers ∧
          (State.deliver f s).trips = s.trips ∧ (State.deliver f s).status = s.status := by
  unfold State.deliver; (repeat' split) <;> simp

@[simp] theorem State.transmitted_frame (f : Sending) (s : State) :
    (State.transmitted f s).pending = s.pending ∧ (State.transmitted f s).mem = s.mem ∧ (State.transmitted f s).pins = s.pins ∧
          (State.transmitted f s).page = s.page ∧ (State.transmitted f s).link = s.link ∧ (State.transmitted f s).radio = s.radio ∧
          (State.transmitted f s).offers = s.offers ∧ (State.transmitted f s).trips = s.trips ∧ (State.transmitted f s).msgs = s.msgs ∧
          (State.transmitted f s).status = s.status ∧ (State.transmitted f s).power = s.power := by
  unfold State.transmitted; (repeat' split) <;> simp

@[simp] theorem State.endSend_frame (s : State) :
    (State.endSend s).pending = s.pending ∧ (State.endSend s).mem = s.mem ∧ (State.endSend s).pins = s.pins ∧
          (State.endSend s).path = s.path ∧ (State.endSend s).page = s.page ∧ (State.endSend s).link = s.link ∧
          (State.endSend s).sched = s.sched ∧ (State.endSend s).offers = s.offers ∧ (State.endSend s).trips = s.trips ∧
          (State.endSend s).msgs = s.msgs ∧ (State.endSend s).emerg = s.emerg ∧ (State.endSend s).status = s.status ∧
          (State.endSend s).power = s.power := by
  unfold State.endSend; (repeat' split) <;> simp

@[simp] theorem State.shortSent_frame (s : State) :
    (State.shortSent s).pending = s.pending ∧ (State.shortSent s).mem = s.mem ∧ (State.shortSent s).offers = s.offers ∧
          (State.shortSent s).trips = s.trips ∧ (State.shortSent s).status = s.status := by
  unfold State.shortSent; (repeat' split) <;> simp

@[simp] theorem State.longDelivered_frame (f : Sending) (s : State) :
    (State.longDelivered f s).pending = s.pending ∧ (State.longDelivered f s).mem = s.mem ∧ (State.longDelivered f s).pins = s.pins ∧
          (State.longDelivered f s).path = s.path ∧ (State.longDelivered f s).page = s.page ∧ (State.longDelivered f s).link = s.link ∧
          (State.longDelivered f s).radio = s.radio ∧ (State.longDelivered f s).sched = s.sched ∧
          (State.longDelivered f s).offers = s.offers ∧ (State.longDelivered f s).emerg = s.emerg ∧
          (State.longDelivered f s).status = s.status ∧ (State.longDelivered f s).power = s.power := by
  unfold State.longDelivered; (repeat' split) <;> simp

@[simp] theorem State.longSent_frame (s : State) :
    (State.longSent s).pending = s.pending ∧ (State.longSent s).mem = s.mem ∧ (State.longSent s).pins = s.pins ∧
          (State.longSent s).path = s.path ∧ (State.longSent s).page = s.page ∧ (State.longSent s).link = s.link ∧
          (State.longSent s).offers = s.offers ∧ (State.longSent s).emerg = s.emerg ∧ (State.longSent s).status = s.status ∧
          (State.longSent s).power = s.power := by
  unfold State.longSent; (repeat' split) <;> simp

@[simp] theorem State.resetLow_frame (s : State) :
    (State.resetLow s).pending = s.pending ∧ (State.resetLow s).mem = s.mem ∧ (State.resetLow s).pins = s.pins ∧
          (State.resetLow s).page = s.page ∧ (State.resetLow s).link = s.link ∧ (State.resetLow s).radio = s.radio ∧
          (State.resetLow s).sched = s.sched ∧ (State.resetLow s).offers = s.offers ∧ (State.resetLow s).trips = s.trips ∧
          (State.resetLow s).msgs = s.msgs ∧ (State.resetLow s).emerg = s.emerg ∧ (State.resetLow s).status = s.status ∧
          (State.resetLow s).power = s.power := by
  unfold State.resetLow; (repeat' split) <;> simp

@[simp] theorem State.configFault_frame (r : FaultReason) (i : Byte) (s : State) :
    (State.configFault r i s).pending = s.pending ∧ (State.configFault r i s).mem = s.mem ∧ (State.configFault r i s).pins = s.pins ∧
          (State.configFault r i s).path = s.path ∧ (State.configFault r i s).page = s.page ∧ (State.configFault r i s).link = s.link ∧
          (State.configFault r i s).radio = s.radio ∧ (State.configFault r i s).sched = s.sched ∧
          (State.configFault r i s).offers = s.offers ∧ (State.configFault r i s).trips = s.trips ∧
          (State.configFault r i s).msgs = s.msgs ∧ (State.configFault r i s).emerg = s.emerg ∧
          (State.configFault r i s).status = s.status := by
  unfold State.configFault; (repeat' split) <;> simp

@[simp] theorem State.attemptFails_frame (s : State) :
    (State.attemptFails s).pending = s.pending ∧ (State.attemptFails s).mem = s.mem ∧ (State.attemptFails s).pins = s.pins ∧
          (State.attemptFails s).path = s.path ∧ (State.attemptFails s).page = s.page ∧ (State.attemptFails s).link = s.link ∧
          (State.attemptFails s).radio = s.radio ∧ (State.attemptFails s).sched = s.sched ∧ (State.attemptFails s).offers = s.offers ∧
          (State.attemptFails s).trips = s.trips ∧ (State.attemptFails s).msgs = s.msgs ∧ (State.attemptFails s).emerg = s.emerg ∧
          (State.attemptFails s).status = s.status := by
  unfold State.attemptFails; (repeat' split) <;> simp

@[simp] theorem State.takeImage_frame (b : List Byte) (s : State) :
    (State.takeImage b s).pending = s.pending ∧ (State.takeImage b s).mem = s.mem ∧ (State.takeImage b s).pins = s.pins ∧
          (State.takeImage b s).page = s.page ∧ (State.takeImage b s).radio = s.radio ∧ (State.takeImage b s).offers = s.offers ∧
          (State.takeImage b s).trips = s.trips ∧ (State.takeImage b s).msgs = s.msgs ∧ (State.takeImage b s).emerg = s.emerg ∧
          (State.takeImage b s).status = s.status := by
  unfold State.takeImage; (repeat' split) <;> simp

@[simp] theorem State.applyImage_frame (i : ConfigImage) (s : State) :
    (State.applyImage i s).pending = s.pending ∧ (State.applyImage i s).mem = s.mem ∧ (State.applyImage i s).pins = s.pins ∧
          (State.applyImage i s).path = s.path ∧ (State.applyImage i s).page = s.page ∧ (State.applyImage i s).link = s.link ∧
          (State.applyImage i s).radio = s.radio ∧ (State.applyImage i s).sched = s.sched ∧ (State.applyImage i s).offers = s.offers ∧
          (State.applyImage i s).emerg = s.emerg ∧ (State.applyImage i s).power = s.power := by
  unfold State.applyImage; (repeat' split) <;> simp

@[simp] theorem State.becomeReady_frame (s : State) :
    (State.becomeReady s).pending = s.pending ∧ (State.becomeReady s).mem = s.mem ∧ (State.becomeReady s).path = s.path ∧
          (State.becomeReady s).offers = s.offers := by
  unfold State.becomeReady; dsimp only; (repeat' split) <;> simp <;> (repeat' split) <;> simp

@[simp] theorem State.softResetStatus_frame (s : State) :
    (State.softResetStatus s).pending = s.pending ∧ (State.softResetStatus s).mem = s.mem ∧ (State.softResetStatus s).pins = s.pins ∧
          (State.softResetStatus s).path = s.path ∧ (State.softResetStatus s).page = s.page ∧ (State.softResetStatus s).link = s.link ∧
          (State.softResetStatus s).radio = s.radio ∧ (State.softResetStatus s).sched = s.sched ∧
          (State.softResetStatus s).offers = s.offers ∧ (State.softResetStatus s).trips = s.trips ∧
          (State.softResetStatus s).msgs = s.msgs ∧ (State.softResetStatus s).emerg = s.emerg := by
  unfold State.softResetStatus; (repeat' split) <;> simp

@[simp] theorem State.softResetPage_frame (s : State) :
    (State.softResetPage s).pending = s.pending ∧ (State.softResetPage s).mem = s.mem ∧ (State.softResetPage s).path = s.path ∧
          (State.softResetPage s).link = s.link ∧ (State.softResetPage s).radio = s.radio ∧ (State.softResetPage s).sched = s.sched ∧
          (State.softResetPage s).offers = s.offers ∧ (State.softResetPage s).trips = s.trips ∧ (State.softResetPage s).msgs = s.msgs ∧
          (State.softResetPage s).emerg = s.emerg ∧ (State.softResetPage s).status = s.status ∧
          (State.softResetPage s).power = s.power := by
  unfold State.softResetPage; (repeat' split) <;> simp

@[simp] theorem State.softReset_frame (s : State) :
    (State.softReset s).pending = s.pending ∧ (State.softReset s).mem = s.mem := by
  unfold State.softReset; (repeat' split) <;> simp

@[simp] theorem State.powerOn_frame (a : BitVec 4) (s : State) :
    (State.powerOn a s).pending = s.pending ∧ (State.powerOn a s).mem = s.mem := by
  unfold State.powerOn; (repeat' split) <;> simp

@[simp] theorem State.tickTimers_frame (s : State) :
    (State.tickTimers s).pending = s.pending ∧ (State.tickTimers s).mem = s.mem ∧ (State.tickTimers s).pins = s.pins ∧
          (State.tickTimers s).path = s.path ∧ (State.tickTimers s).page = s.page ∧ (State.tickTimers s).link = s.link ∧
          (State.tickTimers s).radio = s.radio ∧ (State.tickTimers s).sched = s.sched ∧ (State.tickTimers s).status = s.status ∧
          (State.tickTimers s).power = s.power := by
  unfold State.tickTimers; (repeat' split) <;> simp

@[simp] theorem State.second_frame (s : State) :
    (State.second s).pending = s.pending ∧ (State.second s).mem = s.mem ∧ (State.second s).pins = s.pins ∧
          (State.second s).path = s.path ∧ (State.second s).page = s.page ∧ (State.second s).radio = s.radio ∧
          (State.second s).sched = s.sched ∧ (State.second s).status = s.status ∧ (State.second s).power = s.power := by
  unfold State.second; (repeat' split) <;> simp

@[simp] theorem State.setIgnition_frame (b : Bool) (s : State) :
    (State.setIgnition b s).pending = s.pending ∧ (State.setIgnition b s).mem = s.mem ∧ (State.setIgnition b s).path = s.path ∧
          (State.setIgnition b s).page = s.page ∧ (State.setIgnition b s).link = s.link ∧ (State.setIgnition b s).radio = s.radio ∧
          (State.setIgnition b s).sched = s.sched ∧ (State.setIgnition b s).offers = s.offers ∧ (State.setIgnition b s).trips = s.trips ∧
          (State.setIgnition b s).msgs = s.msgs ∧ (State.setIgnition b s).emerg = s.emerg ∧ (State.setIgnition b s).status = s.status := by
  unfold State.setIgnition; dsimp only; (repeat' split) <;> simp <;> (repeat' split) <;> simp

@[simp] theorem State.meterMessage_frame (m : MeterMessage) (s : State) :
    (State.meterMessage m s).pending = s.pending ∧ (State.meterMessage m s).mem = s.mem ∧ (State.meterMessage m s).emerg = s.emerg := by
  unfold State.meterMessage; (repeat' split) <;> simp

@[simp] theorem State.takeMeter_frame (m : MeterMessage) (s : State) :
    (State.takeMeter m s).pending = s.pending ∧ (State.takeMeter m s).mem = s.mem ∧ (State.takeMeter m s).emerg = s.emerg := by
  unfold State.takeMeter; (repeat' split) <;> simp

@[simp] theorem State.takeWake_frame (c : List Word) (s : State) :
    (State.takeWake c s).pending = s.pending ∧ (State.takeWake c s).mem = s.mem ∧ (State.takeWake c s).path = s.path ∧
          (State.takeWake c s).offers = s.offers ∧ (State.takeWake c s).trips = s.trips ∧ (State.takeWake c s).emerg = s.emerg ∧
          (State.takeWake c s).status = s.status := by
  unfold State.takeWake; (repeat' split) <;> simp

@[simp] theorem State.route_frame (d : DownHeader) (b : DownBody) (s : State) :
    (State.route d b s).pending = s.pending ∧ (State.route d b s).mem = s.mem := by
  unfold State.route; (repeat' split) <;> simp

@[simp] theorem State.receive_frame (d : DownHeader) (b : DownBody) (s : State) :
    (State.receive d b s).pending = s.pending ∧ (State.receive d b s).mem = s.mem := by
  unfold State.receive; (repeat' split) <;> simp

@[simp] theorem State.writeAt_frame (o : Nat) (l : Lanes) (d : Word) (s : State) :
    (State.writeAt o l d s).pending = s.pending ∧ (State.writeAt o l d s).mem = s.mem := by
  unfold State.writeAt; (repeat' split) <;> simp

@[simp] theorem State.readAt_frame (o : Nat) (l : Lanes) (s : State) :
    (State.readAt o l s).pending = s.pending ∧ (State.readAt o l s).mem = s.mem := by
  unfold State.readAt; (repeat' split) <;> simp

end Sys2Proof.Machine
end

