-- ==== Sys2Proof/Laws/Fields.lean ====
section
/-! SUPPORT. What each operation of the machine leaves unchanged inside the blocks it works on; every lemma is a rewriting rule. -/

namespace Sys2Proof.Machine

@[simp] theorem State.evaluateAttention_fields (s : State) :
    (State.evaluateAttention s).page.causes = s.page.causes ∧ (State.evaluateAttention s).page.enables = s.page.enables ∧
          (State.evaluateAttention s).page.counters = s.page.counters ∧ (State.evaluateAttention s).page.linkUp = s.page.linkUp ∧
          (State.evaluateAttention s).page.statusCopy = s.page.statusCopy ∧
          (State.evaluateAttention s).page.shiftCopy = s.page.shiftCopy ∧ (State.evaluateAttention s).page.powerCopy = s.page.powerCopy ∧
          (State.evaluateAttention s).page.enableCopy = s.page.enableCopy ∧
          (State.evaluateAttention s).pins.emswClosed = s.pins.emswClosed ∧ (State.evaluateAttention s).pins.ign = s.pins.ign ∧
          (State.evaluateAttention s).pins.lampHire = s.pins.lampHire ∧ (State.evaluateAttention s).pins.lampCall = s.pins.lampCall ∧
          (State.evaluateAttention s).pins.lampAlarm = s.pins.lampAlarm ∧ (State.evaluateAttention s).pins.wake = s.pins.wake := by
  unfold State.evaluateAttention; (repeat' split) <;> simp

@[simp] theorem State.raise_fields (c : Cause) (s : State) :
    (State.raise c s).page.enables = s.page.enables ∧ (State.raise c s).page.counters = s.page.counters ∧
          (State.raise c s).page.linkUp = s.page.linkUp ∧ (State.raise c s).page.statusCopy = s.page.statusCopy ∧
          (State.raise c s).page.shiftCopy = s.page.shiftCopy ∧ (State.raise c s).page.powerCopy = s.page.powerCopy ∧
          (State.raise c s).page.enableCopy = s.page.enableCopy ∧ (State.raise c s).pins.emswClosed = s.pins.emswClosed ∧
          (State.raise c s).pins.ign = s.pins.ign ∧ (State.raise c s).pins.lampHire = s.pins.lampHire ∧
          (State.raise c s).pins.lampCall = s.pins.lampCall ∧ (State.raise c s).pins.lampAlarm = s.pins.lampAlarm ∧
          (State.raise c s).pins.wake = s.pins.wake := by
  unfold State.raise; (repeat' split) <;> simp

@[simp] theorem State.raiseAll_fields (cs : List Cause) (s : State) :
    (State.raiseAll cs s).page.enables = s.page.enables ∧ (State.raiseAll cs s).page.counters = s.page.counters ∧
          (State.raiseAll cs s).page.linkUp = s.page.linkUp ∧ (State.raiseAll cs s).page.statusCopy = s.page.statusCopy ∧
          (State.raiseAll cs s).page.shiftCopy = s.page.shiftCopy ∧ (State.raiseAll cs s).page.powerCopy = s.page.powerCopy ∧
          (State.raiseAll cs s).page.enableCopy = s.page.enableCopy ∧ (State.raiseAll cs s).pins.emswClosed = s.pins.emswClosed ∧
          (State.raiseAll cs s).pins.ign = s.pins.ign ∧ (State.raiseAll cs s).pins.lampHire = s.pins.lampHire ∧
          (State.raiseAll cs s).pins.lampCall = s.pins.lampCall ∧ (State.raiseAll cs s).pins.lampAlarm = s.pins.lampAlarm ∧
          (State.raiseAll cs s).pins.wake = s.pins.wake := by
  induction cs generalizing s with
  | nil => simp [State.raiseAll]
  | cons c cs ih => simp [State.raiseAll, ih]

@[simp] theorem State.clearCauses_fields (l : Lanes) (d : Word) (s : State) :
    (State.clearCauses l d s).page.enables = s.page.enables ∧ (State.clearCauses l d s).page.busy = s.page.busy ∧
          (State.clearCauses l d s).page.counters = s.page.counters ∧ (State.clearCauses l d s).page.linkUp = s.page.linkUp ∧
          (State.clearCauses l d s).page.statusCopy = s.page.statusCopy ∧ (State.clearCauses l d s).page.shiftCopy = s.page.shiftCopy ∧
          (State.clearCauses l d s).page.powerCopy = s.page.powerCopy ∧ (State.clearCauses l d s).page.enableCopy = s.page.enableCopy := by
  unfold State.clearCauses; (repeat' split) <;> simp

@[simp] theorem State.enableCauses_fields (l : Lanes) (d : Word) (s : State) :
    (State.enableCauses l d s).page.causes = s.page.causes ∧ (State.enableCauses l d s).page.counters = s.page.counters ∧
          (State.enableCauses l d s).page.linkUp = s.page.linkUp ∧ (State.enableCauses l d s).page.statusCopy = s.page.statusCopy ∧
          (State.enableCauses l d s).page.shiftCopy = s.page.shiftCopy ∧ (State.enableCauses l d s).page.powerCopy = s.page.powerCopy ∧
          (State.enableCauses l d s).pins.emswClosed = s.pins.emswClosed ∧ (State.enableCauses l d s).pins.ign = s.pins.ign ∧
          (State.enableCauses l d s).pins.lampHire = s.pins.lampHire ∧ (State.enableCauses l d s).pins.lampCall = s.pins.lampCall ∧
          (State.enableCauses l d s).pins.lampAlarm = s.pins.lampAlarm ∧ (State.enableCauses l d s).pins.wake = s.pins.wake := by
  unfold State.enableCauses; (repeat' split) <;> simp

@[simp] theorem State.attentionDone_fields (s : State) :
    (State.attentionDone s).page.causes = s.page.causes ∧ (State.attentionDone s).page.enables = s.page.enables ∧
          (State.attentionDone s).page.counters = s.page.counters ∧ (State.attentionDone s).page.linkUp = s.page.linkUp ∧
          (State.attentionDone s).page.statusCopy = s.page.statusCopy ∧ (State.attentionDone s).page.shiftCopy = s.page.shiftCopy ∧
          (State.attentionDone s).page.powerCopy = s.page.powerCopy ∧ (State.attentionDone s).page.enableCopy = s.page.enableCopy ∧
          (State.attentionDone s).pins.emswClosed = s.pins.emswClosed ∧ (State.attentionDone s).pins.ign = s.pins.ign ∧
          (State.attentionDone s).pins.lampHire = s.pins.lampHire ∧ (State.attentionDone s).pins.lampCall = s.pins.lampCall ∧
          (State.attentionDone s).pins.lampAlarm = s.pins.lampAlarm ∧ (State.attentionDone s).pins.wake = s.pins.wake := by
  unfold State.attentionDone; (repeat' split) <;> simp

@[simp] theorem State.count_fields (c : Counter) (s : State) :
    (State.count c s).page.causes = s.page.causes ∧ (State.count c s).page.enables = s.page.enables ∧
          (State.count c s).page.busy = s.page.busy ∧ (State.count c s).page.linkUp = s.page.linkUp ∧
          (State.count c s).page.statusCopy = s.page.statusCopy ∧ (State.count c s).page.shiftCopy = s.page.shiftCopy ∧
          (State.count c s).page.powerCopy = s.page.powerCopy ∧ (State.count c s).page.enableCopy = s.page.enableCopy := by
  unfold State.count; (repeat' split) <;> simp

@[simp] theorem State.clearCounter_fields (c : Counter) (s : State) :
    (State.clearCounter c s).page.causes = s.page.causes ∧ (State.clearCounter c s).page.enables = s.page.enables ∧
          (State.clearCounter c s).page.busy = s.page.busy ∧ (State.clearCounter c s).page.linkUp = s.page.linkUp ∧
          (State.clearCounter c s).page.statusCopy = s.page.statusCopy ∧ (State.clearCounter c s).page.shiftCopy = s.page.shiftCopy ∧
          (State.clearCounter c s).page.powerCopy = s.page.powerCopy ∧ (State.clearCounter c s).page.enableCopy = s.page.enableCopy := by
  unfold State.clearCounter; (repeat' split) <;> simp

@[simp] theorem State.requestRewrite_fields (k : OpKind) (s : State) :
    (State.requestRewrite k s).path.asel = s.path.asel ∧ (State.requestRewrite k s).path.inReset = s.path.inReset ∧
          (State.requestRewrite k s).path.buffer = s.path.buffer ∧ (State.requestRewrite k s).path.drain = s.path.drain ∧
          (State.requestRewrite k s).path.under = s.path.under ∧ (State.requestRewrite k s).path.internal = s.path.internal ∧
          (State.requestRewrite k s).path.fairness = s.path.fairness ∧ (State.requestRewrite k s).path.resetDrain = s.path.resetDrain ∧
          (State.requestRewrite k s).path.held = s.path.held ∧ (State.requestRewrite k s).path.answer = s.path.answer := by
  unfold State.requestRewrite; (repeat' split) <;> simp

@[simp] theorem State.requestWrite_fields (k : OpKind) (s : State) :
    (State.requestWrite k s).path.asel = s.path.asel ∧ (State.requestWrite k s).path.inReset = s.path.inReset ∧
          (State.requestWrite k s).path.buffer = s.path.buffer ∧ (State.requestWrite k s).path.drain = s.path.drain ∧
          (State.requestWrite k s).path.under = s.path.under ∧ (State.requestWrite k s).path.internal = s.path.internal ∧
          (State.requestWrite k s).path.fairness = s.path.fairness ∧ (State.requestWrite k s).path.resetDrain = s.path.resetDrain ∧
          (State.requestWrite k s).path.held = s.path.held ∧ (State.requestWrite k s).path.answer = s.path.answer := by
  unfold State.requestWrite; (repeat' split) <;> simp

@[simp] theorem State.requestRead_fields (k : OpKind) (s : State) :
    (State.requestRead k s).path.asel = s.path.asel ∧ (State.requestRead k s).path.inReset = s.path.inReset ∧
          (State.requestRead k s).path.buffer = s.path.buffer ∧ (State.requestRead k s).path.drain = s.path.drain ∧
          (State.requestRead k s).path.under = s.path.under ∧ (State.requestRead k s).path.internal = s.path.internal ∧
          (State.requestRead k s).path.fairness = s.path.fairness ∧ (State.requestRead k s).path.resetDrain = s.path.resetDrain ∧
          (State.requestRead k s).path.held = s.path.held ∧ (State.requestRead k s).path.answer = s.path.answer := by
  unfold State.requestRead; (repeat' split) <;> simp

@[simp] theorem State.refreshReport_fields (s : State) :
    (State.refreshReport s).sched.joinPlace = s.sched.joinPlace ∧ (State.refreshReport s).sched.joinAttempts = s.sched.joinAttempts ∧
          (State.refreshReport s).sched.alertPlace = s.sched.alertPlace ∧
          (State.refreshReport s).sched.alertAttempts = s.sched.alertAttempts ∧ (State.refreshReport s).sched.acks = s.sched.acks ∧
          (State.refreshReport s).sched.bids = s.sched.bids ∧ (State.refreshReport s).sched.flowPlace = s.sched.flowPlace ∧
          (State.refreshReport s).sched.slotRequest = s.sched.slotRequest ∧
          (State.refreshReport s).sched.contention = s.sched.contention ∧ (State.refreshReport s).sched.long = s.sched.long ∧
          (State.refreshReport s).sched.requests = s.sched.requests ∧ (State.refreshReport s).sched.grant = s.sched.grant ∧
          (State.refreshReport s).sched.draws = s.sched.draws ∧ (State.refreshReport s).sched.seed = s.sched.seed := by
  unfold State.refreshReport; (repeat' split) <;> simp

@[simp] theorem State.driveLamps_fields (s : State) :
    (State.driveLamps s).pins.emswClosed = s.pins.emswClosed ∧ (State.driveLamps s).pins.ign = s.pins.ign ∧
          (State.driveLamps s).pins.attn = s.pins.attn ∧ (State.driveLamps s).pins.wake = s.pins.wake := by
  unfold State.driveLamps; (repeat' split) <;> simp

@[simp] theorem State.handOn_fields (s : State) :
    (State.handOn s).sched.joinPlace = s.sched.joinPlace ∧ (State.handOn s).sched.joinAttempts = s.sched.joinAttempts ∧
          (State.handOn s).sched.alertPlace = s.sched.alertPlace ∧ (State.handOn s).sched.alertAttempts = s.sched.alertAttempts ∧
          (State.handOn s).sched.acks = s.sched.acks ∧ (State.handOn s).sched.bids = s.sched.bids ∧
          (State.handOn s).sched.flowPlace = s.sched.flowPlace ∧ (State.handOn s).sched.slotRequest = s.sched.slotRequest ∧
          (State.handOn s).sched.contention = s.sched.contention ∧ (State.handOn s).sched.long = s.sched.long ∧
          (State.handOn s).sched.requests = s.sched.requests ∧ (State.handOn s).sched.grant = s.sched.grant ∧
          (State.handOn s).sched.draws = s.sched.draws ∧ (State.handOn s).sched.seed = s.sched.seed ∧
          (State.handOn s).pins.emswClosed = s.pins.emswClosed ∧ (State.handOn s).pins.ign = s.pins.ign ∧
          (State.handOn s).pins.attn = s.pins.attn ∧ (State.handOn s).pins.wake = s.pins.wake := by
  unfold State.handOn; (repeat' split) <;> simp

@[simp] theorem State.setStatus_fields (c : CabStatus) (s : State) :
    (State.setStatus c s).sched.joinPlace = s.sched.joinPlace ∧ (State.setStatus c s).sched.joinAttempts = s.sched.joinAttempts ∧
          (State.setStatus c s).sched.alertPlace = s.sched.alertPlace ∧
          (State.setStatus c s).sched.alertAttempts = s.sched.alertAttempts ∧ (State.setStatus c s).sched.acks = s.sched.acks ∧
          (State.setStatus c s).sched.bids = s.sched.bids ∧ (State.setStatus c s).sched.flowPlace = s.sched.flowPlace ∧
          (State.setStatus c s).sched.slotRequest = s.sched.slotRequest ∧ (State.setStatus c s).sched.contention = s.sched.contention ∧
          (State.setStatus c s).sched.long = s.sched.long ∧ (State.setStatus c s).sched.requests = s.sched.requests ∧
          (State.setStatus c s).sched.grant = s.sched.grant ∧ (State.setStatus c s).sched.draws = s.sched.draws ∧
          (State.setStatus c s).sched.seed = s.sched.seed ∧ (State.setStatus c s).pins.emswClosed = s.pins.emswClosed ∧
          (State.setStatus c s).pins.ign = s.pins.ign ∧ (State.setStatus c s).pins.attn = s.pins.attn ∧
          (State.setStatus c s).pins.wake = s.pins.wake ∧ (State.setStatus c s).status.shiftOpen = s.status.shiftOpen ∧
          (State.setStatus c s).status.shiftNumber = s.status.shiftNumber ∧ (State.setStatus c s).status.driverId = s.status.driverId ∧
          (State.setStatus c s).status.meterOpened = s.status.meterOpened ∧ (State.setStatus c s).status.zone = s.status.zone ∧
          (State.setStatus c s).status.position = s.status.position ∧ (State.setStatus c s).status.lampMap = s.status.lampMap ∧
          (State.setStatus c s).status.alarmEnabled = s.status.alarmEnabled ∧ (State.setStatus c s).status.flashOn = s.status.flashOn ∧
          (State.setStatus c s).status.alarmOn = s.status.alarmOn ∧ (State.setStatus c s).status.driverCopy = s.status.driverCopy ∧
          (State.setStatus c s).status.firstCopy = s.status.firstCopy ∧ (State.setStatus c s).status.secondCopy = s.status.secondCopy ∧
          (State.setStatus c s).status.pendingFirst = s.status.pendingFirst ∧
          (State.setStatus c s).status.statusResult = s.status.statusResult ∧
          (State.setStatus c s).status.shiftResult = s.status.shiftResult := by
  unfold State.setStatus; (repeat' split) <;> simp

@[simp] theorem State.addBid_fields (j : DWord) (c : BidCode) (s : State) :
    (State.addBid j c s).sched.joinPlace = s.sched.joinPlace ∧ (State.addBid j c s).sched.joinAttempts = s.sched.joinAttempts ∧
          (State.addBid j c s).sched.alertPlace = s.sched.alertPlace ∧ (State.addBid j c s).sched.alertAttempts = s.sched.alertAttempts ∧
          (State.addBid j c s).sched.acks = s.sched.acks ∧ (State.addBid j c s).sched.flowPlace = s.sched.flowPlace ∧
          (State.addBid j c s).sched.slotRequest = s.sched.slotRequest ∧ (State.addBid j c s).sched.statusPlace = s.sched.statusPlace ∧
          (State.addBid j c s).sched.long = s.sched.long ∧ (State.addBid j c s).sched.requests = s.sched.requests ∧
          (State.addBid j c s).sched.grant = s.sched.grant ∧ (State.addBid j c s).sched.draws = s.sched.draws ∧
          (State.addBid j c s).sched.seed = s.sched.seed ∧ (State.addBid j c s).radio.receiverOn = s.radio.receiverOn ∧
          (State.addBid j c s).radio.channel = s.radio.channel ∧ (State.addBid j c s).radio.output = s.radio.output := by
  unfold State.addBid; (repeat' split) <;> simp

@[simp] theorem State.removeBid_fields (j : DWord) (s : State) :
    (State.removeBid j s).sched.joinPlace = s.sched.joinPlace ∧ (State.removeBid j s).sched.joinAttempts = s.sched.joinAttempts ∧
          (State.removeBid j s).sched.alertPlace = s.sched.alertPlace ∧
          (State.removeBid j s).sched.alertAttempts = s.sched.alertAttempts ∧ (State.removeBid j s).sched.acks = s.sched.acks ∧
          (State.removeBid j s).sched.flowPlace = s.sched.flowPlace ∧ (State.removeBid j s).sched.slotRequest = s.sched.slotRequest ∧
          (State.removeBid j s).sched.statusPlace = s.sched.statusPlace ∧ (State.removeBid j s).sched.long = s.sched.long ∧
          (State.removeBid j s).sched.requests = s.sched.requests ∧ (State.removeBid j s).sched.grant = s.sched.grant ∧
          (State.removeBid j s).sched.draws = s.sched.draws ∧ (State.removeBid j s).sched.seed = s.sched.seed ∧
          (State.removeBid j s).radio.receiverOn = s.radio.receiverOn ∧ (State.removeBid j s).radio.channel = s.radio.channel ∧
          (State.removeBid j s).radio.output = s.radio.output := by
  unfold State.removeBid; (repeat' split) <;> simp

@[simp] theorem State.addAck_fields (t : Word) (s : State) :
    (State.addAck t s).sched.joinPlace = s.sched.joinPlace ∧ (State.addAck t s).sched.joinAttempts = s.sched.joinAttempts ∧
          (State.addAck t s).sched.alertPlace = s.sched.alertPlace ∧ (State.addAck t s).sched.alertAttempts = s.sched.alertAttempts ∧
          (State.addAck t s).sched.bids = s.sched.bids ∧ (State.addAck t s).sched.flowPlace = s.sched.flowPlace ∧
          (State.addAck t s).sched.slotRequest = s.sched.slotRequest ∧ (State.addAck t s).sched.statusPlace = s.sched.statusPlace ∧
          (State.addAck t s).sched.contention = s.sched.contention ∧ (State.addAck t s).sched.long = s.sched.long ∧
          (State.addAck t s).sched.requests = s.sched.requests ∧ (State.addAck t s).sched.grant = s.sched.grant ∧
          (State.addAck t s).sched.draws = s.sched.draws ∧ (State.addAck t s).sched.seed = s.sched.seed ∧
          (State.addAck t s).radio.receiverOn = s.radio.receiverOn ∧ (State.addAck t s).radio.channel = s.radio.channel ∧
          (State.addAck t s).radio.output = s.radio.output := by
  unfold State.addAck; (repeat' split) <;> simp

@[simp] theorem State.fillFlow_fields (c : FlowCode) (s : State) :
    (State.fillFlow c s).sched.joinPlace = s.sched.joinPlace ∧ (State.fillFlow c s).sched.joinAttempts = s.sched.joinAttempts ∧
          (State.fillFlow c s).sched.alertPlace = s.sched.alertPlace ∧ (State.fillFlow c s).sched.alertAttempts = s.sched.alertAttempts ∧
          (State.fillFlow c s).sched.acks = s.sched.acks ∧ (State.fillFlow c s).sched.bids = s.sched.bids ∧
          (State.fillFlow c s).sched.slotRequest = s.sched.slotRequest ∧ (State.fillFlow c s).sched.statusPlace = s.sched.statusPlace ∧
          (State.fillFlow c s).sched.contention = s.sched.contention ∧ (State.fillFlow c s).sched.long = s.sched.long ∧
          (State.fillFlow c s).sched.requests = s.sched.requests ∧ (State.fillFlow c s).sched.grant = s.sched.grant ∧
          (State.fillFlow c s).sched.draws = s.sched.draws ∧ (State.fillFlow c s).sched.seed = s.sched.seed ∧
          (State.fillFlow c s).radio.receiverOn = s.radio.receiverOn ∧ (State.fillFlow c s).radio.channel = s.radio.channel ∧
          (State.fillFlow c s).radio.output = s.radio.output := by
  unfold State.fillFlow; (repeat' split) <;> simp

@[simp] theorem State.refillAlert_fields (s : State) :
    (State.refillAlert s).sched.joinPlace = s.sched.joinPlace ∧ (State.refillAlert s).sched.joinAttempts = s.sched.joinAttempts ∧
          (State.refillAlert s).sched.alertAttempts = s.sched.alertAttempts ∧ (State.refillAlert s).sched.acks = s.sched.acks ∧
          (State.refillAlert s).sched.bids = s.sched.bids ∧ (State.refillAlert s).sched.flowPlace = s.sched.flowPlace ∧
          (State.refillAlert s).sched.slotRequest = s.sched.slotRequest ∧ (State.refillAlert s).sched.statusPlace = s.sched.statusPlace ∧
          (State.refillAlert s).sched.contention = s.sched.contention ∧ (State.refillAlert s).sched.long = s.sched.long ∧
          (State.refillAlert s).sched.requests = s.sched.requests ∧ (State.refillAlert s).sched.grant = s.sched.grant ∧
          (State.refillAlert s).sched.draws = s.sched.draws ∧ (State.refillAlert s).sched.seed = s.sched.seed := by
  unfold State.refillAlert; (repeat' split) <;> simp

@[simp] theorem State.emptyAlert_fields (s : State) :
    (State.emptyAlert s).sched.joinPlace = s.sched.joinPlace ∧ (State.emptyAlert s).sched.joinAttempts = s.sched.joinAttempts ∧
          (State.emptyAlert s).sched.alertAttempts = s.sched.alertAttempts ∧ (State.emptyAlert s).sched.acks = s.sched.acks ∧
          (State.emptyAlert s).sched.bids = s.sched.bids ∧ (State.emptyAlert s).sched.flowPlace = s.sched.flowPlace ∧
          (State.emptyAlert s).sched.slotRequest = s.sched.slotRequest ∧ (State.emptyAlert s).sched.statusPlace = s.sched.statusPlace ∧
          (State.emptyAlert s).sched.long = s.sched.long ∧ (State.emptyAlert s).sched.requests = s.sched.requests ∧
          (State.emptyAlert s).sched.grant = s.sched.grant ∧ (State.emptyAlert s).sched.draws = s.sched.draws ∧
          (State.emptyAlert s).sched.seed = s.sched.seed := by
  unfold State.emptyAlert; (repeat' split) <;> simp

@[simp] theorem State.emptySlotRequest_fields (s : State) :
    (State.emptySlotRequest s).sched.joinPlace = s.sched.joinPlace ∧
          (State.emptySlotRequest s).sched.joinAttempts = s.sched.joinAttempts ∧
          (State.emptySlotRequest s).sched.alertPlace = s.sched.alertPlace ∧
          (State.emptySlotRequest s).sched.alertAttempts = s.sched.alertAttempts ∧ (State.emptySlotRequest s).sched.acks = s.sched.acks ∧
          (State.emptySlotRequest s).sched.bids = s.sched.bids ∧ (State.emptySlotRequest s).sched.flowPlace = s.sched.flowPlace ∧
          (State.emptySlotRequest s).sched.statusPlace = s.sched.statusPlace ∧ (State.emptySlotRequest s).sched.long = s.sched.long ∧
          (State.emptySlotRequest s).sched.requests = s.sched.requests ∧ (State.emptySlotRequest s).sched.grant = s.sched.grant ∧
          (State.emptySlotRequest s).sched.draws = s.sched.draws ∧ (State.emptySlotRequest s).sched.seed = s.sched.seed ∧
          (State.emptySlotRequest s).radio.receiverOn = s.radio.receiverOn ∧ (State.emptySlotRequest s).radio.channel = s.radio.channel ∧
          (State.emptySlotRequest s).radio.output = s.radio.output := by
  unfold State.emptySlotRequest; (repeat' split) <;> simp

@[simp] theorem State.settleLong_fields (s : State) :
    (State.settleLong s).sched.joinPlace = s.sched.joinPlace ∧ (State.settleLong s).sched.joinAttempts = s.sched.joinAttempts ∧
          (State.settleLong s).sched.alertPlace = s.sched.alertPlace ∧ (State.settleLong s).sched.alertAttempts = s.sched.alertAttempts ∧
          (State.settleLong s).sched.acks = s.sched.acks ∧ (State.settleLong s).sched.bids = s.sched.bids ∧
          (State.settleLong s).sched.flowPlace = s.sched.flowPlace ∧ (State.settleLong s).sched.statusPlace = s.sched.statusPlace ∧
          (State.settleLong s).sched.requests = s.sched.requests ∧ (State.settleLong s).sched.grant = s.sched.grant ∧
          (State.settleLong s).sched.draws = s.sched.draws ∧ (State.settleLong s).sched.seed = s.sched.seed ∧
          (State.settleLong s).radio.receiverOn = s.radio.receiverOn ∧ (State.settleLong s).radio.channel = s.radio.channel ∧
          (State.settleLong s).radio.output = s.radio.output := by
  unfold State.settleLong; (repeat' split) <;> simp

@[simp] theorem State.grantWaitEnds_fields (s : State) :
    (State.grantWaitEnds s).sched.joinPlace = s.sched.joinPlace ∧ (State.grantWaitEnds s).sched.joinAttempts = s.sched.joinAttempts ∧
          (State.grantWaitEnds s).sched.alertPlace = s.sched.alertPlace ∧
          (State.grantWaitEnds s).sched.alertAttempts = s.sched.alertAttempts ∧ (State.grantWaitEnds s).sched.acks = s.sched.acks ∧
          (State.grantWaitEnds s).sched.bids = s.sched.bids ∧ (State.grantWaitEnds s).sched.flowPlace = s.sched.flowPlace ∧
          (State.grantWaitEnds s).sched.statusPlace = s.sched.statusPlace ∧
          (State.grantWaitEnds s).sched.contention = s.sched.contention ∧ (State.grantWaitEnds s).sched.grant = s.sched.grant ∧
          (State.grantWaitEnds s).sched.draws = s.sched.draws ∧ (State.grantWaitEnds s).sched.seed = s.sched.seed := by
  unfold State.grantWaitEnds; (repeat' split) <;> simp

@[simp] theorem State.endGrant_fields (s : State) :
    (State.endGrant s).sched.joinPlace = s.sched.joinPlace ∧ (State.endGrant s).sched.joinAttempts = s.sched.joinAttempts ∧
          (State.endGrant s).sched.alertPlace = s.sched.alertPlace ∧ (State.endGrant s).sched.alertAttempts = s.sched.alertAttempts ∧
          (State.endGrant s).sched.acks = s.sched.acks ∧ (State.endGrant s).sched.bids = s.sched.bids ∧
          (State.endGrant s).sched.flowPlace = s.sched.flowPlace ∧ (State.endGrant s).sched.statusPlace = s.sched.statusPlace ∧
          (State.endGrant s).sched.requests = s.sched.requests ∧ (State.endGrant s).sched.draws = s.sched.draws ∧
          (State.endGrant s).sched.seed = s.sched.seed ∧ (State.endGrant s).radio.receiverOn = s.radio.receiverOn ∧
          (State.endGrant s).radio.channel = s.radio.channel ∧ (State.endGrant s).radio.output = s.radio.output := by
  unfold State.endGrant; (repeat' split) <;> simp

@[simp] theorem State.takeGrant_fields (c : Word) (b n : Byte) (s : State) :
    (State.takeGrant c b n s).sched.joinPlace = s.sched.joinPlace ∧ (State.takeGrant c b n s).sched.joinAttempts = s.sched.joinAttempts ∧
          (State.takeGrant c b n s).sched.alertPlace = s.sched.alertPlace ∧
          (State.takeGrant c b n s).sched.alertAttempts = s.sched.alertAttempts ∧ (State.takeGrant c b n s).sched.acks = s.sched.acks ∧
          (State.takeGrant c b n s).sched.bids = s.sched.bids ∧ (State.takeGrant c b n s).sched.flowPlace = s.sched.flowPlace ∧
          (State.takeGrant c b n s).sched.statusPlace = s.sched.statusPlace ∧ (State.takeGrant c b n s).sched.draws = s.sched.draws ∧
          (State.takeGrant c b n s).sched.seed = s.sched.seed ∧ (State.takeGrant c b n s).radio.receiverOn = s.radio.receiverOn ∧
          (State.takeGrant c b n s).radio.channel = s.radio.channel ∧ (State.takeGrant c b n s).radio.output = s.radio.output := by
  unfold State.takeGrant; (repeat' split) <;> simp

@[simp] theorem State.contenderChoice_fields (s : State) :
    (State.contenderChoice s).sched.joinPlace = s.sched.joinPlace ∧ (State.contenderChoice s).sched.joinAttempts = s.sched.joinAttempts ∧
          (State.contenderChoice s).sched.alertPlace = s.sched.alertPlace ∧
          (State.contenderChoice s).sched.alertAttempts = s.sched.alertAttempts ∧ (State.contenderChoice s).sched.acks = s.sched.acks ∧
          (State.contenderChoice s).sched.bids = s.sched.bids ∧ (State.contenderChoice s).sched.flowPlace = s.sched.flowPlace ∧
          (State.contenderChoice s).sched.slotRequest = s.sched.slotRequest ∧
          (State.contenderChoice s).sched.statusPlace = s.sched.statusPlace ∧ (State.contenderChoice s).sched.long = s.sched.long ∧
          (State.contenderChoice s).sched.requests = s.sched.requests ∧ (State.contenderChoice s).sched.grant = s.sched.grant ∧
          (State.contenderChoice s).sched.seed = s.sched.seed := by
  unfold State.contenderChoice; (repeat' split) <;> simp

@[simp] theorem State.drawSlot_fields (s : State) :
    (State.drawSlot s).sched.joinPlace = s.sched.joinPlace ∧ (State.drawSlot s).sched.joinAttempts = s.sched.joinAttempts ∧
          (State.drawSlot s).sched.alertPlace = s.sched.alertPlace ∧ (State.drawSlot s).sched.alertAttempts = s.sched.alertAttempts ∧
          (State.drawSlot s).sched.acks = s.sched.acks ∧ (State.drawSlot s).sched.bids = s.sched.bids ∧
          (State.drawSlot s).sched.flowPlace = s.sched.flowPlace ∧ (State.drawSlot s).sched.slotRequest = s.sched.slotRequest ∧
          (State.drawSlot s).sched.statusPlace = s.sched.statusPlace ∧ (State.drawSlot s).sched.long = s.sched.long ∧
          (State.drawSlot s).sched.requests = s.sched.requests ∧ (State.drawSlot s).sched.grant = s.sched.grant ∧
          (State.drawSlot s).sched.seed = s.sched.seed := by
  unfold State.drawSlot; (repeat' split) <;> simp

@[simp] theorem State.updateEntry_fields (n : Fin 16) (f : OfferEntry → OfferEntry) (cs : List Cause) (s : State) :
    (State.updateEntry n f cs s).offers.order = s.offers.order ∧ (State.updateEntry n f cs s).path.asel = s.path.asel ∧
          (State.updateEntry n f cs s).path.inReset = s.path.inReset ∧ (State.updateEntry n f cs s).path.buffer = s.path.buffer ∧
          (State.updateEntry n f cs s).path.drain = s.path.drain ∧ (State.updateEntry n f cs s).path.under = s.path.under ∧
          (State.updateEntry n f cs s).path.internal = s.path.internal ∧ (State.updateEntry n f cs s).path.fairness = s.path.fairness ∧
          (State.updateEntry n f cs s).path.resetDrain = s.path.resetDrain ∧ (State.updateEntry n f cs s).path.held = s.path.held ∧
          (State.updateEntry n f cs s).path.answer = s.path.answer := by
  unfold State.updateEntry; (repeat' split) <;> simp

@[simp] theorem State.emptyEntry_fields (n : Fin 16) (cs : List Cause) (s : State) :
    (State.emptyEntry n cs s).path.asel = s.path.asel ∧ (State.emptyEntry n cs s).path.inReset = s.path.inReset ∧
          (State.emptyEntry n cs s).path.buffer = s.path.buffer ∧ (State.emptyEntry n cs s).path.drain = s.path.drain ∧
          (State.emptyEntry n cs s).path.under = s.path.under ∧ (State.emptyEntry n cs s).path.internal = s.path.internal ∧
          (State.emptyEntry n cs s).path.fairness = s.path.fairness ∧ (State.emptyEntry n cs s).path.resetDrain = s.path.resetDrain ∧
          (State.emptyEntry n cs s).path.held = s.path.held ∧ (State.emptyEntry n cs s).path.answer = s.path.answer := by
  unfold State.emptyEntry; (repeat' split) <;> simp

@[simp] theorem State.placeEntry_fields (n : Fin 16) (f : OfferEntry → OfferEntry) (cs : List Cause) (s : State) :
    (State.placeEntry n f cs s).path.asel = s.path.asel ∧ (State.placeEntry n f cs s).path.inReset = s.path.inReset ∧
          (State.placeEntry n f cs s).path.buffer = s.path.buffer ∧ (State.placeEntry n f cs s).path.drain = s.path.drain ∧
          (State.placeEntry n f cs s).path.under = s.path.under ∧ (State.placeEntry n f cs s).path.internal = s.path.internal ∧
          (State.placeEntry n f cs s).path.fairness = s.path.fairness ∧ (State.placeEntry n f cs s).path.resetDrain = s.path.resetDrain ∧
          (State.placeEntry n f cs s).path.held = s.path.held ∧ (State.placeEntry n f cs s).path.answer = s.path.answer := by
  unfold State.placeEntry; (repeat' split) <;> simp

@[simp] theorem State.takeOffer_fields (h : DownHeader) (b : OfferBody) (s : State) :
    (State.takeOffer h b s).path.asel = s.path.asel ∧ (State.takeOffer h b s).path.inReset = s.path.inReset ∧
          (State.takeOffer h b s).path.buffer = s.path.buffer ∧ (State.takeOffer h b s).path.drain = s.path.drain ∧
          (State.takeOffer h b s).path.under = s.path.under ∧ (State.takeOffer h b s).path.internal = s.path.internal ∧
          (State.takeOffer h b s).path.fairness = s.path.fairness ∧ (State.takeOffer h b s).path.resetDrain = s.path.resetDrain ∧
          (State.takeOffer h b s).path.held = s.path.held ∧ (State.takeOffer h b s).path.answer = s.path.answer ∧
          (State.takeOffer h b s).page.causes = s.page.causes ∧ (State.takeOffer h b s).page.enables = s.page.enables ∧
          (State.takeOffer h b s).page.busy = s.page.busy ∧ (State.takeOffer h b s).page.linkUp = s.page.linkUp ∧
          (State.takeOffer h b s).page.statusCopy = s.page.statusCopy ∧ (State.takeOffer h b s).page.shiftCopy = s.page.shiftCopy ∧
          (State.takeOffer h b s).page.powerCopy = s.page.powerCopy ∧ (State.takeOffer h b s).page.enableCopy = s.page.enableCopy := by
  unfold State.takeOffer; (repeat' split) <;> simp

@[simp] theorem State.lifetimeEnds_fields (n : Fin 16) (s : State) :
    (State.lifetimeEnds n s).offers.order = s.offers.order ∧ (State.lifetimeEnds n s).path.asel = s.path.asel ∧
          (State.lifetimeEnds n s).path.inReset = s.path.inReset ∧ (State.lifetimeEnds n s).path.buffer = s.path.buffer ∧
          (State.lifetimeEnds n s).path.drain = s.path.drain ∧ (State.lifetimeEnds n s).path.under = s.path.under ∧
          (State.lifetimeEnds n s).path.internal = s.path.internal ∧ (State.lifetimeEnds n s).path.fairness = s.path.fairness ∧
          (State.lifetimeEnds n s).path.resetDrain = s.path.resetDrain ∧ (State.lifetimeEnds n s).path.held = s.path.held ∧
          (State.lifetimeEnds n s).path.answer = s.path.answer := by
  unfold State.lifetimeEnds; dsimp only; (repeat' split) <;> simp <;> (repeat' split) <;> simp

@[simp] theorem State.awardWaitEnds_fields (n : Fin 16) (s : State) :
    (State.awardWaitEnds n s).offers.order = s.offers.order ∧ (State.awardWaitEnds n s).path.asel = s.path.asel ∧
          (State.awardWaitEnds n s).path.inReset = s.path.inReset ∧ (State.awardWaitEnds n s).path.buffer = s.path.buffer ∧
          (State.awardWaitEnds n s).path.drain = s.path.drain ∧ (State.awardWaitEnds n s).path.under = s.path.under ∧
          (State.awardWaitEnds n s).path.internal = s.path.internal ∧ (State.awardWaitEnds n s).path.fairness = s.path.fairness ∧
          (State.awardWaitEnds n s).path.resetDrain = s.path.resetDrain ∧ (State.awardWaitEnds n s).path.held = s.path.held ∧
          (State.awardWaitEnds n s).path.answer = s.path.answer := by
  unfold State.awardWaitEnds; dsimp only; (repeat' split) <;> simp <;> (repeat' split) <;> simp

@[simp] theorem State.becameAwarded_fields (s : State) :
    (State.becameAwarded s).sched.joinPlace = s.sched.joinPlace ∧ (State.becameAwarded s).sched.joinAttempts = s.sched.joinAttempts ∧
          (State.becameAwarded s).sched.alertPlace = s.sched.alertPlace ∧
          (State.becameAwarded s).sched.alertAttempts = s.sched.alertAttempts ∧ (State.becameAwarded s).sched.acks = s.sched.acks ∧
          (State.becameAwarded s).sched.bids = s.sched.bids ∧ (State.becameAwarded s).sched.flowPlace = s.sched.flowPlace ∧
          (State.becameAwarded s).sched.slotRequest = s.sched.slotRequest ∧
          (State.becameAwarded s).sched.contention = s.sched.contention ∧ (State.becameAwarded s).sched.long = s.sched.long ∧
          (State.becameAwarded s).sched.requests = s.sched.requests ∧ (State.becameAwarded s).sched.grant = s.sched.grant ∧
          (State.becameAwarded s).sched.draws = s.sched.draws ∧ (State.becameAwarded s).sched.seed = s.sched.seed ∧
          (State.becameAwarded s).pins.emswClosed = s.pins.emswClosed ∧ (State.becameAwarded s).pins.ign = s.pins.ign ∧
          (State.becameAwarded s).pins.attn = s.pins.attn ∧ (State.becameAwarded s).pins.wake = s.pins.wake ∧
          (State.becameAwarded s).status.shiftOpen = s.status.shiftOpen ∧
          (State.becameAwarded s).status.shiftNumber = s.status.shiftNumber ∧
          (State.becameAwarded s).status.driverId = s.status.driverId ∧
          (State.becameAwarded s).status.meterOpened = s.status.meterOpened ∧ (State.becameAwarded s).status.zone = s.status.zone ∧
          (State.becameAwarded s).status.position = s.status.position ∧ (State.becameAwarded s).status.lampMap = s.status.lampMap ∧
          (State.becameAwarded s).status.alarmEnabled = s.status.alarmEnabled ∧
          (State.becameAwarded s).status.flashOn = s.status.flashOn ∧ (State.becameAwarded s).status.alarmOn = s.status.alarmOn ∧
          (State.becameAwarded s).status.driverCopy = s.status.driverCopy ∧
          (State.becameAwarded s).status.firstCopy = s.status.firstCopy ∧
          (State.becameAwarded s).status.secondCopy = s.status.secondCopy ∧
          (State.becameAwarded s).status.pendingFirst = s.status.pendingFirst ∧
          (State.becameAwarded s).status.statusResult = s.status.statusResult ∧
          (State.becameAwarded s).status.shiftResult = s.status.shiftResult := by
  unfold State.becameAwarded; (repeat' split) <;> simp

@[simp] theorem State.leftAwarded_fields (s : State) :
    (State.leftAwarded s).sched.joinPlace = s.sched.joinPlace ∧ (State.leftAwarded s).sched.joinAttempts = s.sched.joinAttempts ∧
          (State.leftAwarded s).sched.alertPlace = s.sched.alertPlace ∧
          (State.leftAwarded s).sched.alertAttempts = s.sched.alertAttempts ∧ (State.leftAwarded s).sched.acks = s.sched.acks ∧
          (State.leftAwarded s).sched.bids = s.sched.bids ∧ (State.leftAwarded s).sched.flowPlace = s.sched.flowPlace ∧
          (State.leftAwarded s).sched.slotRequest = s.sched.slotRequest ∧ (State.leftAwarded s).sched.contention = s.sched.contention ∧
          (State.leftAwarded s).sched.long = s.sched.long ∧ (State.leftAwarded s).sched.requests = s.sched.requests ∧
          (State.leftAwarded s).sched.grant = s.sched.grant ∧ (State.leftAwarded s).sched.draws = s.sched.draws ∧
          (State.leftAwarded s).sched.seed = s.sched.seed ∧ (State.leftAwarded s).pins.emswClosed = s.pins.emswClosed ∧
          (State.leftAwarded s).pins.ign = s.pins.ign ∧ (State.leftAwarded s).pins.attn = s.pins.attn ∧
          (State.leftAwarded s).pins.wake = s.pins.wake ∧ (State.leftAwarded s).status.shiftOpen = s.status.shiftOpen ∧
          (State.leftAwarded s).status.shiftNumber = s.status.shiftNumber ∧ (State.leftAwarded s).status.driverId = s.status.driverId ∧
          (State.leftAwarded s).status.meterOpened = s.status.meterOpened ∧ (State.leftAwarded s).status.zone = s.status.zone ∧
          (State.leftAwarded s).status.position = s.status.position ∧ (State.leftAwarded s).status.lampMap = s.status.lampMap ∧
          (State.leftAwarded s).status.alarmEnabled = s.status.alarmEnabled ∧ (State.leftAwarded s).status.flashOn = s.status.flashOn ∧
          (State.leftAwarded s).status.alarmOn = s.status.alarmOn ∧ (State.leftAwarded s).status.driverCopy = s.status.driverCopy ∧
          (State.leftAwarded s).status.firstCopy = s.status.firstCopy ∧ (State.leftAwarded s).status.secondCopy = s.status.secondCopy ∧
          (State.leftAwarded s).status.pendingFirst = s.status.pendingFirst ∧
          (State.leftAwarded s).status.statusResult = s.status.statusResult ∧
          (State.leftAwarded s).status.shiftResult = s.status.shiftResult := by
  unfold State.leftAwarded; (repeat' split) <;> simp

@[simp] theorem State.takeResponse_fields (n : Fin 16) (l : Lanes) (d : Word) (s : State) :
    (State.takeResponse n l d s).path.asel = s.path.asel ∧ (State.takeResponse n l d s).path.inReset = s.path.inReset ∧
          (State.takeResponse n l d s).path.buffer = s.path.buffer ∧ (State.takeResponse n l d s).path.drain = s.path.drain ∧
          (State.takeResponse n l d s).path.under = s.path.under ∧ (State.takeResponse n l d s).path.internal = s.path.internal ∧
          (State.takeResponse n l d s).path.fairness = s.path.fairness ∧
          (State.takeResponse n l d s).path.resetDrain = s.path.resetDrain ∧ (State.takeResponse n l d s).path.held = s.path.held ∧
          (State.takeResponse n l d s).path.answer = s.path.answer ∧ (State.takeResponse n l d s).sched.joinPlace = s.sched.joinPlace ∧
          (State.takeResponse n l d s).sched.joinAttempts = s.sched.joinAttempts ∧
          (State.takeResponse n l d s).sched.alertPlace = s.sched.alertPlace ∧
          (State.takeResponse n l d s).sched.alertAttempts = s.sched.alertAttempts ∧
          (State.takeResponse n l d s).sched.acks = s.sched.acks ∧ (State.takeResponse n l d s).sched.flowPlace = s.sched.flowPlace ∧
          (State.takeResponse n l d s).sched.slotRequest = s.sched.slotRequest ∧ (State.takeResponse n l d s).sched.long = s.sched.long ∧
          (State.takeResponse n l d s).sched.requests = s.sched.requests ∧ (State.takeResponse n l d s).sched.grant = s.sched.grant ∧
          (State.takeResponse n l d s).sched.draws = s.sched.draws ∧ (State.takeResponse n l d s).sched.seed = s.sched.seed ∧
          (State.takeResponse n l d s).radio.receiverOn = s.radio.receiverOn ∧
          (State.takeResponse n l d s).radio.channel = s.radio.channel ∧ (State.takeResponse n l d s).radio.output = s.radio.output ∧
          (State.takeResponse n l d s).pins.emswClosed = s.pins.emswClosed ∧ (State.takeResponse n l d s).pins.ign = s.pins.ign ∧
          (State.takeResponse n l d s).pins.attn = s.pins.attn ∧ (State.takeResponse n l d s).pins.wake = s.pins.wake ∧
          (State.takeResponse n l d s).status.shiftOpen = s.status.shiftOpen ∧
          (State.takeResponse n l d s).status.shiftNumber = s.status.shiftNumber ∧
          (State.takeResponse n l d s).status.driverId = s.status.driverId ∧
          (State.takeResponse n l d s).status.meterOpened = s.status.meterOpened ∧
          (State.takeResponse n l d s).status.zone = s.status.zone ∧ (State.takeResponse n l d s).status.position = s.status.position ∧
          (State.takeResponse n l d s).status.lampMap = s.status.lampMap ∧
          (State.takeResponse n l d s).status.alarmEnabled = s.status.alarmEnabled ∧
          (State.takeResponse n l d s).status.flashOn = s.status.flashOn ∧
          (State.takeResponse n l d s).status.alarmOn = s.status.alarmOn ∧
          (State.takeResponse n l d s).status.driverCopy = s.status.driverCopy ∧
          (State.takeResponse n l d s).status.firstCopy = s.status.firstCopy ∧
          (State.takeResponse n l d s).status.secondCopy = s.status.secondCopy ∧
          (State.takeResponse n l d s).status.pendingFirst = s.status.pendingFirst ∧
          (State.takeResponse n l d s).status.statusResult = s.status.statusResult ∧
          (State.takeResponse n l d s).status.shiftResult = s.status.shiftResult := by
  unfold State.takeResponse; dsimp only; (repeat' split) <;> simp <;> (repeat' split) <;> simp

@[simp] theorem State.awardNoEntry_fields (b : OfferBody) (s : State) :
    (State.awardNoEntry b s).path.asel = s.path.asel ∧ (State.awardNoEntry b s).path.inReset = s.path.inReset ∧
          (State.awardNoEntry b s).path.buffer = s.path.buffer ∧ (State.awardNoEntry b s).path.drain = s.path.drain ∧
          (State.awardNoEntry b s).path.under = s.path.under ∧ (State.awardNoEntry b s).path.internal = s.path.internal ∧
          (State.awardNoEntry b s).path.fairness = s.path.fairness ∧ (State.awardNoEntry b s).path.resetDrain = s.path.resetDrain ∧
          (State.awardNoEntry b s).path.held = s.path.held ∧ (State.awardNoEntry b s).path.answer = s.path.answer ∧
          (State.awardNoEntry b s).sched.joinPlace = s.sched.joinPlace ∧
          (State.awardNoEntry b s).sched.joinAttempts = s.sched.joinAttempts ∧
          (State.awardNoEntry b s).sched.alertPlace = s.sched.alertPlace ∧
          (State.awardNoEntry b s).sched.alertAttempts = s.sched.alertAttempts ∧ (State.awardNoEntry b s).sched.acks = s.sched.acks ∧
          (State.awardNoEntry b s).sched.flowPlace = s.sched.flowPlace ∧
          (State.awardNoEntry b s).sched.slotRequest = s.sched.slotRequest ∧ (State.awardNoEntry b s).sched.long = s.sched.long ∧
          (State.awardNoEntry b s).sched.requests = s.sched.requests ∧ (State.awardNoEntry b s).sched.grant = s.sched.grant ∧
          (State.awardNoEntry b s).sched.draws = s.sched.draws ∧ (State.awardNoEntry b s).sched.seed = s.sched.seed ∧
          (State.awardNoEntry b s).radio.receiverOn = s.radio.receiverOn ∧ (State.awardNoEntry b s).radio.channel = s.radio.channel ∧
          (State.awardNoEntry b s).radio.output = s.radio.output ∧ (State.awardNoEntry b s).pins.emswClosed = s.pins.emswClosed ∧
          (State.awardNoEntry b s).pins.ign = s.pins.ign ∧ (State.awardNoEntry b s).pins.attn = s.pins.attn ∧
          (State.awardNoEntry b s).pins.wake = s.pins.wake ∧ (State.awardNoEntry b s).status.shiftOpen = s.status.shiftOpen ∧
          (State.awardNoEntry b s).status.shiftNumber = s.status.shiftNumber ∧
          (State.awardNoEntry b s).status.driverId = s.status.driverId ∧
          (State.awardNoEntry b s).status.meterOpened = s.status.meterOpened ∧ (State.awardNoEntry b s).status.zone = s.status.zone ∧
          (State.awardNoEntry b s).status.position = s.status.position ∧ (State.awardNoEntry b s).status.lampMap = s.status.lampMap ∧
          (State.awardNoEntry b s).status.alarmEnabled = s.status.alarmEnabled ∧
          (State.awardNoEntry b s).status.flashOn = s.status.flashOn ∧ (State.awardNoEntry b s).status.alarmOn = s.status.alarmOn ∧
          (State.awardNoEntry b s).status.driverCopy = s.status.driverCopy ∧
          (State.awardNoEntry b s).status.firstCopy = s.status.firstCopy ∧
          (State.awardNoEntry b s).status.secondCopy = s.status.secondCopy ∧
          (State.awardNoEntry b s).status.pendingFirst = s.status.pendingFirst ∧
          (State.awardNoEntry b s).status.statusResult = s.status.statusResult ∧
          (State.awardNoEntry b s).status.shiftResult = s.status.shiftResult ∧ (State.awardNoEntry b s).page.causes = s.page.causes ∧
          (State.awardNoEntry b s).page.enables = s.page.enables ∧ (State.awardNoEntry b s).page.busy = s.page.busy ∧
          (State.awardNoEntry b s).page.linkUp = s.page.linkUp ∧ (State.awardNoEntry b s).page.statusCopy = s.page.statusCopy ∧
          (State.awardNoEntry b s).page.shiftCopy = s.page.shiftCopy ∧ (State.awardNoEntry b s).page.powerCopy = s.page.powerCopy ∧
          (State.awardNoEntry b s).page.enableCopy = s.page.enableCopy := by
  unfold State.awardNoEntry; (repeat' split) <;> simp

@[simp] theorem State.takeAward_fields (b : OfferBody) (s : State) :
    (State.takeAward b s).path.asel = s.path.asel ∧ (State.takeAward b s).path.inReset = s.path.inReset ∧
          (State.takeAward b s).path.buffer = s.path.buffer ∧ (State.takeAward b s).path.drain = s.path.drain ∧
          (State.takeAward b s).path.under = s.path.under ∧ (State.takeAward b s).path.internal = s.path.internal ∧
          (State.takeAward b s).path.fairness = s.path.fairness ∧ (State.takeAward b s).path.resetDrain = s.path.resetDrain ∧
          (State.takeAward b s).path.held = s.path.held ∧ (State.takeAward b s).path.answer = s.path.answer ∧
          (State.takeAward b s).sched.joinPlace = s.sched.joinPlace ∧ (State.takeAward b s).sched.joinAttempts = s.sched.joinAttempts ∧
          (State.takeAward b s).sched.alertPlace = s.sched.alertPlace ∧
          (State.takeAward b s).sched.alertAttempts = s.sched.alertAttempts ∧ (State.takeAward b s).sched.acks = s.sched.acks ∧
          (State.takeAward b s).sched.flowPlace = s.sched.flowPlace ∧ (State.takeAward b s).sched.slotRequest = s.sched.slotRequest ∧
          (State.takeAward b s).sched.long = s.sched.long ∧ (State.takeAward b s).sched.requests = s.sched.requests ∧
          (State.takeAward b s).sched.grant = s.sched.grant ∧ (State.takeAward b s).sched.draws = s.sched.draws ∧
          (State.takeAward b s).sched.seed = s.sched.seed ∧ (State.takeAward b s).radio.receiverOn = s.radio.receiverOn ∧
          (State.takeAward b s).radio.channel = s.radio.channel ∧ (State.takeAward b s).radio.output = s.radio.output ∧
          (State.takeAward b s).pins.emswClosed = s.pins.emswClosed ∧ (State.takeAward b s).pins.ign = s.pins.ign ∧
          (State.takeAward b s).pins.attn = s.pins.attn ∧ (State.takeAward b s).pins.wake = s.pins.wake ∧
          (State.takeAward b s).status.shiftOpen = s.status.shiftOpen ∧ (State.takeAward b s).status.shiftNumber = s.status.shiftNumber ∧
          (State.takeAward b s).status.driverId = s.status.driverId ∧ (State.takeAward b s).status.meterOpened = s.status.meterOpened ∧
          (State.takeAward b s).status.zone = s.status.zone ∧ (State.takeAward b s).status.position = s.status.position ∧
          (State.takeAward b s).status.lampMap = s.status.lampMap ∧ (State.takeAward b s).status.alarmEnabled = s.status.alarmEnabled ∧
          (State.takeAward b s).status.flashOn = s.status.flashOn ∧ (State.takeAward b s).status.alarmOn = s.status.alarmOn ∧
          (State.takeAward b s).status.driverCopy = s.status.driverCopy ∧ (State.takeAward b s).status.firstCopy = s.status.firstCopy ∧
          (State.takeAward b s).status.secondCopy = s.status.secondCopy ∧
          (State.takeAward b s).status.pendingFirst = s.status.pendingFirst ∧
          (State.takeAward b s).status.statusResult = s.status.statusResult ∧
          (State.takeAward b s).status.shiftResult = s.status.shiftResult ∧ (State.takeAward b s).page.causes = s.page.causes ∧
          (State.takeAward b s).page.enables = s.page.enables ∧ (State.takeAward b s).page.busy = s.page.busy ∧
          (State.takeAward b s).page.linkUp = s.page.linkUp ∧ (State.takeAward b s).page.statusCopy = s.page.statusCopy ∧
          (State.takeAward b s).page.shiftCopy = s.page.shiftCopy ∧ (State.takeAward b s).page.powerCopy = s.page.powerCopy ∧
          (State.takeAward b s).page.enableCopy = s.page.enableCopy := by
  unfold State.takeAward; (repeat' split) <;> simp

@[simp] theorem State.takeLost_fields (j : DWord) (s : State) :
    (State.takeLost j s).offers.order = s.offers.order ∧ (State.takeLost j s).path.asel = s.path.asel ∧
          (State.takeLost j s).path.inReset = s.path.inReset ∧ (State.takeLost j s).path.buffer = s.path.buffer ∧
          (State.takeLost j s).path.drain = s.path.drain ∧ (State.takeLost j s).path.under = s.path.under ∧
          (State.takeLost j s).path.internal = s.path.internal ∧ (State.takeLost j s).path.fairness = s.path.fairness ∧
          (State.takeLost j s).path.resetDrain = s.path.resetDrain ∧ (State.takeLost j s).path.held = s.path.held ∧
          (State.takeLost j s).path.answer = s.path.answer := by
  unfold State.takeLost; (repeat' split) <;> simp

@[simp] theorem State.takeWithdraw_fields (j : DWord) (s : State) :
    (State.takeWithdraw j s).offers.order = s.offers.order ∧ (State.takeWithdraw j s).path.asel = s.path.asel ∧
          (State.takeWithdraw j s).path.inReset = s.path.inReset ∧ (State.takeWithdraw j s).path.buffer = s.path.buffer ∧
          (State.takeWithdraw j s).path.drain = s.path.drain ∧ (State.takeWithdraw j s).path.under = s.path.under ∧
          (State.takeWithdraw j s).path.internal = s.path.internal ∧ (State.takeWithdraw j s).path.fairness = s.path.fairness ∧
          (State.takeWithdraw j s).path.resetDrain = s.path.resetDrain ∧ (State.takeWithdraw j s).path.held = s.path.held ∧
          (State.takeWithdraw j s).path.answer = s.path.answer ∧ (State.takeWithdraw j s).sched.joinPlace = s.sched.joinPlace ∧
          (State.takeWithdraw j s).sched.joinAttempts = s.sched.joinAttempts ∧
          (State.takeWithdraw j s).sched.alertPlace = s.sched.alertPlace ∧
          (State.takeWithdraw j s).sched.alertAttempts = s.sched.alertAttempts ∧ (State.takeWithdraw j s).sched.acks = s.sched.acks ∧
          (State.takeWithdraw j s).sched.flowPlace = s.sched.flowPlace ∧
          (State.takeWithdraw j s).sched.slotRequest = s.sched.slotRequest ∧ (State.takeWithdraw j s).sched.long = s.sched.long ∧
          (State.takeWithdraw j s).sched.requests = s.sched.requests ∧ (State.takeWithdraw j s).sched.grant = s.sched.grant ∧
          (State.takeWithdraw j s).sched.draws = s.sched.draws ∧ (State.takeWithdraw j s).sched.seed = s.sched.seed ∧
          (State.takeWithdraw j s).radio.receiverOn = s.radio.receiverOn ∧ (State.takeWithdraw j s).radio.channel = s.radio.channel ∧
          (State.takeWithdraw j s).radio.output = s.radio.output ∧ (State.takeWithdraw j s).pins.emswClosed = s.pins.emswClosed ∧
          (State.takeWithdraw j s).pins.ign = s.pins.ign ∧ (State.takeWithdraw j s).pins.attn = s.pins.attn ∧
          (State.takeWithdraw j s).pins.wake = s.pins.wake ∧ (State.takeWithdraw j s).status.shiftOpen = s.status.shiftOpen ∧
          (State.takeWithdraw j s).status.shiftNumber = s.status.shiftNumber ∧
          (State.takeWithdraw j s).status.driverId = s.status.driverId ∧
          (State.takeWithdraw j s).status.meterOpened = s.status.meterOpened ∧ (State.takeWithdraw j s).status.zone = s.status.zone ∧
          (State.takeWithdraw j s).status.position = s.status.position ∧ (State.takeWithdraw j s).status.lampMap = s.status.lampMap ∧
          (State.takeWithdraw j s).status.alarmEnabled = s.status.alarmEnabled ∧
          (State.takeWithdraw j s).status.flashOn = s.status.flashOn ∧ (State.takeWithdraw j s).status.alarmOn = s.status.alarmOn ∧
          (State.takeWithdraw j s).status.driverCopy = s.status.driverCopy ∧
          (State.takeWithdraw j s).status.firstCopy = s.status.firstCopy ∧
          (State.takeWithdraw j s).status.secondCopy = s.status.secondCopy ∧
          (State.takeWithdraw j s).status.pendingFirst = s.status.pendingFirst ∧
          (State.takeWithdraw j s).status.statusResult = s.status.statusResult ∧
          (State.takeWithdraw j s).status.shiftResult = s.status.shiftResult := by
  unfold State.takeWithdraw; dsimp only; (repeat' split) <;> simp <;> (repeat' split) <;> simp

@[simp] theorem State.carryJob_fields (s : State) :
    (State.carryJob s).path.asel = s.path.asel ∧ (State.carryJob s).path.inReset = s.path.inReset ∧
          (State.carryJob s).path.buffer = s.path.buffer ∧ (State.carryJob s).path.drain = s.path.drain ∧
          (State.carryJob s).path.under = s.path.under ∧ (State.carryJob s).path.internal = s.path.internal ∧
          (State.carryJob s).path.fairness = s.path.fairness ∧ (State.carryJob s).path.resetDrain = s.path.resetDrain ∧
          (State.carryJob s).path.held = s.path.held ∧ (State.carryJob s).path.answer = s.path.answer := by
  unfold State.carryJob; (repeat' split) <;> simp

@[simp] theorem State.alertingToOffers_fields (s : State) :
    (State.alertingToOffers s).offers.order = s.offers.order ∧ (State.alertingToOffers s).path.asel = s.path.asel ∧
          (State.alertingToOffers s).path.inReset = s.path.inReset ∧ (State.alertingToOffers s).path.buffer = s.path.buffer ∧
          (State.alertingToOffers s).path.drain = s.path.drain ∧ (State.alertingToOffers s).path.under = s.path.under ∧
          (State.alertingToOffers s).path.internal = s.path.internal ∧ (State.alertingToOffers s).path.fairness = s.path.fairness ∧
          (State.alertingToOffers s).path.resetDrain = s.path.resetDrain ∧ (State.alertingToOffers s).path.held = s.path.held ∧
          (State.alertingToOffers s).path.answer = s.path.answer ∧ (State.alertingToOffers s).sched.joinPlace = s.sched.joinPlace ∧
          (State.alertingToOffers s).sched.joinAttempts = s.sched.joinAttempts ∧
          (State.alertingToOffers s).sched.alertPlace = s.sched.alertPlace ∧
          (State.alertingToOffers s).sched.alertAttempts = s.sched.alertAttempts ∧ (State.alertingToOffers s).sched.acks = s.sched.acks ∧
          (State.alertingToOffers s).sched.flowPlace = s.sched.flowPlace ∧
          (State.alertingToOffers s).sched.slotRequest = s.sched.slotRequest ∧
          (State.alertingToOffers s).sched.statusPlace = s.sched.statusPlace ∧ (State.alertingToOffers s).sched.long = s.sched.long ∧
          (State.alertingToOffers s).sched.requests = s.sched.requests ∧ (State.alertingToOffers s).sched.grant = s.sched.grant ∧
          (State.alertingToOffers s).sched.draws = s.sched.draws ∧ (State.alertingToOffers s).sched.seed = s.sched.seed ∧
          (State.alertingToOffers s).radio.receiverOn = s.radio.receiverOn ∧ (State.alertingToOffers s).radio.channel = s.radio.channel ∧
          (State.alertingToOffers s).radio.output = s.radio.output := by
  unfold State.alertingToOffers; (repeat' split) <;> simp

@[simp] theorem State.emptyAll_fields (ns : List (Fin 16)) (s : State) :
    (State.emptyAll ns s).path.asel = s.path.asel ∧ (State.emptyAll ns s).path.inReset = s.path.inReset ∧
          (State.emptyAll ns s).path.buffer = s.path.buffer ∧ (State.emptyAll ns s).path.drain = s.path.drain ∧
          (State.emptyAll ns s).path.under = s.path.under ∧ (State.emptyAll ns s).path.internal = s.path.internal ∧
          (State.emptyAll ns s).path.fairness = s.path.fairness ∧ (State.emptyAll ns s).path.resetDrain = s.path.resetDrain ∧
          (State.emptyAll ns s).path.held = s.path.held ∧ (State.emptyAll ns s).path.answer = s.path.answer := by
  induction ns generalizing s with
  | nil => simp [State.emptyAll]
  | cons c cs ih => simp [State.emptyAll, ih]

@[simp] theorem State.closeOffers_fields (s : State) :
    (State.closeOffers s).path.asel = s.path.asel ∧ (State.closeOffers s).path.inReset = s.path.inReset ∧
          (State.closeOffers s).path.buffer = s.path.buffer ∧ (State.closeOffers s).path.drain = s.path.drain ∧
          (State.closeOffers s).path.under = s.path.under ∧ (State.closeOffers s).path.internal = s.path.internal ∧
          (State.closeOffers s).path.fairness = s.path.fairness ∧ (State.closeOffers s).path.resetDrain = s.path.resetDrain ∧
          (State.closeOffers s).path.held = s.path.held ∧ (State.closeOffers s).path.answer = s.path.answer ∧
          (State.closeOffers s).sched.joinPlace = s.sched.joinPlace ∧ (State.closeOffers s).sched.joinAttempts = s.sched.joinAttempts ∧
          (State.closeOffers s).sched.alertPlace = s.sched.alertPlace ∧
          (State.closeOffers s).sched.alertAttempts = s.sched.alertAttempts ∧ (State.closeOffers s).sched.acks = s.sched.acks ∧
          (State.closeOffers s).sched.flowPlace = s.sched.flowPlace ∧ (State.closeOffers s).sched.slotRequest = s.sched.slotRequest ∧
          (State.closeOffers s).sched.statusPlace = s.sched.statusPlace ∧ (State.closeOffers s).sched.long = s.sched.long ∧
          (State.closeOffers s).sched.requests = s.sched.requests ∧ (State.closeOffers s).sched.grant = s.sched.grant ∧
          (State.closeOffers s).sched.draws = s.sched.draws ∧ (State.closeOffers s).sched.seed = s.sched.seed ∧
          (State.closeOffers s).radio.receiverOn = s.radio.receiverOn ∧ (State.closeOffers s).radio.channel = s.radio.channel ∧
          (State.closeOffers s).radio.output = s.radio.output := by
  unfold State.closeOffers; dsimp only; (repeat' split) <;> simp <;> (repeat' split) <;> simp

@[simp] theorem State.softResetEntry_fields (n : Fin 16) (s : State) :
    (State.softResetEntry n s).path.asel = s.path.asel ∧ (State.softResetEntry n s).path.inReset = s.path.inReset ∧
          (State.softResetEntry n s).path.buffer = s.path.buffer ∧ (State.softResetEntry n s).path.drain = s.path.drain ∧
          (State.softResetEntry n s).path.under = s.path.under ∧ (State.softResetEntry n s).path.internal = s.path.internal ∧
          (State.softResetEntry n s).path.fairness = s.path.fairness ∧ (State.softResetEntry n s).path.resetDrain = s.path.resetDrain ∧
          (State.softResetEntry n s).path.held = s.path.held ∧ (State.softResetEntry n s).path.answer = s.path.answer := by
  unfold State.softResetEntry; (repeat' split) <;> simp

@[simp] theorem State.softResetOffers_fields (s : State) :
    (State.softResetOffers s).path.asel = s.path.asel ∧ (State.softResetOffers s).path.inReset = s.path.inReset ∧
          (State.softResetOffers s).path.buffer = s.path.buffer ∧ (State.softResetOffers s).path.drain = s.path.drain ∧
          (State.softResetOffers s).path.under = s.path.under ∧ (State.softResetOffers s).path.internal = s.path.internal ∧
          (State.softResetOffers s).path.fairness = s.path.fairness ∧ (State.softResetOffers s).path.resetDrain = s.path.resetDrain ∧
          (State.softResetOffers s).path.held = s.path.held ∧ (State.softResetOffers s).path.answer = s.path.answer := by
  simp [State.softResetOffers, allEntries]

@[simp] theorem State.setRing_fields (i : RingId) (r : Ring) (s : State) :
    (State.setRing i r s).msgs.flight = s.msgs.flight ∧ (State.setRing i r s).msgs.buffer0 = s.msgs.buffer0 ∧
          (State.setRing i r s).msgs.buffer1 = s.msgs.buffer1 ∧ (State.setRing i r s).msgs.stamp = s.msgs.stamp ∧
          (State.setRing i r s).msgs.deposit = s.msgs.deposit ∧ (State.setRing i r s).msgs.delivered = s.msgs.delivered ∧
          (State.setRing i r s).msgs.paused = s.msgs.paused ∧ (State.setRing i r s).msgs.pauseAt = s.msgs.pauseAt ∧
          (State.setRing i r s).msgs.resumeAt = s.msgs.resumeAt ∧ (State.setRing i r s).msgs.lastOut = s.msgs.lastOut := by
  unfold State.setRing; (repeat' split) <;> simp

@[simp] theorem State.moveOwn_fields (i : RingId) (p : Nat) (s : State) :
    (State.moveOwn i p s).msgs.flight = s.msgs.flight ∧ (State.moveOwn i p s).msgs.buffer0 = s.msgs.buffer0 ∧
          (State.moveOwn i p s).msgs.buffer1 = s.msgs.buffer1 ∧ (State.moveOwn i p s).msgs.stamp = s.msgs.stamp ∧
          (State.moveOwn i p s).msgs.deposit = s.msgs.deposit ∧ (State.moveOwn i p s).msgs.delivered = s.msgs.delivered ∧
          (State.moveOwn i p s).msgs.paused = s.msgs.paused ∧ (State.moveOwn i p s).msgs.pauseAt = s.msgs.pauseAt ∧
          (State.moveOwn i p s).msgs.resumeAt = s.msgs.resumeAt ∧ (State.moveOwn i p s).msgs.lastOut = s.msgs.lastOut := by
  unfold State.moveOwn; (repeat' split) <;> simp

@[simp] theorem State.changeTotals_fields (f : Totals → Totals) (s : State) :
    (State.changeTotals f s).trips.trip = s.trips.trip ∧ (State.changeTotals f s).trips.counter = s.trips.counter ∧
          (State.changeTotals f s).trips.components = s.trips.components ∧ (State.changeTotals f s).trips.silence = s.trips.silence ∧
          (State.changeTotals f s).trips.lastFault = s.trips.lastFault ∧ (State.changeTotals f s).trips.lastRef = s.trips.lastRef ∧
          (State.changeTotals f s).trips.deposit = s.trips.deposit ∧ (State.changeTotals f s).trips.pendingLog = s.trips.pendingLog ∧
          (State.changeTotals f s).trips.reports = s.trips.reports ∧ (State.changeTotals f s).trips.abandoned = s.trips.abandoned ∧
          (State.changeTotals f s).trips.shiftReport = s.trips.shiftReport ∧ (State.changeTotals f s).trips.captured = s.trips.captured ∧
          (State.changeTotals f s).trips.meterCopy = s.trips.meterCopy ∧
          (State.changeTotals f s).trips.totalsCopy = s.trips.totalsCopy := by
  unfold State.changeTotals; (repeat' split) <;> simp

@[simp] theorem State.changeTotalsFor_fields (r : TripRef) (f : Totals → Totals) (s : State) :
    (State.changeTotalsFor r f s).trips.trip = s.trips.trip ∧ (State.changeTotalsFor r f s).trips.counter = s.trips.counter ∧
          (State.changeTotalsFor r f s).trips.components = s.trips.components ∧
          (State.changeTotalsFor r f s).trips.silence = s.trips.silence ∧
          (State.changeTotalsFor r f s).trips.lastFault = s.trips.lastFault ∧
          (State.changeTotalsFor r f s).trips.lastRef = s.trips.lastRef ∧ (State.changeTotalsFor r f s).trips.deposit = s.trips.deposit ∧
          (State.changeTotalsFor r f s).trips.pendingLog = s.trips.pendingLog ∧
          (State.changeTotalsFor r f s).trips.reports = s.trips.reports ∧
          (State.changeTotalsFor r f s).trips.abandoned = s.trips.abandoned ∧
          (State.changeTotalsFor r f s).trips.shiftReport = s.trips.shiftReport ∧
          (State.changeTotalsFor r f s).trips.captured = s.trips.captured ∧
          (State.changeTotalsFor r f s).trips.meterCopy = s.trips.meterCopy ∧
          (State.changeTotalsFor r f s).trips.totalsCopy = s.trips.totalsCopy := by
  unfold State.changeTotalsFor; (repeat' split) <;> simp

@[simp] theorem State.abandonReport_fields (r : TripRef) (s : State) :
    (State.abandonReport r s).trips.trip = s.trips.trip ∧ (State.abandonReport r s).trips.counter = s.trips.counter ∧
          (State.abandonReport r s).trips.components = s.trips.components ∧ (State.abandonReport r s).trips.silence = s.trips.silence ∧
          (State.abandonReport r s).trips.lastFault = s.trips.lastFault ∧ (State.abandonReport r s).trips.lastRef = s.trips.lastRef ∧
          (State.abandonReport r s).trips.deposit = s.trips.deposit ∧ (State.abandonReport r s).trips.pendingLog = s.trips.pendingLog ∧
          (State.abandonReport r s).trips.shiftReport = s.trips.shiftReport ∧
          (State.abandonReport r s).trips.captured = s.trips.captured ∧ (State.abandonReport r s).trips.meterCopy = s.trips.meterCopy ∧
          (State.abandonReport r s).trips.totalsCopy = s.trips.totalsCopy ∧
          (State.abandonReport r s).radio.receiverOn = s.radio.receiverOn ∧ (State.abandonReport r s).radio.channel = s.radio.channel ∧
          (State.abandonReport r s).radio.output = s.radio.output ∧ (State.abandonReport r s).page.enables = s.page.enables ∧
          (State.abandonReport r s).page.counters = s.page.counters ∧ (State.abandonReport r s).page.linkUp = s.page.linkUp ∧
          (State.abandonReport r s).page.statusCopy = s.page.statusCopy ∧ (State.abandonReport r s).page.shiftCopy = s.page.shiftCopy ∧
          (State.abandonReport r s).page.powerCopy = s.page.powerCopy ∧ (State.abandonReport r s).page.enableCopy = s.page.enableCopy ∧
          (State.abandonReport r s).pins.emswClosed = s.pins.emswClosed ∧ (State.abandonReport r s).pins.ign = s.pins.ign ∧
          (State.abandonReport r s).pins.lampHire = s.pins.lampHire ∧ (State.abandonReport r s).pins.lampCall = s.pins.lampCall ∧
          (State.abandonReport r s).pins.lampAlarm = s.pins.lampAlarm ∧ (State.abandonReport r s).pins.wake = s.pins.wake := by
  unfold State.abandonReport; (repeat' split) <;> simp

@[simp] theorem State.makeRoomForReport_fields (s : State) :
    (State.makeRoomForReport s).trips.trip = s.trips.trip ∧ (State.makeRoomForReport s).trips.counter = s.trips.counter ∧
          (State.makeRoomForReport s).trips.components = s.trips.components ∧
          (State.makeRoomForReport s).trips.silence = s.trips.silence ∧ (State.makeRoomForReport s).trips.lastFault = s.trips.lastFault ∧
          (State.makeRoomForReport s).trips.lastRef = s.trips.lastRef ∧ (State.makeRoomForReport s).trips.deposit = s.trips.deposit ∧
          (State.makeRoomForReport s).trips.pendingLog = s.trips.pendingLog ∧
          (State.makeRoomForReport s).trips.shiftReport = s.trips.shiftReport ∧
          (State.makeRoomForReport s).trips.captured = s.trips.captured ∧
          (State.makeRoomForReport s).trips.meterCopy = s.trips.meterCopy ∧
          (State.makeRoomForReport s).trips.totalsCopy = s.trips.totalsCopy ∧
          (State.makeRoomForReport s).radio.receiverOn = s.radio.receiverOn ∧
          (State.makeRoomForReport s).radio.channel = s.radio.channel ∧ (State.makeRoomForReport s).radio.output = s.radio.output ∧
          (State.makeRoomForReport s).page.enables = s.page.enables ∧ (State.makeRoomForReport s).page.counters = s.page.counters ∧
          (State.makeRoomForReport s).page.linkUp = s.page.linkUp ∧ (State.makeRoomForReport s).page.statusCopy = s.page.statusCopy ∧
          (State.makeRoomForReport s).page.shiftCopy = s.page.shiftCopy ∧ (State.makeRoomForReport s).page.powerCopy = s.page.powerCopy ∧
          (State.makeRoomForReport s).page.enableCopy = s.page.enableCopy ∧
          (State.makeRoomForReport s).pins.emswClosed = s.pins.emswClosed ∧ (State.makeRoomForReport s).pins.ign = s.pins.ign ∧
          (State.makeRoomForReport s).pins.lampHire = s.pins.lampHire ∧ (State.makeRoomForReport s).pins.lampCall = s.pins.lampCall ∧
          (State.makeRoomForReport s).pins.lampAlarm = s.pins.lampAlarm ∧ (State.makeRoomForReport s).pins.wake = s.pins.wake := by
  unfold State.makeRoomForReport; (repeat' split) <;> simp

@[simp] theorem State.listReport_fields (r : TripRecord) (s : State) :
    (State.listReport r s).trips.trip = s.trips.trip ∧ (State.listReport r s).trips.counter = s.trips.counter ∧
          (State.listReport r s).trips.components = s.trips.components ∧ (State.listReport r s).trips.silence = s.trips.silence ∧
          (State.listReport r s).trips.lastFault = s.trips.lastFault ∧ (State.listReport r s).trips.lastRef = s.trips.lastRef ∧
          (State.listReport r s).trips.deposit = s.trips.deposit ∧ (State.listReport r s).trips.pendingLog = s.trips.pendingLog ∧
          (State.listReport r s).trips.shiftReport = s.trips.shiftReport ∧ (State.listReport r s).trips.captured = s.trips.captured ∧
          (State.listReport r s).trips.meterCopy = s.trips.meterCopy ∧ (State.listReport r s).trips.totalsCopy = s.trips.totalsCopy ∧
          (State.listReport r s).radio.receiverOn = s.radio.receiverOn ∧ (State.listReport r s).radio.channel = s.radio.channel ∧
          (State.listReport r s).radio.output = s.radio.output ∧ (State.listReport r s).page.enables = s.page.enables ∧
          (State.listReport r s).page.counters = s.page.counters ∧ (State.listReport r s).page.linkUp = s.page.linkUp ∧
          (State.listReport r s).page.statusCopy = s.page.statusCopy ∧ (State.listReport r s).page.shiftCopy = s.page.shiftCopy ∧
          (State.listReport r s).page.powerCopy = s.page.powerCopy ∧ (State.listReport r s).page.enableCopy = s.page.enableCopy ∧
          (State.listReport r s).pins.emswClosed = s.pins.emswClosed ∧ (State.listReport r s).pins.ign = s.pins.ign ∧
          (State.listReport r s).pins.lampHire = s.pins.lampHire ∧ (State.listReport r s).pins.lampCall = s.pins.lampCall ∧
          (State.listReport r s).pins.lampAlarm = s.pins.lampAlarm ∧ (State.listReport r s).pins.wake = s.pins.wake := by
  unfold State.listReport; dsimp only; (repeat' split) <;> simp <;> (repeat' split) <;> simp

@[simp] theorem State.beginTripDeposit_fields (r : TripRecord) (p : Deposit) (s : State) :
    (State.beginTripDeposit r p s).trips.trip = s.trips.trip ∧ (State.beginTripDeposit r p s).trips.counter = s.trips.counter ∧
          (State.beginTripDeposit r p s).trips.components = s.trips.components ∧
          (State.beginTripDeposit r p s).trips.silence = s.trips.silence ∧
          (State.beginTripDeposit r p s).trips.lastFault = s.trips.lastFault ∧
          (State.beginTripDeposit r p s).trips.lastRef = s.trips.lastRef ∧
          (State.beginTripDeposit r p s).trips.pendingLog = s.trips.pendingLog ∧
          (State.beginTripDeposit r p s).trips.reports = s.trips.reports ∧
          (State.beginTripDeposit r p s).trips.abandoned = s.trips.abandoned ∧
          (State.beginTripDeposit r p s).trips.shiftReport = s.trips.shiftReport ∧
          (State.beginTripDeposit r p s).trips.totals = s.trips.totals ∧
          (State.beginTripDeposit r p s).trips.captured = s.trips.captured ∧
          (State.beginTripDeposit r p s).trips.meterCopy = s.trips.meterCopy ∧
          (State.beginTripDeposit r p s).trips.totalsCopy = s.trips.totalsCopy ∧ (State.beginTripDeposit r p s).path.asel = s.path.asel ∧
          (State.beginTripDeposit r p s).path.inReset = s.path.inReset ∧ (State.beginTripDeposit r p s).path.buffer = s.path.buffer ∧
          (State.beginTripDeposit r p s).path.drain = s.path.drain ∧ (State.beginTripDeposit r p s).path.under = s.path.under ∧
          (State.beginTripDeposit r p s).path.internal = s.path.internal ∧
          (State.beginTripDeposit r p s).path.fairness = s.path.fairness ∧
          (State.beginTripDeposit r p s).path.resetDrain = s.path.resetDrain ∧ (State.beginTripDeposit r p s).path.held = s.path.held ∧
          (State.beginTripDeposit r p s).path.answer = s.path.answer := by
  unfold State.beginTripDeposit; (repeat' split) <;> simp

@[simp] theorem State.pendRecord_fields (r : TripRecord) (s : State) :
    (State.pendRecord r s).trips.trip = s.trips.trip ∧ (State.pendRecord r s).trips.counter = s.trips.counter ∧
          (State.pendRecord r s).trips.components = s.trips.components ∧ (State.pendRecord r s).trips.silence = s.trips.silence ∧
          (State.pendRecord r s).trips.lastFault = s.trips.lastFault ∧ (State.pendRecord r s).trips.lastRef = s.trips.lastRef ∧
          (State.pendRecord r s).trips.deposit = s.trips.deposit ∧ (State.pendRecord r s).trips.reports = s.trips.reports ∧
          (State.pendRecord r s).trips.abandoned = s.trips.abandoned ∧ (State.pendRecord r s).trips.shiftReport = s.trips.shiftReport ∧
          (State.pendRecord r s).trips.captured = s.trips.captured ∧ (State.pendRecord r s).trips.meterCopy = s.trips.meterCopy ∧
          (State.pendRecord r s).trips.totalsCopy = s.trips.totalsCopy := by
  unfold State.pendRecord; (repeat' split) <;> simp

@[simp] theorem State.offerToLog_fields (r : TripRecord) (s : State) :
    (State.offerToLog r s).trips.trip = s.trips.trip ∧ (State.offerToLog r s).trips.counter = s.trips.counter ∧
          (State.offerToLog r s).trips.components = s.trips.components ∧ (State.offerToLog r s).trips.silence = s.trips.silence ∧
          (State.offerToLog r s).trips.lastFault = s.trips.lastFault ∧ (State.offerToLog r s).trips.lastRef = s.trips.lastRef ∧
          (State.offerToLog r s).trips.reports = s.trips.reports ∧ (State.offerToLog r s).trips.abandoned = s.trips.abandoned ∧
          (State.offerToLog r s).trips.shiftReport = s.trips.shiftReport ∧ (State.offerToLog r s).trips.captured = s.trips.captured ∧
          (State.offerToLog r s).trips.meterCopy = s.trips.meterCopy ∧ (State.offerToLog r s).trips.totalsCopy = s.trips.totalsCopy ∧
          (State.offerToLog r s).path.asel = s.path.asel ∧ (State.offerToLog r s).path.inReset = s.path.inReset ∧
          (State.offerToLog r s).path.buffer = s.path.buffer ∧ (State.offerToLog r s).path.drain = s.path.drain ∧
          (State.offerToLog r s).path.under = s.path.under ∧ (State.offerToLog r s).path.internal = s.path.internal ∧
          (State.offerToLog r s).path.fairness = s.path.fairness ∧ (State.offerToLog r s).path.resetDrain = s.path.resetDrain ∧
          (State.offerToLog r s).path.held = s.path.held ∧ (State.offerToLog r s).path.answer = s.path.answer := by
  unfold State.offerToLog; (repeat' split) <;> simp

@[simp] theorem State.servePending_fields (s : State) :
    (State.servePending s).trips.trip = s.trips.trip ∧ (State.servePending s).trips.counter = s.trips.counter ∧
          (State.servePending s).trips.components = s.trips.components ∧ (State.servePending s).trips.silence = s.trips.silence ∧
          (State.servePending s).trips.lastFault = s.trips.lastFault ∧ (State.servePending s).trips.lastRef = s.trips.lastRef ∧
          (State.servePending s).trips.reports = s.trips.reports ∧ (State.servePending s).trips.abandoned = s.trips.abandoned ∧
          (State.servePending s).trips.shiftReport = s.trips.shiftReport ∧ (State.servePending s).trips.totals = s.trips.totals ∧
          (State.servePending s).trips.captured = s.trips.captured ∧ (State.servePending s).trips.meterCopy = s.trips.meterCopy ∧
          (State.servePending s).trips.totalsCopy = s.trips.totalsCopy ∧ (State.servePending s).path.asel = s.path.asel ∧
          (State.servePending s).path.inReset = s.path.inReset ∧ (State.servePending s).path.buffer = s.path.buffer ∧
          (State.servePending s).path.drain = s.path.drain ∧ (State.servePending s).path.under = s.path.under ∧
          (State.servePending s).path.internal = s.path.internal ∧ (State.servePending s).path.fairness = s.path.fairness ∧
          (State.servePending s).path.resetDrain = s.path.resetDrain ∧ (State.servePending s).path.held = s.path.held ∧
          (State.servePending s).path.answer = s.path.answer := by
  unfold State.servePending; (repeat' split) <;> simp

@[simp] theorem State.endTripDeposit_fields (s : State) :
    (State.endTripDeposit s).trips.trip = s.trips.trip ∧ (State.endTripDeposit s).trips.counter = s.trips.counter ∧
          (State.endTripDeposit s).trips.components = s.trips.components ∧ (State.endTripDeposit s).trips.silence = s.trips.silence ∧
          (State.endTripDeposit s).trips.lastFault = s.trips.lastFault ∧ (State.endTripDeposit s).trips.lastRef = s.trips.lastRef ∧
          (State.endTripDeposit s).trips.reports = s.trips.reports ∧ (State.endTripDeposit s).trips.abandoned = s.trips.abandoned ∧
          (State.endTripDeposit s).trips.shiftReport = s.trips.shiftReport ∧ (State.endTripDeposit s).trips.totals = s.trips.totals ∧
          (State.endTripDeposit s).trips.captured = s.trips.captured ∧ (State.endTripDeposit s).trips.meterCopy = s.trips.meterCopy ∧
          (State.endTripDeposit s).trips.totalsCopy = s.trips.totalsCopy ∧ (State.endTripDeposit s).path.asel = s.path.asel ∧
          (State.endTripDeposit s).path.inReset = s.path.inReset ∧ (State.endTripDeposit s).path.buffer = s.path.buffer ∧
          (State.endTripDeposit s).path.drain = s.path.drain ∧ (State.endTripDeposit s).path.under = s.path.under ∧
          (State.endTripDeposit s).path.internal = s.path.internal ∧ (State.endTripDeposit s).path.fairness = s.path.fairness ∧
          (State.endTripDeposit s).path.resetDrain = s.path.resetDrain ∧ (State.endTripDeposit s).path.held = s.path.held ∧
          (State.endTripDeposit s).path.answer = s.path.answer ∧ (State.endTripDeposit s).msgs.flight = s.msgs.flight ∧
          (State.endTripDeposit s).msgs.buffer0 = s.msgs.buffer0 ∧ (State.endTripDeposit s).msgs.buffer1 = s.msgs.buffer1 ∧
          (State.endTripDeposit s).msgs.stamp = s.msgs.stamp ∧ (State.endTripDeposit s).msgs.deposit = s.msgs.deposit ∧
          (State.endTripDeposit s).msgs.delivered = s.msgs.delivered ∧ (State.endTripDeposit s).msgs.paused = s.msgs.paused ∧
          (State.endTripDeposit s).msgs.pauseAt = s.msgs.pauseAt ∧ (State.endTripDeposit s).msgs.resumeAt = s.msgs.resumeAt ∧
          (State.endTripDeposit s).msgs.lastOut = s.msgs.lastOut ∧ (State.endTripDeposit s).page.enables = s.page.enables ∧
          (State.endTripDeposit s).page.counters = s.page.counters ∧ (State.endTripDeposit s).page.linkUp = s.page.linkUp ∧
          (State.endTripDeposit s).page.statusCopy = s.page.statusCopy ∧ (State.endTripDeposit s).page.shiftCopy = s.page.shiftCopy ∧
          (State.endTripDeposit s).page.powerCopy = s.page.powerCopy ∧ (State.endTripDeposit s).page.enableCopy = s.page.enableCopy ∧
          (State.endTripDeposit s).pins.emswClosed = s.pins.emswClosed ∧ (State.endTripDeposit s).pins.ign = s.pins.ign ∧
          (State.endTripDeposit s).pins.lampHire = s.pins.lampHire ∧ (State.endTripDeposit s).pins.lampCall = s.pins.lampCall ∧
          (State.endTripDeposit s).pins.lampAlarm = s.pins.lampAlarm ∧ (State.endTripDeposit s).pins.wake = s.pins.wake := by
  unfold State.endTripDeposit; (repeat' split) <;> simp

@[simp] theorem State.loadTotalsCopy_fields (s : State) :
    (State.loadTotalsCopy s).trips.trip = s.trips.trip ∧ (State.loadTotalsCopy s).trips.counter = s.trips.counter ∧
          (State.loadTotalsCopy s).trips.components = s.trips.components ∧ (State.loadTotalsCopy s).trips.silence = s.trips.silence ∧
          (State.loadTotalsCopy s).trips.lastFault = s.trips.lastFault ∧ (State.loadTotalsCopy s).trips.lastRef = s.trips.lastRef ∧
          (State.loadTotalsCopy s).trips.deposit = s.trips.deposit ∧ (State.loadTotalsCopy s).trips.pendingLog = s.trips.pendingLog ∧
          (State.loadTotalsCopy s).trips.reports = s.trips.reports ∧ (State.loadTotalsCopy s).trips.abandoned = s.trips.abandoned ∧
          (State.loadTotalsCopy s).trips.shiftReport = s.trips.shiftReport ∧ (State.loadTotalsCopy s).trips.totals = s.trips.totals ∧
          (State.loadTotalsCopy s).trips.captured = s.trips.captured ∧ (State.loadTotalsCopy s).trips.meterCopy = s.trips.meterCopy := by
  unfold State.loadTotalsCopy; (repeat' split) <;> simp

@[simp] theorem State.openShift_fields (d : Word) (b : Bool) (s : State) :
    (State.openShift d b s).status.status = s.status.status ∧ (State.openShift d b s).status.zone = s.status.zone ∧
          (State.openShift d b s).status.position = s.status.position ∧ (State.openShift d b s).status.lampMap = s.status.lampMap ∧
          (State.openShift d b s).status.alarmEnabled = s.status.alarmEnabled ∧
          (State.openShift d b s).status.flashOn = s.status.flashOn ∧ (State.openShift d b s).status.alarmOn = s.status.alarmOn ∧
          (State.openShift d b s).status.driverCopy = s.status.driverCopy ∧
          (State.openShift d b s).status.firstCopy = s.status.firstCopy ∧
          (State.openShift d b s).status.secondCopy = s.status.secondCopy ∧
          (State.openShift d b s).status.pendingFirst = s.status.pendingFirst ∧
          (State.openShift d b s).status.statusResult = s.status.statusResult ∧
          (State.openShift d b s).status.shiftResult = s.status.shiftResult ∧ (State.openShift d b s).trips.trip = s.trips.trip ∧
          (State.openShift d b s).trips.components = s.trips.components ∧ (State.openShift d b s).trips.silence = s.trips.silence ∧
          (State.openShift d b s).trips.lastFault = s.trips.lastFault ∧ (State.openShift d b s).trips.lastRef = s.trips.lastRef ∧
          (State.openShift d b s).trips.deposit = s.trips.deposit ∧ (State.openShift d b s).trips.pendingLog = s.trips.pendingLog ∧
          (State.openShift d b s).trips.reports = s.trips.reports ∧ (State.openShift d b s).trips.abandoned = s.trips.abandoned ∧
          (State.openShift d b s).trips.shiftReport = s.trips.shiftReport ∧ (State.openShift d b s).trips.captured = s.trips.captured ∧
          (State.openShift d b s).trips.meterCopy = s.trips.meterCopy := by
  unfold State.openShift; (repeat' split) <;> simp

@[simp] theorem State.closeTotals_fields (s : State) :
    (State.closeTotals s).trips.trip = s.trips.trip ∧ (State.closeTotals s).trips.counter = s.trips.counter ∧
          (State.closeTotals s).trips.components = s.trips.components ∧ (State.closeTotals s).trips.silence = s.trips.silence ∧
          (State.closeTotals s).trips.lastFault = s.trips.lastFault ∧ (State.closeTotals s).trips.lastRef = s.trips.lastRef ∧
          (State.closeTotals s).trips.deposit = s.trips.deposit ∧ (State.closeTotals s).trips.pendingLog = s.trips.pendingLog ∧
          (State.closeTotals s).trips.reports = s.trips.reports ∧ (State.closeTotals s).trips.abandoned = s.trips.abandoned ∧
          (State.closeTotals s).trips.totals = s.trips.totals ∧ (State.closeTotals s).trips.meterCopy = s.trips.meterCopy ∧
          (State.closeTotals s).trips.totalsCopy = s.trips.totalsCopy ∧ (State.closeTotals s).radio.receiverOn = s.radio.receiverOn ∧
          (State.closeTotals s).radio.channel = s.radio.channel ∧ (State.closeTotals s).radio.output = s.radio.output ∧
          (State.closeTotals s).path.asel = s.path.asel ∧ (State.closeTotals s).path.inReset = s.path.inReset ∧
          (State.closeTotals s).path.buffer = s.path.buffer ∧ (State.closeTotals s).path.drain = s.path.drain ∧
          (State.closeTotals s).path.under = s.path.under ∧ (State.closeTotals s).path.internal = s.path.internal ∧
          (State.closeTotals s).path.fairness = s.path.fairness ∧ (State.closeTotals s).path.resetDrain = s.path.resetDrain ∧
          (State.closeTotals s).path.held = s.path.held ∧ (State.closeTotals s).path.answer = s.path.answer ∧
          (State.closeTotals s).page.enables = s.page.enables ∧ (State.closeTotals s).page.counters = s.page.counters ∧
          (State.closeTotals s).page.linkUp = s.page.linkUp ∧ (State.closeTotals s).page.statusCopy = s.page.statusCopy ∧
          (State.closeTotals s).page.shiftCopy = s.page.shiftCopy ∧ (State.closeTotals s).page.powerCopy = s.page.powerCopy ∧
          (State.closeTotals s).page.enableCopy = s.page.enableCopy ∧ (State.closeTotals s).pins.emswClosed = s.pins.emswClosed ∧
          (State.closeTotals s).pins.ign = s.pins.ign ∧ (State.closeTotals s).pins.lampHire = s.pins.lampHire ∧
          (State.closeTotals s).pins.lampCall = s.pins.lampCall ∧ (State.closeTotals s).pins.lampAlarm = s.pins.lampAlarm ∧
          (State.closeTotals s).pins.wake = s.pins.wake ∧ (State.closeTotals s).sched.joinPlace = s.sched.joinPlace ∧
          (State.closeTotals s).sched.joinAttempts = s.sched.joinAttempts ∧ (State.closeTotals s).sched.alertPlace = s.sched.alertPlace ∧
          (State.closeTotals s).sched.alertAttempts = s.sched.alertAttempts ∧ (State.closeTotals s).sched.acks = s.sched.acks ∧
          (State.closeTotals s).sched.bids = s.sched.bids ∧ (State.closeTotals s).sched.flowPlace = s.sched.flowPlace ∧
          (State.closeTotals s).sched.statusPlace = s.sched.statusPlace ∧ (State.closeTotals s).sched.requests = s.sched.requests ∧
          (State.closeTotals s).sched.grant = s.sched.grant ∧ (State.closeTotals s).sched.draws = s.sched.draws ∧
          (State.closeTotals s).sched.seed = s.sched.seed := by
  unfold State.closeTotals; dsimp only; (repeat' split) <;> simp <;> (repeat' split) <;> simp

@[simp] theorem State.restartSilence_fields (s : State) :
    (State.restartSilence s).trips.trip = s.trips.trip ∧ (State.restartSilence s).trips.counter = s.trips.counter ∧
          (State.restartSilence s).trips.components = s.trips.components ∧ (State.restartSilence s).trips.lastFault = s.trips.lastFault ∧
          (State.restartSilence s).trips.lastRef = s.trips.lastRef ∧ (State.restartSilence s).trips.deposit = s.trips.deposit ∧
          (State.restartSilence s).trips.pendingLog = s.trips.pendingLog ∧ (State.restartSilence s).trips.reports = s.trips.reports ∧
          (State.restartSilence s).trips.abandoned = s.trips.abandoned ∧
          (State.restartSilence s).trips.shiftReport = s.trips.shiftReport ∧ (State.restartSilence s).trips.totals = s.trips.totals ∧
          (State.restartSilence s).trips.captured = s.trips.captured ∧ (State.restartSilence s).trips.meterCopy = s.trips.meterCopy ∧
          (State.restartSilence s).trips.totalsCopy = s.trips.totalsCopy := by
  unfold State.restartSilence; (repeat' split) <;> simp

@[simp] theorem State.changeTrip_fields (f : OpenTrip → OpenTrip) (s : State) :
    (State.changeTrip f s).trips.counter = s.trips.counter ∧ (State.changeTrip f s).trips.components = s.trips.components ∧
          (State.changeTrip f s).trips.silence = s.trips.silence ∧ (State.changeTrip f s).trips.lastFault = s.trips.lastFault ∧
          (State.changeTrip f s).trips.lastRef = s.trips.lastRef ∧ (State.changeTrip f s).trips.deposit = s.trips.deposit ∧
          (State.changeTrip f s).trips.pendingLog = s.trips.pendingLog ∧ (State.changeTrip f s).trips.reports = s.trips.reports ∧
          (State.changeTrip f s).trips.abandoned = s.trips.abandoned ∧ (State.changeTrip f s).trips.shiftReport = s.trips.shiftReport ∧
          (State.changeTrip f s).trips.totals = s.trips.totals ∧ (State.changeTrip f s).trips.captured = s.trips.captured ∧
          (State.changeTrip f s).trips.meterCopy = s.trips.meterCopy ∧ (State.changeTrip f s).trips.totalsCopy = s.trips.totalsCopy := by
  unfold State.changeTrip; (repeat' split) <;> simp

@[simp] theorem State.markTripEmergency_fields (s : State) :
    (State.markTripEmergency s).trips.counter = s.trips.counter ∧ (State.markTripEmergency s).trips.components = s.trips.components ∧
          (State.markTripEmergency s).trips.silence = s.trips.silence ∧ (State.markTripEmergency s).trips.lastFault = s.trips.lastFault ∧
          (State.markTripEmergency s).trips.lastRef = s.trips.lastRef ∧ (State.markTripEmergency s).trips.deposit = s.trips.deposit ∧
          (State.markTripEmergency s).trips.pendingLog = s.trips.pendingLog ∧
          (State.markTripEmergency s).trips.reports = s.trips.reports ∧ (State.markTripEmergency s).trips.abandoned = s.trips.abandoned ∧
          (State.markTripEmergency s).trips.shiftReport = s.trips.shiftReport ∧
          (State.markTripEmergency s).trips.totals = s.trips.totals ∧ (State.markTripEmergency s).trips.captured = s.trips.captured ∧
          (State.markTripEmergency s).trips.meterCopy = s.trips.meterCopy ∧
          (State.markTripEmergency s).trips.totalsCopy = s.trips.totalsCopy := by
  unfold State.markTripEmergency; (repeat' split) <;> simp

@[simp] theorem State.openTrip_fields (t : Byte) (s : State) :
    (State.openTrip t s).path.asel = s.path.asel ∧ (State.openTrip t s).path.inReset = s.path.inReset ∧
          (State.openTrip t s).path.buffer = s.path.buffer ∧ (State.openTrip t s).path.drain = s.path.drain ∧
          (State.openTrip t s).path.under = s.path.under ∧ (State.openTrip t s).path.internal = s.path.internal ∧
          (State.openTrip t s).path.fairness = s.path.fairness ∧ (State.openTrip t s).path.resetDrain = s.path.resetDrain ∧
          (State.openTrip t s).path.held = s.path.held ∧ (State.openTrip t s).path.answer = s.path.answer ∧
          (State.openTrip t s).trips.components = s.trips.components ∧ (State.openTrip t s).trips.lastFault = s.trips.lastFault ∧
          (State.openTrip t s).trips.lastRef = s.trips.lastRef ∧ (State.openTrip t s).trips.deposit = s.trips.deposit ∧
          (State.openTrip t s).trips.pendingLog = s.trips.pendingLog ∧ (State.openTrip t s).trips.reports = s.trips.reports ∧
          (State.openTrip t s).trips.abandoned = s.trips.abandoned ∧ (State.openTrip t s).trips.shiftReport = s.trips.shiftReport ∧
          (State.openTrip t s).trips.totals = s.trips.totals ∧ (State.openTrip t s).trips.captured = s.trips.captured ∧
          (State.openTrip t s).trips.meterCopy = s.trips.meterCopy ∧ (State.openTrip t s).trips.totalsCopy = s.trips.totalsCopy ∧
          (State.openTrip t s).status.shiftOpen = s.status.shiftOpen ∧ (State.openTrip t s).status.shiftNumber = s.status.shiftNumber ∧
          (State.openTrip t s).status.driverId = s.status.driverId ∧ (State.openTrip t s).status.meterOpened = s.status.meterOpened ∧
          (State.openTrip t s).status.zone = s.status.zone ∧ (State.openTrip t s).status.position = s.status.position ∧
          (State.openTrip t s).status.lampMap = s.status.lampMap ∧ (State.openTrip t s).status.alarmEnabled = s.status.alarmEnabled ∧
          (State.openTrip t s).status.flashOn = s.status.flashOn ∧ (State.openTrip t s).status.alarmOn = s.status.alarmOn ∧
          (State.openTrip t s).status.driverCopy = s.status.driverCopy ∧ (State.openTrip t s).status.firstCopy = s.status.firstCopy ∧
          (State.openTrip t s).status.secondCopy = s.status.secondCopy ∧
          (State.openTrip t s).status.pendingFirst = s.status.pendingFirst ∧
          (State.openTrip t s).status.statusResult = s.status.statusResult ∧
          (State.openTrip t s).status.shiftResult = s.status.shiftResult ∧ (State.openTrip t s).sched.joinPlace = s.sched.joinPlace ∧
          (State.openTrip t s).sched.joinAttempts = s.sched.joinAttempts ∧ (State.openTrip t s).sched.alertPlace = s.sched.alertPlace ∧
          (State.openTrip t s).sched.alertAttempts = s.sched.alertAttempts ∧ (State.openTrip t s).sched.acks = s.sched.acks ∧
          (State.openTrip t s).sched.bids = s.sched.bids ∧ (State.openTrip t s).sched.flowPlace = s.sched.flowPlace ∧
          (State.openTrip t s).sched.slotRequest = s.sched.slotRequest ∧ (State.openTrip t s).sched.contention = s.sched.contention ∧
          (State.openTrip t s).sched.long = s.sched.long ∧ (State.openTrip t s).sched.requests = s.sched.requests ∧
          (State.openTrip t s).sched.grant = s.sched.grant ∧ (State.openTrip t s).sched.draws = s.sched.draws ∧
          (State.openTrip t s).sched.seed = s.sched.seed ∧ (State.openTrip t s).pins.emswClosed = s.pins.emswClosed ∧
          (State.openTrip t s).pins.ign = s.pins.ign ∧ (State.openTrip t s).pins.attn = s.pins.attn ∧
          (State.openTrip t s).pins.wake = s.pins.wake := by
  unfold State.openTrip; (repeat' split) <;> simp

@[simp] theorem State.statusAfterTrip_fields (s : State) :
    (State.statusAfterTrip s).status.shiftOpen = s.status.shiftOpen ∧
          (State.statusAfterTrip s).status.shiftNumber = s.status.shiftNumber ∧
          (State.statusAfterTrip s).status.driverId = s.status.driverId ∧
          (State.statusAfterTrip s).status.meterOpened = s.status.meterOpened ∧ (State.statusAfterTrip s).status.zone = s.status.zone ∧
          (State.statusAfterTrip s).status.position = s.status.position ∧ (State.statusAfterTrip s).status.lampMap = s.status.lampMap ∧
          (State.statusAfterTrip s).status.alarmEnabled = s.status.alarmEnabled ∧
          (State.statusAfterTrip s).status.flashOn = s.status.flashOn ∧ (State.statusAfterTrip s).status.alarmOn = s.status.alarmOn ∧
          (State.statusAfterTrip s).status.driverCopy = s.status.driverCopy ∧
          (State.statusAfterTrip s).status.firstCopy = s.status.firstCopy ∧
          (State.statusAfterTrip s).status.secondCopy = s.status.secondCopy ∧
          (State.statusAfterTrip s).status.pendingFirst = s.status.pendingFirst ∧
          (State.statusAfterTrip s).status.statusResult = s.status.statusResult ∧
          (State.statusAfterTrip s).status.shiftResult = s.status.shiftResult ∧
          (State.statusAfterTrip s).sched.joinPlace = s.sched.joinPlace ∧
          (State.statusAfterTrip s).sched.joinAttempts = s.sched.joinAttempts ∧
          (State.statusAfterTrip s).sched.alertPlace = s.sched.alertPlace ∧
          (State.statusAfterTrip s).sched.alertAttempts = s.sched.alertAttempts ∧ (State.statusAfterTrip s).sched.acks = s.sched.acks ∧
          (State.statusAfterTrip s).sched.bids = s.sched.bids ∧ (State.statusAfterTrip s).sched.flowPlace = s.sched.flowPlace ∧
          (State.statusAfterTrip s).sched.slotRequest = s.sched.slotRequest ∧
          (State.statusAfterTrip s).sched.contention = s.sched.contention ∧ (State.statusAfterTrip s).sched.long = s.sched.long ∧
          (State.statusAfterTrip s).sched.requests = s.sched.requests ∧ (State.statusAfterTrip s).sched.grant = s.sched.grant ∧
          (State.statusAfterTrip s).sched.draws = s.sched.draws ∧ (State.statusAfterTrip s).sched.seed = s.sched.seed ∧
          (State.statusAfterTrip s).pins.emswClosed = s.pins.emswClosed ∧ (State.statusAfterTrip s).pins.ign = s.pins.ign ∧
          (State.statusAfterTrip s).pins.attn = s.pins.attn ∧ (State.statusAfterTrip s).pins.wake = s.pins.wake := by
  unfold State.statusAfterTrip; (repeat' split) <;> simp

@[simp] theorem State.closeTrip_fields (e : TripEnd) (s : State) :
    (State.closeTrip e s).trips.counter = s.trips.counter ∧ (State.closeTrip e s).trips.components = s.trips.components ∧
          (State.closeTrip e s).trips.lastFault = s.trips.lastFault ∧ (State.closeTrip e s).trips.shiftReport = s.trips.shiftReport ∧
          (State.closeTrip e s).trips.captured = s.trips.captured ∧ (State.closeTrip e s).trips.meterCopy = s.trips.meterCopy ∧
          (State.closeTrip e s).trips.totalsCopy = s.trips.totalsCopy ∧ (State.closeTrip e s).status.shiftOpen = s.status.shiftOpen ∧
          (State.closeTrip e s).status.shiftNumber = s.status.shiftNumber ∧ (State.closeTrip e s).status.driverId = s.status.driverId ∧
          (State.closeTrip e s).status.meterOpened = s.status.meterOpened ∧ (State.closeTrip e s).status.zone = s.status.zone ∧
          (State.closeTrip e s).status.position = s.status.position ∧ (State.closeTrip e s).status.lampMap = s.status.lampMap ∧
          (State.closeTrip e s).status.alarmEnabled = s.status.alarmEnabled ∧ (State.closeTrip e s).status.flashOn = s.status.flashOn ∧
          (State.closeTrip e s).status.alarmOn = s.status.alarmOn ∧ (State.closeTrip e s).status.driverCopy = s.status.driverCopy ∧
          (State.closeTrip e s).status.firstCopy = s.status.firstCopy ∧ (State.closeTrip e s).status.secondCopy = s.status.secondCopy ∧
          (State.closeTrip e s).status.pendingFirst = s.status.pendingFirst ∧
          (State.closeTrip e s).status.statusResult = s.status.statusResult ∧
          (State.closeTrip e s).status.shiftResult = s.status.shiftResult ∧ (State.closeTrip e s).sched.joinPlace = s.sched.joinPlace ∧
          (State.closeTrip e s).sched.joinAttempts = s.sched.joinAttempts ∧ (State.closeTrip e s).sched.alertPlace = s.sched.alertPlace ∧
          (State.closeTrip e s).sched.alertAttempts = s.sched.alertAttempts ∧ (State.closeTrip e s).sched.acks = s.sched.acks ∧
          (State.closeTrip e s).sched.bids = s.sched.bids ∧ (State.closeTrip e s).sched.flowPlace = s.sched.flowPlace ∧
          (State.closeTrip e s).sched.requests = s.sched.requests ∧ (State.closeTrip e s).sched.grant = s.sched.grant ∧
          (State.closeTrip e s).sched.draws = s.sched.draws ∧ (State.closeTrip e s).sched.seed = s.sched.seed ∧
          (State.closeTrip e s).pins.emswClosed = s.pins.emswClosed ∧ (State.closeTrip e s).pins.ign = s.pins.ign ∧
          (State.closeTrip e s).pins.wake = s.pins.wake ∧ (State.closeTrip e s).path.asel = s.path.asel ∧
          (State.closeTrip e s).path.inReset = s.path.inReset ∧ (State.closeTrip e s).path.buffer = s.path.buffer ∧
          (State.closeTrip e s).path.drain = s.path.drain ∧ (State.closeTrip e s).path.under = s.path.under ∧
          (State.closeTrip e s).path.internal = s.path.internal ∧ (State.closeTrip e s).path.fairness = s.path.fairness ∧
          (State.closeTrip e s).path.resetDrain = s.path.resetDrain ∧ (State.closeTrip e s).path.held = s.path.held ∧
          (State.closeTrip e s).path.answer = s.path.answer ∧ (State.closeTrip e s).radio.receiverOn = s.radio.receiverOn ∧
          (State.closeTrip e s).radio.channel = s.radio.channel ∧ (State.closeTrip e s).radio.output = s.radio.output ∧
          (State.closeTrip e s).page.enables = s.page.enables ∧ (State.closeTrip e s).page.counters = s.page.counters ∧
          (State.closeTrip e s).page.linkUp = s.page.linkUp ∧ (State.closeTrip e s).page.statusCopy = s.page.statusCopy ∧
          (State.closeTrip e s).page.shiftCopy = s.page.shiftCopy ∧ (State.closeTrip e s).page.powerCopy = s.page.powerCopy ∧
          (State.closeTrip e s).page.enableCopy = s.page.enableCopy := by
  unfold State.closeTrip; (repeat' split) <;> simp

@[simp] theorem State.takeHire_fields (t : Byte) (s : State) :
    (State.takeHire t s).trips.components = s.trips.components ∧ (State.takeHire t s).trips.lastFault = s.trips.lastFault ∧
          (State.takeHire t s).trips.shiftReport = s.trips.shiftReport ∧ (State.takeHire t s).trips.captured = s.trips.captured ∧
          (State.takeHire t s).trips.meterCopy = s.trips.meterCopy ∧ (State.takeHire t s).status.zone = s.status.zone ∧
          (State.takeHire t s).status.position = s.status.position ∧ (State.takeHire t s).status.lampMap = s.status.lampMap ∧
          (State.takeHire t s).status.alarmEnabled = s.status.alarmEnabled ∧ (State.takeHire t s).status.flashOn = s.status.flashOn ∧
          (State.takeHire t s).status.alarmOn = s.status.alarmOn ∧ (State.takeHire t s).status.driverCopy = s.status.driverCopy ∧
          (State.takeHire t s).status.firstCopy = s.status.firstCopy ∧ (State.takeHire t s).status.secondCopy = s.status.secondCopy ∧
          (State.takeHire t s).status.pendingFirst = s.status.pendingFirst ∧
          (State.takeHire t s).status.statusResult = s.status.statusResult ∧
          (State.takeHire t s).status.shiftResult = s.status.shiftResult ∧ (State.takeHire t s).sched.joinPlace = s.sched.joinPlace ∧
          (State.takeHire t s).sched.joinAttempts = s.sched.joinAttempts ∧ (State.takeHire t s).sched.alertPlace = s.sched.alertPlace ∧
          (State.takeHire t s).sched.alertAttempts = s.sched.alertAttempts ∧ (State.takeHire t s).sched.acks = s.sched.acks ∧
          (State.takeHire t s).sched.bids = s.sched.bids ∧ (State.takeHire t s).sched.flowPlace = s.sched.flowPlace ∧
          (State.takeHire t s).sched.requests = s.sched.requests ∧ (State.takeHire t s).sched.grant = s.sched.grant ∧
          (State.takeHire t s).sched.draws = s.sched.draws ∧ (State.takeHire t s).sched.seed = s.sched.seed ∧
          (State.takeHire t s).pins.emswClosed = s.pins.emswClosed ∧ (State.takeHire t s).pins.ign = s.pins.ign ∧
          (State.takeHire t s).pins.wake = s.pins.wake ∧ (State.takeHire t s).path.asel = s.path.asel ∧
          (State.takeHire t s).path.inReset = s.path.inReset ∧ (State.takeHire t s).path.buffer = s.path.buffer ∧
          (State.takeHire t s).path.drain = s.path.drain ∧ (State.takeHire t s).path.under = s.path.under ∧
          (State.takeHire t s).path.internal = s.path.internal ∧ (State.takeHire t s).path.fairness = s.path.fairness ∧
          (State.takeHire t s).path.resetDrain = s.path.resetDrain ∧ (State.takeHire t s).path.held = s.path.held ∧
          (State.takeHire t s).path.answer = s.path.answer ∧ (State.takeHire t s).radio.receiverOn = s.radio.receiverOn ∧
          (State.takeHire t s).radio.channel = s.radio.channel ∧ (State.takeHire t s).radio.output = s.radio.output ∧
          (State.takeHire t s).page.enables = s.page.enables ∧ (State.takeHire t s).page.counters = s.page.counters ∧
          (State.takeHire t s).page.linkUp = s.page.linkUp ∧ (State.takeHire t s).page.statusCopy = s.page.statusCopy ∧
          (State.takeHire t s).page.shiftCopy = s.page.shiftCopy ∧ (State.takeHire t s).page.powerCopy = s.page.powerCopy ∧
          (State.takeHire t s).page.enableCopy = s.page.enableCopy := by
  unfold State.takeHire; (repeat' split) <;> simp

@[simp] theorem State.takeStep_fields (c : Byte) (a : Word) (s : State) :
    (State.takeStep c a s).trips.counter = s.trips.counter ∧ (State.takeStep c a s).trips.components = s.trips.components ∧
          (State.takeStep c a s).trips.lastFault = s.trips.lastFault ∧ (State.takeStep c a s).trips.lastRef = s.trips.lastRef ∧
          (State.takeStep c a s).trips.deposit = s.trips.deposit ∧ (State.takeStep c a s).trips.pendingLog = s.trips.pendingLog ∧
          (State.takeStep c a s).trips.reports = s.trips.reports ∧ (State.takeStep c a s).trips.abandoned = s.trips.abandoned ∧
          (State.takeStep c a s).trips.shiftReport = s.trips.shiftReport ∧ (State.takeStep c a s).trips.totals = s.trips.totals ∧
          (State.takeStep c a s).trips.captured = s.trips.captured ∧ (State.takeStep c a s).trips.meterCopy = s.trips.meterCopy ∧
          (State.takeStep c a s).trips.totalsCopy = s.trips.totalsCopy := by
  unfold State.takeStep; (repeat' split) <;> simp

@[simp] theorem State.takeTariff_fields (t : Byte) (s : State) :
    (State.takeTariff t s).trips.counter = s.trips.counter ∧ (State.takeTariff t s).trips.components = s.trips.components ∧
          (State.takeTariff t s).trips.lastFault = s.trips.lastFault ∧ (State.takeTariff t s).trips.lastRef = s.trips.lastRef ∧
          (State.takeTariff t s).trips.deposit = s.trips.deposit ∧ (State.takeTariff t s).trips.pendingLog = s.trips.pendingLog ∧
          (State.takeTariff t s).trips.reports = s.trips.reports ∧ (State.takeTariff t s).trips.abandoned = s.trips.abandoned ∧
          (State.takeTariff t s).trips.shiftReport = s.trips.shiftReport ∧ (State.takeTariff t s).trips.totals = s.trips.totals ∧
          (State.takeTariff t s).trips.captured = s.trips.captured ∧ (State.takeTariff t s).trips.meterCopy = s.trips.meterCopy ∧
          (State.takeTariff t s).trips.totalsCopy = s.trips.totalsCopy := by
  unfold State.takeTariff; (repeat' split) <;> simp

@[simp] theorem State.takeStop_fields (f : DWord) (s : State) :
    (State.takeStop f s).trips.counter = s.trips.counter ∧ (State.takeStop f s).trips.components = s.trips.components ∧
          (State.takeStop f s).trips.lastFault = s.trips.lastFault ∧ (State.takeStop f s).trips.shiftReport = s.trips.shiftReport ∧
          (State.takeStop f s).trips.captured = s.trips.captured ∧ (State.takeStop f s).trips.meterCopy = s.trips.meterCopy ∧
          (State.takeStop f s).trips.totalsCopy = s.trips.totalsCopy ∧ (State.takeStop f s).status.shiftOpen = s.status.shiftOpen ∧
          (State.takeStop f s).status.shiftNumber = s.status.shiftNumber ∧ (State.takeStop f s).status.driverId = s.status.driverId ∧
          (State.takeStop f s).status.meterOpened = s.status.meterOpened ∧ (State.takeStop f s).status.zone = s.status.zone ∧
          (State.takeStop f s).status.position = s.status.position ∧ (State.takeStop f s).status.lampMap = s.status.lampMap ∧
          (State.takeStop f s).status.alarmEnabled = s.status.alarmEnabled ∧ (State.takeStop f s).status.flashOn = s.status.flashOn ∧
          (State.takeStop f s).status.alarmOn = s.status.alarmOn ∧ (State.takeStop f s).status.driverCopy = s.status.driverCopy ∧
          (State.takeStop f s).status.firstCopy = s.status.firstCopy ∧ (State.takeStop f s).status.secondCopy = s.status.secondCopy ∧
          (State.takeStop f s).status.pendingFirst = s.status.pendingFirst ∧
          (State.takeStop f s).status.statusResult = s.status.statusResult ∧
          (State.takeStop f s).status.shiftResult = s.status.shiftResult ∧ (State.takeStop f s).sched.joinPlace = s.sched.joinPlace ∧
          (State.takeStop f s).sched.joinAttempts = s.sched.joinAttempts ∧ (State.takeStop f s).sched.alertPlace = s.sched.alertPlace ∧
          (State.takeStop f s).sched.alertAttempts = s.sched.alertAttempts ∧ (State.takeStop f s).sched.acks = s.sched.acks ∧
          (State.takeStop f s).sched.bids = s.sched.bids ∧ (State.takeStop f s).sched.flowPlace = s.sched.flowPlace ∧
          (State.takeStop f s).sched.requests = s.sched.requests ∧ (State.takeStop f s).sched.grant = s.sched.grant ∧
          (State.takeStop f s).sched.draws = s.sched.draws ∧ (State.takeStop f s).sched.seed = s.sched.seed ∧
          (State.takeStop f s).pins.emswClosed = s.pins.emswClosed ∧ (State.takeStop f s).pins.ign = s.pins.ign ∧
          (State.takeStop f s).pins.wake = s.pins.wake ∧ (State.takeStop f s).path.asel = s.path.asel ∧
          (State.takeStop f s).path.inReset = s.path.inReset ∧ (State.takeStop f s).path.buffer = s.path.buffer ∧
          (State.takeStop f s).path.drain = s.path.drain ∧ (State.takeStop f s).path.under = s.path.under ∧
          (State.takeStop f s).path.internal = s.path.internal ∧ (State.takeStop f s).path.fairness = s.path.fairness ∧
          (State.takeStop f s).path.resetDrain = s.path.resetDrain ∧ (State.takeStop f s).path.held = s.path.held ∧
          (State.takeStop f s).path.answer = s.path.answer ∧ (State.takeStop f s).radio.receiverOn = s.radio.receiverOn ∧
          (State.takeStop f s).radio.channel = s.radio.channel ∧ (State.takeStop f s).radio.output = s.radio.output ∧
          (State.takeStop f s).page.enables = s.page.enables ∧ (State.takeStop f s).page.counters = s.page.counters ∧
          (State.takeStop f s).page.linkUp = s.page.linkUp ∧ (State.takeStop f s).page.statusCopy = s.page.statusCopy ∧
          (State.takeStop f s).page.shiftCopy = s.page.shiftCopy ∧ (State.takeStop f s).page.powerCopy = s.page.powerCopy ∧
          (State.takeStop f s).page.enableCopy = s.page.enableCopy := by
  unfold State.takeStop; (repeat' split) <;> simp

@[simp] theorem State.takeFault_fields (c : Byte) (s : State) :
    (State.takeFault c s).trips.counter = s.trips.counter ∧ (State.takeFault c s).trips.components = s.trips.components ∧
          (State.takeFault c s).trips.lastRef = s.trips.lastRef ∧ (State.takeFault c s).trips.deposit = s.trips.deposit ∧
          (State.takeFault c s).trips.pendingLog = s.trips.pendingLog ∧ (State.takeFault c s).trips.reports = s.trips.reports ∧
          (State.takeFault c s).trips.abandoned = s.trips.abandoned ∧ (State.takeFault c s).trips.shiftReport = s.trips.shiftReport ∧
          (State.takeFault c s).trips.totals = s.trips.totals ∧ (State.takeFault c s).trips.captured = s.trips.captured ∧
          (State.takeFault c s).trips.meterCopy = s.trips.meterCopy ∧ (State.takeFault c s).trips.totalsCopy = s.trips.totalsCopy ∧
          (State.takeFault c s).page.enables = s.page.enables ∧ (State.takeFault c s).page.counters = s.page.counters ∧
          (State.takeFault c s).page.linkUp = s.page.linkUp ∧ (State.takeFault c s).page.statusCopy = s.page.statusCopy ∧
          (State.takeFault c s).page.shiftCopy = s.page.shiftCopy ∧ (State.takeFault c s).page.powerCopy = s.page.powerCopy ∧
          (State.takeFault c s).page.enableCopy = s.page.enableCopy ∧ (State.takeFault c s).pins.emswClosed = s.pins.emswClosed ∧
          (State.takeFault c s).pins.ign = s.pins.ign ∧ (State.takeFault c s).pins.lampHire = s.pins.lampHire ∧
          (State.takeFault c s).pins.lampCall = s.pins.lampCall ∧ (State.takeFault c s).pins.lampAlarm = s.pins.lampAlarm ∧
          (State.takeFault c s).pins.wake = s.pins.wake := by
  unfold State.takeFault; (repeat' split) <;> simp

@[simp] theorem State.silenceEnds_fields (s : State) :
    (State.silenceEnds s).trips.counter = s.trips.counter ∧ (State.silenceEnds s).trips.components = s.trips.components ∧
          (State.silenceEnds s).trips.lastRef = s.trips.lastRef ∧ (State.silenceEnds s).trips.deposit = s.trips.deposit ∧
          (State.silenceEnds s).trips.pendingLog = s.trips.pendingLog ∧ (State.silenceEnds s).trips.reports = s.trips.reports ∧
          (State.silenceEnds s).trips.abandoned = s.trips.abandoned ∧ (State.silenceEnds s).trips.shiftReport = s.trips.shiftReport ∧
          (State.silenceEnds s).trips.totals = s.trips.totals ∧ (State.silenceEnds s).trips.captured = s.trips.captured ∧
          (State.silenceEnds s).trips.meterCopy = s.trips.meterCopy ∧ (State.silenceEnds s).trips.totalsCopy = s.trips.totalsCopy ∧
          (State.silenceEnds s).page.enables = s.page.enables ∧ (State.silenceEnds s).page.counters = s.page.counters ∧
          (State.silenceEnds s).page.linkUp = s.page.linkUp ∧ (State.silenceEnds s).page.statusCopy = s.page.statusCopy ∧
          (State.silenceEnds s).page.shiftCopy = s.page.shiftCopy ∧ (State.silenceEnds s).page.powerCopy = s.page.powerCopy ∧
          (State.silenceEnds s).page.enableCopy = s.page.enableCopy ∧ (State.silenceEnds s).pins.emswClosed = s.pins.emswClosed ∧
          (State.silenceEnds s).pins.ign = s.pins.ign ∧ (State.silenceEnds s).pins.lampHire = s.pins.lampHire ∧
          (State.silenceEnds s).pins.lampCall = s.pins.lampCall ∧ (State.silenceEnds s).pins.lampAlarm = s.pins.lampAlarm ∧
          (State.silenceEnds s).pins.wake = s.pins.wake := by
  unfold State.silenceEnds; (repeat' split) <;> simp

@[simp] theorem State.forceClose_fields (s : State) :
    (State.forceClose s).trips.counter = s.trips.counter ∧ (State.forceClose s).trips.components = s.trips.components ∧
          (State.forceClose s).trips.lastFault = s.trips.lastFault ∧ (State.forceClose s).trips.shiftReport = s.trips.shiftReport ∧
          (State.forceClose s).trips.captured = s.trips.captured ∧ (State.forceClose s).trips.meterCopy = s.trips.meterCopy ∧
          (State.forceClose s).trips.totalsCopy = s.trips.totalsCopy ∧ (State.forceClose s).status.shiftOpen = s.status.shiftOpen ∧
          (State.forceClose s).status.shiftNumber = s.status.shiftNumber ∧ (State.forceClose s).status.driverId = s.status.driverId ∧
          (State.forceClose s).status.meterOpened = s.status.meterOpened ∧ (State.forceClose s).status.zone = s.status.zone ∧
          (State.forceClose s).status.position = s.status.position ∧ (State.forceClose s).status.lampMap = s.status.lampMap ∧
          (State.forceClose s).status.alarmEnabled = s.status.alarmEnabled ∧ (State.forceClose s).status.flashOn = s.status.flashOn ∧
          (State.forceClose s).status.alarmOn = s.status.alarmOn ∧ (State.forceClose s).status.driverCopy = s.status.driverCopy ∧
          (State.forceClose s).status.firstCopy = s.status.firstCopy ∧ (State.forceClose s).status.secondCopy = s.status.secondCopy ∧
          (State.forceClose s).status.pendingFirst = s.status.pendingFirst ∧
          (State.forceClose s).status.statusResult = s.status.statusResult ∧
          (State.forceClose s).status.shiftResult = s.status.shiftResult ∧ (State.forceClose s).sched.joinPlace = s.sched.joinPlace ∧
          (State.forceClose s).sched.joinAttempts = s.sched.joinAttempts ∧ (State.forceClose s).sched.alertPlace = s.sched.alertPlace ∧
          (State.forceClose s).sched.alertAttempts = s.sched.alertAttempts ∧ (State.forceClose s).sched.acks = s.sched.acks ∧
          (State.forceClose s).sched.bids = s.sched.bids ∧ (State.forceClose s).sched.flowPlace = s.sched.flowPlace ∧
          (State.forceClose s).sched.requests = s.sched.requests ∧ (State.forceClose s).sched.grant = s.sched.grant ∧
          (State.forceClose s).sched.draws = s.sched.draws ∧ (State.forceClose s).sched.seed = s.sched.seed ∧
          (State.forceClose s).pins.emswClosed = s.pins.emswClosed ∧ (State.forceClose s).pins.ign = s.pins.ign ∧
          (State.forceClose s).pins.wake = s.pins.wake ∧ (State.forceClose s).path.asel = s.path.asel ∧
          (State.forceClose s).path.inReset = s.path.inReset ∧ (State.forceClose s).path.buffer = s.path.buffer ∧
          (State.forceClose s).path.drain = s.path.drain ∧ (State.forceClose s).path.under = s.path.under ∧
          (State.forceClose s).path.internal = s.path.internal ∧ (State.forceClose s).path.fairness = s.path.fairness ∧
          (State.forceClose s).path.resetDrain = s.path.resetDrain ∧ (State.forceClose s).path.held = s.path.held ∧
          (State.forceClose s).path.answer = s.path.answer ∧ (State.forceClose s).radio.receiverOn = s.radio.receiverOn ∧
          (State.forceClose s).radio.channel = s.radio.channel ∧ (State.forceClose s).radio.output = s.radio.output ∧
          (State.forceClose s).page.enables = s.page.enables ∧ (State.forceClose s).page.counters = s.page.counters ∧
          (State.forceClose s).page.linkUp = s.page.linkUp ∧ (State.forceClose s).page.statusCopy = s.page.statusCopy ∧
          (State.forceClose s).page.shiftCopy = s.page.shiftCopy ∧ (State.forceClose s).page.powerCopy = s.page.powerCopy ∧
          (State.forceClose s).page.enableCopy = s.page.enableCopy := by
  unfold State.forceClose; (repeat' split) <;> simp

@[simp] theorem State.fareSent_fields (r : TripRef) (s : State) :
    (State.fareSent r s).trips.trip = s.trips.trip ∧ (State.fareSent r s).trips.counter = s.trips.counter ∧
          (State.fareSent r s).trips.components = s.trips.components ∧ (State.fareSent r s).trips.silence = s.trips.silence ∧
          (State.fareSent r s).trips.lastFault = s.trips.lastFault ∧ (State.fareSent r s).trips.lastRef = s.trips.lastRef ∧
          (State.fareSent r s).trips.deposit = s.trips.deposit ∧ (State.fareSent r s).trips.pendingLog = s.trips.pendingLog ∧
          (State.fareSent r s).trips.abandoned = s.trips.abandoned ∧ (State.fareSent r s).trips.shiftReport = s.trips.shiftReport ∧
          (State.fareSent r s).trips.totals = s.trips.totals ∧ (State.fareSent r s).trips.captured = s.trips.captured ∧
          (State.fareSent r s).trips.meterCopy = s.trips.meterCopy ∧ (State.fareSent r s).trips.totalsCopy = s.trips.totalsCopy := by
  unfold State.fareSent; (repeat' split) <;> simp

@[simp] theorem State.shiftSent_fields (n : Word) (s : State) :
    (State.shiftSent n s).trips.trip = s.trips.trip ∧ (State.shiftSent n s).trips.counter = s.trips.counter ∧
          (State.shiftSent n s).trips.components = s.trips.components ∧ (State.shiftSent n s).trips.silence = s.trips.silence ∧
          (State.shiftSent n s).trips.lastFault = s.trips.lastFault ∧ (State.shiftSent n s).trips.lastRef = s.trips.lastRef ∧
          (State.shiftSent n s).trips.deposit = s.trips.deposit ∧ (State.shiftSent n s).trips.pendingLog = s.trips.pendingLog ∧
          (State.shiftSent n s).trips.reports = s.trips.reports ∧ (State.shiftSent n s).trips.abandoned = s.trips.abandoned ∧
          (State.shiftSent n s).trips.totals = s.trips.totals ∧ (State.shiftSent n s).trips.captured = s.trips.captured ∧
          (State.shiftSent n s).trips.meterCopy = s.trips.meterCopy ∧ (State.shiftSent n s).trips.totalsCopy = s.trips.totalsCopy := by
  unfold State.shiftSent; (repeat' split) <;> simp

@[simp] theorem State.fareRetransmit_fields (r : TripRef) (s : State) :
    (State.fareRetransmit r s).trips.trip = s.trips.trip ∧ (State.fareRetransmit r s).trips.counter = s.trips.counter ∧
          (State.fareRetransmit r s).trips.components = s.trips.components ∧ (State.fareRetransmit r s).trips.silence = s.trips.silence ∧
          (State.fareRetransmit r s).trips.lastFault = s.trips.lastFault ∧ (State.fareRetransmit r s).trips.lastRef = s.trips.lastRef ∧
          (State.fareRetransmit r s).trips.deposit = s.trips.deposit ∧ (State.fareRetransmit r s).trips.pendingLog = s.trips.pendingLog ∧
          (State.fareRetransmit r s).trips.shiftReport = s.trips.shiftReport ∧
          (State.fareRetransmit r s).trips.captured = s.trips.captured ∧ (State.fareRetransmit r s).trips.meterCopy = s.trips.meterCopy ∧
          (State.fareRetransmit r s).trips.totalsCopy = s.trips.totalsCopy ∧
          (State.fareRetransmit r s).radio.receiverOn = s.radio.receiverOn ∧ (State.fareRetransmit r s).radio.channel = s.radio.channel ∧
          (State.fareRetransmit r s).radio.output = s.radio.output ∧ (State.fareRetransmit r s).page.enables = s.page.enables ∧
          (State.fareRetransmit r s).page.counters = s.page.counters ∧ (State.fareRetransmit r s).page.linkUp = s.page.linkUp ∧
          (State.fareRetransmit r s).page.statusCopy = s.page.statusCopy ∧ (State.fareRetransmit r s).page.shiftCopy = s.page.shiftCopy ∧
          (State.fareRetransmit r s).page.powerCopy = s.page.powerCopy ∧ (State.fareRetransmit r s).page.enableCopy = s.page.enableCopy ∧
          (State.fareRetransmit r s).pins.emswClosed = s.pins.emswClosed ∧ (State.fareRetransmit r s).pins.ign = s.pins.ign ∧
          (State.fareRetransmit r s).pins.lampHire = s.pins.lampHire ∧ (State.fareRetransmit r s).pins.lampCall = s.pins.lampCall ∧
          (State.fareRetransmit r s).pins.lampAlarm = s.pins.lampAlarm ∧ (State.fareRetransmit r s).pins.wake = s.pins.wake ∧
          (State.fareRetransmit r s).sched.joinPlace = s.sched.joinPlace ∧
          (State.fareRetransmit r s).sched.joinAttempts = s.sched.joinAttempts ∧
          (State.fareRetransmit r s).sched.alertPlace = s.sched.alertPlace ∧
          (State.fareRetransmit r s).sched.alertAttempts = s.sched.alertAttempts ∧ (State.fareRetransmit r s).sched.acks = s.sched.acks ∧
          (State.fareRetransmit r s).sched.bids = s.sched.bids ∧ (State.fareRetransmit r s).sched.flowPlace = s.sched.flowPlace ∧
          (State.fareRetransmit r s).sched.statusPlace = s.sched.statusPlace ∧
          (State.fareRetransmit r s).sched.requests = s.sched.requests ∧ (State.fareRetransmit r s).sched.grant = s.sched.grant ∧
          (State.fareRetransmit r s).sched.draws = s.sched.draws ∧ (State.fareRetransmit r s).sched.seed = s.sched.seed := by
  unfold State.fareRetransmit; (repeat' split) <;> simp

@[simp] theorem State.shiftRetransmit_fields (s : State) :
    (State.shiftRetransmit s).trips.trip = s.trips.trip ∧ (State.shiftRetransmit s).trips.counter = s.trips.counter ∧
          (State.shiftRetransmit s).trips.components = s.trips.components ∧ (State.shiftRetransmit s).trips.silence = s.trips.silence ∧
          (State.shiftRetransmit s).trips.lastFault = s.trips.lastFault ∧ (State.shiftRetransmit s).trips.lastRef = s.trips.lastRef ∧
          (State.shiftRetransmit s).trips.deposit = s.trips.deposit ∧ (State.shiftRetransmit s).trips.pendingLog = s.trips.pendingLog ∧
          (State.shiftRetransmit s).trips.reports = s.trips.reports ∧ (State.shiftRetransmit s).trips.abandoned = s.trips.abandoned ∧
          (State.shiftRetransmit s).trips.totals = s.trips.totals ∧ (State.shiftRetransmit s).trips.captured = s.trips.captured ∧
          (State.shiftRetransmit s).trips.meterCopy = s.trips.meterCopy ∧
          (State.shiftRetransmit s).trips.totalsCopy = s.trips.totalsCopy ∧
          (State.shiftRetransmit s).radio.receiverOn = s.radio.receiverOn ∧ (State.shiftRetransmit s).radio.channel = s.radio.channel ∧
          (State.shiftRetransmit s).radio.output = s.radio.output ∧ (State.shiftRetransmit s).page.enables = s.page.enables ∧
          (State.shiftRetransmit s).page.counters = s.page.counters ∧ (State.shiftRetransmit s).page.linkUp = s.page.linkUp ∧
          (State.shiftRetransmit s).page.statusCopy = s.page.statusCopy ∧ (State.shiftRetransmit s).page.shiftCopy = s.page.shiftCopy ∧
          (State.shiftRetransmit s).page.powerCopy = s.page.powerCopy ∧ (State.shiftRetransmit s).page.enableCopy = s.page.enableCopy ∧
          (State.shiftRetransmit s).pins.emswClosed = s.pins.emswClosed ∧ (State.shiftRetransmit s).pins.ign = s.pins.ign ∧
          (State.shiftRetransmit s).pins.lampHire = s.pins.lampHire ∧ (State.shiftRetransmit s).pins.lampCall = s.pins.lampCall ∧
          (State.shiftRetransmit s).pins.lampAlarm = s.pins.lampAlarm ∧ (State.shiftRetransmit s).pins.wake = s.pins.wake ∧
          (State.shiftRetransmit s).sched.joinPlace = s.sched.joinPlace ∧
          (State.shiftRetransmit s).sched.joinAttempts = s.sched.joinAttempts ∧
          (State.shiftRetransmit s).sched.alertPlace = s.sched.alertPlace ∧
          (State.shiftRetransmit s).sched.alertAttempts = s.sched.alertAttempts ∧ (State.shiftRetransmit s).sched.acks = s.sched.acks ∧
          (State.shiftRetransmit s).sched.bids = s.sched.bids ∧ (State.shiftRetransmit s).sched.flowPlace = s.sched.flowPlace ∧
          (State.shiftRetransmit s).sched.statusPlace = s.sched.statusPlace ∧
          (State.shiftRetransmit s).sched.requests = s.sched.requests ∧ (State.shiftRetransmit s).sched.grant = s.sched.grant ∧
          (State.shiftRetransmit s).sched.draws = s.sched.draws ∧ (State.shiftRetransmit s).sched.seed = s.sched.seed := by
  unfold State.shiftRetransmit; (repeat' split) <;> simp

@[simp] theorem State.ackFare_fields (r : TripRef) (s : State) :
    (State.ackFare r s).trips.trip = s.trips.trip ∧ (State.ackFare r s).trips.counter = s.trips.counter ∧
          (State.ackFare r s).trips.components = s.trips.components ∧ (State.ackFare r s).trips.silence = s.trips.silence ∧
          (State.ackFare r s).trips.lastFault = s.trips.lastFault ∧ (State.ackFare r s).trips.lastRef = s.trips.lastRef ∧
          (State.ackFare r s).trips.deposit = s.trips.deposit ∧ (State.ackFare r s).trips.pendingLog = s.trips.pendingLog ∧
          (State.ackFare r s).trips.shiftReport = s.trips.shiftReport ∧ (State.ackFare r s).trips.captured = s.trips.captured ∧
          (State.ackFare r s).trips.meterCopy = s.trips.meterCopy ∧ (State.ackFare r s).trips.totalsCopy = s.trips.totalsCopy ∧
          (State.ackFare r s).radio.receiverOn = s.radio.receiverOn ∧ (State.ackFare r s).radio.channel = s.radio.channel ∧
          (State.ackFare r s).radio.output = s.radio.output ∧ (State.ackFare r s).page.enables = s.page.enables ∧
          (State.ackFare r s).page.counters = s.page.counters ∧ (State.ackFare r s).page.linkUp = s.page.linkUp ∧
          (State.ackFare r s).page.statusCopy = s.page.statusCopy ∧ (State.ackFare r s).page.shiftCopy = s.page.shiftCopy ∧
          (State.ackFare r s).page.powerCopy = s.page.powerCopy ∧ (State.ackFare r s).page.enableCopy = s.page.enableCopy ∧
          (State.ackFare r s).pins.emswClosed = s.pins.emswClosed ∧ (State.ackFare r s).pins.ign = s.pins.ign ∧
          (State.ackFare r s).pins.lampHire = s.pins.lampHire ∧ (State.ackFare r s).pins.lampCall = s.pins.lampCall ∧
          (State.ackFare r s).pins.lampAlarm = s.pins.lampAlarm ∧ (State.ackFare r s).pins.wake = s.pins.wake ∧
          (State.ackFare r s).sched.joinPlace = s.sched.joinPlace ∧ (State.ackFare r s).sched.joinAttempts = s.sched.joinAttempts ∧
          (State.ackFare r s).sched.alertPlace = s.sched.alertPlace ∧ (State.ackFare r s).sched.alertAttempts = s.sched.alertAttempts ∧
          (State.ackFare r s).sched.acks = s.sched.acks ∧ (State.ackFare r s).sched.bids = s.sched.bids ∧
          (State.ackFare r s).sched.flowPlace = s.sched.flowPlace ∧ (State.ackFare r s).sched.statusPlace = s.sched.statusPlace ∧
          (State.ackFare r s).sched.requests = s.sched.requests ∧ (State.ackFare r s).sched.grant = s.sched.grant ∧
          (State.ackFare r s).sched.draws = s.sched.draws ∧ (State.ackFare r s).sched.seed = s.sched.seed := by
  unfold State.ackFare; (repeat' split) <;> simp

@[simp] theorem State.ackShift_fields (n : Word) (s : State) :
    (State.ackShift n s).trips.trip = s.trips.trip ∧ (State.ackShift n s).trips.counter = s.trips.counter ∧
          (State.ackShift n s).trips.components = s.trips.components ∧ (State.ackShift n s).trips.silence = s.trips.silence ∧
          (State.ackShift n s).trips.lastFault = s.trips.lastFault ∧ (State.ackShift n s).trips.lastRef = s.trips.lastRef ∧
          (State.ackShift n s).trips.deposit = s.trips.deposit ∧ (State.ackShift n s).trips.pendingLog = s.trips.pendingLog ∧
          (State.ackShift n s).trips.reports = s.trips.reports ∧ (State.ackShift n s).trips.abandoned = s.trips.abandoned ∧
          (State.ackShift n s).trips.totals = s.trips.totals ∧ (State.ackShift n s).trips.captured = s.trips.captured ∧
          (State.ackShift n s).trips.meterCopy = s.trips.meterCopy ∧ (State.ackShift n s).trips.totalsCopy = s.trips.totalsCopy ∧
          (State.ackShift n s).radio.receiverOn = s.radio.receiverOn ∧ (State.ackShift n s).radio.channel = s.radio.channel ∧
          (State.ackShift n s).radio.output = s.radio.output ∧ (State.ackShift n s).page.enables = s.page.enables ∧
          (State.ackShift n s).page.counters = s.page.counters ∧ (State.ackShift n s).page.linkUp = s.page.linkUp ∧
          (State.ackShift n s).page.statusCopy = s.page.statusCopy ∧ (State.ackShift n s).page.shiftCopy = s.page.shiftCopy ∧
          (State.ackShift n s).page.powerCopy = s.page.powerCopy ∧ (State.ackShift n s).page.enableCopy = s.page.enableCopy ∧
          (State.ackShift n s).pins.emswClosed = s.pins.emswClosed ∧ (State.ackShift n s).pins.ign = s.pins.ign ∧
          (State.ackShift n s).pins.lampHire = s.pins.lampHire ∧ (State.ackShift n s).pins.lampCall = s.pins.lampCall ∧
          (State.ackShift n s).pins.lampAlarm = s.pins.lampAlarm ∧ (State.ackShift n s).pins.wake = s.pins.wake ∧
          (State.ackShift n s).sched.joinPlace = s.sched.joinPlace ∧ (State.ackShift n s).sched.joinAttempts = s.sched.joinAttempts ∧
          (State.ackShift n s).sched.alertPlace = s.sched.alertPlace ∧ (State.ackShift n s).sched.alertAttempts = s.sched.alertAttempts ∧
          (State.ackShift n s).sched.acks = s.sched.acks ∧ (State.ackShift n s).sched.bids = s.sched.bids ∧
          (State.ackShift n s).sched.flowPlace = s.sched.flowPlace ∧ (State.ackShift n s).sched.statusPlace = s.sched.statusPlace ∧
          (State.ackShift n s).sched.requests = s.sched.requests ∧ (State.ackShift n s).sched.grant = s.sched.grant ∧
          (State.ackShift n s).sched.draws = s.sched.draws ∧ (State.ackShift n s).sched.seed = s.sched.seed := by
  unfold State.ackShift; (repeat' split) <;> simp

@[simp] theorem State.returnDeposit_fields (s : State) :
    (State.returnDeposit s).trips.trip = s.trips.trip ∧ (State.returnDeposit s).trips.counter = s.trips.counter ∧
          (State.returnDeposit s).trips.components = s.trips.components ∧ (State.returnDeposit s).trips.silence = s.trips.silence ∧
          (State.returnDeposit s).trips.lastFault = s.trips.lastFault ∧ (State.returnDeposit s).trips.lastRef = s.trips.lastRef ∧
          (State.returnDeposit s).trips.reports = s.trips.reports ∧ (State.returnDeposit s).trips.abandoned = s.trips.abandoned ∧
          (State.returnDeposit s).trips.shiftReport = s.trips.shiftReport ∧ (State.returnDeposit s).trips.captured = s.trips.captured ∧
          (State.returnDeposit s).trips.meterCopy = s.trips.meterCopy ∧ (State.returnDeposit s).trips.totalsCopy = s.trips.totalsCopy := by
  unfold State.returnDeposit; dsimp only; (repeat' split) <;> simp <;> (repeat' split) <;> simp

@[simp] theorem State.softResetTrips_fields (s : State) :
    (State.softResetTrips s).trips.trip = s.trips.trip ∧ (State.softResetTrips s).trips.counter = s.trips.counter ∧
          (State.softResetTrips s).trips.components = s.trips.components ∧ (State.softResetTrips s).trips.silence = s.trips.silence ∧
          (State.softResetTrips s).trips.lastFault = s.trips.lastFault ∧ (State.softResetTrips s).trips.lastRef = s.trips.lastRef ∧
          (State.softResetTrips s).trips.reports = s.trips.reports ∧ (State.softResetTrips s).trips.abandoned = s.trips.abandoned ∧
          (State.softResetTrips s).trips.shiftReport = s.trips.shiftReport ∧
          (State.softResetTrips s).trips.captured = s.trips.captured := by
  unfold State.softResetTrips; (repeat' split) <;> simp

@[simp] theorem State.changeFlow_fields (p : Bool) (s : State) :
    (State.changeFlow p s).msgs.outbound = s.msgs.outbound ∧ (State.changeFlow p s).msgs.inbound = s.msgs.inbound ∧
          (State.changeFlow p s).msgs.triplog = s.msgs.triplog ∧ (State.changeFlow p s).msgs.flight = s.msgs.flight ∧
          (State.changeFlow p s).msgs.buffer0 = s.msgs.buffer0 ∧ (State.changeFlow p s).msgs.buffer1 = s.msgs.buffer1 ∧
          (State.changeFlow p s).msgs.stamp = s.msgs.stamp ∧ (State.changeFlow p s).msgs.deposit = s.msgs.deposit ∧
          (State.changeFlow p s).msgs.delivered = s.msgs.delivered ∧ (State.changeFlow p s).msgs.pauseAt = s.msgs.pauseAt ∧
          (State.changeFlow p s).msgs.resumeAt = s.msgs.resumeAt ∧ (State.changeFlow p s).msgs.lastOut = s.msgs.lastOut ∧
          (State.changeFlow p s).sched.joinPlace = s.sched.joinPlace ∧ (State.changeFlow p s).sched.joinAttempts = s.sched.joinAttempts ∧
          (State.changeFlow p s).sched.alertPlace = s.sched.alertPlace ∧
          (State.changeFlow p s).sched.alertAttempts = s.sched.alertAttempts ∧ (State.changeFlow p s).sched.acks = s.sched.acks ∧
          (State.changeFlow p s).sched.bids = s.sched.bids ∧ (State.changeFlow p s).sched.slotRequest = s.sched.slotRequest ∧
          (State.changeFlow p s).sched.contention = s.sched.contention ∧ (State.changeFlow p s).sched.long = s.sched.long ∧
          (State.changeFlow p s).sched.requests = s.sched.requests ∧ (State.changeFlow p s).sched.grant = s.sched.grant ∧
          (State.changeFlow p s).sched.draws = s.sched.draws ∧ (State.changeFlow p s).sched.seed = s.sched.seed ∧
          (State.changeFlow p s).radio.receiverOn = s.radio.receiverOn ∧ (State.changeFlow p s).radio.channel = s.radio.channel ∧
          (State.changeFlow p s).radio.output = s.radio.output ∧ (State.changeFlow p s).pins.emswClosed = s.pins.emswClosed ∧
          (State.changeFlow p s).pins.ign = s.pins.ign ∧ (State.changeFlow p s).pins.attn = s.pins.attn ∧
          (State.changeFlow p s).pins.wake = s.pins.wake := by
  unfold State.changeFlow; (repeat' split) <;> simp

@[simp] theorem State.evaluateFlow_fields (s : State) :
    (State.evaluateFlow s).msgs.outbound = s.msgs.outbound ∧ (State.evaluateFlow s).msgs.inbound = s.msgs.inbound ∧
          (State.evaluateFlow s).msgs.triplog = s.msgs.triplog ∧ (State.evaluateFlow s).msgs.flight = s.msgs.flight ∧
          (State.evaluateFlow s).msgs.buffer0 = s.msgs.buffer0 ∧ (State.evaluateFlow s).msgs.buffer1 = s.msgs.buffer1 ∧
          (State.evaluateFlow s).msgs.stamp = s.msgs.stamp ∧ (State.evaluateFlow s).msgs.deposit = s.msgs.deposit ∧
          (State.evaluateFlow s).msgs.delivered = s.msgs.delivered ∧ (State.evaluateFlow s).msgs.pauseAt = s.msgs.pauseAt ∧
          (State.evaluateFlow s).msgs.resumeAt = s.msgs.resumeAt ∧ (State.evaluateFlow s).msgs.lastOut = s.msgs.lastOut ∧
          (State.evaluateFlow s).sched.joinPlace = s.sched.joinPlace ∧ (State.evaluateFlow s).sched.joinAttempts = s.sched.joinAttempts ∧
          (State.evaluateFlow s).sched.alertPlace = s.sched.alertPlace ∧
          (State.evaluateFlow s).sched.alertAttempts = s.sched.alertAttempts ∧ (State.evaluateFlow s).sched.acks = s.sched.acks ∧
          (State.evaluateFlow s).sched.bids = s.sched.bids ∧ (State.evaluateFlow s).sched.slotRequest = s.sched.slotRequest ∧
          (State.evaluateFlow s).sched.contention = s.sched.contention ∧ (State.evaluateFlow s).sched.long = s.sched.long ∧
          (State.evaluateFlow s).sched.requests = s.sched.requests ∧ (State.evaluateFlow s).sched.grant = s.sched.grant ∧
          (State.evaluateFlow s).sched.draws = s.sched.draws ∧ (State.evaluateFlow s).sched.seed = s.sched.seed ∧
          (State.evaluateFlow s).radio.receiverOn = s.radio.receiverOn ∧ (State.evaluateFlow s).radio.channel = s.radio.channel ∧
          (State.evaluateFlow s).radio.output = s.radio.output ∧ (State.evaluateFlow s).pins.emswClosed = s.pins.emswClosed ∧
          (State.evaluateFlow s).pins.ign = s.pins.ign ∧ (State.evaluateFlow s).pins.attn = s.pins.attn ∧
          (State.evaluateFlow s).pins.wake = s.pins.wake := by
  unfold State.evaluateFlow; (repeat' split) <;> simp

@[simp] theorem State.lookForRecord_fields (s : State) :
    (State.lookForRecord s).msgs.outbound = s.msgs.outbound ∧ (State.lookForRecord s).msgs.inbound = s.msgs.inbound ∧
          (State.lookForRecord s).msgs.triplog = s.msgs.triplog ∧ (State.lookForRecord s).msgs.buffer0 = s.msgs.buffer0 ∧
          (State.lookForRecord s).msgs.buffer1 = s.msgs.buffer1 ∧ (State.lookForRecord s).msgs.stamp = s.msgs.stamp ∧
          (State.lookForRecord s).msgs.deposit = s.msgs.deposit ∧ (State.lookForRecord s).msgs.delivered = s.msgs.delivered ∧
          (State.lookForRecord s).msgs.paused = s.msgs.paused ∧ (State.lookForRecord s).msgs.pauseAt = s.msgs.pauseAt ∧
          (State.lookForRecord s).msgs.resumeAt = s.msgs.resumeAt ∧ (State.lookForRecord s).msgs.lastOut = s.msgs.lastOut ∧
          (State.lookForRecord s).path.asel = s.path.asel ∧ (State.lookForRecord s).path.inReset = s.path.inReset ∧
          (State.lookForRecord s).path.buffer = s.path.buffer ∧ (State.lookForRecord s).path.drain = s.path.drain ∧
          (State.lookForRecord s).path.under = s.path.under ∧ (State.lookForRecord s).path.internal = s.path.internal ∧
          (State.lookForRecord s).path.fairness = s.path.fairness ∧ (State.lookForRecord s).path.resetDrain = s.path.resetDrain ∧
          (State.lookForRecord s).path.held = s.path.held ∧ (State.lookForRecord s).path.answer = s.path.answer := by
  unfold State.lookForRecord; (repeat' split) <;> simp

@[simp] theorem State.closeIfClosing_fields (s : State) :
    (State.closeIfClosing s).msgs.flight = s.msgs.flight ∧ (State.closeIfClosing s).msgs.buffer0 = s.msgs.buffer0 ∧
          (State.closeIfClosing s).msgs.buffer1 = s.msgs.buffer1 ∧ (State.closeIfClosing s).msgs.stamp = s.msgs.stamp ∧
          (State.closeIfClosing s).msgs.deposit = s.msgs.deposit ∧ (State.closeIfClosing s).msgs.delivered = s.msgs.delivered ∧
          (State.closeIfClosing s).msgs.paused = s.msgs.paused ∧ (State.closeIfClosing s).msgs.pauseAt = s.msgs.pauseAt ∧
          (State.closeIfClosing s).msgs.resumeAt = s.msgs.resumeAt ∧ (State.closeIfClosing s).msgs.lastOut = s.msgs.lastOut := by
  unfold State.closeIfClosing; (repeat' split) <;> simp

@[simp] theorem State.continueFetch_fields (u : UnderWay) (s : State) :
    (State.continueFetch u s).msgs.buffer0 = s.msgs.buffer0 ∧ (State.continueFetch u s).msgs.buffer1 = s.msgs.buffer1 ∧
          (State.continueFetch u s).msgs.stamp = s.msgs.stamp ∧ (State.continueFetch u s).msgs.deposit = s.msgs.deposit ∧
          (State.continueFetch u s).msgs.delivered = s.msgs.delivered ∧ (State.continueFetch u s).msgs.paused = s.msgs.paused ∧
          (State.continueFetch u s).msgs.pauseAt = s.msgs.pauseAt ∧ (State.continueFetch u s).msgs.resumeAt = s.msgs.resumeAt ∧
          (State.continueFetch u s).msgs.lastOut = s.msgs.lastOut ∧ (State.continueFetch u s).path.asel = s.path.asel ∧
          (State.continueFetch u s).path.inReset = s.path.inReset ∧ (State.continueFetch u s).path.buffer = s.path.buffer ∧
          (State.continueFetch u s).path.drain = s.path.drain ∧ (State.continueFetch u s).path.queue = s.path.queue ∧
          (State.continueFetch u s).path.internal = s.path.internal ∧ (State.continueFetch u s).path.fairness = s.path.fairness ∧
          (State.continueFetch u s).path.resetDrain = s.path.resetDrain ∧ (State.continueFetch u s).path.held = s.path.held ∧
          (State.continueFetch u s).path.answer = s.path.answer := by
  unfold State.continueFetch; dsimp only; (repeat' split) <;> simp <;> (repeat' split) <;> simp

@[simp] theorem State.completeOutbound_fields (c : OutCompletion) (s : State) :
    (State.completeOutbound c s).msgs.outbound = s.msgs.outbound ∧ (State.completeOutbound c s).msgs.inbound = s.msgs.inbound ∧
          (State.completeOutbound c s).msgs.triplog = s.msgs.triplog ∧ (State.completeOutbound c s).msgs.buffer0 = s.msgs.buffer0 ∧
          (State.completeOutbound c s).msgs.buffer1 = s.msgs.buffer1 ∧ (State.completeOutbound c s).msgs.stamp = s.msgs.stamp ∧
          (State.completeOutbound c s).msgs.deposit = s.msgs.deposit ∧ (State.completeOutbound c s).msgs.delivered = s.msgs.delivered ∧
          (State.completeOutbound c s).msgs.paused = s.msgs.paused ∧ (State.completeOutbound c s).msgs.pauseAt = s.msgs.pauseAt ∧
          (State.completeOutbound c s).msgs.resumeAt = s.msgs.resumeAt ∧ (State.completeOutbound c s).msgs.lastOut = s.msgs.lastOut ∧
          (State.completeOutbound c s).radio.receiverOn = s.radio.receiverOn ∧
          (State.completeOutbound c s).radio.channel = s.radio.channel ∧ (State.completeOutbound c s).radio.output = s.radio.output ∧
          (State.completeOutbound c s).path.asel = s.path.asel ∧ (State.completeOutbound c s).path.inReset = s.path.inReset ∧
          (State.completeOutbound c s).path.buffer = s.path.buffer ∧ (State.completeOutbound c s).path.drain = s.path.drain ∧
          (State.completeOutbound c s).path.under = s.path.under ∧ (State.completeOutbound c s).path.internal = s.path.internal ∧
          (State.completeOutbound c s).path.fairness = s.path.fairness ∧
          (State.completeOutbound c s).path.resetDrain = s.path.resetDrain ∧ (State.completeOutbound c s).path.held = s.path.held ∧
          (State.completeOutbound c s).path.answer = s.path.answer ∧ (State.completeOutbound c s).sched.joinPlace = s.sched.joinPlace ∧
          (State.completeOutbound c s).sched.joinAttempts = s.sched.joinAttempts ∧
          (State.completeOutbound c s).sched.alertPlace = s.sched.alertPlace ∧
          (State.completeOutbound c s).sched.alertAttempts = s.sched.alertAttempts ∧
          (State.completeOutbound c s).sched.acks = s.sched.acks ∧ (State.completeOutbound c s).sched.bids = s.sched.bids ∧
          (State.completeOutbound c s).sched.flowPlace = s.sched.flowPlace ∧
          (State.completeOutbound c s).sched.statusPlace = s.sched.statusPlace ∧
          (State.completeOutbound c s).sched.requests = s.sched.requests ∧ (State.completeOutbound c s).sched.grant = s.sched.grant ∧
          (State.completeOutbound c s).sched.draws = s.sched.draws ∧ (State.completeOutbound c s).sched.seed = s.sched.seed := by
  unfold State.completeOutbound; (repeat' split) <;> simp

@[simp] theorem State.endFetch_fields (s : State) :
    (State.endFetch s).msgs.buffer0 = s.msgs.buffer0 ∧ (State.endFetch s).msgs.buffer1 = s.msgs.buffer1 ∧
          (State.endFetch s).msgs.stamp = s.msgs.stamp ∧ (State.endFetch s).msgs.deposit = s.msgs.deposit ∧
          (State.endFetch s).msgs.delivered = s.msgs.delivered ∧ (State.endFetch s).msgs.paused = s.msgs.paused ∧
          (State.endFetch s).msgs.pauseAt = s.msgs.pauseAt ∧ (State.endFetch s).msgs.resumeAt = s.msgs.resumeAt ∧
          (State.endFetch s).msgs.lastOut = s.msgs.lastOut ∧ (State.endFetch s).radio.receiverOn = s.radio.receiverOn ∧
          (State.endFetch s).radio.channel = s.radio.channel ∧ (State.endFetch s).radio.output = s.radio.output ∧
          (State.endFetch s).path.asel = s.path.asel ∧ (State.endFetch s).path.inReset = s.path.inReset ∧
          (State.endFetch s).path.buffer = s.path.buffer ∧ (State.endFetch s).path.drain = s.path.drain ∧
          (State.endFetch s).path.under = s.path.under ∧ (State.endFetch s).path.internal = s.path.internal ∧
          (State.endFetch s).path.fairness = s.path.fairness ∧ (State.endFetch s).path.resetDrain = s.path.resetDrain ∧
          (State.endFetch s).path.held = s.path.held ∧ (State.endFetch s).path.answer = s.path.answer ∧
          (State.endFetch s).sched.joinPlace = s.sched.joinPlace ∧ (State.endFetch s).sched.joinAttempts = s.sched.joinAttempts ∧
          (State.endFetch s).sched.alertPlace = s.sched.alertPlace ∧ (State.endFetch s).sched.alertAttempts = s.sched.alertAttempts ∧
          (State.endFetch s).sched.acks = s.sched.acks ∧ (State.endFetch s).sched.bids = s.sched.bids ∧
          (State.endFetch s).sched.flowPlace = s.sched.flowPlace ∧ (State.endFetch s).sched.statusPlace = s.sched.statusPlace ∧
          (State.endFetch s).sched.requests = s.sched.requests ∧ (State.endFetch s).sched.grant = s.sched.grant ∧
          (State.endFetch s).sched.draws = s.sched.draws ∧ (State.endFetch s).sched.seed = s.sched.seed := by
  unfold State.endFetch; (repeat' split) <;> simp

@[simp] theorem State.endCompletion_fields (s : State) :
    (State.endCompletion s).msgs.buffer0 = s.msgs.buffer0 ∧ (State.endCompletion s).msgs.buffer1 = s.msgs.buffer1 ∧
          (State.endCompletion s).msgs.stamp = s.msgs.stamp ∧ (State.endCompletion s).msgs.deposit = s.msgs.deposit ∧
          (State.endCompletion s).msgs.delivered = s.msgs.delivered ∧ (State.endCompletion s).msgs.paused = s.msgs.paused ∧
          (State.endCompletion s).msgs.pauseAt = s.msgs.pauseAt ∧ (State.endCompletion s).msgs.resumeAt = s.msgs.resumeAt ∧
          (State.endCompletion s).page.enables = s.page.enables ∧ (State.endCompletion s).page.counters = s.page.counters ∧
          (State.endCompletion s).page.linkUp = s.page.linkUp ∧ (State.endCompletion s).page.statusCopy = s.page.statusCopy ∧
          (State.endCompletion s).page.shiftCopy = s.page.shiftCopy ∧ (State.endCompletion s).page.powerCopy = s.page.powerCopy ∧
          (State.endCompletion s).page.enableCopy = s.page.enableCopy ∧ (State.endCompletion s).pins.emswClosed = s.pins.emswClosed ∧
          (State.endCompletion s).pins.ign = s.pins.ign ∧ (State.endCompletion s).pins.lampHire = s.pins.lampHire ∧
          (State.endCompletion s).pins.lampCall = s.pins.lampCall ∧ (State.endCompletion s).pins.lampAlarm = s.pins.lampAlarm ∧
          (State.endCompletion s).pins.wake = s.pins.wake ∧ (State.endCompletion s).path.asel = s.path.asel ∧
          (State.endCompletion s).path.inReset = s.path.inReset ∧ (State.endCompletion s).path.buffer = s.path.buffer ∧
          (State.endCompletion s).path.drain = s.path.drain ∧ (State.endCompletion s).path.under = s.path.under ∧
          (State.endCompletion s).path.internal = s.path.internal ∧ (State.endCompletion s).path.fairness = s.path.fairness ∧
          (State.endCompletion s).path.resetDrain = s.path.resetDrain ∧ (State.endCompletion s).path.held = s.path.held ∧
          (State.endCompletion s).path.answer = s.path.answer := by
  unfold State.endCompletion; (repeat' split) <;> simp

@[simp] theorem State.changeFlight_fields (f : OutMessage → OutMessage) (s : State) :
    (State.changeFlight f s).msgs.outbound = s.msgs.outbound ∧ (State.changeFlight f s).msgs.inbound = s.msgs.inbound ∧
          (State.changeFlight f s).msgs.triplog = s.msgs.triplog ∧ (State.changeFlight f s).msgs.buffer0 = s.msgs.buffer0 ∧
          (State.changeFlight f s).msgs.buffer1 = s.msgs.buffer1 ∧ (State.changeFlight f s).msgs.stamp = s.msgs.stamp ∧
          (State.changeFlight f s).msgs.deposit = s.msgs.deposit ∧ (State.changeFlight f s).msgs.delivered = s.msgs.delivered ∧
          (State.changeFlight f s).msgs.paused = s.msgs.paused ∧ (State.changeFlight f s).msgs.pauseAt = s.msgs.pauseAt ∧
          (State.changeFlight f s).msgs.resumeAt = s.msgs.resumeAt ∧ (State.changeFlight f s).msgs.lastOut = s.msgs.lastOut := by
  unfold State.changeFlight; (repeat' split) <;> simp

@[simp] theorem State.textSent_fields (t : Word) (i : Nat) (s : State) :
    (State.textSent t i s).msgs.outbound = s.msgs.outbound ∧ (State.textSent t i s).msgs.inbound = s.msgs.inbound ∧
          (State.textSent t i s).msgs.triplog = s.msgs.triplog ∧ (State.textSent t i s).msgs.buffer0 = s.msgs.buffer0 ∧
          (State.textSent t i s).msgs.buffer1 = s.msgs.buffer1 ∧ (State.textSent t i s).msgs.stamp = s.msgs.stamp ∧
          (State.textSent t i s).msgs.deposit = s.msgs.deposit ∧ (State.textSent t i s).msgs.delivered = s.msgs.delivered ∧
          (State.textSent t i s).msgs.paused = s.msgs.paused ∧ (State.textSent t i s).msgs.pauseAt = s.msgs.pauseAt ∧
          (State.textSent t i s).msgs.resumeAt = s.msgs.resumeAt ∧ (State.textSent t i s).msgs.lastOut = s.msgs.lastOut := by
  unfold State.textSent; (repeat' split) <;> simp

@[simp] theorem State.ackText_fields (t : Word) (s : State) :
    (State.ackText t s).msgs.outbound = s.msgs.outbound ∧ (State.ackText t s).msgs.inbound = s.msgs.inbound ∧
          (State.ackText t s).msgs.triplog = s.msgs.triplog ∧ (State.ackText t s).msgs.buffer0 = s.msgs.buffer0 ∧
          (State.ackText t s).msgs.buffer1 = s.msgs.buffer1 ∧ (State.ackText t s).msgs.stamp = s.msgs.stamp ∧
          (State.ackText t s).msgs.deposit = s.msgs.deposit ∧ (State.ackText t s).msgs.delivered = s.msgs.delivered ∧
          (State.ackText t s).msgs.paused = s.msgs.paused ∧ (State.ackText t s).msgs.pauseAt = s.msgs.pauseAt ∧
          (State.ackText t s).msgs.resumeAt = s.msgs.resumeAt ∧ (State.ackText t s).msgs.lastOut = s.msgs.lastOut ∧
          (State.ackText t s).radio.receiverOn = s.radio.receiverOn ∧ (State.ackText t s).radio.channel = s.radio.channel ∧
          (State.ackText t s).radio.output = s.radio.output ∧ (State.ackText t s).path.asel = s.path.asel ∧
          (State.ackText t s).path.inReset = s.path.inReset ∧ (State.ackText t s).path.buffer = s.path.buffer ∧
          (State.ackText t s).path.drain = s.path.drain ∧ (State.ackText t s).path.under = s.path.under ∧
          (State.ackText t s).path.internal = s.path.internal ∧ (State.ackText t s).path.fairness = s.path.fairness ∧
          (State.ackText t s).path.resetDrain = s.path.resetDrain ∧ (State.ackText t s).path.held = s.path.held ∧
          (State.ackText t s).path.answer = s.path.answer ∧ (State.ackText t s).sched.joinPlace = s.sched.joinPlace ∧
          (State.ackText t s).sched.joinAttempts = s.sched.joinAttempts ∧ (State.ackText t s).sched.alertPlace = s.sched.alertPlace ∧
          (State.ackText t s).sched.alertAttempts = s.sched.alertAttempts ∧ (State.ackText t s).sched.acks = s.sched.acks ∧
          (State.ackText t s).sched.bids = s.sched.bids ∧ (State.ackText t s).sched.flowPlace = s.sched.flowPlace ∧
          (State.ackText t s).sched.statusPlace = s.sched.statusPlace ∧ (State.ackText t s).sched.requests = s.sched.requests ∧
          (State.ackText t s).sched.grant = s.sched.grant ∧ (State.ackText t s).sched.draws = s.sched.draws ∧
          (State.ackText t s).sched.seed = s.sched.seed := by
  unfold State.ackText; (repeat' split) <;> simp

@[simp] theorem State.restartMessage_fields (f : OutMessage → OutMessage) (s : State) :
    (State.restartMessage f s).msgs.outbound = s.msgs.outbound ∧ (State.restartMessage f s).msgs.inbound = s.msgs.inbound ∧
          (State.restartMessage f s).msgs.triplog = s.msgs.triplog ∧ (State.restartMessage f s).msgs.buffer0 = s.msgs.buffer0 ∧
          (State.restartMessage f s).msgs.buffer1 = s.msgs.buffer1 ∧ (State.restartMessage f s).msgs.stamp = s.msgs.stamp ∧
          (State.restartMessage f s).msgs.deposit = s.msgs.deposit ∧ (State.restartMessage f s).msgs.delivered = s.msgs.delivered ∧
          (State.restartMessage f s).msgs.paused = s.msgs.paused ∧ (State.restartMessage f s).msgs.pauseAt = s.msgs.pauseAt ∧
          (State.restartMessage f s).msgs.resumeAt = s.msgs.resumeAt ∧ (State.restartMessage f s).msgs.lastOut = s.msgs.lastOut := by
  unfold State.restartMessage; (repeat' split) <;> simp

@[simp] theorem State.ackWaitEnds_fields (s : State) :
    (State.ackWaitEnds s).msgs.outbound = s.msgs.outbound ∧ (State.ackWaitEnds s).msgs.inbound = s.msgs.inbound ∧
          (State.ackWaitEnds s).msgs.triplog = s.msgs.triplog ∧ (State.ackWaitEnds s).msgs.buffer0 = s.msgs.buffer0 ∧
          (State.ackWaitEnds s).msgs.buffer1 = s.msgs.buffer1 ∧ (State.ackWaitEnds s).msgs.stamp = s.msgs.stamp ∧
          (State.ackWaitEnds s).msgs.deposit = s.msgs.deposit ∧ (State.ackWaitEnds s).msgs.delivered = s.msgs.delivered ∧
          (State.ackWaitEnds s).msgs.paused = s.msgs.paused ∧ (State.ackWaitEnds s).msgs.pauseAt = s.msgs.pauseAt ∧
          (State.ackWaitEnds s).msgs.resumeAt = s.msgs.resumeAt ∧ (State.ackWaitEnds s).msgs.lastOut = s.msgs.lastOut ∧
          (State.ackWaitEnds s).radio.receiverOn = s.radio.receiverOn ∧ (State.ackWaitEnds s).radio.channel = s.radio.channel ∧
          (State.ackWaitEnds s).radio.output = s.radio.output ∧ (State.ackWaitEnds s).path.asel = s.path.asel ∧
          (State.ackWaitEnds s).path.inReset = s.path.inReset ∧ (State.ackWaitEnds s).path.buffer = s.path.buffer ∧
          (State.ackWaitEnds s).path.drain = s.path.drain ∧ (State.ackWaitEnds s).path.under = s.path.under ∧
          (State.ackWaitEnds s).path.internal = s.path.internal ∧ (State.ackWaitEnds s).path.fairness = s.path.fairness ∧
          (State.ackWaitEnds s).path.resetDrain = s.path.resetDrain ∧ (State.ackWaitEnds s).path.held = s.path.held ∧
          (State.ackWaitEnds s).path.answer = s.path.answer ∧ (State.ackWaitEnds s).sched.joinPlace = s.sched.joinPlace ∧
          (State.ackWaitEnds s).sched.joinAttempts = s.sched.joinAttempts ∧ (State.ackWaitEnds s).sched.alertPlace = s.sched.alertPlace ∧
          (State.ackWaitEnds s).sched.alertAttempts = s.sched.alertAttempts ∧ (State.ackWaitEnds s).sched.acks = s.sched.acks ∧
          (State.ackWaitEnds s).sched.bids = s.sched.bids ∧ (State.ackWaitEnds s).sched.flowPlace = s.sched.flowPlace ∧
          (State.ackWaitEnds s).sched.statusPlace = s.sched.statusPlace ∧ (State.ackWaitEnds s).sched.requests = s.sched.requests ∧
          (State.ackWaitEnds s).sched.grant = s.sched.grant ∧ (State.ackWaitEnds s).sched.draws = s.sched.draws ∧
          (State.ackWaitEnds s).sched.seed = s.sched.seed := by
  unfold State.ackWaitEnds; (repeat' split) <;> simp

@[simp] theorem State.exitToMessages_fields (s : State) :
    (State.exitToMessages s).msgs.outbound = s.msgs.outbound ∧ (State.exitToMessages s).msgs.inbound = s.msgs.inbound ∧
          (State.exitToMessages s).msgs.triplog = s.msgs.triplog ∧ (State.exitToMessages s).msgs.buffer0 = s.msgs.buffer0 ∧
          (State.exitToMessages s).msgs.buffer1 = s.msgs.buffer1 ∧ (State.exitToMessages s).msgs.stamp = s.msgs.stamp ∧
          (State.exitToMessages s).msgs.deposit = s.msgs.deposit ∧ (State.exitToMessages s).msgs.delivered = s.msgs.delivered ∧
          (State.exitToMessages s).msgs.paused = s.msgs.paused ∧ (State.exitToMessages s).msgs.pauseAt = s.msgs.pauseAt ∧
          (State.exitToMessages s).msgs.resumeAt = s.msgs.resumeAt ∧ (State.exitToMessages s).msgs.lastOut = s.msgs.lastOut := by
  unfold State.exitToMessages; (repeat' split) <;> simp

@[simp] theorem State.setBuffer_fields (b : BufferId) (v : Buffer) (s : State) :
    (State.setBuffer b v s).msgs.outbound = s.msgs.outbound ∧ (State.setBuffer b v s).msgs.inbound = s.msgs.inbound ∧
          (State.setBuffer b v s).msgs.triplog = s.msgs.triplog ∧ (State.setBuffer b v s).msgs.flight = s.msgs.flight ∧
          (State.setBuffer b v s).msgs.stamp = s.msgs.stamp ∧ (State.setBuffer b v s).msgs.deposit = s.msgs.deposit ∧
          (State.setBuffer b v s).msgs.delivered = s.msgs.delivered ∧ (State.setBuffer b v s).msgs.paused = s.msgs.paused ∧
          (State.setBuffer b v s).msgs.pauseAt = s.msgs.pauseAt ∧ (State.setBuffer b v s).msgs.resumeAt = s.msgs.resumeAt ∧
          (State.setBuffer b v s).msgs.lastOut = s.msgs.lastOut := by
  unfold State.setBuffer; (repeat' split) <;> simp

@[simp] theorem State.closeBuffer_fields (b : BufferId) (a : Assembly) (t : Bool) (s : State) :
    (State.closeBuffer b a t s).msgs.outbound = s.msgs.outbound ∧ (State.closeBuffer b a t s).msgs.inbound = s.msgs.inbound ∧
          (State.closeBuffer b a t s).msgs.triplog = s.msgs.triplog ∧ (State.closeBuffer b a t s).msgs.flight = s.msgs.flight ∧
          (State.closeBuffer b a t s).msgs.deposit = s.msgs.deposit ∧ (State.closeBuffer b a t s).msgs.delivered = s.msgs.delivered ∧
          (State.closeBuffer b a t s).msgs.paused = s.msgs.paused ∧ (State.closeBuffer b a t s).msgs.pauseAt = s.msgs.pauseAt ∧
          (State.closeBuffer b a t s).msgs.resumeAt = s.msgs.resumeAt ∧ (State.closeBuffer b a t s).msgs.lastOut = s.msgs.lastOut := by
  unfold State.closeBuffer; (repeat' split) <;> simp

@[simp] theorem State.queueAck_fields (m : InMessage) (s : State) :
    (State.queueAck m s).sched.joinPlace = s.sched.joinPlace ∧ (State.queueAck m s).sched.joinAttempts = s.sched.joinAttempts ∧
          (State.queueAck m s).sched.alertPlace = s.sched.alertPlace ∧ (State.queueAck m s).sched.alertAttempts = s.sched.alertAttempts ∧
          (State.queueAck m s).sched.bids = s.sched.bids ∧ (State.queueAck m s).sched.flowPlace = s.sched.flowPlace ∧
          (State.queueAck m s).sched.slotRequest = s.sched.slotRequest ∧ (State.queueAck m s).sched.statusPlace = s.sched.statusPlace ∧
          (State.queueAck m s).sched.contention = s.sched.contention ∧ (State.queueAck m s).sched.long = s.sched.long ∧
          (State.queueAck m s).sched.requests = s.sched.requests ∧ (State.queueAck m s).sched.grant = s.sched.grant ∧
          (State.queueAck m s).sched.draws = s.sched.draws ∧ (State.queueAck m s).sched.seed = s.sched.seed ∧
          (State.queueAck m s).radio.receiverOn = s.radio.receiverOn ∧ (State.queueAck m s).radio.channel = s.radio.channel ∧
          (State.queueAck m s).radio.output = s.radio.output := by
  unfold State.queueAck; (repeat' split) <;> simp

@[simp] theorem State.dropMessage_fields (s : State) :
    (State.dropMessage s).page.causes = s.page.causes ∧ (State.dropMessage s).page.enables = s.page.enables ∧
          (State.dropMessage s).page.busy = s.page.busy ∧ (State.dropMessage s).page.linkUp = s.page.linkUp ∧
          (State.dropMessage s).page.statusCopy = s.page.statusCopy ∧ (State.dropMessage s).page.shiftCopy = s.page.shiftCopy ∧
          (State.dropMessage s).page.powerCopy = s.page.powerCopy ∧ (State.dropMessage s).page.enableCopy = s.page.enableCopy := by
  unfold State.dropMessage; (repeat' split) <;> simp

@[simp] theorem State.judge_fields (b : BufferId) (m : InMessage) (s : State) :
    (State.judge b m s).msgs.outbound = s.msgs.outbound ∧ (State.judge b m s).msgs.inbound = s.msgs.inbound ∧
          (State.judge b m s).msgs.triplog = s.msgs.triplog ∧ (State.judge b m s).msgs.flight = s.msgs.flight ∧
          (State.judge b m s).msgs.stamp = s.msgs.stamp ∧ (State.judge b m s).msgs.delivered = s.msgs.delivered ∧
          (State.judge b m s).msgs.paused = s.msgs.paused ∧ (State.judge b m s).msgs.pauseAt = s.msgs.pauseAt ∧
          (State.judge b m s).msgs.resumeAt = s.msgs.resumeAt ∧ (State.judge b m s).msgs.lastOut = s.msgs.lastOut ∧
          (State.judge b m s).path.asel = s.path.asel ∧ (State.judge b m s).path.inReset = s.path.inReset ∧
          (State.judge b m s).path.buffer = s.path.buffer ∧ (State.judge b m s).path.drain = s.path.drain ∧
          (State.judge b m s).path.under = s.path.under ∧ (State.judge b m s).path.internal = s.path.internal ∧
          (State.judge b m s).path.fairness = s.path.fairness ∧ (State.judge b m s).path.resetDrain = s.path.resetDrain ∧
          (State.judge b m s).path.held = s.path.held ∧ (State.judge b m s).path.answer = s.path.answer ∧
          (State.judge b m s).sched.joinPlace = s.sched.joinPlace ∧ (State.judge b m s).sched.joinAttempts = s.sched.joinAttempts ∧
          (State.judge b m s).sched.alertPlace = s.sched.alertPlace ∧ (State.judge b m s).sched.alertAttempts = s.sched.alertAttempts ∧
          (State.judge b m s).sched.bids = s.sched.bids ∧ (State.judge b m s).sched.flowPlace = s.sched.flowPlace ∧
          (State.judge b m s).sched.slotRequest = s.sched.slotRequest ∧ (State.judge b m s).sched.statusPlace = s.sched.statusPlace ∧
          (State.judge b m s).sched.contention = s.sched.contention ∧ (State.judge b m s).sched.long = s.sched.long ∧
          (State.judge b m s).sched.requests = s.sched.requests ∧ (State.judge b m s).sched.grant = s.sched.grant ∧
          (State.judge b m s).sched.draws = s.sched.draws ∧ (State.judge b m s).sched.seed = s.sched.seed ∧
          (State.judge b m s).radio.receiverOn = s.radio.receiverOn ∧ (State.judge b m s).radio.channel = s.radio.channel ∧
          (State.judge b m s).radio.output = s.radio.output ∧ (State.judge b m s).page.causes = s.page.causes ∧
          (State.judge b m s).page.enables = s.page.enables ∧ (State.judge b m s).page.busy = s.page.busy ∧
          (State.judge b m s).page.linkUp = s.page.linkUp ∧ (State.judge b m s).page.statusCopy = s.page.statusCopy ∧
          (State.judge b m s).page.shiftCopy = s.page.shiftCopy ∧ (State.judge b m s).page.powerCopy = s.page.powerCopy ∧
          (State.judge b m s).page.enableCopy = s.page.enableCopy := by
  unfold State.judge; dsimp only; (repeat' split) <;> simp <;> (repeat' split) <;> simp

@[simp] theorem State.judgeNext_fields (s : State) :
    (State.judgeNext s).msgs.outbound = s.msgs.outbound ∧ (State.judgeNext s).msgs.inbound = s.msgs.inbound ∧
          (State.judgeNext s).msgs.triplog = s.msgs.triplog ∧ (State.judgeNext s).msgs.flight = s.msgs.flight ∧
          (State.judgeNext s).msgs.stamp = s.msgs.stamp ∧ (State.judgeNext s).msgs.delivered = s.msgs.delivered ∧
          (State.judgeNext s).msgs.paused = s.msgs.paused ∧ (State.judgeNext s).msgs.pauseAt = s.msgs.pauseAt ∧
          (State.judgeNext s).msgs.resumeAt = s.msgs.resumeAt ∧ (State.judgeNext s).msgs.lastOut = s.msgs.lastOut ∧
          (State.judgeNext s).path.asel = s.path.asel ∧ (State.judgeNext s).path.inReset = s.path.inReset ∧
          (State.judgeNext s).path.buffer = s.path.buffer ∧ (State.judgeNext s).path.drain = s.path.drain ∧
          (State.judgeNext s).path.under = s.path.under ∧ (State.judgeNext s).path.internal = s.path.internal ∧
          (State.judgeNext s).path.fairness = s.path.fairness ∧ (State.judgeNext s).path.resetDrain = s.path.resetDrain ∧
          (State.judgeNext s).path.held = s.path.held ∧ (State.judgeNext s).path.answer = s.path.answer ∧
          (State.judgeNext s).sched.joinPlace = s.sched.joinPlace ∧ (State.judgeNext s).sched.joinAttempts = s.sched.joinAttempts ∧
          (State.judgeNext s).sched.alertPlace = s.sched.alertPlace ∧ (State.judgeNext s).sched.alertAttempts = s.sched.alertAttempts ∧
          (State.judgeNext s).sched.bids = s.sched.bids ∧ (State.judgeNext s).sched.flowPlace = s.sched.flowPlace ∧
          (State.judgeNext s).sched.slotRequest = s.sched.slotRequest ∧ (State.judgeNext s).sched.statusPlace = s.sched.statusPlace ∧
          (State.judgeNext s).sched.contention = s.sched.contention ∧ (State.judgeNext s).sched.long = s.sched.long ∧
          (State.judgeNext s).sched.requests = s.sched.requests ∧ (State.judgeNext s).sched.grant = s.sched.grant ∧
          (State.judgeNext s).sched.draws = s.sched.draws ∧ (State.judgeNext s).sched.seed = s.sched.seed ∧
          (State.judgeNext s).radio.receiverOn = s.radio.receiverOn ∧ (State.judgeNext s).radio.channel = s.radio.channel ∧
          (State.judgeNext s).radio.output = s.radio.output ∧ (State.judgeNext s).page.causes = s.page.causes ∧
          (State.judgeNext s).page.enables = s.page.enables ∧ (State.judgeNext s).page.busy = s.page.busy ∧
          (State.judgeNext s).page.linkUp = s.page.linkUp ∧ (State.judgeNext s).page.statusCopy = s.page.statusCopy ∧
          (State.judgeNext s).page.shiftCopy = s.page.shiftCopy ∧ (State.judgeNext s).page.powerCopy = s.page.powerCopy ∧
          (State.judgeNext s).page.enableCopy = s.page.enableCopy := by
  unfold State.judgeNext; (repeat' split) <;> simp

@[simp] theorem State.judgeAll_fields (s : State) :
    (State.judgeAll s).msgs.outbound = s.msgs.outbound ∧ (State.judgeAll s).msgs.inbound = s.msgs.inbound ∧
          (State.judgeAll s).msgs.triplog = s.msgs.triplog ∧ (State.judgeAll s).msgs.flight = s.msgs.flight ∧
          (State.judgeAll s).msgs.stamp = s.msgs.stamp ∧ (State.judgeAll s).msgs.delivered = s.msgs.delivered ∧
          (State.judgeAll s).msgs.paused = s.msgs.paused ∧ (State.judgeAll s).msgs.pauseAt = s.msgs.pauseAt ∧
          (State.judgeAll s).msgs.resumeAt = s.msgs.resumeAt ∧ (State.judgeAll s).msgs.lastOut = s.msgs.lastOut ∧
          (State.judgeAll s).path.asel = s.path.asel ∧ (State.judgeAll s).path.inReset = s.path.inReset ∧
          (State.judgeAll s).path.buffer = s.path.buffer ∧ (State.judgeAll s).path.drain = s.path.drain ∧
          (State.judgeAll s).path.under = s.path.under ∧ (State.judgeAll s).path.internal = s.path.internal ∧
          (State.judgeAll s).path.fairness = s.path.fairness ∧ (State.judgeAll s).path.resetDrain = s.path.resetDrain ∧
          (State.judgeAll s).path.held = s.path.held ∧ (State.judgeAll s).path.answer = s.path.answer ∧
          (State.judgeAll s).sched.joinPlace = s.sched.joinPlace ∧ (State.judgeAll s).sched.joinAttempts = s.sched.joinAttempts ∧
          (State.judgeAll s).sched.alertPlace = s.sched.alertPlace ∧ (State.judgeAll s).sched.alertAttempts = s.sched.alertAttempts ∧
          (State.judgeAll s).sched.bids = s.sched.bids ∧ (State.judgeAll s).sched.flowPlace = s.sched.flowPlace ∧
          (State.judgeAll s).sched.slotRequest = s.sched.slotRequest ∧ (State.judgeAll s).sched.statusPlace = s.sched.statusPlace ∧
          (State.judgeAll s).sched.contention = s.sched.contention ∧ (State.judgeAll s).sched.long = s.sched.long ∧
          (State.judgeAll s).sched.requests = s.sched.requests ∧ (State.judgeAll s).sched.grant = s.sched.grant ∧
          (State.judgeAll s).sched.draws = s.sched.draws ∧ (State.judgeAll s).sched.seed = s.sched.seed ∧
          (State.judgeAll s).radio.receiverOn = s.radio.receiverOn ∧ (State.judgeAll s).radio.channel = s.radio.channel ∧
          (State.judgeAll s).radio.output = s.radio.output ∧ (State.judgeAll s).page.causes = s.page.causes ∧
          (State.judgeAll s).page.enables = s.page.enables ∧ (State.judgeAll s).page.busy = s.page.busy ∧
          (State.judgeAll s).page.linkUp = s.page.linkUp ∧ (State.judgeAll s).page.statusCopy = s.page.statusCopy ∧
          (State.judgeAll s).page.shiftCopy = s.page.shiftCopy ∧ (State.judgeAll s).page.powerCopy = s.page.powerCopy ∧
          (State.judgeAll s).page.enableCopy = s.page.enableCopy := by
  unfold State.judgeAll; (repeat' split) <;> simp

@[simp] theorem State.assemble_fields (b : BufferId) (a : Assembly) (s : State) :
    (State.assemble b a s).msgs.outbound = s.msgs.outbound ∧ (State.assemble b a s).msgs.inbound = s.msgs.inbound ∧
          (State.assemble b a s).msgs.triplog = s.msgs.triplog ∧ (State.assemble b a s).msgs.flight = s.msgs.flight ∧
          (State.assemble b a s).msgs.delivered = s.msgs.delivered ∧ (State.assemble b a s).msgs.paused = s.msgs.paused ∧
          (State.assemble b a s).msgs.pauseAt = s.msgs.pauseAt ∧ (State.assemble b a s).msgs.resumeAt = s.msgs.resumeAt ∧
          (State.assemble b a s).msgs.lastOut = s.msgs.lastOut ∧ (State.assemble b a s).path.asel = s.path.asel ∧
          (State.assemble b a s).path.inReset = s.path.inReset ∧ (State.assemble b a s).path.buffer = s.path.buffer ∧
          (State.assemble b a s).path.drain = s.path.drain ∧ (State.assemble b a s).path.under = s.path.under ∧
          (State.assemble b a s).path.internal = s.path.internal ∧ (State.assemble b a s).path.fairness = s.path.fairness ∧
          (State.assemble b a s).path.resetDrain = s.path.resetDrain ∧ (State.assemble b a s).path.held = s.path.held ∧
          (State.assemble b a s).path.answer = s.path.answer ∧ (State.assemble b a s).sched.joinPlace = s.sched.joinPlace ∧
          (State.assemble b a s).sched.joinAttempts = s.sched.joinAttempts ∧
          (State.assemble b a s).sched.alertPlace = s.sched.alertPlace ∧
          (State.assemble b a s).sched.alertAttempts = s.sched.alertAttempts ∧ (State.assemble b a s).sched.bids = s.sched.bids ∧
          (State.assemble b a s).sched.flowPlace = s.sched.flowPlace ∧ (State.assemble b a s).sched.slotRequest = s.sched.slotRequest ∧
          (State.assemble b a s).sched.statusPlace = s.sched.statusPlace ∧ (State.assemble b a s).sched.contention = s.sched.contention ∧
          (State.assemble b a s).sched.long = s.sched.long ∧ (State.assemble b a s).sched.requests = s.sched.requests ∧
          (State.assemble b a s).sched.grant = s.sched.grant ∧ (State.assemble b a s).sched.draws = s.sched.draws ∧
          (State.assemble b a s).sched.seed = s.sched.seed ∧ (State.assemble b a s).radio.receiverOn = s.radio.receiverOn ∧
          (State.assemble b a s).radio.channel = s.radio.channel ∧ (State.assemble b a s).radio.output = s.radio.output ∧
          (State.assemble b a s).page.causes = s.page.causes ∧ (State.assemble b a s).page.enables = s.page.enables ∧
          (State.assemble b a s).page.busy = s.page.busy ∧ (State.assemble b a s).page.linkUp = s.page.linkUp ∧
          (State.assemble b a s).page.statusCopy = s.page.statusCopy ∧ (State.assemble b a s).page.shiftCopy = s.page.shiftCopy ∧
          (State.assemble b a s).page.powerCopy = s.page.powerCopy ∧ (State.assemble b a s).page.enableCopy = s.page.enableCopy := by
  unfold State.assemble; (repeat' split) <;> simp

@[simp] theorem State.truncateFor_fields (b : BufferId) (a : Assembly) (s : State) :
    (State.truncateFor b a s).msgs.outbound = s.msgs.outbound ∧ (State.truncateFor b a s).msgs.inbound = s.msgs.inbound ∧
          (State.truncateFor b a s).msgs.triplog = s.msgs.triplog ∧ (State.truncateFor b a s).msgs.flight = s.msgs.flight ∧
          (State.truncateFor b a s).msgs.delivered = s.msgs.delivered ∧ (State.truncateFor b a s).msgs.paused = s.msgs.paused ∧
          (State.truncateFor b a s).msgs.pauseAt = s.msgs.pauseAt ∧ (State.truncateFor b a s).msgs.resumeAt = s.msgs.resumeAt ∧
          (State.truncateFor b a s).msgs.lastOut = s.msgs.lastOut ∧ (State.truncateFor b a s).path.asel = s.path.asel ∧
          (State.truncateFor b a s).path.inReset = s.path.inReset ∧ (State.truncateFor b a s).path.buffer = s.path.buffer ∧
          (State.truncateFor b a s).path.drain = s.path.drain ∧ (State.truncateFor b a s).path.under = s.path.under ∧
          (State.truncateFor b a s).path.internal = s.path.internal ∧ (State.truncateFor b a s).path.fairness = s.path.fairness ∧
          (State.truncateFor b a s).path.resetDrain = s.path.resetDrain ∧ (State.truncateFor b a s).path.held = s.path.held ∧
          (State.truncateFor b a s).path.answer = s.path.answer ∧ (State.truncateFor b a s).sched.joinPlace = s.sched.joinPlace ∧
          (State.truncateFor b a s).sched.joinAttempts = s.sched.joinAttempts ∧
          (State.truncateFor b a s).sched.alertPlace = s.sched.alertPlace ∧
          (State.truncateFor b a s).sched.alertAttempts = s.sched.alertAttempts ∧ (State.truncateFor b a s).sched.bids = s.sched.bids ∧
          (State.truncateFor b a s).sched.flowPlace = s.sched.flowPlace ∧
          (State.truncateFor b a s).sched.slotRequest = s.sched.slotRequest ∧
          (State.truncateFor b a s).sched.statusPlace = s.sched.statusPlace ∧
          (State.truncateFor b a s).sched.contention = s.sched.contention ∧ (State.truncateFor b a s).sched.long = s.sched.long ∧
          (State.truncateFor b a s).sched.requests = s.sched.requests ∧ (State.truncateFor b a s).sched.grant = s.sched.grant ∧
          (State.truncateFor b a s).sched.draws = s.sched.draws ∧ (State.truncateFor b a s).sched.seed = s.sched.seed ∧
          (State.truncateFor b a s).radio.receiverOn = s.radio.receiverOn ∧ (State.truncateFor b a s).radio.channel = s.radio.channel ∧
          (State.truncateFor b a s).radio.output = s.radio.output ∧ (State.truncateFor b a s).page.causes = s.page.causes ∧
          (State.truncateFor b a s).page.enables = s.page.enables ∧ (State.truncateFor b a s).page.busy = s.page.busy ∧
          (State.truncateFor b a s).page.linkUp = s.page.linkUp ∧ (State.truncateFor b a s).page.statusCopy = s.page.statusCopy ∧
          (State.truncateFor b a s).page.shiftCopy = s.page.shiftCopy ∧ (State.truncateFor b a s).page.powerCopy = s.page.powerCopy ∧
          (State.truncateFor b a s).page.enableCopy = s.page.enableCopy := by
  unfold State.truncateFor; dsimp only; (repeat' split) <;> simp <;> (repeat' split) <;> simp

@[simp] theorem State.takeText_fields (b : TextBody) (s : State) :
    (State.takeText b s).msgs.outbound = s.msgs.outbound ∧ (State.takeText b s).msgs.inbound = s.msgs.inbound ∧
          (State.takeText b s).msgs.triplog = s.msgs.triplog ∧ (State.takeText b s).msgs.flight = s.msgs.flight ∧
          (State.takeText b s).msgs.delivered = s.msgs.delivered ∧ (State.takeText b s).msgs.paused = s.msgs.paused ∧
          (State.takeText b s).msgs.pauseAt = s.msgs.pauseAt ∧ (State.takeText b s).msgs.resumeAt = s.msgs.resumeAt ∧
          (State.takeText b s).msgs.lastOut = s.msgs.lastOut ∧ (State.takeText b s).path.asel = s.path.asel ∧
          (State.takeText b s).path.inReset = s.path.inReset ∧ (State.takeText b s).path.buffer = s.path.buffer ∧
          (State.takeText b s).path.drain = s.path.drain ∧ (State.takeText b s).path.under = s.path.under ∧
          (State.takeText b s).path.internal = s.path.internal ∧ (State.takeText b s).path.fairness = s.path.fairness ∧
          (State.takeText b s).path.resetDrain = s.path.resetDrain ∧ (State.takeText b s).path.held = s.path.held ∧
          (State.takeText b s).path.answer = s.path.answer ∧ (State.takeText b s).sched.joinPlace = s.sched.joinPlace ∧
          (State.takeText b s).sched.joinAttempts = s.sched.joinAttempts ∧ (State.takeText b s).sched.alertPlace = s.sched.alertPlace ∧
          (State.takeText b s).sched.alertAttempts = s.sched.alertAttempts ∧ (State.takeText b s).sched.bids = s.sched.bids ∧
          (State.takeText b s).sched.flowPlace = s.sched.flowPlace ∧ (State.takeText b s).sched.slotRequest = s.sched.slotRequest ∧
          (State.takeText b s).sched.statusPlace = s.sched.statusPlace ∧ (State.takeText b s).sched.contention = s.sched.contention ∧
          (State.takeText b s).sched.long = s.sched.long ∧ (State.takeText b s).sched.requests = s.sched.requests ∧
          (State.takeText b s).sched.grant = s.sched.grant ∧ (State.takeText b s).sched.draws = s.sched.draws ∧
          (State.takeText b s).sched.seed = s.sched.seed ∧ (State.takeText b s).radio.receiverOn = s.radio.receiverOn ∧
          (State.takeText b s).radio.channel = s.radio.channel ∧ (State.takeText b s).radio.output = s.radio.output ∧
          (State.takeText b s).page.causes = s.page.causes ∧ (State.takeText b s).page.enables = s.page.enables ∧
          (State.takeText b s).page.busy = s.page.busy ∧ (State.takeText b s).page.linkUp = s.page.linkUp ∧
          (State.takeText b s).page.statusCopy = s.page.statusCopy ∧ (State.takeText b s).page.shiftCopy = s.page.shiftCopy ∧
          (State.takeText b s).page.powerCopy = s.page.powerCopy ∧ (State.takeText b s).page.enableCopy = s.page.enableCopy := by
  unfold State.takeText; (repeat' split) <;> simp

@[simp] theorem State.interFragmentEnds_fields (b : BufferId) (s : State) :
    (State.interFragmentEnds b s).msgs.outbound = s.msgs.outbound ∧ (State.interFragmentEnds b s).msgs.inbound = s.msgs.inbound ∧
          (State.interFragmentEnds b s).msgs.triplog = s.msgs.triplog ∧ (State.interFragmentEnds b s).msgs.flight = s.msgs.flight ∧
          (State.interFragmentEnds b s).msgs.delivered = s.msgs.delivered ∧ (State.interFragmentEnds b s).msgs.paused = s.msgs.paused ∧
          (State.interFragmentEnds b s).msgs.pauseAt = s.msgs.pauseAt ∧ (State.interFragmentEnds b s).msgs.resumeAt = s.msgs.resumeAt ∧
          (State.interFragmentEnds b s).msgs.lastOut = s.msgs.lastOut ∧ (State.interFragmentEnds b s).path.asel = s.path.asel ∧
          (State.interFragmentEnds b s).path.inReset = s.path.inReset ∧ (State.interFragmentEnds b s).path.buffer = s.path.buffer ∧
          (State.interFragmentEnds b s).path.drain = s.path.drain ∧ (State.interFragmentEnds b s).path.under = s.path.under ∧
          (State.interFragmentEnds b s).path.internal = s.path.internal ∧ (State.interFragmentEnds b s).path.fairness = s.path.fairness ∧
          (State.interFragmentEnds b s).path.resetDrain = s.path.resetDrain ∧ (State.interFragmentEnds b s).path.held = s.path.held ∧
          (State.interFragmentEnds b s).path.answer = s.path.answer ∧ (State.interFragmentEnds b s).sched.joinPlace = s.sched.joinPlace ∧
          (State.interFragmentEnds b s).sched.joinAttempts = s.sched.joinAttempts ∧
          (State.interFragmentEnds b s).sched.alertPlace = s.sched.alertPlace ∧
          (State.interFragmentEnds b s).sched.alertAttempts = s.sched.alertAttempts ∧
          (State.interFragmentEnds b s).sched.bids = s.sched.bids ∧ (State.interFragmentEnds b s).sched.flowPlace = s.sched.flowPlace ∧
          (State.interFragmentEnds b s).sched.slotRequest = s.sched.slotRequest ∧
          (State.interFragmentEnds b s).sched.statusPlace = s.sched.statusPlace ∧
          (State.interFragmentEnds b s).sched.contention = s.sched.contention ∧ (State.interFragmentEnds b s).sched.long = s.sched.long ∧
          (State.interFragmentEnds b s).sched.requests = s.sched.requests ∧ (State.interFragmentEnds b s).sched.grant = s.sched.grant ∧
          (State.interFragmentEnds b s).sched.draws = s.sched.draws ∧ (State.interFragmentEnds b s).sched.seed = s.sched.seed ∧
          (State.interFragmentEnds b s).radio.receiverOn = s.radio.receiverOn ∧
          (State.interFragmentEnds b s).radio.channel = s.radio.channel ∧ (State.interFragmentEnds b s).radio.output = s.radio.output ∧
          (State.interFragmentEnds b s).page.causes = s.page.causes ∧ (State.interFragmentEnds b s).page.enables = s.page.enables ∧
          (State.interFragmentEnds b s).page.busy = s.page.busy ∧ (State.interFragmentEnds b s).page.linkUp = s.page.linkUp ∧
          (State.interFragmentEnds b s).page.statusCopy = s.page.statusCopy ∧
          (State.interFragmentEnds b s).page.shiftCopy = s.page.shiftCopy ∧
          (State.interFragmentEnds b s).page.powerCopy = s.page.powerCopy ∧
          (State.interFragmentEnds b s).page.enableCopy = s.page.enableCopy := by
  unfold State.interFragmentEnds; (repeat' split) <;> simp

@[simp] theorem State.endInboundDeposit_fields (s : State) :
    (State.endInboundDeposit s).msgs.flight = s.msgs.flight ∧ (State.endInboundDeposit s).msgs.stamp = s.msgs.stamp ∧
          (State.endInboundDeposit s).msgs.pauseAt = s.msgs.pauseAt ∧ (State.endInboundDeposit s).msgs.resumeAt = s.msgs.resumeAt ∧
          (State.endInboundDeposit s).msgs.lastOut = s.msgs.lastOut ∧ (State.endInboundDeposit s).path.asel = s.path.asel ∧
          (State.endInboundDeposit s).path.inReset = s.path.inReset ∧ (State.endInboundDeposit s).path.buffer = s.path.buffer ∧
          (State.endInboundDeposit s).path.drain = s.path.drain ∧ (State.endInboundDeposit s).path.under = s.path.under ∧
          (State.endInboundDeposit s).path.internal = s.path.internal ∧ (State.endInboundDeposit s).path.fairness = s.path.fairness ∧
          (State.endInboundDeposit s).path.resetDrain = s.path.resetDrain ∧ (State.endInboundDeposit s).path.held = s.path.held ∧
          (State.endInboundDeposit s).path.answer = s.path.answer ∧ (State.endInboundDeposit s).sched.joinPlace = s.sched.joinPlace ∧
          (State.endInboundDeposit s).sched.joinAttempts = s.sched.joinAttempts ∧
          (State.endInboundDeposit s).sched.alertPlace = s.sched.alertPlace ∧
          (State.endInboundDeposit s).sched.alertAttempts = s.sched.alertAttempts ∧
          (State.endInboundDeposit s).sched.bids = s.sched.bids ∧ (State.endInboundDeposit s).sched.slotRequest = s.sched.slotRequest ∧
          (State.endInboundDeposit s).sched.contention = s.sched.contention ∧ (State.endInboundDeposit s).sched.long = s.sched.long ∧
          (State.endInboundDeposit s).sched.requests = s.sched.requests ∧ (State.endInboundDeposit s).sched.grant = s.sched.grant ∧
          (State.endInboundDeposit s).sched.draws = s.sched.draws ∧ (State.endInboundDeposit s).sched.seed = s.sched.seed ∧
          (State.endInboundDeposit s).radio.receiverOn = s.radio.receiverOn ∧
          (State.endInboundDeposit s).radio.channel = s.radio.channel ∧ (State.endInboundDeposit s).radio.output = s.radio.output ∧
          (State.endInboundDeposit s).page.enables = s.page.enables ∧ (State.endInboundDeposit s).page.linkUp = s.page.linkUp ∧
          (State.endInboundDeposit s).page.statusCopy = s.page.statusCopy ∧
          (State.endInboundDeposit s).page.shiftCopy = s.page.shiftCopy ∧ (State.endInboundDeposit s).page.powerCopy = s.page.powerCopy ∧
          (State.endInboundDeposit s).page.enableCopy = s.page.enableCopy ∧
          (State.endInboundDeposit s).pins.emswClosed = s.pins.emswClosed ∧ (State.endInboundDeposit s).pins.ign = s.pins.ign ∧
          (State.endInboundDeposit s).pins.wake = s.pins.wake := by
  unfold State.endInboundDeposit; (repeat' split) <;> simp

@[simp] theorem State.ringResult_fields (i : RingId) (r : Result) (s : State) :
    (State.ringResult i r s).msgs.flight = s.msgs.flight ∧ (State.ringResult i r s).msgs.buffer0 = s.msgs.buffer0 ∧
          (State.ringResult i r s).msgs.buffer1 = s.msgs.buffer1 ∧ (State.ringResult i r s).msgs.stamp = s.msgs.stamp ∧
          (State.ringResult i r s).msgs.deposit = s.msgs.deposit ∧ (State.ringResult i r s).msgs.delivered = s.msgs.delivered ∧
          (State.ringResult i r s).msgs.paused = s.msgs.paused ∧ (State.ringResult i r s).msgs.pauseAt = s.msgs.pauseAt ∧
          (State.ringResult i r s).msgs.resumeAt = s.msgs.resumeAt ∧ (State.ringResult i r s).msgs.lastOut = s.msgs.lastOut := by
  unfold State.ringResult; (repeat' split) <;> simp

@[simp] theorem State.ringNotValid_fields (i : RingId) (w : Word) (s : State) :
    (State.ringNotValid i w s).msgs.flight = s.msgs.flight ∧ (State.ringNotValid i w s).msgs.buffer0 = s.msgs.buffer0 ∧
          (State.ringNotValid i w s).msgs.buffer1 = s.msgs.buffer1 ∧ (State.ringNotValid i w s).msgs.stamp = s.msgs.stamp ∧
          (State.ringNotValid i w s).msgs.deposit = s.msgs.deposit ∧ (State.ringNotValid i w s).msgs.delivered = s.msgs.delivered ∧
          (State.ringNotValid i w s).msgs.paused = s.msgs.paused ∧ (State.ringNotValid i w s).msgs.pauseAt = s.msgs.pauseAt ∧
          (State.ringNotValid i w s).msgs.resumeAt = s.msgs.resumeAt ∧ (State.ringNotValid i w s).msgs.lastOut = s.msgs.lastOut ∧
          (State.ringNotValid i w s).page.enables = s.page.enables ∧ (State.ringNotValid i w s).page.counters = s.page.counters ∧
          (State.ringNotValid i w s).page.linkUp = s.page.linkUp ∧ (State.ringNotValid i w s).page.statusCopy = s.page.statusCopy ∧
          (State.ringNotValid i w s).page.shiftCopy = s.page.shiftCopy ∧ (State.ringNotValid i w s).page.powerCopy = s.page.powerCopy ∧
          (State.ringNotValid i w s).page.enableCopy = s.page.enableCopy ∧
          (State.ringNotValid i w s).pins.emswClosed = s.pins.emswClosed ∧ (State.ringNotValid i w s).pins.ign = s.pins.ign ∧
          (State.ringNotValid i w s).pins.lampHire = s.pins.lampHire ∧ (State.ringNotValid i w s).pins.lampCall = s.pins.lampCall ∧
          (State.ringNotValid i w s).pins.lampAlarm = s.pins.lampAlarm ∧ (State.ringNotValid i w s).pins.wake = s.pins.wake := by
  unfold State.ringNotValid; (repeat' split) <;> simp

@[simp] theorem State.ringOpen_fields (i : RingId) (w : Word) (s : State) :
    (State.ringOpen i w s).msgs.flight = s.msgs.flight ∧ (State.ringOpen i w s).msgs.buffer0 = s.msgs.buffer0 ∧
          (State.ringOpen i w s).msgs.buffer1 = s.msgs.buffer1 ∧ (State.ringOpen i w s).msgs.stamp = s.msgs.stamp ∧
          (State.ringOpen i w s).msgs.deposit = s.msgs.deposit ∧ (State.ringOpen i w s).msgs.delivered = s.msgs.delivered ∧
          (State.ringOpen i w s).msgs.paused = s.msgs.paused ∧ (State.ringOpen i w s).msgs.pauseAt = s.msgs.pauseAt ∧
          (State.ringOpen i w s).msgs.resumeAt = s.msgs.resumeAt ∧ (State.ringOpen i w s).msgs.lastOut = s.msgs.lastOut ∧
          (State.ringOpen i w s).path.asel = s.path.asel ∧ (State.ringOpen i w s).path.inReset = s.path.inReset ∧
          (State.ringOpen i w s).path.buffer = s.path.buffer ∧ (State.ringOpen i w s).path.drain = s.path.drain ∧
          (State.ringOpen i w s).path.under = s.path.under ∧ (State.ringOpen i w s).path.internal = s.path.internal ∧
          (State.ringOpen i w s).path.fairness = s.path.fairness ∧ (State.ringOpen i w s).path.resetDrain = s.path.resetDrain ∧
          (State.ringOpen i w s).path.held = s.path.held ∧ (State.ringOpen i w s).path.answer = s.path.answer ∧
          (State.ringOpen i w s).page.enables = s.page.enables ∧ (State.ringOpen i w s).page.counters = s.page.counters ∧
          (State.ringOpen i w s).page.linkUp = s.page.linkUp ∧ (State.ringOpen i w s).page.statusCopy = s.page.statusCopy ∧
          (State.ringOpen i w s).page.shiftCopy = s.page.shiftCopy ∧ (State.ringOpen i w s).page.powerCopy = s.page.powerCopy ∧
          (State.ringOpen i w s).page.enableCopy = s.page.enableCopy ∧ (State.ringOpen i w s).pins.emswClosed = s.pins.emswClosed ∧
          (State.ringOpen i w s).pins.ign = s.pins.ign ∧ (State.ringOpen i w s).pins.lampHire = s.pins.lampHire ∧
          (State.ringOpen i w s).pins.lampCall = s.pins.lampCall ∧ (State.ringOpen i w s).pins.lampAlarm = s.pins.lampAlarm ∧
          (State.ringOpen i w s).pins.wake = s.pins.wake := by
  unfold State.ringOpen; dsimp only; (repeat' split) <;> simp <;> (repeat' split) <;> simp

@[simp] theorem State.dropWaiting_fields (b : BufferId) (s : State) :
    (State.dropWaiting b s).msgs.outbound = s.msgs.outbound ∧ (State.dropWaiting b s).msgs.inbound = s.msgs.inbound ∧
          (State.dropWaiting b s).msgs.triplog = s.msgs.triplog ∧ (State.dropWaiting b s).msgs.flight = s.msgs.flight ∧
          (State.dropWaiting b s).msgs.stamp = s.msgs.stamp ∧ (State.dropWaiting b s).msgs.deposit = s.msgs.deposit ∧
          (State.dropWaiting b s).msgs.delivered = s.msgs.delivered ∧ (State.dropWaiting b s).msgs.paused = s.msgs.paused ∧
          (State.dropWaiting b s).msgs.pauseAt = s.msgs.pauseAt ∧ (State.dropWaiting b s).msgs.resumeAt = s.msgs.resumeAt ∧
          (State.dropWaiting b s).msgs.lastOut = s.msgs.lastOut ∧ (State.dropWaiting b s).page.causes = s.page.causes ∧
          (State.dropWaiting b s).page.enables = s.page.enables ∧ (State.dropWaiting b s).page.busy = s.page.busy ∧
          (State.dropWaiting b s).page.linkUp = s.page.linkUp ∧ (State.dropWaiting b s).page.statusCopy = s.page.statusCopy ∧
          (State.dropWaiting b s).page.shiftCopy = s.page.shiftCopy ∧ (State.dropWaiting b s).page.powerCopy = s.page.powerCopy ∧
          (State.dropWaiting b s).page.enableCopy = s.page.enableCopy := by
  unfold State.dropWaiting; (repeat' split) <;> simp

@[simp] theorem State.closeRing_fields (i : RingId) (s : State) :
    (State.closeRing i s).msgs.flight = s.msgs.flight ∧ (State.closeRing i s).msgs.stamp = s.msgs.stamp ∧
          (State.closeRing i s).msgs.deposit = s.msgs.deposit ∧ (State.closeRing i s).msgs.delivered = s.msgs.delivered ∧
          (State.closeRing i s).msgs.pauseAt = s.msgs.pauseAt ∧ (State.closeRing i s).msgs.resumeAt = s.msgs.resumeAt ∧
          (State.closeRing i s).msgs.lastOut = s.msgs.lastOut ∧ (State.closeRing i s).page.causes = s.page.causes ∧
          (State.closeRing i s).page.enables = s.page.enables ∧ (State.closeRing i s).page.busy = s.page.busy ∧
          (State.closeRing i s).page.linkUp = s.page.linkUp ∧ (State.closeRing i s).page.statusCopy = s.page.statusCopy ∧
          (State.closeRing i s).page.shiftCopy = s.page.shiftCopy ∧ (State.closeRing i s).page.powerCopy = s.page.powerCopy ∧
          (State.closeRing i s).page.enableCopy = s.page.enableCopy ∧ (State.closeRing i s).sched.joinPlace = s.sched.joinPlace ∧
          (State.closeRing i s).sched.joinAttempts = s.sched.joinAttempts ∧ (State.closeRing i s).sched.alertPlace = s.sched.alertPlace ∧
          (State.closeRing i s).sched.alertAttempts = s.sched.alertAttempts ∧ (State.closeRing i s).sched.acks = s.sched.acks ∧
          (State.closeRing i s).sched.bids = s.sched.bids ∧ (State.closeRing i s).sched.slotRequest = s.sched.slotRequest ∧
          (State.closeRing i s).sched.contention = s.sched.contention ∧ (State.closeRing i s).sched.long = s.sched.long ∧
          (State.closeRing i s).sched.requests = s.sched.requests ∧ (State.closeRing i s).sched.grant = s.sched.grant ∧
          (State.closeRing i s).sched.draws = s.sched.draws ∧ (State.closeRing i s).sched.seed = s.sched.seed ∧
          (State.closeRing i s).radio.receiverOn = s.radio.receiverOn ∧ (State.closeRing i s).radio.channel = s.radio.channel ∧
          (State.closeRing i s).radio.output = s.radio.output ∧ (State.closeRing i s).pins.emswClosed = s.pins.emswClosed ∧
          (State.closeRing i s).pins.ign = s.pins.ign ∧ (State.closeRing i s).pins.attn = s.pins.attn ∧
          (State.closeRing i s).pins.wake = s.pins.wake := by
  unfold State.closeRing; dsimp only; (repeat' split) <;> simp <;> (repeat' split) <;> simp

@[simp] theorem State.ringClose_fields (i : RingId) (w : Word) (s : State) :
    (State.ringClose i w s).msgs.flight = s.msgs.flight ∧ (State.ringClose i w s).msgs.stamp = s.msgs.stamp ∧
          (State.ringClose i w s).msgs.deposit = s.msgs.deposit ∧ (State.ringClose i w s).msgs.delivered = s.msgs.delivered ∧
          (State.ringClose i w s).msgs.pauseAt = s.msgs.pauseAt ∧ (State.ringClose i w s).msgs.resumeAt = s.msgs.resumeAt ∧
          (State.ringClose i w s).msgs.lastOut = s.msgs.lastOut ∧ (State.ringClose i w s).page.enables = s.page.enables ∧
          (State.ringClose i w s).page.linkUp = s.page.linkUp ∧ (State.ringClose i w s).page.statusCopy = s.page.statusCopy ∧
          (State.ringClose i w s).page.shiftCopy = s.page.shiftCopy ∧ (State.ringClose i w s).page.powerCopy = s.page.powerCopy ∧
          (State.ringClose i w s).page.enableCopy = s.page.enableCopy ∧ (State.ringClose i w s).sched.joinPlace = s.sched.joinPlace ∧
          (State.ringClose i w s).sched.joinAttempts = s.sched.joinAttempts ∧
          (State.ringClose i w s).sched.alertPlace = s.sched.alertPlace ∧
          (State.ringClose i w s).sched.alertAttempts = s.sched.alertAttempts ∧ (State.ringClose i w s).sched.acks = s.sched.acks ∧
          (State.ringClose i w s).sched.bids = s.sched.bids ∧ (State.ringClose i w s).sched.slotRequest = s.sched.slotRequest ∧
          (State.ringClose i w s).sched.contention = s.sched.contention ∧ (State.ringClose i w s).sched.long = s.sched.long ∧
          (State.ringClose i w s).sched.requests = s.sched.requests ∧ (State.ringClose i w s).sched.grant = s.sched.grant ∧
          (State.ringClose i w s).sched.draws = s.sched.draws ∧ (State.ringClose i w s).sched.seed = s.sched.seed ∧
          (State.ringClose i w s).radio.receiverOn = s.radio.receiverOn ∧ (State.ringClose i w s).radio.channel = s.radio.channel ∧
          (State.ringClose i w s).radio.output = s.radio.output ∧ (State.ringClose i w s).pins.emswClosed = s.pins.emswClosed ∧
          (State.ringClose i w s).pins.ign = s.pins.ign ∧ (State.ringClose i w s).pins.wake = s.pins.wake := by
  unfold State.ringClose; (repeat' split) <;> simp

@[simp] theorem State.ringControl_fields (i : RingId) (l : Lanes) (d : Word) (s : State) :
    (State.ringControl i l d s).msgs.flight = s.msgs.flight ∧ (State.ringControl i l d s).msgs.stamp = s.msgs.stamp ∧
          (State.ringControl i l d s).msgs.deposit = s.msgs.deposit ∧ (State.ringControl i l d s).msgs.delivered = s.msgs.delivered ∧
          (State.ringControl i l d s).msgs.pauseAt = s.msgs.pauseAt ∧ (State.ringControl i l d s).msgs.resumeAt = s.msgs.resumeAt ∧
          (State.ringControl i l d s).msgs.lastOut = s.msgs.lastOut ∧ (State.ringControl i l d s).page.enables = s.page.enables ∧
          (State.ringControl i l d s).page.linkUp = s.page.linkUp ∧ (State.ringControl i l d s).page.statusCopy = s.page.statusCopy ∧
          (State.ringControl i l d s).page.shiftCopy = s.page.shiftCopy ∧ (State.ringControl i l d s).page.powerCopy = s.page.powerCopy ∧
          (State.ringControl i l d s).page.enableCopy = s.page.enableCopy ∧
          (State.ringControl i l d s).sched.joinPlace = s.sched.joinPlace ∧
          (State.ringControl i l d s).sched.joinAttempts = s.sched.joinAttempts ∧
          (State.ringControl i l d s).sched.alertPlace = s.sched.alertPlace ∧
          (State.ringControl i l d s).sched.alertAttempts = s.sched.alertAttempts ∧
          (State.ringControl i l d s).sched.acks = s.sched.acks ∧ (State.ringControl i l d s).sched.bids = s.sched.bids ∧
          (State.ringControl i l d s).sched.slotRequest = s.sched.slotRequest ∧
          (State.ringControl i l d s).sched.contention = s.sched.contention ∧ (State.ringControl i l d s).sched.long = s.sched.long ∧
          (State.ringControl i l d s).sched.requests = s.sched.requests ∧ (State.ringControl i l d s).sched.grant = s.sched.grant ∧
          (State.ringControl i l d s).sched.draws = s.sched.draws ∧ (State.ringControl i l d s).sched.seed = s.sched.seed ∧
          (State.ringControl i l d s).radio.receiverOn = s.radio.receiverOn ∧
          (State.ringControl i l d s).radio.channel = s.radio.channel ∧ (State.ringControl i l d s).radio.output = s.radio.output ∧
          (State.ringControl i l d s).pins.emswClosed = s.pins.emswClosed ∧ (State.ringControl i l d s).pins.ign = s.pins.ign ∧
          (State.ringControl i l d s).pins.wake = s.pins.wake ∧ (State.ringControl i l d s).path.asel = s.path.asel ∧
          (State.ringControl i l d s).path.inReset = s.path.inReset ∧ (State.ringControl i l d s).path.buffer = s.path.buffer ∧
          (State.ringControl i l d s).path.drain = s.path.drain ∧ (State.ringControl i l d s).path.under = s.path.under ∧
          (State.ringControl i l d s).path.internal = s.path.internal ∧ (State.ringControl i l d s).path.fairness = s.path.fairness ∧
          (State.ringControl i l d s).path.resetDrain = s.path.resetDrain ∧ (State.ringControl i l d s).path.held = s.path.held ∧
          (State.ringControl i l d s).path.answer = s.path.answer := by
  unfold State.ringControl; dsimp only; (repeat' split) <;> simp <;> (repeat' split) <;> simp

@[simp] theorem State.descriptorWrite_fields (i : RingId) (p : DescriptorWord) (l : Lanes) (d : Word) (s : State) :
    (State.descriptorWrite i p l d s).msgs.flight = s.msgs.flight ∧ (State.descriptorWrite i p l d s).msgs.buffer0 = s.msgs.buffer0 ∧
          (State.descriptorWrite i p l d s).msgs.buffer1 = s.msgs.buffer1 ∧ (State.descriptorWrite i p l d s).msgs.stamp = s.msgs.stamp ∧
          (State.descriptorWrite i p l d s).msgs.deposit = s.msgs.deposit ∧
          (State.descriptorWrite i p l d s).msgs.delivered = s.msgs.delivered ∧
          (State.descriptorWrite i p l d s).msgs.paused = s.msgs.paused ∧
          (State.descriptorWrite i p l d s).msgs.pauseAt = s.msgs.pauseAt ∧
          (State.descriptorWrite i p l d s).msgs.resumeAt = s.msgs.resumeAt ∧
          (State.descriptorWrite i p l d s).msgs.lastOut = s.msgs.lastOut := by
  unfold State.descriptorWrite; (repeat' split) <;> simp

@[simp] theorem State.pointerMoved_fields (i : RingId) (s : State) :
    (State.pointerMoved i s).msgs.outbound = s.msgs.outbound ∧ (State.pointerMoved i s).msgs.inbound = s.msgs.inbound ∧
          (State.pointerMoved i s).msgs.triplog = s.msgs.triplog ∧ (State.pointerMoved i s).msgs.buffer0 = s.msgs.buffer0 ∧
          (State.pointerMoved i s).msgs.buffer1 = s.msgs.buffer1 ∧ (State.pointerMoved i s).msgs.stamp = s.msgs.stamp ∧
          (State.pointerMoved i s).msgs.deposit = s.msgs.deposit ∧ (State.pointerMoved i s).msgs.delivered = s.msgs.delivered ∧
          (State.pointerMoved i s).msgs.pauseAt = s.msgs.pauseAt ∧ (State.pointerMoved i s).msgs.resumeAt = s.msgs.resumeAt ∧
          (State.pointerMoved i s).msgs.lastOut = s.msgs.lastOut ∧ (State.pointerMoved i s).path.asel = s.path.asel ∧
          (State.pointerMoved i s).path.inReset = s.path.inReset ∧ (State.pointerMoved i s).path.buffer = s.path.buffer ∧
          (State.pointerMoved i s).path.drain = s.path.drain ∧ (State.pointerMoved i s).path.under = s.path.under ∧
          (State.pointerMoved i s).path.internal = s.path.internal ∧ (State.pointerMoved i s).path.fairness = s.path.fairness ∧
          (State.pointerMoved i s).path.resetDrain = s.path.resetDrain ∧ (State.pointerMoved i s).path.held = s.path.held ∧
          (State.pointerMoved i s).path.answer = s.path.answer ∧ (State.pointerMoved i s).sched.joinPlace = s.sched.joinPlace ∧
          (State.pointerMoved i s).sched.joinAttempts = s.sched.joinAttempts ∧
          (State.pointerMoved i s).sched.alertPlace = s.sched.alertPlace ∧
          (State.pointerMoved i s).sched.alertAttempts = s.sched.alertAttempts ∧ (State.pointerMoved i s).sched.acks = s.sched.acks ∧
          (State.pointerMoved i s).sched.bids = s.sched.bids ∧ (State.pointerMoved i s).sched.slotRequest = s.sched.slotRequest ∧
          (State.pointerMoved i s).sched.contention = s.sched.contention ∧ (State.pointerMoved i s).sched.long = s.sched.long ∧
          (State.pointerMoved i s).sched.requests = s.sched.requests ∧ (State.pointerMoved i s).sched.grant = s.sched.grant ∧
          (State.pointerMoved i s).sched.draws = s.sched.draws ∧ (State.pointerMoved i s).sched.seed = s.sched.seed ∧
          (State.pointerMoved i s).radio.receiverOn = s.radio.receiverOn ∧ (State.pointerMoved i s).radio.channel = s.radio.channel ∧
          (State.pointerMoved i s).radio.output = s.radio.output ∧ (State.pointerMoved i s).pins.emswClosed = s.pins.emswClosed ∧
          (State.pointerMoved i s).pins.ign = s.pins.ign ∧ (State.pointerMoved i s).pins.attn = s.pins.attn ∧
          (State.pointerMoved i s).pins.wake = s.pins.wake ∧ (State.pointerMoved i s).trips.trip = s.trips.trip ∧
          (State.pointerMoved i s).trips.counter = s.trips.counter ∧ (State.pointerMoved i s).trips.components = s.trips.components ∧
          (State.pointerMoved i s).trips.silence = s.trips.silence ∧ (State.pointerMoved i s).trips.lastFault = s.trips.lastFault ∧
          (State.pointerMoved i s).trips.lastRef = s.trips.lastRef ∧ (State.pointerMoved i s).trips.reports = s.trips.reports ∧
          (State.pointerMoved i s).trips.abandoned = s.trips.abandoned ∧
          (State.pointerMoved i s).trips.shiftReport = s.trips.shiftReport ∧ (State.pointerMoved i s).trips.totals = s.trips.totals ∧
          (State.pointerMoved i s).trips.captured = s.trips.captured ∧ (State.pointerMoved i s).trips.meterCopy = s.trips.meterCopy ∧
          (State.pointerMoved i s).trips.totalsCopy = s.trips.totalsCopy := by
  unfold State.pointerMoved; (repeat' split) <;> simp

@[simp] theorem State.pointerWrite_fields (i : RingId) (l : Lanes) (d : Word) (s : State) :
    (State.pointerWrite i l d s).msgs.buffer0 = s.msgs.buffer0 ∧ (State.pointerWrite i l d s).msgs.buffer1 = s.msgs.buffer1 ∧
          (State.pointerWrite i l d s).msgs.stamp = s.msgs.stamp ∧ (State.pointerWrite i l d s).msgs.deposit = s.msgs.deposit ∧
          (State.pointerWrite i l d s).msgs.delivered = s.msgs.delivered ∧ (State.pointerWrite i l d s).msgs.pauseAt = s.msgs.pauseAt ∧
          (State.pointerWrite i l d s).msgs.resumeAt = s.msgs.resumeAt ∧ (State.pointerWrite i l d s).msgs.lastOut = s.msgs.lastOut ∧
          (State.pointerWrite i l d s).path.asel = s.path.asel ∧ (State.pointerWrite i l d s).path.inReset = s.path.inReset ∧
          (State.pointerWrite i l d s).path.buffer = s.path.buffer ∧ (State.pointerWrite i l d s).path.drain = s.path.drain ∧
          (State.pointerWrite i l d s).path.under = s.path.under ∧ (State.pointerWrite i l d s).path.internal = s.path.internal ∧
          (State.pointerWrite i l d s).path.fairness = s.path.fairness ∧
          (State.pointerWrite i l d s).path.resetDrain = s.path.resetDrain ∧ (State.pointerWrite i l d s).path.held = s.path.held ∧
          (State.pointerWrite i l d s).path.answer = s.path.answer ∧ (State.pointerWrite i l d s).sched.joinPlace = s.sched.joinPlace ∧
          (State.pointerWrite i l d s).sched.joinAttempts = s.sched.joinAttempts ∧
          (State.pointerWrite i l d s).sched.alertPlace = s.sched.alertPlace ∧
          (State.pointerWrite i l d s).sched.alertAttempts = s.sched.alertAttempts ∧
          (State.pointerWrite i l d s).sched.acks = s.sched.acks ∧ (State.pointerWrite i l d s).sched.bids = s.sched.bids ∧
          (State.pointerWrite i l d s).sched.slotRequest = s.sched.slotRequest ∧
          (State.pointerWrite i l d s).sched.contention = s.sched.contention ∧ (State.pointerWrite i l d s).sched.long = s.sched.long ∧
          (State.pointerWrite i l d s).sched.requests = s.sched.requests ∧ (State.pointerWrite i l d s).sched.grant = s.sched.grant ∧
          (State.pointerWrite i l d s).sched.draws = s.sched.draws ∧ (State.pointerWrite i l d s).sched.seed = s.sched.seed ∧
          (State.pointerWrite i l d s).radio.receiverOn = s.radio.receiverOn ∧
          (State.pointerWrite i l d s).radio.channel = s.radio.channel ∧ (State.pointerWrite i l d s).radio.output = s.radio.output ∧
          (State.pointerWrite i l d s).pins.emswClosed = s.pins.emswClosed ∧ (State.pointerWrite i l d s).pins.ign = s.pins.ign ∧
          (State.pointerWrite i l d s).pins.wake = s.pins.wake ∧ (State.pointerWrite i l d s).trips.trip = s.trips.trip ∧
          (State.pointerWrite i l d s).trips.counter = s.trips.counter ∧
          (State.pointerWrite i l d s).trips.components = s.trips.components ∧
          (State.pointerWrite i l d s).trips.silence = s.trips.silence ∧
          (State.pointerWrite i l d s).trips.lastFault = s.trips.lastFault ∧
          (State.pointerWrite i l d s).trips.lastRef = s.trips.lastRef ∧ (State.pointerWrite i l d s).trips.reports = s.trips.reports ∧
          (State.pointerWrite i l d s).trips.abandoned = s.trips.abandoned ∧
          (State.pointerWrite i l d s).trips.shiftReport = s.trips.shiftReport ∧
          (State.pointerWrite i l d s).trips.totals = s.trips.totals ∧ (State.pointerWrite i l d s).trips.captured = s.trips.captured ∧
          (State.pointerWrite i l d s).trips.meterCopy = s.trips.meterCopy ∧
          (State.pointerWrite i l d s).trips.totalsCopy = s.trips.totalsCopy ∧
          (State.pointerWrite i l d s).page.enables = s.page.enables ∧ (State.pointerWrite i l d s).page.counters = s.page.counters ∧
          (State.pointerWrite i l d s).page.linkUp = s.page.linkUp ∧ (State.pointerWrite i l d s).page.statusCopy = s.page.statusCopy ∧
          (State.pointerWrite i l d s).page.shiftCopy = s.page.shiftCopy ∧
          (State.pointerWrite i l d s).page.powerCopy = s.page.powerCopy ∧
          (State.pointerWrite i l d s).page.enableCopy = s.page.enableCopy := by
  unfold State.pointerWrite; dsimp only; (repeat' split) <;> simp <;> (repeat' split) <;> simp

@[simp] theorem State.endOpenCheck_fields (i : RingId) (h : HeaderWords) (s : State) :
    (State.endOpenCheck i h s).msgs.buffer0 = s.msgs.buffer0 ∧ (State.endOpenCheck i h s).msgs.buffer1 = s.msgs.buffer1 ∧
          (State.endOpenCheck i h s).msgs.stamp = s.msgs.stamp ∧ (State.endOpenCheck i h s).msgs.deposit = s.msgs.deposit ∧
          (State.endOpenCheck i h s).msgs.delivered = s.msgs.delivered ∧ (State.endOpenCheck i h s).msgs.pauseAt = s.msgs.pauseAt ∧
          (State.endOpenCheck i h s).msgs.resumeAt = s.msgs.resumeAt ∧ (State.endOpenCheck i h s).msgs.lastOut = s.msgs.lastOut ∧
          (State.endOpenCheck i h s).path.asel = s.path.asel ∧ (State.endOpenCheck i h s).path.inReset = s.path.inReset ∧
          (State.endOpenCheck i h s).path.buffer = s.path.buffer ∧ (State.endOpenCheck i h s).path.drain = s.path.drain ∧
          (State.endOpenCheck i h s).path.under = s.path.under ∧ (State.endOpenCheck i h s).path.internal = s.path.internal ∧
          (State.endOpenCheck i h s).path.fairness = s.path.fairness ∧ (State.endOpenCheck i h s).path.resetDrain = s.path.resetDrain ∧
          (State.endOpenCheck i h s).path.held = s.path.held ∧ (State.endOpenCheck i h s).path.answer = s.path.answer ∧
          (State.endOpenCheck i h s).sched.joinPlace = s.sched.joinPlace ∧
          (State.endOpenCheck i h s).sched.joinAttempts = s.sched.joinAttempts ∧
          (State.endOpenCheck i h s).sched.alertPlace = s.sched.alertPlace ∧
          (State.endOpenCheck i h s).sched.alertAttempts = s.sched.alertAttempts ∧ (State.endOpenCheck i h s).sched.acks = s.sched.acks ∧
          (State.endOpenCheck i h s).sched.bids = s.sched.bids ∧ (State.endOpenCheck i h s).sched.slotRequest = s.sched.slotRequest ∧
          (State.endOpenCheck i h s).sched.contention = s.sched.contention ∧ (State.endOpenCheck i h s).sched.long = s.sched.long ∧
          (State.endOpenCheck i h s).sched.requests = s.sched.requests ∧ (State.endOpenCheck i h s).sched.grant = s.sched.grant ∧
          (State.endOpenCheck i h s).sched.draws = s.sched.draws ∧ (State.endOpenCheck i h s).sched.seed = s.sched.seed ∧
          (State.endOpenCheck i h s).radio.receiverOn = s.radio.receiverOn ∧ (State.endOpenCheck i h s).radio.channel = s.radio.channel ∧
          (State.endOpenCheck i h s).radio.output = s.radio.output ∧ (State.endOpenCheck i h s).pins.emswClosed = s.pins.emswClosed ∧
          (State.endOpenCheck i h s).pins.ign = s.pins.ign ∧ (State.endOpenCheck i h s).pins.wake = s.pins.wake ∧
          (State.endOpenCheck i h s).trips.trip = s.trips.trip ∧ (State.endOpenCheck i h s).trips.counter = s.trips.counter ∧
          (State.endOpenCheck i h s).trips.components = s.trips.components ∧ (State.endOpenCheck i h s).trips.silence = s.trips.silence ∧
          (State.endOpenCheck i h s).trips.lastFault = s.trips.lastFault ∧ (State.endOpenCheck i h s).trips.lastRef = s.trips.lastRef ∧
          (State.endOpenCheck i h s).trips.reports = s.trips.reports ∧ (State.endOpenCheck i h s).trips.abandoned = s.trips.abandoned ∧
          (State.endOpenCheck i h s).trips.shiftReport = s.trips.shiftReport ∧ (State.endOpenCheck i h s).trips.totals = s.trips.totals ∧
          (State.endOpenCheck i h s).trips.captured = s.trips.captured ∧ (State.endOpenCheck i h s).trips.meterCopy = s.trips.meterCopy ∧
          (State.endOpenCheck i h s).trips.totalsCopy = s.trips.totalsCopy ∧ (State.endOpenCheck i h s).page.enables = s.page.enables ∧
          (State.endOpenCheck i h s).page.counters = s.page.counters ∧ (State.endOpenCheck i h s).page.linkUp = s.page.linkUp ∧
          (State.endOpenCheck i h s).page.statusCopy = s.page.statusCopy ∧ (State.endOpenCheck i h s).page.shiftCopy = s.page.shiftCopy ∧
          (State.endOpenCheck i h s).page.powerCopy = s.page.powerCopy ∧
          (State.endOpenCheck i h s).page.enableCopy = s.page.enableCopy := by
  unfold State.endOpenCheck; dsimp only; (repeat' split) <;> simp <;> (repeat' split) <;> simp

@[simp] theorem State.softResetMessages_fields (s : State) :
    (State.softResetMessages s).msgs.stamp = s.msgs.stamp ∧ (State.softResetMessages s).msgs.pauseAt = s.msgs.pauseAt ∧
          (State.softResetMessages s).msgs.resumeAt = s.msgs.resumeAt ∧
          (State.softResetMessages s).radio.receiverOn = s.radio.receiverOn ∧
          (State.softResetMessages s).radio.channel = s.radio.channel ∧ (State.softResetMessages s).radio.output = s.radio.output := by
  unfold State.softResetMessages; (repeat' split) <;> simp

@[simp] theorem State.exitJoined_fields (s : State) :
    (State.exitJoined s).sched.joinPlace = s.sched.joinPlace ∧ (State.exitJoined s).sched.joinAttempts = s.sched.joinAttempts ∧
          (State.exitJoined s).sched.alertPlace = s.sched.alertPlace ∧ (State.exitJoined s).sched.acks = s.sched.acks ∧
          (State.exitJoined s).sched.flowPlace = s.sched.flowPlace ∧ (State.exitJoined s).sched.statusPlace = s.sched.statusPlace ∧
          (State.exitJoined s).sched.draws = s.sched.draws ∧ (State.exitJoined s).sched.seed = s.sched.seed ∧
          (State.exitJoined s).radio.receiverOn = s.radio.receiverOn ∧ (State.exitJoined s).radio.channel = s.radio.channel ∧
          (State.exitJoined s).radio.output = s.radio.output ∧ (State.exitJoined s).msgs.outbound = s.msgs.outbound ∧
          (State.exitJoined s).msgs.inbound = s.msgs.inbound ∧ (State.exitJoined s).msgs.triplog = s.msgs.triplog ∧
          (State.exitJoined s).msgs.buffer0 = s.msgs.buffer0 ∧ (State.exitJoined s).msgs.buffer1 = s.msgs.buffer1 ∧
          (State.exitJoined s).msgs.stamp = s.msgs.stamp ∧ (State.exitJoined s).msgs.deposit = s.msgs.deposit ∧
          (State.exitJoined s).msgs.delivered = s.msgs.delivered ∧ (State.exitJoined s).msgs.paused = s.msgs.paused ∧
          (State.exitJoined s).msgs.pauseAt = s.msgs.pauseAt ∧ (State.exitJoined s).msgs.resumeAt = s.msgs.resumeAt ∧
          (State.exitJoined s).msgs.lastOut = s.msgs.lastOut ∧ (State.exitJoined s).page.enables = s.page.enables ∧
          (State.exitJoined s).page.counters = s.page.counters ∧ (State.exitJoined s).page.statusCopy = s.page.statusCopy ∧
          (State.exitJoined s).page.shiftCopy = s.page.shiftCopy ∧ (State.exitJoined s).page.powerCopy = s.page.powerCopy ∧
          (State.exitJoined s).page.enableCopy = s.page.enableCopy ∧ (State.exitJoined s).pins.emswClosed = s.pins.emswClosed ∧
          (State.exitJoined s).pins.ign = s.pins.ign ∧ (State.exitJoined s).pins.lampHire = s.pins.lampHire ∧
          (State.exitJoined s).pins.lampCall = s.pins.lampCall ∧ (State.exitJoined s).pins.lampAlarm = s.pins.lampAlarm ∧
          (State.exitJoined s).pins.wake = s.pins.wake := by
  unfold State.exitJoined; (repeat' split) <;> simp

@[simp] theorem State.leaveJoin_fields (s : State) :
    (State.leaveJoin s).sched.joinAttempts = s.sched.joinAttempts ∧ (State.leaveJoin s).sched.alertPlace = s.sched.alertPlace ∧
          (State.leaveJoin s).sched.alertAttempts = s.sched.alertAttempts ∧ (State.leaveJoin s).sched.acks = s.sched.acks ∧
          (State.leaveJoin s).sched.bids = s.sched.bids ∧ (State.leaveJoin s).sched.flowPlace = s.sched.flowPlace ∧
          (State.leaveJoin s).sched.slotRequest = s.sched.slotRequest ∧ (State.leaveJoin s).sched.statusPlace = s.sched.statusPlace ∧
          (State.leaveJoin s).sched.long = s.sched.long ∧ (State.leaveJoin s).sched.requests = s.sched.requests ∧
          (State.leaveJoin s).sched.grant = s.sched.grant ∧ (State.leaveJoin s).sched.draws = s.sched.draws ∧
          (State.leaveJoin s).sched.seed = s.sched.seed ∧ (State.leaveJoin s).radio.receiverOn = s.radio.receiverOn ∧
          (State.leaveJoin s).radio.channel = s.radio.channel ∧ (State.leaveJoin s).radio.output = s.radio.output ∧
          (State.leaveJoin s).link.state = s.link.state ∧ (State.leaveJoin s).link.channels = s.link.channels ∧
          (State.leaveJoin s).link.candidates = s.link.candidates ∧ (State.leaveJoin s).link.joining = s.link.joining ∧
          (State.leaveJoin s).link.site = s.link.site ∧ (State.leaveJoin s).link.loss = s.link.loss ∧
          (State.leaveJoin s).link.hunt = s.link.hunt ∧ (State.leaveJoin s).link.cycle = s.link.cycle ∧
          (State.leaveJoin s).link.nextSlot = s.link.nextSlot ∧ (State.leaveJoin s).link.window = s.link.window ∧
          (State.leaveJoin s).link.beaconIn = s.link.beaconIn ∧ (State.leaveJoin s).link.contention = s.link.contention ∧
          (State.leaveJoin s).link.clock = s.link.clock ∧ (State.leaveJoin s).link.seconds = s.link.seconds ∧
          (State.leaveJoin s).link.clockUpper = s.link.clockUpper ∧ (State.leaveJoin s).link.attempts = s.link.attempts ∧
          (State.leaveJoin s).link.quiet = s.link.quiet := by
  unfold State.leaveJoin; (repeat' split) <;> simp

@[simp] theorem State.exitLink_fields (s : State) :
    (State.exitLink s).sched.joinAttempts = s.sched.joinAttempts ∧ (State.exitLink s).sched.alertPlace = s.sched.alertPlace ∧
          (State.exitLink s).sched.acks = s.sched.acks ∧ (State.exitLink s).sched.flowPlace = s.sched.flowPlace ∧
          (State.exitLink s).sched.statusPlace = s.sched.statusPlace ∧ (State.exitLink s).sched.draws = s.sched.draws ∧
          (State.exitLink s).sched.seed = s.sched.seed ∧ (State.exitLink s).radio.receiverOn = s.radio.receiverOn ∧
          (State.exitLink s).radio.channel = s.radio.channel ∧ (State.exitLink s).radio.output = s.radio.output ∧
          (State.exitLink s).msgs.outbound = s.msgs.outbound ∧ (State.exitLink s).msgs.inbound = s.msgs.inbound ∧
          (State.exitLink s).msgs.triplog = s.msgs.triplog ∧ (State.exitLink s).msgs.buffer0 = s.msgs.buffer0 ∧
          (State.exitLink s).msgs.buffer1 = s.msgs.buffer1 ∧ (State.exitLink s).msgs.stamp = s.msgs.stamp ∧
          (State.exitLink s).msgs.deposit = s.msgs.deposit ∧ (State.exitLink s).msgs.delivered = s.msgs.delivered ∧
          (State.exitLink s).msgs.paused = s.msgs.paused ∧ (State.exitLink s).msgs.pauseAt = s.msgs.pauseAt ∧
          (State.exitLink s).msgs.resumeAt = s.msgs.resumeAt ∧ (State.exitLink s).msgs.lastOut = s.msgs.lastOut ∧
          (State.exitLink s).page.enables = s.page.enables ∧ (State.exitLink s).page.counters = s.page.counters ∧
          (State.exitLink s).page.statusCopy = s.page.statusCopy ∧ (State.exitLink s).page.shiftCopy = s.page.shiftCopy ∧
          (State.exitLink s).page.powerCopy = s.page.powerCopy ∧ (State.exitLink s).page.enableCopy = s.page.enableCopy ∧
          (State.exitLink s).pins.emswClosed = s.pins.emswClosed ∧ (State.exitLink s).pins.ign = s.pins.ign ∧
          (State.exitLink s).pins.lampHire = s.pins.lampHire ∧ (State.exitLink s).pins.lampCall = s.pins.lampCall ∧
          (State.exitLink s).pins.lampAlarm = s.pins.lampAlarm ∧ (State.exitLink s).pins.wake = s.pins.wake ∧
          (State.exitLink s).link.state = s.link.state ∧ (State.exitLink s).link.channels = s.link.channels ∧
          (State.exitLink s).link.candidates = s.link.candidates ∧ (State.exitLink s).link.joining = s.link.joining ∧
          (State.exitLink s).link.site = s.link.site ∧ (State.exitLink s).link.loss = s.link.loss ∧
          (State.exitLink s).link.hunt = s.link.hunt ∧ (State.exitLink s).link.cycle = s.link.cycle ∧
          (State.exitLink s).link.nextSlot = s.link.nextSlot ∧ (State.exitLink s).link.window = s.link.window ∧
          (State.exitLink s).link.beaconIn = s.link.beaconIn ∧ (State.exitLink s).link.contention = s.link.contention ∧
          (State.exitLink s).link.clock = s.link.clock ∧ (State.exitLink s).link.seconds = s.link.seconds ∧
          (State.exitLink s).link.clockUpper = s.link.clockUpper ∧ (State.exitLink s).link.attempts = s.link.attempts ∧
          (State.exitLink s).link.quiet = s.link.quiet := by
  unfold State.exitLink; (repeat' split) <;> simp

@[simp] theorem State.enterQuiet_fields (b : Bool) (s : State) :
    (State.enterQuiet b s).sched.joinAttempts = s.sched.joinAttempts ∧ (State.enterQuiet b s).sched.alertPlace = s.sched.alertPlace ∧
          (State.enterQuiet b s).sched.acks = s.sched.acks ∧ (State.enterQuiet b s).sched.flowPlace = s.sched.flowPlace ∧
          (State.enterQuiet b s).sched.statusPlace = s.sched.statusPlace ∧ (State.enterQuiet b s).sched.draws = s.sched.draws ∧
          (State.enterQuiet b s).sched.seed = s.sched.seed ∧ (State.enterQuiet b s).msgs.outbound = s.msgs.outbound ∧
          (State.enterQuiet b s).msgs.inbound = s.msgs.inbound ∧ (State.enterQuiet b s).msgs.triplog = s.msgs.triplog ∧
          (State.enterQuiet b s).msgs.buffer0 = s.msgs.buffer0 ∧ (State.enterQuiet b s).msgs.buffer1 = s.msgs.buffer1 ∧
          (State.enterQuiet b s).msgs.stamp = s.msgs.stamp ∧ (State.enterQuiet b s).msgs.deposit = s.msgs.deposit ∧
          (State.enterQuiet b s).msgs.delivered = s.msgs.delivered ∧ (State.enterQuiet b s).msgs.paused = s.msgs.paused ∧
          (State.enterQuiet b s).msgs.pauseAt = s.msgs.pauseAt ∧ (State.enterQuiet b s).msgs.resumeAt = s.msgs.resumeAt ∧
          (State.enterQuiet b s).msgs.lastOut = s.msgs.lastOut ∧ (State.enterQuiet b s).page.enables = s.page.enables ∧
          (State.enterQuiet b s).page.counters = s.page.counters ∧ (State.enterQuiet b s).page.statusCopy = s.page.statusCopy ∧
          (State.enterQuiet b s).page.shiftCopy = s.page.shiftCopy ∧ (State.enterQuiet b s).page.powerCopy = s.page.powerCopy ∧
          (State.enterQuiet b s).page.enableCopy = s.page.enableCopy ∧ (State.enterQuiet b s).pins.emswClosed = s.pins.emswClosed ∧
          (State.enterQuiet b s).pins.ign = s.pins.ign ∧ (State.enterQuiet b s).pins.lampHire = s.pins.lampHire ∧
          (State.enterQuiet b s).pins.lampCall = s.pins.lampCall ∧ (State.enterQuiet b s).pins.lampAlarm = s.pins.lampAlarm ∧
          (State.enterQuiet b s).pins.wake = s.pins.wake ∧ (State.enterQuiet b s).link.channels = s.link.channels ∧
          (State.enterQuiet b s).link.cycle = s.link.cycle ∧ (State.enterQuiet b s).link.nextSlot = s.link.nextSlot ∧
          (State.enterQuiet b s).link.window = s.link.window ∧ (State.enterQuiet b s).link.beaconIn = s.link.beaconIn ∧
          (State.enterQuiet b s).link.contention = s.link.contention ∧ (State.enterQuiet b s).link.clock = s.link.clock ∧
          (State.enterQuiet b s).link.seconds = s.link.seconds ∧ (State.enterQuiet b s).link.clockUpper = s.link.clockUpper := by
  unfold State.enterQuiet; dsimp only; (repeat' split) <;> simp <;> (repeat' split) <;> simp

@[simp] theorem State.enterOff_fields (s : State) :
    (State.enterOff s).sched.joinAttempts = s.sched.joinAttempts ∧ (State.enterOff s).sched.alertPlace = s.sched.alertPlace ∧
          (State.enterOff s).sched.acks = s.sched.acks ∧ (State.enterOff s).sched.flowPlace = s.sched.flowPlace ∧
          (State.enterOff s).sched.statusPlace = s.sched.statusPlace ∧ (State.enterOff s).sched.draws = s.sched.draws ∧
          (State.enterOff s).sched.seed = s.sched.seed ∧ (State.enterOff s).msgs.outbound = s.msgs.outbound ∧
          (State.enterOff s).msgs.inbound = s.msgs.inbound ∧ (State.enterOff s).msgs.triplog = s.msgs.triplog ∧
          (State.enterOff s).msgs.buffer0 = s.msgs.buffer0 ∧ (State.enterOff s).msgs.buffer1 = s.msgs.buffer1 ∧
          (State.enterOff s).msgs.stamp = s.msgs.stamp ∧ (State.enterOff s).msgs.deposit = s.msgs.deposit ∧
          (State.enterOff s).msgs.delivered = s.msgs.delivered ∧ (State.enterOff s).msgs.paused = s.msgs.paused ∧
          (State.enterOff s).msgs.pauseAt = s.msgs.pauseAt ∧ (State.enterOff s).msgs.resumeAt = s.msgs.resumeAt ∧
          (State.enterOff s).msgs.lastOut = s.msgs.lastOut ∧ (State.enterOff s).page.enables = s.page.enables ∧
          (State.enterOff s).page.counters = s.page.counters ∧ (State.enterOff s).page.statusCopy = s.page.statusCopy ∧
          (State.enterOff s).page.shiftCopy = s.page.shiftCopy ∧ (State.enterOff s).page.powerCopy = s.page.powerCopy ∧
          (State.enterOff s).page.enableCopy = s.page.enableCopy ∧ (State.enterOff s).pins.emswClosed = s.pins.emswClosed ∧
          (State.enterOff s).pins.ign = s.pins.ign ∧ (State.enterOff s).pins.lampHire = s.pins.lampHire ∧
          (State.enterOff s).pins.lampCall = s.pins.lampCall ∧ (State.enterOff s).pins.lampAlarm = s.pins.lampAlarm ∧
          (State.enterOff s).pins.wake = s.pins.wake ∧ (State.enterOff s).link.channels = s.link.channels ∧
          (State.enterOff s).link.cycle = s.link.cycle ∧ (State.enterOff s).link.nextSlot = s.link.nextSlot ∧
          (State.enterOff s).link.window = s.link.window ∧ (State.enterOff s).link.beaconIn = s.link.beaconIn ∧
          (State.enterOff s).link.contention = s.link.contention ∧ (State.enterOff s).link.clock = s.link.clock ∧
          (State.enterOff s).link.seconds = s.link.seconds ∧ (State.enterOff s).link.clockUpper = s.link.clockUpper := by
  unfold State.enterOff; (repeat' split) <;> simp

@[simp] theorem State.enterJoin_fields (c : Candidate) (s : State) :
    (State.enterJoin c s).sched.alertPlace = s.sched.alertPlace ∧ (State.enterJoin c s).sched.alertAttempts = s.sched.alertAttempts ∧
          (State.enterJoin c s).sched.acks = s.sched.acks ∧ (State.enterJoin c s).sched.bids = s.sched.bids ∧
          (State.enterJoin c s).sched.flowPlace = s.sched.flowPlace ∧ (State.enterJoin c s).sched.slotRequest = s.sched.slotRequest ∧
          (State.enterJoin c s).sched.statusPlace = s.sched.statusPlace ∧ (State.enterJoin c s).sched.long = s.sched.long ∧
          (State.enterJoin c s).sched.requests = s.sched.requests ∧ (State.enterJoin c s).sched.grant = s.sched.grant ∧
          (State.enterJoin c s).sched.draws = s.sched.draws ∧ (State.enterJoin c s).sched.seed = s.sched.seed ∧
          (State.enterJoin c s).link.channels = s.link.channels ∧ (State.enterJoin c s).link.candidates = s.link.candidates ∧
          (State.enterJoin c s).link.site = s.link.site ∧ (State.enterJoin c s).link.cycle = s.link.cycle ∧
          (State.enterJoin c s).link.nextSlot = s.link.nextSlot ∧ (State.enterJoin c s).link.window = s.link.window ∧
          (State.enterJoin c s).link.beaconIn = s.link.beaconIn ∧ (State.enterJoin c s).link.contention = s.link.contention ∧
          (State.enterJoin c s).link.clock = s.link.clock ∧ (State.enterJoin c s).link.seconds = s.link.seconds ∧
          (State.enterJoin c s).link.clockUpper = s.link.clockUpper ∧ (State.enterJoin c s).link.quiet = s.link.quiet := by
  unfold State.enterJoin; (repeat' split) <;> simp

@[simp] theorem State.endPass_fields (s : State) :
    (State.endPass s).sched.alertPlace = s.sched.alertPlace ∧ (State.endPass s).sched.acks = s.sched.acks ∧
          (State.endPass s).sched.flowPlace = s.sched.flowPlace ∧ (State.endPass s).sched.statusPlace = s.sched.statusPlace ∧
          (State.endPass s).sched.draws = s.sched.draws ∧ (State.endPass s).sched.seed = s.sched.seed ∧
          (State.endPass s).msgs.outbound = s.msgs.outbound ∧ (State.endPass s).msgs.inbound = s.msgs.inbound ∧
          (State.endPass s).msgs.triplog = s.msgs.triplog ∧ (State.endPass s).msgs.buffer0 = s.msgs.buffer0 ∧
          (State.endPass s).msgs.buffer1 = s.msgs.buffer1 ∧ (State.endPass s).msgs.stamp = s.msgs.stamp ∧
          (State.endPass s).msgs.deposit = s.msgs.deposit ∧ (State.endPass s).msgs.delivered = s.msgs.delivered ∧
          (State.endPass s).msgs.paused = s.msgs.paused ∧ (State.endPass s).msgs.pauseAt = s.msgs.pauseAt ∧
          (State.endPass s).msgs.resumeAt = s.msgs.resumeAt ∧ (State.endPass s).msgs.lastOut = s.msgs.lastOut ∧
          (State.endPass s).page.enables = s.page.enables ∧ (State.endPass s).page.counters = s.page.counters ∧
          (State.endPass s).page.statusCopy = s.page.statusCopy ∧ (State.endPass s).page.shiftCopy = s.page.shiftCopy ∧
          (State.endPass s).page.powerCopy = s.page.powerCopy ∧ (State.endPass s).page.enableCopy = s.page.enableCopy ∧
          (State.endPass s).pins.emswClosed = s.pins.emswClosed ∧ (State.endPass s).pins.ign = s.pins.ign ∧
          (State.endPass s).pins.lampHire = s.pins.lampHire ∧ (State.endPass s).pins.lampCall = s.pins.lampCall ∧
          (State.endPass s).pins.lampAlarm = s.pins.lampAlarm ∧ (State.endPass s).pins.wake = s.pins.wake ∧
          (State.endPass s).link.channels = s.link.channels ∧ (State.endPass s).link.cycle = s.link.cycle ∧
          (State.endPass s).link.nextSlot = s.link.nextSlot ∧ (State.endPass s).link.window = s.link.window ∧
          (State.endPass s).link.beaconIn = s.link.beaconIn ∧ (State.endPass s).link.contention = s.link.contention ∧
          (State.endPass s).link.clock = s.link.clock ∧ (State.endPass s).link.seconds = s.link.seconds ∧
          (State.endPass s).link.clockUpper = s.link.clockUpper := by
  unfold State.endPass; (repeat' split) <;> simp

@[simp] theorem State.candidateFails_fields (s : State) :
    (State.candidateFails s).sched.alertPlace = s.sched.alertPlace ∧ (State.candidateFails s).sched.acks = s.sched.acks ∧
          (State.candidateFails s).sched.flowPlace = s.sched.flowPlace ∧
          (State.candidateFails s).sched.statusPlace = s.sched.statusPlace ∧ (State.candidateFails s).sched.draws = s.sched.draws ∧
          (State.candidateFails s).sched.seed = s.sched.seed ∧ (State.candidateFails s).msgs.outbound = s.msgs.outbound ∧
          (State.candidateFails s).msgs.inbound = s.msgs.inbound ∧ (State.candidateFails s).msgs.triplog = s.msgs.triplog ∧
          (State.candidateFails s).msgs.buffer0 = s.msgs.buffer0 ∧ (State.candidateFails s).msgs.buffer1 = s.msgs.buffer1 ∧
          (State.candidateFails s).msgs.stamp = s.msgs.stamp ∧ (State.candidateFails s).msgs.deposit = s.msgs.deposit ∧
          (State.candidateFails s).msgs.delivered = s.msgs.delivered ∧ (State.candidateFails s).msgs.paused = s.msgs.paused ∧
          (State.candidateFails s).msgs.pauseAt = s.msgs.pauseAt ∧ (State.candidateFails s).msgs.resumeAt = s.msgs.resumeAt ∧
          (State.candidateFails s).msgs.lastOut = s.msgs.lastOut ∧ (State.candidateFails s).page.enables = s.page.enables ∧
          (State.candidateFails s).page.counters = s.page.counters ∧ (State.candidateFails s).page.statusCopy = s.page.statusCopy ∧
          (State.candidateFails s).page.shiftCopy = s.page.shiftCopy ∧ (State.candidateFails s).page.powerCopy = s.page.powerCopy ∧
          (State.candidateFails s).page.enableCopy = s.page.enableCopy ∧ (State.candidateFails s).pins.emswClosed = s.pins.emswClosed ∧
          (State.candidateFails s).pins.ign = s.pins.ign ∧ (State.candidateFails s).pins.lampHire = s.pins.lampHire ∧
          (State.candidateFails s).pins.lampCall = s.pins.lampCall ∧ (State.candidateFails s).pins.lampAlarm = s.pins.lampAlarm ∧
          (State.candidateFails s).pins.wake = s.pins.wake ∧ (State.candidateFails s).link.channels = s.link.channels ∧
          (State.candidateFails s).link.cycle = s.link.cycle ∧ (State.candidateFails s).link.nextSlot = s.link.nextSlot ∧
          (State.candidateFails s).link.window = s.link.window ∧ (State.candidateFails s).link.beaconIn = s.link.beaconIn ∧
          (State.candidateFails s).link.contention = s.link.contention ∧ (State.candidateFails s).link.clock = s.link.clock ∧
          (State.candidateFails s).link.seconds = s.link.seconds ∧ (State.candidateFails s).link.clockUpper = s.link.clockUpper := by
  unfold State.candidateFails; dsimp only; (repeat' split) <;> simp <;> (repeat' split) <;> simp

@[simp] theorem State.tuneNext_fields (c : Word) (r : List Word) (s : State) :
    (State.tuneNext c r s).link.channels = s.link.channels ∧ (State.tuneNext c r s).link.candidates = s.link.candidates ∧
          (State.tuneNext c r s).link.joining = s.link.joining ∧ (State.tuneNext c r s).link.site = s.link.site ∧
          (State.tuneNext c r s).link.loss = s.link.loss ∧ (State.tuneNext c r s).link.grantWait = s.link.grantWait ∧
          (State.tuneNext c r s).link.cycle = s.link.cycle ∧ (State.tuneNext c r s).link.nextSlot = s.link.nextSlot ∧
          (State.tuneNext c r s).link.window = s.link.window ∧ (State.tuneNext c r s).link.beaconIn = s.link.beaconIn ∧
          (State.tuneNext c r s).link.contention = s.link.contention ∧ (State.tuneNext c r s).link.clock = s.link.clock ∧
          (State.tuneNext c r s).link.seconds = s.link.seconds ∧ (State.tuneNext c r s).link.clockUpper = s.link.clockUpper ∧
          (State.tuneNext c r s).link.attempts = s.link.attempts ∧ (State.tuneNext c r s).link.quiet = s.link.quiet := by
  unfold State.tuneNext; (repeat' split) <;> simp

@[simp] theorem State.quickJoin_fields (c : Word) (r : Run) (s : State) :
    (State.quickJoin c r s).sched.alertPlace = s.sched.alertPlace ∧ (State.quickJoin c r s).sched.alertAttempts = s.sched.alertAttempts ∧
          (State.quickJoin c r s).sched.acks = s.sched.acks ∧ (State.quickJoin c r s).sched.bids = s.sched.bids ∧
          (State.quickJoin c r s).sched.flowPlace = s.sched.flowPlace ∧ (State.quickJoin c r s).sched.slotRequest = s.sched.slotRequest ∧
          (State.quickJoin c r s).sched.statusPlace = s.sched.statusPlace ∧ (State.quickJoin c r s).sched.long = s.sched.long ∧
          (State.quickJoin c r s).sched.requests = s.sched.requests ∧ (State.quickJoin c r s).sched.grant = s.sched.grant ∧
          (State.quickJoin c r s).sched.draws = s.sched.draws ∧ (State.quickJoin c r s).sched.seed = s.sched.seed ∧
          (State.quickJoin c r s).link.channels = s.link.channels ∧ (State.quickJoin c r s).link.site = s.link.site ∧
          (State.quickJoin c r s).link.cycle = s.link.cycle ∧ (State.quickJoin c r s).link.nextSlot = s.link.nextSlot ∧
          (State.quickJoin c r s).link.window = s.link.window ∧ (State.quickJoin c r s).link.beaconIn = s.link.beaconIn ∧
          (State.quickJoin c r s).link.contention = s.link.contention ∧ (State.quickJoin c r s).link.clock = s.link.clock ∧
          (State.quickJoin c r s).link.seconds = s.link.seconds ∧ (State.quickJoin c r s).link.clockUpper = s.link.clockUpper ∧
          (State.quickJoin c r s).link.quiet = s.link.quiet := by
  unfold State.quickJoin; (repeat' split) <;> simp

@[simp] theorem State.nextChannel_fields (s : State) :
    (State.nextChannel s).sched.alertPlace = s.sched.alertPlace ∧ (State.nextChannel s).sched.acks = s.sched.acks ∧
          (State.nextChannel s).sched.flowPlace = s.sched.flowPlace ∧ (State.nextChannel s).sched.statusPlace = s.sched.statusPlace ∧
          (State.nextChannel s).sched.draws = s.sched.draws ∧ (State.nextChannel s).sched.seed = s.sched.seed ∧
          (State.nextChannel s).msgs.outbound = s.msgs.outbound ∧ (State.nextChannel s).msgs.inbound = s.msgs.inbound ∧
          (State.nextChannel s).msgs.triplog = s.msgs.triplog ∧ (State.nextChannel s).msgs.buffer0 = s.msgs.buffer0 ∧
          (State.nextChannel s).msgs.buffer1 = s.msgs.buffer1 ∧ (State.nextChannel s).msgs.stamp = s.msgs.stamp ∧
          (State.nextChannel s).msgs.deposit = s.msgs.deposit ∧ (State.nextChannel s).msgs.delivered = s.msgs.delivered ∧
          (State.nextChannel s).msgs.paused = s.msgs.paused ∧ (State.nextChannel s).msgs.pauseAt = s.msgs.pauseAt ∧
          (State.nextChannel s).msgs.resumeAt = s.msgs.resumeAt ∧ (State.nextChannel s).msgs.lastOut = s.msgs.lastOut ∧
          (State.nextChannel s).page.enables = s.page.enables ∧ (State.nextChannel s).page.counters = s.page.counters ∧
          (State.nextChannel s).page.statusCopy = s.page.statusCopy ∧ (State.nextChannel s).page.shiftCopy = s.page.shiftCopy ∧
          (State.nextChannel s).page.powerCopy = s.page.powerCopy ∧ (State.nextChannel s).page.enableCopy = s.page.enableCopy ∧
          (State.nextChannel s).pins.emswClosed = s.pins.emswClosed ∧ (State.nextChannel s).pins.ign = s.pins.ign ∧
          (State.nextChannel s).pins.lampHire = s.pins.lampHire ∧ (State.nextChannel s).pins.lampCall = s.pins.lampCall ∧
          (State.nextChannel s).pins.lampAlarm = s.pins.lampAlarm ∧ (State.nextChannel s).pins.wake = s.pins.wake ∧
          (State.nextChannel s).link.channels = s.link.channels ∧ (State.nextChannel s).link.cycle = s.link.cycle ∧
          (State.nextChannel s).link.nextSlot = s.link.nextSlot ∧ (State.nextChannel s).link.window = s.link.window ∧
          (State.nextChannel s).link.beaconIn = s.link.beaconIn ∧ (State.nextChannel s).link.contention = s.link.contention ∧
          (State.nextChannel s).link.clock = s.link.clock ∧ (State.nextChannel s).link.seconds = s.link.seconds ∧
          (State.nextChannel s).link.clockUpper = s.link.clockUpper := by
  unfold State.nextChannel; (repeat' split) <;> simp

@[simp] theorem State.startHunt_fields (s : State) :
    (State.startHunt s).link.channels = s.link.channels ∧ (State.startHunt s).link.joining = s.link.joining ∧
          (State.startHunt s).link.site = s.link.site ∧ (State.startHunt s).link.loss = s.link.loss ∧
          (State.startHunt s).link.grantWait = s.link.grantWait ∧ (State.startHunt s).link.cycle = s.link.cycle ∧
          (State.startHunt s).link.nextSlot = s.link.nextSlot ∧ (State.startHunt s).link.window = s.link.window ∧
          (State.startHunt s).link.beaconIn = s.link.beaconIn ∧ (State.startHunt s).link.contention = s.link.contention ∧
          (State.startHunt s).link.clock = s.link.clock ∧ (State.startHunt s).link.seconds = s.link.seconds ∧
          (State.startHunt s).link.clockUpper = s.link.clockUpper ∧ (State.startHunt s).link.attempts = s.link.attempts ∧
          (State.startHunt s).link.quiet = s.link.quiet := by
  unfold State.startHunt; (repeat' split) <;> simp

@[simp] theorem State.huntBeacon_fields (g : Bool) (n : Word) (a : Byte) (s : State) :
    (State.huntBeacon g n a s).sched.alertPlace = s.sched.alertPlace ∧ (State.huntBeacon g n a s).sched.acks = s.sched.acks ∧
          (State.huntBeacon g n a s).sched.flowPlace = s.sched.flowPlace ∧
          (State.huntBeacon g n a s).sched.statusPlace = s.sched.statusPlace ∧ (State.huntBeacon g n a s).sched.draws = s.sched.draws ∧
          (State.huntBeacon g n a s).sched.seed = s.sched.seed ∧ (State.huntBeacon g n a s).msgs.outbound = s.msgs.outbound ∧
          (State.huntBeacon g n a s).msgs.inbound = s.msgs.inbound ∧ (State.huntBeacon g n a s).msgs.triplog = s.msgs.triplog ∧
          (State.huntBeacon g n a s).msgs.buffer0 = s.msgs.buffer0 ∧ (State.huntBeacon g n a s).msgs.buffer1 = s.msgs.buffer1 ∧
          (State.huntBeacon g n a s).msgs.stamp = s.msgs.stamp ∧ (State.huntBeacon g n a s).msgs.deposit = s.msgs.deposit ∧
          (State.huntBeacon g n a s).msgs.delivered = s.msgs.delivered ∧ (State.huntBeacon g n a s).msgs.paused = s.msgs.paused ∧
          (State.huntBeacon g n a s).msgs.pauseAt = s.msgs.pauseAt ∧ (State.huntBeacon g n a s).msgs.resumeAt = s.msgs.resumeAt ∧
          (State.huntBeacon g n a s).msgs.lastOut = s.msgs.lastOut ∧ (State.huntBeacon g n a s).page.enables = s.page.enables ∧
          (State.huntBeacon g n a s).page.counters = s.page.counters ∧ (State.huntBeacon g n a s).page.statusCopy = s.page.statusCopy ∧
          (State.huntBeacon g n a s).page.shiftCopy = s.page.shiftCopy ∧ (State.huntBeacon g n a s).page.powerCopy = s.page.powerCopy ∧
          (State.huntBeacon g n a s).page.enableCopy = s.page.enableCopy ∧
          (State.huntBeacon g n a s).pins.emswClosed = s.pins.emswClosed ∧ (State.huntBeacon g n a s).pins.ign = s.pins.ign ∧
          (State.huntBeacon g n a s).pins.lampHire = s.pins.lampHire ∧ (State.huntBeacon g n a s).pins.lampCall = s.pins.lampCall ∧
          (State.huntBeacon g n a s).pins.lampAlarm = s.pins.lampAlarm ∧ (State.huntBeacon g n a s).pins.wake = s.pins.wake ∧
          (State.huntBeacon g n a s).link.channels = s.link.channels ∧ (State.huntBeacon g n a s).link.cycle = s.link.cycle ∧
          (State.huntBeacon g n a s).link.nextSlot = s.link.nextSlot ∧ (State.huntBeacon g n a s).link.window = s.link.window ∧
          (State.huntBeacon g n a s).link.beaconIn = s.link.beaconIn ∧ (State.huntBeacon g n a s).link.contention = s.link.contention ∧
          (State.huntBeacon g n a s).link.clock = s.link.clock ∧ (State.huntBeacon g n a s).link.seconds = s.link.seconds ∧
          (State.huntBeacon g n a s).link.clockUpper = s.link.clockUpper := by
  unfold State.huntBeacon; dsimp only; (repeat' split) <;> simp <;> (repeat' split) <;> simp

@[simp] theorem State.joinFails_fields (s : State) :
    (State.joinFails s).sched.alertPlace = s.sched.alertPlace ∧ (State.joinFails s).sched.acks = s.sched.acks ∧
          (State.joinFails s).sched.flowPlace = s.sched.flowPlace ∧ (State.joinFails s).sched.statusPlace = s.sched.statusPlace ∧
          (State.joinFails s).sched.draws = s.sched.draws ∧ (State.joinFails s).sched.seed = s.sched.seed ∧
          (State.joinFails s).msgs.outbound = s.msgs.outbound ∧ (State.joinFails s).msgs.inbound = s.msgs.inbound ∧
          (State.joinFails s).msgs.triplog = s.msgs.triplog ∧ (State.joinFails s).msgs.buffer0 = s.msgs.buffer0 ∧
          (State.joinFails s).msgs.buffer1 = s.msgs.buffer1 ∧ (State.joinFails s).msgs.stamp = s.msgs.stamp ∧
          (State.joinFails s).msgs.deposit = s.msgs.deposit ∧ (State.joinFails s).msgs.delivered = s.msgs.delivered ∧
          (State.joinFails s).msgs.paused = s.msgs.paused ∧ (State.joinFails s).msgs.pauseAt = s.msgs.pauseAt ∧
          (State.joinFails s).msgs.resumeAt = s.msgs.resumeAt ∧ (State.joinFails s).msgs.lastOut = s.msgs.lastOut ∧
          (State.joinFails s).page.enables = s.page.enables ∧ (State.joinFails s).page.counters = s.page.counters ∧
          (State.joinFails s).page.statusCopy = s.page.statusCopy ∧ (State.joinFails s).page.shiftCopy = s.page.shiftCopy ∧
          (State.joinFails s).page.powerCopy = s.page.powerCopy ∧ (State.joinFails s).page.enableCopy = s.page.enableCopy ∧
          (State.joinFails s).pins.emswClosed = s.pins.emswClosed ∧ (State.joinFails s).pins.ign = s.pins.ign ∧
          (State.joinFails s).pins.lampHire = s.pins.lampHire ∧ (State.joinFails s).pins.lampCall = s.pins.lampCall ∧
          (State.joinFails s).pins.lampAlarm = s.pins.lampAlarm ∧ (State.joinFails s).pins.wake = s.pins.wake ∧
          (State.joinFails s).link.channels = s.link.channels ∧ (State.joinFails s).link.cycle = s.link.cycle ∧
          (State.joinFails s).link.nextSlot = s.link.nextSlot ∧ (State.joinFails s).link.window = s.link.window ∧
          (State.joinFails s).link.beaconIn = s.link.beaconIn ∧ (State.joinFails s).link.contention = s.link.contention ∧
          (State.joinFails s).link.clock = s.link.clock ∧ (State.joinFails s).link.seconds = s.link.seconds ∧
          (State.joinFails s).link.clockUpper = s.link.clockUpper := by
  unfold State.joinFails; (repeat' split) <;> simp

@[simp] theorem State.contenderFails_fields (c : Contender) (s : State) :
    (State.contenderFails c s).sched.alertPlace = s.sched.alertPlace ∧ (State.contenderFails c s).sched.acks = s.sched.acks ∧
          (State.contenderFails c s).sched.flowPlace = s.sched.flowPlace ∧
          (State.contenderFails c s).sched.statusPlace = s.sched.statusPlace ∧ (State.contenderFails c s).sched.draws = s.sched.draws ∧
          (State.contenderFails c s).sched.seed = s.sched.seed ∧ (State.contenderFails c s).msgs.outbound = s.msgs.outbound ∧
          (State.contenderFails c s).msgs.inbound = s.msgs.inbound ∧ (State.contenderFails c s).msgs.triplog = s.msgs.triplog ∧
          (State.contenderFails c s).msgs.buffer0 = s.msgs.buffer0 ∧ (State.contenderFails c s).msgs.buffer1 = s.msgs.buffer1 ∧
          (State.contenderFails c s).msgs.stamp = s.msgs.stamp ∧ (State.contenderFails c s).msgs.deposit = s.msgs.deposit ∧
          (State.contenderFails c s).msgs.delivered = s.msgs.delivered ∧ (State.contenderFails c s).msgs.paused = s.msgs.paused ∧
          (State.contenderFails c s).msgs.pauseAt = s.msgs.pauseAt ∧ (State.contenderFails c s).msgs.resumeAt = s.msgs.resumeAt ∧
          (State.contenderFails c s).msgs.lastOut = s.msgs.lastOut ∧ (State.contenderFails c s).page.enables = s.page.enables ∧
          (State.contenderFails c s).page.counters = s.page.counters ∧ (State.contenderFails c s).page.statusCopy = s.page.statusCopy ∧
          (State.contenderFails c s).page.shiftCopy = s.page.shiftCopy ∧ (State.contenderFails c s).page.powerCopy = s.page.powerCopy ∧
          (State.contenderFails c s).page.enableCopy = s.page.enableCopy ∧
          (State.contenderFails c s).pins.emswClosed = s.pins.emswClosed ∧ (State.contenderFails c s).pins.ign = s.pins.ign ∧
          (State.contenderFails c s).pins.lampHire = s.pins.lampHire ∧ (State.contenderFails c s).pins.lampCall = s.pins.lampCall ∧
          (State.contenderFails c s).pins.lampAlarm = s.pins.lampAlarm ∧ (State.contenderFails c s).pins.wake = s.pins.wake ∧
          (State.contenderFails c s).link.channels = s.link.channels ∧ (State.contenderFails c s).link.cycle = s.link.cycle ∧
          (State.contenderFails c s).link.nextSlot = s.link.nextSlot ∧ (State.contenderFails c s).link.window = s.link.window ∧
          (State.contenderFails c s).link.beaconIn = s.link.beaconIn ∧ (State.contenderFails c s).link.contention = s.link.contention ∧
          (State.contenderFails c s).link.clock = s.link.clock ∧ (State.contenderFails c s).link.seconds = s.link.seconds ∧
          (State.contenderFails c s).link.clockUpper = s.link.clockUpper := by
  unfold State.contenderFails; (repeat' split) <;> simp

@[simp] theorem State.contentionOutcome_fields (b : Bool) (s : State) :
    (State.contentionOutcome b s).sched.alertPlace = s.sched.alertPlace ∧ (State.contentionOutcome b s).sched.acks = s.sched.acks ∧
          (State.contentionOutcome b s).sched.flowPlace = s.sched.flowPlace ∧
          (State.contentionOutcome b s).sched.statusPlace = s.sched.statusPlace ∧
          (State.contentionOutcome b s).sched.draws = s.sched.draws ∧ (State.contentionOutcome b s).sched.seed = s.sched.seed ∧
          (State.contentionOutcome b s).msgs.outbound = s.msgs.outbound ∧ (State.contentionOutcome b s).msgs.inbound = s.msgs.inbound ∧
          (State.contentionOutcome b s).msgs.triplog = s.msgs.triplog ∧ (State.contentionOutcome b s).msgs.buffer0 = s.msgs.buffer0 ∧
          (State.contentionOutcome b s).msgs.buffer1 = s.msgs.buffer1 ∧ (State.contentionOutcome b s).msgs.stamp = s.msgs.stamp ∧
          (State.contentionOutcome b s).msgs.deposit = s.msgs.deposit ∧ (State.contentionOutcome b s).msgs.delivered = s.msgs.delivered ∧
          (State.contentionOutcome b s).msgs.paused = s.msgs.paused ∧ (State.contentionOutcome b s).msgs.pauseAt = s.msgs.pauseAt ∧
          (State.contentionOutcome b s).msgs.resumeAt = s.msgs.resumeAt ∧ (State.contentionOutcome b s).msgs.lastOut = s.msgs.lastOut ∧
          (State.contentionOutcome b s).page.enables = s.page.enables ∧
          (State.contentionOutcome b s).page.statusCopy = s.page.statusCopy ∧
          (State.contentionOutcome b s).page.shiftCopy = s.page.shiftCopy ∧
          (State.contentionOutcome b s).page.powerCopy = s.page.powerCopy ∧
          (State.contentionOutcome b s).page.enableCopy = s.page.enableCopy ∧
          (State.contentionOutcome b s).pins.emswClosed = s.pins.emswClosed ∧ (State.contentionOutcome b s).pins.ign = s.pins.ign ∧
          (State.contentionOutcome b s).pins.lampHire = s.pins.lampHire ∧ (State.contentionOutcome b s).pins.lampCall = s.pins.lampCall ∧
          (State.contentionOutcome b s).pins.lampAlarm = s.pins.lampAlarm ∧ (State.contentionOutcome b s).pins.wake = s.pins.wake ∧
          (State.contentionOutcome b s).link.channels = s.link.channels ∧ (State.contentionOutcome b s).link.cycle = s.link.cycle ∧
          (State.contentionOutcome b s).link.nextSlot = s.link.nextSlot ∧ (State.contentionOutcome b s).link.window = s.link.window ∧
          (State.contentionOutcome b s).link.beaconIn = s.link.beaconIn ∧
          (State.contentionOutcome b s).link.contention = s.link.contention ∧ (State.contentionOutcome b s).link.clock = s.link.clock ∧
          (State.contentionOutcome b s).link.seconds = s.link.seconds ∧
          (State.contentionOutcome b s).link.clockUpper = s.link.clockUpper := by
  unfold State.contentionOutcome; (repeat' split) <;> simp

@[simp] theorem State.endPassedGrant_fields (s : State) :
    (State.endPassedGrant s).sched.joinPlace = s.sched.joinPlace ∧ (State.endPassedGrant s).sched.joinAttempts = s.sched.joinAttempts ∧
          (State.endPassedGrant s).sched.alertPlace = s.sched.alertPlace ∧
          (State.endPassedGrant s).sched.alertAttempts = s.sched.alertAttempts ∧ (State.endPassedGrant s).sched.acks = s.sched.acks ∧
          (State.endPassedGrant s).sched.bids = s.sched.bids ∧ (State.endPassedGrant s).sched.flowPlace = s.sched.flowPlace ∧
          (State.endPassedGrant s).sched.statusPlace = s.sched.statusPlace ∧ (State.endPassedGrant s).sched.requests = s.sched.requests ∧
          (State.endPassedGrant s).sched.draws = s.sched.draws ∧ (State.endPassedGrant s).sched.seed = s.sched.seed ∧
          (State.endPassedGrant s).radio.receiverOn = s.radio.receiverOn ∧ (State.endPassedGrant s).radio.channel = s.radio.channel ∧
          (State.endPassedGrant s).radio.output = s.radio.output := by
  unfold State.endPassedGrant; (repeat' split) <;> simp

@[simp] theorem State.countCycleStart_fields (s : State) :
    (State.countCycleStart s).sched.joinPlace = s.sched.joinPlace ∧ (State.countCycleStart s).sched.joinAttempts = s.sched.joinAttempts ∧
          (State.countCycleStart s).sched.alertPlace = s.sched.alertPlace ∧
          (State.countCycleStart s).sched.alertAttempts = s.sched.alertAttempts ∧ (State.countCycleStart s).sched.acks = s.sched.acks ∧
          (State.countCycleStart s).sched.bids = s.sched.bids ∧ (State.countCycleStart s).sched.flowPlace = s.sched.flowPlace ∧
          (State.countCycleStart s).sched.statusPlace = s.sched.statusPlace ∧
          (State.countCycleStart s).sched.requests = s.sched.requests ∧ (State.countCycleStart s).sched.draws = s.sched.draws ∧
          (State.countCycleStart s).sched.seed = s.sched.seed ∧ (State.countCycleStart s).radio.receiverOn = s.radio.receiverOn ∧
          (State.countCycleStart s).radio.channel = s.radio.channel ∧ (State.countCycleStart s).radio.output = s.radio.output ∧
          (State.countCycleStart s).link.state = s.link.state ∧ (State.countCycleStart s).link.channels = s.link.channels ∧
          (State.countCycleStart s).link.candidates = s.link.candidates ∧ (State.countCycleStart s).link.joining = s.link.joining ∧
          (State.countCycleStart s).link.site = s.link.site ∧ (State.countCycleStart s).link.loss = s.link.loss ∧
          (State.countCycleStart s).link.hunt = s.link.hunt ∧ (State.countCycleStart s).link.cycle = s.link.cycle ∧
          (State.countCycleStart s).link.nextSlot = s.link.nextSlot ∧ (State.countCycleStart s).link.window = s.link.window ∧
          (State.countCycleStart s).link.beaconIn = s.link.beaconIn ∧ (State.countCycleStart s).link.contention = s.link.contention ∧
          (State.countCycleStart s).link.clock = s.link.clock ∧ (State.countCycleStart s).link.seconds = s.link.seconds ∧
          (State.countCycleStart s).link.clockUpper = s.link.clockUpper ∧ (State.countCycleStart s).link.attempts = s.link.attempts ∧
          (State.countCycleStart s).emerg.state = s.emerg.state ∧ (State.countCycleStart s).emerg.number = s.emerg.number ∧
          (State.countCycleStart s).emerg.source = s.emerg.source ∧ (State.countCycleStart s).emerg.raisedAt = s.emerg.raisedAt ∧
          (State.countCycleStart s).emerg.sends = s.emerg.sends ∧ (State.countCycleStart s).emerg.hold = s.emerg.hold ∧
          (State.countCycleStart s).emerg.image = s.emerg.image ∧ (State.countCycleStart s).emerg.raiseResult = s.emerg.raiseResult ∧
          (State.countCycleStart s).emerg.ackedAt = s.emerg.ackedAt ∧ (State.countCycleStart s).emerg.cancelledAt = s.emerg.cancelledAt ∧
          (State.countCycleStart s).emerg.owed = s.emerg.owed ∧ (State.countCycleStart s).emerg.causeWaits = s.emerg.causeWaits ∧
          (State.countCycleStart s).emerg.guardHeld = s.emerg.guardHeld ∧ (State.countCycleStart s).power.power = s.power.power ∧
          (State.countCycleStart s).power.park = s.power.park ∧ (State.countCycleStart s).power.reason = s.power.reason ∧
          (State.countCycleStart s).power.ignition = s.power.ignition ∧ (State.countCycleStart s).power.startUp = s.power.startUp ∧
          (State.countCycleStart s).power.image = s.power.image ∧ (State.countCycleStart s).power.recovery = s.power.recovery ∧
          (State.countCycleStart s).power.result = s.power.result ∧ (State.countCycleStart s).power.faultReason = s.power.faultReason ∧
          (State.countCycleStart s).power.failingItem = s.power.failingItem ∧ (State.countCycleStart s).power.attempt = s.power.attempt ∧
          (State.countCycleStart s).power.transaction = s.power.transaction := by
  unfold State.countCycleStart; (repeat' split) <;> simp

@[simp] theorem State.missBeacon_fields (s : State) :
    (State.missBeacon s).sched.alertPlace = s.sched.alertPlace ∧ (State.missBeacon s).sched.acks = s.sched.acks ∧
          (State.missBeacon s).sched.flowPlace = s.sched.flowPlace ∧ (State.missBeacon s).sched.statusPlace = s.sched.statusPlace ∧
          (State.missBeacon s).sched.draws = s.sched.draws ∧ (State.missBeacon s).sched.seed = s.sched.seed ∧
          (State.missBeacon s).msgs.outbound = s.msgs.outbound ∧ (State.missBeacon s).msgs.inbound = s.msgs.inbound ∧
          (State.missBeacon s).msgs.triplog = s.msgs.triplog ∧ (State.missBeacon s).msgs.buffer0 = s.msgs.buffer0 ∧
          (State.missBeacon s).msgs.buffer1 = s.msgs.buffer1 ∧ (State.missBeacon s).msgs.stamp = s.msgs.stamp ∧
          (State.missBeacon s).msgs.deposit = s.msgs.deposit ∧ (State.missBeacon s).msgs.delivered = s.msgs.delivered ∧
          (State.missBeacon s).msgs.paused = s.msgs.paused ∧ (State.missBeacon s).msgs.pauseAt = s.msgs.pauseAt ∧
          (State.missBeacon s).msgs.resumeAt = s.msgs.resumeAt ∧ (State.missBeacon s).msgs.lastOut = s.msgs.lastOut ∧
          (State.missBeacon s).page.enables = s.page.enables ∧ (State.missBeacon s).page.statusCopy = s.page.statusCopy ∧
          (State.missBeacon s).page.shiftCopy = s.page.shiftCopy ∧ (State.missBeacon s).page.powerCopy = s.page.powerCopy ∧
          (State.missBeacon s).page.enableCopy = s.page.enableCopy ∧ (State.missBeacon s).pins.emswClosed = s.pins.emswClosed ∧
          (State.missBeacon s).pins.ign = s.pins.ign ∧ (State.missBeacon s).pins.lampHire = s.pins.lampHire ∧
          (State.missBeacon s).pins.lampCall = s.pins.lampCall ∧ (State.missBeacon s).pins.lampAlarm = s.pins.lampAlarm ∧
          (State.missBeacon s).pins.wake = s.pins.wake ∧ (State.missBeacon s).link.channels = s.link.channels ∧
          (State.missBeacon s).link.cycle = s.link.cycle ∧ (State.missBeacon s).link.nextSlot = s.link.nextSlot ∧
          (State.missBeacon s).link.beaconIn = s.link.beaconIn ∧ (State.missBeacon s).link.contention = s.link.contention ∧
          (State.missBeacon s).link.clock = s.link.clock ∧ (State.missBeacon s).link.seconds = s.link.seconds ∧
          (State.missBeacon s).link.clockUpper = s.link.clockUpper := by
  unfold State.missBeacon; dsimp only; (repeat' split) <;> simp <;> (repeat' split) <;> simp

@[simp] theorem State.closeWindow_fields (s : State) :
    (State.closeWindow s).sched.alertPlace = s.sched.alertPlace ∧ (State.closeWindow s).sched.acks = s.sched.acks ∧
          (State.closeWindow s).sched.flowPlace = s.sched.flowPlace ∧ (State.closeWindow s).sched.statusPlace = s.sched.statusPlace ∧
          (State.closeWindow s).sched.draws = s.sched.draws ∧ (State.closeWindow s).sched.seed = s.sched.seed ∧
          (State.closeWindow s).msgs.outbound = s.msgs.outbound ∧ (State.closeWindow s).msgs.inbound = s.msgs.inbound ∧
          (State.closeWindow s).msgs.triplog = s.msgs.triplog ∧ (State.closeWindow s).msgs.buffer0 = s.msgs.buffer0 ∧
          (State.closeWindow s).msgs.buffer1 = s.msgs.buffer1 ∧ (State.closeWindow s).msgs.stamp = s.msgs.stamp ∧
          (State.closeWindow s).msgs.deposit = s.msgs.deposit ∧ (State.closeWindow s).msgs.delivered = s.msgs.delivered ∧
          (State.closeWindow s).msgs.paused = s.msgs.paused ∧ (State.closeWindow s).msgs.pauseAt = s.msgs.pauseAt ∧
          (State.closeWindow s).msgs.resumeAt = s.msgs.resumeAt ∧ (State.closeWindow s).msgs.lastOut = s.msgs.lastOut ∧
          (State.closeWindow s).page.enables = s.page.enables ∧ (State.closeWindow s).page.statusCopy = s.page.statusCopy ∧
          (State.closeWindow s).page.shiftCopy = s.page.shiftCopy ∧ (State.closeWindow s).page.powerCopy = s.page.powerCopy ∧
          (State.closeWindow s).page.enableCopy = s.page.enableCopy ∧ (State.closeWindow s).pins.emswClosed = s.pins.emswClosed ∧
          (State.closeWindow s).pins.ign = s.pins.ign ∧ (State.closeWindow s).pins.lampHire = s.pins.lampHire ∧
          (State.closeWindow s).pins.lampCall = s.pins.lampCall ∧ (State.closeWindow s).pins.lampAlarm = s.pins.lampAlarm ∧
          (State.closeWindow s).pins.wake = s.pins.wake ∧ (State.closeWindow s).link.channels = s.link.channels ∧
          (State.closeWindow s).link.cycle = s.link.cycle ∧ (State.closeWindow s).link.nextSlot = s.link.nextSlot ∧
          (State.closeWindow s).link.beaconIn = s.link.beaconIn ∧ (State.closeWindow s).link.contention = s.link.contention ∧
          (State.closeWindow s).link.clock = s.link.clock ∧ (State.closeWindow s).link.seconds = s.link.seconds ∧
          (State.closeWindow s).link.clockUpper = s.link.clockUpper := by
  unfold State.closeWindow; (repeat' split) <;> simp

@[simp] theorem State.startCycle_fields (s : State) :
    (State.startCycle s).sched.alertPlace = s.sched.alertPlace ∧ (State.startCycle s).sched.acks = s.sched.acks ∧
          (State.startCycle s).sched.flowPlace = s.sched.flowPlace ∧ (State.startCycle s).sched.statusPlace = s.sched.statusPlace ∧
          (State.startCycle s).sched.draws = s.sched.draws ∧ (State.startCycle s).sched.seed = s.sched.seed ∧
          (State.startCycle s).msgs.outbound = s.msgs.outbound ∧ (State.startCycle s).msgs.inbound = s.msgs.inbound ∧
          (State.startCycle s).msgs.triplog = s.msgs.triplog ∧ (State.startCycle s).msgs.buffer0 = s.msgs.buffer0 ∧
          (State.startCycle s).msgs.buffer1 = s.msgs.buffer1 ∧ (State.startCycle s).msgs.stamp = s.msgs.stamp ∧
          (State.startCycle s).msgs.deposit = s.msgs.deposit ∧ (State.startCycle s).msgs.delivered = s.msgs.delivered ∧
          (State.startCycle s).msgs.paused = s.msgs.paused ∧ (State.startCycle s).msgs.pauseAt = s.msgs.pauseAt ∧
          (State.startCycle s).msgs.resumeAt = s.msgs.resumeAt ∧ (State.startCycle s).msgs.lastOut = s.msgs.lastOut ∧
          (State.startCycle s).page.enables = s.page.enables ∧ (State.startCycle s).page.statusCopy = s.page.statusCopy ∧
          (State.startCycle s).page.shiftCopy = s.page.shiftCopy ∧ (State.startCycle s).page.powerCopy = s.page.powerCopy ∧
          (State.startCycle s).page.enableCopy = s.page.enableCopy ∧ (State.startCycle s).pins.emswClosed = s.pins.emswClosed ∧
          (State.startCycle s).pins.ign = s.pins.ign ∧ (State.startCycle s).pins.lampHire = s.pins.lampHire ∧
          (State.startCycle s).pins.lampCall = s.pins.lampCall ∧ (State.startCycle s).pins.lampAlarm = s.pins.lampAlarm ∧
          (State.startCycle s).pins.wake = s.pins.wake ∧ (State.startCycle s).link.channels = s.link.channels ∧
          (State.startCycle s).link.contention = s.link.contention ∧ (State.startCycle s).link.clock = s.link.clock ∧
          (State.startCycle s).link.seconds = s.link.seconds ∧ (State.startCycle s).link.clockUpper = s.link.clockUpper ∧
          (State.startCycle s).emerg.state = s.emerg.state ∧ (State.startCycle s).emerg.number = s.emerg.number ∧
          (State.startCycle s).emerg.source = s.emerg.source ∧ (State.startCycle s).emerg.raisedAt = s.emerg.raisedAt ∧
          (State.startCycle s).emerg.sends = s.emerg.sends ∧ (State.startCycle s).emerg.hold = s.emerg.hold ∧
          (State.startCycle s).emerg.image = s.emerg.image ∧ (State.startCycle s).emerg.raiseResult = s.emerg.raiseResult ∧
          (State.startCycle s).emerg.ackedAt = s.emerg.ackedAt ∧ (State.startCycle s).emerg.cancelledAt = s.emerg.cancelledAt ∧
          (State.startCycle s).emerg.owed = s.emerg.owed ∧ (State.startCycle s).emerg.causeWaits = s.emerg.causeWaits ∧
          (State.startCycle s).emerg.guardHeld = s.emerg.guardHeld ∧ (State.startCycle s).power.power = s.power.power ∧
          (State.startCycle s).power.park = s.power.park ∧ (State.startCycle s).power.reason = s.power.reason ∧
          (State.startCycle s).power.ignition = s.power.ignition ∧ (State.startCycle s).power.startUp = s.power.startUp ∧
          (State.startCycle s).power.image = s.power.image ∧ (State.startCycle s).power.recovery = s.power.recovery ∧
          (State.startCycle s).power.result = s.power.result ∧ (State.startCycle s).power.faultReason = s.power.faultReason ∧
          (State.startCycle s).power.failingItem = s.power.failingItem ∧ (State.startCycle s).power.attempt = s.power.attempt ∧
          (State.startCycle s).power.transaction = s.power.transaction := by
  unfold State.startCycle; (repeat' split) <;> simp

@[simp] theorem State.alignCycle_fields (b : BeaconBody) (s : State) :
    (State.alignCycle b s).sched.joinPlace = s.sched.joinPlace ∧ (State.alignCycle b s).sched.joinAttempts = s.sched.joinAttempts ∧
          (State.alignCycle b s).sched.alertPlace = s.sched.alertPlace ∧
          (State.alignCycle b s).sched.alertAttempts = s.sched.alertAttempts ∧ (State.alignCycle b s).sched.acks = s.sched.acks ∧
          (State.alignCycle b s).sched.bids = s.sched.bids ∧ (State.alignCycle b s).sched.flowPlace = s.sched.flowPlace ∧
          (State.alignCycle b s).sched.statusPlace = s.sched.statusPlace ∧ (State.alignCycle b s).sched.requests = s.sched.requests ∧
          (State.alignCycle b s).sched.draws = s.sched.draws ∧ (State.alignCycle b s).sched.seed = s.sched.seed ∧
          (State.alignCycle b s).radio.receiverOn = s.radio.receiverOn ∧ (State.alignCycle b s).radio.channel = s.radio.channel ∧
          (State.alignCycle b s).radio.output = s.radio.output ∧ (State.alignCycle b s).link.state = s.link.state ∧
          (State.alignCycle b s).link.channels = s.link.channels ∧ (State.alignCycle b s).link.candidates = s.link.candidates ∧
          (State.alignCycle b s).link.joining = s.link.joining ∧ (State.alignCycle b s).link.site = s.link.site ∧
          (State.alignCycle b s).link.loss = s.link.loss ∧ (State.alignCycle b s).link.hunt = s.link.hunt ∧
          (State.alignCycle b s).link.seconds = s.link.seconds ∧ (State.alignCycle b s).link.clockUpper = s.link.clockUpper ∧
          (State.alignCycle b s).link.attempts = s.link.attempts ∧ (State.alignCycle b s).emerg.state = s.emerg.state ∧
          (State.alignCycle b s).emerg.number = s.emerg.number ∧ (State.alignCycle b s).emerg.source = s.emerg.source ∧
          (State.alignCycle b s).emerg.raisedAt = s.emerg.raisedAt ∧ (State.alignCycle b s).emerg.sends = s.emerg.sends ∧
          (State.alignCycle b s).emerg.hold = s.emerg.hold ∧ (State.alignCycle b s).emerg.image = s.emerg.image ∧
          (State.alignCycle b s).emerg.raiseResult = s.emerg.raiseResult ∧ (State.alignCycle b s).emerg.ackedAt = s.emerg.ackedAt ∧
          (State.alignCycle b s).emerg.cancelledAt = s.emerg.cancelledAt ∧ (State.alignCycle b s).emerg.owed = s.emerg.owed ∧
          (State.alignCycle b s).emerg.causeWaits = s.emerg.causeWaits ∧ (State.alignCycle b s).emerg.guardHeld = s.emerg.guardHeld ∧
          (State.alignCycle b s).power.power = s.power.power ∧ (State.alignCycle b s).power.park = s.power.park ∧
          (State.alignCycle b s).power.reason = s.power.reason ∧ (State.alignCycle b s).power.ignition = s.power.ignition ∧
          (State.alignCycle b s).power.startUp = s.power.startUp ∧ (State.alignCycle b s).power.image = s.power.image ∧
          (State.alignCycle b s).power.recovery = s.power.recovery ∧ (State.alignCycle b s).power.result = s.power.result ∧
          (State.alignCycle b s).power.faultReason = s.power.faultReason ∧
          (State.alignCycle b s).power.failingItem = s.power.failingItem ∧ (State.alignCycle b s).power.attempt = s.power.attempt ∧
          (State.alignCycle b s).power.transaction = s.power.transaction := by
  unfold State.alignCycle; (repeat' split) <;> simp

@[simp] theorem State.takeBeacon_fields (n : Word) (b : BeaconBody) (s : State) :
    (State.takeBeacon n b s).sched.alertPlace = s.sched.alertPlace ∧ (State.takeBeacon n b s).sched.acks = s.sched.acks ∧
          (State.takeBeacon n b s).sched.flowPlace = s.sched.flowPlace ∧
          (State.takeBeacon n b s).sched.statusPlace = s.sched.statusPlace ∧ (State.takeBeacon n b s).sched.draws = s.sched.draws ∧
          (State.takeBeacon n b s).sched.seed = s.sched.seed ∧ (State.takeBeacon n b s).msgs.outbound = s.msgs.outbound ∧
          (State.takeBeacon n b s).msgs.inbound = s.msgs.inbound ∧ (State.takeBeacon n b s).msgs.triplog = s.msgs.triplog ∧
          (State.takeBeacon n b s).msgs.buffer0 = s.msgs.buffer0 ∧ (State.takeBeacon n b s).msgs.buffer1 = s.msgs.buffer1 ∧
          (State.takeBeacon n b s).msgs.stamp = s.msgs.stamp ∧ (State.takeBeacon n b s).msgs.deposit = s.msgs.deposit ∧
          (State.takeBeacon n b s).msgs.delivered = s.msgs.delivered ∧ (State.takeBeacon n b s).msgs.paused = s.msgs.paused ∧
          (State.takeBeacon n b s).msgs.pauseAt = s.msgs.pauseAt ∧ (State.takeBeacon n b s).msgs.resumeAt = s.msgs.resumeAt ∧
          (State.takeBeacon n b s).msgs.lastOut = s.msgs.lastOut ∧ (State.takeBeacon n b s).page.enables = s.page.enables ∧
          (State.takeBeacon n b s).page.statusCopy = s.page.statusCopy ∧ (State.takeBeacon n b s).page.shiftCopy = s.page.shiftCopy ∧
          (State.takeBeacon n b s).page.powerCopy = s.page.powerCopy ∧ (State.takeBeacon n b s).page.enableCopy = s.page.enableCopy ∧
          (State.takeBeacon n b s).pins.emswClosed = s.pins.emswClosed ∧ (State.takeBeacon n b s).pins.ign = s.pins.ign ∧
          (State.takeBeacon n b s).pins.lampHire = s.pins.lampHire ∧ (State.takeBeacon n b s).pins.lampCall = s.pins.lampCall ∧
          (State.takeBeacon n b s).pins.lampAlarm = s.pins.lampAlarm ∧ (State.takeBeacon n b s).pins.wake = s.pins.wake ∧
          (State.takeBeacon n b s).link.channels = s.link.channels ∧ (State.takeBeacon n b s).link.seconds = s.link.seconds ∧
          (State.takeBeacon n b s).link.clockUpper = s.link.clockUpper ∧ (State.takeBeacon n b s).emerg.state = s.emerg.state ∧
          (State.takeBeacon n b s).emerg.number = s.emerg.number ∧ (State.takeBeacon n b s).emerg.source = s.emerg.source ∧
          (State.takeBeacon n b s).emerg.raisedAt = s.emerg.raisedAt ∧ (State.takeBeacon n b s).emerg.sends = s.emerg.sends ∧
          (State.takeBeacon n b s).emerg.hold = s.emerg.hold ∧ (State.takeBeacon n b s).emerg.image = s.emerg.image ∧
          (State.takeBeacon n b s).emerg.raiseResult = s.emerg.raiseResult ∧ (State.takeBeacon n b s).emerg.ackedAt = s.emerg.ackedAt ∧
          (State.takeBeacon n b s).emerg.cancelledAt = s.emerg.cancelledAt ∧ (State.takeBeacon n b s).emerg.owed = s.emerg.owed ∧
          (State.takeBeacon n b s).emerg.causeWaits = s.emerg.causeWaits ∧ (State.takeBeacon n b s).emerg.guardHeld = s.emerg.guardHeld ∧
          (State.takeBeacon n b s).power.power = s.power.power ∧ (State.takeBeacon n b s).power.park = s.power.park ∧
          (State.takeBeacon n b s).power.reason = s.power.reason ∧ (State.takeBeacon n b s).power.ignition = s.power.ignition ∧
          (State.takeBeacon n b s).power.startUp = s.power.startUp ∧ (State.takeBeacon n b s).power.image = s.power.image ∧
          (State.takeBeacon n b s).power.recovery = s.power.recovery ∧ (State.takeBeacon n b s).power.result = s.power.result ∧
          (State.takeBeacon n b s).power.faultReason = s.power.faultReason ∧
          (State.takeBeacon n b s).power.failingItem = s.power.failingItem ∧ (State.takeBeacon n b s).power.attempt = s.power.attempt ∧
          (State.takeBeacon n b s).power.transaction = s.power.transaction := by
  unfold State.takeBeacon; dsimp only; (repeat' split) <;> simp <;> (repeat' split) <;> simp

@[simp] theorem State.enterJoined_fields (c : Candidate) (x y z : Byte) (s : State) :
    (State.enterJoined c x y z s).sched.joinAttempts = s.sched.joinAttempts ∧
          (State.enterJoined c x y z s).sched.alertPlace = s.sched.alertPlace ∧
          (State.enterJoined c x y z s).sched.alertAttempts = s.sched.alertAttempts ∧
          (State.enterJoined c x y z s).sched.acks = s.sched.acks ∧ (State.enterJoined c x y z s).sched.bids = s.sched.bids ∧
          (State.enterJoined c x y z s).sched.flowPlace = s.sched.flowPlace ∧
          (State.enterJoined c x y z s).sched.statusPlace = s.sched.statusPlace ∧
          (State.enterJoined c x y z s).sched.requests = s.sched.requests ∧ (State.enterJoined c x y z s).sched.grant = s.sched.grant ∧
          (State.enterJoined c x y z s).sched.draws = s.sched.draws ∧ (State.enterJoined c x y z s).sched.seed = s.sched.seed ∧
          (State.enterJoined c x y z s).radio.receiverOn = s.radio.receiverOn ∧
          (State.enterJoined c x y z s).radio.channel = s.radio.channel ∧ (State.enterJoined c x y z s).radio.output = s.radio.output ∧
          (State.enterJoined c x y z s).page.enables = s.page.enables ∧ (State.enterJoined c x y z s).page.counters = s.page.counters ∧
          (State.enterJoined c x y z s).page.linkUp = s.page.linkUp ∧ (State.enterJoined c x y z s).page.statusCopy = s.page.statusCopy ∧
          (State.enterJoined c x y z s).page.shiftCopy = s.page.shiftCopy ∧
          (State.enterJoined c x y z s).page.powerCopy = s.page.powerCopy ∧
          (State.enterJoined c x y z s).page.enableCopy = s.page.enableCopy ∧
          (State.enterJoined c x y z s).pins.emswClosed = s.pins.emswClosed ∧ (State.enterJoined c x y z s).pins.ign = s.pins.ign ∧
          (State.enterJoined c x y z s).pins.lampHire = s.pins.lampHire ∧ (State.enterJoined c x y z s).pins.lampCall = s.pins.lampCall ∧
          (State.enterJoined c x y z s).pins.lampAlarm = s.pins.lampAlarm ∧ (State.enterJoined c x y z s).pins.wake = s.pins.wake ∧
          (State.enterJoined c x y z s).link.channels = s.link.channels ∧ (State.enterJoined c x y z s).link.loss = s.link.loss ∧
          (State.enterJoined c x y z s).link.hunt = s.link.hunt ∧ (State.enterJoined c x y z s).link.cycle = s.link.cycle ∧
          (State.enterJoined c x y z s).link.nextSlot = s.link.nextSlot ∧ (State.enterJoined c x y z s).link.window = s.link.window ∧
          (State.enterJoined c x y z s).link.beaconIn = s.link.beaconIn ∧
          (State.enterJoined c x y z s).link.contention = s.link.contention ∧ (State.enterJoined c x y z s).link.clock = s.link.clock ∧
          (State.enterJoined c x y z s).link.seconds = s.link.seconds ∧
          (State.enterJoined c x y z s).link.clockUpper = s.link.clockUpper ∧
          (State.enterJoined c x y z s).link.attempts = s.link.attempts ∧ (State.enterJoined c x y z s).link.quiet = s.link.quiet := by
  unfold State.enterJoined; (repeat' split) <;> simp

@[simp] theorem State.takeGrantJoin_fields (x y z : Byte) (s : State) :
    (State.takeGrantJoin x y z s).sched.joinAttempts = s.sched.joinAttempts ∧
          (State.takeGrantJoin x y z s).sched.alertPlace = s.sched.alertPlace ∧
          (State.takeGrantJoin x y z s).sched.alertAttempts = s.sched.alertAttempts ∧
          (State.takeGrantJoin x y z s).sched.acks = s.sched.acks ∧ (State.takeGrantJoin x y z s).sched.bids = s.sched.bids ∧
          (State.takeGrantJoin x y z s).sched.flowPlace = s.sched.flowPlace ∧
          (State.takeGrantJoin x y z s).sched.statusPlace = s.sched.statusPlace ∧
          (State.takeGrantJoin x y z s).sched.requests = s.sched.requests ∧ (State.takeGrantJoin x y z s).sched.grant = s.sched.grant ∧
          (State.takeGrantJoin x y z s).sched.draws = s.sched.draws ∧ (State.takeGrantJoin x y z s).sched.seed = s.sched.seed ∧
          (State.takeGrantJoin x y z s).radio.receiverOn = s.radio.receiverOn ∧
          (State.takeGrantJoin x y z s).radio.channel = s.radio.channel ∧ (State.takeGrantJoin x y z s).radio.output = s.radio.output ∧
          (State.takeGrantJoin x y z s).page.enables = s.page.enables ∧ (State.takeGrantJoin x y z s).page.counters = s.page.counters ∧
          (State.takeGrantJoin x y z s).page.linkUp = s.page.linkUp ∧ (State.takeGrantJoin x y z s).page.statusCopy = s.page.statusCopy ∧
          (State.takeGrantJoin x y z s).page.shiftCopy = s.page.shiftCopy ∧
          (State.takeGrantJoin x y z s).page.powerCopy = s.page.powerCopy ∧
          (State.takeGrantJoin x y z s).page.enableCopy = s.page.enableCopy ∧
          (State.takeGrantJoin x y z s).pins.emswClosed = s.pins.emswClosed ∧ (State.takeGrantJoin x y z s).pins.ign = s.pins.ign ∧
          (State.takeGrantJoin x y z s).pins.lampHire = s.pins.lampHire ∧ (State.takeGrantJoin x y z s).pins.lampCall = s.pins.lampCall ∧
          (State.takeGrantJoin x y z s).pins.lampAlarm = s.pins.lampAlarm ∧ (State.takeGrantJoin x y z s).pins.wake = s.pins.wake ∧
          (State.takeGrantJoin x y z s).link.channels = s.link.channels ∧ (State.takeGrantJoin x y z s).link.loss = s.link.loss ∧
          (State.takeGrantJoin x y z s).link.hunt = s.link.hunt ∧ (State.takeGrantJoin x y z s).link.cycle = s.link.cycle ∧
          (State.takeGrantJoin x y z s).link.nextSlot = s.link.nextSlot ∧ (State.takeGrantJoin x y z s).link.window = s.link.window ∧
          (State.takeGrantJoin x y z s).link.beaconIn = s.link.beaconIn ∧
          (State.takeGrantJoin x y z s).link.contention = s.link.contention ∧ (State.takeGrantJoin x y z s).link.clock = s.link.clock ∧
          (State.takeGrantJoin x y z s).link.seconds = s.link.seconds ∧
          (State.takeGrantJoin x y z s).link.clockUpper = s.link.clockUpper ∧
          (State.takeGrantJoin x y z s).link.attempts = s.link.attempts ∧ (State.takeGrantJoin x y z s).link.quiet = s.link.quiet := by
  unfold State.takeGrantJoin; (repeat' split) <;> simp

@[simp] theorem State.joinGrantWaitEnds_fields (s : State) :
    (State.joinGrantWaitEnds s).sched.alertPlace = s.sched.alertPlace ∧ (State.joinGrantWaitEnds s).sched.acks = s.sched.acks ∧
          (State.joinGrantWaitEnds s).sched.flowPlace = s.sched.flowPlace ∧
          (State.joinGrantWaitEnds s).sched.statusPlace = s.sched.statusPlace ∧ (State.joinGrantWaitEnds s).sched.draws = s.sched.draws ∧
          (State.joinGrantWaitEnds s).sched.seed = s.sched.seed ∧ (State.joinGrantWaitEnds s).msgs.outbound = s.msgs.outbound ∧
          (State.joinGrantWaitEnds s).msgs.inbound = s.msgs.inbound ∧ (State.joinGrantWaitEnds s).msgs.triplog = s.msgs.triplog ∧
          (State.joinGrantWaitEnds s).msgs.buffer0 = s.msgs.buffer0 ∧ (State.joinGrantWaitEnds s).msgs.buffer1 = s.msgs.buffer1 ∧
          (State.joinGrantWaitEnds s).msgs.stamp = s.msgs.stamp ∧ (State.joinGrantWaitEnds s).msgs.deposit = s.msgs.deposit ∧
          (State.joinGrantWaitEnds s).msgs.delivered = s.msgs.delivered ∧ (State.joinGrantWaitEnds s).msgs.paused = s.msgs.paused ∧
          (State.joinGrantWaitEnds s).msgs.pauseAt = s.msgs.pauseAt ∧ (State.joinGrantWaitEnds s).msgs.resumeAt = s.msgs.resumeAt ∧
          (State.joinGrantWaitEnds s).msgs.lastOut = s.msgs.lastOut ∧ (State.joinGrantWaitEnds s).page.enables = s.page.enables ∧
          (State.joinGrantWaitEnds s).page.counters = s.page.counters ∧ (State.joinGrantWaitEnds s).page.statusCopy = s.page.statusCopy ∧
          (State.joinGrantWaitEnds s).page.shiftCopy = s.page.shiftCopy ∧ (State.joinGrantWaitEnds s).page.powerCopy = s.page.powerCopy ∧
          (State.joinGrantWaitEnds s).page.enableCopy = s.page.enableCopy ∧
          (State.joinGrantWaitEnds s).pins.emswClosed = s.pins.emswClosed ∧ (State.joinGrantWaitEnds s).pins.ign = s.pins.ign ∧
          (State.joinGrantWaitEnds s).pins.lampHire = s.pins.lampHire ∧ (State.joinGrantWaitEnds s).pins.lampCall = s.pins.lampCall ∧
          (State.joinGrantWaitEnds s).pins.lampAlarm = s.pins.lampAlarm ∧ (State.joinGrantWaitEnds s).pins.wake = s.pins.wake ∧
          (State.joinGrantWaitEnds s).link.channels = s.link.channels ∧ (State.joinGrantWaitEnds s).link.cycle = s.link.cycle ∧
          (State.joinGrantWaitEnds s).link.nextSlot = s.link.nextSlot ∧ (State.joinGrantWaitEnds s).link.window = s.link.window ∧
          (State.joinGrantWaitEnds s).link.beaconIn = s.link.beaconIn ∧ (State.joinGrantWaitEnds s).link.contention = s.link.contention ∧
          (State.joinGrantWaitEnds s).link.clock = s.link.clock ∧ (State.joinGrantWaitEnds s).link.seconds = s.link.seconds ∧
          (State.joinGrantWaitEnds s).link.clockUpper = s.link.clockUpper := by
  unfold State.joinGrantWaitEnds; (repeat' split) <;> simp

@[simp] theorem State.enterActive_fields (s : State) :
    (State.enterActive s).sched.joinAttempts = s.sched.joinAttempts ∧ (State.enterActive s).sched.alertPlace = s.sched.alertPlace ∧
          (State.enterActive s).sched.acks = s.sched.acks ∧ (State.enterActive s).sched.flowPlace = s.sched.flowPlace ∧
          (State.enterActive s).sched.draws = s.sched.draws ∧ (State.enterActive s).sched.seed = s.sched.seed ∧
          (State.enterActive s).msgs.outbound = s.msgs.outbound ∧ (State.enterActive s).msgs.inbound = s.msgs.inbound ∧
          (State.enterActive s).msgs.triplog = s.msgs.triplog ∧ (State.enterActive s).msgs.buffer0 = s.msgs.buffer0 ∧
          (State.enterActive s).msgs.buffer1 = s.msgs.buffer1 ∧ (State.enterActive s).msgs.stamp = s.msgs.stamp ∧
          (State.enterActive s).msgs.deposit = s.msgs.deposit ∧ (State.enterActive s).msgs.delivered = s.msgs.delivered ∧
          (State.enterActive s).msgs.paused = s.msgs.paused ∧ (State.enterActive s).msgs.pauseAt = s.msgs.pauseAt ∧
          (State.enterActive s).msgs.resumeAt = s.msgs.resumeAt ∧ (State.enterActive s).msgs.lastOut = s.msgs.lastOut ∧
          (State.enterActive s).page.enables = s.page.enables ∧ (State.enterActive s).page.counters = s.page.counters ∧
          (State.enterActive s).page.statusCopy = s.page.statusCopy ∧ (State.enterActive s).page.shiftCopy = s.page.shiftCopy ∧
          (State.enterActive s).page.powerCopy = s.page.powerCopy ∧ (State.enterActive s).page.enableCopy = s.page.enableCopy ∧
          (State.enterActive s).pins.emswClosed = s.pins.emswClosed ∧ (State.enterActive s).pins.ign = s.pins.ign ∧
          (State.enterActive s).pins.wake = s.pins.wake ∧ (State.enterActive s).link.channels = s.link.channels ∧
          (State.enterActive s).link.cycle = s.link.cycle ∧ (State.enterActive s).link.nextSlot = s.link.nextSlot ∧
          (State.enterActive s).link.window = s.link.window ∧ (State.enterActive s).link.beaconIn = s.link.beaconIn ∧
          (State.enterActive s).link.contention = s.link.contention ∧ (State.enterActive s).link.clock = s.link.clock ∧
          (State.enterActive s).link.seconds = s.link.seconds ∧ (State.enterActive s).link.clockUpper = s.link.clockUpper ∧
          (State.enterActive s).power.reason = s.power.reason ∧ (State.enterActive s).power.ignition = s.power.ignition ∧
          (State.enterActive s).power.startUp = s.power.startUp ∧ (State.enterActive s).power.image = s.power.image ∧
          (State.enterActive s).power.recovery = s.power.recovery ∧ (State.enterActive s).power.result = s.power.result ∧
          (State.enterActive s).power.faultReason = s.power.faultReason ∧ (State.enterActive s).power.failingItem = s.power.failingItem ∧
          (State.enterActive s).power.attempt = s.power.attempt ∧ (State.enterActive s).power.transaction = s.power.transaction := by
  unfold State.enterActive; (repeat' split) <;> simp

@[simp] theorem State.wakeEvent_fields (w : WakeSource) (s : State) :
    (State.wakeEvent w s).sched.joinAttempts = s.sched.joinAttempts ∧ (State.wakeEvent w s).sched.alertPlace = s.sched.alertPlace ∧
          (State.wakeEvent w s).sched.acks = s.sched.acks ∧ (State.wakeEvent w s).sched.flowPlace = s.sched.flowPlace ∧
          (State.wakeEvent w s).sched.draws = s.sched.draws ∧ (State.wakeEvent w s).sched.seed = s.sched.seed ∧
          (State.wakeEvent w s).msgs.outbound = s.msgs.outbound ∧ (State.wakeEvent w s).msgs.inbound = s.msgs.inbound ∧
          (State.wakeEvent w s).msgs.triplog = s.msgs.triplog ∧ (State.wakeEvent w s).msgs.buffer0 = s.msgs.buffer0 ∧
          (State.wakeEvent w s).msgs.buffer1 = s.msgs.buffer1 ∧ (State.wakeEvent w s).msgs.stamp = s.msgs.stamp ∧
          (State.wakeEvent w s).msgs.deposit = s.msgs.deposit ∧ (State.wakeEvent w s).msgs.delivered = s.msgs.delivered ∧
          (State.wakeEvent w s).msgs.paused = s.msgs.paused ∧ (State.wakeEvent w s).msgs.pauseAt = s.msgs.pauseAt ∧
          (State.wakeEvent w s).msgs.resumeAt = s.msgs.resumeAt ∧ (State.wakeEvent w s).msgs.lastOut = s.msgs.lastOut ∧
          (State.wakeEvent w s).page.enables = s.page.enables ∧ (State.wakeEvent w s).page.counters = s.page.counters ∧
          (State.wakeEvent w s).page.statusCopy = s.page.statusCopy ∧ (State.wakeEvent w s).page.shiftCopy = s.page.shiftCopy ∧
          (State.wakeEvent w s).page.powerCopy = s.page.powerCopy ∧ (State.wakeEvent w s).page.enableCopy = s.page.enableCopy ∧
          (State.wakeEvent w s).pins.emswClosed = s.pins.emswClosed ∧ (State.wakeEvent w s).pins.ign = s.pins.ign ∧
          (State.wakeEvent w s).link.channels = s.link.channels ∧ (State.wakeEvent w s).link.cycle = s.link.cycle ∧
          (State.wakeEvent w s).link.nextSlot = s.link.nextSlot ∧ (State.wakeEvent w s).link.window = s.link.window ∧
          (State.wakeEvent w s).link.beaconIn = s.link.beaconIn ∧ (State.wakeEvent w s).link.contention = s.link.contention ∧
          (State.wakeEvent w s).link.clock = s.link.clock ∧ (State.wakeEvent w s).link.seconds = s.link.seconds ∧
          (State.wakeEvent w s).link.clockUpper = s.link.clockUpper ∧ (State.wakeEvent w s).power.ignition = s.power.ignition ∧
          (State.wakeEvent w s).power.startUp = s.power.startUp ∧ (State.wakeEvent w s).power.image = s.power.image ∧
          (State.wakeEvent w s).power.recovery = s.power.recovery ∧ (State.wakeEvent w s).power.result = s.power.result ∧
          (State.wakeEvent w s).power.faultReason = s.power.faultReason ∧ (State.wakeEvent w s).power.failingItem = s.power.failingItem ∧
          (State.wakeEvent w s).power.attempt = s.power.attempt ∧ (State.wakeEvent w s).power.transaction = s.power.transaction := by
  unfold State.wakeEvent; (repeat' split) <;> simp

@[simp] theorem State.enterParking_fields (s : State) :
    (State.enterParking s).sched.joinPlace = s.sched.joinPlace ∧ (State.enterParking s).sched.joinAttempts = s.sched.joinAttempts ∧
          (State.enterParking s).sched.alertPlace = s.sched.alertPlace ∧
          (State.enterParking s).sched.alertAttempts = s.sched.alertAttempts ∧ (State.enterParking s).sched.acks = s.sched.acks ∧
          (State.enterParking s).sched.bids = s.sched.bids ∧ (State.enterParking s).sched.flowPlace = s.sched.flowPlace ∧
          (State.enterParking s).sched.slotRequest = s.sched.slotRequest ∧ (State.enterParking s).sched.contention = s.sched.contention ∧
          (State.enterParking s).sched.long = s.sched.long ∧ (State.enterParking s).sched.requests = s.sched.requests ∧
          (State.enterParking s).sched.grant = s.sched.grant ∧ (State.enterParking s).sched.draws = s.sched.draws ∧
          (State.enterParking s).sched.seed = s.sched.seed ∧ (State.enterParking s).pins.emswClosed = s.pins.emswClosed ∧
          (State.enterParking s).pins.ign = s.pins.ign ∧ (State.enterParking s).pins.attn = s.pins.attn ∧
          (State.enterParking s).pins.wake = s.pins.wake ∧ (State.enterParking s).power.reason = s.power.reason ∧
          (State.enterParking s).power.ignition = s.power.ignition ∧ (State.enterParking s).power.startUp = s.power.startUp ∧
          (State.enterParking s).power.image = s.power.image ∧ (State.enterParking s).power.recovery = s.power.recovery ∧
          (State.enterParking s).power.result = s.power.result ∧ (State.enterParking s).power.faultReason = s.power.faultReason ∧
          (State.enterParking s).power.failingItem = s.power.failingItem ∧ (State.enterParking s).power.attempt = s.power.attempt ∧
          (State.enterParking s).power.transaction = s.power.transaction := by
  unfold State.enterParking; (repeat' split) <;> simp

@[simp] theorem State.enterStandby_fields (s : State) :
    (State.enterStandby s).sched.joinPlace = s.sched.joinPlace ∧ (State.enterStandby s).sched.joinAttempts = s.sched.joinAttempts ∧
          (State.enterStandby s).sched.alertPlace = s.sched.alertPlace ∧
          (State.enterStandby s).sched.alertAttempts = s.sched.alertAttempts ∧ (State.enterStandby s).sched.acks = s.sched.acks ∧
          (State.enterStandby s).sched.bids = s.sched.bids ∧ (State.enterStandby s).sched.flowPlace = s.sched.flowPlace ∧
          (State.enterStandby s).sched.slotRequest = s.sched.slotRequest ∧ (State.enterStandby s).sched.long = s.sched.long ∧
          (State.enterStandby s).sched.requests = s.sched.requests ∧ (State.enterStandby s).sched.grant = s.sched.grant ∧
          (State.enterStandby s).sched.draws = s.sched.draws ∧ (State.enterStandby s).sched.seed = s.sched.seed ∧
          (State.enterStandby s).pins.emswClosed = s.pins.emswClosed ∧ (State.enterStandby s).pins.ign = s.pins.ign ∧
          (State.enterStandby s).pins.wake = s.pins.wake ∧ (State.enterStandby s).power.park = s.power.park ∧
          (State.enterStandby s).power.reason = s.power.reason ∧ (State.enterStandby s).power.ignition = s.power.ignition ∧
          (State.enterStandby s).power.startUp = s.power.startUp ∧ (State.enterStandby s).power.image = s.power.image ∧
          (State.enterStandby s).power.recovery = s.power.recovery ∧ (State.enterStandby s).power.result = s.power.result ∧
          (State.enterStandby s).power.faultReason = s.power.faultReason ∧
          (State.enterStandby s).power.failingItem = s.power.failingItem ∧ (State.enterStandby s).power.attempt = s.power.attempt ∧
          (State.enterStandby s).power.transaction = s.power.transaction ∧ (State.enterStandby s).page.enables = s.page.enables ∧
          (State.enterStandby s).page.counters = s.page.counters ∧ (State.enterStandby s).page.linkUp = s.page.linkUp ∧
          (State.enterStandby s).page.statusCopy = s.page.statusCopy ∧ (State.enterStandby s).page.shiftCopy = s.page.shiftCopy ∧
          (State.enterStandby s).page.powerCopy = s.page.powerCopy ∧ (State.enterStandby s).page.enableCopy = s.page.enableCopy := by
  unfold State.enterStandby; (repeat' split) <;> simp

@[simp] theorem State.enterSleep_fields (s : State) :
    (State.enterSleep s).sched.joinAttempts = s.sched.joinAttempts ∧ (State.enterSleep s).sched.alertPlace = s.sched.alertPlace ∧
          (State.enterSleep s).sched.acks = s.sched.acks ∧ (State.enterSleep s).sched.flowPlace = s.sched.flowPlace ∧
          (State.enterSleep s).sched.draws = s.sched.draws ∧ (State.enterSleep s).sched.seed = s.sched.seed ∧
          (State.enterSleep s).msgs.outbound = s.msgs.outbound ∧ (State.enterSleep s).msgs.inbound = s.msgs.inbound ∧
          (State.enterSleep s).msgs.triplog = s.msgs.triplog ∧ (State.enterSleep s).msgs.buffer0 = s.msgs.buffer0 ∧
          (State.enterSleep s).msgs.buffer1 = s.msgs.buffer1 ∧ (State.enterSleep s).msgs.stamp = s.msgs.stamp ∧
          (State.enterSleep s).msgs.deposit = s.msgs.deposit ∧ (State.enterSleep s).msgs.delivered = s.msgs.delivered ∧
          (State.enterSleep s).msgs.paused = s.msgs.paused ∧ (State.enterSleep s).msgs.pauseAt = s.msgs.pauseAt ∧
          (State.enterSleep s).msgs.resumeAt = s.msgs.resumeAt ∧ (State.enterSleep s).msgs.lastOut = s.msgs.lastOut ∧
          (State.enterSleep s).page.enables = s.page.enables ∧ (State.enterSleep s).page.counters = s.page.counters ∧
          (State.enterSleep s).page.statusCopy = s.page.statusCopy ∧ (State.enterSleep s).page.shiftCopy = s.page.shiftCopy ∧
          (State.enterSleep s).page.powerCopy = s.page.powerCopy ∧ (State.enterSleep s).page.enableCopy = s.page.enableCopy ∧
          (State.enterSleep s).pins.emswClosed = s.pins.emswClosed ∧ (State.enterSleep s).pins.ign = s.pins.ign ∧
          (State.enterSleep s).pins.wake = s.pins.wake ∧ (State.enterSleep s).link.channels = s.link.channels ∧
          (State.enterSleep s).link.cycle = s.link.cycle ∧ (State.enterSleep s).link.nextSlot = s.link.nextSlot ∧
          (State.enterSleep s).link.window = s.link.window ∧ (State.enterSleep s).link.beaconIn = s.link.beaconIn ∧
          (State.enterSleep s).link.contention = s.link.contention ∧ (State.enterSleep s).link.clock = s.link.clock ∧
          (State.enterSleep s).link.seconds = s.link.seconds ∧ (State.enterSleep s).link.clockUpper = s.link.clockUpper ∧
          (State.enterSleep s).power.park = s.power.park ∧ (State.enterSleep s).power.reason = s.power.reason ∧
          (State.enterSleep s).power.ignition = s.power.ignition ∧ (State.enterSleep s).power.startUp = s.power.startUp ∧
          (State.enterSleep s).power.image = s.power.image ∧ (State.enterSleep s).power.recovery = s.power.recovery ∧
          (State.enterSleep s).power.result = s.power.result ∧ (State.enterSleep s).power.faultReason = s.power.faultReason ∧
          (State.enterSleep s).power.failingItem = s.power.failingItem ∧ (State.enterSleep s).power.attempt = s.power.attempt ∧
          (State.enterSleep s).power.transaction = s.power.transaction := by
  unfold State.enterSleep; (repeat' split) <;> simp

@[simp] theorem State.endParking_fields (s : State) :
    (State.endParking s).sched.joinAttempts = s.sched.joinAttempts ∧ (State.endParking s).sched.alertPlace = s.sched.alertPlace ∧
          (State.endParking s).sched.acks = s.sched.acks ∧ (State.endParking s).sched.flowPlace = s.sched.flowPlace ∧
          (State.endParking s).sched.draws = s.sched.draws ∧ (State.endParking s).sched.seed = s.sched.seed ∧
          (State.endParking s).msgs.outbound = s.msgs.outbound ∧ (State.endParking s).msgs.inbound = s.msgs.inbound ∧
          (State.endParking s).msgs.triplog = s.msgs.triplog ∧ (State.endParking s).msgs.buffer0 = s.msgs.buffer0 ∧
          (State.endParking s).msgs.buffer1 = s.msgs.buffer1 ∧ (State.endParking s).msgs.stamp = s.msgs.stamp ∧
          (State.endParking s).msgs.deposit = s.msgs.deposit ∧ (State.endParking s).msgs.delivered = s.msgs.delivered ∧
          (State.endParking s).msgs.paused = s.msgs.paused ∧ (State.endParking s).msgs.pauseAt = s.msgs.pauseAt ∧
          (State.endParking s).msgs.resumeAt = s.msgs.resumeAt ∧ (State.endParking s).msgs.lastOut = s.msgs.lastOut ∧
          (State.endParking s).page.enables = s.page.enables ∧ (State.endParking s).page.counters = s.page.counters ∧
          (State.endParking s).page.statusCopy = s.page.statusCopy ∧ (State.endParking s).page.shiftCopy = s.page.shiftCopy ∧
          (State.endParking s).page.powerCopy = s.page.powerCopy ∧ (State.endParking s).page.enableCopy = s.page.enableCopy ∧
          (State.endParking s).pins.emswClosed = s.pins.emswClosed ∧ (State.endParking s).pins.ign = s.pins.ign ∧
          (State.endParking s).pins.wake = s.pins.wake ∧ (State.endParking s).link.channels = s.link.channels ∧
          (State.endParking s).link.cycle = s.link.cycle ∧ (State.endParking s).link.nextSlot = s.link.nextSlot ∧
          (State.endParking s).link.window = s.link.window ∧ (State.endParking s).link.beaconIn = s.link.beaconIn ∧
          (State.endParking s).link.contention = s.link.contention ∧ (State.endParking s).link.clock = s.link.clock ∧
          (State.endParking s).link.seconds = s.link.seconds ∧ (State.endParking s).link.clockUpper = s.link.clockUpper ∧
          (State.endParking s).power.reason = s.power.reason ∧ (State.endParking s).power.ignition = s.power.ignition ∧
          (State.endParking s).power.startUp = s.power.startUp ∧ (State.endParking s).power.image = s.power.image ∧
          (State.endParking s).power.recovery = s.power.recovery ∧ (State.endParking s).power.result = s.power.result ∧
          (State.endParking s).power.faultReason = s.power.faultReason ∧ (State.endParking s).power.failingItem = s.power.failingItem ∧
          (State.endParking s).power.attempt = s.power.attempt ∧ (State.endParking s).power.transaction = s.power.transaction := by
  unfold State.endParking; (repeat' split) <;> simp

@[simp] theorem State.statusSent_fields (b : Bool) (s : State) :
    (State.statusSent b s).sched.joinAttempts = s.sched.joinAttempts ∧ (State.statusSent b s).sched.alertPlace = s.sched.alertPlace ∧
          (State.statusSent b s).sched.acks = s.sched.acks ∧ (State.statusSent b s).sched.flowPlace = s.sched.flowPlace ∧
          (State.statusSent b s).sched.draws = s.sched.draws ∧ (State.statusSent b s).sched.seed = s.sched.seed ∧
          (State.statusSent b s).msgs.outbound = s.msgs.outbound ∧ (State.statusSent b s).msgs.inbound = s.msgs.inbound ∧
          (State.statusSent b s).msgs.triplog = s.msgs.triplog ∧ (State.statusSent b s).msgs.buffer0 = s.msgs.buffer0 ∧
          (State.statusSent b s).msgs.buffer1 = s.msgs.buffer1 ∧ (State.statusSent b s).msgs.stamp = s.msgs.stamp ∧
          (State.statusSent b s).msgs.deposit = s.msgs.deposit ∧ (State.statusSent b s).msgs.delivered = s.msgs.delivered ∧
          (State.statusSent b s).msgs.paused = s.msgs.paused ∧ (State.statusSent b s).msgs.pauseAt = s.msgs.pauseAt ∧
          (State.statusSent b s).msgs.resumeAt = s.msgs.resumeAt ∧ (State.statusSent b s).msgs.lastOut = s.msgs.lastOut ∧
          (State.statusSent b s).page.enables = s.page.enables ∧ (State.statusSent b s).page.counters = s.page.counters ∧
          (State.statusSent b s).page.statusCopy = s.page.statusCopy ∧ (State.statusSent b s).page.shiftCopy = s.page.shiftCopy ∧
          (State.statusSent b s).page.powerCopy = s.page.powerCopy ∧ (State.statusSent b s).page.enableCopy = s.page.enableCopy ∧
          (State.statusSent b s).pins.emswClosed = s.pins.emswClosed ∧ (State.statusSent b s).pins.ign = s.pins.ign ∧
          (State.statusSent b s).pins.wake = s.pins.wake ∧ (State.statusSent b s).link.channels = s.link.channels ∧
          (State.statusSent b s).link.cycle = s.link.cycle ∧ (State.statusSent b s).link.nextSlot = s.link.nextSlot ∧
          (State.statusSent b s).link.window = s.link.window ∧ (State.statusSent b s).link.beaconIn = s.link.beaconIn ∧
          (State.statusSent b s).link.contention = s.link.contention ∧ (State.statusSent b s).link.clock = s.link.clock ∧
          (State.statusSent b s).link.seconds = s.link.seconds ∧ (State.statusSent b s).link.clockUpper = s.link.clockUpper ∧
          (State.statusSent b s).power.reason = s.power.reason ∧ (State.statusSent b s).power.ignition = s.power.ignition ∧
          (State.statusSent b s).power.startUp = s.power.startUp ∧ (State.statusSent b s).power.image = s.power.image ∧
          (State.statusSent b s).power.recovery = s.power.recovery ∧ (State.statusSent b s).power.result = s.power.result ∧
          (State.statusSent b s).power.faultReason = s.power.faultReason ∧
          (State.statusSent b s).power.failingItem = s.power.failingItem ∧ (State.statusSent b s).power.attempt = s.power.attempt ∧
          (State.statusSent b s).power.transaction = s.power.transaction := by
  unfold State.statusSent; (repeat' split) <;> simp

@[simp] theorem State.powerChange_fields (w : Word) (s : State) :
    (State.powerChange w s).sched.joinAttempts = s.sched.joinAttempts ∧ (State.powerChange w s).sched.alertPlace = s.sched.alertPlace ∧
          (State.powerChange w s).sched.acks = s.sched.acks ∧ (State.powerChange w s).sched.flowPlace = s.sched.flowPlace ∧
          (State.powerChange w s).sched.draws = s.sched.draws ∧ (State.powerChange w s).sched.seed = s.sched.seed ∧
          (State.powerChange w s).msgs.outbound = s.msgs.outbound ∧ (State.powerChange w s).msgs.inbound = s.msgs.inbound ∧
          (State.powerChange w s).msgs.triplog = s.msgs.triplog ∧ (State.powerChange w s).msgs.buffer0 = s.msgs.buffer0 ∧
          (State.powerChange w s).msgs.buffer1 = s.msgs.buffer1 ∧ (State.powerChange w s).msgs.stamp = s.msgs.stamp ∧
          (State.powerChange w s).msgs.deposit = s.msgs.deposit ∧ (State.powerChange w s).msgs.delivered = s.msgs.delivered ∧
          (State.powerChange w s).msgs.paused = s.msgs.paused ∧ (State.powerChange w s).msgs.pauseAt = s.msgs.pauseAt ∧
          (State.powerChange w s).msgs.resumeAt = s.msgs.resumeAt ∧ (State.powerChange w s).msgs.lastOut = s.msgs.lastOut ∧
          (State.powerChange w s).page.enables = s.page.enables ∧ (State.powerChange w s).page.counters = s.page.counters ∧
          (State.powerChange w s).page.statusCopy = s.page.statusCopy ∧ (State.powerChange w s).page.shiftCopy = s.page.shiftCopy ∧
          (State.powerChange w s).page.powerCopy = s.page.powerCopy ∧ (State.powerChange w s).page.enableCopy = s.page.enableCopy ∧
          (State.powerChange w s).pins.emswClosed = s.pins.emswClosed ∧ (State.powerChange w s).pins.ign = s.pins.ign ∧
          (State.powerChange w s).pins.wake = s.pins.wake ∧ (State.powerChange w s).link.channels = s.link.channels ∧
          (State.powerChange w s).link.cycle = s.link.cycle ∧ (State.powerChange w s).link.nextSlot = s.link.nextSlot ∧
          (State.powerChange w s).link.window = s.link.window ∧ (State.powerChange w s).link.beaconIn = s.link.beaconIn ∧
          (State.powerChange w s).link.contention = s.link.contention ∧ (State.powerChange w s).link.clock = s.link.clock ∧
          (State.powerChange w s).link.seconds = s.link.seconds ∧ (State.powerChange w s).link.clockUpper = s.link.clockUpper ∧
          (State.powerChange w s).power.reason = s.power.reason ∧ (State.powerChange w s).power.ignition = s.power.ignition ∧
          (State.powerChange w s).power.startUp = s.power.startUp ∧ (State.powerChange w s).power.image = s.power.image ∧
          (State.powerChange w s).power.recovery = s.power.recovery ∧ (State.powerChange w s).power.result = s.power.result ∧
          (State.powerChange w s).power.faultReason = s.power.faultReason ∧
          (State.powerChange w s).power.failingItem = s.power.failingItem ∧ (State.powerChange w s).power.attempt = s.power.attempt ∧
          (State.powerChange w s).power.transaction = s.power.transaction := by
  unfold State.powerChange; (repeat' split) <;> simp

@[simp] theorem State.powerRequest_fields (l : Lanes) (d : Word) (s : State) :
    (State.powerRequest l d s).sched.joinAttempts = s.sched.joinAttempts ∧
          (State.powerRequest l d s).sched.alertPlace = s.sched.alertPlace ∧ (State.powerRequest l d s).sched.acks = s.sched.acks ∧
          (State.powerRequest l d s).sched.flowPlace = s.sched.flowPlace ∧ (State.powerRequest l d s).sched.draws = s.sched.draws ∧
          (State.powerRequest l d s).sched.seed = s.sched.seed ∧ (State.powerRequest l d s).msgs.outbound = s.msgs.outbound ∧
          (State.powerRequest l d s).msgs.inbound = s.msgs.inbound ∧ (State.powerRequest l d s).msgs.triplog = s.msgs.triplog ∧
          (State.powerRequest l d s).msgs.buffer0 = s.msgs.buffer0 ∧ (State.powerRequest l d s).msgs.buffer1 = s.msgs.buffer1 ∧
          (State.powerRequest l d s).msgs.stamp = s.msgs.stamp ∧ (State.powerRequest l d s).msgs.deposit = s.msgs.deposit ∧
          (State.powerRequest l d s).msgs.delivered = s.msgs.delivered ∧ (State.powerRequest l d s).msgs.paused = s.msgs.paused ∧
          (State.powerRequest l d s).msgs.pauseAt = s.msgs.pauseAt ∧ (State.powerRequest l d s).msgs.resumeAt = s.msgs.resumeAt ∧
          (State.powerRequest l d s).msgs.lastOut = s.msgs.lastOut ∧ (State.powerRequest l d s).page.enables = s.page.enables ∧
          (State.powerRequest l d s).page.counters = s.page.counters ∧ (State.powerRequest l d s).page.statusCopy = s.page.statusCopy ∧
          (State.powerRequest l d s).page.shiftCopy = s.page.shiftCopy ∧ (State.powerRequest l d s).page.enableCopy = s.page.enableCopy ∧
          (State.powerRequest l d s).pins.emswClosed = s.pins.emswClosed ∧ (State.powerRequest l d s).pins.ign = s.pins.ign ∧
          (State.powerRequest l d s).link.channels = s.link.channels ∧ (State.powerRequest l d s).link.cycle = s.link.cycle ∧
          (State.powerRequest l d s).link.nextSlot = s.link.nextSlot ∧ (State.powerRequest l d s).link.window = s.link.window ∧
          (State.powerRequest l d s).link.beaconIn = s.link.beaconIn ∧ (State.powerRequest l d s).link.contention = s.link.contention ∧
          (State.powerRequest l d s).link.clock = s.link.clock ∧ (State.powerRequest l d s).link.seconds = s.link.seconds ∧
          (State.powerRequest l d s).link.clockUpper = s.link.clockUpper ∧ (State.powerRequest l d s).power.reason = s.power.reason ∧
          (State.powerRequest l d s).power.ignition = s.power.ignition ∧ (State.powerRequest l d s).power.startUp = s.power.startUp ∧
          (State.powerRequest l d s).power.image = s.power.image ∧ (State.powerRequest l d s).power.recovery = s.power.recovery ∧
          (State.powerRequest l d s).power.faultReason = s.power.faultReason ∧
          (State.powerRequest l d s).power.failingItem = s.power.failingItem ∧
          (State.powerRequest l d s).power.attempt = s.power.attempt ∧
          (State.powerRequest l d s).power.transaction = s.power.transaction := by
  unfold State.powerRequest; dsimp only; (repeat' split) <;> simp <;> (repeat' split) <;> simp

@[simp] theorem State.rewriteRecord_fields (s : State) :
    (State.rewriteRecord s).path.asel = s.path.asel ∧ (State.rewriteRecord s).path.inReset = s.path.inReset ∧
          (State.rewriteRecord s).path.buffer = s.path.buffer ∧ (State.rewriteRecord s).path.drain = s.path.drain ∧
          (State.rewriteRecord s).path.under = s.path.under ∧ (State.rewriteRecord s).path.internal = s.path.internal ∧
          (State.rewriteRecord s).path.fairness = s.path.fairness ∧ (State.rewriteRecord s).path.resetDrain = s.path.resetDrain ∧
          (State.rewriteRecord s).path.held = s.path.held ∧ (State.rewriteRecord s).path.answer = s.path.answer ∧
          (State.rewriteRecord s).emerg.state = s.emerg.state ∧ (State.rewriteRecord s).emerg.number = s.emerg.number ∧
          (State.rewriteRecord s).emerg.source = s.emerg.source ∧ (State.rewriteRecord s).emerg.raisedAt = s.emerg.raisedAt ∧
          (State.rewriteRecord s).emerg.sends = s.emerg.sends ∧ (State.rewriteRecord s).emerg.hold = s.emerg.hold ∧
          (State.rewriteRecord s).emerg.repeatLeft = s.emerg.repeatLeft ∧ (State.rewriteRecord s).emerg.image = s.emerg.image ∧
          (State.rewriteRecord s).emerg.raiseResult = s.emerg.raiseResult ∧ (State.rewriteRecord s).emerg.ackedAt = s.emerg.ackedAt ∧
          (State.rewriteRecord s).emerg.cancelledAt = s.emerg.cancelledAt ∧
          (State.rewriteRecord s).emerg.causeWaits = s.emerg.causeWaits ∧ (State.rewriteRecord s).emerg.guardHeld = s.emerg.guardHeld := by
  unfold State.rewriteRecord; (repeat' split) <;> simp

@[simp] theorem State.rewriteWithCause_fields (s : State) :
    (State.rewriteWithCause s).path.asel = s.path.asel ∧ (State.rewriteWithCause s).path.inReset = s.path.inReset ∧
          (State.rewriteWithCause s).path.buffer = s.path.buffer ∧ (State.rewriteWithCause s).path.drain = s.path.drain ∧
          (State.rewriteWithCause s).path.under = s.path.under ∧ (State.rewriteWithCause s).path.internal = s.path.internal ∧
          (State.rewriteWithCause s).path.fairness = s.path.fairness ∧ (State.rewriteWithCause s).path.resetDrain = s.path.resetDrain ∧
          (State.rewriteWithCause s).path.held = s.path.held ∧ (State.rewriteWithCause s).path.answer = s.path.answer ∧
          (State.rewriteWithCause s).emerg.state = s.emerg.state ∧ (State.rewriteWithCause s).emerg.number = s.emerg.number ∧
          (State.rewriteWithCause s).emerg.source = s.emerg.source ∧ (State.rewriteWithCause s).emerg.raisedAt = s.emerg.raisedAt ∧
          (State.rewriteWithCause s).emerg.sends = s.emerg.sends ∧ (State.rewriteWithCause s).emerg.hold = s.emerg.hold ∧
          (State.rewriteWithCause s).emerg.repeatLeft = s.emerg.repeatLeft ∧ (State.rewriteWithCause s).emerg.image = s.emerg.image ∧
          (State.rewriteWithCause s).emerg.raiseResult = s.emerg.raiseResult ∧
          (State.rewriteWithCause s).emerg.ackedAt = s.emerg.ackedAt ∧
          (State.rewriteWithCause s).emerg.cancelledAt = s.emerg.cancelledAt ∧
          (State.rewriteWithCause s).emerg.guardHeld = s.emerg.guardHeld := by
  unfold State.rewriteWithCause; (repeat' split) <;> simp

@[simp] theorem State.alertingHandOn_fields (s : State) :
    (State.alertingHandOn s).offers.order = s.offers.order ∧ (State.alertingHandOn s).path.asel = s.path.asel ∧
          (State.alertingHandOn s).path.inReset = s.path.inReset ∧ (State.alertingHandOn s).path.buffer = s.path.buffer ∧
          (State.alertingHandOn s).path.drain = s.path.drain ∧ (State.alertingHandOn s).path.under = s.path.under ∧
          (State.alertingHandOn s).path.internal = s.path.internal ∧ (State.alertingHandOn s).path.fairness = s.path.fairness ∧
          (State.alertingHandOn s).path.resetDrain = s.path.resetDrain ∧ (State.alertingHandOn s).path.held = s.path.held ∧
          (State.alertingHandOn s).path.answer = s.path.answer ∧ (State.alertingHandOn s).sched.joinPlace = s.sched.joinPlace ∧
          (State.alertingHandOn s).sched.joinAttempts = s.sched.joinAttempts ∧
          (State.alertingHandOn s).sched.alertPlace = s.sched.alertPlace ∧
          (State.alertingHandOn s).sched.alertAttempts = s.sched.alertAttempts ∧ (State.alertingHandOn s).sched.acks = s.sched.acks ∧
          (State.alertingHandOn s).sched.flowPlace = s.sched.flowPlace ∧
          (State.alertingHandOn s).sched.slotRequest = s.sched.slotRequest ∧ (State.alertingHandOn s).sched.long = s.sched.long ∧
          (State.alertingHandOn s).sched.requests = s.sched.requests ∧ (State.alertingHandOn s).sched.grant = s.sched.grant ∧
          (State.alertingHandOn s).sched.draws = s.sched.draws ∧ (State.alertingHandOn s).sched.seed = s.sched.seed ∧
          (State.alertingHandOn s).radio.receiverOn = s.radio.receiverOn ∧ (State.alertingHandOn s).radio.channel = s.radio.channel ∧
          (State.alertingHandOn s).radio.output = s.radio.output ∧ (State.alertingHandOn s).status.status = s.status.status ∧
          (State.alertingHandOn s).status.shiftOpen = s.status.shiftOpen ∧
          (State.alertingHandOn s).status.shiftNumber = s.status.shiftNumber ∧
          (State.alertingHandOn s).status.driverId = s.status.driverId ∧
          (State.alertingHandOn s).status.meterOpened = s.status.meterOpened ∧ (State.alertingHandOn s).status.zone = s.status.zone ∧
          (State.alertingHandOn s).status.position = s.status.position ∧ (State.alertingHandOn s).status.lampMap = s.status.lampMap ∧
          (State.alertingHandOn s).status.alarmEnabled = s.status.alarmEnabled ∧
          (State.alertingHandOn s).status.flashOn = s.status.flashOn ∧ (State.alertingHandOn s).status.driverCopy = s.status.driverCopy ∧
          (State.alertingHandOn s).status.firstCopy = s.status.firstCopy ∧
          (State.alertingHandOn s).status.secondCopy = s.status.secondCopy ∧
          (State.alertingHandOn s).status.pendingFirst = s.status.pendingFirst ∧
          (State.alertingHandOn s).status.statusResult = s.status.statusResult ∧
          (State.alertingHandOn s).status.shiftResult = s.status.shiftResult ∧
          (State.alertingHandOn s).pins.emswClosed = s.pins.emswClosed ∧ (State.alertingHandOn s).pins.ign = s.pins.ign ∧
          (State.alertingHandOn s).pins.attn = s.pins.attn ∧ (State.alertingHandOn s).pins.wake = s.pins.wake := by
  unfold State.alertingHandOn; (repeat' split) <;> simp

@[simp] theorem State.fillAlert_fields (s : State) :
    (State.fillAlert s).sched.joinPlace = s.sched.joinPlace ∧ (State.fillAlert s).sched.joinAttempts = s.sched.joinAttempts ∧
          (State.fillAlert s).sched.acks = s.sched.acks ∧ (State.fillAlert s).sched.bids = s.sched.bids ∧
          (State.fillAlert s).sched.flowPlace = s.sched.flowPlace ∧ (State.fillAlert s).sched.slotRequest = s.sched.slotRequest ∧
          (State.fillAlert s).sched.statusPlace = s.sched.statusPlace ∧ (State.fillAlert s).sched.contention = s.sched.contention ∧
          (State.fillAlert s).sched.long = s.sched.long ∧ (State.fillAlert s).sched.requests = s.sched.requests ∧
          (State.fillAlert s).sched.grant = s.sched.grant ∧ (State.fillAlert s).sched.draws = s.sched.draws ∧
          (State.fillAlert s).sched.seed = s.sched.seed := by
  unfold State.fillAlert; (repeat' split) <;> simp

@[simp] theorem State.enterAlerting_fields (x : Source) (s : State) :
    (State.enterAlerting x s).offers.order = s.offers.order ∧ (State.enterAlerting x s).path.asel = s.path.asel ∧
          (State.enterAlerting x s).path.inReset = s.path.inReset ∧ (State.enterAlerting x s).path.buffer = s.path.buffer ∧
          (State.enterAlerting x s).path.drain = s.path.drain ∧ (State.enterAlerting x s).path.under = s.path.under ∧
          (State.enterAlerting x s).path.internal = s.path.internal ∧ (State.enterAlerting x s).path.fairness = s.path.fairness ∧
          (State.enterAlerting x s).path.resetDrain = s.path.resetDrain ∧ (State.enterAlerting x s).path.held = s.path.held ∧
          (State.enterAlerting x s).path.answer = s.path.answer ∧ (State.enterAlerting x s).sched.joinPlace = s.sched.joinPlace ∧
          (State.enterAlerting x s).sched.joinAttempts = s.sched.joinAttempts ∧ (State.enterAlerting x s).sched.acks = s.sched.acks ∧
          (State.enterAlerting x s).sched.flowPlace = s.sched.flowPlace ∧
          (State.enterAlerting x s).sched.slotRequest = s.sched.slotRequest ∧ (State.enterAlerting x s).sched.long = s.sched.long ∧
          (State.enterAlerting x s).sched.requests = s.sched.requests ∧ (State.enterAlerting x s).sched.grant = s.sched.grant ∧
          (State.enterAlerting x s).sched.draws = s.sched.draws ∧ (State.enterAlerting x s).sched.seed = s.sched.seed ∧
          (State.enterAlerting x s).radio.receiverOn = s.radio.receiverOn ∧ (State.enterAlerting x s).radio.channel = s.radio.channel ∧
          (State.enterAlerting x s).radio.output = s.radio.output ∧ (State.enterAlerting x s).status.status = s.status.status ∧
          (State.enterAlerting x s).status.shiftOpen = s.status.shiftOpen ∧
          (State.enterAlerting x s).status.shiftNumber = s.status.shiftNumber ∧
          (State.enterAlerting x s).status.driverId = s.status.driverId ∧
          (State.enterAlerting x s).status.meterOpened = s.status.meterOpened ∧ (State.enterAlerting x s).status.zone = s.status.zone ∧
          (State.enterAlerting x s).status.position = s.status.position ∧ (State.enterAlerting x s).status.lampMap = s.status.lampMap ∧
          (State.enterAlerting x s).status.alarmEnabled = s.status.alarmEnabled ∧
          (State.enterAlerting x s).status.flashOn = s.status.flashOn ∧
          (State.enterAlerting x s).status.driverCopy = s.status.driverCopy ∧
          (State.enterAlerting x s).status.firstCopy = s.status.firstCopy ∧
          (State.enterAlerting x s).status.secondCopy = s.status.secondCopy ∧
          (State.enterAlerting x s).status.pendingFirst = s.status.pendingFirst ∧
          (State.enterAlerting x s).status.statusResult = s.status.statusResult ∧
          (State.enterAlerting x s).status.shiftResult = s.status.shiftResult ∧
          (State.enterAlerting x s).pins.emswClosed = s.pins.emswClosed ∧ (State.enterAlerting x s).pins.ign = s.pins.ign ∧
          (State.enterAlerting x s).pins.attn = s.pins.attn ∧ (State.enterAlerting x s).pins.wake = s.pins.wake ∧
          (State.enterAlerting x s).emerg.repeatLeft = s.emerg.repeatLeft ∧ (State.enterAlerting x s).emerg.image = s.emerg.image ∧
          (State.enterAlerting x s).emerg.raiseResult = s.emerg.raiseResult ∧
          (State.enterAlerting x s).emerg.guardHeld = s.emerg.guardHeld ∧ (State.enterAlerting x s).trips.counter = s.trips.counter ∧
          (State.enterAlerting x s).trips.components = s.trips.components ∧ (State.enterAlerting x s).trips.silence = s.trips.silence ∧
          (State.enterAlerting x s).trips.lastFault = s.trips.lastFault ∧ (State.enterAlerting x s).trips.lastRef = s.trips.lastRef ∧
          (State.enterAlerting x s).trips.deposit = s.trips.deposit ∧ (State.enterAlerting x s).trips.pendingLog = s.trips.pendingLog ∧
          (State.enterAlerting x s).trips.reports = s.trips.reports ∧ (State.enterAlerting x s).trips.abandoned = s.trips.abandoned ∧
          (State.enterAlerting x s).trips.shiftReport = s.trips.shiftReport ∧ (State.enterAlerting x s).trips.totals = s.trips.totals ∧
          (State.enterAlerting x s).trips.captured = s.trips.captured ∧ (State.enterAlerting x s).trips.meterCopy = s.trips.meterCopy ∧
          (State.enterAlerting x s).trips.totalsCopy = s.trips.totalsCopy := by
  unfold State.enterAlerting; (repeat' split) <;> simp

@[simp] theorem State.takeClosing_fields (s : State) :
    (State.takeClosing s).sched.joinAttempts = s.sched.joinAttempts ∧ (State.takeClosing s).sched.alertPlace = s.sched.alertPlace ∧
          (State.takeClosing s).sched.acks = s.sched.acks ∧ (State.takeClosing s).sched.flowPlace = s.sched.flowPlace ∧
          (State.takeClosing s).sched.draws = s.sched.draws ∧ (State.takeClosing s).sched.seed = s.sched.seed ∧
          (State.takeClosing s).msgs.outbound = s.msgs.outbound ∧ (State.takeClosing s).msgs.inbound = s.msgs.inbound ∧
          (State.takeClosing s).msgs.triplog = s.msgs.triplog ∧ (State.takeClosing s).msgs.buffer0 = s.msgs.buffer0 ∧
          (State.takeClosing s).msgs.buffer1 = s.msgs.buffer1 ∧ (State.takeClosing s).msgs.stamp = s.msgs.stamp ∧
          (State.takeClosing s).msgs.deposit = s.msgs.deposit ∧ (State.takeClosing s).msgs.delivered = s.msgs.delivered ∧
          (State.takeClosing s).msgs.paused = s.msgs.paused ∧ (State.takeClosing s).msgs.pauseAt = s.msgs.pauseAt ∧
          (State.takeClosing s).msgs.resumeAt = s.msgs.resumeAt ∧ (State.takeClosing s).msgs.lastOut = s.msgs.lastOut ∧
          (State.takeClosing s).page.enables = s.page.enables ∧ (State.takeClosing s).page.counters = s.page.counters ∧
          (State.takeClosing s).page.statusCopy = s.page.statusCopy ∧ (State.takeClosing s).page.shiftCopy = s.page.shiftCopy ∧
          (State.takeClosing s).page.powerCopy = s.page.powerCopy ∧ (State.takeClosing s).page.enableCopy = s.page.enableCopy ∧
          (State.takeClosing s).pins.emswClosed = s.pins.emswClosed ∧ (State.takeClosing s).pins.ign = s.pins.ign ∧
          (State.takeClosing s).link.channels = s.link.channels ∧ (State.takeClosing s).link.cycle = s.link.cycle ∧
          (State.takeClosing s).link.nextSlot = s.link.nextSlot ∧ (State.takeClosing s).link.window = s.link.window ∧
          (State.takeClosing s).link.beaconIn = s.link.beaconIn ∧ (State.takeClosing s).link.contention = s.link.contention ∧
          (State.takeClosing s).link.clock = s.link.clock ∧ (State.takeClosing s).link.seconds = s.link.seconds ∧
          (State.takeClosing s).link.clockUpper = s.link.clockUpper ∧ (State.takeClosing s).power.ignition = s.power.ignition ∧
          (State.takeClosing s).power.startUp = s.power.startUp ∧ (State.takeClosing s).power.image = s.power.image ∧
          (State.takeClosing s).power.recovery = s.power.recovery ∧ (State.takeClosing s).power.result = s.power.result ∧
          (State.takeClosing s).power.faultReason = s.power.faultReason ∧ (State.takeClosing s).power.failingItem = s.power.failingItem ∧
          (State.takeClosing s).power.attempt = s.power.attempt ∧ (State.takeClosing s).power.transaction = s.power.transaction ∧
          (State.takeClosing s).emerg.number = s.emerg.number ∧ (State.takeClosing s).emerg.source = s.emerg.source ∧
          (State.takeClosing s).emerg.raisedAt = s.emerg.raisedAt ∧ (State.takeClosing s).emerg.sends = s.emerg.sends ∧
          (State.takeClosing s).emerg.repeatLeft = s.emerg.repeatLeft ∧ (State.takeClosing s).emerg.image = s.emerg.image ∧
          (State.takeClosing s).emerg.raiseResult = s.emerg.raiseResult ∧ (State.takeClosing s).emerg.ackedAt = s.emerg.ackedAt ∧
          (State.takeClosing s).emerg.cancelledAt = s.emerg.cancelledAt ∧ (State.takeClosing s).emerg.owed = s.emerg.owed ∧
          (State.takeClosing s).emerg.causeWaits = s.emerg.causeWaits ∧ (State.takeClosing s).emerg.guardHeld = s.emerg.guardHeld ∧
          (State.takeClosing s).trips.counter = s.trips.counter ∧ (State.takeClosing s).trips.components = s.trips.components ∧
          (State.takeClosing s).trips.silence = s.trips.silence ∧ (State.takeClosing s).trips.lastFault = s.trips.lastFault ∧
          (State.takeClosing s).trips.lastRef = s.trips.lastRef ∧ (State.takeClosing s).trips.deposit = s.trips.deposit ∧
          (State.takeClosing s).trips.pendingLog = s.trips.pendingLog ∧ (State.takeClosing s).trips.reports = s.trips.reports ∧
          (State.takeClosing s).trips.abandoned = s.trips.abandoned ∧ (State.takeClosing s).trips.shiftReport = s.trips.shiftReport ∧
          (State.takeClosing s).trips.totals = s.trips.totals ∧ (State.takeClosing s).trips.captured = s.trips.captured ∧
          (State.takeClosing s).trips.meterCopy = s.trips.meterCopy ∧ (State.takeClosing s).trips.totalsCopy = s.trips.totalsCopy := by
  unfold State.takeClosing; dsimp only; (repeat' split) <;> simp <;> (repeat' split) <;> simp

@[simp] theorem State.takeOpening_fields (s : State) :
    (State.takeOpening s).emerg.number = s.emerg.number ∧ (State.takeOpening s).emerg.source = s.emerg.source ∧
          (State.takeOpening s).emerg.raisedAt = s.emerg.raisedAt ∧ (State.takeOpening s).emerg.sends = s.emerg.sends ∧
          (State.takeOpening s).emerg.repeatLeft = s.emerg.repeatLeft ∧ (State.takeOpening s).emerg.image = s.emerg.image ∧
          (State.takeOpening s).emerg.raiseResult = s.emerg.raiseResult ∧ (State.takeOpening s).emerg.ackedAt = s.emerg.ackedAt ∧
          (State.takeOpening s).emerg.cancelledAt = s.emerg.cancelledAt ∧ (State.takeOpening s).emerg.owed = s.emerg.owed ∧
          (State.takeOpening s).emerg.causeWaits = s.emerg.causeWaits ∧ (State.takeOpening s).emerg.guardHeld = s.emerg.guardHeld := by
  unfold State.takeOpening; (repeat' split) <;> simp

@[simp] theorem State.holdEnds_fields (s : State) :
    (State.holdEnds s).offers.order = s.offers.order ∧ (State.holdEnds s).path.asel = s.path.asel ∧
          (State.holdEnds s).path.inReset = s.path.inReset ∧ (State.holdEnds s).path.buffer = s.path.buffer ∧
          (State.holdEnds s).path.drain = s.path.drain ∧ (State.holdEnds s).path.under = s.path.under ∧
          (State.holdEnds s).path.internal = s.path.internal ∧ (State.holdEnds s).path.fairness = s.path.fairness ∧
          (State.holdEnds s).path.resetDrain = s.path.resetDrain ∧ (State.holdEnds s).path.held = s.path.held ∧
          (State.holdEnds s).path.answer = s.path.answer ∧ (State.holdEnds s).sched.joinPlace = s.sched.joinPlace ∧
          (State.holdEnds s).sched.joinAttempts = s.sched.joinAttempts ∧ (State.holdEnds s).sched.acks = s.sched.acks ∧
          (State.holdEnds s).sched.flowPlace = s.sched.flowPlace ∧ (State.holdEnds s).sched.slotRequest = s.sched.slotRequest ∧
          (State.holdEnds s).sched.long = s.sched.long ∧ (State.holdEnds s).sched.requests = s.sched.requests ∧
          (State.holdEnds s).sched.grant = s.sched.grant ∧ (State.holdEnds s).sched.draws = s.sched.draws ∧
          (State.holdEnds s).sched.seed = s.sched.seed ∧ (State.holdEnds s).radio.receiverOn = s.radio.receiverOn ∧
          (State.holdEnds s).radio.channel = s.radio.channel ∧ (State.holdEnds s).radio.output = s.radio.output ∧
          (State.holdEnds s).status.status = s.status.status ∧ (State.holdEnds s).status.shiftOpen = s.status.shiftOpen ∧
          (State.holdEnds s).status.shiftNumber = s.status.shiftNumber ∧ (State.holdEnds s).status.driverId = s.status.driverId ∧
          (State.holdEnds s).status.meterOpened = s.status.meterOpened ∧ (State.holdEnds s).status.zone = s.status.zone ∧
          (State.holdEnds s).status.position = s.status.position ∧ (State.holdEnds s).status.lampMap = s.status.lampMap ∧
          (State.holdEnds s).status.alarmEnabled = s.status.alarmEnabled ∧ (State.holdEnds s).status.flashOn = s.status.flashOn ∧
          (State.holdEnds s).status.driverCopy = s.status.driverCopy ∧ (State.holdEnds s).status.firstCopy = s.status.firstCopy ∧
          (State.holdEnds s).status.secondCopy = s.status.secondCopy ∧ (State.holdEnds s).status.pendingFirst = s.status.pendingFirst ∧
          (State.holdEnds s).status.statusResult = s.status.statusResult ∧ (State.holdEnds s).status.shiftResult = s.status.shiftResult ∧
          (State.holdEnds s).pins.emswClosed = s.pins.emswClosed ∧ (State.holdEnds s).pins.ign = s.pins.ign ∧
          (State.holdEnds s).pins.attn = s.pins.attn ∧ (State.holdEnds s).pins.wake = s.pins.wake ∧
          (State.holdEnds s).emerg.repeatLeft = s.emerg.repeatLeft ∧ (State.holdEnds s).emerg.image = s.emerg.image ∧
          (State.holdEnds s).emerg.raiseResult = s.emerg.raiseResult ∧ (State.holdEnds s).emerg.guardHeld = s.emerg.guardHeld ∧
          (State.holdEnds s).trips.counter = s.trips.counter ∧ (State.holdEnds s).trips.components = s.trips.components ∧
          (State.holdEnds s).trips.silence = s.trips.silence ∧ (State.holdEnds s).trips.lastFault = s.trips.lastFault ∧
          (State.holdEnds s).trips.lastRef = s.trips.lastRef ∧ (State.holdEnds s).trips.deposit = s.trips.deposit ∧
          (State.holdEnds s).trips.pendingLog = s.trips.pendingLog ∧ (State.holdEnds s).trips.reports = s.trips.reports ∧
          (State.holdEnds s).trips.abandoned = s.trips.abandoned ∧ (State.holdEnds s).trips.shiftReport = s.trips.shiftReport ∧
          (State.holdEnds s).trips.totals = s.trips.totals ∧ (State.holdEnds s).trips.captured = s.trips.captured ∧
          (State.holdEnds s).trips.meterCopy = s.trips.meterCopy ∧ (State.holdEnds s).trips.totalsCopy = s.trips.totalsCopy := by
  unfold State.holdEnds; (repeat' split) <;> simp

@[simp] theorem State.emergencyRaiseWrite_fields (l : Lanes) (d : Word) (s : State) :
    (State.emergencyRaiseWrite l d s).offers.order = s.offers.order ∧ (State.emergencyRaiseWrite l d s).path.asel = s.path.asel ∧
          (State.emergencyRaiseWrite l d s).path.inReset = s.path.inReset ∧
          (State.emergencyRaiseWrite l d s).path.buffer = s.path.buffer ∧ (State.emergencyRaiseWrite l d s).path.drain = s.path.drain ∧
          (State.emergencyRaiseWrite l d s).path.under = s.path.under ∧
          (State.emergencyRaiseWrite l d s).path.internal = s.path.internal ∧
          (State.emergencyRaiseWrite l d s).path.fairness = s.path.fairness ∧
          (State.emergencyRaiseWrite l d s).path.resetDrain = s.path.resetDrain ∧
          (State.emergencyRaiseWrite l d s).path.held = s.path.held ∧ (State.emergencyRaiseWrite l d s).path.answer = s.path.answer ∧
          (State.emergencyRaiseWrite l d s).sched.joinPlace = s.sched.joinPlace ∧
          (State.emergencyRaiseWrite l d s).sched.joinAttempts = s.sched.joinAttempts ∧
          (State.emergencyRaiseWrite l d s).sched.acks = s.sched.acks ∧
          (State.emergencyRaiseWrite l d s).sched.flowPlace = s.sched.flowPlace ∧
          (State.emergencyRaiseWrite l d s).sched.slotRequest = s.sched.slotRequest ∧
          (State.emergencyRaiseWrite l d s).sched.long = s.sched.long ∧
          (State.emergencyRaiseWrite l d s).sched.requests = s.sched.requests ∧
          (State.emergencyRaiseWrite l d s).sched.grant = s.sched.grant ∧ (State.emergencyRaiseWrite l d s).sched.draws = s.sched.draws ∧
          (State.emergencyRaiseWrite l d s).sched.seed = s.sched.seed ∧
          (State.emergencyRaiseWrite l d s).radio.receiverOn = s.radio.receiverOn ∧
          (State.emergencyRaiseWrite l d s).radio.channel = s.radio.channel ∧
          (State.emergencyRaiseWrite l d s).radio.output = s.radio.output ∧
          (State.emergencyRaiseWrite l d s).status.status = s.status.status ∧
          (State.emergencyRaiseWrite l d s).status.shiftOpen = s.status.shiftOpen ∧
          (State.emergencyRaiseWrite l d s).status.shiftNumber = s.status.shiftNumber ∧
          (State.emergencyRaiseWrite l d s).status.driverId = s.status.driverId ∧
          (State.emergencyRaiseWrite l d s).status.meterOpened = s.status.meterOpened ∧
          (State.emergencyRaiseWrite l d s).status.zone = s.status.zone ∧
          (State.emergencyRaiseWrite l d s).status.position = s.status.position ∧
          (State.emergencyRaiseWrite l d s).status.lampMap = s.status.lampMap ∧
          (State.emergencyRaiseWrite l d s).status.alarmEnabled = s.status.alarmEnabled ∧
          (State.emergencyRaiseWrite l d s).status.flashOn = s.status.flashOn ∧
          (State.emergencyRaiseWrite l d s).status.driverCopy = s.status.driverCopy ∧
          (State.emergencyRaiseWrite l d s).status.firstCopy = s.status.firstCopy ∧
          (State.emergencyRaiseWrite l d s).status.secondCopy = s.status.secondCopy ∧
          (State.emergencyRaiseWrite l d s).status.pendingFirst = s.status.pendingFirst ∧
          (State.emergencyRaiseWrite l d s).status.statusResult = s.status.statusResult ∧
          (State.emergencyRaiseWrite l d s).status.shiftResult = s.status.shiftResult ∧
          (State.emergencyRaiseWrite l d s).pins.emswClosed = s.pins.emswClosed ∧
          (State.emergencyRaiseWrite l d s).pins.ign = s.pins.ign ∧ (State.emergencyRaiseWrite l d s).pins.wake = s.pins.wake ∧
          (State.emergencyRaiseWrite l d s).emerg.repeatLeft = s.emerg.repeatLeft ∧
          (State.emergencyRaiseWrite l d s).emerg.image = s.emerg.image ∧
          (State.emergencyRaiseWrite l d s).emerg.guardHeld = s.emerg.guardHeld ∧
          (State.emergencyRaiseWrite l d s).trips.counter = s.trips.counter ∧
          (State.emergencyRaiseWrite l d s).trips.components = s.trips.components ∧
          (State.emergencyRaiseWrite l d s).trips.silence = s.trips.silence ∧
          (State.emergencyRaiseWrite l d s).trips.lastFault = s.trips.lastFault ∧
          (State.emergencyRaiseWrite l d s).trips.lastRef = s.trips.lastRef ∧
          (State.emergencyRaiseWrite l d s).trips.deposit = s.trips.deposit ∧
          (State.emergencyRaiseWrite l d s).trips.pendingLog = s.trips.pendingLog ∧
          (State.emergencyRaiseWrite l d s).trips.reports = s.trips.reports ∧
          (State.emergencyRaiseWrite l d s).trips.abandoned = s.trips.abandoned ∧
          (State.emergencyRaiseWrite l d s).trips.shiftReport = s.trips.shiftReport ∧
          (State.emergencyRaiseWrite l d s).trips.totals = s.trips.totals ∧
          (State.emergencyRaiseWrite l d s).trips.captured = s.trips.captured ∧
          (State.emergencyRaiseWrite l d s).trips.meterCopy = s.trips.meterCopy ∧
          (State.emergencyRaiseWrite l d s).trips.totalsCopy = s.trips.totalsCopy ∧
          (State.emergencyRaiseWrite l d s).page.enables = s.page.enables ∧
          (State.emergencyRaiseWrite l d s).page.counters = s.page.counters ∧
          (State.emergencyRaiseWrite l d s).page.linkUp = s.page.linkUp ∧
          (State.emergencyRaiseWrite l d s).page.statusCopy = s.page.statusCopy ∧
          (State.emergencyRaiseWrite l d s).page.shiftCopy = s.page.shiftCopy ∧
          (State.emergencyRaiseWrite l d s).page.powerCopy = s.page.powerCopy ∧
          (State.emergencyRaiseWrite l d s).page.enableCopy = s.page.enableCopy := by
  unfold State.emergencyRaiseWrite; dsimp only; (repeat' split) <;> simp <;> (repeat' split) <;> simp

@[simp] theorem State.countSend_fields (s : State) :
    (State.countSend s).emerg.state = s.emerg.state ∧ (State.countSend s).emerg.number = s.emerg.number ∧
          (State.countSend s).emerg.source = s.emerg.source ∧ (State.countSend s).emerg.raisedAt = s.emerg.raisedAt ∧
          (State.countSend s).emerg.hold = s.emerg.hold ∧ (State.countSend s).emerg.repeatLeft = s.emerg.repeatLeft ∧
          (State.countSend s).emerg.image = s.emerg.image ∧ (State.countSend s).emerg.raiseResult = s.emerg.raiseResult ∧
          (State.countSend s).emerg.ackedAt = s.emerg.ackedAt ∧ (State.countSend s).emerg.cancelledAt = s.emerg.cancelledAt ∧
          (State.countSend s).emerg.owed = s.emerg.owed ∧ (State.countSend s).emerg.causeWaits = s.emerg.causeWaits ∧
          (State.countSend s).emerg.guardHeld = s.emerg.guardHeld := by
  unfold State.countSend; (repeat' split) <;> simp

@[simp] theorem State.alertSent_fields (n : Word) (s : State) :
    (State.alertSent n s).emerg.state = s.emerg.state ∧ (State.alertSent n s).emerg.number = s.emerg.number ∧
          (State.alertSent n s).emerg.source = s.emerg.source ∧ (State.alertSent n s).emerg.raisedAt = s.emerg.raisedAt ∧
          (State.alertSent n s).emerg.hold = s.emerg.hold ∧ (State.alertSent n s).emerg.image = s.emerg.image ∧
          (State.alertSent n s).emerg.raiseResult = s.emerg.raiseResult ∧ (State.alertSent n s).emerg.ackedAt = s.emerg.ackedAt ∧
          (State.alertSent n s).emerg.cancelledAt = s.emerg.cancelledAt ∧ (State.alertSent n s).emerg.causeWaits = s.emerg.causeWaits ∧
          (State.alertSent n s).emerg.guardHeld = s.emerg.guardHeld ∧ (State.alertSent n s).path.asel = s.path.asel ∧
          (State.alertSent n s).path.inReset = s.path.inReset ∧ (State.alertSent n s).path.buffer = s.path.buffer ∧
          (State.alertSent n s).path.drain = s.path.drain ∧ (State.alertSent n s).path.under = s.path.under ∧
          (State.alertSent n s).path.internal = s.path.internal ∧ (State.alertSent n s).path.fairness = s.path.fairness ∧
          (State.alertSent n s).path.resetDrain = s.path.resetDrain ∧ (State.alertSent n s).path.held = s.path.held ∧
          (State.alertSent n s).path.answer = s.path.answer ∧ (State.alertSent n s).sched.joinPlace = s.sched.joinPlace ∧
          (State.alertSent n s).sched.joinAttempts = s.sched.joinAttempts ∧
          (State.alertSent n s).sched.alertAttempts = s.sched.alertAttempts ∧ (State.alertSent n s).sched.acks = s.sched.acks ∧
          (State.alertSent n s).sched.bids = s.sched.bids ∧ (State.alertSent n s).sched.flowPlace = s.sched.flowPlace ∧
          (State.alertSent n s).sched.slotRequest = s.sched.slotRequest ∧ (State.alertSent n s).sched.statusPlace = s.sched.statusPlace ∧
          (State.alertSent n s).sched.contention = s.sched.contention ∧ (State.alertSent n s).sched.long = s.sched.long ∧
          (State.alertSent n s).sched.requests = s.sched.requests ∧ (State.alertSent n s).sched.grant = s.sched.grant ∧
          (State.alertSent n s).sched.draws = s.sched.draws ∧ (State.alertSent n s).sched.seed = s.sched.seed := by
  unfold State.alertSent; (repeat' split) <;> simp

@[simp] theorem State.repeatEnds_fields (s : State) :
    (State.repeatEnds s).emerg.state = s.emerg.state ∧ (State.repeatEnds s).emerg.number = s.emerg.number ∧
          (State.repeatEnds s).emerg.source = s.emerg.source ∧ (State.repeatEnds s).emerg.raisedAt = s.emerg.raisedAt ∧
          (State.repeatEnds s).emerg.sends = s.emerg.sends ∧ (State.repeatEnds s).emerg.hold = s.emerg.hold ∧
          (State.repeatEnds s).emerg.image = s.emerg.image ∧ (State.repeatEnds s).emerg.raiseResult = s.emerg.raiseResult ∧
          (State.repeatEnds s).emerg.ackedAt = s.emerg.ackedAt ∧ (State.repeatEnds s).emerg.cancelledAt = s.emerg.cancelledAt ∧
          (State.repeatEnds s).emerg.owed = s.emerg.owed ∧ (State.repeatEnds s).emerg.causeWaits = s.emerg.causeWaits ∧
          (State.repeatEnds s).emerg.guardHeld = s.emerg.guardHeld ∧ (State.repeatEnds s).sched.joinPlace = s.sched.joinPlace ∧
          (State.repeatEnds s).sched.joinAttempts = s.sched.joinAttempts ∧
          (State.repeatEnds s).sched.alertAttempts = s.sched.alertAttempts ∧ (State.repeatEnds s).sched.acks = s.sched.acks ∧
          (State.repeatEnds s).sched.bids = s.sched.bids ∧ (State.repeatEnds s).sched.flowPlace = s.sched.flowPlace ∧
          (State.repeatEnds s).sched.slotRequest = s.sched.slotRequest ∧ (State.repeatEnds s).sched.statusPlace = s.sched.statusPlace ∧
          (State.repeatEnds s).sched.contention = s.sched.contention ∧ (State.repeatEnds s).sched.long = s.sched.long ∧
          (State.repeatEnds s).sched.requests = s.sched.requests ∧ (State.repeatEnds s).sched.grant = s.sched.grant ∧
          (State.repeatEnds s).sched.draws = s.sched.draws ∧ (State.repeatEnds s).sched.seed = s.sched.seed := by
  unfold State.repeatEnds; (repeat' split) <;> simp

@[simp] theorem State.takeAlertAck_fields (n : Word) (s : State) :
    (State.takeAlertAck n s).emerg.number = s.emerg.number ∧ (State.takeAlertAck n s).emerg.source = s.emerg.source ∧
          (State.takeAlertAck n s).emerg.raisedAt = s.emerg.raisedAt ∧ (State.takeAlertAck n s).emerg.sends = s.emerg.sends ∧
          (State.takeAlertAck n s).emerg.hold = s.emerg.hold ∧ (State.takeAlertAck n s).emerg.image = s.emerg.image ∧
          (State.takeAlertAck n s).emerg.raiseResult = s.emerg.raiseResult ∧
          (State.takeAlertAck n s).emerg.cancelledAt = s.emerg.cancelledAt ∧
          (State.takeAlertAck n s).emerg.guardHeld = s.emerg.guardHeld ∧ (State.takeAlertAck n s).sched.joinPlace = s.sched.joinPlace ∧
          (State.takeAlertAck n s).sched.joinAttempts = s.sched.joinAttempts ∧
          (State.takeAlertAck n s).sched.alertAttempts = s.sched.alertAttempts ∧ (State.takeAlertAck n s).sched.acks = s.sched.acks ∧
          (State.takeAlertAck n s).sched.bids = s.sched.bids ∧ (State.takeAlertAck n s).sched.flowPlace = s.sched.flowPlace ∧
          (State.takeAlertAck n s).sched.slotRequest = s.sched.slotRequest ∧
          (State.takeAlertAck n s).sched.statusPlace = s.sched.statusPlace ∧ (State.takeAlertAck n s).sched.long = s.sched.long ∧
          (State.takeAlertAck n s).sched.requests = s.sched.requests ∧ (State.takeAlertAck n s).sched.grant = s.sched.grant ∧
          (State.takeAlertAck n s).sched.draws = s.sched.draws ∧ (State.takeAlertAck n s).sched.seed = s.sched.seed ∧
          (State.takeAlertAck n s).path.asel = s.path.asel ∧ (State.takeAlertAck n s).path.inReset = s.path.inReset ∧
          (State.takeAlertAck n s).path.buffer = s.path.buffer ∧ (State.takeAlertAck n s).path.drain = s.path.drain ∧
          (State.takeAlertAck n s).path.under = s.path.under ∧ (State.takeAlertAck n s).path.internal = s.path.internal ∧
          (State.takeAlertAck n s).path.fairness = s.path.fairness ∧ (State.takeAlertAck n s).path.resetDrain = s.path.resetDrain ∧
          (State.takeAlertAck n s).path.held = s.path.held ∧ (State.takeAlertAck n s).path.answer = s.path.answer := by
  unfold State.takeAlertAck; (repeat' split) <;> simp

@[simp] theorem State.takeAlertCancel_fields (n : Word) (s : State) :
    (State.takeAlertCancel n s).emerg.number = s.emerg.number ∧ (State.takeAlertCancel n s).emerg.source = s.emerg.source ∧
          (State.takeAlertCancel n s).emerg.raisedAt = s.emerg.raisedAt ∧ (State.takeAlertCancel n s).emerg.sends = s.emerg.sends ∧
          (State.takeAlertCancel n s).emerg.hold = s.emerg.hold ∧ (State.takeAlertCancel n s).emerg.image = s.emerg.image ∧
          (State.takeAlertCancel n s).emerg.raiseResult = s.emerg.raiseResult ∧
          (State.takeAlertCancel n s).emerg.ackedAt = s.emerg.ackedAt ∧ (State.takeAlertCancel n s).sched.joinPlace = s.sched.joinPlace ∧
          (State.takeAlertCancel n s).sched.joinAttempts = s.sched.joinAttempts ∧ (State.takeAlertCancel n s).sched.acks = s.sched.acks ∧
          (State.takeAlertCancel n s).sched.bids = s.sched.bids ∧ (State.takeAlertCancel n s).sched.flowPlace = s.sched.flowPlace ∧
          (State.takeAlertCancel n s).sched.slotRequest = s.sched.slotRequest ∧ (State.takeAlertCancel n s).sched.long = s.sched.long ∧
          (State.takeAlertCancel n s).sched.requests = s.sched.requests ∧ (State.takeAlertCancel n s).sched.grant = s.sched.grant ∧
          (State.takeAlertCancel n s).sched.draws = s.sched.draws ∧ (State.takeAlertCancel n s).sched.seed = s.sched.seed ∧
          (State.takeAlertCancel n s).path.asel = s.path.asel ∧ (State.takeAlertCancel n s).path.inReset = s.path.inReset ∧
          (State.takeAlertCancel n s).path.buffer = s.path.buffer ∧ (State.takeAlertCancel n s).path.drain = s.path.drain ∧
          (State.takeAlertCancel n s).path.under = s.path.under ∧ (State.takeAlertCancel n s).path.internal = s.path.internal ∧
          (State.takeAlertCancel n s).path.fairness = s.path.fairness ∧ (State.takeAlertCancel n s).path.resetDrain = s.path.resetDrain ∧
          (State.takeAlertCancel n s).path.held = s.path.held ∧ (State.takeAlertCancel n s).path.answer = s.path.answer ∧
          (State.takeAlertCancel n s).pins.emswClosed = s.pins.emswClosed ∧ (State.takeAlertCancel n s).pins.ign = s.pins.ign ∧
          (State.takeAlertCancel n s).pins.attn = s.pins.attn ∧ (State.takeAlertCancel n s).pins.wake = s.pins.wake := by
  unfold State.takeAlertCancel; (repeat' split) <;> simp

@[simp] theorem State.endRecordRewrite_fields (b : Bool) (s : State) :
    (State.endRecordRewrite b s).emerg.state = s.emerg.state ∧ (State.endRecordRewrite b s).emerg.number = s.emerg.number ∧
          (State.endRecordRewrite b s).emerg.source = s.emerg.source ∧ (State.endRecordRewrite b s).emerg.raisedAt = s.emerg.raisedAt ∧
          (State.endRecordRewrite b s).emerg.sends = s.emerg.sends ∧ (State.endRecordRewrite b s).emerg.hold = s.emerg.hold ∧
          (State.endRecordRewrite b s).emerg.repeatLeft = s.emerg.repeatLeft ∧ (State.endRecordRewrite b s).emerg.image = s.emerg.image ∧
          (State.endRecordRewrite b s).emerg.raiseResult = s.emerg.raiseResult ∧
          (State.endRecordRewrite b s).emerg.ackedAt = s.emerg.ackedAt ∧
          (State.endRecordRewrite b s).emerg.cancelledAt = s.emerg.cancelledAt ∧
          (State.endRecordRewrite b s).emerg.causeWaits = s.emerg.causeWaits ∧ (State.endRecordRewrite b s).path.asel = s.path.asel ∧
          (State.endRecordRewrite b s).path.inReset = s.path.inReset ∧ (State.endRecordRewrite b s).path.buffer = s.path.buffer ∧
          (State.endRecordRewrite b s).path.drain = s.path.drain ∧ (State.endRecordRewrite b s).path.under = s.path.under ∧
          (State.endRecordRewrite b s).path.internal = s.path.internal ∧ (State.endRecordRewrite b s).path.fairness = s.path.fairness ∧
          (State.endRecordRewrite b s).path.resetDrain = s.path.resetDrain ∧ (State.endRecordRewrite b s).path.held = s.path.held ∧
          (State.endRecordRewrite b s).path.answer = s.path.answer := by
  unfold State.endRecordRewrite; dsimp only; (repeat' split) <;> simp <;> (repeat' split) <;> simp

@[simp] theorem State.recover_fields (j : RecordJudgment) (s : State) :
    (State.recover j s).emerg.hold = s.emerg.hold ∧ (State.recover j s).emerg.repeatLeft = s.emerg.repeatLeft ∧
          (State.recover j s).emerg.image = s.emerg.image ∧ (State.recover j s).emerg.raiseResult = s.emerg.raiseResult ∧
          (State.recover j s).emerg.guardHeld = s.emerg.guardHeld ∧ (State.recover j s).path.asel = s.path.asel ∧
          (State.recover j s).path.inReset = s.path.inReset ∧ (State.recover j s).path.buffer = s.path.buffer ∧
          (State.recover j s).path.drain = s.path.drain ∧ (State.recover j s).path.under = s.path.under ∧
          (State.recover j s).path.internal = s.path.internal ∧ (State.recover j s).path.fairness = s.path.fairness ∧
          (State.recover j s).path.resetDrain = s.path.resetDrain ∧ (State.recover j s).path.held = s.path.held ∧
          (State.recover j s).path.answer = s.path.answer ∧ (State.recover j s).power.power = s.power.power ∧
          (State.recover j s).power.park = s.power.park ∧ (State.recover j s).power.parking = s.power.parking ∧
          (State.recover j s).power.reason = s.power.reason ∧ (State.recover j s).power.ignition = s.power.ignition ∧
          (State.recover j s).power.startUp = s.power.startUp ∧ (State.recover j s).power.image = s.power.image ∧
          (State.recover j s).power.result = s.power.result ∧ (State.recover j s).power.faultReason = s.power.faultReason ∧
          (State.recover j s).power.failingItem = s.power.failingItem ∧ (State.recover j s).power.attempt = s.power.attempt ∧
          (State.recover j s).power.transaction = s.power.transaction ∧ (State.recover j s).offers.order = s.offers.order ∧
          (State.recover j s).sched.joinPlace = s.sched.joinPlace ∧ (State.recover j s).sched.joinAttempts = s.sched.joinAttempts ∧
          (State.recover j s).sched.acks = s.sched.acks ∧ (State.recover j s).sched.flowPlace = s.sched.flowPlace ∧
          (State.recover j s).sched.slotRequest = s.sched.slotRequest ∧ (State.recover j s).sched.long = s.sched.long ∧
          (State.recover j s).sched.requests = s.sched.requests ∧ (State.recover j s).sched.grant = s.sched.grant ∧
          (State.recover j s).sched.draws = s.sched.draws ∧ (State.recover j s).sched.seed = s.sched.seed ∧
          (State.recover j s).radio.receiverOn = s.radio.receiverOn ∧ (State.recover j s).radio.channel = s.radio.channel ∧
          (State.recover j s).radio.output = s.radio.output ∧ (State.recover j s).status.status = s.status.status ∧
          (State.recover j s).status.shiftOpen = s.status.shiftOpen ∧ (State.recover j s).status.shiftNumber = s.status.shiftNumber ∧
          (State.recover j s).status.driverId = s.status.driverId ∧ (State.recover j s).status.meterOpened = s.status.meterOpened ∧
          (State.recover j s).status.zone = s.status.zone ∧ (State.recover j s).status.position = s.status.position ∧
          (State.recover j s).status.lampMap = s.status.lampMap ∧ (State.recover j s).status.alarmEnabled = s.status.alarmEnabled ∧
          (State.recover j s).status.flashOn = s.status.flashOn ∧ (State.recover j s).status.driverCopy = s.status.driverCopy ∧
          (State.recover j s).status.firstCopy = s.status.firstCopy ∧ (State.recover j s).status.secondCopy = s.status.secondCopy ∧
          (State.recover j s).status.pendingFirst = s.status.pendingFirst ∧
          (State.recover j s).status.statusResult = s.status.statusResult ∧
          (State.recover j s).status.shiftResult = s.status.shiftResult ∧ (State.recover j s).pins.emswClosed = s.pins.emswClosed ∧
          (State.recover j s).pins.ign = s.pins.ign ∧ (State.recover j s).pins.attn = s.pins.attn ∧
          (State.recover j s).pins.wake = s.pins.wake := by
  unfold State.recover; (repeat' split) <;> simp

@[simp] theorem State.attachDriver_fields (d : Word) (s : State) :
    (State.attachDriver d s).status.status = s.status.status ∧ (State.attachDriver d s).status.shiftOpen = s.status.shiftOpen ∧
          (State.attachDriver d s).status.shiftNumber = s.status.shiftNumber ∧
          (State.attachDriver d s).status.meterOpened = s.status.meterOpened ∧ (State.attachDriver d s).status.zone = s.status.zone ∧
          (State.attachDriver d s).status.position = s.status.position ∧ (State.attachDriver d s).status.lampMap = s.status.lampMap ∧
          (State.attachDriver d s).status.alarmEnabled = s.status.alarmEnabled ∧
          (State.attachDriver d s).status.flashOn = s.status.flashOn ∧ (State.attachDriver d s).status.alarmOn = s.status.alarmOn ∧
          (State.attachDriver d s).status.driverCopy = s.status.driverCopy ∧
          (State.attachDriver d s).status.firstCopy = s.status.firstCopy ∧
          (State.attachDriver d s).status.secondCopy = s.status.secondCopy ∧
          (State.attachDriver d s).status.pendingFirst = s.status.pendingFirst ∧
          (State.attachDriver d s).status.statusResult = s.status.statusResult ∧
          (State.attachDriver d s).status.shiftResult = s.status.shiftResult ∧ (State.attachDriver d s).trips.trip = s.trips.trip ∧
          (State.attachDriver d s).trips.counter = s.trips.counter ∧ (State.attachDriver d s).trips.components = s.trips.components ∧
          (State.attachDriver d s).trips.silence = s.trips.silence ∧ (State.attachDriver d s).trips.lastFault = s.trips.lastFault ∧
          (State.attachDriver d s).trips.lastRef = s.trips.lastRef ∧ (State.attachDriver d s).trips.deposit = s.trips.deposit ∧
          (State.attachDriver d s).trips.pendingLog = s.trips.pendingLog ∧ (State.attachDriver d s).trips.reports = s.trips.reports ∧
          (State.attachDriver d s).trips.abandoned = s.trips.abandoned ∧
          (State.attachDriver d s).trips.shiftReport = s.trips.shiftReport ∧ (State.attachDriver d s).trips.captured = s.trips.captured ∧
          (State.attachDriver d s).trips.meterCopy = s.trips.meterCopy ∧ (State.attachDriver d s).trips.totalsCopy = s.trips.totalsCopy ∧
          (State.attachDriver d s).sched.joinPlace = s.sched.joinPlace ∧
          (State.attachDriver d s).sched.joinAttempts = s.sched.joinAttempts ∧
          (State.attachDriver d s).sched.alertPlace = s.sched.alertPlace ∧
          (State.attachDriver d s).sched.alertAttempts = s.sched.alertAttempts ∧ (State.attachDriver d s).sched.acks = s.sched.acks ∧
          (State.attachDriver d s).sched.bids = s.sched.bids ∧ (State.attachDriver d s).sched.flowPlace = s.sched.flowPlace ∧
          (State.attachDriver d s).sched.slotRequest = s.sched.slotRequest ∧
          (State.attachDriver d s).sched.contention = s.sched.contention ∧ (State.attachDriver d s).sched.long = s.sched.long ∧
          (State.attachDriver d s).sched.requests = s.sched.requests ∧ (State.attachDriver d s).sched.grant = s.sched.grant ∧
          (State.attachDriver d s).sched.draws = s.sched.draws ∧ (State.attachDriver d s).sched.seed = s.sched.seed ∧
          (State.attachDriver d s).pins.emswClosed = s.pins.emswClosed ∧ (State.attachDriver d s).pins.ign = s.pins.ign ∧
          (State.attachDriver d s).pins.attn = s.pins.attn ∧ (State.attachDriver d s).pins.wake = s.pins.wake := by
  unfold State.attachDriver; (repeat' split) <;> simp

@[simp] theorem State.driverWrite_fields (l : Lanes) (d : Word) (s : State) :
    (State.driverWrite l d s).status.zone = s.status.zone ∧ (State.driverWrite l d s).status.position = s.status.position ∧
          (State.driverWrite l d s).status.lampMap = s.status.lampMap ∧
          (State.driverWrite l d s).status.alarmEnabled = s.status.alarmEnabled ∧
          (State.driverWrite l d s).status.flashOn = s.status.flashOn ∧ (State.driverWrite l d s).status.alarmOn = s.status.alarmOn ∧
          (State.driverWrite l d s).status.firstCopy = s.status.firstCopy ∧
          (State.driverWrite l d s).status.secondCopy = s.status.secondCopy ∧
          (State.driverWrite l d s).status.pendingFirst = s.status.pendingFirst ∧
          (State.driverWrite l d s).status.statusResult = s.status.statusResult ∧
          (State.driverWrite l d s).status.shiftResult = s.status.shiftResult ∧ (State.driverWrite l d s).trips.trip = s.trips.trip ∧
          (State.driverWrite l d s).trips.components = s.trips.components ∧ (State.driverWrite l d s).trips.silence = s.trips.silence ∧
          (State.driverWrite l d s).trips.lastFault = s.trips.lastFault ∧ (State.driverWrite l d s).trips.lastRef = s.trips.lastRef ∧
          (State.driverWrite l d s).trips.deposit = s.trips.deposit ∧ (State.driverWrite l d s).trips.pendingLog = s.trips.pendingLog ∧
          (State.driverWrite l d s).trips.reports = s.trips.reports ∧ (State.driverWrite l d s).trips.abandoned = s.trips.abandoned ∧
          (State.driverWrite l d s).trips.shiftReport = s.trips.shiftReport ∧
          (State.driverWrite l d s).trips.captured = s.trips.captured ∧ (State.driverWrite l d s).trips.meterCopy = s.trips.meterCopy ∧
          (State.driverWrite l d s).sched.joinPlace = s.sched.joinPlace ∧
          (State.driverWrite l d s).sched.joinAttempts = s.sched.joinAttempts ∧
          (State.driverWrite l d s).sched.alertPlace = s.sched.alertPlace ∧
          (State.driverWrite l d s).sched.alertAttempts = s.sched.alertAttempts ∧ (State.driverWrite l d s).sched.acks = s.sched.acks ∧
          (State.driverWrite l d s).sched.bids = s.sched.bids ∧ (State.driverWrite l d s).sched.flowPlace = s.sched.flowPlace ∧
          (State.driverWrite l d s).sched.slotRequest = s.sched.slotRequest ∧
          (State.driverWrite l d s).sched.contention = s.sched.contention ∧ (State.driverWrite l d s).sched.long = s.sched.long ∧
          (State.driverWrite l d s).sched.requests = s.sched.requests ∧ (State.driverWrite l d s).sched.grant = s.sched.grant ∧
          (State.driverWrite l d s).sched.draws = s.sched.draws ∧ (State.driverWrite l d s).sched.seed = s.sched.seed ∧
          (State.driverWrite l d s).pins.emswClosed = s.pins.emswClosed ∧ (State.driverWrite l d s).pins.ign = s.pins.ign ∧
          (State.driverWrite l d s).pins.attn = s.pins.attn ∧ (State.driverWrite l d s).pins.wake = s.pins.wake := by
  unfold State.driverWrite; dsimp only; (repeat' split) <;> simp <;> (repeat' split) <;> simp

@[simp] theorem State.statusRequest_fields (l : Lanes) (d : Word) (s : State) :
    (State.statusRequest l d s).status.shiftOpen = s.status.shiftOpen ∧
          (State.statusRequest l d s).status.shiftNumber = s.status.shiftNumber ∧
          (State.statusRequest l d s).status.driverId = s.status.driverId ∧
          (State.statusRequest l d s).status.meterOpened = s.status.meterOpened ∧
          (State.statusRequest l d s).status.zone = s.status.zone ∧ (State.statusRequest l d s).status.position = s.status.position ∧
          (State.statusRequest l d s).status.lampMap = s.status.lampMap ∧
          (State.statusRequest l d s).status.alarmEnabled = s.status.alarmEnabled ∧
          (State.statusRequest l d s).status.flashOn = s.status.flashOn ∧ (State.statusRequest l d s).status.alarmOn = s.status.alarmOn ∧
          (State.statusRequest l d s).status.driverCopy = s.status.driverCopy ∧
          (State.statusRequest l d s).status.firstCopy = s.status.firstCopy ∧
          (State.statusRequest l d s).status.secondCopy = s.status.secondCopy ∧
          (State.statusRequest l d s).status.pendingFirst = s.status.pendingFirst ∧
          (State.statusRequest l d s).status.shiftResult = s.status.shiftResult ∧
          (State.statusRequest l d s).page.enables = s.page.enables ∧ (State.statusRequest l d s).page.counters = s.page.counters ∧
          (State.statusRequest l d s).page.linkUp = s.page.linkUp ∧ (State.statusRequest l d s).page.shiftCopy = s.page.shiftCopy ∧
          (State.statusRequest l d s).page.powerCopy = s.page.powerCopy ∧
          (State.statusRequest l d s).page.enableCopy = s.page.enableCopy ∧
          (State.statusRequest l d s).pins.emswClosed = s.pins.emswClosed ∧ (State.statusRequest l d s).pins.ign = s.pins.ign ∧
          (State.statusRequest l d s).pins.wake = s.pins.wake ∧ (State.statusRequest l d s).sched.joinPlace = s.sched.joinPlace ∧
          (State.statusRequest l d s).sched.joinAttempts = s.sched.joinAttempts ∧
          (State.statusRequest l d s).sched.alertPlace = s.sched.alertPlace ∧
          (State.statusRequest l d s).sched.alertAttempts = s.sched.alertAttempts ∧
          (State.statusRequest l d s).sched.acks = s.sched.acks ∧ (State.statusRequest l d s).sched.bids = s.sched.bids ∧
          (State.statusRequest l d s).sched.flowPlace = s.sched.flowPlace ∧
          (State.statusRequest l d s).sched.slotRequest = s.sched.slotRequest ∧
          (State.statusRequest l d s).sched.contention = s.sched.contention ∧ (State.statusRequest l d s).sched.long = s.sched.long ∧
          (State.statusRequest l d s).sched.requests = s.sched.requests ∧ (State.statusRequest l d s).sched.grant = s.sched.grant ∧
          (State.statusRequest l d s).sched.draws = s.sched.draws ∧ (State.statusRequest l d s).sched.seed = s.sched.seed := by
  unfold State.statusRequest; dsimp only; (repeat' split) <;> simp <;> (repeat' split) <;> simp

@[simp] theorem State.closeShift_fields (s : State) :
    (State.closeShift s).path.asel = s.path.asel ∧ (State.closeShift s).path.inReset = s.path.inReset ∧
          (State.closeShift s).path.buffer = s.path.buffer ∧ (State.closeShift s).path.drain = s.path.drain ∧
          (State.closeShift s).path.under = s.path.under ∧ (State.closeShift s).path.internal = s.path.internal ∧
          (State.closeShift s).path.fairness = s.path.fairness ∧ (State.closeShift s).path.resetDrain = s.path.resetDrain ∧
          (State.closeShift s).path.held = s.path.held ∧ (State.closeShift s).path.answer = s.path.answer ∧
          (State.closeShift s).sched.joinPlace = s.sched.joinPlace ∧ (State.closeShift s).sched.joinAttempts = s.sched.joinAttempts ∧
          (State.closeShift s).sched.alertPlace = s.sched.alertPlace ∧ (State.closeShift s).sched.alertAttempts = s.sched.alertAttempts ∧
          (State.closeShift s).sched.acks = s.sched.acks ∧ (State.closeShift s).sched.flowPlace = s.sched.flowPlace ∧
          (State.closeShift s).sched.requests = s.sched.requests ∧ (State.closeShift s).sched.grant = s.sched.grant ∧
          (State.closeShift s).sched.draws = s.sched.draws ∧ (State.closeShift s).sched.seed = s.sched.seed ∧
          (State.closeShift s).radio.receiverOn = s.radio.receiverOn ∧ (State.closeShift s).radio.channel = s.radio.channel ∧
          (State.closeShift s).radio.output = s.radio.output ∧ (State.closeShift s).trips.trip = s.trips.trip ∧
          (State.closeShift s).trips.counter = s.trips.counter ∧ (State.closeShift s).trips.components = s.trips.components ∧
          (State.closeShift s).trips.silence = s.trips.silence ∧ (State.closeShift s).trips.lastFault = s.trips.lastFault ∧
          (State.closeShift s).trips.lastRef = s.trips.lastRef ∧ (State.closeShift s).trips.deposit = s.trips.deposit ∧
          (State.closeShift s).trips.pendingLog = s.trips.pendingLog ∧ (State.closeShift s).trips.reports = s.trips.reports ∧
          (State.closeShift s).trips.abandoned = s.trips.abandoned ∧ (State.closeShift s).trips.totals = s.trips.totals ∧
          (State.closeShift s).trips.meterCopy = s.trips.meterCopy ∧ (State.closeShift s).trips.totalsCopy = s.trips.totalsCopy ∧
          (State.closeShift s).page.enables = s.page.enables ∧ (State.closeShift s).page.counters = s.page.counters ∧
          (State.closeShift s).page.linkUp = s.page.linkUp ∧ (State.closeShift s).page.statusCopy = s.page.statusCopy ∧
          (State.closeShift s).page.shiftCopy = s.page.shiftCopy ∧ (State.closeShift s).page.powerCopy = s.page.powerCopy ∧
          (State.closeShift s).page.enableCopy = s.page.enableCopy ∧ (State.closeShift s).pins.emswClosed = s.pins.emswClosed ∧
          (State.closeShift s).pins.ign = s.pins.ign ∧ (State.closeShift s).pins.wake = s.pins.wake ∧
          (State.closeShift s).status.shiftNumber = s.status.shiftNumber ∧ (State.closeShift s).status.zone = s.status.zone ∧
          (State.closeShift s).status.position = s.status.position ∧ (State.closeShift s).status.lampMap = s.status.lampMap ∧
          (State.closeShift s).status.alarmEnabled = s.status.alarmEnabled ∧ (State.closeShift s).status.flashOn = s.status.flashOn ∧
          (State.closeShift s).status.alarmOn = s.status.alarmOn ∧ (State.closeShift s).status.driverCopy = s.status.driverCopy ∧
          (State.closeShift s).status.firstCopy = s.status.firstCopy ∧ (State.closeShift s).status.secondCopy = s.status.secondCopy ∧
          (State.closeShift s).status.pendingFirst = s.status.pendingFirst ∧
          (State.closeShift s).status.statusResult = s.status.statusResult ∧
          (State.closeShift s).status.shiftResult = s.status.shiftResult := by
  unfold State.closeShift; (repeat' split) <;> simp

@[simp] theorem State.shiftControl_fields (l : Lanes) (d : Word) (s : State) :
    (State.shiftControl l d s).path.asel = s.path.asel ∧ (State.shiftControl l d s).path.inReset = s.path.inReset ∧
          (State.shiftControl l d s).path.buffer = s.path.buffer ∧ (State.shiftControl l d s).path.drain = s.path.drain ∧
          (State.shiftControl l d s).path.under = s.path.under ∧ (State.shiftControl l d s).path.internal = s.path.internal ∧
          (State.shiftControl l d s).path.fairness = s.path.fairness ∧ (State.shiftControl l d s).path.resetDrain = s.path.resetDrain ∧
          (State.shiftControl l d s).path.held = s.path.held ∧ (State.shiftControl l d s).path.answer = s.path.answer ∧
          (State.shiftControl l d s).sched.joinPlace = s.sched.joinPlace ∧
          (State.shiftControl l d s).sched.joinAttempts = s.sched.joinAttempts ∧
          (State.shiftControl l d s).sched.alertPlace = s.sched.alertPlace ∧
          (State.shiftControl l d s).sched.alertAttempts = s.sched.alertAttempts ∧ (State.shiftControl l d s).sched.acks = s.sched.acks ∧
          (State.shiftControl l d s).sched.flowPlace = s.sched.flowPlace ∧ (State.shiftControl l d s).sched.requests = s.sched.requests ∧
          (State.shiftControl l d s).sched.grant = s.sched.grant ∧ (State.shiftControl l d s).sched.draws = s.sched.draws ∧
          (State.shiftControl l d s).sched.seed = s.sched.seed ∧ (State.shiftControl l d s).radio.receiverOn = s.radio.receiverOn ∧
          (State.shiftControl l d s).radio.channel = s.radio.channel ∧ (State.shiftControl l d s).radio.output = s.radio.output ∧
          (State.shiftControl l d s).trips.counter = s.trips.counter ∧ (State.shiftControl l d s).trips.components = s.trips.components ∧
          (State.shiftControl l d s).trips.lastFault = s.trips.lastFault ∧
          (State.shiftControl l d s).trips.meterCopy = s.trips.meterCopy ∧
          (State.shiftControl l d s).trips.totalsCopy = s.trips.totalsCopy ∧ (State.shiftControl l d s).page.enables = s.page.enables ∧
          (State.shiftControl l d s).page.counters = s.page.counters ∧ (State.shiftControl l d s).page.linkUp = s.page.linkUp ∧
          (State.shiftControl l d s).page.statusCopy = s.page.statusCopy ∧ (State.shiftControl l d s).page.powerCopy = s.page.powerCopy ∧
          (State.shiftControl l d s).page.enableCopy = s.page.enableCopy ∧
          (State.shiftControl l d s).pins.emswClosed = s.pins.emswClosed ∧ (State.shiftControl l d s).pins.ign = s.pins.ign ∧
          (State.shiftControl l d s).pins.wake = s.pins.wake ∧ (State.shiftControl l d s).status.shiftNumber = s.status.shiftNumber ∧
          (State.shiftControl l d s).status.zone = s.status.zone ∧ (State.shiftControl l d s).status.position = s.status.position ∧
          (State.shiftControl l d s).status.lampMap = s.status.lampMap ∧
          (State.shiftControl l d s).status.alarmEnabled = s.status.alarmEnabled ∧
          (State.shiftControl l d s).status.flashOn = s.status.flashOn ∧ (State.shiftControl l d s).status.alarmOn = s.status.alarmOn ∧
          (State.shiftControl l d s).status.driverCopy = s.status.driverCopy ∧
          (State.shiftControl l d s).status.firstCopy = s.status.firstCopy ∧
          (State.shiftControl l d s).status.secondCopy = s.status.secondCopy ∧
          (State.shiftControl l d s).status.pendingFirst = s.status.pendingFirst ∧
          (State.shiftControl l d s).status.statusResult = s.status.statusResult := by
  unfold State.shiftControl; dsimp only; (repeat' split) <;> simp <;> (repeat' split) <;> simp

@[simp] theorem State.zoneByte_fields (d : Word) (s : State) :
    (State.zoneByte d s).status.status = s.status.status ∧ (State.zoneByte d s).status.shiftOpen = s.status.shiftOpen ∧
          (State.zoneByte d s).status.shiftNumber = s.status.shiftNumber ∧ (State.zoneByte d s).status.driverId = s.status.driverId ∧
          (State.zoneByte d s).status.meterOpened = s.status.meterOpened ∧ (State.zoneByte d s).status.position = s.status.position ∧
          (State.zoneByte d s).status.lampMap = s.status.lampMap ∧ (State.zoneByte d s).status.alarmEnabled = s.status.alarmEnabled ∧
          (State.zoneByte d s).status.flashOn = s.status.flashOn ∧ (State.zoneByte d s).status.alarmOn = s.status.alarmOn ∧
          (State.zoneByte d s).status.driverCopy = s.status.driverCopy ∧ (State.zoneByte d s).status.firstCopy = s.status.firstCopy ∧
          (State.zoneByte d s).status.secondCopy = s.status.secondCopy ∧
          (State.zoneByte d s).status.pendingFirst = s.status.pendingFirst ∧
          (State.zoneByte d s).status.statusResult = s.status.statusResult ∧
          (State.zoneByte d s).status.shiftResult = s.status.shiftResult ∧ (State.zoneByte d s).sched.joinPlace = s.sched.joinPlace ∧
          (State.zoneByte d s).sched.joinAttempts = s.sched.joinAttempts ∧ (State.zoneByte d s).sched.alertPlace = s.sched.alertPlace ∧
          (State.zoneByte d s).sched.alertAttempts = s.sched.alertAttempts ∧ (State.zoneByte d s).sched.acks = s.sched.acks ∧
          (State.zoneByte d s).sched.bids = s.sched.bids ∧ (State.zoneByte d s).sched.flowPlace = s.sched.flowPlace ∧
          (State.zoneByte d s).sched.slotRequest = s.sched.slotRequest ∧ (State.zoneByte d s).sched.contention = s.sched.contention ∧
          (State.zoneByte d s).sched.long = s.sched.long ∧ (State.zoneByte d s).sched.requests = s.sched.requests ∧
          (State.zoneByte d s).sched.grant = s.sched.grant ∧ (State.zoneByte d s).sched.draws = s.sched.draws ∧
          (State.zoneByte d s).sched.seed = s.sched.seed ∧ (State.zoneByte d s).pins.emswClosed = s.pins.emswClosed ∧
          (State.zoneByte d s).pins.ign = s.pins.ign ∧ (State.zoneByte d s).pins.attn = s.pins.attn ∧
          (State.zoneByte d s).pins.wake = s.pins.wake := by
  unfold State.zoneByte; (repeat' split) <;> simp

@[simp] theorem State.coordinateLower_fields (c : Coordinate) (l : Lanes) (d : Word) (s : State) :
    (State.coordinateLower c l d s).status.status = s.status.status ∧
          (State.coordinateLower c l d s).status.shiftOpen = s.status.shiftOpen ∧
          (State.coordinateLower c l d s).status.shiftNumber = s.status.shiftNumber ∧
          (State.coordinateLower c l d s).status.driverId = s.status.driverId ∧
          (State.coordinateLower c l d s).status.meterOpened = s.status.meterOpened ∧
          (State.coordinateLower c l d s).status.zone = s.status.zone ∧
          (State.coordinateLower c l d s).status.position = s.status.position ∧
          (State.coordinateLower c l d s).status.lampMap = s.status.lampMap ∧
          (State.coordinateLower c l d s).status.alarmEnabled = s.status.alarmEnabled ∧
          (State.coordinateLower c l d s).status.flashOn = s.status.flashOn ∧
          (State.coordinateLower c l d s).status.alarmOn = s.status.alarmOn ∧
          (State.coordinateLower c l d s).status.driverCopy = s.status.driverCopy ∧
          (State.coordinateLower c l d s).status.pendingFirst = s.status.pendingFirst ∧
          (State.coordinateLower c l d s).status.statusResult = s.status.statusResult ∧
          (State.coordinateLower c l d s).status.shiftResult = s.status.shiftResult := by
  unfold State.coordinateLower; (repeat' split) <;> simp

@[simp] theorem State.coordinateHigher_fields (c : Coordinate) (l : Lanes) (d : Word) (s : State) :
    (State.coordinateHigher c l d s).status.status = s.status.status ∧
          (State.coordinateHigher c l d s).status.shiftOpen = s.status.shiftOpen ∧
          (State.coordinateHigher c l d s).status.shiftNumber = s.status.shiftNumber ∧
          (State.coordinateHigher c l d s).status.driverId = s.status.driverId ∧
          (State.coordinateHigher c l d s).status.meterOpened = s.status.meterOpened ∧
          (State.coordinateHigher c l d s).status.zone = s.status.zone ∧
          (State.coordinateHigher c l d s).status.lampMap = s.status.lampMap ∧
          (State.coordinateHigher c l d s).status.alarmEnabled = s.status.alarmEnabled ∧
          (State.coordinateHigher c l d s).status.flashOn = s.status.flashOn ∧
          (State.coordinateHigher c l d s).status.alarmOn = s.status.alarmOn ∧
          (State.coordinateHigher c l d s).status.driverCopy = s.status.driverCopy ∧
          (State.coordinateHigher c l d s).status.statusResult = s.status.statusResult ∧
          (State.coordinateHigher c l d s).status.shiftResult = s.status.shiftResult ∧
          (State.coordinateHigher c l d s).sched.joinPlace = s.sched.joinPlace ∧
          (State.coordinateHigher c l d s).sched.joinAttempts = s.sched.joinAttempts ∧
          (State.coordinateHigher c l d s).sched.alertPlace = s.sched.alertPlace ∧
          (State.coordinateHigher c l d s).sched.alertAttempts = s.sched.alertAttempts ∧
          (State.coordinateHigher c l d s).sched.acks = s.sched.acks ∧ (State.coordinateHigher c l d s).sched.bids = s.sched.bids ∧
          (State.coordinateHigher c l d s).sched.flowPlace = s.sched.flowPlace ∧
          (State.coordinateHigher c l d s).sched.slotRequest = s.sched.slotRequest ∧
          (State.coordinateHigher c l d s).sched.contention = s.sched.contention ∧
          (State.coordinateHigher c l d s).sched.long = s.sched.long ∧
          (State.coordinateHigher c l d s).sched.requests = s.sched.requests ∧
          (State.coordinateHigher c l d s).sched.grant = s.sched.grant ∧ (State.coordinateHigher c l d s).sched.draws = s.sched.draws ∧
          (State.coordinateHigher c l d s).sched.seed = s.sched.seed ∧
          (State.coordinateHigher c l d s).pins.emswClosed = s.pins.emswClosed ∧ (State.coordinateHigher c l d s).pins.ign = s.pins.ign ∧
          (State.coordinateHigher c l d s).pins.attn = s.pins.attn ∧ (State.coordinateHigher c l d s).pins.wake = s.pins.wake := by
  unfold State.coordinateHigher; (repeat' split) <;> simp

@[simp] theorem State.readEffect_fields (f : Field) (s : State) :
    (State.readEffect f s).page.causes = s.page.causes ∧ (State.readEffect f s).page.enables = s.page.enables ∧
          (State.readEffect f s).page.busy = s.page.busy ∧ (State.readEffect f s).page.statusCopy = s.page.statusCopy ∧
          (State.readEffect f s).page.shiftCopy = s.page.shiftCopy ∧ (State.readEffect f s).page.powerCopy = s.page.powerCopy ∧
          (State.readEffect f s).page.enableCopy = s.page.enableCopy ∧ (State.readEffect f s).power.power = s.power.power ∧
          (State.readEffect f s).power.park = s.power.park ∧ (State.readEffect f s).power.parking = s.power.parking ∧
          (State.readEffect f s).power.ignition = s.power.ignition ∧ (State.readEffect f s).power.startUp = s.power.startUp ∧
          (State.readEffect f s).power.image = s.power.image ∧ (State.readEffect f s).power.recovery = s.power.recovery ∧
          (State.readEffect f s).power.result = s.power.result ∧ (State.readEffect f s).power.faultReason = s.power.faultReason ∧
          (State.readEffect f s).power.failingItem = s.power.failingItem ∧ (State.readEffect f s).power.attempt = s.power.attempt ∧
          (State.readEffect f s).power.transaction = s.power.transaction ∧ (State.readEffect f s).link.state = s.link.state ∧
          (State.readEffect f s).link.channels = s.link.channels ∧ (State.readEffect f s).link.candidates = s.link.candidates ∧
          (State.readEffect f s).link.joining = s.link.joining ∧ (State.readEffect f s).link.site = s.link.site ∧
          (State.readEffect f s).link.loss = s.link.loss ∧ (State.readEffect f s).link.hunt = s.link.hunt ∧
          (State.readEffect f s).link.grantWait = s.link.grantWait ∧ (State.readEffect f s).link.cycle = s.link.cycle ∧
          (State.readEffect f s).link.nextSlot = s.link.nextSlot ∧ (State.readEffect f s).link.window = s.link.window ∧
          (State.readEffect f s).link.beaconIn = s.link.beaconIn ∧ (State.readEffect f s).link.contention = s.link.contention ∧
          (State.readEffect f s).link.clock = s.link.clock ∧ (State.readEffect f s).link.seconds = s.link.seconds ∧
          (State.readEffect f s).link.attempts = s.link.attempts ∧ (State.readEffect f s).link.quiet = s.link.quiet ∧
          (State.readEffect f s).trips.trip = s.trips.trip ∧ (State.readEffect f s).trips.counter = s.trips.counter ∧
          (State.readEffect f s).trips.components = s.trips.components ∧ (State.readEffect f s).trips.silence = s.trips.silence ∧
          (State.readEffect f s).trips.lastFault = s.trips.lastFault ∧ (State.readEffect f s).trips.lastRef = s.trips.lastRef ∧
          (State.readEffect f s).trips.deposit = s.trips.deposit ∧ (State.readEffect f s).trips.pendingLog = s.trips.pendingLog ∧
          (State.readEffect f s).trips.reports = s.trips.reports ∧ (State.readEffect f s).trips.abandoned = s.trips.abandoned ∧
          (State.readEffect f s).trips.shiftReport = s.trips.shiftReport ∧ (State.readEffect f s).trips.totals = s.trips.totals ∧
          (State.readEffect f s).trips.captured = s.trips.captured := by
  unfold State.readEffect; (repeat' split) <;> simp

@[simp] theorem State.resetWordWrite_fields (l : Lanes) (d : Word) (s : State) :
    (State.resetWordWrite l d s).path.asel = s.path.asel ∧ (State.resetWordWrite l d s).path.inReset = s.path.inReset ∧
          (State.resetWordWrite l d s).path.buffer = s.path.buffer ∧ (State.resetWordWrite l d s).path.drain = s.path.drain ∧
          (State.resetWordWrite l d s).path.queue = s.path.queue ∧ (State.resetWordWrite l d s).path.under = s.path.under ∧
          (State.resetWordWrite l d s).path.internal = s.path.internal ∧ (State.resetWordWrite l d s).path.fairness = s.path.fairness ∧
          (State.resetWordWrite l d s).path.held = s.path.held ∧ (State.resetWordWrite l d s).path.answer = s.path.answer := by
  unfold State.resetWordWrite; (repeat' split) <;> simp

@[simp] theorem State.guardHit_fields (s : State) :
    (State.guardHit s).page.enables = s.page.enables ∧ (State.guardHit s).page.linkUp = s.page.linkUp ∧
          (State.guardHit s).page.statusCopy = s.page.statusCopy ∧ (State.guardHit s).page.shiftCopy = s.page.shiftCopy ∧
          (State.guardHit s).page.powerCopy = s.page.powerCopy ∧ (State.guardHit s).page.enableCopy = s.page.enableCopy ∧
          (State.guardHit s).pins.emswClosed = s.pins.emswClosed ∧ (State.guardHit s).pins.ign = s.pins.ign ∧
          (State.guardHit s).pins.lampHire = s.pins.lampHire ∧ (State.guardHit s).pins.lampCall = s.pins.lampCall ∧
          (State.guardHit s).pins.lampAlarm = s.pins.lampAlarm ∧ (State.guardHit s).pins.wake = s.pins.wake := by
  unfold State.guardHit; (repeat' split) <;> simp

@[simp] theorem State.arbitrate_fields (s : State) :
    (State.arbitrate s).path.asel = s.path.asel ∧ (State.arbitrate s).path.inReset = s.path.inReset ∧
          (State.arbitrate s).path.buffer = s.path.buffer ∧ (State.arbitrate s).path.drain = s.path.drain ∧
          (State.arbitrate s).path.queue = s.path.queue ∧ (State.arbitrate s).path.under = s.path.under ∧
          (State.arbitrate s).path.resetDrain = s.path.resetDrain ∧ (State.arbitrate s).path.held = s.path.held ∧
          (State.arbitrate s).path.answer = s.path.answer := by
  unfold State.arbitrate; (repeat' split) <;> simp

@[simp] theorem State.afterCycle_fields (s : State) :
    (State.afterCycle s).msgs.buffer0 = s.msgs.buffer0 ∧ (State.afterCycle s).msgs.buffer1 = s.msgs.buffer1 ∧
          (State.afterCycle s).msgs.stamp = s.msgs.stamp ∧ (State.afterCycle s).msgs.deposit = s.msgs.deposit ∧
          (State.afterCycle s).msgs.delivered = s.msgs.delivered ∧ (State.afterCycle s).msgs.paused = s.msgs.paused ∧
          (State.afterCycle s).msgs.pauseAt = s.msgs.pauseAt ∧ (State.afterCycle s).msgs.resumeAt = s.msgs.resumeAt ∧
          (State.afterCycle s).msgs.lastOut = s.msgs.lastOut := by
  unfold State.afterCycle; (repeat' split) <;> simp

@[simp] theorem State.seeGrant_fields (s : State) :
    (State.seeGrant s).sched.joinPlace = s.sched.joinPlace ∧ (State.seeGrant s).sched.joinAttempts = s.sched.joinAttempts ∧
          (State.seeGrant s).sched.alertPlace = s.sched.alertPlace ∧ (State.seeGrant s).sched.alertAttempts = s.sched.alertAttempts ∧
          (State.seeGrant s).sched.acks = s.sched.acks ∧ (State.seeGrant s).sched.bids = s.sched.bids ∧
          (State.seeGrant s).sched.flowPlace = s.sched.flowPlace ∧ (State.seeGrant s).sched.slotRequest = s.sched.slotRequest ∧
          (State.seeGrant s).sched.statusPlace = s.sched.statusPlace ∧ (State.seeGrant s).sched.contention = s.sched.contention ∧
          (State.seeGrant s).sched.long = s.sched.long ∧ (State.seeGrant s).sched.requests = s.sched.requests ∧
          (State.seeGrant s).sched.draws = s.sched.draws ∧ (State.seeGrant s).sched.seed = s.sched.seed := by
  unfold State.seeGrant; (repeat' split) <;> simp

@[simp] theorem State.grantAtSlot_fields (k : Nat) (s : State) :
    (State.grantAtSlot k s).sched.joinPlace = s.sched.joinPlace ∧ (State.grantAtSlot k s).sched.joinAttempts = s.sched.joinAttempts ∧
          (State.grantAtSlot k s).sched.alertPlace = s.sched.alertPlace ∧
          (State.grantAtSlot k s).sched.alertAttempts = s.sched.alertAttempts ∧ (State.grantAtSlot k s).sched.acks = s.sched.acks ∧
          (State.grantAtSlot k s).sched.bids = s.sched.bids ∧ (State.grantAtSlot k s).sched.flowPlace = s.sched.flowPlace ∧
          (State.grantAtSlot k s).sched.statusPlace = s.sched.statusPlace ∧ (State.grantAtSlot k s).sched.requests = s.sched.requests ∧
          (State.grantAtSlot k s).sched.draws = s.sched.draws ∧ (State.grantAtSlot k s).sched.seed = s.sched.seed ∧
          (State.grantAtSlot k s).radio.receiverOn = s.radio.receiverOn ∧ (State.grantAtSlot k s).radio.channel = s.radio.channel ∧
          (State.grantAtSlot k s).radio.output = s.radio.output := by
  unfold State.grantAtSlot; (repeat' split) <;> simp

@[simp] theorem State.send_fields (v : Via) (k : Nat) (f : Outgoing) (s : State) :
    (State.send v k f s).radio.receiverOn = s.radio.receiverOn ∧ (State.send v k f s).radio.channel = s.radio.channel := by
  unfold State.send; (repeat' split) <;> simp

@[simp] theorem State.contenderKeyed_fields (c : Contender) (s : State) :
    (State.contenderKeyed c s).link.state = s.link.state ∧ (State.contenderKeyed c s).link.channels = s.link.channels ∧
          (State.contenderKeyed c s).link.candidates = s.link.candidates ∧ (State.contenderKeyed c s).link.joining = s.link.joining ∧
          (State.contenderKeyed c s).link.site = s.link.site ∧ (State.contenderKeyed c s).link.loss = s.link.loss ∧
          (State.contenderKeyed c s).link.hunt = s.link.hunt ∧ (State.contenderKeyed c s).link.cycle = s.link.cycle ∧
          (State.contenderKeyed c s).link.nextSlot = s.link.nextSlot ∧ (State.contenderKeyed c s).link.window = s.link.window ∧
          (State.contenderKeyed c s).link.beaconIn = s.link.beaconIn ∧ (State.contenderKeyed c s).link.contention = s.link.contention ∧
          (State.contenderKeyed c s).link.clock = s.link.clock ∧ (State.contenderKeyed c s).link.seconds = s.link.seconds ∧
          (State.contenderKeyed c s).link.clockUpper = s.link.clockUpper ∧ (State.contenderKeyed c s).link.quiet = s.link.quiet := by
  unfold State.contenderKeyed; (repeat' split) <;> simp

@[simp] theorem State.useDrawnSlot_fields (k : Nat) (s : State) :
    (State.useDrawnSlot k s).sched.joinPlace = s.sched.joinPlace ∧ (State.useDrawnSlot k s).sched.joinAttempts = s.sched.joinAttempts ∧
          (State.useDrawnSlot k s).sched.alertPlace = s.sched.alertPlace ∧
          (State.useDrawnSlot k s).sched.alertAttempts = s.sched.alertAttempts ∧ (State.useDrawnSlot k s).sched.acks = s.sched.acks ∧
          (State.useDrawnSlot k s).sched.bids = s.sched.bids ∧ (State.useDrawnSlot k s).sched.flowPlace = s.sched.flowPlace ∧
          (State.useDrawnSlot k s).sched.slotRequest = s.sched.slotRequest ∧
          (State.useDrawnSlot k s).sched.statusPlace = s.sched.statusPlace ∧ (State.useDrawnSlot k s).sched.long = s.sched.long ∧
          (State.useDrawnSlot k s).sched.requests = s.sched.requests ∧ (State.useDrawnSlot k s).sched.grant = s.sched.grant ∧
          (State.useDrawnSlot k s).sched.draws = s.sched.draws ∧ (State.useDrawnSlot k s).sched.seed = s.sched.seed ∧
          (State.useDrawnSlot k s).radio.receiverOn = s.radio.receiverOn ∧ (State.useDrawnSlot k s).radio.channel = s.radio.channel ∧
          (State.useDrawnSlot k s).link.state = s.link.state ∧ (State.useDrawnSlot k s).link.channels = s.link.channels ∧
          (State.useDrawnSlot k s).link.candidates = s.link.candidates ∧ (State.useDrawnSlot k s).link.joining = s.link.joining ∧
          (State.useDrawnSlot k s).link.site = s.link.site ∧ (State.useDrawnSlot k s).link.loss = s.link.loss ∧
          (State.useDrawnSlot k s).link.hunt = s.link.hunt ∧ (State.useDrawnSlot k s).link.cycle = s.link.cycle ∧
          (State.useDrawnSlot k s).link.nextSlot = s.link.nextSlot ∧ (State.useDrawnSlot k s).link.window = s.link.window ∧
          (State.useDrawnSlot k s).link.beaconIn = s.link.beaconIn ∧ (State.useDrawnSlot k s).link.contention = s.link.contention ∧
          (State.useDrawnSlot k s).link.clock = s.link.clock ∧ (State.useDrawnSlot k s).link.seconds = s.link.seconds ∧
          (State.useDrawnSlot k s).link.clockUpper = s.link.clockUpper ∧ (State.useDrawnSlot k s).link.quiet = s.link.quiet := by
  unfold State.useDrawnSlot; (repeat' split) <;> simp

@[simp] theorem State.useSlot_fields (k : Nat) (s : State) :
    (State.useSlot k s).sched.joinPlace = s.sched.joinPlace ∧ (State.useSlot k s).sched.joinAttempts = s.sched.joinAttempts ∧
          (State.useSlot k s).sched.alertPlace = s.sched.alertPlace ∧ (State.useSlot k s).sched.alertAttempts = s.sched.alertAttempts ∧
          (State.useSlot k s).sched.acks = s.sched.acks ∧ (State.useSlot k s).sched.bids = s.sched.bids ∧
          (State.useSlot k s).sched.flowPlace = s.sched.flowPlace ∧ (State.useSlot k s).sched.slotRequest = s.sched.slotRequest ∧
          (State.useSlot k s).sched.statusPlace = s.sched.statusPlace ∧ (State.useSlot k s).sched.long = s.sched.long ∧
          (State.useSlot k s).sched.requests = s.sched.requests ∧ (State.useSlot k s).sched.grant = s.sched.grant ∧
          (State.useSlot k s).sched.draws = s.sched.draws ∧ (State.useSlot k s).sched.seed = s.sched.seed ∧
          (State.useSlot k s).radio.receiverOn = s.radio.receiverOn ∧ (State.useSlot k s).radio.channel = s.radio.channel ∧
          (State.useSlot k s).link.state = s.link.state ∧ (State.useSlot k s).link.channels = s.link.channels ∧
          (State.useSlot k s).link.candidates = s.link.candidates ∧ (State.useSlot k s).link.joining = s.link.joining ∧
          (State.useSlot k s).link.site = s.link.site ∧ (State.useSlot k s).link.loss = s.link.loss ∧
          (State.useSlot k s).link.hunt = s.link.hunt ∧ (State.useSlot k s).link.cycle = s.link.cycle ∧
          (State.useSlot k s).link.nextSlot = s.link.nextSlot ∧ (State.useSlot k s).link.window = s.link.window ∧
          (State.useSlot k s).link.beaconIn = s.link.beaconIn ∧ (State.useSlot k s).link.contention = s.link.contention ∧
          (State.useSlot k s).link.clock = s.link.clock ∧ (State.useSlot k s).link.seconds = s.link.seconds ∧
          (State.useSlot k s).link.clockUpper = s.link.clockUpper ∧ (State.useSlot k s).link.quiet = s.link.quiet := by
  unfold State.useSlot; (repeat' split) <;> simp

@[simp] theorem State.markSlot_fields (k : Nat) (s : State) :
    (State.markSlot k s).link.state = s.link.state ∧ (State.markSlot k s).link.channels = s.link.channels ∧
          (State.markSlot k s).link.candidates = s.link.candidates ∧ (State.markSlot k s).link.joining = s.link.joining ∧
          (State.markSlot k s).link.site = s.link.site ∧ (State.markSlot k s).link.loss = s.link.loss ∧
          (State.markSlot k s).link.hunt = s.link.hunt ∧ (State.markSlot k s).link.grantWait = s.link.grantWait ∧
          (State.markSlot k s).link.cycle = s.link.cycle ∧ (State.markSlot k s).link.window = s.link.window ∧
          (State.markSlot k s).link.beaconIn = s.link.beaconIn ∧ (State.markSlot k s).link.contention = s.link.contention ∧
          (State.markSlot k s).link.clock = s.link.clock ∧ (State.markSlot k s).link.seconds = s.link.seconds ∧
          (State.markSlot k s).link.clockUpper = s.link.clockUpper ∧ (State.markSlot k s).link.attempts = s.link.attempts ∧
          (State.markSlot k s).link.quiet = s.link.quiet ∧ (State.markSlot k s).radio.receiverOn = s.radio.receiverOn ∧
          (State.markSlot k s).radio.channel = s.radio.channel ∧ (State.markSlot k s).radio.sending = s.radio.sending := by
  unfold State.markSlot; (repeat' split) <;> simp

@[simp] theorem State.startSlot_fields (s : State) :
    (State.startSlot s).sched.alertPlace = s.sched.alertPlace ∧ (State.startSlot s).sched.acks = s.sched.acks ∧
          (State.startSlot s).sched.flowPlace = s.sched.flowPlace ∧ (State.startSlot s).sched.statusPlace = s.sched.statusPlace ∧
          (State.startSlot s).sched.seed = s.sched.seed ∧ (State.startSlot s).msgs.outbound = s.msgs.outbound ∧
          (State.startSlot s).msgs.inbound = s.msgs.inbound ∧ (State.startSlot s).msgs.triplog = s.msgs.triplog ∧
          (State.startSlot s).msgs.buffer0 = s.msgs.buffer0 ∧ (State.startSlot s).msgs.buffer1 = s.msgs.buffer1 ∧
          (State.startSlot s).msgs.stamp = s.msgs.stamp ∧ (State.startSlot s).msgs.deposit = s.msgs.deposit ∧
          (State.startSlot s).msgs.delivered = s.msgs.delivered ∧ (State.startSlot s).msgs.paused = s.msgs.paused ∧
          (State.startSlot s).msgs.pauseAt = s.msgs.pauseAt ∧ (State.startSlot s).msgs.resumeAt = s.msgs.resumeAt ∧
          (State.startSlot s).msgs.lastOut = s.msgs.lastOut ∧ (State.startSlot s).page.enables = s.page.enables ∧
          (State.startSlot s).page.statusCopy = s.page.statusCopy ∧ (State.startSlot s).page.shiftCopy = s.page.shiftCopy ∧
          (State.startSlot s).page.powerCopy = s.page.powerCopy ∧ (State.startSlot s).page.enableCopy = s.page.enableCopy ∧
          (State.startSlot s).pins.emswClosed = s.pins.emswClosed ∧ (State.startSlot s).pins.ign = s.pins.ign ∧
          (State.startSlot s).pins.lampHire = s.pins.lampHire ∧ (State.startSlot s).pins.lampCall = s.pins.lampCall ∧
          (State.startSlot s).pins.lampAlarm = s.pins.lampAlarm ∧ (State.startSlot s).pins.wake = s.pins.wake ∧
          (State.startSlot s).link.channels = s.link.channels ∧ (State.startSlot s).link.cycle = s.link.cycle ∧
          (State.startSlot s).link.beaconIn = s.link.beaconIn ∧ (State.startSlot s).link.contention = s.link.contention ∧
          (State.startSlot s).link.clock = s.link.clock ∧ (State.startSlot s).link.seconds = s.link.seconds ∧
          (State.startSlot s).link.clockUpper = s.link.clockUpper := by
  unfold State.startSlot; dsimp only; (repeat' split) <;> simp <;> (repeat' split) <;> simp

@[simp] theorem State.backoffEnds_fields (s : State) :
    (State.backoffEnds s).sched.joinPlace = s.sched.joinPlace ∧ (State.backoffEnds s).sched.joinAttempts = s.sched.joinAttempts ∧
          (State.backoffEnds s).sched.alertPlace = s.sched.alertPlace ∧
          (State.backoffEnds s).sched.alertAttempts = s.sched.alertAttempts ∧ (State.backoffEnds s).sched.acks = s.sched.acks ∧
          (State.backoffEnds s).sched.bids = s.sched.bids ∧ (State.backoffEnds s).sched.flowPlace = s.sched.flowPlace ∧
          (State.backoffEnds s).sched.slotRequest = s.sched.slotRequest ∧ (State.backoffEnds s).sched.statusPlace = s.sched.statusPlace ∧
          (State.backoffEnds s).sched.long = s.sched.long ∧ (State.backoffEnds s).sched.requests = s.sched.requests ∧
          (State.backoffEnds s).sched.grant = s.sched.grant ∧ (State.backoffEnds s).sched.seed = s.sched.seed := by
  unfold State.backoffEnds; (repeat' split) <;> simp

@[simp] theorem State.alertDelivered_fields (n : Word) (s : State) :
    (State.alertDelivered n s).sched.joinPlace = s.sched.joinPlace ∧
          (State.alertDelivered n s).sched.joinAttempts = s.sched.joinAttempts ∧
          (State.alertDelivered n s).sched.alertAttempts = s.sched.alertAttempts ∧ (State.alertDelivered n s).sched.acks = s.sched.acks ∧
          (State.alertDelivered n s).sched.bids = s.sched.bids ∧ (State.alertDelivered n s).sched.flowPlace = s.sched.flowPlace ∧
          (State.alertDelivered n s).sched.slotRequest = s.sched.slotRequest ∧
          (State.alertDelivered n s).sched.statusPlace = s.sched.statusPlace ∧
          (State.alertDelivered n s).sched.contention = s.sched.contention ∧ (State.alertDelivered n s).sched.long = s.sched.long ∧
          (State.alertDelivered n s).sched.requests = s.sched.requests ∧ (State.alertDelivered n s).sched.grant = s.sched.grant ∧
          (State.alertDelivered n s).sched.draws = s.sched.draws ∧ (State.alertDelivered n s).sched.seed = s.sched.seed ∧
          (State.alertDelivered n s).emerg.state = s.emerg.state ∧ (State.alertDelivered n s).emerg.number = s.emerg.number ∧
          (State.alertDelivered n s).emerg.source = s.emerg.source ∧ (State.alertDelivered n s).emerg.raisedAt = s.emerg.raisedAt ∧
          (State.alertDelivered n s).emerg.hold = s.emerg.hold ∧ (State.alertDelivered n s).emerg.image = s.emerg.image ∧
          (State.alertDelivered n s).emerg.raiseResult = s.emerg.raiseResult ∧
          (State.alertDelivered n s).emerg.ackedAt = s.emerg.ackedAt ∧
          (State.alertDelivered n s).emerg.cancelledAt = s.emerg.cancelledAt ∧
          (State.alertDelivered n s).emerg.causeWaits = s.emerg.causeWaits ∧
          (State.alertDelivered n s).emerg.guardHeld = s.emerg.guardHeld ∧ (State.alertDelivered n s).path.asel = s.path.asel ∧
          (State.alertDelivered n s).path.inReset = s.path.inReset ∧ (State.alertDelivered n s).path.buffer = s.path.buffer ∧
          (State.alertDelivered n s).path.drain = s.path.drain ∧ (State.alertDelivered n s).path.under = s.path.under ∧
          (State.alertDelivered n s).path.internal = s.path.internal ∧ (State.alertDelivered n s).path.fairness = s.path.fairness ∧
          (State.alertDelivered n s).path.resetDrain = s.path.resetDrain ∧ (State.alertDelivered n s).path.held = s.path.held ∧
          (State.alertDelivered n s).path.answer = s.path.answer := by
  unfold State.alertDelivered; (repeat' split) <;> simp

@[simp] theorem State.deliver_fields (f : Sending) (s : State) :
    (State.deliver f s).sched.joinAttempts = s.sched.joinAttempts ∧ (State.deliver f s).sched.draws = s.sched.draws ∧
          (State.deliver f s).sched.seed = s.sched.seed ∧ (State.deliver f s).msgs.outbound = s.msgs.outbound ∧
          (State.deliver f s).msgs.inbound = s.msgs.inbound ∧ (State.deliver f s).msgs.triplog = s.msgs.triplog ∧
          (State.deliver f s).msgs.buffer0 = s.msgs.buffer0 ∧ (State.deliver f s).msgs.buffer1 = s.msgs.buffer1 ∧
          (State.deliver f s).msgs.stamp = s.msgs.stamp ∧ (State.deliver f s).msgs.deposit = s.msgs.deposit ∧
          (State.deliver f s).msgs.delivered = s.msgs.delivered ∧ (State.deliver f s).msgs.paused = s.msgs.paused ∧
          (State.deliver f s).msgs.pauseAt = s.msgs.pauseAt ∧ (State.deliver f s).msgs.resumeAt = s.msgs.resumeAt ∧
          (State.deliver f s).msgs.lastOut = s.msgs.lastOut ∧ (State.deliver f s).page.enables = s.page.enables ∧
          (State.deliver f s).page.counters = s.page.counters ∧ (State.deliver f s).page.statusCopy = s.page.statusCopy ∧
          (State.deliver f s).page.shiftCopy = s.page.shiftCopy ∧ (State.deliver f s).page.powerCopy = s.page.powerCopy ∧
          (State.deliver f s).page.enableCopy = s.page.enableCopy ∧ (State.deliver f s).pins.emswClosed = s.pins.emswClosed ∧
          (State.deliver f s).pins.ign = s.pins.ign ∧ (State.deliver f s).pins.wake = s.pins.wake ∧
          (State.deliver f s).link.channels = s.link.channels ∧ (State.deliver f s).link.cycle = s.link.cycle ∧
          (State.deliver f s).link.nextSlot = s.link.nextSlot ∧ (State.deliver f s).link.window = s.link.window ∧
          (State.deliver f s).link.beaconIn = s.link.beaconIn ∧ (State.deliver f s).link.contention = s.link.contention ∧
          (State.deliver f s).link.clock = s.link.clock ∧ (State.deliver f s).link.seconds = s.link.seconds ∧
          (State.deliver f s).link.clockUpper = s.link.clockUpper ∧ (State.deliver f s).power.reason = s.power.reason ∧
          (State.deliver f s).power.ignition = s.power.ignition ∧ (State.deliver f s).power.startUp = s.power.startUp ∧
          (State.deliver f s).power.image = s.power.image ∧ (State.deliver f s).power.recovery = s.power.recovery ∧
          (State.deliver f s).power.result = s.power.result ∧ (State.deliver f s).power.faultReason = s.power.faultReason ∧
          (State.deliver f s).power.failingItem = s.power.failingItem ∧ (State.deliver f s).power.attempt = s.power.attempt ∧
          (State.deliver f s).power.transaction = s.power.transaction ∧ (State.deliver f s).emerg.state = s.emerg.state ∧
          (State.deliver f s).emerg.number = s.emerg.number ∧ (State.deliver f s).emerg.source = s.emerg.source ∧
          (State.deliver f s).emerg.raisedAt = s.emerg.raisedAt ∧ (State.deliver f s).emerg.hold = s.emerg.hold ∧
          (State.deliver f s).emerg.image = s.emerg.image ∧ (State.deliver f s).emerg.raiseResult = s.emerg.raiseResult ∧
          (State.deliver f s).emerg.ackedAt = s.emerg.ackedAt ∧ (State.deliver f s).emerg.cancelledAt = s.emerg.cancelledAt ∧
          (State.deliver f s).emerg.causeWaits = s.emerg.causeWaits ∧ (State.deliver f s).emerg.guardHeld = s.emerg.guardHeld ∧
          (State.deliver f s).path.asel = s.path.asel ∧ (State.deliver f s).path.inReset = s.path.inReset ∧
          (State.deliver f s).path.buffer = s.path.buffer ∧ (State.deliver f s).path.drain = s.path.drain ∧
          (State.deliver f s).path.under = s.path.under ∧ (State.deliver f s).path.internal = s.path.internal ∧
          (State.deliver f s).path.fairness = s.path.fairness ∧ (State.deliver f s).path.resetDrain = s.path.resetDrain ∧
          (State.deliver f s).path.held = s.path.held ∧ (State.deliver f s).path.answer = s.path.answer := by
  unfold State.deliver; (repeat' split) <;> simp

@[simp] theorem State.transmitted_fields (f : Sending) (s : State) :
    (State.transmitted f s).sched.joinPlace = s.sched.joinPlace ∧ (State.transmitted f s).sched.joinAttempts = s.sched.joinAttempts ∧
          (State.transmitted f s).sched.alertAttempts = s.sched.alertAttempts ∧ (State.transmitted f s).sched.acks = s.sched.acks ∧
          (State.transmitted f s).sched.bids = s.sched.bids ∧ (State.transmitted f s).sched.flowPlace = s.sched.flowPlace ∧
          (State.transmitted f s).sched.slotRequest = s.sched.slotRequest ∧
          (State.transmitted f s).sched.statusPlace = s.sched.statusPlace ∧
          (State.transmitted f s).sched.contention = s.sched.contention ∧ (State.transmitted f s).sched.long = s.sched.long ∧
          (State.transmitted f s).sched.requests = s.sched.requests ∧ (State.transmitted f s).sched.grant = s.sched.grant ∧
          (State.transmitted f s).sched.draws = s.sched.draws ∧ (State.transmitted f s).sched.seed = s.sched.seed ∧
          (State.transmitted f s).emerg.state = s.emerg.state ∧ (State.transmitted f s).emerg.number = s.emerg.number ∧
          (State.transmitted f s).emerg.source = s.emerg.source ∧ (State.transmitted f s).emerg.raisedAt = s.emerg.raisedAt ∧
          (State.transmitted f s).emerg.hold = s.emerg.hold ∧ (State.transmitted f s).emerg.image = s.emerg.image ∧
          (State.transmitted f s).emerg.raiseResult = s.emerg.raiseResult ∧ (State.transmitted f s).emerg.ackedAt = s.emerg.ackedAt ∧
          (State.transmitted f s).emerg.cancelledAt = s.emerg.cancelledAt ∧
          (State.transmitted f s).emerg.causeWaits = s.emerg.causeWaits ∧ (State.transmitted f s).emerg.guardHeld = s.emerg.guardHeld ∧
          (State.transmitted f s).path.asel = s.path.asel ∧ (State.transmitted f s).path.inReset = s.path.inReset ∧
          (State.transmitted f s).path.buffer = s.path.buffer ∧ (State.transmitted f s).path.drain = s.path.drain ∧
          (State.transmitted f s).path.under = s.path.under ∧ (State.transmitted f s).path.internal = s.path.internal ∧
          (State.transmitted f s).path.fairness = s.path.fairness ∧ (State.transmitted f s).path.resetDrain = s.path.resetDrain ∧
          (State.transmitted f s).path.held = s.path.held ∧ (State.transmitted f s).path.answer = s.path.answer := by
  unfold State.transmitted; (repeat' split) <;> simp

@[simp] theorem State.shortSent_fields (s : State) :
    (State.shortSent s).sched.joinAttempts = s.sched.joinAttempts ∧ (State.shortSent s).sched.draws = s.sched.draws ∧
          (State.shortSent s).sched.seed = s.sched.seed ∧ (State.shortSent s).msgs.outbound = s.msgs.outbound ∧
          (State.shortSent s).msgs.inbound = s.msgs.inbound ∧ (State.shortSent s).msgs.triplog = s.msgs.triplog ∧
          (State.shortSent s).msgs.buffer0 = s.msgs.buffer0 ∧ (State.shortSent s).msgs.buffer1 = s.msgs.buffer1 ∧
          (State.shortSent s).msgs.stamp = s.msgs.stamp ∧ (State.shortSent s).msgs.deposit = s.msgs.deposit ∧
          (State.shortSent s).msgs.delivered = s.msgs.delivered ∧ (State.shortSent s).msgs.paused = s.msgs.paused ∧
          (State.shortSent s).msgs.pauseAt = s.msgs.pauseAt ∧ (State.shortSent s).msgs.resumeAt = s.msgs.resumeAt ∧
          (State.shortSent s).msgs.lastOut = s.msgs.lastOut ∧ (State.shortSent s).page.enables = s.page.enables ∧
          (State.shortSent s).page.counters = s.page.counters ∧ (State.shortSent s).page.statusCopy = s.page.statusCopy ∧
          (State.shortSent s).page.shiftCopy = s.page.shiftCopy ∧ (State.shortSent s).page.powerCopy = s.page.powerCopy ∧
          (State.shortSent s).page.enableCopy = s.page.enableCopy ∧ (State.shortSent s).pins.emswClosed = s.pins.emswClosed ∧
          (State.shortSent s).pins.ign = s.pins.ign ∧ (State.shortSent s).pins.wake = s.pins.wake ∧
          (State.shortSent s).link.channels = s.link.channels ∧ (State.shortSent s).link.cycle = s.link.cycle ∧
          (State.shortSent s).link.nextSlot = s.link.nextSlot ∧ (State.shortSent s).link.window = s.link.window ∧
          (State.shortSent s).link.beaconIn = s.link.beaconIn ∧ (State.shortSent s).link.contention = s.link.contention ∧
          (State.shortSent s).link.clock = s.link.clock ∧ (State.shortSent s).link.seconds = s.link.seconds ∧
          (State.shortSent s).link.clockUpper = s.link.clockUpper ∧ (State.shortSent s).power.reason = s.power.reason ∧
          (State.shortSent s).power.ignition = s.power.ignition ∧ (State.shortSent s).power.startUp = s.power.startUp ∧
          (State.shortSent s).power.image = s.power.image ∧ (State.shortSent s).power.recovery = s.power.recovery ∧
          (State.shortSent s).power.result = s.power.result ∧ (State.shortSent s).power.faultReason = s.power.faultReason ∧
          (State.shortSent s).power.failingItem = s.power.failingItem ∧ (State.shortSent s).power.attempt = s.power.attempt ∧
          (State.shortSent s).power.transaction = s.power.transaction ∧ (State.shortSent s).emerg.state = s.emerg.state ∧
          (State.shortSent s).emerg.number = s.emerg.number ∧ (State.shortSent s).emerg.source = s.emerg.source ∧
          (State.shortSent s).emerg.raisedAt = s.emerg.raisedAt ∧ (State.shortSent s).emerg.hold = s.emerg.hold ∧
          (State.shortSent s).emerg.image = s.emerg.image ∧ (State.shortSent s).emerg.raiseResult = s.emerg.raiseResult ∧
          (State.shortSent s).emerg.ackedAt = s.emerg.ackedAt ∧ (State.shortSent s).emerg.cancelledAt = s.emerg.cancelledAt ∧
          (State.shortSent s).emerg.causeWaits = s.emerg.causeWaits ∧ (State.shortSent s).emerg.guardHeld = s.emerg.guardHeld ∧
          (State.shortSent s).path.asel = s.path.asel ∧ (State.shortSent s).path.inReset = s.path.inReset ∧
          (State.shortSent s).path.buffer = s.path.buffer ∧ (State.shortSent s).path.drain = s.path.drain ∧
          (State.shortSent s).path.under = s.path.under ∧ (State.shortSent s).path.internal = s.path.internal ∧
          (State.shortSent s).path.fairness = s.path.fairness ∧ (State.shortSent s).path.resetDrain = s.path.resetDrain ∧
          (State.shortSent s).path.held = s.path.held ∧ (State.shortSent s).path.answer = s.path.answer := by
  unfold State.shortSent; (repeat' split) <;> simp

@[simp] theorem State.longDelivered_fields (f : Sending) (s : State) :
    (State.longDelivered f s).trips.trip = s.trips.trip ∧ (State.longDelivered f s).trips.counter = s.trips.counter ∧
          (State.longDelivered f s).trips.components = s.trips.components ∧ (State.longDelivered f s).trips.silence = s.trips.silence ∧
          (State.longDelivered f s).trips.lastFault = s.trips.lastFault ∧ (State.longDelivered f s).trips.lastRef = s.trips.lastRef ∧
          (State.longDelivered f s).trips.deposit = s.trips.deposit ∧ (State.longDelivered f s).trips.pendingLog = s.trips.pendingLog ∧
          (State.longDelivered f s).trips.abandoned = s.trips.abandoned ∧ (State.longDelivered f s).trips.totals = s.trips.totals ∧
          (State.longDelivered f s).trips.captured = s.trips.captured ∧ (State.longDelivered f s).trips.meterCopy = s.trips.meterCopy ∧
          (State.longDelivered f s).trips.totalsCopy = s.trips.totalsCopy ∧ (State.longDelivered f s).msgs.outbound = s.msgs.outbound ∧
          (State.longDelivered f s).msgs.inbound = s.msgs.inbound ∧ (State.longDelivered f s).msgs.triplog = s.msgs.triplog ∧
          (State.longDelivered f s).msgs.buffer0 = s.msgs.buffer0 ∧ (State.longDelivered f s).msgs.buffer1 = s.msgs.buffer1 ∧
          (State.longDelivered f s).msgs.stamp = s.msgs.stamp ∧ (State.longDelivered f s).msgs.deposit = s.msgs.deposit ∧
          (State.longDelivered f s).msgs.delivered = s.msgs.delivered ∧ (State.longDelivered f s).msgs.paused = s.msgs.paused ∧
          (State.longDelivered f s).msgs.pauseAt = s.msgs.pauseAt ∧ (State.longDelivered f s).msgs.resumeAt = s.msgs.resumeAt ∧
          (State.longDelivered f s).msgs.lastOut = s.msgs.lastOut := by
  unfold State.longDelivered; (repeat' split) <;> simp

@[simp] theorem State.longSent_fields (s : State) :
    (State.longSent s).sched.joinPlace = s.sched.joinPlace ∧ (State.longSent s).sched.joinAttempts = s.sched.joinAttempts ∧
          (State.longSent s).sched.alertPlace = s.sched.alertPlace ∧ (State.longSent s).sched.alertAttempts = s.sched.alertAttempts ∧
          (State.longSent s).sched.acks = s.sched.acks ∧ (State.longSent s).sched.bids = s.sched.bids ∧
          (State.longSent s).sched.flowPlace = s.sched.flowPlace ∧ (State.longSent s).sched.statusPlace = s.sched.statusPlace ∧
          (State.longSent s).sched.requests = s.sched.requests ∧ (State.longSent s).sched.grant = s.sched.grant ∧
          (State.longSent s).sched.draws = s.sched.draws ∧ (State.longSent s).sched.seed = s.sched.seed ∧
          (State.longSent s).trips.trip = s.trips.trip ∧ (State.longSent s).trips.counter = s.trips.counter ∧
          (State.longSent s).trips.components = s.trips.components ∧ (State.longSent s).trips.silence = s.trips.silence ∧
          (State.longSent s).trips.lastFault = s.trips.lastFault ∧ (State.longSent s).trips.lastRef = s.trips.lastRef ∧
          (State.longSent s).trips.deposit = s.trips.deposit ∧ (State.longSent s).trips.pendingLog = s.trips.pendingLog ∧
          (State.longSent s).trips.abandoned = s.trips.abandoned ∧ (State.longSent s).trips.totals = s.trips.totals ∧
          (State.longSent s).trips.captured = s.trips.captured ∧ (State.longSent s).trips.meterCopy = s.trips.meterCopy ∧
          (State.longSent s).trips.totalsCopy = s.trips.totalsCopy ∧ (State.longSent s).msgs.outbound = s.msgs.outbound ∧
          (State.longSent s).msgs.inbound = s.msgs.inbound ∧ (State.longSent s).msgs.triplog = s.msgs.triplog ∧
          (State.longSent s).msgs.buffer0 = s.msgs.buffer0 ∧ (State.longSent s).msgs.buffer1 = s.msgs.buffer1 ∧
          (State.longSent s).msgs.stamp = s.msgs.stamp ∧ (State.longSent s).msgs.deposit = s.msgs.deposit ∧
          (State.longSent s).msgs.delivered = s.msgs.delivered ∧ (State.longSent s).msgs.paused = s.msgs.paused ∧
          (State.longSent s).msgs.pauseAt = s.msgs.pauseAt ∧ (State.longSent s).msgs.resumeAt = s.msgs.resumeAt ∧
          (State.longSent s).msgs.lastOut = s.msgs.lastOut := by
  unfold State.longSent; (repeat' split) <;> simp

@[simp] theorem State.resetLow_fields (s : State) :
    (State.resetLow s).path.asel = s.path.asel ∧ (State.resetLow s).path.queue = s.path.queue ∧
          (State.resetLow s).path.under = s.path.under ∧ (State.resetLow s).path.fairness = s.path.fairness ∧
          (State.resetLow s).path.resetDrain = s.path.resetDrain ∧ (State.resetLow s).path.held = s.path.held ∧
          (State.resetLow s).path.answer = s.path.answer := by
  unfold State.resetLow; (repeat' split) <;> simp

@[simp] theorem State.configFault_fields (r : FaultReason) (i : Byte) (s : State) :
    (State.configFault r i s).power.power = s.power.power ∧ (State.configFault r i s).power.park = s.power.park ∧
          (State.configFault r i s).power.parking = s.power.parking ∧ (State.configFault r i s).power.reason = s.power.reason ∧
          (State.configFault r i s).power.ignition = s.power.ignition ∧ (State.configFault r i s).power.image = s.power.image ∧
          (State.configFault r i s).power.recovery = s.power.recovery ∧ (State.configFault r i s).power.result = s.power.result ∧
          (State.configFault r i s).power.attempt = s.power.attempt := by
  unfold State.configFault; (repeat' split) <;> simp

@[simp] theorem State.attemptFails_fields (s : State) :
    (State.attemptFails s).power.power = s.power.power ∧ (State.attemptFails s).power.park = s.power.park ∧
          (State.attemptFails s).power.parking = s.power.parking ∧ (State.attemptFails s).power.reason = s.power.reason ∧
          (State.attemptFails s).power.ignition = s.power.ignition ∧ (State.attemptFails s).power.image = s.power.image ∧
          (State.attemptFails s).power.recovery = s.power.recovery ∧ (State.attemptFails s).power.result = s.power.result := by
  unfold State.attemptFails; (repeat' split) <;> simp

@[simp] theorem State.takeImage_fields (b : List Byte) (s : State) :
    (State.takeImage b s).power.power = s.power.power ∧ (State.takeImage b s).power.park = s.power.park ∧
          (State.takeImage b s).power.parking = s.power.parking ∧ (State.takeImage b s).power.reason = s.power.reason ∧
          (State.takeImage b s).power.ignition = s.power.ignition ∧ (State.takeImage b s).power.recovery = s.power.recovery ∧
          (State.takeImage b s).power.result = s.power.result ∧ (State.takeImage b s).power.attempt = s.power.attempt ∧
          (State.takeImage b s).link.state = s.link.state ∧ (State.takeImage b s).link.candidates = s.link.candidates ∧
          (State.takeImage b s).link.joining = s.link.joining ∧ (State.takeImage b s).link.site = s.link.site ∧
          (State.takeImage b s).link.loss = s.link.loss ∧ (State.takeImage b s).link.hunt = s.link.hunt ∧
          (State.takeImage b s).link.grantWait = s.link.grantWait ∧ (State.takeImage b s).link.cycle = s.link.cycle ∧
          (State.takeImage b s).link.nextSlot = s.link.nextSlot ∧ (State.takeImage b s).link.window = s.link.window ∧
          (State.takeImage b s).link.beaconIn = s.link.beaconIn ∧ (State.takeImage b s).link.contention = s.link.contention ∧
          (State.takeImage b s).link.clock = s.link.clock ∧ (State.takeImage b s).link.seconds = s.link.seconds ∧
          (State.takeImage b s).link.clockUpper = s.link.clockUpper ∧ (State.takeImage b s).link.attempts = s.link.attempts ∧
          (State.takeImage b s).link.quiet = s.link.quiet ∧ (State.takeImage b s).sched.joinPlace = s.sched.joinPlace ∧
          (State.takeImage b s).sched.joinAttempts = s.sched.joinAttempts ∧ (State.takeImage b s).sched.alertPlace = s.sched.alertPlace ∧
          (State.takeImage b s).sched.alertAttempts = s.sched.alertAttempts ∧ (State.takeImage b s).sched.acks = s.sched.acks ∧
          (State.takeImage b s).sched.bids = s.sched.bids ∧ (State.takeImage b s).sched.flowPlace = s.sched.flowPlace ∧
          (State.takeImage b s).sched.slotRequest = s.sched.slotRequest ∧ (State.takeImage b s).sched.statusPlace = s.sched.statusPlace ∧
          (State.takeImage b s).sched.contention = s.sched.contention ∧ (State.takeImage b s).sched.long = s.sched.long ∧
          (State.takeImage b s).sched.requests = s.sched.requests ∧ (State.takeImage b s).sched.grant = s.sched.grant ∧
          (State.takeImage b s).path.asel = s.path.asel ∧ (State.takeImage b s).path.inReset = s.path.inReset ∧
          (State.takeImage b s).path.buffer = s.path.buffer ∧ (State.takeImage b s).path.drain = s.path.drain ∧
          (State.takeImage b s).path.under = s.path.under ∧ (State.takeImage b s).path.internal = s.path.internal ∧
          (State.takeImage b s).path.fairness = s.path.fairness ∧ (State.takeImage b s).path.resetDrain = s.path.resetDrain ∧
          (State.takeImage b s).path.held = s.path.held ∧ (State.takeImage b s).path.answer = s.path.answer := by
  unfold State.takeImage; (repeat' split) <;> simp

@[simp] theorem State.applyImage_fields (i : ConfigImage) (s : State) :
    (State.applyImage i s).status.status = s.status.status ∧ (State.applyImage i s).status.shiftOpen = s.status.shiftOpen ∧
          (State.applyImage i s).status.shiftNumber = s.status.shiftNumber ∧ (State.applyImage i s).status.driverId = s.status.driverId ∧
          (State.applyImage i s).status.meterOpened = s.status.meterOpened ∧ (State.applyImage i s).status.zone = s.status.zone ∧
          (State.applyImage i s).status.position = s.status.position ∧ (State.applyImage i s).status.flashOn = s.status.flashOn ∧
          (State.applyImage i s).status.driverCopy = s.status.driverCopy ∧ (State.applyImage i s).status.firstCopy = s.status.firstCopy ∧
          (State.applyImage i s).status.secondCopy = s.status.secondCopy ∧
          (State.applyImage i s).status.pendingFirst = s.status.pendingFirst ∧
          (State.applyImage i s).status.statusResult = s.status.statusResult ∧
          (State.applyImage i s).status.shiftResult = s.status.shiftResult ∧ (State.applyImage i s).trips.trip = s.trips.trip ∧
          (State.applyImage i s).trips.counter = s.trips.counter ∧ (State.applyImage i s).trips.silence = s.trips.silence ∧
          (State.applyImage i s).trips.lastFault = s.trips.lastFault ∧ (State.applyImage i s).trips.lastRef = s.trips.lastRef ∧
          (State.applyImage i s).trips.deposit = s.trips.deposit ∧ (State.applyImage i s).trips.pendingLog = s.trips.pendingLog ∧
          (State.applyImage i s).trips.reports = s.trips.reports ∧ (State.applyImage i s).trips.abandoned = s.trips.abandoned ∧
          (State.applyImage i s).trips.shiftReport = s.trips.shiftReport ∧ (State.applyImage i s).trips.totals = s.trips.totals ∧
          (State.applyImage i s).trips.captured = s.trips.captured ∧ (State.applyImage i s).trips.meterCopy = s.trips.meterCopy ∧
          (State.applyImage i s).trips.totalsCopy = s.trips.totalsCopy ∧ (State.applyImage i s).msgs.outbound = s.msgs.outbound ∧
          (State.applyImage i s).msgs.inbound = s.msgs.inbound ∧ (State.applyImage i s).msgs.triplog = s.msgs.triplog ∧
          (State.applyImage i s).msgs.flight = s.msgs.flight ∧ (State.applyImage i s).msgs.buffer0 = s.msgs.buffer0 ∧
          (State.applyImage i s).msgs.buffer1 = s.msgs.buffer1 ∧ (State.applyImage i s).msgs.stamp = s.msgs.stamp ∧
          (State.applyImage i s).msgs.deposit = s.msgs.deposit ∧ (State.applyImage i s).msgs.delivered = s.msgs.delivered ∧
          (State.applyImage i s).msgs.paused = s.msgs.paused ∧ (State.applyImage i s).msgs.lastOut = s.msgs.lastOut := by
  unfold State.applyImage; (repeat' split) <;> simp

@[simp] theorem State.becomeReady_fields (s : State) :
    (State.becomeReady s).status.status = s.status.status ∧ (State.becomeReady s).status.shiftOpen = s.status.shiftOpen ∧
          (State.becomeReady s).status.shiftNumber = s.status.shiftNumber ∧ (State.becomeReady s).status.driverId = s.status.driverId ∧
          (State.becomeReady s).status.meterOpened = s.status.meterOpened ∧ (State.becomeReady s).status.zone = s.status.zone ∧
          (State.becomeReady s).status.position = s.status.position ∧ (State.becomeReady s).status.flashOn = s.status.flashOn ∧
          (State.becomeReady s).status.driverCopy = s.status.driverCopy ∧ (State.becomeReady s).status.firstCopy = s.status.firstCopy ∧
          (State.becomeReady s).status.secondCopy = s.status.secondCopy ∧
          (State.becomeReady s).status.pendingFirst = s.status.pendingFirst ∧
          (State.becomeReady s).status.statusResult = s.status.statusResult ∧
          (State.becomeReady s).status.shiftResult = s.status.shiftResult ∧ (State.becomeReady s).trips.counter = s.trips.counter ∧
          (State.becomeReady s).trips.silence = s.trips.silence ∧ (State.becomeReady s).trips.lastFault = s.trips.lastFault ∧
          (State.becomeReady s).trips.lastRef = s.trips.lastRef ∧ (State.becomeReady s).trips.deposit = s.trips.deposit ∧
          (State.becomeReady s).trips.pendingLog = s.trips.pendingLog ∧ (State.becomeReady s).trips.reports = s.trips.reports ∧
          (State.becomeReady s).trips.abandoned = s.trips.abandoned ∧ (State.becomeReady s).trips.shiftReport = s.trips.shiftReport ∧
          (State.becomeReady s).trips.totals = s.trips.totals ∧ (State.becomeReady s).trips.captured = s.trips.captured ∧
          (State.becomeReady s).trips.meterCopy = s.trips.meterCopy ∧ (State.becomeReady s).trips.totalsCopy = s.trips.totalsCopy ∧
          (State.becomeReady s).msgs.outbound = s.msgs.outbound ∧ (State.becomeReady s).msgs.inbound = s.msgs.inbound ∧
          (State.becomeReady s).msgs.triplog = s.msgs.triplog ∧ (State.becomeReady s).msgs.buffer0 = s.msgs.buffer0 ∧
          (State.becomeReady s).msgs.buffer1 = s.msgs.buffer1 ∧ (State.becomeReady s).msgs.stamp = s.msgs.stamp ∧
          (State.becomeReady s).msgs.deposit = s.msgs.deposit ∧ (State.becomeReady s).msgs.delivered = s.msgs.delivered ∧
          (State.becomeReady s).msgs.paused = s.msgs.paused ∧ (State.becomeReady s).msgs.lastOut = s.msgs.lastOut ∧
          (State.becomeReady s).power.ignition = s.power.ignition ∧ (State.becomeReady s).power.image = s.power.image ∧
          (State.becomeReady s).power.recovery = s.power.recovery ∧ (State.becomeReady s).power.result = s.power.result ∧
          (State.becomeReady s).power.faultReason = s.power.faultReason ∧ (State.becomeReady s).power.failingItem = s.power.failingItem ∧
          (State.becomeReady s).power.attempt = s.power.attempt ∧ (State.becomeReady s).power.transaction = s.power.transaction ∧
          (State.becomeReady s).link.channels = s.link.channels ∧ (State.becomeReady s).link.cycle = s.link.cycle ∧
          (State.becomeReady s).link.contention = s.link.contention ∧ (State.becomeReady s).link.clock = s.link.clock ∧
          (State.becomeReady s).link.seconds = s.link.seconds ∧ (State.becomeReady s).link.clockUpper = s.link.clockUpper ∧
          (State.becomeReady s).sched.joinAttempts = s.sched.joinAttempts ∧ (State.becomeReady s).sched.alertPlace = s.sched.alertPlace ∧
          (State.becomeReady s).sched.acks = s.sched.acks ∧ (State.becomeReady s).sched.flowPlace = s.sched.flowPlace ∧
          (State.becomeReady s).sched.draws = s.sched.draws ∧ (State.becomeReady s).sched.seed = s.sched.seed ∧
          (State.becomeReady s).page.enables = s.page.enables ∧ (State.becomeReady s).page.counters = s.page.counters ∧
          (State.becomeReady s).page.statusCopy = s.page.statusCopy ∧ (State.becomeReady s).page.shiftCopy = s.page.shiftCopy ∧
          (State.becomeReady s).page.powerCopy = s.page.powerCopy ∧ (State.becomeReady s).page.enableCopy = s.page.enableCopy ∧
          (State.becomeReady s).pins.emswClosed = s.pins.emswClosed ∧ (State.becomeReady s).pins.ign = s.pins.ign ∧
          (State.becomeReady s).emerg.number = s.emerg.number ∧ (State.becomeReady s).emerg.source = s.emerg.source ∧
          (State.becomeReady s).emerg.raisedAt = s.emerg.raisedAt ∧ (State.becomeReady s).emerg.sends = s.emerg.sends ∧
          (State.becomeReady s).emerg.repeatLeft = s.emerg.repeatLeft ∧ (State.becomeReady s).emerg.image = s.emerg.image ∧
          (State.becomeReady s).emerg.raiseResult = s.emerg.raiseResult ∧ (State.becomeReady s).emerg.ackedAt = s.emerg.ackedAt ∧
          (State.becomeReady s).emerg.cancelledAt = s.emerg.cancelledAt ∧ (State.becomeReady s).emerg.owed = s.emerg.owed ∧
          (State.becomeReady s).emerg.causeWaits = s.emerg.causeWaits ∧ (State.becomeReady s).emerg.guardHeld = s.emerg.guardHeld := by
  unfold State.becomeReady; dsimp only; (repeat' split) <;> simp <;> (repeat' split) <;> simp

@[simp] theorem State.softResetStatus_fields (s : State) :
    (State.softResetStatus s).status.shiftOpen = s.status.shiftOpen ∧
          (State.softResetStatus s).status.shiftNumber = s.status.shiftNumber ∧
          (State.softResetStatus s).status.driverId = s.status.driverId ∧
          (State.softResetStatus s).status.meterOpened = s.status.meterOpened ∧ (State.softResetStatus s).status.zone = s.status.zone ∧
          (State.softResetStatus s).status.position = s.status.position ∧ (State.softResetStatus s).status.lampMap = s.status.lampMap ∧
          (State.softResetStatus s).status.alarmEnabled = s.status.alarmEnabled ∧
          (State.softResetStatus s).status.flashOn = s.status.flashOn ∧ (State.softResetStatus s).status.alarmOn = s.status.alarmOn ∧
          (State.softResetStatus s).status.driverCopy = s.status.driverCopy ∧
          (State.softResetStatus s).status.firstCopy = s.status.firstCopy ∧
          (State.softResetStatus s).status.secondCopy = s.status.secondCopy ∧
          (State.softResetStatus s).status.pendingFirst = s.status.pendingFirst ∧
          (State.softResetStatus s).power.reason = s.power.reason ∧ (State.softResetStatus s).power.ignition = s.power.ignition ∧
          (State.softResetStatus s).power.startUp = s.power.startUp ∧ (State.softResetStatus s).power.image = s.power.image ∧
          (State.softResetStatus s).power.recovery = s.power.recovery ∧
          (State.softResetStatus s).power.faultReason = s.power.faultReason ∧
          (State.softResetStatus s).power.failingItem = s.power.failingItem ∧ (State.softResetStatus s).power.attempt = s.power.attempt ∧
          (State.softResetStatus s).power.transaction = s.power.transaction := by
  unfold State.softResetStatus; (repeat' split) <;> simp

@[simp] theorem State.softResetPage_fields (s : State) :
    (State.softResetPage s).pins.emswClosed = s.pins.emswClosed ∧ (State.softResetPage s).pins.ign = s.pins.ign ∧
          (State.softResetPage s).pins.lampHire = s.pins.lampHire ∧ (State.softResetPage s).pins.lampCall = s.pins.lampCall ∧
          (State.softResetPage s).pins.lampAlarm = s.pins.lampAlarm ∧ (State.softResetPage s).pins.wake = s.pins.wake := by
  unfold State.softResetPage; (repeat' split) <;> simp

@[simp] theorem State.tickTimers_fields (s : State) :
    (State.tickTimers s).trips.trip = s.trips.trip ∧ (State.tickTimers s).trips.counter = s.trips.counter ∧
          (State.tickTimers s).trips.components = s.trips.components ∧ (State.tickTimers s).trips.lastFault = s.trips.lastFault ∧
          (State.tickTimers s).trips.lastRef = s.trips.lastRef ∧ (State.tickTimers s).trips.deposit = s.trips.deposit ∧
          (State.tickTimers s).trips.pendingLog = s.trips.pendingLog ∧ (State.tickTimers s).trips.reports = s.trips.reports ∧
          (State.tickTimers s).trips.abandoned = s.trips.abandoned ∧ (State.tickTimers s).trips.shiftReport = s.trips.shiftReport ∧
          (State.tickTimers s).trips.totals = s.trips.totals ∧ (State.tickTimers s).trips.captured = s.trips.captured ∧
          (State.tickTimers s).trips.meterCopy = s.trips.meterCopy ∧ (State.tickTimers s).trips.totalsCopy = s.trips.totalsCopy ∧
          (State.tickTimers s).msgs.outbound = s.msgs.outbound ∧ (State.tickTimers s).msgs.inbound = s.msgs.inbound ∧
          (State.tickTimers s).msgs.triplog = s.msgs.triplog ∧ (State.tickTimers s).msgs.stamp = s.msgs.stamp ∧
          (State.tickTimers s).msgs.deposit = s.msgs.deposit ∧ (State.tickTimers s).msgs.delivered = s.msgs.delivered ∧
          (State.tickTimers s).msgs.paused = s.msgs.paused ∧ (State.tickTimers s).msgs.pauseAt = s.msgs.pauseAt ∧
          (State.tickTimers s).msgs.resumeAt = s.msgs.resumeAt ∧ (State.tickTimers s).msgs.lastOut = s.msgs.lastOut ∧
          (State.tickTimers s).emerg.state = s.emerg.state ∧ (State.tickTimers s).emerg.number = s.emerg.number ∧
          (State.tickTimers s).emerg.source = s.emerg.source ∧ (State.tickTimers s).emerg.raisedAt = s.emerg.raisedAt ∧
          (State.tickTimers s).emerg.sends = s.emerg.sends ∧ (State.tickTimers s).emerg.repeatLeft = s.emerg.repeatLeft ∧
          (State.tickTimers s).emerg.image = s.emerg.image ∧ (State.tickTimers s).emerg.raiseResult = s.emerg.raiseResult ∧
          (State.tickTimers s).emerg.ackedAt = s.emerg.ackedAt ∧ (State.tickTimers s).emerg.cancelledAt = s.emerg.cancelledAt ∧
          (State.tickTimers s).emerg.owed = s.emerg.owed ∧ (State.tickTimers s).emerg.causeWaits = s.emerg.causeWaits ∧
          (State.tickTimers s).emerg.guardHeld = s.emerg.guardHeld := by
  unfold State.tickTimers; (repeat' split) <;> simp

@[simp] theorem State.second_fields (s : State) :
    (State.second s).link.state = s.link.state ∧ (State.second s).link.channels = s.link.channels ∧
          (State.second s).link.candidates = s.link.candidates ∧ (State.second s).link.joining = s.link.joining ∧
          (State.second s).link.site = s.link.site ∧ (State.second s).link.loss = s.link.loss ∧
          (State.second s).link.hunt = s.link.hunt ∧ (State.second s).link.grantWait = s.link.grantWait ∧
          (State.second s).link.cycle = s.link.cycle ∧ (State.second s).link.nextSlot = s.link.nextSlot ∧
          (State.second s).link.window = s.link.window ∧ (State.second s).link.beaconIn = s.link.beaconIn ∧
          (State.second s).link.contention = s.link.contention ∧ (State.second s).link.clockUpper = s.link.clockUpper ∧
          (State.second s).link.attempts = s.link.attempts ∧ (State.second s).link.quiet = s.link.quiet ∧
          (State.second s).trips.trip = s.trips.trip ∧ (State.second s).trips.counter = s.trips.counter ∧
          (State.second s).trips.components = s.trips.components ∧ (State.second s).trips.lastFault = s.trips.lastFault ∧
          (State.second s).trips.lastRef = s.trips.lastRef ∧ (State.second s).trips.deposit = s.trips.deposit ∧
          (State.second s).trips.pendingLog = s.trips.pendingLog ∧ (State.second s).trips.reports = s.trips.reports ∧
          (State.second s).trips.abandoned = s.trips.abandoned ∧ (State.second s).trips.shiftReport = s.trips.shiftReport ∧
          (State.second s).trips.totals = s.trips.totals ∧ (State.second s).trips.captured = s.trips.captured ∧
          (State.second s).trips.meterCopy = s.trips.meterCopy ∧ (State.second s).trips.totalsCopy = s.trips.totalsCopy ∧
          (State.second s).msgs.outbound = s.msgs.outbound ∧ (State.second s).msgs.inbound = s.msgs.inbound ∧
          (State.second s).msgs.triplog = s.msgs.triplog ∧ (State.second s).msgs.stamp = s.msgs.stamp ∧
          (State.second s).msgs.deposit = s.msgs.deposit ∧ (State.second s).msgs.delivered = s.msgs.delivered ∧
          (State.second s).msgs.paused = s.msgs.paused ∧ (State.second s).msgs.pauseAt = s.msgs.pauseAt ∧
          (State.second s).msgs.resumeAt = s.msgs.resumeAt ∧ (State.second s).msgs.lastOut = s.msgs.lastOut ∧
          (State.second s).emerg.state = s.emerg.state ∧ (State.second s).emerg.number = s.emerg.number ∧
          (State.second s).emerg.source = s.emerg.source ∧ (State.second s).emerg.raisedAt = s.emerg.raisedAt ∧
          (State.second s).emerg.sends = s.emerg.sends ∧ (State.second s).emerg.repeatLeft = s.emerg.repeatLeft ∧
          (State.second s).emerg.image = s.emerg.image ∧ (State.second s).emerg.raiseResult = s.emerg.raiseResult ∧
          (State.second s).emerg.ackedAt = s.emerg.ackedAt ∧ (State.second s).emerg.cancelledAt = s.emerg.cancelledAt ∧
          (State.second s).emerg.owed = s.emerg.owed ∧ (State.second s).emerg.causeWaits = s.emerg.causeWaits ∧
          (State.second s).emerg.guardHeld = s.emerg.guardHeld := by
  unfold State.second; (repeat' split) <;> simp

@[simp] theorem State.setIgnition_fields (b : Bool) (s : State) :
    (State.setIgnition b s).pins.emswClosed = s.pins.emswClosed ∧ (State.setIgnition b s).pins.lampHire = s.pins.lampHire ∧
          (State.setIgnition b s).pins.lampCall = s.pins.lampCall ∧ (State.setIgnition b s).pins.lampAlarm = s.pins.lampAlarm ∧
          (State.setIgnition b s).pins.attn = s.pins.attn ∧ (State.setIgnition b s).pins.wake = s.pins.wake ∧
          (State.setIgnition b s).power.power = s.power.power ∧ (State.setIgnition b s).power.park = s.power.park ∧
          (State.setIgnition b s).power.parking = s.power.parking ∧ (State.setIgnition b s).power.reason = s.power.reason ∧
          (State.setIgnition b s).power.startUp = s.power.startUp ∧ (State.setIgnition b s).power.image = s.power.image ∧
          (State.setIgnition b s).power.recovery = s.power.recovery ∧ (State.setIgnition b s).power.result = s.power.result ∧
          (State.setIgnition b s).power.faultReason = s.power.faultReason ∧
          (State.setIgnition b s).power.failingItem = s.power.failingItem ∧ (State.setIgnition b s).power.attempt = s.power.attempt ∧
          (State.setIgnition b s).power.transaction = s.power.transaction := by
  unfold State.setIgnition; dsimp only; (repeat' split) <;> simp <;> (repeat' split) <;> simp

@[simp] theorem State.meterMessage_fields (m : MeterMessage) (s : State) :
    (State.meterMessage m s).trips.components = s.trips.components ∧ (State.meterMessage m s).trips.shiftReport = s.trips.shiftReport ∧
          (State.meterMessage m s).trips.captured = s.trips.captured ∧ (State.meterMessage m s).trips.meterCopy = s.trips.meterCopy ∧
          (State.meterMessage m s).status.zone = s.status.zone ∧ (State.meterMessage m s).status.position = s.status.position ∧
          (State.meterMessage m s).status.lampMap = s.status.lampMap ∧
          (State.meterMessage m s).status.alarmEnabled = s.status.alarmEnabled ∧
          (State.meterMessage m s).status.flashOn = s.status.flashOn ∧ (State.meterMessage m s).status.alarmOn = s.status.alarmOn ∧
          (State.meterMessage m s).status.driverCopy = s.status.driverCopy ∧
          (State.meterMessage m s).status.firstCopy = s.status.firstCopy ∧
          (State.meterMessage m s).status.secondCopy = s.status.secondCopy ∧
          (State.meterMessage m s).status.pendingFirst = s.status.pendingFirst ∧
          (State.meterMessage m s).status.statusResult = s.status.statusResult ∧
          (State.meterMessage m s).status.shiftResult = s.status.shiftResult ∧
          (State.meterMessage m s).sched.joinAttempts = s.sched.joinAttempts ∧
          (State.meterMessage m s).sched.alertPlace = s.sched.alertPlace ∧ (State.meterMessage m s).sched.acks = s.sched.acks ∧
          (State.meterMessage m s).sched.flowPlace = s.sched.flowPlace ∧ (State.meterMessage m s).sched.draws = s.sched.draws ∧
          (State.meterMessage m s).sched.seed = s.sched.seed ∧ (State.meterMessage m s).pins.emswClosed = s.pins.emswClosed ∧
          (State.meterMessage m s).pins.ign = s.pins.ign ∧ (State.meterMessage m s).path.asel = s.path.asel ∧
          (State.meterMessage m s).path.inReset = s.path.inReset ∧ (State.meterMessage m s).path.buffer = s.path.buffer ∧
          (State.meterMessage m s).path.drain = s.path.drain ∧ (State.meterMessage m s).path.under = s.path.under ∧
          (State.meterMessage m s).path.internal = s.path.internal ∧ (State.meterMessage m s).path.fairness = s.path.fairness ∧
          (State.meterMessage m s).path.resetDrain = s.path.resetDrain ∧ (State.meterMessage m s).path.held = s.path.held ∧
          (State.meterMessage m s).path.answer = s.path.answer ∧ (State.meterMessage m s).page.enables = s.page.enables ∧
          (State.meterMessage m s).page.counters = s.page.counters ∧ (State.meterMessage m s).page.statusCopy = s.page.statusCopy ∧
          (State.meterMessage m s).page.shiftCopy = s.page.shiftCopy ∧ (State.meterMessage m s).page.powerCopy = s.page.powerCopy ∧
          (State.meterMessage m s).page.enableCopy = s.page.enableCopy ∧ (State.meterMessage m s).link.channels = s.link.channels ∧
          (State.meterMessage m s).link.cycle = s.link.cycle ∧ (State.meterMessage m s).link.nextSlot = s.link.nextSlot ∧
          (State.meterMessage m s).link.window = s.link.window ∧ (State.meterMessage m s).link.beaconIn = s.link.beaconIn ∧
          (State.meterMessage m s).link.contention = s.link.contention ∧ (State.meterMessage m s).link.clock = s.link.clock ∧
          (State.meterMessage m s).link.seconds = s.link.seconds ∧ (State.meterMessage m s).link.clockUpper = s.link.clockUpper ∧
          (State.meterMessage m s).msgs.outbound = s.msgs.outbound ∧ (State.meterMessage m s).msgs.inbound = s.msgs.inbound ∧
          (State.meterMessage m s).msgs.triplog = s.msgs.triplog ∧ (State.meterMessage m s).msgs.buffer0 = s.msgs.buffer0 ∧
          (State.meterMessage m s).msgs.buffer1 = s.msgs.buffer1 ∧ (State.meterMessage m s).msgs.stamp = s.msgs.stamp ∧
          (State.meterMessage m s).msgs.deposit = s.msgs.deposit ∧ (State.meterMessage m s).msgs.delivered = s.msgs.delivered ∧
          (State.meterMessage m s).msgs.paused = s.msgs.paused ∧ (State.meterMessage m s).msgs.pauseAt = s.msgs.pauseAt ∧
          (State.meterMessage m s).msgs.resumeAt = s.msgs.resumeAt ∧ (State.meterMessage m s).msgs.lastOut = s.msgs.lastOut ∧
          (State.meterMessage m s).power.ignition = s.power.ignition ∧ (State.meterMessage m s).power.startUp = s.power.startUp ∧
          (State.meterMessage m s).power.image = s.power.image ∧ (State.meterMessage m s).power.recovery = s.power.recovery ∧
          (State.meterMessage m s).power.result = s.power.result ∧ (State.meterMessage m s).power.faultReason = s.power.faultReason ∧
          (State.meterMessage m s).power.failingItem = s.power.failingItem ∧ (State.meterMessage m s).power.attempt = s.power.attempt ∧
          (State.meterMessage m s).power.transaction = s.power.transaction := by
  unfold State.meterMessage; (repeat' split) <;> simp

@[simp] theorem State.takeMeter_fields (m : MeterMessage) (s : State) :
    (State.takeMeter m s).trips.components = s.trips.components ∧ (State.takeMeter m s).trips.shiftReport = s.trips.shiftReport ∧
          (State.takeMeter m s).trips.captured = s.trips.captured ∧ (State.takeMeter m s).trips.meterCopy = s.trips.meterCopy ∧
          (State.takeMeter m s).status.zone = s.status.zone ∧ (State.takeMeter m s).status.position = s.status.position ∧
          (State.takeMeter m s).status.lampMap = s.status.lampMap ∧ (State.takeMeter m s).status.alarmEnabled = s.status.alarmEnabled ∧
          (State.takeMeter m s).status.flashOn = s.status.flashOn ∧ (State.takeMeter m s).status.alarmOn = s.status.alarmOn ∧
          (State.takeMeter m s).status.driverCopy = s.status.driverCopy ∧ (State.takeMeter m s).status.firstCopy = s.status.firstCopy ∧
          (State.takeMeter m s).status.secondCopy = s.status.secondCopy ∧
          (State.takeMeter m s).status.pendingFirst = s.status.pendingFirst ∧
          (State.takeMeter m s).status.statusResult = s.status.statusResult ∧
          (State.takeMeter m s).status.shiftResult = s.status.shiftResult ∧
          (State.takeMeter m s).sched.joinAttempts = s.sched.joinAttempts ∧ (State.takeMeter m s).sched.alertPlace = s.sched.alertPlace ∧
          (State.takeMeter m s).sched.acks = s.sched.acks ∧ (State.takeMeter m s).sched.flowPlace = s.sched.flowPlace ∧
          (State.takeMeter m s).sched.draws = s.sched.draws ∧ (State.takeMeter m s).sched.seed = s.sched.seed ∧
          (State.takeMeter m s).pins.emswClosed = s.pins.emswClosed ∧ (State.takeMeter m s).pins.ign = s.pins.ign ∧
          (State.takeMeter m s).path.asel = s.path.asel ∧ (State.takeMeter m s).path.inReset = s.path.inReset ∧
          (State.takeMeter m s).path.buffer = s.path.buffer ∧ (State.takeMeter m s).path.drain = s.path.drain ∧
          (State.takeMeter m s).path.under = s.path.under ∧ (State.takeMeter m s).path.internal = s.path.internal ∧
          (State.takeMeter m s).path.fairness = s.path.fairness ∧ (State.takeMeter m s).path.resetDrain = s.path.resetDrain ∧
          (State.takeMeter m s).path.held = s.path.held ∧ (State.takeMeter m s).path.answer = s.path.answer ∧
          (State.takeMeter m s).page.enables = s.page.enables ∧ (State.takeMeter m s).page.counters = s.page.counters ∧
          (State.takeMeter m s).page.statusCopy = s.page.statusCopy ∧ (State.takeMeter m s).page.shiftCopy = s.page.shiftCopy ∧
          (State.takeMeter m s).page.powerCopy = s.page.powerCopy ∧ (State.takeMeter m s).page.enableCopy = s.page.enableCopy ∧
          (State.takeMeter m s).link.channels = s.link.channels ∧ (State.takeMeter m s).link.cycle = s.link.cycle ∧
          (State.takeMeter m s).link.nextSlot = s.link.nextSlot ∧ (State.takeMeter m s).link.window = s.link.window ∧
          (State.takeMeter m s).link.beaconIn = s.link.beaconIn ∧ (State.takeMeter m s).link.contention = s.link.contention ∧
          (State.takeMeter m s).link.clock = s.link.clock ∧ (State.takeMeter m s).link.seconds = s.link.seconds ∧
          (State.takeMeter m s).link.clockUpper = s.link.clockUpper ∧ (State.takeMeter m s).msgs.outbound = s.msgs.outbound ∧
          (State.takeMeter m s).msgs.inbound = s.msgs.inbound ∧ (State.takeMeter m s).msgs.triplog = s.msgs.triplog ∧
          (State.takeMeter m s).msgs.buffer0 = s.msgs.buffer0 ∧ (State.takeMeter m s).msgs.buffer1 = s.msgs.buffer1 ∧
          (State.takeMeter m s).msgs.stamp = s.msgs.stamp ∧ (State.takeMeter m s).msgs.deposit = s.msgs.deposit ∧
          (State.takeMeter m s).msgs.delivered = s.msgs.delivered ∧ (State.takeMeter m s).msgs.paused = s.msgs.paused ∧
          (State.takeMeter m s).msgs.pauseAt = s.msgs.pauseAt ∧ (State.takeMeter m s).msgs.resumeAt = s.msgs.resumeAt ∧
          (State.takeMeter m s).msgs.lastOut = s.msgs.lastOut ∧ (State.takeMeter m s).power.ignition = s.power.ignition ∧
          (State.takeMeter m s).power.startUp = s.power.startUp ∧ (State.takeMeter m s).power.image = s.power.image ∧
          (State.takeMeter m s).power.recovery = s.power.recovery ∧ (State.takeMeter m s).power.result = s.power.result ∧
          (State.takeMeter m s).power.faultReason = s.power.faultReason ∧ (State.takeMeter m s).power.failingItem = s.power.failingItem ∧
          (State.takeMeter m s).power.attempt = s.power.attempt ∧ (State.takeMeter m s).power.transaction = s.power.transaction := by
  unfold State.takeMeter; (repeat' split) <;> simp

@[simp] theorem State.takeWake_fields (c : List Word) (s : State) :
    (State.takeWake c s).sched.joinAttempts = s.sched.joinAttempts ∧ (State.takeWake c s).sched.alertPlace = s.sched.alertPlace ∧
          (State.takeWake c s).sched.acks = s.sched.acks ∧ (State.takeWake c s).sched.flowPlace = s.sched.flowPlace ∧
          (State.takeWake c s).sched.draws = s.sched.draws ∧ (State.takeWake c s).sched.seed = s.sched.seed ∧
          (State.takeWake c s).msgs.outbound = s.msgs.outbound ∧ (State.takeWake c s).msgs.inbound = s.msgs.inbound ∧
          (State.takeWake c s).msgs.triplog = s.msgs.triplog ∧ (State.takeWake c s).msgs.buffer0 = s.msgs.buffer0 ∧
          (State.takeWake c s).msgs.buffer1 = s.msgs.buffer1 ∧ (State.takeWake c s).msgs.stamp = s.msgs.stamp ∧
          (State.takeWake c s).msgs.deposit = s.msgs.deposit ∧ (State.takeWake c s).msgs.delivered = s.msgs.delivered ∧
          (State.takeWake c s).msgs.paused = s.msgs.paused ∧ (State.takeWake c s).msgs.pauseAt = s.msgs.pauseAt ∧
          (State.takeWake c s).msgs.resumeAt = s.msgs.resumeAt ∧ (State.takeWake c s).msgs.lastOut = s.msgs.lastOut ∧
          (State.takeWake c s).page.enables = s.page.enables ∧ (State.takeWake c s).page.counters = s.page.counters ∧
          (State.takeWake c s).page.statusCopy = s.page.statusCopy ∧ (State.takeWake c s).page.shiftCopy = s.page.shiftCopy ∧
          (State.takeWake c s).page.powerCopy = s.page.powerCopy ∧ (State.takeWake c s).page.enableCopy = s.page.enableCopy ∧
          (State.takeWake c s).pins.emswClosed = s.pins.emswClosed ∧ (State.takeWake c s).pins.ign = s.pins.ign ∧
          (State.takeWake c s).link.channels = s.link.channels ∧ (State.takeWake c s).link.cycle = s.link.cycle ∧
          (State.takeWake c s).link.nextSlot = s.link.nextSlot ∧ (State.takeWake c s).link.window = s.link.window ∧
          (State.takeWake c s).link.beaconIn = s.link.beaconIn ∧ (State.takeWake c s).link.contention = s.link.contention ∧
          (State.takeWake c s).link.clock = s.link.clock ∧ (State.takeWake c s).link.seconds = s.link.seconds ∧
          (State.takeWake c s).link.clockUpper = s.link.clockUpper ∧ (State.takeWake c s).power.ignition = s.power.ignition ∧
          (State.takeWake c s).power.startUp = s.power.startUp ∧ (State.takeWake c s).power.image = s.power.image ∧
          (State.takeWake c s).power.recovery = s.power.recovery ∧ (State.takeWake c s).power.result = s.power.result ∧
          (State.takeWake c s).power.faultReason = s.power.faultReason ∧ (State.takeWake c s).power.failingItem = s.power.failingItem ∧
          (State.takeWake c s).power.attempt = s.power.attempt ∧ (State.takeWake c s).power.transaction = s.power.transaction := by
  unfold State.takeWake; (repeat' split) <;> simp


end Sys2Proof.Machine
end

