-- ==== Sys2Proof/Laws/Offers.lean ====
section
/-! SUPPORT. The offer law (R68) is kept by the operations that a command is made of. -/

namespace Sys2Proof.Machine

/-- The offer law (R68) on the values it speaks of. -/
def OfferOk (t : OfferEngine) : Prop :=
  (∀ n k, (t.stateOf n).claims = true → (t.stateOf k).claims = true → n = k) ∧
    (∀ n k, t.stateOf n ≠ .empty → t.stateOf k ≠ .empty → (t.entry n).job = (t.entry k).job → n = k) ∧
    (∀ n, t.stateOf n ≠ .empty → (t.entry n).job ≠ 0#32)

theorem State.offerLaw_iff (s : State) : s.offerLaw ↔ OfferOk s.offers := Iff.rfl

theorem mem_allEntries (k : Fin 16) : k ∈ allEntries := by revert k; decide

@[simp] theorem State.offers_updateEntry (n : Fin 16) (f : OfferEntry → OfferEntry) (cs : List Cause) (s : State) :
    (s.updateEntry n f cs).offers = s.offers.update n f cs := rfl

theorem OfferEngine.stateOf_update (t : OfferEngine) (n k : Fin 16) (f : OfferEntry → OfferEntry) (cs : List Cause) :
    (t.update n f cs).stateOf k = if k = n then (f (t.entry n)).state else t.stateOf k := by
  simp only [OfferEngine.stateOf, OfferEngine.entry_update]
  split <;> rfl

theorem OfferEngine.job_update (t : OfferEngine) (n k : Fin 16) (f : OfferEntry → OfferEntry) (cs : List Cause) :
    ((t.update n f cs).entry k).job = if k = n then (f (t.entry n)).job else (t.entry k).job := by
  simp only [OfferEngine.entry_update]
  split <;> rfl

/-- A table whose entries hold the same states and jobs keeps the law. -/
theorem OfferOk.congr {t u : OfferEngine} (h : OfferOk t) (hs : ∀ n, u.stateOf n = t.stateOf n)
    (hj : ∀ n, (u.entry n).job = (t.entry n).job) : OfferOk u := by
  obtain ⟨h1, h2, h3⟩ := h
  refine ⟨fun n k => ?_, fun n k => ?_, fun n => ?_⟩ <;> simp only [hs, hj]
  · exact h1 n k
  · exact h2 n k
  · exact h3 n

/-- An update of one entry keeps the law where the new content does. -/
theorem OfferOk.update {t : OfferEngine} (h : OfferOk t) (n : Fin 16) (f : OfferEntry → OfferEntry) (cs : List Cause)
    (hc : (f (t.entry n)).state.claims = true → ∀ k, k ≠ n → (t.stateOf k).claims = false)
    (hj : (f (t.entry n)).state ≠ .empty → (f (t.entry n)).job ≠ 0#32 ∧
      ∀ k, k ≠ n → t.stateOf k ≠ .empty → (t.entry k).job ≠ (f (t.entry n)).job) : OfferOk (t.update n f cs) := by
  obtain ⟨h1, h2, h3⟩ := h
  refine ⟨fun a b => ?_, fun a b => ?_, fun a => ?_⟩ <;> simp only [OfferEngine.stateOf_update, OfferEngine.job_update]
  · by_cases ha : a = n <;> by_cases hb : b = n <;> simp only [ha, hb, if_true, if_false]
    · intros; trivial
    · intro x y; rw [hc x b hb] at y; cases y
    · intro x y; rw [hc y a ha] at x; cases x
    · exact h1 a b
  · by_cases ha : a = n <;> by_cases hb : b = n <;> simp only [ha, hb, if_true, if_false]
    · intros; trivial
    · intro x y z; exact absurd z.symm ((hj x).2 b hb y)
    · intro x y z; exact absurd z ((hj y).2 a ha x)
    · exact h2 a b
  · by_cases ha : a = n <;> simp only [ha, if_true, if_false]
    · intro x; exact (hj x).1
    · exact h3 a

/-- An entry that changes its state alone: a claim is new only where no other entry claims. -/
theorem OfferOk.keepJob {t : OfferEngine} (h : OfferOk t) (n : Fin 16) (f : OfferEntry → OfferEntry) (cs : List Cause)
    (hjob : (f (t.entry n)).job = (t.entry n).job) (hn : t.stateOf n ≠ .empty)
    (hc : (f (t.entry n)).state.claims = true → (t.stateOf n).claims = true ∨ t.otherClaims n = false) :
    OfferOk (t.update n f cs) := by
  refine h.update n f cs ?_ ?_
  · intro x k hk
    rcases hc x with y | y
    · cases e : (t.stateOf k).claims
      · rfl
      · exact absurd (h.1 k n e y) hk
    · simp only [OfferEngine.otherClaims, List.any_eq_false, Bool.and_eq_true, bne_iff_ne, ne_eq, not_and] at y
      have := y k (mem_allEntries k) hk
      simpa using this
  · intro _
    rw [hjob]
    exact ⟨h.2.2 n hn, fun k hk hke e => hk (h.2.1 k n hke hn e)⟩

/-- An entry that becomes EMPTY. -/
theorem OfferOk.emptied {t : OfferEngine} (h : OfferOk t) (n : Fin 16) (f : OfferEntry → OfferEntry) (cs : List Cause)
    (hf : (f (t.entry n)).state = .empty) : OfferOk (t.update n f cs) :=
  h.update n f cs (by simp [hf, OfferState.claims]) (by simp [hf])

theorem OfferEngine.find_none {t : OfferEngine} {job : DWord} (h : t.find job = none) (k : Fin 16) (hk : t.stateOf k ≠ .empty) :
    (t.entry k).job ≠ job := by
  simp only [OfferEngine.find, List.find?_eq_none] at h
  have := h k (mem_allEntries k)
  simp_all

theorem OfferEngine.find_some {t : OfferEngine} {job : DWord} {n : Fin 16} (h : t.find job = some n) :
    t.stateOf n ≠ .empty ∧ (t.entry n).job = job := by
  have := List.find?_some h
  simpa using this

theorem OfferEngine.anyClaims_false {t : OfferEngine} (h : t.anyClaims = false) (k : Fin 16) : (t.stateOf k).claims = false := by
  simp only [OfferEngine.anyClaims, List.any_eq_false] at h
  simpa using h k (mem_allEntries k)

theorem OfferEngine.awarded_some {t : OfferEngine} {n : Fin 16} (h : t.awarded = some n) : t.stateOf n = .awarded := by
  simpa using List.find?_some h

theorem OfferEngine.bidding_some {t : OfferEngine} {n : Fin 16} (h : t.bidding = some n) : t.stateOf n = .bidding := by
  simpa using List.find?_some h


@[simp] theorem State.emptyEntry_offers (n : Fin 16) (cs : List Cause) {s : State} (hl : OfferOk s.offers) :
    OfferOk (State.emptyEntry n cs s).offers := by
  exact (hl.emptied n OfferEntry.emptied cs rfl)

@[simp] theorem State.takeOffer_offers (h : DownHeader) (b : OfferBody) {s : State} (hl : OfferOk s.offers) :
    OfferOk (State.takeOffer h b s).offers := by
  unfold State.takeOffer; (repeat' split)
  · rename_i he _ n _
    simp only [State.entersOffer, Bool.and_eq_true, bne_iff_ne, Option.isNone_iff_eq_none] at he
    refine OfferOk.update hl n _ _ (by simp [OfferEntry.filled, OfferState.claims]) ?_
    intro _
    exact ⟨he.1.1.1.1.1.1.1, fun k _ hk => OfferEngine.find_none he.2 k hk⟩
  · simpa using hl
  · exact hl

@[simp] theorem State.lifetimeEnds_offers (n : Fin 16) {s : State} (hl : OfferOk s.offers) :
    OfferOk (State.lifetimeEnds n s).offers := by
  unfold State.lifetimeEnds; dsimp only; split
  · rename_i h
    simp only [Bool.and_eq_true, beq_iff_eq] at h
    exact hl.keepJob n _ _ rfl (by simp [OfferEngine.stateOf, h.1]) (by simp [OfferEntry.become, OfferState.claims])
  · exact hl

@[simp] theorem State.awardWaitEnds_offers (n : Fin 16) {s : State} (hl : OfferOk s.offers) :
    OfferOk (State.awardWaitEnds n s).offers := by
  unfold State.awardWaitEnds; dsimp only; split
  · rename_i h
    simp only [Bool.and_eq_true, beq_iff_eq] at h
    exact hl.keepJob n _ _ rfl (by simp [OfferEngine.stateOf, h.1]) (by simp [OfferEntry.become, OfferState.claims])
  · exact hl

@[simp] theorem State.takeResponse_offers (n : Fin 16) (l : Lanes) (d : Word) {s : State} (hl : OfferOk s.offers) :
    OfferOk (State.takeResponse n l d s).offers := by
  unfold State.takeResponse; dsimp only; split
  · refine OfferOk.congr hl (fun k => ?_) (fun k => ?_)
    · simp only [State.updateEntry, State.requestRewrite, OfferEngine.stateOf_update]; split
      · rename_i h; subst h; rfl
      · rfl
    · simp only [State.updateEntry, State.requestRewrite, OfferEngine.job_update]; split
      · rename_i h; subst h; rfl
      · rfl
  · rename_i ho
    simp only [ne_eq, Decidable.not_not] at ho
    split
    · rename_i hcode
      simp only [State.responseOutcome, hcode, if_true, State.acceptOutcome] at ho
      have hst : s.offers.stateOf n = .live := by
        unfold OfferEngine.stateOf
        cases hx : (s.offers.entry n).state <;> simp_all
      have hoc : s.offers.otherClaims n = false := by
        unfold OfferEngine.stateOf at hst
        cases hx : s.offers.otherClaims n <;> simp_all
      simp only [State.addBid_frame]
      exact hl.keepJob n _ _ rfl (by simp [hst]) (fun _ => Or.inr hoc)
    · split
      · rename_i hca hcode
        have hst : s.offers.stateOf n ≠ .empty := by
          intro he
          simp [State.responseOutcome, hcode, he, OfferState.declineOutcome, codeAccept, codeDecline] at ho
        simp only [State.addBid_frame]
        exact hl.keepJob n _ _ rfl hst (by simp [OfferEntry.answered, OfferEntry.become, OfferState.claims])
      · have := hl.emptied n (fun e => OfferEntry.answered (laneCombine l (s.offers.entry n).response d) (s.responseOutcome n (Word.lower (laneCombine l (s.offers.entry n).response d))) e.emptied) [] rfl
        have hfor : OfferOk
              (s.offers.update n (fun e => OfferEntry.answered (laneCombine l (s.offers.entry n).response d) (s.responseOutcome n (Word.lower (laneCombine l (s.offers.entry n).response d))) e.emptied) []) := this
        split
        · simp only [State.leftAwarded_frame, State.addBid_frame]
          exact hfor.congr (fun _ => rfl) (fun _ => rfl)
        · exact hfor.congr (fun _ => rfl) (fun _ => rfl)

@[simp] theorem State.awardNoEntry_offers (b : OfferBody) {s : State} (hl : OfferOk s.offers) (hz : b.job ≠ 0#32)
    (hf : s.offers.find b.job = none) (hc : s.offers.anyClaims = false) :
    OfferOk (State.awardNoEntry b s).offers := by
  unfold State.awardNoEntry; split
  · simp only [State.becameAwarded_frame, State.placeEntry, State.updateEntry, State.requestRewrite]
    exact OfferOk.update hl _ _ _ (fun _ k _ => OfferEngine.anyClaims_false hc k)
      (fun _ => ⟨hz, fun k _ hk => OfferEngine.find_none hf k hk⟩)
  · simpa using hl

@[simp] theorem State.takeAward_offers (b : OfferBody) {s : State} (hl : OfferOk s.offers) :
    OfferOk (State.takeAward b s).offers := by
  unfold State.takeAward; split
  · exact hl
  · rename_i hz
    simp only [not_or] at hz
    split
    · rename_i hf; split
      · rename_i he
        simp only [State.eligible, Bool.and_eq_true, Bool.not_eq_true'] at he
        exact State.awardNoEntry_offers b hl hz.1 hf he.1.1
      · simpa using hl
    · rename_i n hf
      have hn := (OfferEngine.find_some hf).1
      split
      · rename_i hst
        simp only [State.becameAwarded_frame]
        exact hl.keepJob n _ _ rfl hn (fun _ => Or.inl (by simp [hst, OfferState.claims]))
      · split
        · rename_i he
          simp only [State.eligible, Bool.and_eq_true, Bool.not_eq_true'] at he
          simp only [State.becameAwarded_frame]
          exact hl.keepJob n _ _ rfl hn (fun _ => Or.inr he.1.1)
        · simpa using hl
      · split
        · rename_i he
          simp only [State.eligible, Bool.and_eq_true, Bool.not_eq_true'] at he
          simp only [State.becameAwarded_frame]
          exact hl.keepJob n _ _ rfl hn (fun _ => Or.inr he.1.1)
        · simpa using hl
      all_goals simpa using hl

@[simp] theorem State.takeLost_offers (j : DWord) {s : State} (hl : OfferOk s.offers) :
    OfferOk (State.takeLost j s).offers := by
  unfold State.takeLost; (repeat' split)
  · exact hl
  · rename_i hf _
    exact hl.keepJob _ _ _ rfl (OfferEngine.find_some hf).1 (by simp [OfferEntry.become, OfferState.claims])
  · exact hl

@[simp] theorem State.takeWithdraw_offers (j : DWord) {s : State} (hl : OfferOk s.offers) :
    OfferOk (State.takeWithdraw j s).offers := by
  unfold State.takeWithdraw; dsimp only; split
  · exact hl
  · rename_i n hf
    have := hl.keepJob n (OfferEntry.become .withdrawn) [.offerChange] rfl (OfferEngine.find_some hf).1
          (by simp [OfferEntry.become, OfferState.claims])
    (repeat' split) <;> first | exact hl | simpa using this

@[simp] theorem State.carryJob_offers {s : State} (hl : OfferOk s.offers) :
    OfferOk (State.carryJob s).offers := by
  unfold State.carryJob; (repeat' split) <;> simp (maxDischargeDepth := 12) [hl]

@[simp] theorem State.alertingToOffers_offers {s : State} (hl : OfferOk s.offers) :
    OfferOk (State.alertingToOffers s).offers := by
  unfold State.alertingToOffers; split
  · rename_i n hb
    simpa using hl.keepJob n (OfferEntry.become .noAward) [.offerChange] rfl (by simp [OfferEngine.bidding_some hb]) (by simp [OfferEntry.become, OfferState.claims])
  · exact hl

@[simp] theorem State.emptyAll_offers (ns : List (Fin 16)) {s : State} (hl : OfferOk s.offers) :
    OfferOk (State.emptyAll ns s).offers := by
  induction ns generalizing s with
  | nil => exact hl
  | cons n ns ih => exact ih (State.emptyEntry_offers n [] hl)

@[simp] theorem State.closeOffers_offers {s : State} (hl : OfferOk s.offers) :
    OfferOk (State.closeOffers s).offers := by
  unfold State.closeOffers; dsimp only
  have hk : ∀ {u : State} (n : Fin 16) (cs : List Cause), OfferOk u.offers → OfferOk (u.offers.attach n cs) := by
    intro u n cs h
    refine OfferOk.congr h (fun k => ?_) (fun k => ?_) <;>
      simp only [OfferEngine.attach, OfferEngine.stateOf, OfferEngine.entry_setEntry] <;> split <;> rename_i e <;> simp [e]
  have h0 : ∀ {u : State} (l : List (Fin 16)), u.offers = s.offers → OfferOk (State.emptyAll l u).offers :=
    fun l e => State.emptyAll_offers l (e ▸ hl)
  split
  · refine hk _ _ (h0 _ ?_)
    split <;> simp
  · refine h0 _ ?_
    split <;> simp

@[simp] theorem State.softResetEntry_offers (n : Fin 16) {s : State} (hl : OfferOk s.offers) :
    OfferOk (State.softResetEntry n s).offers := by
  have he : OfferOk (s.offers.setEntry n (s.offers.entry n).softReset) := by
    obtain ⟨h1, h2, h3⟩ := hl
    have hs : ∀ k, (s.offers.setEntry n (s.offers.entry n).softReset).stateOf k ≠ .empty →
        (s.offers.setEntry n (s.offers.entry n).softReset).stateOf k = s.offers.stateOf k ∧
        ((s.offers.setEntry n (s.offers.entry n).softReset).entry k).job = (s.offers.entry k).job := by
      intro k
      simp only [OfferEngine.stateOf, OfferEngine.entry_setEntry]
      by_cases hk : k = n
      · subst hk
        simp only [if_true, OfferEntry.softReset]
        (repeat' split) <;> simp [OfferEntry.emptied, OfferEntry.reset]
      · simp [hk]
    have hc : ∀ o : OfferState, o.claims = true → o ≠ .empty := by intro o; cases o <;> simp [OfferState.claims]
    refine ⟨fun a b x y => ?_, fun a b x y z => ?_, fun a x => ?_⟩
    · rw [(hs a (hc _ x)).1] at x; rw [(hs b (hc _ y)).1] at y; exact h1 a b x y
    · rw [(hs a x).2, (hs b y).2] at z; rw [(hs a x).1] at x; rw [(hs b y).1] at y; exact h2 a b x y z
    · rw [(hs a x).2]; rw [(hs a x).1] at x; exact h3 a x
  unfold State.softResetEntry; split
  · exact he
  · exact he

@[simp] theorem State.softResetOffers_offers {s : State} (hl : OfferOk s.offers) :
    OfferOk (State.softResetOffers s).offers := by
  have : ∀ (l : List (Fin 16)) {s : State}, OfferOk s.offers → OfferOk (l.foldl (fun s n => s.softResetEntry n) s).offers := by
    intro l
    induction l with
    | nil => intro s h; exact h
    | cons n l ih => intro s h; exact ih (State.softResetEntry_offers n h)
  exact this allEntries hl

@[simp] theorem State.openTrip_offers (t : Byte) {s : State} (hl : OfferOk s.offers) :
    OfferOk (State.openTrip t s).offers := by
  unfold State.openTrip; (repeat' split) <;> simp (maxDischargeDepth := 12) [hl]

@[simp] theorem State.takeHire_offers (t : Byte) {s : State} (hl : OfferOk s.offers) :
    OfferOk (State.takeHire t s).offers := by
  unfold State.takeHire; (repeat' split) <;> simp (maxDischargeDepth := 12) [hl]

@[simp] theorem State.alertingHandOn_offers {s : State} (hl : OfferOk s.offers) :
    OfferOk (State.alertingHandOn s).offers := by
  unfold State.alertingHandOn; (repeat' split) <;> simp (maxDischargeDepth := 12) [hl]

@[simp] theorem State.enterAlerting_offers (x : Source) {s : State} (hl : OfferOk s.offers) :
    OfferOk (State.enterAlerting x s).offers := by
  unfold State.enterAlerting; (repeat' split) <;> simp (maxDischargeDepth := 12) [hl]

@[simp] theorem State.holdEnds_offers {s : State} (hl : OfferOk s.offers) :
    OfferOk (State.holdEnds s).offers := by
  unfold State.holdEnds; (repeat' split) <;> simp (maxDischargeDepth := 12) [hl]

@[simp] theorem State.emergencyRaiseWrite_offers (l : Lanes) (d : Word) {s : State} (hl : OfferOk s.offers) :
    OfferOk (State.emergencyRaiseWrite l d s).offers := by
  unfold State.emergencyRaiseWrite; dsimp only; (repeat' split) <;> simp (maxDischargeDepth := 12) [hl]

@[simp] theorem State.recover_offers (j : RecordJudgment) {s : State} (hl : OfferOk s.offers) :
    OfferOk (State.recover j s).offers := by
  unfold State.recover; (repeat' split) <;> simp (maxDischargeDepth := 12) [hl]

@[simp] theorem State.closeShift_offers {s : State} (hl : OfferOk s.offers) :
    OfferOk (State.closeShift s).offers := by
  unfold State.closeShift; (repeat' split) <;> simp (maxDischargeDepth := 12) [hl]

@[simp] theorem State.shiftControl_offers (l : Lanes) (d : Word) {s : State} (hl : OfferOk s.offers) :
    OfferOk (State.shiftControl l d s).offers := by
  unfold State.shiftControl; dsimp only; (repeat' split) <;> simp (maxDischargeDepth := 12) [hl]

@[simp] theorem State.takeWatched_offers (f : Field) (l : Lanes) (d : Word) {s : State} (hl : OfferOk s.offers) :
    OfferOk (State.takeWatched f l d s).offers := by
  unfold State.takeWatched; (repeat' split) <;> simp (maxDischargeDepth := 12) [hl]

@[simp] theorem State.acceptWrite_offers (a : BitVec 19) (l : Lanes) (d : Word) (p : MemoryPath) {s : State} (hl : OfferOk s.offers) :
    OfferOk (State.acceptWrite a l d p s).offers := by
  unfold State.acceptWrite; dsimp only; (repeat' split) <;> simp (maxDischargeDepth := 12) [hl]

theorem State.processorWrite?_offers {a : BitVec 19} {l : Lanes} {d : Word} {s t : State}
    (h : s.processorWrite? a l d = some t) (hl : OfferOk s.offers) : OfferOk t.offers := by
  unfold State.processorWrite? at h; dsimp only at h; split at h
  · simp only [Option.map_eq_some_iff] at h
    obtain ⟨p, -, rfl⟩ := h
    simp (maxDischargeDepth := 12) [hl]
  · cases h; simp (maxDischargeDepth := 12) [hl]

theorem State.attempt_offers {h : HeldCycle} {s t : State} (e : s.attempt h = .done t)
    (hl : OfferOk s.offers) : OfferOk t.offers := by
  unfold State.attempt at e
  split at e
  · split at e
    · rename_i w; cases e; exact State.processorWrite?_offers w hl
    · cases e
  · split at e
    · cases e
    · split at e
      · cases e
      · cases e; simp (maxDischargeDepth := 12) [hl]

@[simp] theorem State.processorCycle_offers (c : BusCycle) {s : State} (hl : OfferOk s.offers) :
    OfferOk (State.processorCycle c s).offers := by
  unfold State.processorCycle; split
  · simp (maxDischargeDepth := 12) [hl]
  · split
    · rename_i e; exact State.attempt_offers e hl
    · simp (maxDischargeDepth := 12) [hl]

@[simp] theorem State.serviceList_offers (hs : List HeldCycle) {s : State} (hl : OfferOk s.offers) :
    OfferOk (State.serviceList hs s).offers := by
  induction hs generalizing s with
  | nil => unfold State.serviceList; simp (maxDischargeDepth := 12) [hl]
  | cons h rest ih =>
    unfold State.serviceList; split
    · simp (maxDischargeDepth := 12) [hl]
    · split
      · rename_i t e; exact ih (State.attempt_offers e hl)
      · simp (maxDischargeDepth := 12) [hl]

@[simp] theorem State.service_offers {s : State} (hl : OfferOk s.offers) :
    OfferOk (State.service s).offers := by
  unfold State.service; (repeat' split) <;> simp (maxDischargeDepth := 12) [hl]

@[simp] theorem State.completeDrain_offers {s : State} (hl : OfferOk s.offers) :
    OfferOk (State.completeDrain s).offers := by
  unfold State.completeDrain; (repeat' split) <;> simp (maxDischargeDepth := 12) [hl]

@[simp] theorem State.handOver_offers (k : OpKind) {s : State} (hl : OfferOk s.offers) :
    OfferOk (State.handOver k s).offers := by
  unfold State.handOver; split
  · refine OfferOk.congr hl (fun k => ?_) (fun k => ?_) <;>
      simp only [OfferEngine.stateOf, OfferEngine.entry_setEntry] <;> split <;> rename_i e <;> simp [e]
  · exact hl
  · exact hl

@[simp] theorem State.startOperation_offers {s : State} (hl : OfferOk s.offers) :
    OfferOk (State.startOperation s).offers := by
  unfold State.startOperation; (repeat' split) <;> simp (maxDischargeDepth := 12) [hl]

@[simp] theorem State.internalCycle_offers {s : State} (hl : OfferOk s.offers) :
    OfferOk (State.internalCycle s).offers := by
  unfold State.internalCycle; split
  · split
    · split
      · rename_i c rest _; cases c <;> simp (maxDischargeDepth := 12) [State.runCycle, hl]
      · exact hl
    · exact hl
  · exact hl

@[simp] theorem State.softReset_offers {s : State} (hl : OfferOk s.offers) :
    OfferOk (State.softReset s).offers := by
  unfold State.softReset; (repeat' split) <;> simp (maxDischargeDepth := 12) [hl]

@[simp] theorem State.powerOn_offers (a : BitVec 4) {s : State} :
    OfferOk (State.powerOn a s).offers := by
  refine State.service_offers ?_
  have h : ∀ n, OfferEngine.reset.stateOf n = .empty := by decide
  simp only [State.reset]
  exact ⟨fun n k x => by simp [h, OfferState.claims] at x, fun n k x => absurd (h n) x, fun n x => absurd (h n) x⟩

@[simp] theorem State.tickTimers_offers {s : State} (hl : OfferOk s.offers) :
    OfferOk (State.tickTimers s).offers := by
  have : ∀ (l : List (Fin 16)) {t : OfferEngine}, OfferOk t →
      OfferOk (l.foldl (fun t n => t.setEntry n { t.entry n with timer := (t.entry n).timer.tick }) t) := by
    intro l
    induction l with
    | nil => intro t h; exact h
    | cons n l ih =>
      intro t h
      refine ih (OfferOk.congr h (fun k => ?_) (fun k => ?_)) <;>
        simp only [OfferEngine.stateOf, OfferEngine.entry_setEntry] <;> split <;> rename_i e <;> simp [e]
  exact this allEntries hl

@[simp] theorem State.second_offers {s : State} (hl : OfferOk s.offers) :
    OfferOk (State.second s).offers := by
  unfold State.second; (repeat' split) <;> simp (maxDischargeDepth := 12) [hl]

@[simp] theorem State.meterMessage_offers (m : MeterMessage) {s : State} (hl : OfferOk s.offers) :
    OfferOk (State.meterMessage m s).offers := by
  unfold State.meterMessage; (repeat' split) <;> simp (maxDischargeDepth := 12) [hl]

@[simp] theorem State.takeMeter_offers (m : MeterMessage) {s : State} (hl : OfferOk s.offers) :
    OfferOk (State.takeMeter m s).offers := by
  unfold State.takeMeter; (repeat' split) <;> simp (maxDischargeDepth := 12) [hl]

@[simp] theorem State.route_offers (d : DownHeader) (b : DownBody) {s : State} (hl : OfferOk s.offers) :
    OfferOk (State.route d b s).offers := by
  unfold State.route; (repeat' split) <;> simp (maxDischargeDepth := 12) [hl]

@[simp] theorem State.receive_offers (d : DownHeader) (b : DownBody) {s : State} (hl : OfferOk s.offers) :
    OfferOk (State.receive d b s).offers := by
  unfold State.receive; (repeat' split) <;> simp (maxDischargeDepth := 12) [hl]

@[simp] theorem State.writeAt_offers (o : Nat) (l : Lanes) (d : Word) {s : State} (hl : OfferOk s.offers) :
    OfferOk (State.writeAt o l d s).offers := by
  unfold State.writeAt; (repeat' split) <;> simp (maxDischargeDepth := 12) [hl]

@[simp] theorem State.readAt_offers (o : Nat) (l : Lanes) {s : State} (hl : OfferOk s.offers) :
    OfferOk (State.readAt o l s).offers := by
  unfold State.readAt; (repeat' split) <;> simp (maxDischargeDepth := 12) [hl]

@[simp] theorem State.complete_offers (k : OpKind) {owner : UnderWay → State → State} {s : State}
    (ho : ∀ u t, OfferOk t.offers → OfferOk (owner u t).offers)
    (hl : OfferOk s.offers) :
    OfferOk (State.complete k owner s).offers := by
  unfold State.complete; split
  · exact State.service_offers (ho _ _ (by simp (maxDischargeDepth := 12) [hl]))
  · exact hl

end Sys2Proof.Machine
end

