-- ==== Sys2Proof/Laws/Shift.lean ====
section
/-! SUPPORT. The shift law (R1, R2) is kept by the operations that a command is made of. -/

namespace Sys2Proof.Machine

/-- The shift law (R1, R2) on the values it speaks of. -/
def ShiftOk (status : CabStatus) (trip : Option OpenTrip) (shiftOpen : Bool) (driverId : Word) (meterOpened : Bool) : Prop :=
  (status = .hired ↔ trip.isSome = true) ∧ (status = .offDuty ↔ shiftOpen = false) ∧
    (trip.isSome = true → shiftOpen = true) ∧ (shiftOpen = false → driverId = 0#16 ∧ meterOpened = false)

theorem State.shiftLaw_iff
    (s : State) : s.shiftLaw ↔ ShiftOk s.status.status s.trips.trip s.status.shiftOpen s.status.driverId s.status.meterOpened := Iff.rfl

/-- A status request is TAKEN only as R6 says. -/
theorem State.statusOutcome_taken {w : Word} {s : State} (h : s.statusOutcome w = .taken) :
    (w = codeBreak ∧ s.status.shiftOpen = true ∧ s.status.status = .free) ∨
      (w = codeFree ∧ s.status.shiftOpen = true ∧ s.status.status = .onBreak) := by
  unfold State.statusOutcome at h
  (repeat' split at h) <;> simp_all

/-- A shift-control request is TAKEN only as R7 says. -/
theorem State.shiftOutcome_taken {w : Word} {s : State} (h : s.shiftOutcome w = .taken) :
    (w = codeClose ∧ s.status.shiftOpen = true ∧ s.emerg.state = .clear ∧ s.trips.trip = none) ∨
      (w = codeCloseTrip ∧ s.status.shiftOpen = true ∧ ∃ t, s.trips.trip = some t ∧ t.flags.meterFault = true) := by
  unfold State.shiftOutcome at h
  (repeat' split at h) <;> simp_all [Option.any_eq_true]


@[simp] theorem State.becameAwarded_shift {s : State} {v_trips_trip} (ev_trips_trip : s.trips.trip = v_trips_trip) {v_status_shiftOpen}
    (ev_status_shiftOpen : s.status.shiftOpen = v_status_shiftOpen) {v_status_driverId}
    (ev_status_driverId : s.status.driverId = v_status_driverId) {v_status_meterOpened}
    (ev_status_meterOpened : s.status.meterOpened = v_status_meterOpened)
    (hl : ShiftOk s.status.status s.trips.trip s.status.shiftOpen s.status.driverId s.status.meterOpened) :
    ShiftOk (State.becameAwarded s).status.status v_trips_trip v_status_shiftOpen v_status_driverId v_status_meterOpened := by
  subst ev_trips_trip; subst ev_status_shiftOpen; subst ev_status_driverId; subst ev_status_meterOpened;
  unfold State.becameAwarded; (repeat' split) <;> simp_all (maxDischargeDepth := 12) [ShiftOk, State.setStatus]

@[simp] theorem State.leftAwarded_shift {s : State} {v_trips_trip} (ev_trips_trip : s.trips.trip = v_trips_trip) {v_status_shiftOpen}
    (ev_status_shiftOpen : s.status.shiftOpen = v_status_shiftOpen) {v_status_driverId}
    (ev_status_driverId : s.status.driverId = v_status_driverId) {v_status_meterOpened}
    (ev_status_meterOpened : s.status.meterOpened = v_status_meterOpened)
    (hl : ShiftOk s.status.status s.trips.trip s.status.shiftOpen s.status.driverId s.status.meterOpened) :
    ShiftOk (State.leftAwarded s).status.status v_trips_trip v_status_shiftOpen v_status_driverId v_status_meterOpened := by
  subst ev_trips_trip; subst ev_status_shiftOpen; subst ev_status_driverId; subst ev_status_meterOpened;
  unfold State.leftAwarded; (repeat' split) <;> simp_all (maxDischargeDepth := 12) [ShiftOk, State.setStatus]

@[simp] theorem State.takeResponse_shift (n : Fin 16) (l : Lanes) (d : Word) {s : State} {v_trips_trip}
    (ev_trips_trip : s.trips.trip = v_trips_trip) {v_status_shiftOpen} (ev_status_shiftOpen : s.status.shiftOpen = v_status_shiftOpen)
    {v_status_driverId} (ev_status_driverId : s.status.driverId = v_status_driverId) {v_status_meterOpened}
    (ev_status_meterOpened : s.status.meterOpened = v_status_meterOpened)
    (hl : ShiftOk s.status.status s.trips.trip s.status.shiftOpen s.status.driverId s.status.meterOpened) :
    ShiftOk (State.takeResponse n l d s).status.status v_trips_trip v_status_shiftOpen v_status_driverId v_status_meterOpened := by
  subst ev_trips_trip; subst ev_status_shiftOpen; subst ev_status_driverId; subst ev_status_meterOpened;
  unfold State.takeResponse; dsimp only; (repeat' split) <;> simp (maxDischargeDepth := 12) [hl]

@[simp] theorem State.awardNoEntry_shift (b : OfferBody) {s : State} {v_trips_trip} (ev_trips_trip : s.trips.trip = v_trips_trip)
    {v_status_shiftOpen} (ev_status_shiftOpen : s.status.shiftOpen = v_status_shiftOpen) {v_status_driverId}
    (ev_status_driverId : s.status.driverId = v_status_driverId) {v_status_meterOpened}
    (ev_status_meterOpened : s.status.meterOpened = v_status_meterOpened)
    (hl : ShiftOk s.status.status s.trips.trip s.status.shiftOpen s.status.driverId s.status.meterOpened) :
    ShiftOk (State.awardNoEntry b s).status.status v_trips_trip v_status_shiftOpen v_status_driverId v_status_meterOpened := by
  subst ev_trips_trip; subst ev_status_shiftOpen; subst ev_status_driverId; subst ev_status_meterOpened;
  unfold State.awardNoEntry; (repeat' split) <;> simp (maxDischargeDepth := 12) [hl]

@[simp] theorem State.takeAward_shift (b : OfferBody) {s : State} {v_trips_trip} (ev_trips_trip : s.trips.trip = v_trips_trip)
    {v_status_shiftOpen} (ev_status_shiftOpen : s.status.shiftOpen = v_status_shiftOpen) {v_status_driverId}
    (ev_status_driverId : s.status.driverId = v_status_driverId) {v_status_meterOpened}
    (ev_status_meterOpened : s.status.meterOpened = v_status_meterOpened)
    (hl : ShiftOk s.status.status s.trips.trip s.status.shiftOpen s.status.driverId s.status.meterOpened) :
    ShiftOk (State.takeAward b s).status.status v_trips_trip v_status_shiftOpen v_status_driverId v_status_meterOpened := by
  subst ev_trips_trip; subst ev_status_shiftOpen; subst ev_status_driverId; subst ev_status_meterOpened;
  unfold State.takeAward; (repeat' split) <;> simp (maxDischargeDepth := 12) [hl]

@[simp] theorem State.takeWithdraw_shift (j : DWord) {s : State} {v_trips_trip} (ev_trips_trip : s.trips.trip = v_trips_trip)
    {v_status_shiftOpen} (ev_status_shiftOpen : s.status.shiftOpen = v_status_shiftOpen) {v_status_driverId}
    (ev_status_driverId : s.status.driverId = v_status_driverId) {v_status_meterOpened}
    (ev_status_meterOpened : s.status.meterOpened = v_status_meterOpened)
    (hl : ShiftOk s.status.status s.trips.trip s.status.shiftOpen s.status.driverId s.status.meterOpened) :
    ShiftOk (State.takeWithdraw j s).status.status v_trips_trip v_status_shiftOpen v_status_driverId v_status_meterOpened := by
  subst ev_trips_trip; subst ev_status_shiftOpen; subst ev_status_driverId; subst ev_status_meterOpened;
  unfold State.takeWithdraw; dsimp only; (repeat' split) <;> simp (maxDischargeDepth := 12) [hl]

@[simp] theorem State.changeTrip_shift (f : OpenTrip → OpenTrip) {s : State} {v_status_status}
    (ev_status_status : s.status.status = v_status_status) {v_status_shiftOpen}
    (ev_status_shiftOpen : s.status.shiftOpen = v_status_shiftOpen) {v_status_driverId}
    (ev_status_driverId : s.status.driverId = v_status_driverId) {v_status_meterOpened}
    (ev_status_meterOpened : s.status.meterOpened = v_status_meterOpened)
    (hl : ShiftOk s.status.status s.trips.trip s.status.shiftOpen s.status.driverId s.status.meterOpened) :
    ShiftOk v_status_status (State.changeTrip f s).trips.trip v_status_shiftOpen v_status_driverId v_status_meterOpened := by
  subst ev_status_status; subst ev_status_shiftOpen; subst ev_status_driverId; subst ev_status_meterOpened;
  simpa [ShiftOk, State.changeTrip] using hl

@[simp] theorem State.markTripEmergency_shift {s : State} {v_status_status} (ev_status_status : s.status.status = v_status_status)
    {v_status_shiftOpen} (ev_status_shiftOpen : s.status.shiftOpen = v_status_shiftOpen) {v_status_driverId}
    (ev_status_driverId : s.status.driverId = v_status_driverId) {v_status_meterOpened}
    (ev_status_meterOpened : s.status.meterOpened = v_status_meterOpened)
    (hl : ShiftOk s.status.status s.trips.trip s.status.shiftOpen s.status.driverId s.status.meterOpened) :
    ShiftOk v_status_status (State.markTripEmergency s).trips.trip v_status_shiftOpen v_status_driverId v_status_meterOpened := by
  subst ev_status_status; subst ev_status_shiftOpen; subst ev_status_driverId; subst ev_status_meterOpened;
  unfold State.markTripEmergency; (repeat' split) <;> simp (maxDischargeDepth := 12) [hl]

@[simp] theorem State.openTrip_shift (t : Byte) {s : State} {v_status_shiftOpen}
    (ev_status_shiftOpen : s.status.shiftOpen = v_status_shiftOpen) {v_status_driverId}
    (ev_status_driverId : s.status.driverId = v_status_driverId) {v_status_meterOpened}
    (ev_status_meterOpened : s.status.meterOpened = v_status_meterOpened) (ho : s.status.shiftOpen = true) :
    ShiftOk (State.openTrip t s).status.status
          (State.openTrip t s).trips.trip v_status_shiftOpen v_status_driverId v_status_meterOpened := by
  subst ev_status_shiftOpen; subst ev_status_driverId; subst ev_status_meterOpened;
  simp [State.openTrip, State.setStatus, ShiftOk, ho]

@[simp] theorem State.closeTrip_shift (e : TripEnd) {s : State} {v_status_shiftOpen}
    (ev_status_shiftOpen : s.status.shiftOpen = v_status_shiftOpen) {v_status_driverId}
    (ev_status_driverId : s.status.driverId = v_status_driverId) {v_status_meterOpened}
    (ev_status_meterOpened : s.status.meterOpened = v_status_meterOpened)
    (hl : ShiftOk s.status.status s.trips.trip s.status.shiftOpen s.status.driverId s.status.meterOpened) (he : e.interrupted = false) :
    ShiftOk (State.closeTrip e s).status.status
          (State.closeTrip e s).trips.trip v_status_shiftOpen v_status_driverId v_status_meterOpened := by
  subst ev_status_shiftOpen; subst ev_status_driverId; subst ev_status_meterOpened;
  unfold State.closeTrip; split
  · rename_i t ht
    have hs : s.status.status = .hired := hl.1.2 (by simp [ht])
    have ho := hl.2.2.1 (by simp [ht])
    simp only [State.statusAfterTrip]
    simp (maxDischargeDepth := 12) [he, hs, ho, ShiftOk, State.setStatus]
    split <;> simp
  · exact hl

@[simp] theorem State.takeHire_shift (t : Byte) {s : State}
    (hl : ShiftOk s.status.status s.trips.trip s.status.shiftOpen s.status.driverId s.status.meterOpened) :
    ShiftOk (State.takeHire t s).status.status (State.takeHire t s).trips.trip (State.takeHire t s).status.shiftOpen
          (State.takeHire t s).status.driverId (State.takeHire t s).status.meterOpened := by
  unfold State.takeHire; split
  · rename_i h
    have := hl.2.2.1 h
    simp (maxDischargeDepth := 12) [this]
  · split
    · simp (maxDischargeDepth := 12) [*]
    · simp (maxDischargeDepth := 12) [State.openShift]

@[simp] theorem State.takeStep_shift (c : Byte) (a : Word) {s : State} {v_status_status}
    (ev_status_status : s.status.status = v_status_status) {v_status_shiftOpen}
    (ev_status_shiftOpen : s.status.shiftOpen = v_status_shiftOpen) {v_status_driverId}
    (ev_status_driverId : s.status.driverId = v_status_driverId) {v_status_meterOpened}
    (ev_status_meterOpened : s.status.meterOpened = v_status_meterOpened)
    (hl : ShiftOk s.status.status s.trips.trip s.status.shiftOpen s.status.driverId s.status.meterOpened) :
    ShiftOk v_status_status (State.takeStep c a s).trips.trip v_status_shiftOpen v_status_driverId v_status_meterOpened := by
  subst ev_status_status; subst ev_status_shiftOpen; subst ev_status_driverId; subst ev_status_meterOpened;
  unfold State.takeStep; (repeat' split) <;> simp (maxDischargeDepth := 12) [hl]

@[simp] theorem State.takeTariff_shift (t : Byte) {s : State} {v_status_status} (ev_status_status : s.status.status = v_status_status)
    {v_status_shiftOpen} (ev_status_shiftOpen : s.status.shiftOpen = v_status_shiftOpen) {v_status_driverId}
    (ev_status_driverId : s.status.driverId = v_status_driverId) {v_status_meterOpened}
    (ev_status_meterOpened : s.status.meterOpened = v_status_meterOpened)
    (hl : ShiftOk s.status.status s.trips.trip s.status.shiftOpen s.status.driverId s.status.meterOpened) :
    ShiftOk v_status_status (State.takeTariff t s).trips.trip v_status_shiftOpen v_status_driverId v_status_meterOpened := by
  subst ev_status_status; subst ev_status_shiftOpen; subst ev_status_driverId; subst ev_status_meterOpened;
  unfold State.takeTariff; (repeat' split) <;> simp (maxDischargeDepth := 12) [hl]

@[simp] theorem State.takeStop_shift (f : DWord) {s : State} {v_status_shiftOpen}
    (ev_status_shiftOpen : s.status.shiftOpen = v_status_shiftOpen) {v_status_driverId}
    (ev_status_driverId : s.status.driverId = v_status_driverId) {v_status_meterOpened}
    (ev_status_meterOpened : s.status.meterOpened = v_status_meterOpened)
    (hl : ShiftOk s.status.status s.trips.trip s.status.shiftOpen s.status.driverId s.status.meterOpened) :
    ShiftOk (State.takeStop f s).status.status
          (State.takeStop f s).trips.trip v_status_shiftOpen v_status_driverId v_status_meterOpened := by
  subst ev_status_shiftOpen; subst ev_status_driverId; subst ev_status_meterOpened;
  unfold State.takeStop; (repeat' split) <;> simp (maxDischargeDepth := 12) [hl]

@[simp] theorem State.takeFault_shift (c : Byte) {s : State} {v_status_status} (ev_status_status : s.status.status = v_status_status)
    {v_status_shiftOpen} (ev_status_shiftOpen : s.status.shiftOpen = v_status_shiftOpen) {v_status_driverId}
    (ev_status_driverId : s.status.driverId = v_status_driverId) {v_status_meterOpened}
    (ev_status_meterOpened : s.status.meterOpened = v_status_meterOpened)
    (hl : ShiftOk s.status.status s.trips.trip s.status.shiftOpen s.status.driverId s.status.meterOpened) :
    ShiftOk v_status_status (State.takeFault c s).trips.trip v_status_shiftOpen v_status_driverId v_status_meterOpened := by
  subst ev_status_status; subst ev_status_shiftOpen; subst ev_status_driverId; subst ev_status_meterOpened;
  unfold State.takeFault; (repeat' split) <;> simp (maxDischargeDepth := 12) [hl]

@[simp] theorem State.silenceEnds_shift {s : State} {v_status_status} (ev_status_status : s.status.status = v_status_status)
    {v_status_shiftOpen} (ev_status_shiftOpen : s.status.shiftOpen = v_status_shiftOpen) {v_status_driverId}
    (ev_status_driverId : s.status.driverId = v_status_driverId) {v_status_meterOpened}
    (ev_status_meterOpened : s.status.meterOpened = v_status_meterOpened)
    (hl : ShiftOk s.status.status s.trips.trip s.status.shiftOpen s.status.driverId s.status.meterOpened) :
    ShiftOk v_status_status (State.silenceEnds s).trips.trip v_status_shiftOpen v_status_driverId v_status_meterOpened := by
  subst ev_status_status; subst ev_status_shiftOpen; subst ev_status_driverId; subst ev_status_meterOpened;
  unfold State.silenceEnds; (repeat' split) <;> simp (maxDischargeDepth := 12) [hl]

@[simp] theorem State.forceClose_shift {s : State} {v_status_shiftOpen} (ev_status_shiftOpen : s.status.shiftOpen = v_status_shiftOpen)
    {v_status_driverId} (ev_status_driverId : s.status.driverId = v_status_driverId) {v_status_meterOpened}
    (ev_status_meterOpened : s.status.meterOpened = v_status_meterOpened)
    (hl : ShiftOk s.status.status s.trips.trip s.status.shiftOpen s.status.driverId s.status.meterOpened) :
    ShiftOk (State.forceClose s).status.status
          (State.forceClose s).trips.trip v_status_shiftOpen v_status_driverId v_status_meterOpened := by
  subst ev_status_shiftOpen; subst ev_status_driverId; subst ev_status_meterOpened;
  unfold State.forceClose; (repeat' split) <;> simp (maxDischargeDepth := 12) [hl]

@[simp] theorem State.enterAlerting_shift (x : Source) {s : State} {v_status_status} (ev_status_status : s.status.status = v_status_status)
    {v_status_shiftOpen} (ev_status_shiftOpen : s.status.shiftOpen = v_status_shiftOpen) {v_status_driverId}
    (ev_status_driverId : s.status.driverId = v_status_driverId) {v_status_meterOpened}
    (ev_status_meterOpened : s.status.meterOpened = v_status_meterOpened)
    (hl : ShiftOk s.status.status s.trips.trip s.status.shiftOpen s.status.driverId s.status.meterOpened) :
    ShiftOk v_status_status (State.enterAlerting x s).trips.trip v_status_shiftOpen v_status_driverId v_status_meterOpened := by
  subst ev_status_status; subst ev_status_shiftOpen; subst ev_status_driverId; subst ev_status_meterOpened;
  unfold State.enterAlerting; (repeat' split) <;> simp (maxDischargeDepth := 12) [hl]

@[simp] theorem State.takeClosing_shift {s : State} {v_status_status} (ev_status_status : s.status.status = v_status_status)
    {v_status_shiftOpen} (ev_status_shiftOpen : s.status.shiftOpen = v_status_shiftOpen) {v_status_driverId}
    (ev_status_driverId : s.status.driverId = v_status_driverId) {v_status_meterOpened}
    (ev_status_meterOpened : s.status.meterOpened = v_status_meterOpened)
    (hl : ShiftOk s.status.status s.trips.trip s.status.shiftOpen s.status.driverId s.status.meterOpened) :
    ShiftOk v_status_status (State.takeClosing s).trips.trip v_status_shiftOpen v_status_driverId v_status_meterOpened := by
  subst ev_status_status; subst ev_status_shiftOpen; subst ev_status_driverId; subst ev_status_meterOpened;
  unfold State.takeClosing; dsimp only; (repeat' split) <;> simp (maxDischargeDepth := 12) [hl]

@[simp] theorem State.holdEnds_shift {s : State} {v_status_status} (ev_status_status : s.status.status = v_status_status)
    {v_status_shiftOpen} (ev_status_shiftOpen : s.status.shiftOpen = v_status_shiftOpen) {v_status_driverId}
    (ev_status_driverId : s.status.driverId = v_status_driverId) {v_status_meterOpened}
    (ev_status_meterOpened : s.status.meterOpened = v_status_meterOpened)
    (hl : ShiftOk s.status.status s.trips.trip s.status.shiftOpen s.status.driverId s.status.meterOpened) :
    ShiftOk v_status_status (State.holdEnds s).trips.trip v_status_shiftOpen v_status_driverId v_status_meterOpened := by
  subst ev_status_status; subst ev_status_shiftOpen; subst ev_status_driverId; subst ev_status_meterOpened;
  unfold State.holdEnds; (repeat' split) <;> simp (maxDischargeDepth := 12) [hl]

@[simp] theorem State.emergencyRaiseWrite_shift (l : Lanes) (d : Word) {s : State} {v_status_status}
    (ev_status_status : s.status.status = v_status_status) {v_status_shiftOpen}
    (ev_status_shiftOpen : s.status.shiftOpen = v_status_shiftOpen) {v_status_driverId}
    (ev_status_driverId : s.status.driverId = v_status_driverId) {v_status_meterOpened}
    (ev_status_meterOpened : s.status.meterOpened = v_status_meterOpened)
    (hl : ShiftOk s.status.status s.trips.trip s.status.shiftOpen s.status.driverId s.status.meterOpened) :
    ShiftOk v_status_status (State.emergencyRaiseWrite l d s).trips.trip v_status_shiftOpen v_status_driverId v_status_meterOpened := by
  subst ev_status_status; subst ev_status_shiftOpen; subst ev_status_driverId; subst ev_status_meterOpened;
  unfold State.emergencyRaiseWrite; dsimp only; (repeat' split) <;> simp (maxDischargeDepth := 12) [hl]

@[simp] theorem State.driverWrite_shift (l : Lanes) (d : Word) {s : State} {v_trips_trip} (ev_trips_trip : s.trips.trip = v_trips_trip)
    (hl : ShiftOk s.status.status s.trips.trip s.status.shiftOpen s.status.driverId s.status.meterOpened) :
    ShiftOk (State.driverWrite l d s).status.status v_trips_trip (State.driverWrite l d s).status.shiftOpen
          (State.driverWrite l d s).status.driverId (State.driverWrite l d s).status.meterOpened := by
  subst ev_trips_trip;
  unfold State.driverWrite State.attachDriver; dsimp only
  split
  · simpa using hl
  · split
    · rename_i h
      have := hl.2.1
      simp_all [ShiftOk]
    · have h1 := hl.1
      have h2 := hl.2.1
      have h3 := hl.2.2.1
      simp_all [ShiftOk, State.setStatus, State.openShift]

@[simp] theorem State.statusRequest_shift (l : Lanes) (d : Word) {s : State} {v_trips_trip} (ev_trips_trip : s.trips.trip = v_trips_trip)
    {v_status_shiftOpen} (ev_status_shiftOpen : s.status.shiftOpen = v_status_shiftOpen) {v_status_driverId}
    (ev_status_driverId : s.status.driverId = v_status_driverId) {v_status_meterOpened}
    (ev_status_meterOpened : s.status.meterOpened = v_status_meterOpened)
    (hl : ShiftOk s.status.status s.trips.trip s.status.shiftOpen s.status.driverId s.status.meterOpened) :
    ShiftOk (State.statusRequest l d s).status.status v_trips_trip v_status_shiftOpen v_status_driverId v_status_meterOpened := by
  subst ev_trips_trip; subst ev_status_shiftOpen; subst ev_status_driverId; subst ev_status_meterOpened;
  unfold State.statusRequest; dsimp only; split
  · rename_i h
    rcases State.statusOutcome_taken h with ⟨w, h1, h2⟩ | ⟨w, h1, h2⟩ <;> simp_all [ShiftOk, State.setStatus, codeBreak, codeFree]
  · simpa using hl

@[simp] theorem State.closeShift_shift {s : State} {v_trips_trip} (ev_trips_trip : s.trips.trip = v_trips_trip) (ht : s.trips.trip = none) :
    ShiftOk (State.closeShift s).status.status v_trips_trip (State.closeShift s).status.shiftOpen (State.closeShift s).status.driverId
          (State.closeShift s).status.meterOpened := by
  subst ev_trips_trip;
  simp [State.closeShift, ShiftOk, ht]

@[simp] theorem State.shiftControl_shift (l : Lanes) (d : Word) {s : State}
    (hl : ShiftOk s.status.status s.trips.trip s.status.shiftOpen s.status.driverId s.status.meterOpened) :
    ShiftOk (State.shiftControl l d s).status.status (State.shiftControl l d s).trips.trip (State.shiftControl l d s).status.shiftOpen
          (State.shiftControl l d s).status.driverId (State.shiftControl l d s).status.meterOpened := by
  unfold State.shiftControl; dsimp only; split
  · rename_i h
    rcases State.shiftOutcome_taken h with ⟨w, h1⟩ | ⟨w, h1⟩ <;> simp
          (maxDischargeDepth := 12) [w, hl, codeClose, codeCloseTrip] <;> simp_all
  · simpa using hl

@[simp] theorem State.takeWatched_shift (f : Field) (l : Lanes) (d : Word) {s : State}
    (hl : ShiftOk s.status.status s.trips.trip s.status.shiftOpen s.status.driverId s.status.meterOpened) :
    ShiftOk (State.takeWatched f l d s).status.status (State.takeWatched f l d s).trips.trip (State.takeWatched f l d s).status.shiftOpen
          (State.takeWatched f l d s).status.driverId (State.takeWatched f l d s).status.meterOpened := by
  unfold State.takeWatched; (repeat' split) <;> simp (maxDischargeDepth := 12) [hl]

@[simp] theorem State.acceptWrite_shift (a : BitVec 19) (l : Lanes) (d : Word) (p : MemoryPath) {s : State}
    (hl : ShiftOk s.status.status s.trips.trip s.status.shiftOpen s.status.driverId s.status.meterOpened) :
    ShiftOk (State.acceptWrite a l d p s).status.status (State.acceptWrite a l d p s).trips.trip
          (State.acceptWrite a l d p s).status.shiftOpen (State.acceptWrite a l d p s).status.driverId
          (State.acceptWrite a l d p s).status.meterOpened := by
  unfold State.acceptWrite; dsimp only; (repeat' split) <;> simp (maxDischargeDepth := 12) [hl]

@[simp] theorem State.answerRead_shift (a : BitVec 19) (l : Lanes) {s : State} {v_status_status}
    (ev_status_status : s.status.status = v_status_status) {v_status_shiftOpen}
    (ev_status_shiftOpen : s.status.shiftOpen = v_status_shiftOpen) {v_status_driverId}
    (ev_status_driverId : s.status.driverId = v_status_driverId) {v_status_meterOpened}
    (ev_status_meterOpened : s.status.meterOpened = v_status_meterOpened)
    (hl : ShiftOk s.status.status s.trips.trip s.status.shiftOpen s.status.driverId s.status.meterOpened) :
    ShiftOk v_status_status (State.answerRead a l s).trips.trip v_status_shiftOpen v_status_driverId v_status_meterOpened := by
  subst ev_status_status; subst ev_status_shiftOpen; subst ev_status_driverId; subst ev_status_meterOpened;
  unfold State.answerRead; dsimp only; (repeat' split) <;> simp (maxDischargeDepth := 12) [hl]

theorem State.processorWrite?_shift {a : BitVec 19} {l : Lanes} {d : Word} {s t : State}
    (h : s.processorWrite? a l d = some t)
          (hl : ShiftOk s.status.status s.trips.trip s.status.shiftOpen s.status.driverId s.status.meterOpened) : ShiftOk t.status.status t.trips.trip t.status.shiftOpen t.status.driverId t.status.meterOpened := by
  unfold State.processorWrite? at h; dsimp only at h; split at h
  · simp only [Option.map_eq_some_iff] at h
    obtain ⟨p, -, rfl⟩ := h
    simp (maxDischargeDepth := 12) [hl]
  · cases h; simp (maxDischargeDepth := 12) [hl]

theorem State.attempt_shift {h : HeldCycle} {s t : State} (e : s.attempt h = .done t)
    (hl : ShiftOk s.status.status s.trips.trip s.status.shiftOpen s.status.driverId s.status.meterOpened) : ShiftOk t.status.status t.trips.trip t.status.shiftOpen t.status.driverId t.status.meterOpened := by
  unfold State.attempt at e
  split at e
  · split at e
    · rename_i w; cases e; exact State.processorWrite?_shift w hl
    · cases e
  · split at e
    · cases e
    · split at e
      · cases e
      · cases e; simp (maxDischargeDepth := 12) [hl]

@[simp] theorem State.processorCycle_shift (c : BusCycle) {s : State}
    (hl : ShiftOk s.status.status s.trips.trip s.status.shiftOpen s.status.driverId s.status.meterOpened) :
    ShiftOk (State.processorCycle c s).status.status (State.processorCycle c s).trips.trip (State.processorCycle c s).status.shiftOpen
          (State.processorCycle c s).status.driverId (State.processorCycle c s).status.meterOpened := by
  unfold State.processorCycle; split
  · simp (maxDischargeDepth := 12) [hl]
  · split
    · rename_i e; exact State.attempt_shift e hl
    · simp (maxDischargeDepth := 12) [hl]

@[simp] theorem State.serviceList_shift (hs : List HeldCycle) {s : State}
    (hl : ShiftOk s.status.status s.trips.trip s.status.shiftOpen s.status.driverId s.status.meterOpened) :
    ShiftOk (State.serviceList hs s).status.status (State.serviceList hs s).trips.trip (State.serviceList hs s).status.shiftOpen
          (State.serviceList hs s).status.driverId (State.serviceList hs s).status.meterOpened := by
  induction hs generalizing s with
  | nil => unfold State.serviceList; simp (maxDischargeDepth := 12) [hl]
  | cons h rest ih =>
    unfold State.serviceList; split
    · simp (maxDischargeDepth := 12) [hl]
    · split
      · rename_i t e; exact ih (State.attempt_shift e hl)
      · simp (maxDischargeDepth := 12) [hl]

@[simp] theorem State.service_shift {s : State}
    (hl : ShiftOk s.status.status s.trips.trip s.status.shiftOpen s.status.driverId s.status.meterOpened) :
    ShiftOk (State.service s).status.status (State.service s).trips.trip (State.service s).status.shiftOpen
          (State.service s).status.driverId (State.service s).status.meterOpened := by
  unfold State.service; (repeat' split) <;> simp (maxDischargeDepth := 12) [hl]

@[simp] theorem State.completeDrain_shift {s : State}
    (hl : ShiftOk s.status.status s.trips.trip s.status.shiftOpen s.status.driverId s.status.meterOpened) :
    ShiftOk (State.completeDrain s).status.status (State.completeDrain s).trips.trip (State.completeDrain s).status.shiftOpen
          (State.completeDrain s).status.driverId (State.completeDrain s).status.meterOpened := by
  unfold State.completeDrain; (repeat' split) <;> simp (maxDischargeDepth := 12) [hl]

@[simp] theorem State.internalCycle_shift {s : State}
    (hl : ShiftOk s.status.status s.trips.trip s.status.shiftOpen s.status.driverId s.status.meterOpened) :
    ShiftOk (State.internalCycle s).status.status (State.internalCycle s).trips.trip (State.internalCycle s).status.shiftOpen
          (State.internalCycle s).status.driverId (State.internalCycle s).status.meterOpened := by
  unfold State.internalCycle; split
  · split
    · split
      · rename_i c rest _; cases c <;> simp (maxDischargeDepth := 12) [State.runCycle, hl]
      · exact hl
    · exact hl
  · exact hl

@[simp] theorem State.becomeReady_shift {s : State} {v_status_status} (ev_status_status : s.status.status = v_status_status)
    {v_status_shiftOpen} (ev_status_shiftOpen : s.status.shiftOpen = v_status_shiftOpen) {v_status_driverId}
    (ev_status_driverId : s.status.driverId = v_status_driverId) {v_status_meterOpened}
    (ev_status_meterOpened : s.status.meterOpened = v_status_meterOpened)
    (hl : ShiftOk s.status.status s.trips.trip s.status.shiftOpen s.status.driverId s.status.meterOpened) :
    ShiftOk v_status_status (State.becomeReady s).trips.trip v_status_shiftOpen v_status_driverId v_status_meterOpened := by
  subst ev_status_status; subst ev_status_shiftOpen; subst ev_status_driverId; subst ev_status_meterOpened;
  unfold State.becomeReady; dsimp only; (repeat' split) <;> simp (maxDischargeDepth := 12) [hl]

@[simp] theorem State.softResetStatus_shift {s : State} {v_trips_trip} (ev_trips_trip : s.trips.trip = v_trips_trip) {v_status_shiftOpen}
    (ev_status_shiftOpen : s.status.shiftOpen = v_status_shiftOpen) {v_status_driverId}
    (ev_status_driverId : s.status.driverId = v_status_driverId) {v_status_meterOpened}
    (ev_status_meterOpened : s.status.meterOpened = v_status_meterOpened)
    (hl : ShiftOk s.status.status s.trips.trip s.status.shiftOpen s.status.driverId s.status.meterOpened) :
    ShiftOk (State.softResetStatus s).status.status v_trips_trip v_status_shiftOpen v_status_driverId v_status_meterOpened := by
  subst ev_trips_trip; subst ev_status_shiftOpen; subst ev_status_driverId; subst ev_status_meterOpened;
  unfold State.softResetStatus State.recomputedStatus
  obtain ⟨h1, h2, h3, h4⟩ := hl
  cases hs : s.status.shiftOpen <;> cases ht : s.trips.trip <;> simp_all [ShiftOk]
  split <;> simp

@[simp] theorem State.softReset_shift {s : State}
    (hl : ShiftOk s.status.status s.trips.trip s.status.shiftOpen s.status.driverId s.status.meterOpened) :
    ShiftOk (State.softReset s).status.status (State.softReset s).trips.trip (State.softReset s).status.shiftOpen
          (State.softReset s).status.driverId (State.softReset s).status.meterOpened := by
  unfold State.softReset; (repeat' split) <;> simp (maxDischargeDepth := 12) [hl]

@[simp] theorem State.powerOn_shift (a : BitVec 4) {s : State} :
    ShiftOk (State.powerOn a s).status.status (State.powerOn a s).trips.trip (State.powerOn a s).status.shiftOpen
          (State.powerOn a s).status.driverId (State.powerOn a s).status.meterOpened := by
  refine State.service_shift ?_
  simp [ShiftOk, State.reset, StatusUnit.reset, TripEngine.reset]

@[simp] theorem State.meterMessage_shift (m : MeterMessage) {s : State}
    (hl : ShiftOk s.status.status s.trips.trip s.status.shiftOpen s.status.driverId s.status.meterOpened) :
    ShiftOk (State.meterMessage m s).status.status (State.meterMessage m s).trips.trip (State.meterMessage m s).status.shiftOpen
          (State.meterMessage m s).status.driverId (State.meterMessage m s).status.meterOpened := by
  unfold State.meterMessage; (repeat' split) <;> simp (maxDischargeDepth := 12) [hl]

@[simp] theorem State.takeMeter_shift (m : MeterMessage) {s : State}
    (hl : ShiftOk s.status.status s.trips.trip s.status.shiftOpen s.status.driverId s.status.meterOpened) :
    ShiftOk (State.takeMeter m s).status.status (State.takeMeter m s).trips.trip (State.takeMeter m s).status.shiftOpen
          (State.takeMeter m s).status.driverId (State.takeMeter m s).status.meterOpened := by
  unfold State.takeMeter; (repeat' split) <;> simp (maxDischargeDepth := 12) [hl]

@[simp] theorem State.route_shift (d : DownHeader) (b : DownBody) {s : State}
    (hl : ShiftOk s.status.status s.trips.trip s.status.shiftOpen s.status.driverId s.status.meterOpened) :
    ShiftOk (State.route d b s).status.status (State.route d b s).trips.trip (State.route d b s).status.shiftOpen
          (State.route d b s).status.driverId (State.route d b s).status.meterOpened := by
  unfold State.route; (repeat' split) <;> simp (maxDischargeDepth := 12) [hl]

@[simp] theorem State.receive_shift (d : DownHeader) (b : DownBody) {s : State}
    (hl : ShiftOk s.status.status s.trips.trip s.status.shiftOpen s.status.driverId s.status.meterOpened) :
    ShiftOk (State.receive d b s).status.status (State.receive d b s).trips.trip (State.receive d b s).status.shiftOpen
          (State.receive d b s).status.driverId (State.receive d b s).status.meterOpened := by
  unfold State.receive; (repeat' split) <;> simp (maxDischargeDepth := 12) [hl]

@[simp] theorem State.writeAt_shift (o : Nat) (l : Lanes) (d : Word) {s : State}
    (hl : ShiftOk s.status.status s.trips.trip s.status.shiftOpen s.status.driverId s.status.meterOpened) :
    ShiftOk (State.writeAt o l d s).status.status (State.writeAt o l d s).trips.trip (State.writeAt o l d s).status.shiftOpen
          (State.writeAt o l d s).status.driverId (State.writeAt o l d s).status.meterOpened := by
  unfold State.writeAt; (repeat' split) <;> simp (maxDischargeDepth := 12) [hl]

@[simp] theorem State.readAt_shift (o : Nat) (l : Lanes) {s : State}
    (hl : ShiftOk s.status.status s.trips.trip s.status.shiftOpen s.status.driverId s.status.meterOpened) :
    ShiftOk (State.readAt o l s).status.status (State.readAt o l s).trips.trip (State.readAt o l s).status.shiftOpen
          (State.readAt o l s).status.driverId (State.readAt o l s).status.meterOpened := by
  unfold State.readAt; (repeat' split) <;> simp (maxDischargeDepth := 12) [hl]

@[simp] theorem State.complete_shift (k : OpKind) {owner : UnderWay → State → State} {s : State}
    (ho : ∀ u t, ShiftOk t.status.status t.trips.trip t.status.shiftOpen t.status.driverId t.status.meterOpened → ShiftOk (owner u t).status.status (owner u t).trips.trip (owner u t).status.shiftOpen (owner u t).status.driverId (owner u t).status.meterOpened)
    (hl : ShiftOk s.status.status s.trips.trip s.status.shiftOpen s.status.driverId s.status.meterOpened) :
    ShiftOk (State.complete k owner s).status.status (State.complete k owner s).trips.trip (State.complete k owner s).status.shiftOpen
          (State.complete k owner s).status.driverId (State.complete k owner s).status.meterOpened := by
  unfold State.complete; split
  · exact State.service_shift (ho _ _ (by simp (maxDischargeDepth := 12) [hl]))
  · exact hl

end Sys2Proof.Machine
end

