-- ==== Sys2Proof/Laws/Assigned.lean ====
section
/-! SUPPORT. The assigned law (R1) is kept by the operations that a command is made of. -/

namespace Sys2Proof.Machine

/-- The assigned law (R1) on the values it speaks of. -/
def AssignedOk (status : CabStatus) (t : OfferEngine) : Prop :=
  status = .assigned → ∃ n, t.stateOf n = .awarded

theorem State.assignedLaw_iff (s : State) : s.assignedLaw ↔ AssignedOk s.status.status s.offers := Iff.rfl

/-- An update that takes no entry out of AWARDED. -/
theorem AssignedOk.update {status : CabStatus} {t : OfferEngine} (h : AssignedOk status t) (n : Fin 16) (f : OfferEntry → OfferEntry)
    (cs : List Cause) (hn : t.stateOf n = .awarded → (f (t.entry n)).state = .awarded) : AssignedOk status (t.update n f cs) := by
  intro hs
  obtain ⟨k, hk⟩ := h hs
  refine ⟨k, ?_⟩
  rw [OfferEngine.stateOf_update]
  split
  · rename_i e; subst e; exact hn hk
  · exact hk

theorem AssignedOk.congr {status : CabStatus} {t u : OfferEngine} (h : AssignedOk status t) (hs : ∀ n, u.stateOf n = t.stateOf n) :
    AssignedOk status u := by
  intro e
  obtain ⟨k, hk⟩ := h e
  exact ⟨k, by rw [hs]; exact hk⟩

/-- The entry that a new offer takes is EMPTY or in a terminal state (R72). -/
theorem OfferEngine.room_some {t : OfferEngine} {n : Fin 16} (h : t.room = some n) :
    t.stateOf n = .empty ∨ (t.stateOf n).terminal = true := by
  unfold OfferEngine.room at h
  split at h
  · rename_i m hm
    cases h
    exact Or.inl (by simpa using List.find?_some hm)
  · have := List.find?_some h
    exact Or.inr this

theorem State.becameAwarded_ok {status : CabStatus} {t : OfferEngine} {n : Fin 16} (h : t.stateOf n = .awarded) :
    AssignedOk status t := fun _ => ⟨n, h⟩

theorem OfferEngine.awarded_isSome {t : OfferEngine} (h : t.awarded.isSome = true) : ∃ n, t.stateOf n = .awarded := by
  obtain ⟨n, hn⟩ := Option.isSome_iff_exists.1 h
  exact ⟨n, OfferEngine.awarded_some hn⟩


@[simp] theorem State.takeOffer_assigned (h : DownHeader) (b : OfferBody) {s : State} {v_status_status}
    (ev_status_status : s.status.status = v_status_status) (hl : AssignedOk s.status.status s.offers) :
    AssignedOk v_status_status (State.takeOffer h b s).offers := by
  subst ev_status_status;
  unfold State.takeOffer; (repeat' split)
  · rename_i _ _ n hr
    refine AssignedOk.update hl n _ _ (fun e => ?_)
    rcases OfferEngine.room_some hr with h | h <;> simp [e, OfferState.terminal] at h
  · simpa using hl
  · exact hl

@[simp] theorem State.lifetimeEnds_assigned (n : Fin 16) {s : State} {v_status_status}
    (ev_status_status : s.status.status = v_status_status) (hl : AssignedOk s.status.status s.offers) :
    AssignedOk v_status_status (State.lifetimeEnds n s).offers := by
  subst ev_status_status;
  unfold State.lifetimeEnds; dsimp only; split
  · rename_i h
    simp only [Bool.and_eq_true, beq_iff_eq] at h
    exact hl.update n _ _ (by simp [OfferEngine.stateOf, h.1])
  · exact hl

@[simp] theorem State.awardWaitEnds_assigned (n : Fin 16) {s : State} {v_status_status}
    (ev_status_status : s.status.status = v_status_status) (hl : AssignedOk s.status.status s.offers) :
    AssignedOk v_status_status (State.awardWaitEnds n s).offers := by
  subst ev_status_status;
  unfold State.awardWaitEnds; dsimp only; split
  · rename_i h
    simp only [Bool.and_eq_true, beq_iff_eq] at h
    exact hl.update n _ _ (by simp [OfferEngine.stateOf, h.1])
  · exact hl

@[simp] theorem State.leftAwarded_assigned {s : State} {v_offers} (ev_offers : s.offers = v_offers) :
    AssignedOk (State.leftAwarded s).status.status v_offers := by
  subst ev_offers;
  unfold State.leftAwarded; split
  · intro h; simp [State.setStatus] at h
  · rename_i h; intro e; simp [e] at h

@[simp] theorem State.takeResponse_assigned (n : Fin 16) (l : Lanes) (d : Word) {s : State} (hl : AssignedOk s.status.status s.offers) :
    AssignedOk (State.takeResponse n l d s).status.status (State.takeResponse n l d s).offers := by
  unfold State.takeResponse; dsimp only; split
  · refine AssignedOk.update hl n _ _ (fun e => ?_)
    exact e
  · rename_i ho
    simp only [ne_eq, Decidable.not_not] at ho
    have hst : s.offers.stateOf n = (s.offers.entry n).state := rfl
    split
    · rename_i hcode
      simp only [State.addBid_frame]
      refine AssignedOk.update hl n _ _ (fun e => ?_)
      simp only [State.responseOutcome, hcode, if_true, State.acceptOutcome, ← hst, e] at ho
      cases ho
    · split
      · rename_i hca hcode
        simp only [State.addBid_frame]
        refine AssignedOk.update hl n _ _ (fun e => ?_)
        simp [State.responseOutcome, hcode, e, OfferState.declineOutcome, codeAccept, codeDecline] at ho
      · split
        · simp
        · rename_i h
          have hfor : AssignedOk s.status.status
                (s.offers.update n (fun e => OfferEntry.answered (laneCombine l (s.offers.entry n).response d) (s.responseOutcome n (Word.lower (laneCombine l (s.offers.entry n).response d))) e.emptied) []) := AssignedOk.update hl n _ _ (fun e => by
            simp only [← hst, e] at h
            simp at h)
          exact hfor.congr (fun _ => rfl)

@[simp] theorem State.awardNoEntry_assigned (b : OfferBody) {s : State} (hl : AssignedOk s.status.status s.offers) :
    AssignedOk (State.awardNoEntry b s).status.status (State.awardNoEntry b s).offers := by
  unfold State.awardNoEntry; split
  · rename_i n _
    simp only [State.becameAwarded_frame]
    exact State.becameAwarded_ok (n := n) (t := _) (by
      show ((s.offers.update n _ _).newest n).stateOf n = .awarded
      have : ∀ (t : OfferEngine), (t.newest n).stateOf n = t.stateOf n := fun _ => rfl
      rw [this, OfferEngine.stateOf_update]; simp [OfferEntry.filled])
  · simpa using hl

@[simp] theorem State.takeAward_assigned (b : OfferBody) {s : State} (hl : AssignedOk s.status.status s.offers) :
    AssignedOk (State.takeAward b s).status.status (State.takeAward b s).offers := by
  have hb : ∀ {u : State} {n : Fin 16} (f : OfferEntry → OfferEntry), (f (u.offers.entry n)).state = .awarded →
      AssignedOk (State.becameAwarded (u.updateEntry n f [.offerChange])).status.status
        (State.becameAwarded (u.updateEntry n f [.offerChange])).offers := by
    intro u n f h
    simp only [State.becameAwarded_frame, State.offers_updateEntry]
    exact State.becameAwarded_ok (n := n) (by rw [OfferEngine.stateOf_update]; simp [h])
  unfold State.takeAward; (repeat' split) <;> first
    | exact hl
    | exact hb _ rfl
    | (simp (maxDischargeDepth := 12) [hl]; done)

@[simp] theorem State.takeLost_assigned (j : DWord) {s : State} {v_status_status} (ev_status_status : s.status.status = v_status_status)
    (hl : AssignedOk s.status.status s.offers) :
    AssignedOk v_status_status (State.takeLost j s).offers := by
  subst ev_status_status;
  unfold State.takeLost; (repeat' split)
  · exact hl
  · rename_i h
    refine hl.update _ _ _ (fun e => ?_)
    simp [e] at h
  · exact hl

@[simp] theorem State.takeWithdraw_assigned (j : DWord) {s : State} (hl : AssignedOk s.status.status s.offers) :
    AssignedOk (State.takeWithdraw j s).status.status (State.takeWithdraw j s).offers := by
  unfold State.takeWithdraw; dsimp only; split
  · exact hl
  · rename_i n hf
    (repeat' split)
    · simp
    · rename_i _ h
      simp only [State.removeBid_frame]
      refine hl.update _ _ _ (fun e => ?_)
      simp [e] at h
    · exact hl

@[simp] theorem State.alertingToOffers_assigned {s : State} {v_status_status} (ev_status_status : s.status.status = v_status_status)
    (hl : AssignedOk s.status.status s.offers) :
    AssignedOk v_status_status (State.alertingToOffers s).offers := by
  subst ev_status_status;
  unfold State.alertingToOffers; split
  · rename_i n hb
    simp only [State.addBid_frame]
    exact hl.update n _ _ (by simp [OfferEngine.bidding_some hb])
  · exact hl

@[simp] theorem State.softResetEntry_assigned (n : Fin 16) {s : State} {v_status_status}
    (ev_status_status : s.status.status = v_status_status) (hl : AssignedOk s.status.status s.offers) :
    AssignedOk v_status_status (State.softResetEntry n s).offers := by
  subst ev_status_status;
  unfold State.softResetEntry; (repeat' split)
  · refine AssignedOk.congr hl (fun k => ?_)
    simp only [OfferEngine.stateOf, OfferEngine.entry_setEntry]
    split
    · rename_i h e; subst e
      simp only [OfferEngine.stateOf] at h
      simp [OfferEntry.softReset, h]
    · rfl
  · rename_i hn
    intro e
    obtain ⟨k, hk⟩ := hl e
    refine ⟨k, ?_⟩
    have : k ≠ n := by intro h; subst h; simp [hk] at hn
    simpa [State.requestRewrite, OfferEngine.stateOf, this] using hk

@[simp] theorem State.softResetOffers_assigned {s : State} {v_status_status} (ev_status_status : s.status.status = v_status_status)
    (hl : AssignedOk s.status.status s.offers) :
    AssignedOk v_status_status (State.softResetOffers s).offers := by
  subst ev_status_status;
  have : ∀ (l : List (Fin 16)) {s : State}, AssignedOk s.status.status s.offers →
      AssignedOk s.status.status (l.foldl (fun s n => s.softResetEntry n) s).offers := by
    intro l
    induction l with
    | nil => intro s h; exact h
    | cons n l ih => intro s h; simpa using ih (s := s.softResetEntry n) (by simpa using State.softResetEntry_assigned n rfl h)
  exact this allEntries hl

@[simp] theorem State.openTrip_assigned (t : Byte) {s : State} :
    AssignedOk (State.openTrip t s).status.status (State.openTrip t s).offers := by
  intro h; simp [State.openTrip, State.setStatus] at h

@[simp] theorem State.statusAfterTrip_assigned {s : State} {v_offers} (ev_offers : s.offers = v_offers)
    (hl : AssignedOk s.status.status s.offers) :
    AssignedOk (State.statusAfterTrip s).status.status v_offers := by
  subst ev_offers;
  unfold State.statusAfterTrip; split
  · intro h
    simp only [State.setStatus, State.handOn_fields, State.handOn_frame] at h
    split at h
    · rename_i ha; exact OfferEngine.awarded_isSome ha
    · cases h
  · exact hl

@[simp] theorem State.closeTrip_assigned (e : TripEnd) {s : State} {v_offers} (ev_offers : s.offers = v_offers)
    (hl : AssignedOk s.status.status s.offers) :
    AssignedOk (State.closeTrip e s).status.status v_offers := by
  subst ev_offers;
  unfold State.closeTrip; (repeat' split) <;> simp (maxDischargeDepth := 12) [hl]

@[simp] theorem State.takeHire_assigned (t : Byte) {s : State} :
    AssignedOk (State.takeHire t s).status.status (State.takeHire t s).offers := by
  unfold State.takeHire; split <;> exact State.openTrip_assigned _

@[simp] theorem State.takeStop_assigned (f : DWord) {s : State} {v_offers} (ev_offers : s.offers = v_offers)
    (hl : AssignedOk s.status.status s.offers) :
    AssignedOk (State.takeStop f s).status.status v_offers := by
  subst ev_offers;
  unfold State.takeStop; (repeat' split) <;> simp (maxDischargeDepth := 12) [hl]

@[simp] theorem State.forceClose_assigned {s : State} {v_offers} (ev_offers : s.offers = v_offers)
    (hl : AssignedOk s.status.status s.offers) :
    AssignedOk (State.forceClose s).status.status v_offers := by
  subst ev_offers;
  unfold State.forceClose; (repeat' split) <;> simp (maxDischargeDepth := 12) [hl]

@[simp] theorem State.alertingHandOn_assigned {s : State} {v_status_status} (ev_status_status : s.status.status = v_status_status)
    (hl : AssignedOk s.status.status s.offers) :
    AssignedOk v_status_status (State.alertingHandOn s).offers := by
  subst ev_status_status;
  unfold State.alertingHandOn; (repeat' split) <;> simp (maxDischargeDepth := 12) [hl]

@[simp] theorem State.enterAlerting_assigned (x : Source) {s : State} {v_status_status}
    (ev_status_status : s.status.status = v_status_status) (hl : AssignedOk s.status.status s.offers) :
    AssignedOk v_status_status (State.enterAlerting x s).offers := by
  subst ev_status_status;
  unfold State.enterAlerting; (repeat' split) <;> simp (maxDischargeDepth := 12) [hl]

@[simp] theorem State.holdEnds_assigned {s : State} {v_status_status} (ev_status_status : s.status.status = v_status_status)
    (hl : AssignedOk s.status.status s.offers) :
    AssignedOk v_status_status (State.holdEnds s).offers := by
  subst ev_status_status;
  unfold State.holdEnds; (repeat' split) <;> simp (maxDischargeDepth := 12) [hl]

@[simp] theorem State.emergencyRaiseWrite_assigned (l : Lanes) (d : Word) {s : State} {v_status_status}
    (ev_status_status : s.status.status = v_status_status) (hl : AssignedOk s.status.status s.offers) :
    AssignedOk v_status_status (State.emergencyRaiseWrite l d s).offers := by
  subst ev_status_status;
  unfold State.emergencyRaiseWrite; dsimp only; (repeat' split) <;> simp (maxDischargeDepth := 12) [hl]

@[simp] theorem State.recover_assigned (j : RecordJudgment) {s : State} {v_status_status}
    (ev_status_status : s.status.status = v_status_status) (hl : AssignedOk s.status.status s.offers) :
    AssignedOk v_status_status (State.recover j s).offers := by
  subst ev_status_status;
  unfold State.recover; (repeat' split) <;> simp (maxDischargeDepth := 12) [hl]

@[simp] theorem State.driverWrite_assigned (l : Lanes) (d : Word) {s : State} {v_offers} (ev_offers : s.offers = v_offers)
    (hl : AssignedOk s.status.status s.offers) :
    AssignedOk (State.driverWrite l d s).status.status v_offers := by
  subst ev_offers;
  unfold State.driverWrite; dsimp only; (repeat' split)
  · exact hl
  · simp [State.attachDriver, hl]
  · intro h; simp [State.setStatus] at h

@[simp] theorem State.statusRequest_assigned (l : Lanes) (d : Word) {s : State} {v_offers} (ev_offers : s.offers = v_offers)
    (hl : AssignedOk s.status.status s.offers) :
    AssignedOk (State.statusRequest l d s).status.status v_offers := by
  subst ev_offers;
  unfold State.statusRequest; dsimp only; (repeat' split)
  · intro h; simp [State.setStatus] at h
  · intro h; simp [State.setStatus] at h
  · simpa using hl

@[simp] theorem State.closeShift_assigned {s : State} :
    AssignedOk (State.closeShift s).status.status (State.closeShift s).offers := by
  intro h; simp [State.closeShift] at h

@[simp] theorem State.shiftControl_assigned (l : Lanes) (d : Word) {s : State} (hl : AssignedOk s.status.status s.offers) :
    AssignedOk (State.shiftControl l d s).status.status (State.shiftControl l d s).offers := by
  unfold State.shiftControl; dsimp only; (repeat' split) <;> simp (maxDischargeDepth := 12) [hl]

@[simp] theorem State.takeWatched_assigned (f : Field) (l : Lanes) (d : Word) {s : State} (hl : AssignedOk s.status.status s.offers) :
    AssignedOk (State.takeWatched f l d s).status.status (State.takeWatched f l d s).offers := by
  unfold State.takeWatched; (repeat' split) <;> simp (maxDischargeDepth := 12) [hl]

@[simp] theorem State.acceptWrite_assigned (a : BitVec 19) (l : Lanes) (d : Word) (p : MemoryPath) {s : State}
    (hl : AssignedOk s.status.status s.offers) :
    AssignedOk (State.acceptWrite a l d p s).status.status (State.acceptWrite a l d p s).offers := by
  unfold State.acceptWrite; dsimp only; (repeat' split) <;> simp (maxDischargeDepth := 12) [hl]

theorem State.processorWrite?_assigned {a : BitVec 19} {l : Lanes} {d : Word} {s t : State}
    (h : s.processorWrite? a l d = some t) (hl : AssignedOk s.status.status s.offers) : AssignedOk t.status.status t.offers := by
  unfold State.processorWrite? at h; dsimp only at h; split at h
  · simp only [Option.map_eq_some_iff] at h
    obtain ⟨p, -, rfl⟩ := h
    simp (maxDischargeDepth := 12) [hl]
  · cases h; simp (maxDischargeDepth := 12) [hl]

theorem State.attempt_assigned {h : HeldCycle} {s t : State} (e : s.attempt h = .done t)
    (hl : AssignedOk s.status.status s.offers) : AssignedOk t.status.status t.offers := by
  unfold State.attempt at e
  split at e
  · split at e
    · rename_i w; cases e; exact State.processorWrite?_assigned w hl
    · cases e
  · split at e
    · cases e
    · split at e
      · cases e
      · cases e; simp (maxDischargeDepth := 12) [hl]

@[simp] theorem State.processorCycle_assigned (c : BusCycle) {s : State} (hl : AssignedOk s.status.status s.offers) :
    AssignedOk (State.processorCycle c s).status.status (State.processorCycle c s).offers := by
  unfold State.processorCycle; split
  · simp (maxDischargeDepth := 12) [hl]
  · split
    · rename_i e; exact State.attempt_assigned e hl
    · simp (maxDischargeDepth := 12) [hl]

@[simp] theorem State.serviceList_assigned (hs : List HeldCycle) {s : State} (hl : AssignedOk s.status.status s.offers) :
    AssignedOk (State.serviceList hs s).status.status (State.serviceList hs s).offers := by
  induction hs generalizing s with
  | nil => unfold State.serviceList; simp (maxDischargeDepth := 12) [hl]
  | cons h rest ih =>
    unfold State.serviceList; split
    · simp (maxDischargeDepth := 12) [hl]
    · split
      · rename_i t e; exact ih (State.attempt_assigned e hl)
      · simp (maxDischargeDepth := 12) [hl]

@[simp] theorem State.service_assigned {s : State} (hl : AssignedOk s.status.status s.offers) :
    AssignedOk (State.service s).status.status (State.service s).offers := by
  unfold State.service; (repeat' split) <;> simp (maxDischargeDepth := 12) [hl]

@[simp] theorem State.completeDrain_assigned {s : State} (hl : AssignedOk s.status.status s.offers) :
    AssignedOk (State.completeDrain s).status.status (State.completeDrain s).offers := by
  unfold State.completeDrain; (repeat' split) <;> simp (maxDischargeDepth := 12) [hl]

@[simp] theorem State.handOver_assigned (k : OpKind) {s : State} {v_status_status} (ev_status_status : s.status.status = v_status_status)
    (hl : AssignedOk s.status.status s.offers) :
    AssignedOk v_status_status (State.handOver k s).offers := by
  subst ev_status_status;
  unfold State.handOver; split
  · refine AssignedOk.congr hl (fun k => ?_)
    simp only [OfferEngine.stateOf, OfferEngine.entry_setEntry]; split <;> rename_i e <;> simp [e]
  · exact hl
  · exact hl

@[simp] theorem State.startOperation_assigned {s : State} {v_status_status} (ev_status_status : s.status.status = v_status_status)
    (hl : AssignedOk s.status.status s.offers) :
    AssignedOk v_status_status (State.startOperation s).offers := by
  subst ev_status_status;
  unfold State.startOperation; (repeat' split) <;> simp (maxDischargeDepth := 12) [hl]

@[simp] theorem State.internalCycle_assigned {s : State} (hl : AssignedOk s.status.status s.offers) :
    AssignedOk (State.internalCycle s).status.status (State.internalCycle s).offers := by
  unfold State.internalCycle; split
  · split
    · split
      · rename_i c rest _; cases c <;> simp (maxDischargeDepth := 12) [State.runCycle, hl]
      · exact hl
    · exact hl
  · exact hl

@[simp] theorem State.softResetStatus_assigned {s : State} {v_offers} (ev_offers : s.offers = v_offers) :
    AssignedOk (State.softResetStatus s).status.status v_offers := by
  subst ev_offers;
  intro h
  simp only [State.softResetStatus, State.recomputedStatus] at h
  (repeat' split at h) <;> first | cases h | skip
  rename_i ha
  exact OfferEngine.awarded_isSome ha

@[simp] theorem State.softReset_assigned {s : State} (hl : AssignedOk s.status.status s.offers) :
    AssignedOk (State.softReset s).status.status (State.softReset s).offers := by
  unfold State.softReset; (repeat' split) <;> simp (maxDischargeDepth := 12) [hl]

@[simp] theorem State.powerOn_assigned (a : BitVec 4) {s : State} :
    AssignedOk (State.powerOn a s).status.status (State.powerOn a s).offers := by
  refine State.service_assigned ?_
  intro h; simp [State.reset, StatusUnit.reset] at h

@[simp] theorem State.tickTimers_assigned {s : State} {v_status_status} (ev_status_status : s.status.status = v_status_status)
    (hl : AssignedOk s.status.status s.offers) :
    AssignedOk v_status_status (State.tickTimers s).offers := by
  subst ev_status_status;
  have : ∀ (l : List (Fin 16)) {t : OfferEngine}, AssignedOk s.status.status t →
      AssignedOk s.status.status (l.foldl (fun t n => t.setEntry n { t.entry n with timer := (t.entry n).timer.tick }) t) := by
    intro l
    induction l with
    | nil => intro t h; exact h
    | cons n l ih =>
      intro t h
      refine ih (AssignedOk.congr h (fun k => ?_))
      simp only [OfferEngine.stateOf, OfferEngine.entry_setEntry]; split <;> rename_i e <;> simp [e]
  exact this allEntries hl

@[simp] theorem State.second_assigned {s : State} {v_status_status} (ev_status_status : s.status.status = v_status_status)
    (hl : AssignedOk s.status.status s.offers) :
    AssignedOk v_status_status (State.second s).offers := by
  subst ev_status_status;
  unfold State.second; (repeat' split) <;> simp (maxDischargeDepth := 12) [hl]

@[simp] theorem State.meterMessage_assigned (m : MeterMessage) {s : State} (hl : AssignedOk s.status.status s.offers) :
    AssignedOk (State.meterMessage m s).status.status (State.meterMessage m s).offers := by
  unfold State.meterMessage; (repeat' split) <;> simp (maxDischargeDepth := 12) [hl]

@[simp] theorem State.takeMeter_assigned (m : MeterMessage) {s : State} (hl : AssignedOk s.status.status s.offers) :
    AssignedOk (State.takeMeter m s).status.status (State.takeMeter m s).offers := by
  unfold State.takeMeter; (repeat' split) <;> simp (maxDischargeDepth := 12) [hl]

@[simp] theorem State.route_assigned (d : DownHeader) (b : DownBody) {s : State} (hl : AssignedOk s.status.status s.offers) :
    AssignedOk (State.route d b s).status.status (State.route d b s).offers := by
  unfold State.route; (repeat' split) <;> simp (maxDischargeDepth := 12) [hl]

@[simp] theorem State.receive_assigned (d : DownHeader) (b : DownBody) {s : State} (hl : AssignedOk s.status.status s.offers) :
    AssignedOk (State.receive d b s).status.status (State.receive d b s).offers := by
  unfold State.receive; (repeat' split) <;> simp (maxDischargeDepth := 12) [hl]

@[simp] theorem State.writeAt_assigned (o : Nat) (l : Lanes) (d : Word) {s : State} (hl : AssignedOk s.status.status s.offers) :
    AssignedOk (State.writeAt o l d s).status.status (State.writeAt o l d s).offers := by
  unfold State.writeAt; (repeat' split) <;> simp (maxDischargeDepth := 12) [hl]

@[simp] theorem State.readAt_assigned (o : Nat) (l : Lanes) {s : State} (hl : AssignedOk s.status.status s.offers) :
    AssignedOk (State.readAt o l s).status.status (State.readAt o l s).offers := by
  unfold State.readAt; (repeat' split) <;> simp (maxDischargeDepth := 12) [hl]

@[simp] theorem State.complete_assigned (k : OpKind) {owner : UnderWay → State → State} {s : State}
    (ho : ∀ u t, AssignedOk t.status.status t.offers → AssignedOk (owner u t).status.status (owner u t).offers)
    (hl : AssignedOk s.status.status s.offers) :
    AssignedOk (State.complete k owner s).status.status (State.complete k owner s).offers := by
  unfold State.complete; split
  · exact State.service_assigned (ho _ _ (by simp (maxDischargeDepth := 12) [hl]))
  · exact hl

end Sys2Proof.Machine
end

