-- ==== Sys2Proof/Laws/Attention.lean ====
section
/-! SUPPORT. The attention law (R211) is kept by every operation. -/

namespace Sys2Proof.Machine

/-- The attention law on the values it speaks of (R211). -/
def AttentionOk (attn busy : Bool) (causes enables : BitVec 13) : Prop :=
  attn = busy ∧ (busy = false → causes &&& enables = 0#13)

theorem State.attentionLaw_iff (s : State) : s.attentionLaw ↔ AttentionOk s.pins.attn s.page.busy s.page.causes s.page.enables := Iff.rfl

theorem and_zero_of_and_zero {a b : BitVec 13} (c : BitVec 13) (h : a &&& b = 0#13) : (a &&& c) &&& b = 0#13 := by
  rw [BitVec.and_assoc, BitVec.and_comm c b, ← BitVec.and_assoc, h, BitVec.zero_and]

theorem State.evaluateAttention_ok {s : State} (h : s.pins.attn = s.page.busy) :
    AttentionOk (State.evaluateAttention s).pins.attn (State.evaluateAttention s).page.busy (State.evaluateAttention s).page.causes
          (State.evaluateAttention s).page.enables := by
  unfold State.evaluateAttention AttentionOk
  split
  · simp
  · rename_i c
    exact ⟨h, fun b => by simpa [b] using c⟩


@[simp] theorem State.evaluateAttention_attention {s : State} {v_page_causes} (ev_page_causes : s.page.causes = v_page_causes)
    {v_page_enables} (ev_page_enables : s.page.enables = v_page_enables)
    (hl : AttentionOk s.pins.attn s.page.busy s.page.causes s.page.enables) :
    AttentionOk (State.evaluateAttention s).pins.attn (State.evaluateAttention s).page.busy v_page_causes v_page_enables := by
  subst ev_page_causes; subst ev_page_enables;
  simpa using State.evaluateAttention_ok hl.1

@[simp] theorem State.raise_attention (c : Cause) {s : State} {v_page_enables} (ev_page_enables : s.page.enables = v_page_enables)
    (hl : AttentionOk s.pins.attn s.page.busy s.page.causes s.page.enables) :
    AttentionOk (State.raise c s).pins.attn (State.raise c s).page.busy (State.raise c s).page.causes v_page_enables := by
  subst ev_page_enables;
  simpa [State.raise] using State.evaluateAttention_ok (s := { s with page := { s.page with causes := s.page.causes ||| c.mask } }) hl.1

@[simp] theorem State.raiseAll_attention (cs : List Cause) {s : State} {v_page_enables} (ev_page_enables : s.page.enables = v_page_enables)
    (hl : AttentionOk s.pins.attn s.page.busy s.page.causes s.page.enables) :
    AttentionOk (State.raiseAll cs s).pins.attn (State.raiseAll cs s).page.busy (State.raiseAll cs s).page.causes v_page_enables := by
  subst ev_page_enables;
  induction cs generalizing s with
  | nil => exact hl
  | cons c cs ih => simpa [State.raiseAll] using ih (s := s.raise c) (by simpa using State.raise_attention c rfl hl)

@[simp] theorem State.clearCauses_attention (l : Lanes) (d : Word) {s : State} {v_pins_attn} (ev_pins_attn : s.pins.attn = v_pins_attn)
    {v_page_busy} (ev_page_busy : s.page.busy = v_page_busy) {v_page_enables} (ev_page_enables : s.page.enables = v_page_enables)
    (hl : AttentionOk s.pins.attn s.page.busy s.page.causes s.page.enables) :
    AttentionOk v_pins_attn v_page_busy (State.clearCauses l d s).page.causes v_page_enables := by
  subst ev_pins_attn; subst ev_page_busy; subst ev_page_enables;
  exact ⟨hl.1, fun b => and_zero_of_and_zero _ (hl.2 b)⟩

@[simp] theorem State.enableCauses_attention (l : Lanes) (d : Word) {s : State} {v_page_causes}
    (ev_page_causes : s.page.causes = v_page_causes) (hl : AttentionOk s.pins.attn s.page.busy s.page.causes s.page.enables) :
    AttentionOk (State.enableCauses l d s).pins.attn (State.enableCauses l d s).page.busy v_page_causes
          (State.enableCauses l d s).page.enables := by
  subst ev_page_causes;
  simpa [State.enableCauses] using State.evaluateAttention_ok (s := { s with page := { s.page with enableCopy := laneCombine l s.page.enableCopy d, enables := (laneCombine l s.page.enableCopy d).setWidth 13 } }) hl.1

@[simp] theorem State.attentionDone_attention {s : State} {v_page_causes} (ev_page_causes : s.page.causes = v_page_causes) {v_page_enables}
    (ev_page_enables : s.page.enables = v_page_enables) (hl : AttentionOk s.pins.attn s.page.busy s.page.causes s.page.enables) :
    AttentionOk (State.attentionDone s).pins.attn (State.attentionDone s).page.busy v_page_causes v_page_enables := by
  subst ev_page_causes; subst ev_page_enables;
  unfold State.attentionDone
  split
  · simpa using State.evaluateAttention_ok (s := { s with page := { s.page with busy := false }, pins := { s.pins with attn := false } }) rfl
  · exact hl

@[simp] theorem State.abandonReport_attention (r : TripRef) {s : State} {v_page_enables}
    (ev_page_enables : s.page.enables = v_page_enables) (hl : AttentionOk s.pins.attn s.page.busy s.page.causes s.page.enables) :
    AttentionOk (State.abandonReport r s).pins.attn (State.abandonReport r s).page.busy
          (State.abandonReport r s).page.causes v_page_enables := by
  subst ev_page_enables;
  unfold State.abandonReport; (repeat' split) <;> simp [hl]

@[simp] theorem State.makeRoomForReport_attention {s : State} {v_page_enables} (ev_page_enables : s.page.enables = v_page_enables)
    (hl : AttentionOk s.pins.attn s.page.busy s.page.causes s.page.enables) :
    AttentionOk (State.makeRoomForReport s).pins.attn (State.makeRoomForReport s).page.busy
          (State.makeRoomForReport s).page.causes v_page_enables := by
  subst ev_page_enables;
  unfold State.makeRoomForReport; (repeat' split) <;> simp [hl]

@[simp] theorem State.listReport_attention (r : TripRecord) {s : State} {v_page_enables}
    (ev_page_enables : s.page.enables = v_page_enables) (hl : AttentionOk s.pins.attn s.page.busy s.page.causes s.page.enables) :
    AttentionOk (State.listReport r s).pins.attn (State.listReport r s).page.busy (State.listReport r s).page.causes v_page_enables := by
  subst ev_page_enables;
  unfold State.listReport; dsimp only; (repeat' split) <;> simp (maxDischargeDepth := 12) [hl]

@[simp] theorem State.endTripDeposit_attention {s : State} {v_page_enables} (ev_page_enables : s.page.enables = v_page_enables)
    (hl : AttentionOk s.pins.attn s.page.busy s.page.causes s.page.enables) :
    AttentionOk (State.endTripDeposit s).pins.attn (State.endTripDeposit s).page.busy
          (State.endTripDeposit s).page.causes v_page_enables := by
  subst ev_page_enables;
  unfold State.endTripDeposit; (repeat' split) <;> simp [hl]

@[simp] theorem State.closeTotals_attention {s : State} {v_page_enables} (ev_page_enables : s.page.enables = v_page_enables)
    (hl : AttentionOk s.pins.attn s.page.busy s.page.causes s.page.enables) :
    AttentionOk (State.closeTotals s).pins.attn (State.closeTotals s).page.busy (State.closeTotals s).page.causes v_page_enables := by
  subst ev_page_enables;
  unfold State.closeTotals; dsimp only; (repeat' split) <;> simp (maxDischargeDepth := 12) [hl]

@[simp] theorem State.closeTrip_attention (e : TripEnd) {s : State} {v_page_enables} (ev_page_enables : s.page.enables = v_page_enables)
    (hl : AttentionOk s.pins.attn s.page.busy s.page.causes s.page.enables) :
    AttentionOk (State.closeTrip e s).pins.attn (State.closeTrip e s).page.busy (State.closeTrip e s).page.causes v_page_enables := by
  subst ev_page_enables;
  unfold State.closeTrip; (repeat' split) <;> simp [hl]

@[simp] theorem State.takeHire_attention (t : Byte) {s : State} {v_page_enables} (ev_page_enables : s.page.enables = v_page_enables)
    (hl : AttentionOk s.pins.attn s.page.busy s.page.causes s.page.enables) :
    AttentionOk (State.takeHire t s).pins.attn (State.takeHire t s).page.busy (State.takeHire t s).page.causes v_page_enables := by
  subst ev_page_enables;
  unfold State.takeHire; (repeat' split) <;> simp [hl]

@[simp] theorem State.takeStop_attention (f : DWord) {s : State} {v_page_enables} (ev_page_enables : s.page.enables = v_page_enables)
    (hl : AttentionOk s.pins.attn s.page.busy s.page.causes s.page.enables) :
    AttentionOk (State.takeStop f s).pins.attn (State.takeStop f s).page.busy (State.takeStop f s).page.causes v_page_enables := by
  subst ev_page_enables;
  unfold State.takeStop; (repeat' split) <;> simp [hl]

@[simp] theorem State.takeFault_attention (c : Byte) {s : State} {v_page_enables} (ev_page_enables : s.page.enables = v_page_enables)
    (hl : AttentionOk s.pins.attn s.page.busy s.page.causes s.page.enables) :
    AttentionOk (State.takeFault c s).pins.attn (State.takeFault c s).page.busy (State.takeFault c s).page.causes v_page_enables := by
  subst ev_page_enables;
  unfold State.takeFault; (repeat' split) <;> simp [hl]

@[simp] theorem State.silenceEnds_attention {s : State} {v_page_enables} (ev_page_enables : s.page.enables = v_page_enables)
    (hl : AttentionOk s.pins.attn s.page.busy s.page.causes s.page.enables) :
    AttentionOk (State.silenceEnds s).pins.attn (State.silenceEnds s).page.busy (State.silenceEnds s).page.causes v_page_enables := by
  subst ev_page_enables;
  unfold State.silenceEnds; (repeat' split) <;> simp [hl]

@[simp] theorem State.forceClose_attention {s : State} {v_page_enables} (ev_page_enables : s.page.enables = v_page_enables)
    (hl : AttentionOk s.pins.attn s.page.busy s.page.causes s.page.enables) :
    AttentionOk (State.forceClose s).pins.attn (State.forceClose s).page.busy (State.forceClose s).page.causes v_page_enables := by
  subst ev_page_enables;
  unfold State.forceClose; (repeat' split) <;> simp [hl]

@[simp] theorem State.fareRetransmit_attention (r : TripRef) {s : State} {v_page_enables}
    (ev_page_enables : s.page.enables = v_page_enables) (hl : AttentionOk s.pins.attn s.page.busy s.page.causes s.page.enables) :
    AttentionOk (State.fareRetransmit r s).pins.attn (State.fareRetransmit r s).page.busy
          (State.fareRetransmit r s).page.causes v_page_enables := by
  subst ev_page_enables;
  unfold State.fareRetransmit; (repeat' split) <;> simp [hl]

@[simp] theorem State.shiftRetransmit_attention {s : State} {v_page_enables} (ev_page_enables : s.page.enables = v_page_enables)
    (hl : AttentionOk s.pins.attn s.page.busy s.page.causes s.page.enables) :
    AttentionOk (State.shiftRetransmit s).pins.attn (State.shiftRetransmit s).page.busy
          (State.shiftRetransmit s).page.causes v_page_enables := by
  subst ev_page_enables;
  unfold State.shiftRetransmit; (repeat' split) <;> simp [hl]

@[simp] theorem State.ackFare_attention (r : TripRef) {s : State} {v_page_enables} (ev_page_enables : s.page.enables = v_page_enables)
    (hl : AttentionOk s.pins.attn s.page.busy s.page.causes s.page.enables) :
    AttentionOk (State.ackFare r s).pins.attn (State.ackFare r s).page.busy (State.ackFare r s).page.causes v_page_enables := by
  subst ev_page_enables;
  unfold State.ackFare; (repeat' split) <;> simp [hl]

@[simp] theorem State.ackShift_attention (n : Word) {s : State} {v_page_enables} (ev_page_enables : s.page.enables = v_page_enables)
    (hl : AttentionOk s.pins.attn s.page.busy s.page.causes s.page.enables) :
    AttentionOk (State.ackShift n s).pins.attn (State.ackShift n s).page.busy (State.ackShift n s).page.causes v_page_enables := by
  subst ev_page_enables;
  unfold State.ackShift; (repeat' split) <;> simp [hl]

@[simp] theorem State.endCompletion_attention {s : State} {v_page_enables} (ev_page_enables : s.page.enables = v_page_enables)
    (hl : AttentionOk s.pins.attn s.page.busy s.page.causes s.page.enables) :
    AttentionOk (State.endCompletion s).pins.attn (State.endCompletion s).page.busy (State.endCompletion s).page.causes v_page_enables := by
  subst ev_page_enables;
  unfold State.endCompletion; (repeat' split) <;> simp [hl]

@[simp] theorem State.endInboundDeposit_attention {s : State} {v_page_enables} (ev_page_enables : s.page.enables = v_page_enables)
    (hl : AttentionOk s.pins.attn s.page.busy s.page.causes s.page.enables) :
    AttentionOk (State.endInboundDeposit s).pins.attn (State.endInboundDeposit s).page.busy
          (State.endInboundDeposit s).page.causes v_page_enables := by
  subst ev_page_enables;
  unfold State.endInboundDeposit; (repeat' split) <;> simp [hl]

@[simp] theorem State.ringNotValid_attention (i : RingId) (w : Word) {s : State} {v_page_enables}
    (ev_page_enables : s.page.enables = v_page_enables) (hl : AttentionOk s.pins.attn s.page.busy s.page.causes s.page.enables) :
    AttentionOk (State.ringNotValid i w s).pins.attn (State.ringNotValid i w s).page.busy
          (State.ringNotValid i w s).page.causes v_page_enables := by
  subst ev_page_enables;
  unfold State.ringNotValid; (repeat' split) <;> simp [hl]

@[simp] theorem State.ringOpen_attention (i : RingId) (w : Word) {s : State} {v_page_enables}
    (ev_page_enables : s.page.enables = v_page_enables) (hl : AttentionOk s.pins.attn s.page.busy s.page.causes s.page.enables) :
    AttentionOk (State.ringOpen i w s).pins.attn (State.ringOpen i w s).page.busy (State.ringOpen i w s).page.causes v_page_enables := by
  subst ev_page_enables;
  unfold State.ringOpen; dsimp only; (repeat' split) <;> simp (maxDischargeDepth := 12) [hl]

@[simp] theorem State.ringClose_attention (i : RingId) (w : Word) {s : State} {v_page_enables}
    (ev_page_enables : s.page.enables = v_page_enables) (hl : AttentionOk s.pins.attn s.page.busy s.page.causes s.page.enables) :
    AttentionOk (State.ringClose i w s).pins.attn (State.ringClose i w s).page.busy (State.ringClose i w s).page.causes v_page_enables := by
  subst ev_page_enables;
  unfold State.ringClose; (repeat' split) <;> simp [hl]

@[simp] theorem State.ringControl_attention (i : RingId) (l : Lanes) (d : Word) {s : State} {v_page_enables}
    (ev_page_enables : s.page.enables = v_page_enables) (hl : AttentionOk s.pins.attn s.page.busy s.page.causes s.page.enables) :
    AttentionOk (State.ringControl i l d s).pins.attn (State.ringControl i l d s).page.busy
          (State.ringControl i l d s).page.causes v_page_enables := by
  subst ev_page_enables;
  unfold State.ringControl; dsimp only; (repeat' split) <;> simp (maxDischargeDepth := 12) [hl]

@[simp] theorem State.pointerWrite_attention (i : RingId) (l : Lanes) (d : Word) {s : State} {v_page_enables}
    (ev_page_enables : s.page.enables = v_page_enables) (hl : AttentionOk s.pins.attn s.page.busy s.page.causes s.page.enables) :
    AttentionOk (State.pointerWrite i l d s).pins.attn (State.pointerWrite i l d s).page.busy
          (State.pointerWrite i l d s).page.causes v_page_enables := by
  subst ev_page_enables;
  unfold State.pointerWrite; dsimp only; (repeat' split) <;> simp (maxDischargeDepth := 12) [hl]

@[simp] theorem State.endOpenCheck_attention (i : RingId) (h : HeaderWords) {s : State} {v_page_enables}
    (ev_page_enables : s.page.enables = v_page_enables) (hl : AttentionOk s.pins.attn s.page.busy s.page.causes s.page.enables) :
    AttentionOk (State.endOpenCheck i h s).pins.attn (State.endOpenCheck i h s).page.busy
          (State.endOpenCheck i h s).page.causes v_page_enables := by
  subst ev_page_enables;
  unfold State.endOpenCheck; dsimp only; (repeat' split) <;> simp (maxDischargeDepth := 12) [hl]

@[simp] theorem State.exitJoined_attention {s : State} {v_page_enables} (ev_page_enables : s.page.enables = v_page_enables)
    (hl : AttentionOk s.pins.attn s.page.busy s.page.causes s.page.enables) :
    AttentionOk (State.exitJoined s).pins.attn (State.exitJoined s).page.busy (State.exitJoined s).page.causes v_page_enables := by
  subst ev_page_enables;
  unfold State.exitJoined; (repeat' split) <;> simp [hl]

@[simp] theorem State.exitLink_attention {s : State} {v_page_enables} (ev_page_enables : s.page.enables = v_page_enables)
    (hl : AttentionOk s.pins.attn s.page.busy s.page.causes s.page.enables) :
    AttentionOk (State.exitLink s).pins.attn (State.exitLink s).page.busy (State.exitLink s).page.causes v_page_enables := by
  subst ev_page_enables;
  unfold State.exitLink; (repeat' split) <;> simp [hl]

@[simp] theorem State.enterQuiet_attention (b : Bool) {s : State} {v_page_enables} (ev_page_enables : s.page.enables = v_page_enables)
    (hl : AttentionOk s.pins.attn s.page.busy s.page.causes s.page.enables) :
    AttentionOk (State.enterQuiet b s).pins.attn (State.enterQuiet b s).page.busy (State.enterQuiet b s).page.causes v_page_enables := by
  subst ev_page_enables;
  unfold State.enterQuiet; dsimp only; (repeat' split) <;> simp (maxDischargeDepth := 12) [hl]

@[simp] theorem State.enterOff_attention {s : State} {v_page_enables} (ev_page_enables : s.page.enables = v_page_enables)
    (hl : AttentionOk s.pins.attn s.page.busy s.page.causes s.page.enables) :
    AttentionOk (State.enterOff s).pins.attn (State.enterOff s).page.busy (State.enterOff s).page.causes v_page_enables := by
  subst ev_page_enables;
  unfold State.enterOff; (repeat' split) <;> simp [hl]

@[simp] theorem State.endPass_attention {s : State} {v_page_enables} (ev_page_enables : s.page.enables = v_page_enables)
    (hl : AttentionOk s.pins.attn s.page.busy s.page.causes s.page.enables) :
    AttentionOk (State.endPass s).pins.attn (State.endPass s).page.busy (State.endPass s).page.causes v_page_enables := by
  subst ev_page_enables;
  unfold State.endPass; (repeat' split) <;> simp [hl]

@[simp] theorem State.candidateFails_attention {s : State} {v_page_enables} (ev_page_enables : s.page.enables = v_page_enables)
    (hl : AttentionOk s.pins.attn s.page.busy s.page.causes s.page.enables) :
    AttentionOk (State.candidateFails s).pins.attn (State.candidateFails s).page.busy
          (State.candidateFails s).page.causes v_page_enables := by
  subst ev_page_enables;
  unfold State.candidateFails; dsimp only; (repeat' split) <;> simp (maxDischargeDepth := 12) [hl]

@[simp] theorem State.nextChannel_attention {s : State} {v_page_enables} (ev_page_enables : s.page.enables = v_page_enables)
    (hl : AttentionOk s.pins.attn s.page.busy s.page.causes s.page.enables) :
    AttentionOk (State.nextChannel s).pins.attn (State.nextChannel s).page.busy (State.nextChannel s).page.causes v_page_enables := by
  subst ev_page_enables;
  unfold State.nextChannel; (repeat' split) <;> simp [hl]

@[simp] theorem State.huntBeacon_attention (g : Bool) (n : Word) (a : Byte) {s : State} {v_page_enables}
    (ev_page_enables : s.page.enables = v_page_enables) (hl : AttentionOk s.pins.attn s.page.busy s.page.causes s.page.enables) :
    AttentionOk (State.huntBeacon g n a s).pins.attn (State.huntBeacon g n a s).page.busy
          (State.huntBeacon g n a s).page.causes v_page_enables := by
  subst ev_page_enables;
  unfold State.huntBeacon; dsimp only; (repeat' split) <;> simp (maxDischargeDepth := 12) [hl]

@[simp] theorem State.joinFails_attention {s : State} {v_page_enables} (ev_page_enables : s.page.enables = v_page_enables)
    (hl : AttentionOk s.pins.attn s.page.busy s.page.causes s.page.enables) :
    AttentionOk (State.joinFails s).pins.attn (State.joinFails s).page.busy (State.joinFails s).page.causes v_page_enables := by
  subst ev_page_enables;
  unfold State.joinFails; (repeat' split) <;> simp [hl]

@[simp] theorem State.contenderFails_attention (c : Contender) {s : State} {v_page_enables}
    (ev_page_enables : s.page.enables = v_page_enables) (hl : AttentionOk s.pins.attn s.page.busy s.page.causes s.page.enables) :
    AttentionOk (State.contenderFails c s).pins.attn (State.contenderFails c s).page.busy
          (State.contenderFails c s).page.causes v_page_enables := by
  subst ev_page_enables;
  unfold State.contenderFails; (repeat' split) <;> simp [hl]

@[simp] theorem State.contentionOutcome_attention (b : Bool) {s : State} {v_page_enables}
    (ev_page_enables : s.page.enables = v_page_enables) (hl : AttentionOk s.pins.attn s.page.busy s.page.causes s.page.enables) :
    AttentionOk (State.contentionOutcome b s).pins.attn (State.contentionOutcome b s).page.busy
          (State.contentionOutcome b s).page.causes v_page_enables := by
  subst ev_page_enables;
  unfold State.contentionOutcome; (repeat' split) <;> simp [hl]

@[simp] theorem State.missBeacon_attention {s : State} {v_page_enables} (ev_page_enables : s.page.enables = v_page_enables)
    (hl : AttentionOk s.pins.attn s.page.busy s.page.causes s.page.enables) :
    AttentionOk (State.missBeacon s).pins.attn (State.missBeacon s).page.busy (State.missBeacon s).page.causes v_page_enables := by
  subst ev_page_enables;
  unfold State.missBeacon; dsimp only; (repeat' split) <;> simp (maxDischargeDepth := 12) [hl]

@[simp] theorem State.closeWindow_attention {s : State} {v_page_enables} (ev_page_enables : s.page.enables = v_page_enables)
    (hl : AttentionOk s.pins.attn s.page.busy s.page.causes s.page.enables) :
    AttentionOk (State.closeWindow s).pins.attn (State.closeWindow s).page.busy (State.closeWindow s).page.causes v_page_enables := by
  subst ev_page_enables;
  unfold State.closeWindow; (repeat' split) <;> simp [hl]

@[simp] theorem State.startCycle_attention {s : State} {v_page_enables} (ev_page_enables : s.page.enables = v_page_enables)
    (hl : AttentionOk s.pins.attn s.page.busy s.page.causes s.page.enables) :
    AttentionOk (State.startCycle s).pins.attn (State.startCycle s).page.busy (State.startCycle s).page.causes v_page_enables := by
  subst ev_page_enables;
  unfold State.startCycle; (repeat' split) <;> simp [hl]

@[simp] theorem State.takeBeacon_attention (n : Word) (b : BeaconBody) {s : State} {v_page_enables}
    (ev_page_enables : s.page.enables = v_page_enables) (hl : AttentionOk s.pins.attn s.page.busy s.page.causes s.page.enables) :
    AttentionOk (State.takeBeacon n b s).pins.attn (State.takeBeacon n b s).page.busy
          (State.takeBeacon n b s).page.causes v_page_enables := by
  subst ev_page_enables;
  unfold State.takeBeacon; dsimp only; (repeat' split) <;> simp (maxDischargeDepth := 12) [hl]

@[simp] theorem State.enterJoined_attention (c : Candidate) (x y z : Byte) {s : State} {v_page_enables}
    (ev_page_enables : s.page.enables = v_page_enables) (hl : AttentionOk s.pins.attn s.page.busy s.page.causes s.page.enables) :
    AttentionOk (State.enterJoined c x y z s).pins.attn (State.enterJoined c x y z s).page.busy
          (State.enterJoined c x y z s).page.causes v_page_enables := by
  subst ev_page_enables;
  unfold State.enterJoined; (repeat' split) <;> simp [hl]

@[simp] theorem State.takeGrantJoin_attention (x y z : Byte) {s : State} {v_page_enables}
    (ev_page_enables : s.page.enables = v_page_enables) (hl : AttentionOk s.pins.attn s.page.busy s.page.causes s.page.enables) :
    AttentionOk (State.takeGrantJoin x y z s).pins.attn (State.takeGrantJoin x y z s).page.busy
          (State.takeGrantJoin x y z s).page.causes v_page_enables := by
  subst ev_page_enables;
  unfold State.takeGrantJoin; (repeat' split) <;> simp [hl]

@[simp] theorem State.joinGrantWaitEnds_attention {s : State} {v_page_enables} (ev_page_enables : s.page.enables = v_page_enables)
    (hl : AttentionOk s.pins.attn s.page.busy s.page.causes s.page.enables) :
    AttentionOk (State.joinGrantWaitEnds s).pins.attn (State.joinGrantWaitEnds s).page.busy
          (State.joinGrantWaitEnds s).page.causes v_page_enables := by
  subst ev_page_enables;
  unfold State.joinGrantWaitEnds; (repeat' split) <;> simp [hl]

@[simp] theorem State.enterActive_attention {s : State} {v_page_enables} (ev_page_enables : s.page.enables = v_page_enables)
    (hl : AttentionOk s.pins.attn s.page.busy s.page.causes s.page.enables) :
    AttentionOk (State.enterActive s).pins.attn (State.enterActive s).page.busy (State.enterActive s).page.causes v_page_enables := by
  subst ev_page_enables;
  unfold State.enterActive; (repeat' split) <;> simp [hl]

@[simp] theorem State.wakeEvent_attention (w : WakeSource) {s : State} {v_page_enables} (ev_page_enables : s.page.enables = v_page_enables)
    (hl : AttentionOk s.pins.attn s.page.busy s.page.causes s.page.enables) :
    AttentionOk (State.wakeEvent w s).pins.attn (State.wakeEvent w s).page.busy (State.wakeEvent w s).page.causes v_page_enables := by
  subst ev_page_enables;
  unfold State.wakeEvent; (repeat' split) <;> simp [hl]

@[simp] theorem State.enterStandby_attention {s : State} {v_page_enables} (ev_page_enables : s.page.enables = v_page_enables)
    (hl : AttentionOk s.pins.attn s.page.busy s.page.causes s.page.enables) :
    AttentionOk (State.enterStandby s).pins.attn (State.enterStandby s).page.busy (State.enterStandby s).page.causes v_page_enables := by
  subst ev_page_enables;
  unfold State.enterStandby; (repeat' split) <;> simp [hl]

@[simp] theorem State.enterSleep_attention {s : State} {v_page_enables} (ev_page_enables : s.page.enables = v_page_enables)
    (hl : AttentionOk s.pins.attn s.page.busy s.page.causes s.page.enables) :
    AttentionOk (State.enterSleep s).pins.attn (State.enterSleep s).page.busy (State.enterSleep s).page.causes v_page_enables := by
  subst ev_page_enables;
  unfold State.enterSleep; (repeat' split) <;> simp [hl]

@[simp] theorem State.endParking_attention {s : State} {v_page_enables} (ev_page_enables : s.page.enables = v_page_enables)
    (hl : AttentionOk s.pins.attn s.page.busy s.page.causes s.page.enables) :
    AttentionOk (State.endParking s).pins.attn (State.endParking s).page.busy (State.endParking s).page.causes v_page_enables := by
  subst ev_page_enables;
  unfold State.endParking; (repeat' split) <;> simp [hl]

@[simp] theorem State.statusSent_attention (b : Bool) {s : State} {v_page_enables} (ev_page_enables : s.page.enables = v_page_enables)
    (hl : AttentionOk s.pins.attn s.page.busy s.page.causes s.page.enables) :
    AttentionOk (State.statusSent b s).pins.attn (State.statusSent b s).page.busy (State.statusSent b s).page.causes v_page_enables := by
  subst ev_page_enables;
  unfold State.statusSent; (repeat' split) <;> simp [hl]

@[simp] theorem State.powerChange_attention (w : Word) {s : State} {v_page_enables} (ev_page_enables : s.page.enables = v_page_enables)
    (hl : AttentionOk s.pins.attn s.page.busy s.page.causes s.page.enables) :
    AttentionOk (State.powerChange w s).pins.attn (State.powerChange w s).page.busy (State.powerChange w s).page.causes v_page_enables := by
  subst ev_page_enables;
  unfold State.powerChange; (repeat' split) <;> simp [hl]

@[simp] theorem State.powerRequest_attention (l : Lanes) (d : Word) {s : State} {v_page_enables}
    (ev_page_enables : s.page.enables = v_page_enables) (hl : AttentionOk s.pins.attn s.page.busy s.page.causes s.page.enables) :
    AttentionOk (State.powerRequest l d s).pins.attn (State.powerRequest l d s).page.busy
          (State.powerRequest l d s).page.causes v_page_enables := by
  subst ev_page_enables;
  unfold State.powerRequest; dsimp only; (repeat' split) <;> simp (maxDischargeDepth := 12) [hl]

@[simp] theorem State.takeClosing_attention {s : State} {v_page_enables} (ev_page_enables : s.page.enables = v_page_enables)
    (hl : AttentionOk s.pins.attn s.page.busy s.page.causes s.page.enables) :
    AttentionOk (State.takeClosing s).pins.attn (State.takeClosing s).page.busy (State.takeClosing s).page.causes v_page_enables := by
  subst ev_page_enables;
  unfold State.takeClosing; dsimp only; (repeat' split) <;> simp (maxDischargeDepth := 12) [hl]

@[simp] theorem State.emergencyRaiseWrite_attention (l : Lanes) (d : Word) {s : State} {v_page_enables}
    (ev_page_enables : s.page.enables = v_page_enables) (hl : AttentionOk s.pins.attn s.page.busy s.page.causes s.page.enables) :
    AttentionOk (State.emergencyRaiseWrite l d s).pins.attn (State.emergencyRaiseWrite l d s).page.busy
          (State.emergencyRaiseWrite l d s).page.causes v_page_enables := by
  subst ev_page_enables;
  unfold State.emergencyRaiseWrite; dsimp only; (repeat' split) <;> simp (maxDischargeDepth := 12) [hl]

@[simp] theorem State.statusRequest_attention (l : Lanes) (d : Word) {s : State} {v_page_enables}
    (ev_page_enables : s.page.enables = v_page_enables) (hl : AttentionOk s.pins.attn s.page.busy s.page.causes s.page.enables) :
    AttentionOk (State.statusRequest l d s).pins.attn (State.statusRequest l d s).page.busy
          (State.statusRequest l d s).page.causes v_page_enables := by
  subst ev_page_enables;
  unfold State.statusRequest; dsimp only; (repeat' split) <;> simp (maxDischargeDepth := 12) [hl]

@[simp] theorem State.closeShift_attention {s : State} {v_page_enables} (ev_page_enables : s.page.enables = v_page_enables)
    (hl : AttentionOk s.pins.attn s.page.busy s.page.causes s.page.enables) :
    AttentionOk (State.closeShift s).pins.attn (State.closeShift s).page.busy (State.closeShift s).page.causes v_page_enables := by
  subst ev_page_enables;
  unfold State.closeShift; (repeat' split) <;> simp [hl]

@[simp] theorem State.shiftControl_attention (l : Lanes) (d : Word) {s : State} {v_page_enables}
    (ev_page_enables : s.page.enables = v_page_enables) (hl : AttentionOk s.pins.attn s.page.busy s.page.causes s.page.enables) :
    AttentionOk (State.shiftControl l d s).pins.attn (State.shiftControl l d s).page.busy
          (State.shiftControl l d s).page.causes v_page_enables := by
  subst ev_page_enables;
  unfold State.shiftControl; dsimp only; (repeat' split) <;> simp (maxDischargeDepth := 12) [hl]

@[simp] theorem State.takeWatched_attention (f : Field) (l : Lanes) (d : Word) {s : State}
    (hl : AttentionOk s.pins.attn s.page.busy s.page.causes s.page.enables) :
    AttentionOk (State.takeWatched f l d s).pins.attn (State.takeWatched f l d s).page.busy (State.takeWatched f l d s).page.causes
          (State.takeWatched f l d s).page.enables := by
  unfold State.takeWatched; (repeat' split) <;> simp [hl]

@[simp] theorem State.guardHit_attention {s : State} {v_page_enables} (ev_page_enables : s.page.enables = v_page_enables)
    (hl : AttentionOk s.pins.attn s.page.busy s.page.causes s.page.enables) :
    AttentionOk (State.guardHit s).pins.attn (State.guardHit s).page.busy (State.guardHit s).page.causes v_page_enables := by
  subst ev_page_enables;
  unfold State.guardHit; (repeat' split) <;> simp [hl]

@[simp] theorem State.acceptWrite_attention (a : BitVec 19) (l : Lanes) (d : Word) (p : MemoryPath) {s : State}
    (hl : AttentionOk s.pins.attn s.page.busy s.page.causes s.page.enables) :
    AttentionOk (State.acceptWrite a l d p s).pins.attn (State.acceptWrite a l d p s).page.busy (State.acceptWrite a l d p s).page.causes
          (State.acceptWrite a l d p s).page.enables := by
  unfold State.acceptWrite; dsimp only; (repeat' split) <;> simp (maxDischargeDepth := 12) [hl]

@[simp] theorem State.answerRead_attention (a : BitVec 19) (l : Lanes) {s : State} {v_pins_attn} (ev_pins_attn : s.pins.attn = v_pins_attn)
    (hl : AttentionOk s.pins.attn s.page.busy s.page.causes s.page.enables) :
    AttentionOk v_pins_attn (State.answerRead a l s).page.busy (State.answerRead a l s).page.causes
          (State.answerRead a l s).page.enables := by
  subst ev_pins_attn;
  unfold State.answerRead; dsimp only; (repeat' split) <;> simp (maxDischargeDepth := 12) [hl]

theorem State.processorWrite?_attention {a : BitVec 19} {l : Lanes} {d : Word} {s t : State}
    (h : s.processorWrite? a l d = some t)
          (hl : AttentionOk s.pins.attn s.page.busy s.page.causes s.page.enables) : AttentionOk t.pins.attn t.page.busy t.page.causes t.page.enables := by
  unfold State.processorWrite? at h; dsimp only at h; split at h
  · simp only [Option.map_eq_some_iff] at h
    obtain ⟨p, -, rfl⟩ := h
    simp [hl]
  · cases h; simp [hl]

theorem State.attempt_attention {h : HeldCycle} {s t : State} (e : s.attempt h = .done t)
    (hl : AttentionOk s.pins.attn s.page.busy s.page.causes s.page.enables) : AttentionOk t.pins.attn t.page.busy t.page.causes t.page.enables := by
  unfold State.attempt at e
  split at e
  · split at e
    · rename_i w; cases e; exact State.processorWrite?_attention w hl
    · cases e
  · split at e
    · cases e
    · split at e
      · cases e
      · cases e; simp [hl]

@[simp] theorem State.processorCycle_attention (c : BusCycle) {s : State}
    (hl : AttentionOk s.pins.attn s.page.busy s.page.causes s.page.enables) :
    AttentionOk (State.processorCycle c s).pins.attn (State.processorCycle c s).page.busy (State.processorCycle c s).page.causes
          (State.processorCycle c s).page.enables := by
  unfold State.processorCycle; split
  · simpa using hl
  · split
    · rename_i e; exact State.attempt_attention e hl
    · simpa using hl

@[simp] theorem State.serviceList_attention (hs : List HeldCycle) {s : State}
    (hl : AttentionOk s.pins.attn s.page.busy s.page.causes s.page.enables) :
    AttentionOk (State.serviceList hs s).pins.attn (State.serviceList hs s).page.busy (State.serviceList hs s).page.causes
          (State.serviceList hs s).page.enables := by
  induction hs generalizing s with
  | nil => simpa [State.serviceList] using hl
  | cons h rest ih =>
    unfold State.serviceList; split
    · simpa using hl
    · split
      · rename_i t e; exact ih (State.attempt_attention e hl)
      · simpa using hl

@[simp] theorem State.service_attention {s : State} (hl : AttentionOk s.pins.attn s.page.busy s.page.causes s.page.enables) :
    AttentionOk (State.service s).pins.attn (State.service s).page.busy (State.service s).page.causes (State.service s).page.enables := by
  unfold State.service; (repeat' split) <;> simp [hl]

@[simp] theorem State.completeDrain_attention {s : State} (hl : AttentionOk s.pins.attn s.page.busy s.page.causes s.page.enables) :
    AttentionOk (State.completeDrain s).pins.attn (State.completeDrain s).page.busy (State.completeDrain s).page.causes
          (State.completeDrain s).page.enables := by
  unfold State.completeDrain; (repeat' split) <;> simp [hl]

@[simp] theorem State.internalCycle_attention {s : State} (hl : AttentionOk s.pins.attn s.page.busy s.page.causes s.page.enables) :
    AttentionOk (State.internalCycle s).pins.attn (State.internalCycle s).page.busy (State.internalCycle s).page.causes
          (State.internalCycle s).page.enables := by
  unfold State.internalCycle; split
  · split
    · split
      · rename_i c rest _; cases c <;> simp (maxDischargeDepth := 12) [State.runCycle, hl]
      · exact hl
    · exact hl
  · exact hl

@[simp] theorem State.startSlot_attention {s : State} {v_page_enables} (ev_page_enables : s.page.enables = v_page_enables)
    (hl : AttentionOk s.pins.attn s.page.busy s.page.causes s.page.enables) :
    AttentionOk (State.startSlot s).pins.attn (State.startSlot s).page.busy (State.startSlot s).page.causes v_page_enables := by
  subst ev_page_enables;
  unfold State.startSlot; dsimp only; (repeat' split) <;> simp (maxDischargeDepth := 12) [hl]

@[simp] theorem State.deliver_attention (f : Sending) {s : State} {v_page_enables} (ev_page_enables : s.page.enables = v_page_enables)
    (hl : AttentionOk s.pins.attn s.page.busy s.page.causes s.page.enables) :
    AttentionOk (State.deliver f s).pins.attn (State.deliver f s).page.busy (State.deliver f s).page.causes v_page_enables := by
  subst ev_page_enables;
  unfold State.deliver; (repeat' split) <;> simp [hl]

@[simp] theorem State.shortSent_attention {s : State} {v_page_enables} (ev_page_enables : s.page.enables = v_page_enables)
    (hl : AttentionOk s.pins.attn s.page.busy s.page.causes s.page.enables) :
    AttentionOk (State.shortSent s).pins.attn (State.shortSent s).page.busy (State.shortSent s).page.causes v_page_enables := by
  subst ev_page_enables;
  unfold State.shortSent; (repeat' split) <;> simp [hl]

@[simp] theorem State.becomeReady_attention {s : State} {v_page_enables} (ev_page_enables : s.page.enables = v_page_enables)
    (hl : AttentionOk s.pins.attn s.page.busy s.page.causes s.page.enables) :
    AttentionOk (State.becomeReady s).pins.attn (State.becomeReady s).page.busy (State.becomeReady s).page.causes v_page_enables := by
  subst ev_page_enables;
  unfold State.becomeReady; dsimp only; (repeat' split) <;> simp (maxDischargeDepth := 12) [hl]

@[simp] theorem State.softResetPage_attention {s : State} :
    AttentionOk (State.softResetPage s).pins.attn (State.softResetPage s).page.busy (State.softResetPage s).page.causes
          (State.softResetPage s).page.enables := by
  exact ⟨rfl, fun _ => by simp [State.softResetPage, ControlPage.reset]⟩

@[simp] theorem State.softReset_attention {s : State} (hl : AttentionOk s.pins.attn s.page.busy s.page.causes s.page.enables) :
    AttentionOk (State.softReset s).pins.attn (State.softReset s).page.busy (State.softReset s).page.causes
          (State.softReset s).page.enables := by
  unfold State.softReset; (repeat' split) <;> simp [hl]

@[simp] theorem State.powerOn_attention (a : BitVec 4) {s : State} :
    AttentionOk (State.powerOn a s).pins.attn (State.powerOn a s).page.busy (State.powerOn a s).page.causes
          (State.powerOn a s).page.enables := by
  exact State.service_attention ⟨rfl, fun _ => by simp [State.reset, ControlPage.reset]⟩

@[simp] theorem State.meterMessage_attention (m : MeterMessage) {s : State} {v_page_enables}
    (ev_page_enables : s.page.enables = v_page_enables) (hl : AttentionOk s.pins.attn s.page.busy s.page.causes s.page.enables) :
    AttentionOk (State.meterMessage m s).pins.attn (State.meterMessage m s).page.busy
          (State.meterMessage m s).page.causes v_page_enables := by
  subst ev_page_enables;
  unfold State.meterMessage; (repeat' split) <;> simp [hl]

@[simp] theorem State.takeMeter_attention (m : MeterMessage) {s : State} {v_page_enables}
    (ev_page_enables : s.page.enables = v_page_enables) (hl : AttentionOk s.pins.attn s.page.busy s.page.causes s.page.enables) :
    AttentionOk (State.takeMeter m s).pins.attn (State.takeMeter m s).page.busy (State.takeMeter m s).page.causes v_page_enables := by
  subst ev_page_enables;
  unfold State.takeMeter; (repeat' split) <;> simp [hl]

@[simp] theorem State.takeWake_attention (c : List Word) {s : State} {v_page_enables} (ev_page_enables : s.page.enables = v_page_enables)
    (hl : AttentionOk s.pins.attn s.page.busy s.page.causes s.page.enables) :
    AttentionOk (State.takeWake c s).pins.attn (State.takeWake c s).page.busy (State.takeWake c s).page.causes v_page_enables := by
  subst ev_page_enables;
  unfold State.takeWake; (repeat' split) <;> simp [hl]

@[simp] theorem State.route_attention (d : DownHeader) (b : DownBody) {s : State}
    (hl : AttentionOk s.pins.attn s.page.busy s.page.causes s.page.enables) :
    AttentionOk (State.route d b s).pins.attn (State.route d b s).page.busy (State.route d b s).page.causes
          (State.route d b s).page.enables := by
  unfold State.route; (repeat' split) <;> simp [hl]

@[simp] theorem State.receive_attention (d : DownHeader) (b : DownBody) {s : State}
    (hl : AttentionOk s.pins.attn s.page.busy s.page.causes s.page.enables) :
    AttentionOk (State.receive d b s).pins.attn (State.receive d b s).page.busy (State.receive d b s).page.causes
          (State.receive d b s).page.enables := by
  unfold State.receive; (repeat' split) <;> simp [hl]

@[simp] theorem State.writeAt_attention (o : Nat) (l : Lanes) (d : Word) {s : State}
    (hl : AttentionOk s.pins.attn s.page.busy s.page.causes s.page.enables) :
    AttentionOk (State.writeAt o l d s).pins.attn (State.writeAt o l d s).page.busy (State.writeAt o l d s).page.causes
          (State.writeAt o l d s).page.enables := by
  unfold State.writeAt; (repeat' split) <;> simp [hl]

@[simp] theorem State.readAt_attention (o : Nat) (l : Lanes) {s : State}
    (hl : AttentionOk s.pins.attn s.page.busy s.page.causes s.page.enables) :
    AttentionOk (State.readAt o l s).pins.attn (State.readAt o l s).page.busy (State.readAt o l s).page.causes
          (State.readAt o l s).page.enables := by
  unfold State.readAt; (repeat' split) <;> simp [hl]

@[simp] theorem State.complete_attention (k : OpKind) {owner : UnderWay → State → State} {s : State}
    (ho : ∀ u t, AttentionOk t.pins.attn t.page.busy t.page.causes t.page.enables → AttentionOk (owner u t).pins.attn (owner u t).page.busy (owner u t).page.causes (owner u t).page.enables) (hl : AttentionOk s.pins.attn s.page.busy s.page.causes s.page.enables) :
    AttentionOk (State.complete k owner s).pins.attn (State.complete k owner s).page.busy (State.complete k owner s).page.causes
          (State.complete k owner s).page.enables := by
  unfold State.complete; split
  · exact State.service_attention (ho _ _ (by simp [hl]))
  · exact hl

end Sys2Proof.Machine
end

