-- ==== Sys2Proof/Laws/Link.lean ====
section
/-! SUPPORT. The link law is kept by the operations that a command is made of. -/

namespace Sys2Proof.Machine

/-- The link law on the values it speaks of. -/
def LinkOk (state : LinkState) (site : Option SiteRecord) (joining : Option Candidate) (hunt : Option Hunt) (joinPlace : Bool)
    (grantWait : Option Nat) : Prop :=
  (state = .joined ↔ site.isSome = true) ∧ (state = .join ↔ joining.isSome = true) ∧ (state = .hunt ↔ hunt.isSome = true) ∧
    (joinPlace = true → state = .join) ∧ (grantWait.isSome = true → state = .join)

theorem State.linkLaw_iff
    (s : State) : s.linkLaw ↔ LinkOk s.link.state s.link.site s.link.joining s.link.hunt s.sched.joinPlace s.link.grantWait := Iff.rfl

/-- Outside JOINED there is no site record. -/
theorem LinkOk.site_none {state : LinkState} {site : Option SiteRecord} {joining : Option Candidate} {hunt : Option Hunt}
    {joinPlace : Bool} {grantWait : Option Nat} (h : LinkOk state site joining hunt joinPlace grantWait) (hs : state ≠ .joined) :
    site = none := by
  have := h.1
  cases site <;> simp_all


@[simp] theorem State.leaveJoin_link {s : State} {v_link_state} (ev_link_state : s.link.state = v_link_state) {v_link_site}
    (ev_link_site : s.link.site = v_link_site) {v_link_joining} (ev_link_joining : s.link.joining = v_link_joining) {v_link_hunt}
    (ev_link_hunt : s.link.hunt = v_link_hunt)
    (hl : LinkOk s.link.state s.link.site s.link.joining s.link.hunt s.sched.joinPlace s.link.grantWait) :
    LinkOk v_link_state v_link_site v_link_joining v_link_hunt (State.leaveJoin s).sched.joinPlace (State.leaveJoin s).link.grantWait := by
  subst ev_link_state; subst ev_link_site; subst ev_link_joining; subst ev_link_hunt;
  obtain ⟨h1, h2, h3, -, -⟩ := hl
  refine ⟨by simpa using h1, by simpa using h2, by simpa using h3, ?_, ?_⟩ <;> simp [State.leaveJoin, Scheduler.clearJoin]

@[simp] theorem State.exitLink_link {s : State} {v_link_state} (ev_link_state : s.link.state = v_link_state) {v_link_site}
    (ev_link_site : s.link.site = v_link_site) {v_link_joining} (ev_link_joining : s.link.joining = v_link_joining) {v_link_hunt}
    (ev_link_hunt : s.link.hunt = v_link_hunt)
    (hl : LinkOk s.link.state s.link.site s.link.joining s.link.hunt s.sched.joinPlace s.link.grantWait) :
    LinkOk v_link_state v_link_site v_link_joining v_link_hunt (State.exitLink s).sched.joinPlace (State.exitLink s).link.grantWait := by
  subst ev_link_state; subst ev_link_site; subst ev_link_joining; subst ev_link_hunt;
  unfold State.exitLink; (repeat' split) <;> simp (maxDischargeDepth := 12) [hl]

@[simp] theorem State.enterQuiet_link (b : Bool) {s : State}
    (hl : LinkOk s.link.state s.link.site s.link.joining s.link.hunt s.sched.joinPlace s.link.grantWait) :
    LinkOk (State.enterQuiet b s).link.state (State.enterQuiet b s).link.site (State.enterQuiet b s).link.joining
          (State.enterQuiet b s).link.hunt (State.enterQuiet b s).sched.joinPlace (State.enterQuiet b s).link.grantWait := by
  have he : s.exitLink.sched.joinPlace = false := by
    obtain ⟨-, -, -, h4, -⟩ := hl
    unfold State.exitLink State.leaveJoin
    cases hj : s.sched.joinPlace
    · split <;> simp [Scheduler.clearJoin, hj]
    · simp [h4 hj, Scheduler.clearJoin]
  unfold State.enterQuiet; dsimp only; (repeat' split) <;> simp [LinkController.cleared, LinkOk, he]

@[simp] theorem State.enterOff_link {s : State}
    (hl : LinkOk s.link.state s.link.site s.link.joining s.link.hunt s.sched.joinPlace s.link.grantWait) :
    LinkOk (State.enterOff s).link.state (State.enterOff s).link.site (State.enterOff s).link.joining (State.enterOff s).link.hunt
          (State.enterOff s).sched.joinPlace (State.enterOff s).link.grantWait := by
  have he : s.exitLink.sched.joinPlace = false := by
    obtain ⟨-, -, -, h4, -⟩ := hl
    unfold State.exitLink State.leaveJoin
    cases hj : s.sched.joinPlace
    · split <;> simp [Scheduler.clearJoin, hj]
    · simp [h4 hj, Scheduler.clearJoin]
  unfold State.enterOff; dsimp only
  simp [LinkController.cleared, LinkOk, he]

@[simp] theorem State.enterJoin_link (c : Candidate) {s : State} {v_link_site} (ev_link_site : s.link.site = v_link_site)
    (hs : s.link.site = none) :
    LinkOk (State.enterJoin c s).link.state v_link_site (State.enterJoin c s).link.joining (State.enterJoin c s).link.hunt
          (State.enterJoin c s).sched.joinPlace (State.enterJoin c s).link.grantWait := by
  subst ev_link_site;
  unfold State.enterJoin; dsimp only; simp [LinkOk, hs]

@[simp] theorem State.endPass_link {s : State}
    (hl : LinkOk s.link.state s.link.site s.link.joining s.link.hunt s.sched.joinPlace s.link.grantWait) (hs : s.link.site = none) :
    LinkOk (State.endPass s).link.state (State.endPass s).link.site (State.endPass s).link.joining (State.endPass s).link.hunt
          (State.endPass s).sched.joinPlace (State.endPass s).link.grantWait := by
  unfold State.endPass; split
  · simp (maxDischargeDepth := 12) [hs]
  · simp (maxDischargeDepth := 12) [hl]

@[simp] theorem State.candidateFails_link {s : State}
    (hl : LinkOk s.link.state s.link.site s.link.joining s.link.hunt s.sched.joinPlace s.link.grantWait) :
    LinkOk (State.candidateFails s).link.state (State.candidateFails s).link.site (State.candidateFails s).link.joining
          (State.candidateFails s).link.hunt (State.candidateFails s).sched.joinPlace (State.candidateFails s).link.grantWait := by
  unfold State.candidateFails; split
  · rename_i c hc
    have hs : s.link.site = none := hl.site_none (by simp [hl.2.1.2 (by simp [hc])])
    dsimp only; split
    · simp (maxDischargeDepth := 12) [hs]
    · have h0 := State.leaveJoin_link rfl rfl rfl rfl hl
      refine State.enterQuiet_link _ ?_
      simpa using h0
  · exact hl

@[simp] theorem State.tuneNext_link (c : Word) (r : List Word) {s : State} {v_link_site} (ev_link_site : s.link.site = v_link_site)
    {v_link_joining} (ev_link_joining : s.link.joining = v_link_joining) {v_sched_joinPlace}
    (ev_sched_joinPlace : s.sched.joinPlace = v_sched_joinPlace) {v_link_grantWait}
    (ev_link_grantWait : s.link.grantWait = v_link_grantWait)
    (hl : LinkOk s.link.state s.link.site s.link.joining s.link.hunt s.sched.joinPlace s.link.grantWait)
    (hs : s.link.state = .hunt ∨ s.link.state = .quiet) :
    LinkOk (State.tuneNext c r s).link.state v_link_site v_link_joining
          (State.tuneNext c r s).link.hunt v_sched_joinPlace v_link_grantWait := by
  subst ev_link_site; subst ev_link_joining; subst ev_sched_joinPlace; subst ev_link_grantWait;
  obtain ⟨h1, h2, h3, h4, h5⟩ := hl
  rcases hs with hs | hs <;> simp_all [State.tuneNext, LinkOk]

@[simp] theorem State.quickJoin_link (c : Word) (r : Run) {s : State} {v_link_site} (ev_link_site : s.link.site = v_link_site)
    (hs : s.link.site = none) :
    LinkOk (State.quickJoin c r s).link.state v_link_site (State.quickJoin c r s).link.joining (State.quickJoin c r s).link.hunt
          (State.quickJoin c r s).sched.joinPlace (State.quickJoin c r s).link.grantWait := by
  subst ev_link_site;
  simp [State.quickJoin, hs]

@[simp] theorem State.nextChannel_link {s : State}
    (hl : LinkOk s.link.state s.link.site s.link.joining s.link.hunt s.sched.joinPlace s.link.grantWait) :
    LinkOk (State.nextChannel s).link.state (State.nextChannel s).link.site (State.nextChannel s).link.joining
          (State.nextChannel s).link.hunt (State.nextChannel s).sched.joinPlace (State.nextChannel s).link.grantWait := by
  unfold State.nextChannel; split
  · rename_i h hh
    have hst : s.link.state = .hunt := hl.2.2.1.2 (by simp [hh])
    have hs : s.link.site = none := hl.site_none (by simp [hst])
    (repeat' split) <;> first
      | exact State.endPass_link hl hs
      | exact State.tuneNext_link _ _ rfl rfl rfl rfl hl (Or.inl hst)
      | exact State.quickJoin_link _ _ (by simp) hs
  · exact hl

@[simp] theorem State.startHunt_link {s : State} {v_link_site} (ev_link_site : s.link.site = v_link_site) {v_link_joining}
    (ev_link_joining : s.link.joining = v_link_joining) {v_sched_joinPlace} (ev_sched_joinPlace : s.sched.joinPlace = v_sched_joinPlace)
    {v_link_grantWait} (ev_link_grantWait : s.link.grantWait = v_link_grantWait)
    (hl : LinkOk s.link.state s.link.site s.link.joining s.link.hunt s.sched.joinPlace s.link.grantWait) (hs : s.link.state = .quiet) :
    LinkOk (State.startHunt s).link.state v_link_site v_link_joining (State.startHunt s).link.hunt v_sched_joinPlace v_link_grantWait := by
  subst ev_link_site; subst ev_link_joining; subst ev_sched_joinPlace; subst ev_link_grantWait;
  unfold State.startHunt; split
  · exact State.tuneNext_link _ _ rfl rfl rfl rfl hl (Or.inr hs)
  · exact hl

@[simp] theorem State.huntBeacon_link (g : Bool) (n : Word) (a : Byte) {s : State}
    (hl : LinkOk s.link.state s.link.site s.link.joining s.link.hunt s.sched.joinPlace s.link.grantWait) :
    LinkOk (State.huntBeacon g n a s).link.state (State.huntBeacon g n a s).link.site (State.huntBeacon g n a s).link.joining
          (State.huntBeacon g n a s).link.hunt (State.huntBeacon g n a s).sched.joinPlace (State.huntBeacon g n a s).link.grantWait := by
  unfold State.huntBeacon; split
  · rename_i h hh
    have hst : s.link.state = .hunt := hl.2.2.1.2 (by simp [hh])
    have hs : s.link.site = none := hl.site_none (by simp [hst])
    have hn : ∀ k, LinkOk s.link.state s.link.site s.link.joining (some k) s.sched.joinPlace s.link.grantWait := by
      intro k
      obtain ⟨h1, h2, h3, h4, h5⟩ := hl
      exact ⟨h1, h2, by simp [hst], h4, h5⟩
    dsimp only; (repeat' split) <;> first
      | exact State.endPass_link hl hs
      | exact State.quickJoin_link _ _ (by simp) hs
      | exact hn _
      | (refine State.nextChannel_link ?_; exact hn _)
  · exact hl

@[simp] theorem State.joinFails_link {s : State}
    (hl : LinkOk s.link.state s.link.site s.link.joining s.link.hunt s.sched.joinPlace s.link.grantWait) :
    LinkOk (State.joinFails s).link.state (State.joinFails s).link.site (State.joinFails s).link.joining (State.joinFails s).link.hunt
          (State.joinFails s).sched.joinPlace (State.joinFails s).link.grantWait := by
  unfold State.joinFails; split
  · simp [hl]
  · obtain ⟨h1, h2, h3, h4, h5⟩ := hl
    exact ⟨h1, h2, h3, h4, by simp⟩

@[simp] theorem State.contenderFails_link (c : Contender) {s : State}
    (hl : LinkOk s.link.state s.link.site s.link.joining s.link.hunt s.sched.joinPlace s.link.grantWait) :
    LinkOk (State.contenderFails c s).link.state (State.contenderFails c s).link.site (State.contenderFails c s).link.joining
          (State.contenderFails c s).link.hunt (State.contenderFails c s).sched.joinPlace (State.contenderFails c s).link.grantWait := by
  unfold State.contenderFails; (repeat' split) <;> simp (maxDischargeDepth := 12) [hl]

@[simp] theorem State.contentionOutcome_link (b : Bool) {s : State}
    (hl : LinkOk s.link.state s.link.site s.link.joining s.link.hunt s.sched.joinPlace s.link.grantWait) :
    LinkOk (State.contentionOutcome b s).link.state (State.contentionOutcome b s).link.site (State.contentionOutcome b s).link.joining
          (State.contentionOutcome b s).link.hunt (State.contentionOutcome b s).sched.joinPlace
          (State.contentionOutcome b s).link.grantWait := by
  have hh : ∀ (u : Scheduler) (c : Contender), LinkOk s.link.state s.link.site s.link.joining s.link.hunt u.joinPlace s.link.grantWait →
      LinkOk s.link.state s.link.site s.link.joining s.link.hunt (u.heard c).joinPlace s.link.grantWait := by
    intro u c ⟨h1, h2, h3, h4, h5⟩
    refine ⟨h1, h2, h3, ?_, h5⟩
    cases c <;> simp only [Scheduler.heard] <;> (try split) <;> first | exact h4 | (simp; done) | simpa using h4
  unfold State.contentionOutcome; dsimp only; (repeat' split) <;> first
    | exact hl
    | (simp (maxDischargeDepth := 12) [hl]; done)
    | exact hh _ _ hl

@[simp] theorem State.countCycleStart_link {s : State} {v_link_state} (ev_link_state : s.link.state = v_link_state) {v_link_site}
    (ev_link_site : s.link.site = v_link_site) {v_link_joining} (ev_link_joining : s.link.joining = v_link_joining) {v_link_hunt}
    (ev_link_hunt : s.link.hunt = v_link_hunt) {v_sched_joinPlace} (ev_sched_joinPlace : s.sched.joinPlace = v_sched_joinPlace)
    (hl : LinkOk s.link.state s.link.site s.link.joining s.link.hunt s.sched.joinPlace s.link.grantWait) :
    LinkOk v_link_state v_link_site v_link_joining v_link_hunt v_sched_joinPlace (State.countCycleStart s).link.grantWait := by
  subst ev_link_state; subst ev_link_site; subst ev_link_joining; subst ev_link_hunt; subst ev_sched_joinPlace;
  obtain ⟨h1, h2, h3, h4, h5⟩ := hl
  refine ⟨h1, h2, h3, h4, ?_⟩
  intro h
  apply h5
  simp only [State.countCycleStart, State.endPassedGrant_frame] at h
  cases hg : s.link.grantWait <;> simp_all [cycleTick]

@[simp] theorem State.missBeacon_link {s : State}
    (hl : LinkOk s.link.state s.link.site s.link.joining s.link.hunt s.sched.joinPlace s.link.grantWait) :
    LinkOk (State.missBeacon s).link.state (State.missBeacon s).link.site (State.missBeacon s).link.joining (State.missBeacon s).link.hunt
          (State.missBeacon s).sched.joinPlace (State.missBeacon s).link.grantWait := by
  unfold State.missBeacon; dsimp only; split
  · rename_i hst
    obtain ⟨h1, h2, h3, h4, h5⟩ := hl
    exact ⟨h1, h2, by simpa using h3, h4, h5⟩
  · have h0 : LinkOk s.link.state s.link.site s.link.joining s.link.hunt s.sched.joinPlace s.link.grantWait := hl
    split <;> simp (maxDischargeDepth := 12) [hl]
  · split <;> simp (maxDischargeDepth := 12) [hl]
  · simpa using hl
  · simpa using hl

@[simp] theorem State.closeWindow_link {s : State}
    (hl : LinkOk s.link.state s.link.site s.link.joining s.link.hunt s.sched.joinPlace s.link.grantWait) :
    LinkOk (State.closeWindow s).link.state (State.closeWindow s).link.site (State.closeWindow s).link.joining
          (State.closeWindow s).link.hunt (State.closeWindow s).sched.joinPlace (State.closeWindow s).link.grantWait := by
  unfold State.closeWindow; (repeat' split) <;> simp (maxDischargeDepth := 12) [hl]

@[simp] theorem State.startCycle_link {s : State}
    (hl : LinkOk s.link.state s.link.site s.link.joining s.link.hunt s.sched.joinPlace s.link.grantWait) :
    LinkOk (State.startCycle s).link.state (State.startCycle s).link.site (State.startCycle s).link.joining (State.startCycle s).link.hunt
          (State.startCycle s).sched.joinPlace (State.startCycle s).link.grantWait := by
  unfold State.startCycle; (repeat' split) <;> simp (maxDischargeDepth := 12) [hl]

@[simp] theorem State.alignCycle_link (b : BeaconBody) {s : State} {v_link_state} (ev_link_state : s.link.state = v_link_state)
    {v_link_site} (ev_link_site : s.link.site = v_link_site) {v_link_joining} (ev_link_joining : s.link.joining = v_link_joining)
    {v_link_hunt} (ev_link_hunt : s.link.hunt = v_link_hunt) {v_sched_joinPlace}
    (ev_sched_joinPlace : s.sched.joinPlace = v_sched_joinPlace)
    (hl : LinkOk s.link.state s.link.site s.link.joining s.link.hunt s.sched.joinPlace s.link.grantWait) :
    LinkOk v_link_state v_link_site v_link_joining v_link_hunt v_sched_joinPlace (State.alignCycle b s).link.grantWait := by
  subst ev_link_state; subst ev_link_site; subst ev_link_joining; subst ev_link_hunt; subst ev_sched_joinPlace;
  unfold State.alignCycle; dsimp only; split <;> simp (maxDischargeDepth := 12) [hl]

@[simp] theorem State.takeBeacon_link (n : Word) (b : BeaconBody) {s : State}
    (hl : LinkOk s.link.state s.link.site s.link.joining s.link.hunt s.sched.joinPlace s.link.grantWait) :
    LinkOk (State.takeBeacon n b s).link.state (State.takeBeacon n b s).link.site (State.takeBeacon n b s).link.joining
          (State.takeBeacon n b s).link.hunt (State.takeBeacon n b s).sched.joinPlace (State.takeBeacon n b s).link.grantWait := by
  have h1 : ∀ f : SiteRecord → SiteRecord, LinkOk s.link.state (s.link.site.map f) s.link.joining
      s.link.hunt s.sched.joinPlace (s.alignCycle b).link.grantWait := by
    intro f
    obtain ⟨h1, h2, h3, h4, h5⟩ := State.alignCycle_link b rfl rfl rfl rfl rfl hl
    exact ⟨by simpa using h1, h2, h3, h4, h5⟩
  unfold State.takeBeacon; dsimp only; split <;> simp (maxDischargeDepth := 12) [hl, h1]

@[simp] theorem State.enterJoined_link (c : Candidate) (x y z : Byte) {s : State} {v_link_hunt} (ev_link_hunt : s.link.hunt = v_link_hunt)
    (hl : LinkOk s.link.state s.link.site s.link.joining s.link.hunt s.sched.joinPlace s.link.grantWait) (hs : s.link.state = .join) :
    LinkOk (State.enterJoined c x y z s).link.state (State.enterJoined c x y z s).link.site
          (State.enterJoined c x y z s).link.joining v_link_hunt (State.enterJoined c x y z s).sched.joinPlace
          (State.enterJoined c x y z s).link.grantWait := by
  subst ev_link_hunt;
  obtain ⟨h1, h2, h3, h4, h5⟩ := hl
  simp_all (maxDischargeDepth := 12) [State.enterJoined, State.leaveJoin, Scheduler.clearJoin, LinkOk]

@[simp] theorem State.takeGrantJoin_link (x y z : Byte) {s : State} {v_link_hunt} (ev_link_hunt : s.link.hunt = v_link_hunt)
    (hl : LinkOk s.link.state s.link.site s.link.joining s.link.hunt s.sched.joinPlace s.link.grantWait) :
    LinkOk (State.takeGrantJoin x y z s).link.state (State.takeGrantJoin x y z s).link.site
          (State.takeGrantJoin x y z s).link.joining v_link_hunt (State.takeGrantJoin x y z s).sched.joinPlace
          (State.takeGrantJoin x y z s).link.grantWait := by
  subst ev_link_hunt;
  unfold State.takeGrantJoin; (repeat' split)
  · rename_i c hc _
    exact State.enterJoined_link _ _ _ _ rfl hl (hl.2.1.2 (by simp [hc]))
  · exact hl
  · exact hl

@[simp] theorem State.joinGrantWaitEnds_link {s : State}
    (hl : LinkOk s.link.state s.link.site s.link.joining s.link.hunt s.sched.joinPlace s.link.grantWait) :
    LinkOk (State.joinGrantWaitEnds s).link.state (State.joinGrantWaitEnds s).link.site (State.joinGrantWaitEnds s).link.joining
          (State.joinGrantWaitEnds s).link.hunt (State.joinGrantWaitEnds s).sched.joinPlace (State.joinGrantWaitEnds s).link.grantWait := by
  unfold State.joinGrantWaitEnds; (repeat' split)
  · simp [hl]
  · rename_i h _
    simp only [Bool.and_eq_true, beq_iff_eq] at h
    obtain ⟨h1, h2, h3, h4, h5⟩ := hl
    exact ⟨h1, h2, h3, fun _ => h.1, by simp⟩
  · exact hl

@[simp] theorem State.enterActive_link {s : State}
    (hl : LinkOk s.link.state s.link.site s.link.joining s.link.hunt s.sched.joinPlace s.link.grantWait) :
    LinkOk (State.enterActive s).link.state (State.enterActive s).link.site (State.enterActive s).link.joining
          (State.enterActive s).link.hunt (State.enterActive s).sched.joinPlace (State.enterActive s).link.grantWait := by
  unfold State.enterActive; (repeat' split) <;> simp (maxDischargeDepth := 12) [hl]

@[simp] theorem State.wakeEvent_link (w : WakeSource) {s : State}
    (hl : LinkOk s.link.state s.link.site s.link.joining s.link.hunt s.sched.joinPlace s.link.grantWait) :
    LinkOk (State.wakeEvent w s).link.state (State.wakeEvent w s).link.site (State.wakeEvent w s).link.joining
          (State.wakeEvent w s).link.hunt (State.wakeEvent w s).sched.joinPlace (State.wakeEvent w s).link.grantWait := by
  unfold State.wakeEvent; (repeat' split) <;> simp (maxDischargeDepth := 12) [hl]

@[simp] theorem State.enterSleep_link {s : State}
    (hl : LinkOk s.link.state s.link.site s.link.joining s.link.hunt s.sched.joinPlace s.link.grantWait) :
    LinkOk (State.enterSleep s).link.state (State.enterSleep s).link.site (State.enterSleep s).link.joining (State.enterSleep s).link.hunt
          (State.enterSleep s).sched.joinPlace (State.enterSleep s).link.grantWait := by
  unfold State.enterSleep; (repeat' split) <;> simp (maxDischargeDepth := 12) [hl]

@[simp] theorem State.endParking_link {s : State}
    (hl : LinkOk s.link.state s.link.site s.link.joining s.link.hunt s.sched.joinPlace s.link.grantWait) :
    LinkOk (State.endParking s).link.state (State.endParking s).link.site (State.endParking s).link.joining (State.endParking s).link.hunt
          (State.endParking s).sched.joinPlace (State.endParking s).link.grantWait := by
  unfold State.endParking; (repeat' split) <;> simp (maxDischargeDepth := 12) [hl]

@[simp] theorem State.statusSent_link (b : Bool) {s : State}
    (hl : LinkOk s.link.state s.link.site s.link.joining s.link.hunt s.sched.joinPlace s.link.grantWait) :
    LinkOk (State.statusSent b s).link.state (State.statusSent b s).link.site (State.statusSent b s).link.joining
          (State.statusSent b s).link.hunt (State.statusSent b s).sched.joinPlace (State.statusSent b s).link.grantWait := by
  unfold State.statusSent; (repeat' split) <;> simp (maxDischargeDepth := 12) [hl]

@[simp] theorem State.powerChange_link (w : Word) {s : State}
    (hl : LinkOk s.link.state s.link.site s.link.joining s.link.hunt s.sched.joinPlace s.link.grantWait) :
    LinkOk (State.powerChange w s).link.state (State.powerChange w s).link.site (State.powerChange w s).link.joining
          (State.powerChange w s).link.hunt (State.powerChange w s).sched.joinPlace (State.powerChange w s).link.grantWait := by
  unfold State.powerChange; (repeat' split) <;> simp (maxDischargeDepth := 12) [hl]

@[simp] theorem State.powerRequest_link (l : Lanes) (d : Word) {s : State}
    (hl : LinkOk s.link.state s.link.site s.link.joining s.link.hunt s.sched.joinPlace s.link.grantWait) :
    LinkOk (State.powerRequest l d s).link.state (State.powerRequest l d s).link.site (State.powerRequest l d s).link.joining
          (State.powerRequest l d s).link.hunt (State.powerRequest l d s).sched.joinPlace (State.powerRequest l d s).link.grantWait := by
  unfold State.powerRequest; dsimp only; (repeat' split) <;> simp (maxDischargeDepth := 12) [hl]

@[simp] theorem State.takeClosing_link {s : State}
    (hl : LinkOk s.link.state s.link.site s.link.joining s.link.hunt s.sched.joinPlace s.link.grantWait) :
    LinkOk (State.takeClosing s).link.state (State.takeClosing s).link.site (State.takeClosing s).link.joining
          (State.takeClosing s).link.hunt (State.takeClosing s).sched.joinPlace (State.takeClosing s).link.grantWait := by
  unfold State.takeClosing; dsimp only; (repeat' split) <;> simp (maxDischargeDepth := 12) [hl]

@[simp] theorem State.takeWatched_link (f : Field) (l : Lanes) (d : Word) {s : State}
    (hl : LinkOk s.link.state s.link.site s.link.joining s.link.hunt s.sched.joinPlace s.link.grantWait) :
    LinkOk (State.takeWatched f l d s).link.state (State.takeWatched f l d s).link.site (State.takeWatched f l d s).link.joining
          (State.takeWatched f l d s).link.hunt (State.takeWatched f l d s).sched.joinPlace (State.takeWatched f l d s).link.grantWait := by
  unfold State.takeWatched; (repeat' split) <;> simp (maxDischargeDepth := 12) [hl]

@[simp] theorem State.acceptWrite_link (a : BitVec 19) (l : Lanes) (d : Word) (p : MemoryPath) {s : State}
    (hl : LinkOk s.link.state s.link.site s.link.joining s.link.hunt s.sched.joinPlace s.link.grantWait) :
    LinkOk (State.acceptWrite a l d p s).link.state (State.acceptWrite a l d p s).link.site (State.acceptWrite a l d p s).link.joining
          (State.acceptWrite a l d p s).link.hunt (State.acceptWrite a l d p s).sched.joinPlace
          (State.acceptWrite a l d p s).link.grantWait := by
  unfold State.acceptWrite; dsimp only; (repeat' split) <;> simp (maxDischargeDepth := 12) [hl]

@[simp] theorem State.answerRead_link (a : BitVec 19) (l : Lanes) {s : State} {v_sched_joinPlace}
    (ev_sched_joinPlace : s.sched.joinPlace = v_sched_joinPlace)
    (hl : LinkOk s.link.state s.link.site s.link.joining s.link.hunt s.sched.joinPlace s.link.grantWait) :
    LinkOk (State.answerRead a l s).link.state (State.answerRead a l s).link.site (State.answerRead a l s).link.joining
          (State.answerRead a l s).link.hunt v_sched_joinPlace (State.answerRead a l s).link.grantWait := by
  subst ev_sched_joinPlace;
  unfold State.answerRead; dsimp only; (repeat' split) <;> simp (maxDischargeDepth := 12) [hl]

theorem State.processorWrite?_link {a : BitVec 19} {l : Lanes} {d : Word} {s t : State}
    (h : s.processorWrite? a l d = some t)
          (hl : LinkOk s.link.state s.link.site s.link.joining s.link.hunt s.sched.joinPlace s.link.grantWait) : LinkOk t.link.state t.link.site t.link.joining t.link.hunt t.sched.joinPlace t.link.grantWait := by
  unfold State.processorWrite? at h; dsimp only at h; split at h
  · simp only [Option.map_eq_some_iff] at h
    obtain ⟨p, -, rfl⟩ := h
    simp (maxDischargeDepth := 12) [hl]
  · cases h; simp (maxDischargeDepth := 12) [hl]

theorem State.attempt_link {h : HeldCycle} {s t : State} (e : s.attempt h = .done t)
    (hl : LinkOk s.link.state s.link.site s.link.joining s.link.hunt s.sched.joinPlace s.link.grantWait) : LinkOk t.link.state t.link.site t.link.joining t.link.hunt t.sched.joinPlace t.link.grantWait := by
  unfold State.attempt at e
  split at e
  · split at e
    · rename_i w; cases e; exact State.processorWrite?_link w hl
    · cases e
  · split at e
    · cases e
    · split at e
      · cases e
      · cases e; simp (maxDischargeDepth := 12) [hl]

@[simp] theorem State.processorCycle_link (c : BusCycle) {s : State}
    (hl : LinkOk s.link.state s.link.site s.link.joining s.link.hunt s.sched.joinPlace s.link.grantWait) :
    LinkOk (State.processorCycle c s).link.state (State.processorCycle c s).link.site (State.processorCycle c s).link.joining
          (State.processorCycle c s).link.hunt (State.processorCycle c s).sched.joinPlace (State.processorCycle c s).link.grantWait := by
  unfold State.processorCycle; split
  · simp (maxDischargeDepth := 12) [hl]
  · split
    · rename_i e; exact State.attempt_link e hl
    · simp (maxDischargeDepth := 12) [hl]

@[simp] theorem State.serviceList_link (hs : List HeldCycle) {s : State}
    (hl : LinkOk s.link.state s.link.site s.link.joining s.link.hunt s.sched.joinPlace s.link.grantWait) :
    LinkOk (State.serviceList hs s).link.state (State.serviceList hs s).link.site (State.serviceList hs s).link.joining
          (State.serviceList hs s).link.hunt (State.serviceList hs s).sched.joinPlace (State.serviceList hs s).link.grantWait := by
  induction hs generalizing s with
  | nil => unfold State.serviceList; simp (maxDischargeDepth := 12) [hl]
  | cons h rest ih =>
    unfold State.serviceList; split
    · simp (maxDischargeDepth := 12) [hl]
    · split
      · rename_i t e; exact ih (State.attempt_link e hl)
      · simp (maxDischargeDepth := 12) [hl]

@[simp] theorem State.service_link {s : State}
    (hl : LinkOk s.link.state s.link.site s.link.joining s.link.hunt s.sched.joinPlace s.link.grantWait) :
    LinkOk (State.service s).link.state (State.service s).link.site (State.service s).link.joining (State.service s).link.hunt
          (State.service s).sched.joinPlace (State.service s).link.grantWait := by
  unfold State.service; (repeat' split) <;> simp (maxDischargeDepth := 12) [hl]

@[simp] theorem State.completeDrain_link {s : State}
    (hl : LinkOk s.link.state s.link.site s.link.joining s.link.hunt s.sched.joinPlace s.link.grantWait) :
    LinkOk (State.completeDrain s).link.state (State.completeDrain s).link.site (State.completeDrain s).link.joining
          (State.completeDrain s).link.hunt (State.completeDrain s).sched.joinPlace (State.completeDrain s).link.grantWait := by
  unfold State.completeDrain; (repeat' split) <;> simp (maxDischargeDepth := 12) [hl]

@[simp] theorem State.internalCycle_link {s : State}
    (hl : LinkOk s.link.state s.link.site s.link.joining s.link.hunt s.sched.joinPlace s.link.grantWait) :
    LinkOk (State.internalCycle s).link.state (State.internalCycle s).link.site (State.internalCycle s).link.joining
          (State.internalCycle s).link.hunt (State.internalCycle s).sched.joinPlace (State.internalCycle s).link.grantWait := by
  unfold State.internalCycle; split
  · split
    · split
      · rename_i c rest _; cases c <;> simp (maxDischargeDepth := 12) [State.runCycle, hl]
      · exact hl
    · exact hl
  · exact hl

@[simp] theorem State.contenderKeyed_link (c : Contender) {s : State} {v_link_state} (ev_link_state : s.link.state = v_link_state)
    {v_link_site} (ev_link_site : s.link.site = v_link_site) {v_link_joining} (ev_link_joining : s.link.joining = v_link_joining)
    {v_link_hunt} (ev_link_hunt : s.link.hunt = v_link_hunt) {v_sched_joinPlace}
    (ev_sched_joinPlace : s.sched.joinPlace = v_sched_joinPlace)
    (hl : LinkOk s.link.state s.link.site s.link.joining s.link.hunt s.sched.joinPlace s.link.grantWait)
    (hs : c = .join → s.link.state = .join) :
    LinkOk v_link_state v_link_site v_link_joining v_link_hunt v_sched_joinPlace (State.contenderKeyed c s).link.grantWait := by
  subst ev_link_state; subst ev_link_site; subst ev_link_joining; subst ev_link_hunt; subst ev_sched_joinPlace;
  obtain ⟨h1, h2, h3, h4, h5⟩ := hl
  unfold State.contenderKeyed; split <;> simp_all [LinkOk]

@[simp] theorem State.useDrawnSlot_link (k : Nat) {s : State} {v_link_state} (ev_link_state : s.link.state = v_link_state) {v_link_site}
    (ev_link_site : s.link.site = v_link_site) {v_link_joining} (ev_link_joining : s.link.joining = v_link_joining) {v_link_hunt}
    (ev_link_hunt : s.link.hunt = v_link_hunt) {v_sched_joinPlace} (ev_sched_joinPlace : s.sched.joinPlace = v_sched_joinPlace)
    (hl : LinkOk s.link.state s.link.site s.link.joining s.link.hunt s.sched.joinPlace s.link.grantWait) :
    LinkOk v_link_state v_link_site v_link_joining v_link_hunt v_sched_joinPlace (State.useDrawnSlot k s).link.grantWait := by
  subst ev_link_state; subst ev_link_site; subst ev_link_joining; subst ev_link_hunt; subst ev_sched_joinPlace;
  unfold State.useDrawnSlot
  cases hc : s.sched.contention with
  | slotted c d =>
    dsimp only
    by_cases hd : d = k
    · rw [if_pos hd]
      cases hf : s.contenderFrame c with
      | none => exact hl
      | some f =>
        have hj : c = .join → s.link.state = .join := by
          rintro rfl
          by_cases h : (s.mayJoin && s.sched.joinPlace) = true
          · simp [State.mayJoin] at h; exact h.1.2
          · simp [State.contenderFrame, h] at hf
        have := State.contenderKeyed_link (s := { s with sched := { s.sched with contention := .outstanding (some c) } }) c
          rfl rfl rfl rfl rfl hl hj
        simpa using this
    · rw [if_neg hd]; exact hl
  | idle => exact hl
  | waiting _ _ => exact hl
  | outstanding _ => exact hl

@[simp] theorem State.useSlot_link (k : Nat) {s : State} {v_link_state} (ev_link_state : s.link.state = v_link_state) {v_link_site}
    (ev_link_site : s.link.site = v_link_site) {v_link_joining} (ev_link_joining : s.link.joining = v_link_joining) {v_link_hunt}
    (ev_link_hunt : s.link.hunt = v_link_hunt) {v_sched_joinPlace} (ev_sched_joinPlace : s.sched.joinPlace = v_sched_joinPlace)
    (hl : LinkOk s.link.state s.link.site s.link.joining s.link.hunt s.sched.joinPlace s.link.grantWait) :
    LinkOk v_link_state v_link_site v_link_joining v_link_hunt v_sched_joinPlace (State.useSlot k s).link.grantWait := by
  subst ev_link_state; subst ev_link_site; subst ev_link_joining; subst ev_link_hunt; subst ev_sched_joinPlace;
  unfold State.useSlot; (repeat' split) <;> simp (maxDischargeDepth := 12) [hl]

@[simp] theorem State.startSlot_link {s : State}
    (hl : LinkOk s.link.state s.link.site s.link.joining s.link.hunt s.sched.joinPlace s.link.grantWait) :
    LinkOk (State.startSlot s).link.state (State.startSlot s).link.site (State.startSlot s).link.joining (State.startSlot s).link.hunt
          (State.startSlot s).sched.joinPlace (State.startSlot s).link.grantWait := by
  unfold State.startSlot; dsimp only; (repeat' split) <;> simp (maxDischargeDepth := 12) [hl]

@[simp] theorem State.deliver_link (f : Sending) {s : State}
    (hl : LinkOk s.link.state s.link.site s.link.joining s.link.hunt s.sched.joinPlace s.link.grantWait) :
    LinkOk (State.deliver f s).link.state (State.deliver f s).link.site (State.deliver f s).link.joining (State.deliver f s).link.hunt
          (State.deliver f s).sched.joinPlace (State.deliver f s).link.grantWait := by
  unfold State.deliver; (repeat' split) <;> simp (maxDischargeDepth := 12) [hl]

@[simp] theorem State.shortSent_link {s : State}
    (hl : LinkOk s.link.state s.link.site s.link.joining s.link.hunt s.sched.joinPlace s.link.grantWait) :
    LinkOk (State.shortSent s).link.state (State.shortSent s).link.site (State.shortSent s).link.joining (State.shortSent s).link.hunt
          (State.shortSent s).sched.joinPlace (State.shortSent s).link.grantWait := by
  unfold State.shortSent; (repeat' split) <;> simp (maxDischargeDepth := 12) [hl]

@[simp] theorem State.becomeReady_link {s : State}
    (hl : LinkOk s.link.state s.link.site s.link.joining s.link.hunt s.sched.joinPlace s.link.grantWait) :
    LinkOk (State.becomeReady s).link.state (State.becomeReady s).link.site (State.becomeReady s).link.joining
          (State.becomeReady s).link.hunt (State.becomeReady s).sched.joinPlace (State.becomeReady s).link.grantWait := by
  unfold State.becomeReady; dsimp only; (repeat' split) <;> simp (maxDischargeDepth := 12) [hl]

@[simp] theorem State.softReset_link {s : State}
    (hl : LinkOk s.link.state s.link.site s.link.joining s.link.hunt s.sched.joinPlace s.link.grantWait) :
    LinkOk (State.softReset s).link.state (State.softReset s).link.site (State.softReset s).link.joining (State.softReset s).link.hunt
          (State.softReset s).sched.joinPlace (State.softReset s).link.grantWait := by
  have h0 := State.enterQuiet_link false hl
  obtain ⟨h1, h2, h3, -, h5⟩ := h0
  unfold State.softReset; dsimp only
  have hk : LinkOk (State.enterQuiet false s).link.state (State.enterQuiet false s).link.site (State.enterQuiet false s).link.joining
      (State.enterQuiet false s).link.hunt false (State.enterQuiet false s).link.grantWait := ⟨h1, h2, h3, by simp, h5⟩
  simp (maxDischargeDepth := 12) [Scheduler.softReset, Scheduler.reset, hk]

@[simp] theorem State.powerOn_link (a : BitVec 4) {s : State} :
    LinkOk (State.powerOn a s).link.state (State.powerOn a s).link.site (State.powerOn a s).link.joining (State.powerOn a s).link.hunt
          (State.powerOn a s).sched.joinPlace (State.powerOn a s).link.grantWait := by
  refine State.service_link ?_
  simp [LinkOk, State.reset, LinkController.reset, Scheduler.reset]

@[simp] theorem State.meterMessage_link (m : MeterMessage) {s : State}
    (hl : LinkOk s.link.state s.link.site s.link.joining s.link.hunt s.sched.joinPlace s.link.grantWait) :
    LinkOk (State.meterMessage m s).link.state (State.meterMessage m s).link.site (State.meterMessage m s).link.joining
          (State.meterMessage m s).link.hunt (State.meterMessage m s).sched.joinPlace (State.meterMessage m s).link.grantWait := by
  unfold State.meterMessage; (repeat' split) <;> simp (maxDischargeDepth := 12) [hl]

@[simp] theorem State.takeMeter_link (m : MeterMessage) {s : State}
    (hl : LinkOk s.link.state s.link.site s.link.joining s.link.hunt s.sched.joinPlace s.link.grantWait) :
    LinkOk (State.takeMeter m s).link.state (State.takeMeter m s).link.site (State.takeMeter m s).link.joining
          (State.takeMeter m s).link.hunt (State.takeMeter m s).sched.joinPlace (State.takeMeter m s).link.grantWait := by
  unfold State.takeMeter; (repeat' split) <;> simp (maxDischargeDepth := 12) [hl]

@[simp] theorem State.takeWake_link (c : List Word) {s : State}
    (hl : LinkOk s.link.state s.link.site s.link.joining s.link.hunt s.sched.joinPlace s.link.grantWait) :
    LinkOk (State.takeWake c s).link.state (State.takeWake c s).link.site (State.takeWake c s).link.joining (State.takeWake c s).link.hunt
          (State.takeWake c s).sched.joinPlace (State.takeWake c s).link.grantWait := by
  unfold State.takeWake; (repeat' split) <;> simp (maxDischargeDepth := 12) [hl]

@[simp] theorem State.route_link (d : DownHeader) (b : DownBody) {s : State}
    (hl : LinkOk s.link.state s.link.site s.link.joining s.link.hunt s.sched.joinPlace s.link.grantWait) :
    LinkOk (State.route d b s).link.state (State.route d b s).link.site (State.route d b s).link.joining (State.route d b s).link.hunt
          (State.route d b s).sched.joinPlace (State.route d b s).link.grantWait := by
  unfold State.route; (repeat' split) <;> simp (maxDischargeDepth := 12) [hl]

@[simp] theorem State.receive_link (d : DownHeader) (b : DownBody) {s : State}
    (hl : LinkOk s.link.state s.link.site s.link.joining s.link.hunt s.sched.joinPlace s.link.grantWait) :
    LinkOk (State.receive d b s).link.state (State.receive d b s).link.site (State.receive d b s).link.joining
          (State.receive d b s).link.hunt (State.receive d b s).sched.joinPlace (State.receive d b s).link.grantWait := by
  unfold State.receive; (repeat' split) <;> simp (maxDischargeDepth := 12) [hl]

@[simp] theorem State.writeAt_link (o : Nat) (l : Lanes) (d : Word) {s : State}
    (hl : LinkOk s.link.state s.link.site s.link.joining s.link.hunt s.sched.joinPlace s.link.grantWait) :
    LinkOk (State.writeAt o l d s).link.state (State.writeAt o l d s).link.site (State.writeAt o l d s).link.joining
          (State.writeAt o l d s).link.hunt (State.writeAt o l d s).sched.joinPlace (State.writeAt o l d s).link.grantWait := by
  unfold State.writeAt; (repeat' split) <;> simp (maxDischargeDepth := 12) [hl]

@[simp] theorem State.readAt_link (o : Nat) (l : Lanes) {s : State}
    (hl : LinkOk s.link.state s.link.site s.link.joining s.link.hunt s.sched.joinPlace s.link.grantWait) :
    LinkOk (State.readAt o l s).link.state (State.readAt o l s).link.site (State.readAt o l s).link.joining (State.readAt o l s).link.hunt
          (State.readAt o l s).sched.joinPlace (State.readAt o l s).link.grantWait := by
  unfold State.readAt; (repeat' split) <;> simp (maxDischargeDepth := 12) [hl]

@[simp] theorem State.complete_link (k : OpKind) {owner : UnderWay → State → State} {s : State}
    (ho : ∀ u t, LinkOk t.link.state t.link.site t.link.joining t.link.hunt t.sched.joinPlace t.link.grantWait → LinkOk (owner u t).link.state (owner u t).link.site (owner u t).link.joining (owner u t).link.hunt (owner u t).sched.joinPlace (owner u t).link.grantWait)
    (hl : LinkOk s.link.state s.link.site s.link.joining s.link.hunt s.sched.joinPlace s.link.grantWait) :
    LinkOk (State.complete k owner s).link.state (State.complete k owner s).link.site (State.complete k owner s).link.joining
          (State.complete k owner s).link.hunt (State.complete k owner s).sched.joinPlace (State.complete k owner s).link.grantWait := by
  unfold State.complete; split
  · exact State.service_link (ho _ _ (by simp (maxDischargeDepth := 12) [hl]))
  · exact hl

end Sys2Proof.Machine
end

