-- ==== Sys2Proof/Laws/Memory.lean ====
section
/-! SUPPORT. Memory keeps its canonical form, and a read after a write gives the byte written. -/

namespace Sys2Proof.Machine

theorem Memory.wf_cons {a : Nat} {v : Byte} {rest : List Host.Cell} :
    Memory.wf ((a, v) :: rest) = true ↔
      a < 2 ^ 20 ∧ v ≠ Config.ramFill ∧ (∀ c ∈ rest, a < c.1) ∧ Memory.wf rest = true := by
  simp [Memory.wf, and_assoc]

/-- Every address of a written memory was there, or is the one written. -/
theorem Memory.mem_write {m : List Host.Cell} {a : Nat} {v : Byte} {c : Host.Cell} (h : c ∈ Memory.write m a v) :
    c ∈ m ∨ c = (a, v) := by
  induction m with
  | nil => unfold Memory.write at h; split at h <;> simp_all
  | cons d rest ih =>
    obtain ⟨b, w⟩ := d
    unfold Memory.write at h
    (repeat' split at h) <;> simp_all
    · rcases h with h | h | h <;> simp [h]
    · rcases h with h | h <;> simp [h]
    · rcases h with h | h
      · simp [h]
      · rcases ih h with h | h <;> simp [h]

/-- A write keeps the canonical form. -/
theorem Memory.write_wf {m : List Host.Cell} {a : Nat} (v : Byte) (h : Memory.wf m = true) (ha : a < 2 ^ 20) :
    Memory.wf (Memory.write m a v) = true := by
  induction m with
  | nil => unfold Memory.write; split <;> simp_all [Memory.wf]
  | cons d rest ih =>
    obtain ⟨b, w⟩ := d
    have h' := Memory.wf_cons.1 h
    obtain ⟨hb, hw, hr, hm⟩ := h'
    unfold Memory.write
    split
    · rename_i hab
      split
      · exact h
      · rename_i hv
        refine Memory.wf_cons.2 ⟨ha, hv, ?_, h⟩
        intro c hc
        rcases List.mem_cons.1 hc with rfl | hc
        · exact hab
        · exact Nat.lt_trans hab (hr c hc)
    · split
      · rename_i hab
        subst hab
        split
        · exact hm
        · rename_i hv; exact Memory.wf_cons.2 ⟨ha, hv, hr, hm⟩
      · rename_i h1 h2
        refine Memory.wf_cons.2 ⟨hb, hw, ?_, ih hm⟩
        intro c hc
        rcases Memory.mem_write hc with hc | rfl
        · exact hr c hc
        · simp; omega

/-- A byte below every listed address reads as an unlisted one. -/
theorem Memory.read_below {m : List Host.Cell} {a : Nat} (h : ∀ c ∈ m, a < c.1) : Memory.read m a = Config.ramFill := by
  induction m with
  | nil => rfl
  | cons d rest ih =>
    obtain ⟨b, w⟩ := d
    have hb : a < b := h (b, w) (List.mem_cons_self ..)
    unfold Memory.read
    rw [if_neg (by omega)]
    exact ih (fun c hc => h c (List.mem_cons_of_mem _ hc))

/-- A read after a write. -/
theorem Memory.read_write {m : List Host.Cell} (a : Nat) (v : Byte) (h : Memory.wf m = true) (b : Nat) :
    Memory.read (Memory.write m a v) b = if b = a then v else Memory.read m b := by
  induction m with
  | nil =>
    unfold Memory.write
    split
    · rename_i hv
      split
      · simp [Memory.read, hv]
      · rfl
    · by_cases hb : b = a
      · simp [Memory.read, hb]
      · simp [Memory.read, hb, Ne.symm hb]
  | cons d rest ih =>
    obtain ⟨c, w⟩ := d
    obtain ⟨hc, hw, hr, hm⟩ := Memory.wf_cons.1 h
    have hbelow : ∀ {x}, x ≤ c → Memory.read rest x = Config.ramFill := fun hx =>
      Memory.read_below (fun e he => Nat.lt_of_le_of_lt hx (hr e he))
    unfold Memory.write
    split
    · rename_i hac
      split
      · rename_i hv
        split
        · rename_i hba; subst hba
          rw [Memory.read, if_neg (by omega), hbelow (Nat.le_of_lt hac), hv]
        · rfl
      · by_cases hb : b = a
        · simp [Memory.read, hb]
        · rw [if_neg hb, Memory.read, if_neg (Ne.symm hb)]
    · split
      · rename_i hac; subst hac
        split
        · rename_i hv
          split
          · rename_i hba; subst hba; rw [hbelow (Nat.le_refl _), hv]
          · rename_i hba; rw [Memory.read, if_neg (by omega)]
        · simp only [Memory.read]
          by_cases hb : b = a
          · simp [hb]
          · rw [if_neg (Ne.symm hb), if_neg hb, if_neg (Ne.symm hb)]
      · rename_i h1 h2
        simp only [Memory.read]
        split
        · rename_i hcb; rw [if_neg (by omega)]
        · exact ih hm

theorem laneAddress_lt (address : BitVec 19) (hi : Bool) : laneAddress address hi < 2 ^ 20 := by
  have := address.isLt
  unfold laneAddress
  cases hi <;> simp only [Bool.toNat_true, Bool.toNat_false] <;> omega

theorem Memory.writeLanes_wf {m : List Host.Cell} (address : BitVec 19) (lo hi : Option Byte) (h : Memory.wf m = true) :
    Memory.wf (Memory.writeLanes m address lo hi) = true := by
  unfold Memory.writeLanes
  cases lo <;> cases hi <;> simp only
  · exact h
  · exact Memory.write_wf _ h (laneAddress_lt ..)
  · exact Memory.write_wf _ h (laneAddress_lt ..)
  · exact Memory.write_wf _ (Memory.write_wf _ h (laneAddress_lt ..)) (laneAddress_lt ..)

theorem laneAddress_ne (address : BitVec 19) : laneAddress address false ≠ laneAddress address true := by
  simp [laneAddress]

/-- A byte after the lanes of a word were written. -/
theorem Memory.read_writeLanes {m : List Host.Cell} (address : BitVec 19) (lo hi : Option Byte) (h : Memory.wf m = true) (b : Nat) :
    Memory.read (Memory.writeLanes m address lo hi) b =
      if b = laneAddress address false then lo.getD (Memory.read m b)
      else if b = laneAddress address true then hi.getD (Memory.read m b)
      else Memory.read m b := by
  have hne := laneAddress_ne address
  unfold Memory.writeLanes
  cases lo with
  | none =>
    cases hi with
    | none => simp
    | some y =>
      simp only [Memory.read_write _ _ h]
      by_cases h1 : b = laneAddress address false
      · simp [h1, hne]
      · simp [h1]
  | some x =>
    cases hi with
    | none => simp [Memory.read_write _ _ h]
    | some y =>
      simp only [Memory.read_write _ _ (Memory.write_wf x h (laneAddress_lt ..)), Memory.read_write _ _ h]
      by_cases h1 : b = laneAddress address false
      · simp [h1, hne]
      · simp [h1]

theorem State.startDrain_memory {s : State} (h : Memory.wf s.mem = true) : Memory.wf s.startDrain.mem = true := by
  unfold State.startDrain
  (repeat' split) <;> first | exact h | simp [h, Memory.writeLanes_wf]

theorem State.internalCycle_memory {s : State} (h : Memory.wf s.mem = true) : Memory.wf s.internalCycle.mem = true := by
  unfold State.internalCycle
  (repeat' split) <;> try exact h
  rename_i c _ _
  cases c <;> simp [State.runCycle, h, Memory.writeLanes_wf]

end Sys2Proof.Machine
end

