-- ==== Sys2Proof/Laws/Lamps.lean ====
section
/-! SUPPORT. The lamp law (R12, R13, R14) is kept by the operations that a command is made of. -/

namespace Sys2Proof.Machine

/-- The lamp law (R12, R13, R14) on the values it speaks of. -/
def LampOk (hire call alarm : Bool) (startUp : StartUp) (power : PowerState) (map : LampMap) (status : CabStatus)
    (flash enabled phase : Bool) (emergency : EmergencyState) : Prop :=
  hire = ((startUp == .ready && (power == .active || power == .parking)) && (map.at_ status).hire.lit flash) ∧
    call = ((startUp == .ready && (power == .active || power == .parking)) && (map.at_ status).call.lit flash) ∧
    alarm = (startUp == .ready && enabled && emergency.raised && phase)

theorem State.lampLaw_iff
    (s : State) : s.lampLaw ↔ LampOk s.pins.lampHire s.pins.lampCall s.pins.lampAlarm s.power.startUp s.power.power s.status.lampMap s.status.status s.status.flashOn s.status.alarmEnabled s.status.alarmOn s.emerg.state := Iff.rfl


@[simp] theorem State.driveLamps_lamps {s : State} {v_power_startUp} (ev_power_startUp : s.power.startUp = v_power_startUp) {v_power_power}
    (ev_power_power : s.power.power = v_power_power) {v_status_lampMap} (ev_status_lampMap : s.status.lampMap = v_status_lampMap)
    {v_status_status} (ev_status_status : s.status.status = v_status_status) {v_status_flashOn}
    (ev_status_flashOn : s.status.flashOn = v_status_flashOn) {v_status_alarmEnabled}
    (ev_status_alarmEnabled : s.status.alarmEnabled = v_status_alarmEnabled) {v_status_alarmOn}
    (ev_status_alarmOn : s.status.alarmOn = v_status_alarmOn) {v_emerg_state} (ev_emerg_state : s.emerg.state = v_emerg_state) :
    LampOk (State.driveLamps s).pins.lampHire (State.driveLamps s).pins.lampCall
          (State.driveLamps s).pins.lampAlarm v_power_startUp v_power_power v_status_lampMap v_status_status v_status_flashOn v_status_alarmEnabled v_status_alarmOn v_emerg_state := by
  subst ev_power_startUp; subst ev_power_power; subst ev_status_lampMap; subst ev_status_status; subst ev_status_flashOn; subst ev_status_alarmEnabled; subst ev_status_alarmOn; subst ev_emerg_state;
  exact ⟨rfl, rfl, rfl⟩

@[simp] theorem State.handOn_lamps {s : State} {v_power_startUp} (ev_power_startUp : s.power.startUp = v_power_startUp) {v_power_power}
    (ev_power_power : s.power.power = v_power_power) {v_status_lampMap} (ev_status_lampMap : s.status.lampMap = v_status_lampMap)
    {v_status_status} (ev_status_status : s.status.status = v_status_status) {v_status_flashOn}
    (ev_status_flashOn : s.status.flashOn = v_status_flashOn) {v_status_alarmEnabled}
    (ev_status_alarmEnabled : s.status.alarmEnabled = v_status_alarmEnabled) {v_status_alarmOn}
    (ev_status_alarmOn : s.status.alarmOn = v_status_alarmOn) {v_emerg_state} (ev_emerg_state : s.emerg.state = v_emerg_state) :
    LampOk (State.handOn s).pins.lampHire (State.handOn s).pins.lampCall
          (State.handOn s).pins.lampAlarm v_power_startUp v_power_power v_status_lampMap v_status_status v_status_flashOn v_status_alarmEnabled v_status_alarmOn v_emerg_state := by
  subst ev_power_startUp; subst ev_power_power; subst ev_status_lampMap; subst ev_status_status; subst ev_status_flashOn; subst ev_status_alarmEnabled; subst ev_status_alarmOn; subst ev_emerg_state;
  unfold State.handOn; (repeat' split) <;> simp (maxDischargeDepth := 12)

@[simp] theorem State.setStatus_lamps (c : CabStatus) {s : State} {v_power_startUp} (ev_power_startUp : s.power.startUp = v_power_startUp)
    {v_power_power} (ev_power_power : s.power.power = v_power_power) {v_status_lampMap}
    (ev_status_lampMap : s.status.lampMap = v_status_lampMap) {v_status_flashOn} (ev_status_flashOn : s.status.flashOn = v_status_flashOn)
    {v_status_alarmEnabled} (ev_status_alarmEnabled : s.status.alarmEnabled = v_status_alarmEnabled) {v_status_alarmOn}
    (ev_status_alarmOn : s.status.alarmOn = v_status_alarmOn) {v_emerg_state} (ev_emerg_state : s.emerg.state = v_emerg_state) :
    LampOk (State.setStatus c s).pins.lampHire (State.setStatus c s).pins.lampCall
          (State.setStatus c s).pins.lampAlarm v_power_startUp v_power_power v_status_lampMap
          (State.setStatus c s).status.status v_status_flashOn v_status_alarmEnabled v_status_alarmOn v_emerg_state := by
  subst ev_power_startUp; subst ev_power_power; subst ev_status_lampMap; subst ev_status_flashOn; subst ev_status_alarmEnabled; subst ev_status_alarmOn; subst ev_emerg_state;
  unfold State.setStatus; (repeat' split) <;> simp (maxDischargeDepth := 12)

@[simp] theorem State.becameAwarded_lamps {s : State} {v_power_startUp} (ev_power_startUp : s.power.startUp = v_power_startUp)
    {v_power_power} (ev_power_power : s.power.power = v_power_power) {v_status_lampMap}
    (ev_status_lampMap : s.status.lampMap = v_status_lampMap) {v_status_flashOn} (ev_status_flashOn : s.status.flashOn = v_status_flashOn)
    {v_status_alarmEnabled} (ev_status_alarmEnabled : s.status.alarmEnabled = v_status_alarmEnabled) {v_status_alarmOn}
    (ev_status_alarmOn : s.status.alarmOn = v_status_alarmOn) {v_emerg_state} (ev_emerg_state : s.emerg.state = v_emerg_state)
    (hl : LampOk s.pins.lampHire s.pins.lampCall s.pins.lampAlarm s.power.startUp s.power.power s.status.lampMap s.status.status s.status.flashOn s.status.alarmEnabled s.status.alarmOn s.emerg.state) :
    LampOk (State.becameAwarded s).pins.lampHire (State.becameAwarded s).pins.lampCall
          (State.becameAwarded s).pins.lampAlarm v_power_startUp v_power_power v_status_lampMap
          (State.becameAwarded s).status.status v_status_flashOn v_status_alarmEnabled v_status_alarmOn v_emerg_state := by
  subst ev_power_startUp; subst ev_power_power; subst ev_status_lampMap; subst ev_status_flashOn; subst ev_status_alarmEnabled; subst ev_status_alarmOn; subst ev_emerg_state;
  unfold State.becameAwarded; (repeat' split) <;> simp (maxDischargeDepth := 12) [hl]

@[simp] theorem State.leftAwarded_lamps {s : State} {v_power_startUp} (ev_power_startUp : s.power.startUp = v_power_startUp)
    {v_power_power} (ev_power_power : s.power.power = v_power_power) {v_status_lampMap}
    (ev_status_lampMap : s.status.lampMap = v_status_lampMap) {v_status_flashOn} (ev_status_flashOn : s.status.flashOn = v_status_flashOn)
    {v_status_alarmEnabled} (ev_status_alarmEnabled : s.status.alarmEnabled = v_status_alarmEnabled) {v_status_alarmOn}
    (ev_status_alarmOn : s.status.alarmOn = v_status_alarmOn) {v_emerg_state} (ev_emerg_state : s.emerg.state = v_emerg_state)
    (hl : LampOk s.pins.lampHire s.pins.lampCall s.pins.lampAlarm s.power.startUp s.power.power s.status.lampMap s.status.status s.status.flashOn s.status.alarmEnabled s.status.alarmOn s.emerg.state) :
    LampOk (State.leftAwarded s).pins.lampHire (State.leftAwarded s).pins.lampCall
          (State.leftAwarded s).pins.lampAlarm v_power_startUp v_power_power v_status_lampMap
          (State.leftAwarded s).status.status v_status_flashOn v_status_alarmEnabled v_status_alarmOn v_emerg_state := by
  subst ev_power_startUp; subst ev_power_power; subst ev_status_lampMap; subst ev_status_flashOn; subst ev_status_alarmEnabled; subst ev_status_alarmOn; subst ev_emerg_state;
  unfold State.leftAwarded; (repeat' split) <;> simp (maxDischargeDepth := 12) [hl]

@[simp] theorem State.takeResponse_lamps (n : Fin 16) (l : Lanes) (d : Word) {s : State} {v_power_startUp}
    (ev_power_startUp : s.power.startUp = v_power_startUp) {v_power_power} (ev_power_power : s.power.power = v_power_power)
    {v_status_lampMap} (ev_status_lampMap : s.status.lampMap = v_status_lampMap) {v_status_flashOn}
    (ev_status_flashOn : s.status.flashOn = v_status_flashOn) {v_status_alarmEnabled}
    (ev_status_alarmEnabled : s.status.alarmEnabled = v_status_alarmEnabled) {v_status_alarmOn}
    (ev_status_alarmOn : s.status.alarmOn = v_status_alarmOn) {v_emerg_state} (ev_emerg_state : s.emerg.state = v_emerg_state)
    (hl : LampOk s.pins.lampHire s.pins.lampCall s.pins.lampAlarm s.power.startUp s.power.power s.status.lampMap s.status.status s.status.flashOn s.status.alarmEnabled s.status.alarmOn s.emerg.state) :
    LampOk (State.takeResponse n l d s).pins.lampHire (State.takeResponse n l d s).pins.lampCall
          (State.takeResponse n l d s).pins.lampAlarm v_power_startUp v_power_power v_status_lampMap
          (State.takeResponse n l d s).status.status v_status_flashOn v_status_alarmEnabled v_status_alarmOn v_emerg_state := by
  subst ev_power_startUp; subst ev_power_power; subst ev_status_lampMap; subst ev_status_flashOn; subst ev_status_alarmEnabled; subst ev_status_alarmOn; subst ev_emerg_state;
  unfold State.takeResponse; dsimp only; (repeat' split) <;> simp (maxDischargeDepth := 12) [hl]

@[simp] theorem State.awardNoEntry_lamps (b : OfferBody) {s : State} {v_power_startUp}
    (ev_power_startUp : s.power.startUp = v_power_startUp) {v_power_power} (ev_power_power : s.power.power = v_power_power)
    {v_status_lampMap} (ev_status_lampMap : s.status.lampMap = v_status_lampMap) {v_status_flashOn}
    (ev_status_flashOn : s.status.flashOn = v_status_flashOn) {v_status_alarmEnabled}
    (ev_status_alarmEnabled : s.status.alarmEnabled = v_status_alarmEnabled) {v_status_alarmOn}
    (ev_status_alarmOn : s.status.alarmOn = v_status_alarmOn) {v_emerg_state} (ev_emerg_state : s.emerg.state = v_emerg_state)
    (hl : LampOk s.pins.lampHire s.pins.lampCall s.pins.lampAlarm s.power.startUp s.power.power s.status.lampMap s.status.status s.status.flashOn s.status.alarmEnabled s.status.alarmOn s.emerg.state) :
    LampOk (State.awardNoEntry b s).pins.lampHire (State.awardNoEntry b s).pins.lampCall
          (State.awardNoEntry b s).pins.lampAlarm v_power_startUp v_power_power v_status_lampMap
          (State.awardNoEntry b s).status.status v_status_flashOn v_status_alarmEnabled v_status_alarmOn v_emerg_state := by
  subst ev_power_startUp; subst ev_power_power; subst ev_status_lampMap; subst ev_status_flashOn; subst ev_status_alarmEnabled; subst ev_status_alarmOn; subst ev_emerg_state;
  unfold State.awardNoEntry; (repeat' split) <;> simp (maxDischargeDepth := 12) [hl]

@[simp] theorem State.takeAward_lamps (b : OfferBody) {s : State} {v_power_startUp} (ev_power_startUp : s.power.startUp = v_power_startUp)
    {v_power_power} (ev_power_power : s.power.power = v_power_power) {v_status_lampMap}
    (ev_status_lampMap : s.status.lampMap = v_status_lampMap) {v_status_flashOn} (ev_status_flashOn : s.status.flashOn = v_status_flashOn)
    {v_status_alarmEnabled} (ev_status_alarmEnabled : s.status.alarmEnabled = v_status_alarmEnabled) {v_status_alarmOn}
    (ev_status_alarmOn : s.status.alarmOn = v_status_alarmOn) {v_emerg_state} (ev_emerg_state : s.emerg.state = v_emerg_state)
    (hl : LampOk s.pins.lampHire s.pins.lampCall s.pins.lampAlarm s.power.startUp s.power.power s.status.lampMap s.status.status s.status.flashOn s.status.alarmEnabled s.status.alarmOn s.emerg.state) :
    LampOk (State.takeAward b s).pins.lampHire (State.takeAward b s).pins.lampCall
          (State.takeAward b s).pins.lampAlarm v_power_startUp v_power_power v_status_lampMap
          (State.takeAward b s).status.status v_status_flashOn v_status_alarmEnabled v_status_alarmOn v_emerg_state := by
  subst ev_power_startUp; subst ev_power_power; subst ev_status_lampMap; subst ev_status_flashOn; subst ev_status_alarmEnabled; subst ev_status_alarmOn; subst ev_emerg_state;
  unfold State.takeAward; (repeat' split) <;> simp (maxDischargeDepth := 12) [hl]

@[simp] theorem State.takeWithdraw_lamps (j : DWord) {s : State} {v_power_startUp} (ev_power_startUp : s.power.startUp = v_power_startUp)
    {v_power_power} (ev_power_power : s.power.power = v_power_power) {v_status_lampMap}
    (ev_status_lampMap : s.status.lampMap = v_status_lampMap) {v_status_flashOn} (ev_status_flashOn : s.status.flashOn = v_status_flashOn)
    {v_status_alarmEnabled} (ev_status_alarmEnabled : s.status.alarmEnabled = v_status_alarmEnabled) {v_status_alarmOn}
    (ev_status_alarmOn : s.status.alarmOn = v_status_alarmOn) {v_emerg_state} (ev_emerg_state : s.emerg.state = v_emerg_state)
    (hl : LampOk s.pins.lampHire s.pins.lampCall s.pins.lampAlarm s.power.startUp s.power.power s.status.lampMap s.status.status s.status.flashOn s.status.alarmEnabled s.status.alarmOn s.emerg.state) :
    LampOk (State.takeWithdraw j s).pins.lampHire (State.takeWithdraw j s).pins.lampCall
          (State.takeWithdraw j s).pins.lampAlarm v_power_startUp v_power_power v_status_lampMap
          (State.takeWithdraw j s).status.status v_status_flashOn v_status_alarmEnabled v_status_alarmOn v_emerg_state := by
  subst ev_power_startUp; subst ev_power_power; subst ev_status_lampMap; subst ev_status_flashOn; subst ev_status_alarmEnabled; subst ev_status_alarmOn; subst ev_emerg_state;
  unfold State.takeWithdraw; dsimp only; (repeat' split) <;> simp (maxDischargeDepth := 12) [hl]

@[simp] theorem State.openTrip_lamps (t : Byte) {s : State} {v_power_startUp} (ev_power_startUp : s.power.startUp = v_power_startUp)
    {v_power_power} (ev_power_power : s.power.power = v_power_power) {v_status_lampMap}
    (ev_status_lampMap : s.status.lampMap = v_status_lampMap) {v_status_flashOn} (ev_status_flashOn : s.status.flashOn = v_status_flashOn)
    {v_status_alarmEnabled} (ev_status_alarmEnabled : s.status.alarmEnabled = v_status_alarmEnabled) {v_status_alarmOn}
    (ev_status_alarmOn : s.status.alarmOn = v_status_alarmOn) {v_emerg_state} (ev_emerg_state : s.emerg.state = v_emerg_state) :
    LampOk (State.openTrip t s).pins.lampHire (State.openTrip t s).pins.lampCall
          (State.openTrip t s).pins.lampAlarm v_power_startUp v_power_power v_status_lampMap
          (State.openTrip t s).status.status v_status_flashOn v_status_alarmEnabled v_status_alarmOn v_emerg_state := by
  subst ev_power_startUp; subst ev_power_power; subst ev_status_lampMap; subst ev_status_flashOn; subst ev_status_alarmEnabled; subst ev_status_alarmOn; subst ev_emerg_state;
  unfold State.openTrip; (repeat' split) <;> simp (maxDischargeDepth := 12)

@[simp] theorem State.statusAfterTrip_lamps {s : State} {v_power_startUp} (ev_power_startUp : s.power.startUp = v_power_startUp)
    {v_power_power} (ev_power_power : s.power.power = v_power_power) {v_status_lampMap}
    (ev_status_lampMap : s.status.lampMap = v_status_lampMap) {v_status_flashOn} (ev_status_flashOn : s.status.flashOn = v_status_flashOn)
    {v_status_alarmEnabled} (ev_status_alarmEnabled : s.status.alarmEnabled = v_status_alarmEnabled) {v_status_alarmOn}
    (ev_status_alarmOn : s.status.alarmOn = v_status_alarmOn) {v_emerg_state} (ev_emerg_state : s.emerg.state = v_emerg_state)
    (hl : LampOk s.pins.lampHire s.pins.lampCall s.pins.lampAlarm s.power.startUp s.power.power s.status.lampMap s.status.status s.status.flashOn s.status.alarmEnabled s.status.alarmOn s.emerg.state) :
    LampOk (State.statusAfterTrip s).pins.lampHire (State.statusAfterTrip s).pins.lampCall
          (State.statusAfterTrip s).pins.lampAlarm v_power_startUp v_power_power v_status_lampMap
          (State.statusAfterTrip s).status.status v_status_flashOn v_status_alarmEnabled v_status_alarmOn v_emerg_state := by
  subst ev_power_startUp; subst ev_power_power; subst ev_status_lampMap; subst ev_status_flashOn; subst ev_status_alarmEnabled; subst ev_status_alarmOn; subst ev_emerg_state;
  unfold State.statusAfterTrip; (repeat' split) <;> simp (maxDischargeDepth := 12) [hl]

@[simp] theorem State.closeTrip_lamps (e : TripEnd) {s : State} {v_power_startUp} (ev_power_startUp : s.power.startUp = v_power_startUp)
    {v_power_power} (ev_power_power : s.power.power = v_power_power) {v_status_lampMap}
    (ev_status_lampMap : s.status.lampMap = v_status_lampMap) {v_status_flashOn} (ev_status_flashOn : s.status.flashOn = v_status_flashOn)
    {v_status_alarmEnabled} (ev_status_alarmEnabled : s.status.alarmEnabled = v_status_alarmEnabled) {v_status_alarmOn}
    (ev_status_alarmOn : s.status.alarmOn = v_status_alarmOn) {v_emerg_state} (ev_emerg_state : s.emerg.state = v_emerg_state)
    (hl : LampOk s.pins.lampHire s.pins.lampCall s.pins.lampAlarm s.power.startUp s.power.power s.status.lampMap s.status.status s.status.flashOn s.status.alarmEnabled s.status.alarmOn s.emerg.state) :
    LampOk (State.closeTrip e s).pins.lampHire (State.closeTrip e s).pins.lampCall
          (State.closeTrip e s).pins.lampAlarm v_power_startUp v_power_power v_status_lampMap
          (State.closeTrip e s).status.status v_status_flashOn v_status_alarmEnabled v_status_alarmOn v_emerg_state := by
  subst ev_power_startUp; subst ev_power_power; subst ev_status_lampMap; subst ev_status_flashOn; subst ev_status_alarmEnabled; subst ev_status_alarmOn; subst ev_emerg_state;
  unfold State.closeTrip; (repeat' split) <;> simp (maxDischargeDepth := 12) [hl]

@[simp] theorem State.takeHire_lamps (t : Byte) {s : State} {v_power_startUp} (ev_power_startUp : s.power.startUp = v_power_startUp)
    {v_power_power} (ev_power_power : s.power.power = v_power_power) {v_status_lampMap}
    (ev_status_lampMap : s.status.lampMap = v_status_lampMap) {v_status_flashOn} (ev_status_flashOn : s.status.flashOn = v_status_flashOn)
    {v_status_alarmEnabled} (ev_status_alarmEnabled : s.status.alarmEnabled = v_status_alarmEnabled) {v_status_alarmOn}
    (ev_status_alarmOn : s.status.alarmOn = v_status_alarmOn) {v_emerg_state} (ev_emerg_state : s.emerg.state = v_emerg_state) :
    LampOk (State.takeHire t s).pins.lampHire (State.takeHire t s).pins.lampCall
          (State.takeHire t s).pins.lampAlarm v_power_startUp v_power_power v_status_lampMap
          (State.takeHire t s).status.status v_status_flashOn v_status_alarmEnabled v_status_alarmOn v_emerg_state := by
  subst ev_power_startUp; subst ev_power_power; subst ev_status_lampMap; subst ev_status_flashOn; subst ev_status_alarmEnabled; subst ev_status_alarmOn; subst ev_emerg_state;
  unfold State.takeHire; (repeat' split) <;> simp (maxDischargeDepth := 12)

@[simp] theorem State.takeStop_lamps (f : DWord) {s : State} {v_power_startUp} (ev_power_startUp : s.power.startUp = v_power_startUp)
    {v_power_power} (ev_power_power : s.power.power = v_power_power) {v_status_lampMap}
    (ev_status_lampMap : s.status.lampMap = v_status_lampMap) {v_status_flashOn} (ev_status_flashOn : s.status.flashOn = v_status_flashOn)
    {v_status_alarmEnabled} (ev_status_alarmEnabled : s.status.alarmEnabled = v_status_alarmEnabled) {v_status_alarmOn}
    (ev_status_alarmOn : s.status.alarmOn = v_status_alarmOn) {v_emerg_state} (ev_emerg_state : s.emerg.state = v_emerg_state)
    (hl : LampOk s.pins.lampHire s.pins.lampCall s.pins.lampAlarm s.power.startUp s.power.power s.status.lampMap s.status.status s.status.flashOn s.status.alarmEnabled s.status.alarmOn s.emerg.state) :
    LampOk (State.takeStop f s).pins.lampHire (State.takeStop f s).pins.lampCall
          (State.takeStop f s).pins.lampAlarm v_power_startUp v_power_power v_status_lampMap
          (State.takeStop f s).status.status v_status_flashOn v_status_alarmEnabled v_status_alarmOn v_emerg_state := by
  subst ev_power_startUp; subst ev_power_power; subst ev_status_lampMap; subst ev_status_flashOn; subst ev_status_alarmEnabled; subst ev_status_alarmOn; subst ev_emerg_state;
  unfold State.takeStop; (repeat' split) <;> simp (maxDischargeDepth := 12) [hl]

@[simp] theorem State.forceClose_lamps {s : State} {v_power_startUp} (ev_power_startUp : s.power.startUp = v_power_startUp) {v_power_power}
    (ev_power_power : s.power.power = v_power_power) {v_status_lampMap} (ev_status_lampMap : s.status.lampMap = v_status_lampMap)
    {v_status_flashOn} (ev_status_flashOn : s.status.flashOn = v_status_flashOn) {v_status_alarmEnabled}
    (ev_status_alarmEnabled : s.status.alarmEnabled = v_status_alarmEnabled) {v_status_alarmOn}
    (ev_status_alarmOn : s.status.alarmOn = v_status_alarmOn) {v_emerg_state} (ev_emerg_state : s.emerg.state = v_emerg_state)
    (hl : LampOk s.pins.lampHire s.pins.lampCall s.pins.lampAlarm s.power.startUp s.power.power s.status.lampMap s.status.status s.status.flashOn s.status.alarmEnabled s.status.alarmOn s.emerg.state) :
    LampOk (State.forceClose s).pins.lampHire (State.forceClose s).pins.lampCall
          (State.forceClose s).pins.lampAlarm v_power_startUp v_power_power v_status_lampMap
          (State.forceClose s).status.status v_status_flashOn v_status_alarmEnabled v_status_alarmOn v_emerg_state := by
  subst ev_power_startUp; subst ev_power_power; subst ev_status_lampMap; subst ev_status_flashOn; subst ev_status_alarmEnabled; subst ev_status_alarmOn; subst ev_emerg_state;
  unfold State.forceClose; (repeat' split) <;> simp (maxDischargeDepth := 12) [hl]

@[simp] theorem State.changeFlow_lamps (p : Bool) {s : State} {v_power_startUp} (ev_power_startUp : s.power.startUp = v_power_startUp)
    {v_power_power} (ev_power_power : s.power.power = v_power_power) {v_status_lampMap}
    (ev_status_lampMap : s.status.lampMap = v_status_lampMap) {v_status_status} (ev_status_status : s.status.status = v_status_status)
    {v_status_flashOn} (ev_status_flashOn : s.status.flashOn = v_status_flashOn) {v_status_alarmEnabled}
    (ev_status_alarmEnabled : s.status.alarmEnabled = v_status_alarmEnabled) {v_status_alarmOn}
    (ev_status_alarmOn : s.status.alarmOn = v_status_alarmOn) {v_emerg_state} (ev_emerg_state : s.emerg.state = v_emerg_state) :
    LampOk (State.changeFlow p s).pins.lampHire (State.changeFlow p s).pins.lampCall
          (State.changeFlow p s).pins.lampAlarm v_power_startUp v_power_power v_status_lampMap v_status_status v_status_flashOn v_status_alarmEnabled v_status_alarmOn v_emerg_state := by
  subst ev_power_startUp; subst ev_power_power; subst ev_status_lampMap; subst ev_status_status; subst ev_status_flashOn; subst ev_status_alarmEnabled; subst ev_status_alarmOn; subst ev_emerg_state;
  unfold State.changeFlow; (repeat' split) <;> simp (maxDischargeDepth := 12)

@[simp] theorem State.evaluateFlow_lamps {s : State} {v_power_startUp} (ev_power_startUp : s.power.startUp = v_power_startUp)
    {v_power_power} (ev_power_power : s.power.power = v_power_power) {v_status_lampMap}
    (ev_status_lampMap : s.status.lampMap = v_status_lampMap) {v_status_status} (ev_status_status : s.status.status = v_status_status)
    {v_status_flashOn} (ev_status_flashOn : s.status.flashOn = v_status_flashOn) {v_status_alarmEnabled}
    (ev_status_alarmEnabled : s.status.alarmEnabled = v_status_alarmEnabled) {v_status_alarmOn}
    (ev_status_alarmOn : s.status.alarmOn = v_status_alarmOn) {v_emerg_state} (ev_emerg_state : s.emerg.state = v_emerg_state)
    (hl : LampOk s.pins.lampHire s.pins.lampCall s.pins.lampAlarm s.power.startUp s.power.power s.status.lampMap s.status.status s.status.flashOn s.status.alarmEnabled s.status.alarmOn s.emerg.state) :
    LampOk (State.evaluateFlow s).pins.lampHire (State.evaluateFlow s).pins.lampCall
          (State.evaluateFlow s).pins.lampAlarm v_power_startUp v_power_power v_status_lampMap v_status_status v_status_flashOn v_status_alarmEnabled v_status_alarmOn v_emerg_state := by
  subst ev_power_startUp; subst ev_power_power; subst ev_status_lampMap; subst ev_status_status; subst ev_status_flashOn; subst ev_status_alarmEnabled; subst ev_status_alarmOn; subst ev_emerg_state;
  unfold State.evaluateFlow; (repeat' split) <;> simp (maxDischargeDepth := 12) [hl]

@[simp] theorem State.endInboundDeposit_lamps {s : State} {v_power_startUp} (ev_power_startUp : s.power.startUp = v_power_startUp)
    {v_power_power} (ev_power_power : s.power.power = v_power_power) {v_status_lampMap}
    (ev_status_lampMap : s.status.lampMap = v_status_lampMap) {v_status_status} (ev_status_status : s.status.status = v_status_status)
    {v_status_flashOn} (ev_status_flashOn : s.status.flashOn = v_status_flashOn) {v_status_alarmEnabled}
    (ev_status_alarmEnabled : s.status.alarmEnabled = v_status_alarmEnabled) {v_status_alarmOn}
    (ev_status_alarmOn : s.status.alarmOn = v_status_alarmOn) {v_emerg_state} (ev_emerg_state : s.emerg.state = v_emerg_state)
    (hl : LampOk s.pins.lampHire s.pins.lampCall s.pins.lampAlarm s.power.startUp s.power.power s.status.lampMap s.status.status s.status.flashOn s.status.alarmEnabled s.status.alarmOn s.emerg.state) :
    LampOk (State.endInboundDeposit s).pins.lampHire (State.endInboundDeposit s).pins.lampCall
          (State.endInboundDeposit s).pins.lampAlarm v_power_startUp v_power_power v_status_lampMap v_status_status v_status_flashOn v_status_alarmEnabled v_status_alarmOn v_emerg_state := by
  subst ev_power_startUp; subst ev_power_power; subst ev_status_lampMap; subst ev_status_status; subst ev_status_flashOn; subst ev_status_alarmEnabled; subst ev_status_alarmOn; subst ev_emerg_state;
  unfold State.endInboundDeposit; (repeat' split) <;> simp (maxDischargeDepth := 12) [hl]

@[simp] theorem State.closeRing_lamps (i : RingId) {s : State} {v_power_startUp} (ev_power_startUp : s.power.startUp = v_power_startUp)
    {v_power_power} (ev_power_power : s.power.power = v_power_power) {v_status_lampMap}
    (ev_status_lampMap : s.status.lampMap = v_status_lampMap) {v_status_status} (ev_status_status : s.status.status = v_status_status)
    {v_status_flashOn} (ev_status_flashOn : s.status.flashOn = v_status_flashOn) {v_status_alarmEnabled}
    (ev_status_alarmEnabled : s.status.alarmEnabled = v_status_alarmEnabled) {v_status_alarmOn}
    (ev_status_alarmOn : s.status.alarmOn = v_status_alarmOn) {v_emerg_state} (ev_emerg_state : s.emerg.state = v_emerg_state)
    (hl : LampOk s.pins.lampHire s.pins.lampCall s.pins.lampAlarm s.power.startUp s.power.power s.status.lampMap s.status.status s.status.flashOn s.status.alarmEnabled s.status.alarmOn s.emerg.state) :
    LampOk (State.closeRing i s).pins.lampHire (State.closeRing i s).pins.lampCall
          (State.closeRing i s).pins.lampAlarm v_power_startUp v_power_power v_status_lampMap v_status_status v_status_flashOn v_status_alarmEnabled v_status_alarmOn v_emerg_state := by
  subst ev_power_startUp; subst ev_power_power; subst ev_status_lampMap; subst ev_status_status; subst ev_status_flashOn; subst ev_status_alarmEnabled; subst ev_status_alarmOn; subst ev_emerg_state;
  unfold State.closeRing; dsimp only; (repeat' split) <;> simp (maxDischargeDepth := 12) [hl]

@[simp] theorem State.ringClose_lamps (i : RingId) (w : Word) {s : State} {v_power_startUp}
    (ev_power_startUp : s.power.startUp = v_power_startUp) {v_power_power} (ev_power_power : s.power.power = v_power_power)
    {v_status_lampMap} (ev_status_lampMap : s.status.lampMap = v_status_lampMap) {v_status_status}
    (ev_status_status : s.status.status = v_status_status) {v_status_flashOn} (ev_status_flashOn : s.status.flashOn = v_status_flashOn)
    {v_status_alarmEnabled} (ev_status_alarmEnabled : s.status.alarmEnabled = v_status_alarmEnabled) {v_status_alarmOn}
    (ev_status_alarmOn : s.status.alarmOn = v_status_alarmOn) {v_emerg_state} (ev_emerg_state : s.emerg.state = v_emerg_state)
    (hl : LampOk s.pins.lampHire s.pins.lampCall s.pins.lampAlarm s.power.startUp s.power.power s.status.lampMap s.status.status s.status.flashOn s.status.alarmEnabled s.status.alarmOn s.emerg.state) :
    LampOk (State.ringClose i w s).pins.lampHire (State.ringClose i w s).pins.lampCall
          (State.ringClose i w s).pins.lampAlarm v_power_startUp v_power_power v_status_lampMap v_status_status v_status_flashOn v_status_alarmEnabled v_status_alarmOn v_emerg_state := by
  subst ev_power_startUp; subst ev_power_power; subst ev_status_lampMap; subst ev_status_status; subst ev_status_flashOn; subst ev_status_alarmEnabled; subst ev_status_alarmOn; subst ev_emerg_state;
  unfold State.ringClose; (repeat' split) <;> simp (maxDischargeDepth := 12) [hl]

@[simp] theorem State.ringControl_lamps (i : RingId) (l : Lanes) (d : Word) {s : State} {v_power_startUp}
    (ev_power_startUp : s.power.startUp = v_power_startUp) {v_power_power} (ev_power_power : s.power.power = v_power_power)
    {v_status_lampMap} (ev_status_lampMap : s.status.lampMap = v_status_lampMap) {v_status_status}
    (ev_status_status : s.status.status = v_status_status) {v_status_flashOn} (ev_status_flashOn : s.status.flashOn = v_status_flashOn)
    {v_status_alarmEnabled} (ev_status_alarmEnabled : s.status.alarmEnabled = v_status_alarmEnabled) {v_status_alarmOn}
    (ev_status_alarmOn : s.status.alarmOn = v_status_alarmOn) {v_emerg_state} (ev_emerg_state : s.emerg.state = v_emerg_state)
    (hl : LampOk s.pins.lampHire s.pins.lampCall s.pins.lampAlarm s.power.startUp s.power.power s.status.lampMap s.status.status s.status.flashOn s.status.alarmEnabled s.status.alarmOn s.emerg.state) :
    LampOk (State.ringControl i l d s).pins.lampHire (State.ringControl i l d s).pins.lampCall
          (State.ringControl i l d s).pins.lampAlarm v_power_startUp v_power_power v_status_lampMap v_status_status v_status_flashOn v_status_alarmEnabled v_status_alarmOn v_emerg_state := by
  subst ev_power_startUp; subst ev_power_power; subst ev_status_lampMap; subst ev_status_status; subst ev_status_flashOn; subst ev_status_alarmEnabled; subst ev_status_alarmOn; subst ev_emerg_state;
  unfold State.ringControl; dsimp only; (repeat' split) <;> simp (maxDischargeDepth := 12) [hl]

@[simp] theorem State.pointerMoved_lamps (i : RingId) {s : State} {v_power_startUp} (ev_power_startUp : s.power.startUp = v_power_startUp)
    {v_power_power} (ev_power_power : s.power.power = v_power_power) {v_status_lampMap}
    (ev_status_lampMap : s.status.lampMap = v_status_lampMap) {v_status_status} (ev_status_status : s.status.status = v_status_status)
    {v_status_flashOn} (ev_status_flashOn : s.status.flashOn = v_status_flashOn) {v_status_alarmEnabled}
    (ev_status_alarmEnabled : s.status.alarmEnabled = v_status_alarmEnabled) {v_status_alarmOn}
    (ev_status_alarmOn : s.status.alarmOn = v_status_alarmOn) {v_emerg_state} (ev_emerg_state : s.emerg.state = v_emerg_state)
    (hl : LampOk s.pins.lampHire s.pins.lampCall s.pins.lampAlarm s.power.startUp s.power.power s.status.lampMap s.status.status s.status.flashOn s.status.alarmEnabled s.status.alarmOn s.emerg.state) :
    LampOk (State.pointerMoved i s).pins.lampHire (State.pointerMoved i s).pins.lampCall
          (State.pointerMoved i s).pins.lampAlarm v_power_startUp v_power_power v_status_lampMap v_status_status v_status_flashOn v_status_alarmEnabled v_status_alarmOn v_emerg_state := by
  subst ev_power_startUp; subst ev_power_power; subst ev_status_lampMap; subst ev_status_status; subst ev_status_flashOn; subst ev_status_alarmEnabled; subst ev_status_alarmOn; subst ev_emerg_state;
  unfold State.pointerMoved; (repeat' split) <;> simp (maxDischargeDepth := 12) [hl]

@[simp] theorem State.pointerWrite_lamps (i : RingId) (l : Lanes) (d : Word) {s : State} {v_power_startUp}
    (ev_power_startUp : s.power.startUp = v_power_startUp) {v_power_power} (ev_power_power : s.power.power = v_power_power)
    {v_status_lampMap} (ev_status_lampMap : s.status.lampMap = v_status_lampMap) {v_status_status}
    (ev_status_status : s.status.status = v_status_status) {v_status_flashOn} (ev_status_flashOn : s.status.flashOn = v_status_flashOn)
    {v_status_alarmEnabled} (ev_status_alarmEnabled : s.status.alarmEnabled = v_status_alarmEnabled) {v_status_alarmOn}
    (ev_status_alarmOn : s.status.alarmOn = v_status_alarmOn) {v_emerg_state} (ev_emerg_state : s.emerg.state = v_emerg_state)
    (hl : LampOk s.pins.lampHire s.pins.lampCall s.pins.lampAlarm s.power.startUp s.power.power s.status.lampMap s.status.status s.status.flashOn s.status.alarmEnabled s.status.alarmOn s.emerg.state) :
    LampOk (State.pointerWrite i l d s).pins.lampHire (State.pointerWrite i l d s).pins.lampCall
          (State.pointerWrite i l d s).pins.lampAlarm v_power_startUp v_power_power v_status_lampMap v_status_status v_status_flashOn v_status_alarmEnabled v_status_alarmOn v_emerg_state := by
  subst ev_power_startUp; subst ev_power_power; subst ev_status_lampMap; subst ev_status_status; subst ev_status_flashOn; subst ev_status_alarmEnabled; subst ev_status_alarmOn; subst ev_emerg_state;
  unfold State.pointerWrite; dsimp only; (repeat' split) <;> simp (maxDischargeDepth := 12) [hl]

@[simp] theorem State.endOpenCheck_lamps (i : RingId) (h : HeaderWords) {s : State} {v_power_startUp}
    (ev_power_startUp : s.power.startUp = v_power_startUp) {v_power_power} (ev_power_power : s.power.power = v_power_power)
    {v_status_lampMap} (ev_status_lampMap : s.status.lampMap = v_status_lampMap) {v_status_status}
    (ev_status_status : s.status.status = v_status_status) {v_status_flashOn} (ev_status_flashOn : s.status.flashOn = v_status_flashOn)
    {v_status_alarmEnabled} (ev_status_alarmEnabled : s.status.alarmEnabled = v_status_alarmEnabled) {v_status_alarmOn}
    (ev_status_alarmOn : s.status.alarmOn = v_status_alarmOn) {v_emerg_state} (ev_emerg_state : s.emerg.state = v_emerg_state)
    (hl : LampOk s.pins.lampHire s.pins.lampCall s.pins.lampAlarm s.power.startUp s.power.power s.status.lampMap s.status.status s.status.flashOn s.status.alarmEnabled s.status.alarmOn s.emerg.state) :
    LampOk (State.endOpenCheck i h s).pins.lampHire (State.endOpenCheck i h s).pins.lampCall
          (State.endOpenCheck i h s).pins.lampAlarm v_power_startUp v_power_power v_status_lampMap v_status_status v_status_flashOn v_status_alarmEnabled v_status_alarmOn v_emerg_state := by
  subst ev_power_startUp; subst ev_power_power; subst ev_status_lampMap; subst ev_status_status; subst ev_status_flashOn; subst ev_status_alarmEnabled; subst ev_status_alarmOn; subst ev_emerg_state;
  unfold State.endOpenCheck; dsimp only; (repeat' split) <;> simp (maxDischargeDepth := 12) [hl]

@[simp] theorem State.enterActive_lamps {s : State} {v_power_startUp} (ev_power_startUp : s.power.startUp = v_power_startUp)
    {v_status_lampMap} (ev_status_lampMap : s.status.lampMap = v_status_lampMap) {v_status_status}
    (ev_status_status : s.status.status = v_status_status) {v_status_flashOn} (ev_status_flashOn : s.status.flashOn = v_status_flashOn)
    {v_status_alarmEnabled} (ev_status_alarmEnabled : s.status.alarmEnabled = v_status_alarmEnabled) {v_status_alarmOn}
    (ev_status_alarmOn : s.status.alarmOn = v_status_alarmOn) {v_emerg_state} (ev_emerg_state : s.emerg.state = v_emerg_state) :
    LampOk (State.enterActive s).pins.lampHire (State.enterActive s).pins.lampCall (State.enterActive s).pins.lampAlarm v_power_startUp
          (State.enterActive s).power.power v_status_lampMap v_status_status v_status_flashOn v_status_alarmEnabled v_status_alarmOn v_emerg_state := by
  subst ev_power_startUp; subst ev_status_lampMap; subst ev_status_status; subst ev_status_flashOn; subst ev_status_alarmEnabled; subst ev_status_alarmOn; subst ev_emerg_state;
  unfold State.enterActive; (repeat' split) <;> simp (maxDischargeDepth := 12)

@[simp] theorem State.wakeEvent_lamps (w : WakeSource) {s : State} {v_power_startUp} (ev_power_startUp : s.power.startUp = v_power_startUp)
    {v_status_lampMap} (ev_status_lampMap : s.status.lampMap = v_status_lampMap) {v_status_status}
    (ev_status_status : s.status.status = v_status_status) {v_status_flashOn} (ev_status_flashOn : s.status.flashOn = v_status_flashOn)
    {v_status_alarmEnabled} (ev_status_alarmEnabled : s.status.alarmEnabled = v_status_alarmEnabled) {v_status_alarmOn}
    (ev_status_alarmOn : s.status.alarmOn = v_status_alarmOn) {v_emerg_state} (ev_emerg_state : s.emerg.state = v_emerg_state)
    (hl : LampOk s.pins.lampHire s.pins.lampCall s.pins.lampAlarm s.power.startUp s.power.power s.status.lampMap s.status.status s.status.flashOn s.status.alarmEnabled s.status.alarmOn s.emerg.state) :
    LampOk (State.wakeEvent w s).pins.lampHire (State.wakeEvent w s).pins.lampCall (State.wakeEvent w s).pins.lampAlarm v_power_startUp
          (State.wakeEvent w s).power.power v_status_lampMap v_status_status v_status_flashOn v_status_alarmEnabled v_status_alarmOn v_emerg_state := by
  subst ev_power_startUp; subst ev_status_lampMap; subst ev_status_status; subst ev_status_flashOn; subst ev_status_alarmEnabled; subst ev_status_alarmOn; subst ev_emerg_state;
  unfold State.wakeEvent; (repeat' split) <;> simp (maxDischargeDepth := 12) [hl]

@[simp] theorem State.enterParking_lamps {s : State} {v_power_startUp} (ev_power_startUp : s.power.startUp = v_power_startUp)
    {v_status_lampMap} (ev_status_lampMap : s.status.lampMap = v_status_lampMap) {v_status_status}
    (ev_status_status : s.status.status = v_status_status) {v_status_flashOn} (ev_status_flashOn : s.status.flashOn = v_status_flashOn)
    {v_status_alarmEnabled} (ev_status_alarmEnabled : s.status.alarmEnabled = v_status_alarmEnabled) {v_status_alarmOn}
    (ev_status_alarmOn : s.status.alarmOn = v_status_alarmOn) {v_emerg_state} (ev_emerg_state : s.emerg.state = v_emerg_state) :
    LampOk (State.enterParking s).pins.lampHire (State.enterParking s).pins.lampCall (State.enterParking s).pins.lampAlarm v_power_startUp
          (State.enterParking s).power.power v_status_lampMap v_status_status v_status_flashOn v_status_alarmEnabled v_status_alarmOn v_emerg_state := by
  subst ev_power_startUp; subst ev_status_lampMap; subst ev_status_status; subst ev_status_flashOn; subst ev_status_alarmEnabled; subst ev_status_alarmOn; subst ev_emerg_state;
  unfold State.enterParking; (repeat' split) <;> simp (maxDischargeDepth := 12)

@[simp] theorem State.enterStandby_lamps {s : State} {v_power_startUp} (ev_power_startUp : s.power.startUp = v_power_startUp)
    {v_status_lampMap} (ev_status_lampMap : s.status.lampMap = v_status_lampMap) {v_status_status}
    (ev_status_status : s.status.status = v_status_status) {v_status_flashOn} (ev_status_flashOn : s.status.flashOn = v_status_flashOn)
    {v_status_alarmEnabled} (ev_status_alarmEnabled : s.status.alarmEnabled = v_status_alarmEnabled) {v_status_alarmOn}
    (ev_status_alarmOn : s.status.alarmOn = v_status_alarmOn) {v_emerg_state} (ev_emerg_state : s.emerg.state = v_emerg_state) :
    LampOk (State.enterStandby s).pins.lampHire (State.enterStandby s).pins.lampCall (State.enterStandby s).pins.lampAlarm v_power_startUp
          (State.enterStandby s).power.power v_status_lampMap v_status_status v_status_flashOn v_status_alarmEnabled v_status_alarmOn v_emerg_state := by
  subst ev_power_startUp; subst ev_status_lampMap; subst ev_status_status; subst ev_status_flashOn; subst ev_status_alarmEnabled; subst ev_status_alarmOn; subst ev_emerg_state;
  unfold State.enterStandby; (repeat' split) <;> simp (maxDischargeDepth := 12)

@[simp] theorem State.enterSleep_lamps {s : State} {v_power_startUp} (ev_power_startUp : s.power.startUp = v_power_startUp)
    {v_status_lampMap} (ev_status_lampMap : s.status.lampMap = v_status_lampMap) {v_status_status}
    (ev_status_status : s.status.status = v_status_status) {v_status_flashOn} (ev_status_flashOn : s.status.flashOn = v_status_flashOn)
    {v_status_alarmEnabled} (ev_status_alarmEnabled : s.status.alarmEnabled = v_status_alarmEnabled) {v_status_alarmOn}
    (ev_status_alarmOn : s.status.alarmOn = v_status_alarmOn) {v_emerg_state} (ev_emerg_state : s.emerg.state = v_emerg_state) :
    LampOk (State.enterSleep s).pins.lampHire (State.enterSleep s).pins.lampCall (State.enterSleep s).pins.lampAlarm v_power_startUp
          (State.enterSleep s).power.power v_status_lampMap v_status_status v_status_flashOn v_status_alarmEnabled v_status_alarmOn v_emerg_state := by
  subst ev_power_startUp; subst ev_status_lampMap; subst ev_status_status; subst ev_status_flashOn; subst ev_status_alarmEnabled; subst ev_status_alarmOn; subst ev_emerg_state;
  unfold State.enterSleep; (repeat' split) <;> simp (maxDischargeDepth := 12)

@[simp] theorem State.endParking_lamps {s : State} {v_power_startUp} (ev_power_startUp : s.power.startUp = v_power_startUp)
    {v_status_lampMap} (ev_status_lampMap : s.status.lampMap = v_status_lampMap) {v_status_status}
    (ev_status_status : s.status.status = v_status_status) {v_status_flashOn} (ev_status_flashOn : s.status.flashOn = v_status_flashOn)
    {v_status_alarmEnabled} (ev_status_alarmEnabled : s.status.alarmEnabled = v_status_alarmEnabled) {v_status_alarmOn}
    (ev_status_alarmOn : s.status.alarmOn = v_status_alarmOn) {v_emerg_state} (ev_emerg_state : s.emerg.state = v_emerg_state)
    (hl : LampOk s.pins.lampHire s.pins.lampCall s.pins.lampAlarm s.power.startUp s.power.power s.status.lampMap s.status.status s.status.flashOn s.status.alarmEnabled s.status.alarmOn s.emerg.state) :
    LampOk (State.endParking s).pins.lampHire (State.endParking s).pins.lampCall (State.endParking s).pins.lampAlarm v_power_startUp
          (State.endParking s).power.power v_status_lampMap v_status_status v_status_flashOn v_status_alarmEnabled v_status_alarmOn v_emerg_state := by
  subst ev_power_startUp; subst ev_status_lampMap; subst ev_status_status; subst ev_status_flashOn; subst ev_status_alarmEnabled; subst ev_status_alarmOn; subst ev_emerg_state;
  unfold State.endParking; (repeat' split) <;> simp (maxDischargeDepth := 12) [hl]

@[simp] theorem State.statusSent_lamps (b : Bool) {s : State} {v_power_startUp} (ev_power_startUp : s.power.startUp = v_power_startUp)
    {v_status_lampMap} (ev_status_lampMap : s.status.lampMap = v_status_lampMap) {v_status_status}
    (ev_status_status : s.status.status = v_status_status) {v_status_flashOn} (ev_status_flashOn : s.status.flashOn = v_status_flashOn)
    {v_status_alarmEnabled} (ev_status_alarmEnabled : s.status.alarmEnabled = v_status_alarmEnabled) {v_status_alarmOn}
    (ev_status_alarmOn : s.status.alarmOn = v_status_alarmOn) {v_emerg_state} (ev_emerg_state : s.emerg.state = v_emerg_state)
    (hl : LampOk s.pins.lampHire s.pins.lampCall s.pins.lampAlarm s.power.startUp s.power.power s.status.lampMap s.status.status s.status.flashOn s.status.alarmEnabled s.status.alarmOn s.emerg.state) :
    LampOk (State.statusSent b s).pins.lampHire (State.statusSent b s).pins.lampCall (State.statusSent b s).pins.lampAlarm v_power_startUp
          (State.statusSent b s).power.power v_status_lampMap v_status_status v_status_flashOn v_status_alarmEnabled v_status_alarmOn v_emerg_state := by
  subst ev_power_startUp; subst ev_status_lampMap; subst ev_status_status; subst ev_status_flashOn; subst ev_status_alarmEnabled; subst ev_status_alarmOn; subst ev_emerg_state;
  unfold State.statusSent; (repeat' split) <;> simp (maxDischargeDepth := 12) [hl]

@[simp] theorem State.powerChange_lamps (w : Word) {s : State} {v_power_startUp} (ev_power_startUp : s.power.startUp = v_power_startUp)
    {v_status_lampMap} (ev_status_lampMap : s.status.lampMap = v_status_lampMap) {v_status_status}
    (ev_status_status : s.status.status = v_status_status) {v_status_flashOn} (ev_status_flashOn : s.status.flashOn = v_status_flashOn)
    {v_status_alarmEnabled} (ev_status_alarmEnabled : s.status.alarmEnabled = v_status_alarmEnabled) {v_status_alarmOn}
    (ev_status_alarmOn : s.status.alarmOn = v_status_alarmOn) {v_emerg_state} (ev_emerg_state : s.emerg.state = v_emerg_state)
    (hl : LampOk s.pins.lampHire s.pins.lampCall s.pins.lampAlarm s.power.startUp s.power.power s.status.lampMap s.status.status s.status.flashOn s.status.alarmEnabled s.status.alarmOn s.emerg.state) :
    LampOk (State.powerChange w s).pins.lampHire (State.powerChange w s).pins.lampCall
          (State.powerChange w s).pins.lampAlarm v_power_startUp
          (State.powerChange w s).power.power v_status_lampMap v_status_status v_status_flashOn v_status_alarmEnabled v_status_alarmOn v_emerg_state := by
  subst ev_power_startUp; subst ev_status_lampMap; subst ev_status_status; subst ev_status_flashOn; subst ev_status_alarmEnabled; subst ev_status_alarmOn; subst ev_emerg_state;
  unfold State.powerChange; (repeat' split) <;> simp (maxDischargeDepth := 12) [hl]

@[simp] theorem State.powerRequest_lamps (l : Lanes) (d : Word) {s : State} {v_power_startUp}
    (ev_power_startUp : s.power.startUp = v_power_startUp) {v_status_lampMap} (ev_status_lampMap : s.status.lampMap = v_status_lampMap)
    {v_status_status} (ev_status_status : s.status.status = v_status_status) {v_status_flashOn}
    (ev_status_flashOn : s.status.flashOn = v_status_flashOn) {v_status_alarmEnabled}
    (ev_status_alarmEnabled : s.status.alarmEnabled = v_status_alarmEnabled) {v_status_alarmOn}
    (ev_status_alarmOn : s.status.alarmOn = v_status_alarmOn) {v_emerg_state} (ev_emerg_state : s.emerg.state = v_emerg_state)
    (hl : LampOk s.pins.lampHire s.pins.lampCall s.pins.lampAlarm s.power.startUp s.power.power s.status.lampMap s.status.status s.status.flashOn s.status.alarmEnabled s.status.alarmOn s.emerg.state) :
    LampOk (State.powerRequest l d s).pins.lampHire (State.powerRequest l d s).pins.lampCall
          (State.powerRequest l d s).pins.lampAlarm v_power_startUp
          (State.powerRequest l d s).power.power v_status_lampMap v_status_status v_status_flashOn v_status_alarmEnabled v_status_alarmOn v_emerg_state := by
  subst ev_power_startUp; subst ev_status_lampMap; subst ev_status_status; subst ev_status_flashOn; subst ev_status_alarmEnabled; subst ev_status_alarmOn; subst ev_emerg_state;
  unfold State.powerRequest; dsimp only; (repeat' split) <;> simp (maxDischargeDepth := 12) [hl]

@[simp] theorem State.alertingHandOn_lamps {s : State} {v_power_startUp} (ev_power_startUp : s.power.startUp = v_power_startUp)
    {v_power_power} (ev_power_power : s.power.power = v_power_power) {v_status_lampMap}
    (ev_status_lampMap : s.status.lampMap = v_status_lampMap) {v_status_status} (ev_status_status : s.status.status = v_status_status)
    {v_status_flashOn} (ev_status_flashOn : s.status.flashOn = v_status_flashOn) {v_status_alarmEnabled}
    (ev_status_alarmEnabled : s.status.alarmEnabled = v_status_alarmEnabled) {v_emerg_state}
    (ev_emerg_state : s.emerg.state = v_emerg_state) :
    LampOk (State.alertingHandOn s).pins.lampHire (State.alertingHandOn s).pins.lampCall
          (State.alertingHandOn s).pins.lampAlarm v_power_startUp v_power_power v_status_lampMap v_status_status v_status_flashOn v_status_alarmEnabled (State.alertingHandOn s).status.alarmOn v_emerg_state := by
  subst ev_power_startUp; subst ev_power_power; subst ev_status_lampMap; subst ev_status_status; subst ev_status_flashOn; subst ev_status_alarmEnabled; subst ev_emerg_state;
  unfold State.alertingHandOn; (repeat' split) <;> simp (maxDischargeDepth := 12)

@[simp] theorem State.enterAlerting_lamps (x : Source) {s : State} {v_power_startUp} (ev_power_startUp : s.power.startUp = v_power_startUp)
    {v_power_power} (ev_power_power : s.power.power = v_power_power) {v_status_lampMap}
    (ev_status_lampMap : s.status.lampMap = v_status_lampMap) {v_status_status} (ev_status_status : s.status.status = v_status_status)
    {v_status_flashOn} (ev_status_flashOn : s.status.flashOn = v_status_flashOn) {v_status_alarmEnabled}
    (ev_status_alarmEnabled : s.status.alarmEnabled = v_status_alarmEnabled) :
    LampOk (State.enterAlerting x s).pins.lampHire (State.enterAlerting x s).pins.lampCall
          (State.enterAlerting x s).pins.lampAlarm v_power_startUp v_power_power v_status_lampMap v_status_status v_status_flashOn v_status_alarmEnabled (State.enterAlerting x s).status.alarmOn (State.enterAlerting x s).emerg.state := by
  subst ev_power_startUp; subst ev_power_power; subst ev_status_lampMap; subst ev_status_status; subst ev_status_flashOn; subst ev_status_alarmEnabled;
  unfold State.enterAlerting; (repeat' split) <;> simp (maxDischargeDepth := 12)

@[simp] theorem State.takeClosing_lamps {s : State} {v_power_startUp} (ev_power_startUp : s.power.startUp = v_power_startUp)
    {v_status_lampMap} (ev_status_lampMap : s.status.lampMap = v_status_lampMap) {v_status_status}
    (ev_status_status : s.status.status = v_status_status) {v_status_flashOn} (ev_status_flashOn : s.status.flashOn = v_status_flashOn)
    {v_status_alarmEnabled} (ev_status_alarmEnabled : s.status.alarmEnabled = v_status_alarmEnabled) {v_status_alarmOn}
    (ev_status_alarmOn : s.status.alarmOn = v_status_alarmOn)
    (hl : LampOk s.pins.lampHire s.pins.lampCall s.pins.lampAlarm s.power.startUp s.power.power s.status.lampMap s.status.status s.status.flashOn s.status.alarmEnabled s.status.alarmOn s.emerg.state) :
    LampOk (State.takeClosing s).pins.lampHire (State.takeClosing s).pins.lampCall (State.takeClosing s).pins.lampAlarm v_power_startUp
          (State.takeClosing s).power.power v_status_lampMap v_status_status v_status_flashOn v_status_alarmEnabled v_status_alarmOn
          (State.takeClosing s).emerg.state := by
  subst ev_power_startUp; subst ev_status_lampMap; subst ev_status_status; subst ev_status_flashOn; subst ev_status_alarmEnabled; subst ev_status_alarmOn;
  unfold State.takeClosing; dsimp only
  have hw := State.wakeEvent_lamps .switch rfl rfl rfl rfl rfl rfl rfl  hl
  split
  · rename_i h
    simp only [beq_iff_eq] at h
    simp_all [LampOk, EmergencyState.raised]
  · simpa using hw

@[simp] theorem State.takeOpening_lamps {s : State} {v_pins_lampHire} (ev_pins_lampHire : s.pins.lampHire = v_pins_lampHire)
    {v_pins_lampCall} (ev_pins_lampCall : s.pins.lampCall = v_pins_lampCall) {v_pins_lampAlarm}
    (ev_pins_lampAlarm : s.pins.lampAlarm = v_pins_lampAlarm) {v_power_startUp} (ev_power_startUp : s.power.startUp = v_power_startUp)
    {v_power_power} (ev_power_power : s.power.power = v_power_power) {v_status_lampMap}
    (ev_status_lampMap : s.status.lampMap = v_status_lampMap) {v_status_status} (ev_status_status : s.status.status = v_status_status)
    {v_status_flashOn} (ev_status_flashOn : s.status.flashOn = v_status_flashOn) {v_status_alarmEnabled}
    (ev_status_alarmEnabled : s.status.alarmEnabled = v_status_alarmEnabled) {v_status_alarmOn}
    (ev_status_alarmOn : s.status.alarmOn = v_status_alarmOn)
    (hl : LampOk s.pins.lampHire s.pins.lampCall s.pins.lampAlarm s.power.startUp s.power.power s.status.lampMap s.status.status s.status.flashOn s.status.alarmEnabled s.status.alarmOn s.emerg.state) :
    LampOk v_pins_lampHire v_pins_lampCall v_pins_lampAlarm v_power_startUp v_power_power v_status_lampMap v_status_status v_status_flashOn v_status_alarmEnabled v_status_alarmOn (State.takeOpening s).emerg.state := by
  subst ev_pins_lampHire; subst ev_pins_lampCall; subst ev_pins_lampAlarm; subst ev_power_startUp; subst ev_power_power; subst ev_status_lampMap; subst ev_status_status; subst ev_status_flashOn; subst ev_status_alarmEnabled; subst ev_status_alarmOn;
  unfold State.takeOpening; (repeat' split) <;> simp_all (maxDischargeDepth := 12) [LampOk, EmergencyState.raised]

@[simp] theorem State.holdEnds_lamps {s : State} {v_power_startUp} (ev_power_startUp : s.power.startUp = v_power_startUp) {v_power_power}
    (ev_power_power : s.power.power = v_power_power) {v_status_lampMap} (ev_status_lampMap : s.status.lampMap = v_status_lampMap)
    {v_status_status} (ev_status_status : s.status.status = v_status_status) {v_status_flashOn}
    (ev_status_flashOn : s.status.flashOn = v_status_flashOn) {v_status_alarmEnabled}
    (ev_status_alarmEnabled : s.status.alarmEnabled = v_status_alarmEnabled)
    (hl : LampOk s.pins.lampHire s.pins.lampCall s.pins.lampAlarm s.power.startUp s.power.power s.status.lampMap s.status.status s.status.flashOn s.status.alarmEnabled s.status.alarmOn s.emerg.state) :
    LampOk (State.holdEnds s).pins.lampHire (State.holdEnds s).pins.lampCall
          (State.holdEnds s).pins.lampAlarm v_power_startUp v_power_power v_status_lampMap v_status_status v_status_flashOn v_status_alarmEnabled (State.holdEnds s).status.alarmOn (State.holdEnds s).emerg.state := by
  subst ev_power_startUp; subst ev_power_power; subst ev_status_lampMap; subst ev_status_status; subst ev_status_flashOn; subst ev_status_alarmEnabled;
  unfold State.holdEnds; (repeat' split) <;> simp (maxDischargeDepth := 12) [hl]

@[simp] theorem State.emergencyRaiseWrite_lamps (l : Lanes) (d : Word) {s : State} {v_power_startUp}
    (ev_power_startUp : s.power.startUp = v_power_startUp) {v_power_power} (ev_power_power : s.power.power = v_power_power)
    {v_status_lampMap} (ev_status_lampMap : s.status.lampMap = v_status_lampMap) {v_status_status}
    (ev_status_status : s.status.status = v_status_status) {v_status_flashOn} (ev_status_flashOn : s.status.flashOn = v_status_flashOn)
    {v_status_alarmEnabled} (ev_status_alarmEnabled : s.status.alarmEnabled = v_status_alarmEnabled)
    (hl : LampOk s.pins.lampHire s.pins.lampCall s.pins.lampAlarm s.power.startUp s.power.power s.status.lampMap s.status.status s.status.flashOn s.status.alarmEnabled s.status.alarmOn s.emerg.state) :
    LampOk (State.emergencyRaiseWrite l d s).pins.lampHire (State.emergencyRaiseWrite l d s).pins.lampCall
          (State.emergencyRaiseWrite l d s).pins.lampAlarm v_power_startUp v_power_power v_status_lampMap v_status_status v_status_flashOn v_status_alarmEnabled (State.emergencyRaiseWrite l d s).status.alarmOn (State.emergencyRaiseWrite l d s).emerg.state := by
  subst ev_power_startUp; subst ev_power_power; subst ev_status_lampMap; subst ev_status_status; subst ev_status_flashOn; subst ev_status_alarmEnabled;
  unfold State.emergencyRaiseWrite; dsimp only; (repeat' split) <;> simp (maxDischargeDepth := 12) [hl]

@[simp] theorem State.takeAlertAck_lamps (n : Word) {s : State} {v_pins_lampHire} (ev_pins_lampHire : s.pins.lampHire = v_pins_lampHire)
    {v_pins_lampCall} (ev_pins_lampCall : s.pins.lampCall = v_pins_lampCall) {v_pins_lampAlarm}
    (ev_pins_lampAlarm : s.pins.lampAlarm = v_pins_lampAlarm) {v_power_startUp} (ev_power_startUp : s.power.startUp = v_power_startUp)
    {v_power_power} (ev_power_power : s.power.power = v_power_power) {v_status_lampMap}
    (ev_status_lampMap : s.status.lampMap = v_status_lampMap) {v_status_status} (ev_status_status : s.status.status = v_status_status)
    {v_status_flashOn} (ev_status_flashOn : s.status.flashOn = v_status_flashOn) {v_status_alarmEnabled}
    (ev_status_alarmEnabled : s.status.alarmEnabled = v_status_alarmEnabled) {v_status_alarmOn}
    (ev_status_alarmOn : s.status.alarmOn = v_status_alarmOn)
    (hl : LampOk s.pins.lampHire s.pins.lampCall s.pins.lampAlarm s.power.startUp s.power.power s.status.lampMap s.status.status s.status.flashOn s.status.alarmEnabled s.status.alarmOn s.emerg.state) :
    LampOk v_pins_lampHire v_pins_lampCall v_pins_lampAlarm v_power_startUp v_power_power v_status_lampMap v_status_status v_status_flashOn v_status_alarmEnabled v_status_alarmOn (State.takeAlertAck n s).emerg.state := by
  subst ev_pins_lampHire; subst ev_pins_lampCall; subst ev_pins_lampAlarm; subst ev_power_startUp; subst ev_power_power; subst ev_status_lampMap; subst ev_status_status; subst ev_status_flashOn; subst ev_status_alarmEnabled; subst ev_status_alarmOn;
  unfold State.takeAlertAck; (repeat' split) <;> simp_all (maxDischargeDepth := 12) [LampOk, EmergencyState.raised]

@[simp] theorem State.takeAlertCancel_lamps (n : Word) {s : State} {v_power_startUp} (ev_power_startUp : s.power.startUp = v_power_startUp)
    {v_power_power} (ev_power_power : s.power.power = v_power_power) {v_status_lampMap}
    (ev_status_lampMap : s.status.lampMap = v_status_lampMap) {v_status_status} (ev_status_status : s.status.status = v_status_status)
    {v_status_flashOn} (ev_status_flashOn : s.status.flashOn = v_status_flashOn) {v_status_alarmEnabled}
    (ev_status_alarmEnabled : s.status.alarmEnabled = v_status_alarmEnabled) {v_status_alarmOn}
    (ev_status_alarmOn : s.status.alarmOn = v_status_alarmOn)
    (hl : LampOk s.pins.lampHire s.pins.lampCall s.pins.lampAlarm s.power.startUp s.power.power s.status.lampMap s.status.status s.status.flashOn s.status.alarmEnabled s.status.alarmOn s.emerg.state) :
    LampOk (State.takeAlertCancel n s).pins.lampHire (State.takeAlertCancel n s).pins.lampCall
          (State.takeAlertCancel n s).pins.lampAlarm v_power_startUp v_power_power v_status_lampMap v_status_status v_status_flashOn v_status_alarmEnabled v_status_alarmOn (State.takeAlertCancel n s).emerg.state := by
  subst ev_power_startUp; subst ev_power_power; subst ev_status_lampMap; subst ev_status_status; subst ev_status_flashOn; subst ev_status_alarmEnabled; subst ev_status_alarmOn;
  unfold State.takeAlertCancel; (repeat' split) <;> simp (maxDischargeDepth := 12) [hl]

@[simp] theorem State.recover_lamps (j : RecordJudgment) {s : State} {v_power_startUp}
    (ev_power_startUp : s.power.startUp = v_power_startUp) {v_power_power} (ev_power_power : s.power.power = v_power_power)
    {v_status_lampMap} (ev_status_lampMap : s.status.lampMap = v_status_lampMap) {v_status_status}
    (ev_status_status : s.status.status = v_status_status) {v_status_flashOn} (ev_status_flashOn : s.status.flashOn = v_status_flashOn)
    {v_status_alarmEnabled} (ev_status_alarmEnabled : s.status.alarmEnabled = v_status_alarmEnabled)
    (hl : LampOk s.pins.lampHire s.pins.lampCall s.pins.lampAlarm s.power.startUp s.power.power s.status.lampMap s.status.status s.status.flashOn s.status.alarmEnabled s.status.alarmOn s.emerg.state) :
    LampOk (State.recover j s).pins.lampHire (State.recover j s).pins.lampCall
          (State.recover j s).pins.lampAlarm v_power_startUp v_power_power v_status_lampMap v_status_status v_status_flashOn v_status_alarmEnabled (State.recover j s).status.alarmOn (State.recover j s).emerg.state := by
  subst ev_power_startUp; subst ev_power_power; subst ev_status_lampMap; subst ev_status_status; subst ev_status_flashOn; subst ev_status_alarmEnabled;
  unfold State.recover; (repeat' split) <;> simp (maxDischargeDepth := 12) [hl]

@[simp] theorem State.attachDriver_lamps (d : Word) {s : State} {v_power_startUp} (ev_power_startUp : s.power.startUp = v_power_startUp)
    {v_power_power} (ev_power_power : s.power.power = v_power_power) {v_status_lampMap}
    (ev_status_lampMap : s.status.lampMap = v_status_lampMap) {v_status_status} (ev_status_status : s.status.status = v_status_status)
    {v_status_flashOn} (ev_status_flashOn : s.status.flashOn = v_status_flashOn) {v_status_alarmEnabled}
    (ev_status_alarmEnabled : s.status.alarmEnabled = v_status_alarmEnabled) {v_status_alarmOn}
    (ev_status_alarmOn : s.status.alarmOn = v_status_alarmOn) {v_emerg_state} (ev_emerg_state : s.emerg.state = v_emerg_state) :
    LampOk (State.attachDriver d s).pins.lampHire (State.attachDriver d s).pins.lampCall
          (State.attachDriver d s).pins.lampAlarm v_power_startUp v_power_power v_status_lampMap v_status_status v_status_flashOn v_status_alarmEnabled v_status_alarmOn v_emerg_state := by
  subst ev_power_startUp; subst ev_power_power; subst ev_status_lampMap; subst ev_status_status; subst ev_status_flashOn; subst ev_status_alarmEnabled; subst ev_status_alarmOn; subst ev_emerg_state;
  unfold State.attachDriver; (repeat' split) <;> simp (maxDischargeDepth := 12)

@[simp] theorem State.driverWrite_lamps (l : Lanes) (d : Word) {s : State} {v_power_startUp}
    (ev_power_startUp : s.power.startUp = v_power_startUp) {v_power_power} (ev_power_power : s.power.power = v_power_power)
    {v_status_lampMap} (ev_status_lampMap : s.status.lampMap = v_status_lampMap) {v_status_flashOn}
    (ev_status_flashOn : s.status.flashOn = v_status_flashOn) {v_status_alarmEnabled}
    (ev_status_alarmEnabled : s.status.alarmEnabled = v_status_alarmEnabled) {v_status_alarmOn}
    (ev_status_alarmOn : s.status.alarmOn = v_status_alarmOn) {v_emerg_state} (ev_emerg_state : s.emerg.state = v_emerg_state)
    (hl : LampOk s.pins.lampHire s.pins.lampCall s.pins.lampAlarm s.power.startUp s.power.power s.status.lampMap s.status.status s.status.flashOn s.status.alarmEnabled s.status.alarmOn s.emerg.state) :
    LampOk (State.driverWrite l d s).pins.lampHire (State.driverWrite l d s).pins.lampCall
          (State.driverWrite l d s).pins.lampAlarm v_power_startUp v_power_power v_status_lampMap
          (State.driverWrite l d s).status.status v_status_flashOn v_status_alarmEnabled v_status_alarmOn v_emerg_state := by
  subst ev_power_startUp; subst ev_power_power; subst ev_status_lampMap; subst ev_status_flashOn; subst ev_status_alarmEnabled; subst ev_status_alarmOn; subst ev_emerg_state;
  unfold State.driverWrite; dsimp only; (repeat' split) <;> simp (maxDischargeDepth := 12) [hl]

@[simp] theorem State.statusRequest_lamps (l : Lanes) (d : Word) {s : State} {v_power_startUp}
    (ev_power_startUp : s.power.startUp = v_power_startUp) {v_power_power} (ev_power_power : s.power.power = v_power_power)
    {v_status_lampMap} (ev_status_lampMap : s.status.lampMap = v_status_lampMap) {v_status_flashOn}
    (ev_status_flashOn : s.status.flashOn = v_status_flashOn) {v_status_alarmEnabled}
    (ev_status_alarmEnabled : s.status.alarmEnabled = v_status_alarmEnabled) {v_status_alarmOn}
    (ev_status_alarmOn : s.status.alarmOn = v_status_alarmOn) {v_emerg_state} (ev_emerg_state : s.emerg.state = v_emerg_state)
    (hl : LampOk s.pins.lampHire s.pins.lampCall s.pins.lampAlarm s.power.startUp s.power.power s.status.lampMap s.status.status s.status.flashOn s.status.alarmEnabled s.status.alarmOn s.emerg.state) :
    LampOk (State.statusRequest l d s).pins.lampHire (State.statusRequest l d s).pins.lampCall
          (State.statusRequest l d s).pins.lampAlarm v_power_startUp v_power_power v_status_lampMap
          (State.statusRequest l d s).status.status v_status_flashOn v_status_alarmEnabled v_status_alarmOn v_emerg_state := by
  subst ev_power_startUp; subst ev_power_power; subst ev_status_lampMap; subst ev_status_flashOn; subst ev_status_alarmEnabled; subst ev_status_alarmOn; subst ev_emerg_state;
  unfold State.statusRequest; dsimp only; (repeat' split) <;> simp (maxDischargeDepth := 12) [hl]

@[simp] theorem State.closeShift_lamps {s : State} {v_power_startUp} (ev_power_startUp : s.power.startUp = v_power_startUp) {v_power_power}
    (ev_power_power : s.power.power = v_power_power) {v_status_lampMap} (ev_status_lampMap : s.status.lampMap = v_status_lampMap)
    {v_status_flashOn} (ev_status_flashOn : s.status.flashOn = v_status_flashOn) {v_status_alarmEnabled}
    (ev_status_alarmEnabled : s.status.alarmEnabled = v_status_alarmEnabled) {v_status_alarmOn}
    (ev_status_alarmOn : s.status.alarmOn = v_status_alarmOn) {v_emerg_state} (ev_emerg_state : s.emerg.state = v_emerg_state) :
    LampOk (State.closeShift s).pins.lampHire (State.closeShift s).pins.lampCall
          (State.closeShift s).pins.lampAlarm v_power_startUp v_power_power v_status_lampMap
          (State.closeShift s).status.status v_status_flashOn v_status_alarmEnabled v_status_alarmOn v_emerg_state := by
  subst ev_power_startUp; subst ev_power_power; subst ev_status_lampMap; subst ev_status_flashOn; subst ev_status_alarmEnabled; subst ev_status_alarmOn; subst ev_emerg_state;
  unfold State.closeShift; (repeat' split) <;> simp (maxDischargeDepth := 12)

@[simp] theorem State.shiftControl_lamps (l : Lanes) (d : Word) {s : State} {v_power_startUp}
    (ev_power_startUp : s.power.startUp = v_power_startUp) {v_power_power} (ev_power_power : s.power.power = v_power_power)
    {v_status_lampMap} (ev_status_lampMap : s.status.lampMap = v_status_lampMap) {v_status_flashOn}
    (ev_status_flashOn : s.status.flashOn = v_status_flashOn) {v_status_alarmEnabled}
    (ev_status_alarmEnabled : s.status.alarmEnabled = v_status_alarmEnabled) {v_status_alarmOn}
    (ev_status_alarmOn : s.status.alarmOn = v_status_alarmOn) {v_emerg_state} (ev_emerg_state : s.emerg.state = v_emerg_state)
    (hl : LampOk s.pins.lampHire s.pins.lampCall s.pins.lampAlarm s.power.startUp s.power.power s.status.lampMap s.status.status s.status.flashOn s.status.alarmEnabled s.status.alarmOn s.emerg.state) :
    LampOk (State.shiftControl l d s).pins.lampHire (State.shiftControl l d s).pins.lampCall
          (State.shiftControl l d s).pins.lampAlarm v_power_startUp v_power_power v_status_lampMap
          (State.shiftControl l d s).status.status v_status_flashOn v_status_alarmEnabled v_status_alarmOn v_emerg_state := by
  subst ev_power_startUp; subst ev_power_power; subst ev_status_lampMap; subst ev_status_flashOn; subst ev_status_alarmEnabled; subst ev_status_alarmOn; subst ev_emerg_state;
  unfold State.shiftControl; dsimp only; (repeat' split) <;> simp (maxDischargeDepth := 12) [hl]

@[simp] theorem State.zoneByte_lamps (d : Word) {s : State} {v_power_startUp} (ev_power_startUp : s.power.startUp = v_power_startUp)
    {v_power_power} (ev_power_power : s.power.power = v_power_power) {v_status_lampMap}
    (ev_status_lampMap : s.status.lampMap = v_status_lampMap) {v_status_status} (ev_status_status : s.status.status = v_status_status)
    {v_status_flashOn} (ev_status_flashOn : s.status.flashOn = v_status_flashOn) {v_status_alarmEnabled}
    (ev_status_alarmEnabled : s.status.alarmEnabled = v_status_alarmEnabled) {v_status_alarmOn}
    (ev_status_alarmOn : s.status.alarmOn = v_status_alarmOn) {v_emerg_state} (ev_emerg_state : s.emerg.state = v_emerg_state) :
    LampOk (State.zoneByte d s).pins.lampHire (State.zoneByte d s).pins.lampCall
          (State.zoneByte d s).pins.lampAlarm v_power_startUp v_power_power v_status_lampMap v_status_status v_status_flashOn v_status_alarmEnabled v_status_alarmOn v_emerg_state := by
  subst ev_power_startUp; subst ev_power_power; subst ev_status_lampMap; subst ev_status_status; subst ev_status_flashOn; subst ev_status_alarmEnabled; subst ev_status_alarmOn; subst ev_emerg_state;
  unfold State.zoneByte; (repeat' split) <;> simp (maxDischargeDepth := 12)

@[simp] theorem State.coordinateHigher_lamps (c : Coordinate) (l : Lanes) (d : Word) {s : State} {v_power_startUp}
    (ev_power_startUp : s.power.startUp = v_power_startUp) {v_power_power} (ev_power_power : s.power.power = v_power_power)
    {v_status_lampMap} (ev_status_lampMap : s.status.lampMap = v_status_lampMap) {v_status_status}
    (ev_status_status : s.status.status = v_status_status) {v_status_flashOn} (ev_status_flashOn : s.status.flashOn = v_status_flashOn)
    {v_status_alarmEnabled} (ev_status_alarmEnabled : s.status.alarmEnabled = v_status_alarmEnabled) {v_status_alarmOn}
    (ev_status_alarmOn : s.status.alarmOn = v_status_alarmOn) {v_emerg_state} (ev_emerg_state : s.emerg.state = v_emerg_state)
    (hl : LampOk s.pins.lampHire s.pins.lampCall s.pins.lampAlarm s.power.startUp s.power.power s.status.lampMap s.status.status s.status.flashOn s.status.alarmEnabled s.status.alarmOn s.emerg.state) :
    LampOk (State.coordinateHigher c l d s).pins.lampHire (State.coordinateHigher c l d s).pins.lampCall
          (State.coordinateHigher c l d s).pins.lampAlarm v_power_startUp v_power_power v_status_lampMap v_status_status v_status_flashOn v_status_alarmEnabled v_status_alarmOn v_emerg_state := by
  subst ev_power_startUp; subst ev_power_power; subst ev_status_lampMap; subst ev_status_status; subst ev_status_flashOn; subst ev_status_alarmEnabled; subst ev_status_alarmOn; subst ev_emerg_state;
  unfold State.coordinateHigher; (repeat' split) <;> simp (maxDischargeDepth := 12) [hl]

@[simp] theorem State.takeWatched_lamps (f : Field) (l : Lanes) (d : Word) {s : State}
    (hl : LampOk s.pins.lampHire s.pins.lampCall s.pins.lampAlarm s.power.startUp s.power.power s.status.lampMap s.status.status s.status.flashOn s.status.alarmEnabled s.status.alarmOn s.emerg.state) :
    LampOk (State.takeWatched f l d s).pins.lampHire (State.takeWatched f l d s).pins.lampCall (State.takeWatched f l d s).pins.lampAlarm
          (State.takeWatched f l d s).power.startUp (State.takeWatched f l d s).power.power (State.takeWatched f l d s).status.lampMap
          (State.takeWatched f l d s).status.status (State.takeWatched f l d s).status.flashOn
          (State.takeWatched f l d s).status.alarmEnabled (State.takeWatched f l d s).status.alarmOn
          (State.takeWatched f l d s).emerg.state := by
  unfold State.takeWatched; (repeat' split) <;> simp (maxDischargeDepth := 12) [hl]

@[simp] theorem State.acceptWrite_lamps (a : BitVec 19) (l : Lanes) (d : Word) (p : MemoryPath) {s : State}
    (hl : LampOk s.pins.lampHire s.pins.lampCall s.pins.lampAlarm s.power.startUp s.power.power s.status.lampMap s.status.status s.status.flashOn s.status.alarmEnabled s.status.alarmOn s.emerg.state) :
    LampOk (State.acceptWrite a l d p s).pins.lampHire (State.acceptWrite a l d p s).pins.lampCall
          (State.acceptWrite a l d p s).pins.lampAlarm (State.acceptWrite a l d p s).power.startUp
          (State.acceptWrite a l d p s).power.power (State.acceptWrite a l d p s).status.lampMap
          (State.acceptWrite a l d p s).status.status (State.acceptWrite a l d p s).status.flashOn
          (State.acceptWrite a l d p s).status.alarmEnabled (State.acceptWrite a l d p s).status.alarmOn
          (State.acceptWrite a l d p s).emerg.state := by
  unfold State.acceptWrite; dsimp only; (repeat' split) <;> simp (maxDischargeDepth := 12) [hl]

@[simp] theorem State.answerRead_lamps (a : BitVec 19) (l : Lanes) {s : State} {v_pins_lampHire}
    (ev_pins_lampHire : s.pins.lampHire = v_pins_lampHire) {v_pins_lampCall} (ev_pins_lampCall : s.pins.lampCall = v_pins_lampCall)
    {v_pins_lampAlarm} (ev_pins_lampAlarm : s.pins.lampAlarm = v_pins_lampAlarm) {v_status_lampMap}
    (ev_status_lampMap : s.status.lampMap = v_status_lampMap) {v_status_status} (ev_status_status : s.status.status = v_status_status)
    {v_status_flashOn} (ev_status_flashOn : s.status.flashOn = v_status_flashOn) {v_status_alarmEnabled}
    (ev_status_alarmEnabled : s.status.alarmEnabled = v_status_alarmEnabled) {v_status_alarmOn}
    (ev_status_alarmOn : s.status.alarmOn = v_status_alarmOn) {v_emerg_state} (ev_emerg_state : s.emerg.state = v_emerg_state)
    (hl : LampOk s.pins.lampHire s.pins.lampCall s.pins.lampAlarm s.power.startUp s.power.power s.status.lampMap s.status.status s.status.flashOn s.status.alarmEnabled s.status.alarmOn s.emerg.state) :
    LampOk v_pins_lampHire v_pins_lampCall v_pins_lampAlarm (State.answerRead a l s).power.startUp
          (State.answerRead a l s).power.power v_status_lampMap v_status_status v_status_flashOn v_status_alarmEnabled v_status_alarmOn v_emerg_state := by
  subst ev_pins_lampHire; subst ev_pins_lampCall; subst ev_pins_lampAlarm; subst ev_status_lampMap; subst ev_status_status; subst ev_status_flashOn; subst ev_status_alarmEnabled; subst ev_status_alarmOn; subst ev_emerg_state;
  unfold State.answerRead; dsimp only; (repeat' split) <;> simp (maxDischargeDepth := 12) [hl]

theorem State.processorWrite?_lamps {a : BitVec 19} {l : Lanes} {d : Word} {s t : State}
    (h : s.processorWrite? a l d = some t)
          (hl : LampOk s.pins.lampHire s.pins.lampCall s.pins.lampAlarm s.power.startUp s.power.power s.status.lampMap s.status.status s.status.flashOn s.status.alarmEnabled s.status.alarmOn s.emerg.state) : LampOk t.pins.lampHire t.pins.lampCall t.pins.lampAlarm t.power.startUp t.power.power t.status.lampMap t.status.status t.status.flashOn t.status.alarmEnabled t.status.alarmOn t.emerg.state := by
  unfold State.processorWrite? at h; dsimp only at h; split at h
  · simp only [Option.map_eq_some_iff] at h
    obtain ⟨p, -, rfl⟩ := h
    simp (maxDischargeDepth := 12) [hl]
  · cases h; simp (maxDischargeDepth := 12) [hl]

theorem State.attempt_lamps {h : HeldCycle} {s t : State} (e : s.attempt h = .done t)
    (hl : LampOk s.pins.lampHire s.pins.lampCall s.pins.lampAlarm s.power.startUp s.power.power s.status.lampMap s.status.status s.status.flashOn s.status.alarmEnabled s.status.alarmOn s.emerg.state) : LampOk t.pins.lampHire t.pins.lampCall t.pins.lampAlarm t.power.startUp t.power.power t.status.lampMap t.status.status t.status.flashOn t.status.alarmEnabled t.status.alarmOn t.emerg.state := by
  unfold State.attempt at e
  split at e
  · split at e
    · rename_i w; cases e; exact State.processorWrite?_lamps w hl
    · cases e
  · split at e
    · cases e
    · split at e
      · cases e
      · cases e; simp (maxDischargeDepth := 12) [hl]

@[simp] theorem State.processorCycle_lamps (c : BusCycle) {s : State}
    (hl : LampOk s.pins.lampHire s.pins.lampCall s.pins.lampAlarm s.power.startUp s.power.power s.status.lampMap s.status.status s.status.flashOn s.status.alarmEnabled s.status.alarmOn s.emerg.state) :
    LampOk (State.processorCycle c s).pins.lampHire (State.processorCycle c s).pins.lampCall (State.processorCycle c s).pins.lampAlarm
          (State.processorCycle c s).power.startUp (State.processorCycle c s).power.power (State.processorCycle c s).status.lampMap
          (State.processorCycle c s).status.status (State.processorCycle c s).status.flashOn (State.processorCycle c s).status.alarmEnabled
          (State.processorCycle c s).status.alarmOn (State.processorCycle c s).emerg.state := by
  unfold State.processorCycle; split
  · simp (maxDischargeDepth := 12) [hl]
  · split
    · rename_i e; exact State.attempt_lamps e hl
    · simp (maxDischargeDepth := 12) [hl]

@[simp] theorem State.serviceList_lamps (hs : List HeldCycle) {s : State}
    (hl : LampOk s.pins.lampHire s.pins.lampCall s.pins.lampAlarm s.power.startUp s.power.power s.status.lampMap s.status.status s.status.flashOn s.status.alarmEnabled s.status.alarmOn s.emerg.state) :
    LampOk (State.serviceList hs s).pins.lampHire (State.serviceList hs s).pins.lampCall (State.serviceList hs s).pins.lampAlarm
          (State.serviceList hs s).power.startUp (State.serviceList hs s).power.power (State.serviceList hs s).status.lampMap
          (State.serviceList hs s).status.status (State.serviceList hs s).status.flashOn (State.serviceList hs s).status.alarmEnabled
          (State.serviceList hs s).status.alarmOn (State.serviceList hs s).emerg.state := by
  induction hs generalizing s with
  | nil => unfold State.serviceList; simp (maxDischargeDepth := 12) [hl]
  | cons h rest ih =>
    unfold State.serviceList; split
    · simp (maxDischargeDepth := 12) [hl]
    · split
      · rename_i t e; exact ih (State.attempt_lamps e hl)
      · simp (maxDischargeDepth := 12) [hl]

@[simp] theorem State.service_lamps {s : State}
    (hl : LampOk s.pins.lampHire s.pins.lampCall s.pins.lampAlarm s.power.startUp s.power.power s.status.lampMap s.status.status s.status.flashOn s.status.alarmEnabled s.status.alarmOn s.emerg.state) :
    LampOk (State.service s).pins.lampHire (State.service s).pins.lampCall (State.service s).pins.lampAlarm (State.service s).power.startUp
          (State.service s).power.power (State.service s).status.lampMap (State.service s).status.status (State.service s).status.flashOn
          (State.service s).status.alarmEnabled (State.service s).status.alarmOn (State.service s).emerg.state := by
  unfold State.service; (repeat' split) <;> simp (maxDischargeDepth := 12) [hl]

@[simp] theorem State.completeDrain_lamps {s : State}
    (hl : LampOk s.pins.lampHire s.pins.lampCall s.pins.lampAlarm s.power.startUp s.power.power s.status.lampMap s.status.status s.status.flashOn s.status.alarmEnabled s.status.alarmOn s.emerg.state) :
    LampOk (State.completeDrain s).pins.lampHire (State.completeDrain s).pins.lampCall (State.completeDrain s).pins.lampAlarm
          (State.completeDrain s).power.startUp (State.completeDrain s).power.power (State.completeDrain s).status.lampMap
          (State.completeDrain s).status.status (State.completeDrain s).status.flashOn (State.completeDrain s).status.alarmEnabled
          (State.completeDrain s).status.alarmOn (State.completeDrain s).emerg.state := by
  unfold State.completeDrain; (repeat' split) <;> simp (maxDischargeDepth := 12) [hl]

@[simp] theorem State.handOver_lamps (k : OpKind) {s : State} {v_pins_lampHire} (ev_pins_lampHire : s.pins.lampHire = v_pins_lampHire)
    {v_pins_lampCall} (ev_pins_lampCall : s.pins.lampCall = v_pins_lampCall) {v_pins_lampAlarm}
    (ev_pins_lampAlarm : s.pins.lampAlarm = v_pins_lampAlarm) {v_power_startUp} (ev_power_startUp : s.power.startUp = v_power_startUp)
    {v_power_power} (ev_power_power : s.power.power = v_power_power) {v_status_lampMap}
    (ev_status_lampMap : s.status.lampMap = v_status_lampMap) {v_status_status} (ev_status_status : s.status.status = v_status_status)
    {v_status_flashOn} (ev_status_flashOn : s.status.flashOn = v_status_flashOn) {v_status_alarmEnabled}
    (ev_status_alarmEnabled : s.status.alarmEnabled = v_status_alarmEnabled) {v_status_alarmOn}
    (ev_status_alarmOn : s.status.alarmOn = v_status_alarmOn)
    (hl : LampOk s.pins.lampHire s.pins.lampCall s.pins.lampAlarm s.power.startUp s.power.power s.status.lampMap s.status.status s.status.flashOn s.status.alarmEnabled s.status.alarmOn s.emerg.state) :
    LampOk v_pins_lampHire v_pins_lampCall v_pins_lampAlarm v_power_startUp v_power_power v_status_lampMap v_status_status v_status_flashOn v_status_alarmEnabled v_status_alarmOn (State.handOver k s).emerg.state := by
  subst ev_pins_lampHire; subst ev_pins_lampCall; subst ev_pins_lampAlarm; subst ev_power_startUp; subst ev_power_power; subst ev_status_lampMap; subst ev_status_status; subst ev_status_flashOn; subst ev_status_alarmEnabled; subst ev_status_alarmOn;
  unfold State.handOver; (repeat' split) <;> simp (maxDischargeDepth := 12) [hl]

@[simp] theorem State.startOperation_lamps {s : State} {v_pins_lampHire} (ev_pins_lampHire : s.pins.lampHire = v_pins_lampHire)
    {v_pins_lampCall} (ev_pins_lampCall : s.pins.lampCall = v_pins_lampCall) {v_pins_lampAlarm}
    (ev_pins_lampAlarm : s.pins.lampAlarm = v_pins_lampAlarm) {v_power_startUp} (ev_power_startUp : s.power.startUp = v_power_startUp)
    {v_power_power} (ev_power_power : s.power.power = v_power_power) {v_status_lampMap}
    (ev_status_lampMap : s.status.lampMap = v_status_lampMap) {v_status_status} (ev_status_status : s.status.status = v_status_status)
    {v_status_flashOn} (ev_status_flashOn : s.status.flashOn = v_status_flashOn) {v_status_alarmEnabled}
    (ev_status_alarmEnabled : s.status.alarmEnabled = v_status_alarmEnabled) {v_status_alarmOn}
    (ev_status_alarmOn : s.status.alarmOn = v_status_alarmOn)
    (hl : LampOk s.pins.lampHire s.pins.lampCall s.pins.lampAlarm s.power.startUp s.power.power s.status.lampMap s.status.status s.status.flashOn s.status.alarmEnabled s.status.alarmOn s.emerg.state) :
    LampOk v_pins_lampHire v_pins_lampCall v_pins_lampAlarm v_power_startUp v_power_power v_status_lampMap v_status_status v_status_flashOn v_status_alarmEnabled v_status_alarmOn (State.startOperation s).emerg.state := by
  subst ev_pins_lampHire; subst ev_pins_lampCall; subst ev_pins_lampAlarm; subst ev_power_startUp; subst ev_power_power; subst ev_status_lampMap; subst ev_status_status; subst ev_status_flashOn; subst ev_status_alarmEnabled; subst ev_status_alarmOn;
  unfold State.startOperation; (repeat' split) <;> simp (maxDischargeDepth := 12) [hl]

@[simp] theorem State.internalCycle_lamps {s : State}
    (hl : LampOk s.pins.lampHire s.pins.lampCall s.pins.lampAlarm s.power.startUp s.power.power s.status.lampMap s.status.status s.status.flashOn s.status.alarmEnabled s.status.alarmOn s.emerg.state) :
    LampOk (State.internalCycle s).pins.lampHire (State.internalCycle s).pins.lampCall (State.internalCycle s).pins.lampAlarm
          (State.internalCycle s).power.startUp (State.internalCycle s).power.power (State.internalCycle s).status.lampMap
          (State.internalCycle s).status.status (State.internalCycle s).status.flashOn (State.internalCycle s).status.alarmEnabled
          (State.internalCycle s).status.alarmOn (State.internalCycle s).emerg.state := by
  unfold State.internalCycle; split
  · split
    · split
      · rename_i c rest _; cases c <;> simp (maxDischargeDepth := 12) [State.runCycle, hl]
      · exact hl
    · exact hl
  · exact hl

@[simp] theorem State.deliver_lamps (f : Sending) {s : State} {v_power_startUp} (ev_power_startUp : s.power.startUp = v_power_startUp)
    {v_status_lampMap} (ev_status_lampMap : s.status.lampMap = v_status_lampMap) {v_status_status}
    (ev_status_status : s.status.status = v_status_status) {v_status_flashOn} (ev_status_flashOn : s.status.flashOn = v_status_flashOn)
    {v_status_alarmEnabled} (ev_status_alarmEnabled : s.status.alarmEnabled = v_status_alarmEnabled) {v_status_alarmOn}
    (ev_status_alarmOn : s.status.alarmOn = v_status_alarmOn) {v_emerg_state} (ev_emerg_state : s.emerg.state = v_emerg_state)
    (hl : LampOk s.pins.lampHire s.pins.lampCall s.pins.lampAlarm s.power.startUp s.power.power s.status.lampMap s.status.status s.status.flashOn s.status.alarmEnabled s.status.alarmOn s.emerg.state) :
    LampOk (State.deliver f s).pins.lampHire (State.deliver f s).pins.lampCall (State.deliver f s).pins.lampAlarm v_power_startUp
          (State.deliver f s).power.power v_status_lampMap v_status_status v_status_flashOn v_status_alarmEnabled v_status_alarmOn v_emerg_state := by
  subst ev_power_startUp; subst ev_status_lampMap; subst ev_status_status; subst ev_status_flashOn; subst ev_status_alarmEnabled; subst ev_status_alarmOn; subst ev_emerg_state;
  unfold State.deliver; (repeat' split) <;> simp (maxDischargeDepth := 12) [hl]

@[simp] theorem State.shortSent_lamps {s : State} {v_power_startUp} (ev_power_startUp : s.power.startUp = v_power_startUp)
    {v_status_lampMap} (ev_status_lampMap : s.status.lampMap = v_status_lampMap) {v_status_status}
    (ev_status_status : s.status.status = v_status_status) {v_status_flashOn} (ev_status_flashOn : s.status.flashOn = v_status_flashOn)
    {v_status_alarmEnabled} (ev_status_alarmEnabled : s.status.alarmEnabled = v_status_alarmEnabled) {v_status_alarmOn}
    (ev_status_alarmOn : s.status.alarmOn = v_status_alarmOn) {v_emerg_state} (ev_emerg_state : s.emerg.state = v_emerg_state)
    (hl : LampOk s.pins.lampHire s.pins.lampCall s.pins.lampAlarm s.power.startUp s.power.power s.status.lampMap s.status.status s.status.flashOn s.status.alarmEnabled s.status.alarmOn s.emerg.state) :
    LampOk (State.shortSent s).pins.lampHire (State.shortSent s).pins.lampCall (State.shortSent s).pins.lampAlarm v_power_startUp
          (State.shortSent s).power.power v_status_lampMap v_status_status v_status_flashOn v_status_alarmEnabled v_status_alarmOn v_emerg_state := by
  subst ev_power_startUp; subst ev_status_lampMap; subst ev_status_status; subst ev_status_flashOn; subst ev_status_alarmEnabled; subst ev_status_alarmOn; subst ev_emerg_state;
  unfold State.shortSent; (repeat' split) <;> simp (maxDischargeDepth := 12) [hl]

@[simp] theorem State.becomeReady_lamps {s : State} {v_status_status} (ev_status_status : s.status.status = v_status_status)
    {v_status_flashOn} (ev_status_flashOn : s.status.flashOn = v_status_flashOn)
    (hl : LampOk s.pins.lampHire s.pins.lampCall s.pins.lampAlarm s.power.startUp s.power.power s.status.lampMap s.status.status s.status.flashOn s.status.alarmEnabled s.status.alarmOn s.emerg.state) :
    LampOk (State.becomeReady s).pins.lampHire (State.becomeReady s).pins.lampCall (State.becomeReady s).pins.lampAlarm
          (State.becomeReady s).power.startUp (State.becomeReady s).power.power
          (State.becomeReady s).status.lampMap v_status_status v_status_flashOn (State.becomeReady s).status.alarmEnabled
          (State.becomeReady s).status.alarmOn (State.becomeReady s).emerg.state := by
  subst ev_status_status; subst ev_status_flashOn;
  unfold State.becomeReady; dsimp only; (repeat' split) <;> simp (maxDischargeDepth := 12) [hl]

@[simp] theorem State.softReset_lamps {s : State} :
    LampOk (State.softReset s).pins.lampHire (State.softReset s).pins.lampCall (State.softReset s).pins.lampAlarm
          (State.softReset s).power.startUp (State.softReset s).power.power (State.softReset s).status.lampMap
          (State.softReset s).status.status (State.softReset s).status.flashOn (State.softReset s).status.alarmEnabled
          (State.softReset s).status.alarmOn (State.softReset s).emerg.state := by
  unfold State.softReset; (repeat' split) <;> simp (maxDischargeDepth := 12)

@[simp] theorem State.powerOn_lamps (a : BitVec 4) {s : State} :
    LampOk (State.powerOn a s).pins.lampHire (State.powerOn a s).pins.lampCall (State.powerOn a s).pins.lampAlarm
          (State.powerOn a s).power.startUp (State.powerOn a s).power.power (State.powerOn a s).status.lampMap
          (State.powerOn a s).status.status (State.powerOn a s).status.flashOn (State.powerOn a s).status.alarmEnabled
          (State.powerOn a s).status.alarmOn (State.powerOn a s).emerg.state := by
  exact State.service_lamps ⟨rfl, rfl, rfl⟩

@[simp] theorem State.meterMessage_lamps (m : MeterMessage) {s : State} {v_power_startUp}
    (ev_power_startUp : s.power.startUp = v_power_startUp) {v_status_lampMap} (ev_status_lampMap : s.status.lampMap = v_status_lampMap)
    {v_status_flashOn} (ev_status_flashOn : s.status.flashOn = v_status_flashOn) {v_status_alarmEnabled}
    (ev_status_alarmEnabled : s.status.alarmEnabled = v_status_alarmEnabled) {v_status_alarmOn}
    (ev_status_alarmOn : s.status.alarmOn = v_status_alarmOn) {v_emerg_state} (ev_emerg_state : s.emerg.state = v_emerg_state)
    (hl : LampOk s.pins.lampHire s.pins.lampCall s.pins.lampAlarm s.power.startUp s.power.power s.status.lampMap s.status.status s.status.flashOn s.status.alarmEnabled s.status.alarmOn s.emerg.state) :
    LampOk (State.meterMessage m s).pins.lampHire (State.meterMessage m s).pins.lampCall
          (State.meterMessage m s).pins.lampAlarm v_power_startUp (State.meterMessage m s).power.power v_status_lampMap
          (State.meterMessage m s).status.status v_status_flashOn v_status_alarmEnabled v_status_alarmOn v_emerg_state := by
  subst ev_power_startUp; subst ev_status_lampMap; subst ev_status_flashOn; subst ev_status_alarmEnabled; subst ev_status_alarmOn; subst ev_emerg_state;
  unfold State.meterMessage; (repeat' split) <;> simp (maxDischargeDepth := 12) [hl]

@[simp] theorem State.takeMeter_lamps (m : MeterMessage) {s : State} {v_power_startUp}
    (ev_power_startUp : s.power.startUp = v_power_startUp) {v_status_lampMap} (ev_status_lampMap : s.status.lampMap = v_status_lampMap)
    {v_status_flashOn} (ev_status_flashOn : s.status.flashOn = v_status_flashOn) {v_status_alarmEnabled}
    (ev_status_alarmEnabled : s.status.alarmEnabled = v_status_alarmEnabled) {v_status_alarmOn}
    (ev_status_alarmOn : s.status.alarmOn = v_status_alarmOn) {v_emerg_state} (ev_emerg_state : s.emerg.state = v_emerg_state)
    (hl : LampOk s.pins.lampHire s.pins.lampCall s.pins.lampAlarm s.power.startUp s.power.power s.status.lampMap s.status.status s.status.flashOn s.status.alarmEnabled s.status.alarmOn s.emerg.state) :
    LampOk (State.takeMeter m s).pins.lampHire (State.takeMeter m s).pins.lampCall (State.takeMeter m s).pins.lampAlarm v_power_startUp
          (State.takeMeter m s).power.power v_status_lampMap
          (State.takeMeter m s).status.status v_status_flashOn v_status_alarmEnabled v_status_alarmOn v_emerg_state := by
  subst ev_power_startUp; subst ev_status_lampMap; subst ev_status_flashOn; subst ev_status_alarmEnabled; subst ev_status_alarmOn; subst ev_emerg_state;
  unfold State.takeMeter; (repeat' split) <;> simp (maxDischargeDepth := 12) [hl]

@[simp] theorem State.takeWake_lamps (c : List Word) {s : State} {v_power_startUp} (ev_power_startUp : s.power.startUp = v_power_startUp)
    {v_status_lampMap} (ev_status_lampMap : s.status.lampMap = v_status_lampMap) {v_status_status}
    (ev_status_status : s.status.status = v_status_status) {v_status_flashOn} (ev_status_flashOn : s.status.flashOn = v_status_flashOn)
    {v_status_alarmEnabled} (ev_status_alarmEnabled : s.status.alarmEnabled = v_status_alarmEnabled) {v_status_alarmOn}
    (ev_status_alarmOn : s.status.alarmOn = v_status_alarmOn) {v_emerg_state} (ev_emerg_state : s.emerg.state = v_emerg_state)
    (hl : LampOk s.pins.lampHire s.pins.lampCall s.pins.lampAlarm s.power.startUp s.power.power s.status.lampMap s.status.status s.status.flashOn s.status.alarmEnabled s.status.alarmOn s.emerg.state) :
    LampOk (State.takeWake c s).pins.lampHire (State.takeWake c s).pins.lampCall (State.takeWake c s).pins.lampAlarm v_power_startUp
          (State.takeWake c s).power.power v_status_lampMap v_status_status v_status_flashOn v_status_alarmEnabled v_status_alarmOn v_emerg_state := by
  subst ev_power_startUp; subst ev_status_lampMap; subst ev_status_status; subst ev_status_flashOn; subst ev_status_alarmEnabled; subst ev_status_alarmOn; subst ev_emerg_state;
  unfold State.takeWake; (repeat' split) <;> simp (maxDischargeDepth := 12) [hl]

@[simp] theorem State.route_lamps (d : DownHeader) (b : DownBody) {s : State}
    (hl : LampOk s.pins.lampHire s.pins.lampCall s.pins.lampAlarm s.power.startUp s.power.power s.status.lampMap s.status.status s.status.flashOn s.status.alarmEnabled s.status.alarmOn s.emerg.state) :
    LampOk (State.route d b s).pins.lampHire (State.route d b s).pins.lampCall (State.route d b s).pins.lampAlarm
          (State.route d b s).power.startUp (State.route d b s).power.power (State.route d b s).status.lampMap
          (State.route d b s).status.status (State.route d b s).status.flashOn (State.route d b s).status.alarmEnabled
          (State.route d b s).status.alarmOn (State.route d b s).emerg.state := by
  unfold State.route; (repeat' split) <;> simp (maxDischargeDepth := 12) [hl]

@[simp] theorem State.receive_lamps (d : DownHeader) (b : DownBody) {s : State}
    (hl : LampOk s.pins.lampHire s.pins.lampCall s.pins.lampAlarm s.power.startUp s.power.power s.status.lampMap s.status.status s.status.flashOn s.status.alarmEnabled s.status.alarmOn s.emerg.state) :
    LampOk (State.receive d b s).pins.lampHire (State.receive d b s).pins.lampCall (State.receive d b s).pins.lampAlarm
          (State.receive d b s).power.startUp (State.receive d b s).power.power (State.receive d b s).status.lampMap
          (State.receive d b s).status.status (State.receive d b s).status.flashOn (State.receive d b s).status.alarmEnabled
          (State.receive d b s).status.alarmOn (State.receive d b s).emerg.state := by
  unfold State.receive; (repeat' split) <;> simp (maxDischargeDepth := 12) [hl]

@[simp] theorem State.writeAt_lamps (o : Nat) (l : Lanes) (d : Word) {s : State}
    (hl : LampOk s.pins.lampHire s.pins.lampCall s.pins.lampAlarm s.power.startUp s.power.power s.status.lampMap s.status.status s.status.flashOn s.status.alarmEnabled s.status.alarmOn s.emerg.state) :
    LampOk (State.writeAt o l d s).pins.lampHire (State.writeAt o l d s).pins.lampCall (State.writeAt o l d s).pins.lampAlarm
          (State.writeAt o l d s).power.startUp (State.writeAt o l d s).power.power (State.writeAt o l d s).status.lampMap
          (State.writeAt o l d s).status.status (State.writeAt o l d s).status.flashOn (State.writeAt o l d s).status.alarmEnabled
          (State.writeAt o l d s).status.alarmOn (State.writeAt o l d s).emerg.state := by
  unfold State.writeAt; (repeat' split) <;> simp (maxDischargeDepth := 12) [hl]

@[simp] theorem State.readAt_lamps (o : Nat) (l : Lanes) {s : State}
    (hl : LampOk s.pins.lampHire s.pins.lampCall s.pins.lampAlarm s.power.startUp s.power.power s.status.lampMap s.status.status s.status.flashOn s.status.alarmEnabled s.status.alarmOn s.emerg.state) :
    LampOk (State.readAt o l s).pins.lampHire (State.readAt o l s).pins.lampCall (State.readAt o l s).pins.lampAlarm
          (State.readAt o l s).power.startUp (State.readAt o l s).power.power (State.readAt o l s).status.lampMap
          (State.readAt o l s).status.status (State.readAt o l s).status.flashOn (State.readAt o l s).status.alarmEnabled
          (State.readAt o l s).status.alarmOn (State.readAt o l s).emerg.state := by
  unfold State.readAt; (repeat' split) <;> simp (maxDischargeDepth := 12) [hl]

@[simp] theorem State.complete_lamps (k : OpKind) {owner : UnderWay → State → State} {s : State}
    (ho : ∀ u t, LampOk t.pins.lampHire t.pins.lampCall t.pins.lampAlarm t.power.startUp t.power.power t.status.lampMap t.status.status t.status.flashOn t.status.alarmEnabled t.status.alarmOn t.emerg.state → LampOk (owner u t).pins.lampHire (owner u t).pins.lampCall (owner u t).pins.lampAlarm (owner u t).power.startUp (owner u t).power.power (owner u t).status.lampMap (owner u t).status.status (owner u t).status.flashOn (owner u t).status.alarmEnabled (owner u t).status.alarmOn (owner u t).emerg.state)
    (hl : LampOk s.pins.lampHire s.pins.lampCall s.pins.lampAlarm s.power.startUp s.power.power s.status.lampMap s.status.status s.status.flashOn s.status.alarmEnabled s.status.alarmOn s.emerg.state) :
    LampOk (State.complete k owner s).pins.lampHire (State.complete k owner s).pins.lampCall (State.complete k owner s).pins.lampAlarm
          (State.complete k owner s).power.startUp (State.complete k owner s).power.power (State.complete k owner s).status.lampMap
          (State.complete k owner s).status.status (State.complete k owner s).status.flashOn (State.complete k owner s).status.alarmEnabled
          (State.complete k owner s).status.alarmOn (State.complete k owner s).emerg.state := by
  unfold State.complete; split
  · exact State.service_lamps (ho _ _ (by simp (maxDischargeDepth := 12) [hl]))
  · exact hl

/-- Before READY every lamp is off (R14). -/
theorem LampOk_off {hire call alarm : Bool} {startUp : StartUp} {power : PowerState} {map : LampMap} {status : CabStatus}
    {flash enabled phase : Bool} {emergency : EmergencyState} (h : startUp ≠ .ready) :
    LampOk hire call alarm startUp power map status flash enabled phase emergency ↔ (hire = false ∧ call = false ∧ alarm = false) := by
  have hb : (startUp == .ready) = false := by simpa using h
  simp only [LampOk, hb, Bool.false_and]

theorem State.attemptFails_lamps {s : State} (h : s.loading = true)
    (hl : LampOk s.pins.lampHire s.pins.lampCall s.pins.lampAlarm s.power.startUp s.power.power s.status.lampMap s.status.status s.status.flashOn s.status.alarmEnabled s.status.alarmOn s.emerg.state) :
    LampOk s.attemptFails.pins.lampHire s.attemptFails.pins.lampCall s.attemptFails.pins.lampAlarm s.attemptFails.power.startUp s.attemptFails.power.power s.attemptFails.status.lampMap s.attemptFails.status.status s.attemptFails.status.flashOn s.attemptFails.status.alarmEnabled s.attemptFails.status.alarmOn s.attemptFails.emerg.state := by
  simp only [State.loading, Bool.and_eq_true, beq_iff_eq] at h
  rw [LampOk_off (by simp [h.2])] at hl
  unfold State.attemptFails State.configFault
  split <;> simp [LampOk_off, h.2, hl]

theorem State.takeImage_lamps (b : List Byte) {s : State} (h : s.loading = true)
    (hl : LampOk s.pins.lampHire s.pins.lampCall s.pins.lampAlarm s.power.startUp s.power.power s.status.lampMap s.status.status s.status.flashOn s.status.alarmEnabled s.status.alarmOn s.emerg.state) :
    LampOk (State.takeImage b s).pins.lampHire (State.takeImage b s).pins.lampCall (State.takeImage b s).pins.lampAlarm
          (State.takeImage b s).power.startUp (State.takeImage b s).power.power (State.takeImage b s).status.lampMap
          (State.takeImage b s).status.status (State.takeImage b s).status.flashOn (State.takeImage b s).status.alarmEnabled
          (State.takeImage b s).status.alarmOn (State.takeImage b s).emerg.state := by
  simp only [State.loading, Bool.and_eq_true, beq_iff_eq] at h
  rw [LampOk_off (by simp [h.2])] at hl
  unfold State.takeImage State.configFault
  split <;> simp [LampOk_off, hl]

end Sys2Proof.Machine
end

