-- ==== Sys2Proof/Laws/Report.lean ====
section
/-! SUPPORT. The report law (R11) is kept by the operations that a command is made of. -/

namespace Sys2Proof.Machine

/-- The report law (R11) on the values it speaks of. -/
def ReportOk (startUp : StartUp) (park : Bool) (place : Option StatusReport) (status : CabStatus) (shiftNumber : Word)
    (meterOpened : Bool) (driverId : Word) (zone : Byte) (position : Position) (emergency : EmergencyState) (paused : Bool) : Prop :=
  startUp = .ready → place = some ⟨status, shiftNumber, meterOpened, driverId, emergency.raised, zone, position, paused, park⟩

theorem State.reportLaw_iff
    (s : State) : s.reportLaw ↔ ReportOk s.power.startUp s.power.park s.sched.statusPlace s.status.status s.status.shiftNumber s.status.meterOpened s.status.driverId s.status.zone s.status.position s.emerg.state s.msgs.paused := Iff.rfl


@[simp] theorem State.refreshReport_report {s : State} {v_power_startUp} (ev_power_startUp : s.power.startUp = v_power_startUp)
    {v_power_park} (ev_power_park : s.power.park = v_power_park) {v_status_status} (ev_status_status : s.status.status = v_status_status)
    {v_status_shiftNumber} (ev_status_shiftNumber : s.status.shiftNumber = v_status_shiftNumber) {v_status_meterOpened}
    (ev_status_meterOpened : s.status.meterOpened = v_status_meterOpened) {v_status_driverId}
    (ev_status_driverId : s.status.driverId = v_status_driverId) {v_status_zone} (ev_status_zone : s.status.zone = v_status_zone)
    {v_status_position} (ev_status_position : s.status.position = v_status_position) {v_emerg_state}
    (ev_emerg_state : s.emerg.state = v_emerg_state) {v_msgs_paused} (ev_msgs_paused : s.msgs.paused = v_msgs_paused) :
    ReportOk v_power_startUp v_power_park
          (State.refreshReport s).sched.statusPlace v_status_status v_status_shiftNumber v_status_meterOpened v_status_driverId v_status_zone v_status_position v_emerg_state v_msgs_paused := by
  subst ev_power_startUp; subst ev_power_park; subst ev_status_status; subst ev_status_shiftNumber; subst ev_status_meterOpened; subst ev_status_driverId; subst ev_status_zone; subst ev_status_position; subst ev_emerg_state; subst ev_msgs_paused;
  unfold State.refreshReport; split
  · exact fun _ => rfl
  · rename_i h; exact fun e => absurd (by simp [e]) h

@[simp] theorem State.handOn_report {s : State} {v_power_startUp} (ev_power_startUp : s.power.startUp = v_power_startUp) {v_power_park}
    (ev_power_park : s.power.park = v_power_park) {v_status_status} (ev_status_status : s.status.status = v_status_status)
    {v_status_shiftNumber} (ev_status_shiftNumber : s.status.shiftNumber = v_status_shiftNumber) {v_status_meterOpened}
    (ev_status_meterOpened : s.status.meterOpened = v_status_meterOpened) {v_status_driverId}
    (ev_status_driverId : s.status.driverId = v_status_driverId) {v_status_zone} (ev_status_zone : s.status.zone = v_status_zone)
    {v_status_position} (ev_status_position : s.status.position = v_status_position) {v_emerg_state}
    (ev_emerg_state : s.emerg.state = v_emerg_state) {v_msgs_paused} (ev_msgs_paused : s.msgs.paused = v_msgs_paused) :
    ReportOk v_power_startUp v_power_park
          (State.handOn s).sched.statusPlace v_status_status v_status_shiftNumber v_status_meterOpened v_status_driverId v_status_zone v_status_position v_emerg_state v_msgs_paused := by
  subst ev_power_startUp; subst ev_power_park; subst ev_status_status; subst ev_status_shiftNumber; subst ev_status_meterOpened; subst ev_status_driverId; subst ev_status_zone; subst ev_status_position; subst ev_emerg_state; subst ev_msgs_paused;
  unfold State.handOn; (repeat' split) <;> simp (maxDischargeDepth := 12)

@[simp] theorem State.setStatus_report (c : CabStatus) {s : State} {v_power_startUp} (ev_power_startUp : s.power.startUp = v_power_startUp)
    {v_power_park} (ev_power_park : s.power.park = v_power_park) {v_status_shiftNumber}
    (ev_status_shiftNumber : s.status.shiftNumber = v_status_shiftNumber) {v_status_meterOpened}
    (ev_status_meterOpened : s.status.meterOpened = v_status_meterOpened) {v_status_driverId}
    (ev_status_driverId : s.status.driverId = v_status_driverId) {v_status_zone} (ev_status_zone : s.status.zone = v_status_zone)
    {v_status_position} (ev_status_position : s.status.position = v_status_position) {v_emerg_state}
    (ev_emerg_state : s.emerg.state = v_emerg_state) {v_msgs_paused} (ev_msgs_paused : s.msgs.paused = v_msgs_paused) :
    ReportOk v_power_startUp v_power_park (State.setStatus c s).sched.statusPlace
          (State.setStatus c s).status.status v_status_shiftNumber v_status_meterOpened v_status_driverId v_status_zone v_status_position v_emerg_state v_msgs_paused := by
  subst ev_power_startUp; subst ev_power_park; subst ev_status_shiftNumber; subst ev_status_meterOpened; subst ev_status_driverId; subst ev_status_zone; subst ev_status_position; subst ev_emerg_state; subst ev_msgs_paused;
  unfold State.setStatus; (repeat' split) <;> simp (maxDischargeDepth := 12)

@[simp] theorem State.becameAwarded_report {s : State} {v_power_startUp} (ev_power_startUp : s.power.startUp = v_power_startUp)
    {v_power_park} (ev_power_park : s.power.park = v_power_park) {v_status_shiftNumber}
    (ev_status_shiftNumber : s.status.shiftNumber = v_status_shiftNumber) {v_status_meterOpened}
    (ev_status_meterOpened : s.status.meterOpened = v_status_meterOpened) {v_status_driverId}
    (ev_status_driverId : s.status.driverId = v_status_driverId) {v_status_zone} (ev_status_zone : s.status.zone = v_status_zone)
    {v_status_position} (ev_status_position : s.status.position = v_status_position) {v_emerg_state}
    (ev_emerg_state : s.emerg.state = v_emerg_state) {v_msgs_paused} (ev_msgs_paused : s.msgs.paused = v_msgs_paused)
    (hl : ReportOk s.power.startUp s.power.park s.sched.statusPlace s.status.status s.status.shiftNumber s.status.meterOpened s.status.driverId s.status.zone s.status.position s.emerg.state s.msgs.paused) :
    ReportOk v_power_startUp v_power_park (State.becameAwarded s).sched.statusPlace
          (State.becameAwarded s).status.status v_status_shiftNumber v_status_meterOpened v_status_driverId v_status_zone v_status_position v_emerg_state v_msgs_paused := by
  subst ev_power_startUp; subst ev_power_park; subst ev_status_shiftNumber; subst ev_status_meterOpened; subst ev_status_driverId; subst ev_status_zone; subst ev_status_position; subst ev_emerg_state; subst ev_msgs_paused;
  unfold State.becameAwarded; (repeat' split) <;> simp (maxDischargeDepth := 12) [hl]

@[simp] theorem State.leftAwarded_report {s : State} {v_power_startUp} (ev_power_startUp : s.power.startUp = v_power_startUp)
    {v_power_park} (ev_power_park : s.power.park = v_power_park) {v_status_shiftNumber}
    (ev_status_shiftNumber : s.status.shiftNumber = v_status_shiftNumber) {v_status_meterOpened}
    (ev_status_meterOpened : s.status.meterOpened = v_status_meterOpened) {v_status_driverId}
    (ev_status_driverId : s.status.driverId = v_status_driverId) {v_status_zone} (ev_status_zone : s.status.zone = v_status_zone)
    {v_status_position} (ev_status_position : s.status.position = v_status_position) {v_emerg_state}
    (ev_emerg_state : s.emerg.state = v_emerg_state) {v_msgs_paused} (ev_msgs_paused : s.msgs.paused = v_msgs_paused)
    (hl : ReportOk s.power.startUp s.power.park s.sched.statusPlace s.status.status s.status.shiftNumber s.status.meterOpened s.status.driverId s.status.zone s.status.position s.emerg.state s.msgs.paused) :
    ReportOk v_power_startUp v_power_park (State.leftAwarded s).sched.statusPlace
          (State.leftAwarded s).status.status v_status_shiftNumber v_status_meterOpened v_status_driverId v_status_zone v_status_position v_emerg_state v_msgs_paused := by
  subst ev_power_startUp; subst ev_power_park; subst ev_status_shiftNumber; subst ev_status_meterOpened; subst ev_status_driverId; subst ev_status_zone; subst ev_status_position; subst ev_emerg_state; subst ev_msgs_paused;
  unfold State.leftAwarded; (repeat' split) <;> simp (maxDischargeDepth := 12) [hl]

@[simp] theorem State.takeResponse_report (n : Fin 16) (l : Lanes) (d : Word) {s : State} {v_power_startUp}
    (ev_power_startUp : s.power.startUp = v_power_startUp) {v_power_park} (ev_power_park : s.power.park = v_power_park)
    {v_status_shiftNumber} (ev_status_shiftNumber : s.status.shiftNumber = v_status_shiftNumber) {v_status_meterOpened}
    (ev_status_meterOpened : s.status.meterOpened = v_status_meterOpened) {v_status_driverId}
    (ev_status_driverId : s.status.driverId = v_status_driverId) {v_status_zone} (ev_status_zone : s.status.zone = v_status_zone)
    {v_status_position} (ev_status_position : s.status.position = v_status_position) {v_emerg_state}
    (ev_emerg_state : s.emerg.state = v_emerg_state) {v_msgs_paused} (ev_msgs_paused : s.msgs.paused = v_msgs_paused)
    (hl : ReportOk s.power.startUp s.power.park s.sched.statusPlace s.status.status s.status.shiftNumber s.status.meterOpened s.status.driverId s.status.zone s.status.position s.emerg.state s.msgs.paused) :
    ReportOk v_power_startUp v_power_park (State.takeResponse n l d s).sched.statusPlace
          (State.takeResponse n l d s).status.status v_status_shiftNumber v_status_meterOpened v_status_driverId v_status_zone v_status_position v_emerg_state v_msgs_paused := by
  subst ev_power_startUp; subst ev_power_park; subst ev_status_shiftNumber; subst ev_status_meterOpened; subst ev_status_driverId; subst ev_status_zone; subst ev_status_position; subst ev_emerg_state; subst ev_msgs_paused;
  unfold State.takeResponse; dsimp only; (repeat' split) <;> simp (maxDischargeDepth := 12) [hl]

@[simp] theorem State.awardNoEntry_report (b : OfferBody) {s : State} {v_power_startUp}
    (ev_power_startUp : s.power.startUp = v_power_startUp) {v_power_park} (ev_power_park : s.power.park = v_power_park)
    {v_status_shiftNumber} (ev_status_shiftNumber : s.status.shiftNumber = v_status_shiftNumber) {v_status_meterOpened}
    (ev_status_meterOpened : s.status.meterOpened = v_status_meterOpened) {v_status_driverId}
    (ev_status_driverId : s.status.driverId = v_status_driverId) {v_status_zone} (ev_status_zone : s.status.zone = v_status_zone)
    {v_status_position} (ev_status_position : s.status.position = v_status_position) {v_emerg_state}
    (ev_emerg_state : s.emerg.state = v_emerg_state) {v_msgs_paused} (ev_msgs_paused : s.msgs.paused = v_msgs_paused)
    (hl : ReportOk s.power.startUp s.power.park s.sched.statusPlace s.status.status s.status.shiftNumber s.status.meterOpened s.status.driverId s.status.zone s.status.position s.emerg.state s.msgs.paused) :
    ReportOk v_power_startUp v_power_park (State.awardNoEntry b s).sched.statusPlace
          (State.awardNoEntry b s).status.status v_status_shiftNumber v_status_meterOpened v_status_driverId v_status_zone v_status_position v_emerg_state v_msgs_paused := by
  subst ev_power_startUp; subst ev_power_park; subst ev_status_shiftNumber; subst ev_status_meterOpened; subst ev_status_driverId; subst ev_status_zone; subst ev_status_position; subst ev_emerg_state; subst ev_msgs_paused;
  unfold State.awardNoEntry; (repeat' split) <;> simp (maxDischargeDepth := 12) [hl]

@[simp] theorem State.takeAward_report (b : OfferBody) {s : State} {v_power_startUp} (ev_power_startUp : s.power.startUp = v_power_startUp)
    {v_power_park} (ev_power_park : s.power.park = v_power_park) {v_status_shiftNumber}
    (ev_status_shiftNumber : s.status.shiftNumber = v_status_shiftNumber) {v_status_meterOpened}
    (ev_status_meterOpened : s.status.meterOpened = v_status_meterOpened) {v_status_driverId}
    (ev_status_driverId : s.status.driverId = v_status_driverId) {v_status_zone} (ev_status_zone : s.status.zone = v_status_zone)
    {v_status_position} (ev_status_position : s.status.position = v_status_position) {v_emerg_state}
    (ev_emerg_state : s.emerg.state = v_emerg_state) {v_msgs_paused} (ev_msgs_paused : s.msgs.paused = v_msgs_paused)
    (hl : ReportOk s.power.startUp s.power.park s.sched.statusPlace s.status.status s.status.shiftNumber s.status.meterOpened s.status.driverId s.status.zone s.status.position s.emerg.state s.msgs.paused) :
    ReportOk v_power_startUp v_power_park (State.takeAward b s).sched.statusPlace
          (State.takeAward b s).status.status v_status_shiftNumber v_status_meterOpened v_status_driverId v_status_zone v_status_position v_emerg_state v_msgs_paused := by
  subst ev_power_startUp; subst ev_power_park; subst ev_status_shiftNumber; subst ev_status_meterOpened; subst ev_status_driverId; subst ev_status_zone; subst ev_status_position; subst ev_emerg_state; subst ev_msgs_paused;
  unfold State.takeAward; (repeat' split) <;> simp (maxDischargeDepth := 12) [hl]

@[simp] theorem State.takeWithdraw_report (j : DWord) {s : State} {v_power_startUp} (ev_power_startUp : s.power.startUp = v_power_startUp)
    {v_power_park} (ev_power_park : s.power.park = v_power_park) {v_status_shiftNumber}
    (ev_status_shiftNumber : s.status.shiftNumber = v_status_shiftNumber) {v_status_meterOpened}
    (ev_status_meterOpened : s.status.meterOpened = v_status_meterOpened) {v_status_driverId}
    (ev_status_driverId : s.status.driverId = v_status_driverId) {v_status_zone} (ev_status_zone : s.status.zone = v_status_zone)
    {v_status_position} (ev_status_position : s.status.position = v_status_position) {v_emerg_state}
    (ev_emerg_state : s.emerg.state = v_emerg_state) {v_msgs_paused} (ev_msgs_paused : s.msgs.paused = v_msgs_paused)
    (hl : ReportOk s.power.startUp s.power.park s.sched.statusPlace s.status.status s.status.shiftNumber s.status.meterOpened s.status.driverId s.status.zone s.status.position s.emerg.state s.msgs.paused) :
    ReportOk v_power_startUp v_power_park (State.takeWithdraw j s).sched.statusPlace
          (State.takeWithdraw j s).status.status v_status_shiftNumber v_status_meterOpened v_status_driverId v_status_zone v_status_position v_emerg_state v_msgs_paused := by
  subst ev_power_startUp; subst ev_power_park; subst ev_status_shiftNumber; subst ev_status_meterOpened; subst ev_status_driverId; subst ev_status_zone; subst ev_status_position; subst ev_emerg_state; subst ev_msgs_paused;
  unfold State.takeWithdraw; dsimp only; (repeat' split) <;> simp (maxDischargeDepth := 12) [hl]

@[simp] theorem State.openTrip_report (t : Byte) {s : State} {v_power_startUp} (ev_power_startUp : s.power.startUp = v_power_startUp)
    {v_power_park} (ev_power_park : s.power.park = v_power_park) {v_status_shiftNumber}
    (ev_status_shiftNumber : s.status.shiftNumber = v_status_shiftNumber) {v_status_meterOpened}
    (ev_status_meterOpened : s.status.meterOpened = v_status_meterOpened) {v_status_driverId}
    (ev_status_driverId : s.status.driverId = v_status_driverId) {v_status_zone} (ev_status_zone : s.status.zone = v_status_zone)
    {v_status_position} (ev_status_position : s.status.position = v_status_position) {v_emerg_state}
    (ev_emerg_state : s.emerg.state = v_emerg_state) {v_msgs_paused} (ev_msgs_paused : s.msgs.paused = v_msgs_paused) :
    ReportOk v_power_startUp v_power_park (State.openTrip t s).sched.statusPlace
          (State.openTrip t s).status.status v_status_shiftNumber v_status_meterOpened v_status_driverId v_status_zone v_status_position v_emerg_state v_msgs_paused := by
  subst ev_power_startUp; subst ev_power_park; subst ev_status_shiftNumber; subst ev_status_meterOpened; subst ev_status_driverId; subst ev_status_zone; subst ev_status_position; subst ev_emerg_state; subst ev_msgs_paused;
  unfold State.openTrip; (repeat' split) <;> simp (maxDischargeDepth := 12)

@[simp] theorem State.statusAfterTrip_report {s : State} {v_power_startUp} (ev_power_startUp : s.power.startUp = v_power_startUp)
    {v_power_park} (ev_power_park : s.power.park = v_power_park) {v_status_shiftNumber}
    (ev_status_shiftNumber : s.status.shiftNumber = v_status_shiftNumber) {v_status_meterOpened}
    (ev_status_meterOpened : s.status.meterOpened = v_status_meterOpened) {v_status_driverId}
    (ev_status_driverId : s.status.driverId = v_status_driverId) {v_status_zone} (ev_status_zone : s.status.zone = v_status_zone)
    {v_status_position} (ev_status_position : s.status.position = v_status_position) {v_emerg_state}
    (ev_emerg_state : s.emerg.state = v_emerg_state) {v_msgs_paused} (ev_msgs_paused : s.msgs.paused = v_msgs_paused)
    (hl : ReportOk s.power.startUp s.power.park s.sched.statusPlace s.status.status s.status.shiftNumber s.status.meterOpened s.status.driverId s.status.zone s.status.position s.emerg.state s.msgs.paused) :
    ReportOk v_power_startUp v_power_park (State.statusAfterTrip s).sched.statusPlace
          (State.statusAfterTrip s).status.status v_status_shiftNumber v_status_meterOpened v_status_driverId v_status_zone v_status_position v_emerg_state v_msgs_paused := by
  subst ev_power_startUp; subst ev_power_park; subst ev_status_shiftNumber; subst ev_status_meterOpened; subst ev_status_driverId; subst ev_status_zone; subst ev_status_position; subst ev_emerg_state; subst ev_msgs_paused;
  unfold State.statusAfterTrip; (repeat' split) <;> simp (maxDischargeDepth := 12) [hl]

@[simp] theorem State.closeTrip_report (e : TripEnd) {s : State} {v_power_startUp} (ev_power_startUp : s.power.startUp = v_power_startUp)
    {v_power_park} (ev_power_park : s.power.park = v_power_park) {v_status_shiftNumber}
    (ev_status_shiftNumber : s.status.shiftNumber = v_status_shiftNumber) {v_status_meterOpened}
    (ev_status_meterOpened : s.status.meterOpened = v_status_meterOpened) {v_status_driverId}
    (ev_status_driverId : s.status.driverId = v_status_driverId) {v_status_zone} (ev_status_zone : s.status.zone = v_status_zone)
    {v_status_position} (ev_status_position : s.status.position = v_status_position) {v_emerg_state}
    (ev_emerg_state : s.emerg.state = v_emerg_state) {v_msgs_paused} (ev_msgs_paused : s.msgs.paused = v_msgs_paused)
    (hl : ReportOk s.power.startUp s.power.park s.sched.statusPlace s.status.status s.status.shiftNumber s.status.meterOpened s.status.driverId s.status.zone s.status.position s.emerg.state s.msgs.paused) :
    ReportOk v_power_startUp v_power_park (State.closeTrip e s).sched.statusPlace
          (State.closeTrip e s).status.status v_status_shiftNumber v_status_meterOpened v_status_driverId v_status_zone v_status_position v_emerg_state v_msgs_paused := by
  subst ev_power_startUp; subst ev_power_park; subst ev_status_shiftNumber; subst ev_status_meterOpened; subst ev_status_driverId; subst ev_status_zone; subst ev_status_position; subst ev_emerg_state; subst ev_msgs_paused;
  unfold State.closeTrip; (repeat' split) <;> simp (maxDischargeDepth := 12) [hl]

@[simp] theorem State.takeHire_report (t : Byte) {s : State} {v_power_startUp} (ev_power_startUp : s.power.startUp = v_power_startUp)
    {v_power_park} (ev_power_park : s.power.park = v_power_park) {v_status_zone} (ev_status_zone : s.status.zone = v_status_zone)
    {v_status_position} (ev_status_position : s.status.position = v_status_position) {v_emerg_state}
    (ev_emerg_state : s.emerg.state = v_emerg_state) {v_msgs_paused} (ev_msgs_paused : s.msgs.paused = v_msgs_paused) :
    ReportOk v_power_startUp v_power_park (State.takeHire t s).sched.statusPlace (State.takeHire t s).status.status
          (State.takeHire t s).status.shiftNumber (State.takeHire t s).status.meterOpened
          (State.takeHire t s).status.driverId v_status_zone v_status_position v_emerg_state v_msgs_paused := by
  subst ev_power_startUp; subst ev_power_park; subst ev_status_zone; subst ev_status_position; subst ev_emerg_state; subst ev_msgs_paused;
  unfold State.takeHire; (repeat' split) <;> simp (maxDischargeDepth := 12)

@[simp] theorem State.takeStop_report (f : DWord) {s : State} {v_power_startUp} (ev_power_startUp : s.power.startUp = v_power_startUp)
    {v_power_park} (ev_power_park : s.power.park = v_power_park) {v_status_shiftNumber}
    (ev_status_shiftNumber : s.status.shiftNumber = v_status_shiftNumber) {v_status_meterOpened}
    (ev_status_meterOpened : s.status.meterOpened = v_status_meterOpened) {v_status_driverId}
    (ev_status_driverId : s.status.driverId = v_status_driverId) {v_status_zone} (ev_status_zone : s.status.zone = v_status_zone)
    {v_status_position} (ev_status_position : s.status.position = v_status_position) {v_emerg_state}
    (ev_emerg_state : s.emerg.state = v_emerg_state) {v_msgs_paused} (ev_msgs_paused : s.msgs.paused = v_msgs_paused)
    (hl : ReportOk s.power.startUp s.power.park s.sched.statusPlace s.status.status s.status.shiftNumber s.status.meterOpened s.status.driverId s.status.zone s.status.position s.emerg.state s.msgs.paused) :
    ReportOk v_power_startUp v_power_park (State.takeStop f s).sched.statusPlace
          (State.takeStop f s).status.status v_status_shiftNumber v_status_meterOpened v_status_driverId v_status_zone v_status_position v_emerg_state v_msgs_paused := by
  subst ev_power_startUp; subst ev_power_park; subst ev_status_shiftNumber; subst ev_status_meterOpened; subst ev_status_driverId; subst ev_status_zone; subst ev_status_position; subst ev_emerg_state; subst ev_msgs_paused;
  unfold State.takeStop; (repeat' split) <;> simp (maxDischargeDepth := 12) [hl]

@[simp] theorem State.forceClose_report {s : State} {v_power_startUp} (ev_power_startUp : s.power.startUp = v_power_startUp) {v_power_park}
    (ev_power_park : s.power.park = v_power_park) {v_status_shiftNumber}
    (ev_status_shiftNumber : s.status.shiftNumber = v_status_shiftNumber) {v_status_meterOpened}
    (ev_status_meterOpened : s.status.meterOpened = v_status_meterOpened) {v_status_driverId}
    (ev_status_driverId : s.status.driverId = v_status_driverId) {v_status_zone} (ev_status_zone : s.status.zone = v_status_zone)
    {v_status_position} (ev_status_position : s.status.position = v_status_position) {v_emerg_state}
    (ev_emerg_state : s.emerg.state = v_emerg_state) {v_msgs_paused} (ev_msgs_paused : s.msgs.paused = v_msgs_paused)
    (hl : ReportOk s.power.startUp s.power.park s.sched.statusPlace s.status.status s.status.shiftNumber s.status.meterOpened s.status.driverId s.status.zone s.status.position s.emerg.state s.msgs.paused) :
    ReportOk v_power_startUp v_power_park (State.forceClose s).sched.statusPlace
          (State.forceClose s).status.status v_status_shiftNumber v_status_meterOpened v_status_driverId v_status_zone v_status_position v_emerg_state v_msgs_paused := by
  subst ev_power_startUp; subst ev_power_park; subst ev_status_shiftNumber; subst ev_status_meterOpened; subst ev_status_driverId; subst ev_status_zone; subst ev_status_position; subst ev_emerg_state; subst ev_msgs_paused;
  unfold State.forceClose; (repeat' split) <;> simp (maxDischargeDepth := 12) [hl]

@[simp] theorem State.changeFlow_report (p : Bool) {s : State} {v_power_startUp} (ev_power_startUp : s.power.startUp = v_power_startUp)
    {v_power_park} (ev_power_park : s.power.park = v_power_park) {v_status_status} (ev_status_status : s.status.status = v_status_status)
    {v_status_shiftNumber} (ev_status_shiftNumber : s.status.shiftNumber = v_status_shiftNumber) {v_status_meterOpened}
    (ev_status_meterOpened : s.status.meterOpened = v_status_meterOpened) {v_status_driverId}
    (ev_status_driverId : s.status.driverId = v_status_driverId) {v_status_zone} (ev_status_zone : s.status.zone = v_status_zone)
    {v_status_position} (ev_status_position : s.status.position = v_status_position) {v_emerg_state}
    (ev_emerg_state : s.emerg.state = v_emerg_state) :
    ReportOk v_power_startUp v_power_park
          (State.changeFlow p s).sched.statusPlace v_status_status v_status_shiftNumber v_status_meterOpened v_status_driverId v_status_zone v_status_position v_emerg_state (State.changeFlow p s).msgs.paused := by
  subst ev_power_startUp; subst ev_power_park; subst ev_status_status; subst ev_status_shiftNumber; subst ev_status_meterOpened; subst ev_status_driverId; subst ev_status_zone; subst ev_status_position; subst ev_emerg_state;
  unfold State.changeFlow; (repeat' split) <;> simp (maxDischargeDepth := 12)

@[simp] theorem State.evaluateFlow_report {s : State} {v_power_startUp} (ev_power_startUp : s.power.startUp = v_power_startUp)
    {v_power_park} (ev_power_park : s.power.park = v_power_park) {v_status_status} (ev_status_status : s.status.status = v_status_status)
    {v_status_shiftNumber} (ev_status_shiftNumber : s.status.shiftNumber = v_status_shiftNumber) {v_status_meterOpened}
    (ev_status_meterOpened : s.status.meterOpened = v_status_meterOpened) {v_status_driverId}
    (ev_status_driverId : s.status.driverId = v_status_driverId) {v_status_zone} (ev_status_zone : s.status.zone = v_status_zone)
    {v_status_position} (ev_status_position : s.status.position = v_status_position) {v_emerg_state}
    (ev_emerg_state : s.emerg.state = v_emerg_state)
    (hl : ReportOk s.power.startUp s.power.park s.sched.statusPlace s.status.status s.status.shiftNumber s.status.meterOpened s.status.driverId s.status.zone s.status.position s.emerg.state s.msgs.paused) :
    ReportOk v_power_startUp v_power_park
          (State.evaluateFlow s).sched.statusPlace v_status_status v_status_shiftNumber v_status_meterOpened v_status_driverId v_status_zone v_status_position v_emerg_state (State.evaluateFlow s).msgs.paused := by
  subst ev_power_startUp; subst ev_power_park; subst ev_status_status; subst ev_status_shiftNumber; subst ev_status_meterOpened; subst ev_status_driverId; subst ev_status_zone; subst ev_status_position; subst ev_emerg_state;
  unfold State.evaluateFlow; (repeat' split) <;> simp (maxDischargeDepth := 12) [hl]

@[simp] theorem State.endInboundDeposit_report {s : State} {v_power_startUp} (ev_power_startUp : s.power.startUp = v_power_startUp)
    {v_power_park} (ev_power_park : s.power.park = v_power_park) {v_status_status} (ev_status_status : s.status.status = v_status_status)
    {v_status_shiftNumber} (ev_status_shiftNumber : s.status.shiftNumber = v_status_shiftNumber) {v_status_meterOpened}
    (ev_status_meterOpened : s.status.meterOpened = v_status_meterOpened) {v_status_driverId}
    (ev_status_driverId : s.status.driverId = v_status_driverId) {v_status_zone} (ev_status_zone : s.status.zone = v_status_zone)
    {v_status_position} (ev_status_position : s.status.position = v_status_position) {v_emerg_state}
    (ev_emerg_state : s.emerg.state = v_emerg_state)
    (hl : ReportOk s.power.startUp s.power.park s.sched.statusPlace s.status.status s.status.shiftNumber s.status.meterOpened s.status.driverId s.status.zone s.status.position s.emerg.state s.msgs.paused) :
    ReportOk v_power_startUp v_power_park
          (State.endInboundDeposit s).sched.statusPlace v_status_status v_status_shiftNumber v_status_meterOpened v_status_driverId v_status_zone v_status_position v_emerg_state (State.endInboundDeposit s).msgs.paused := by
  subst ev_power_startUp; subst ev_power_park; subst ev_status_status; subst ev_status_shiftNumber; subst ev_status_meterOpened; subst ev_status_driverId; subst ev_status_zone; subst ev_status_position; subst ev_emerg_state;
  unfold State.endInboundDeposit; (repeat' split) <;> simp (maxDischargeDepth := 12) [hl]

@[simp] theorem State.closeRing_report (i : RingId) {s : State} {v_power_startUp} (ev_power_startUp : s.power.startUp = v_power_startUp)
    {v_power_park} (ev_power_park : s.power.park = v_power_park) {v_status_status} (ev_status_status : s.status.status = v_status_status)
    {v_status_shiftNumber} (ev_status_shiftNumber : s.status.shiftNumber = v_status_shiftNumber) {v_status_meterOpened}
    (ev_status_meterOpened : s.status.meterOpened = v_status_meterOpened) {v_status_driverId}
    (ev_status_driverId : s.status.driverId = v_status_driverId) {v_status_zone} (ev_status_zone : s.status.zone = v_status_zone)
    {v_status_position} (ev_status_position : s.status.position = v_status_position) {v_emerg_state}
    (ev_emerg_state : s.emerg.state = v_emerg_state)
    (hl : ReportOk s.power.startUp s.power.park s.sched.statusPlace s.status.status s.status.shiftNumber s.status.meterOpened s.status.driverId s.status.zone s.status.position s.emerg.state s.msgs.paused) :
    ReportOk v_power_startUp v_power_park
          (State.closeRing i s).sched.statusPlace v_status_status v_status_shiftNumber v_status_meterOpened v_status_driverId v_status_zone v_status_position v_emerg_state (State.closeRing i s).msgs.paused := by
  subst ev_power_startUp; subst ev_power_park; subst ev_status_status; subst ev_status_shiftNumber; subst ev_status_meterOpened; subst ev_status_driverId; subst ev_status_zone; subst ev_status_position; subst ev_emerg_state;
  unfold State.closeRing; dsimp only; (repeat' split) <;> simp (maxDischargeDepth := 12) [hl]

@[simp] theorem State.ringClose_report (i : RingId) (w : Word) {s : State} {v_power_startUp}
    (ev_power_startUp : s.power.startUp = v_power_startUp) {v_power_park} (ev_power_park : s.power.park = v_power_park) {v_status_status}
    (ev_status_status : s.status.status = v_status_status) {v_status_shiftNumber}
    (ev_status_shiftNumber : s.status.shiftNumber = v_status_shiftNumber) {v_status_meterOpened}
    (ev_status_meterOpened : s.status.meterOpened = v_status_meterOpened) {v_status_driverId}
    (ev_status_driverId : s.status.driverId = v_status_driverId) {v_status_zone} (ev_status_zone : s.status.zone = v_status_zone)
    {v_status_position} (ev_status_position : s.status.position = v_status_position) {v_emerg_state}
    (ev_emerg_state : s.emerg.state = v_emerg_state)
    (hl : ReportOk s.power.startUp s.power.park s.sched.statusPlace s.status.status s.status.shiftNumber s.status.meterOpened s.status.driverId s.status.zone s.status.position s.emerg.state s.msgs.paused) :
    ReportOk v_power_startUp v_power_park
          (State.ringClose i w s).sched.statusPlace v_status_status v_status_shiftNumber v_status_meterOpened v_status_driverId v_status_zone v_status_position v_emerg_state (State.ringClose i w s).msgs.paused := by
  subst ev_power_startUp; subst ev_power_park; subst ev_status_status; subst ev_status_shiftNumber; subst ev_status_meterOpened; subst ev_status_driverId; subst ev_status_zone; subst ev_status_position; subst ev_emerg_state;
  unfold State.ringClose; (repeat' split) <;> simp (maxDischargeDepth := 12) [hl]

@[simp] theorem State.ringControl_report (i : RingId) (l : Lanes) (d : Word) {s : State} {v_power_startUp}
    (ev_power_startUp : s.power.startUp = v_power_startUp) {v_power_park} (ev_power_park : s.power.park = v_power_park) {v_status_status}
    (ev_status_status : s.status.status = v_status_status) {v_status_shiftNumber}
    (ev_status_shiftNumber : s.status.shiftNumber = v_status_shiftNumber) {v_status_meterOpened}
    (ev_status_meterOpened : s.status.meterOpened = v_status_meterOpened) {v_status_driverId}
    (ev_status_driverId : s.status.driverId = v_status_driverId) {v_status_zone} (ev_status_zone : s.status.zone = v_status_zone)
    {v_status_position} (ev_status_position : s.status.position = v_status_position) {v_emerg_state}
    (ev_emerg_state : s.emerg.state = v_emerg_state)
    (hl : ReportOk s.power.startUp s.power.park s.sched.statusPlace s.status.status s.status.shiftNumber s.status.meterOpened s.status.driverId s.status.zone s.status.position s.emerg.state s.msgs.paused) :
    ReportOk v_power_startUp v_power_park
          (State.ringControl i l d s).sched.statusPlace v_status_status v_status_shiftNumber v_status_meterOpened v_status_driverId v_status_zone v_status_position v_emerg_state (State.ringControl i l d s).msgs.paused := by
  subst ev_power_startUp; subst ev_power_park; subst ev_status_status; subst ev_status_shiftNumber; subst ev_status_meterOpened; subst ev_status_driverId; subst ev_status_zone; subst ev_status_position; subst ev_emerg_state;
  unfold State.ringControl; dsimp only; (repeat' split) <;> simp (maxDischargeDepth := 12) [hl]

@[simp] theorem State.pointerMoved_report (i : RingId) {s : State} {v_power_startUp} (ev_power_startUp : s.power.startUp = v_power_startUp)
    {v_power_park} (ev_power_park : s.power.park = v_power_park) {v_status_status} (ev_status_status : s.status.status = v_status_status)
    {v_status_shiftNumber} (ev_status_shiftNumber : s.status.shiftNumber = v_status_shiftNumber) {v_status_meterOpened}
    (ev_status_meterOpened : s.status.meterOpened = v_status_meterOpened) {v_status_driverId}
    (ev_status_driverId : s.status.driverId = v_status_driverId) {v_status_zone} (ev_status_zone : s.status.zone = v_status_zone)
    {v_status_position} (ev_status_position : s.status.position = v_status_position) {v_emerg_state}
    (ev_emerg_state : s.emerg.state = v_emerg_state)
    (hl : ReportOk s.power.startUp s.power.park s.sched.statusPlace s.status.status s.status.shiftNumber s.status.meterOpened s.status.driverId s.status.zone s.status.position s.emerg.state s.msgs.paused) :
    ReportOk v_power_startUp v_power_park
          (State.pointerMoved i s).sched.statusPlace v_status_status v_status_shiftNumber v_status_meterOpened v_status_driverId v_status_zone v_status_position v_emerg_state (State.pointerMoved i s).msgs.paused := by
  subst ev_power_startUp; subst ev_power_park; subst ev_status_status; subst ev_status_shiftNumber; subst ev_status_meterOpened; subst ev_status_driverId; subst ev_status_zone; subst ev_status_position; subst ev_emerg_state;
  unfold State.pointerMoved; (repeat' split) <;> simp (maxDischargeDepth := 12) [hl]

@[simp] theorem State.pointerWrite_report (i : RingId) (l : Lanes) (d : Word) {s : State} {v_power_startUp}
    (ev_power_startUp : s.power.startUp = v_power_startUp) {v_power_park} (ev_power_park : s.power.park = v_power_park) {v_status_status}
    (ev_status_status : s.status.status = v_status_status) {v_status_shiftNumber}
    (ev_status_shiftNumber : s.status.shiftNumber = v_status_shiftNumber) {v_status_meterOpened}
    (ev_status_meterOpened : s.status.meterOpened = v_status_meterOpened) {v_status_driverId}
    (ev_status_driverId : s.status.driverId = v_status_driverId) {v_status_zone} (ev_status_zone : s.status.zone = v_status_zone)
    {v_status_position} (ev_status_position : s.status.position = v_status_position) {v_emerg_state}
    (ev_emerg_state : s.emerg.state = v_emerg_state)
    (hl : ReportOk s.power.startUp s.power.park s.sched.statusPlace s.status.status s.status.shiftNumber s.status.meterOpened s.status.driverId s.status.zone s.status.position s.emerg.state s.msgs.paused) :
    ReportOk v_power_startUp v_power_park
          (State.pointerWrite i l d s).sched.statusPlace v_status_status v_status_shiftNumber v_status_meterOpened v_status_driverId v_status_zone v_status_position v_emerg_state (State.pointerWrite i l d s).msgs.paused := by
  subst ev_power_startUp; subst ev_power_park; subst ev_status_status; subst ev_status_shiftNumber; subst ev_status_meterOpened; subst ev_status_driverId; subst ev_status_zone; subst ev_status_position; subst ev_emerg_state;
  unfold State.pointerWrite; dsimp only; (repeat' split) <;> simp (maxDischargeDepth := 12) [hl]

@[simp] theorem State.endOpenCheck_report (i : RingId) (h : HeaderWords) {s : State} {v_power_startUp}
    (ev_power_startUp : s.power.startUp = v_power_startUp) {v_power_park} (ev_power_park : s.power.park = v_power_park) {v_status_status}
    (ev_status_status : s.status.status = v_status_status) {v_status_shiftNumber}
    (ev_status_shiftNumber : s.status.shiftNumber = v_status_shiftNumber) {v_status_meterOpened}
    (ev_status_meterOpened : s.status.meterOpened = v_status_meterOpened) {v_status_driverId}
    (ev_status_driverId : s.status.driverId = v_status_driverId) {v_status_zone} (ev_status_zone : s.status.zone = v_status_zone)
    {v_status_position} (ev_status_position : s.status.position = v_status_position) {v_emerg_state}
    (ev_emerg_state : s.emerg.state = v_emerg_state)
    (hl : ReportOk s.power.startUp s.power.park s.sched.statusPlace s.status.status s.status.shiftNumber s.status.meterOpened s.status.driverId s.status.zone s.status.position s.emerg.state s.msgs.paused) :
    ReportOk v_power_startUp v_power_park
          (State.endOpenCheck i h s).sched.statusPlace v_status_status v_status_shiftNumber v_status_meterOpened v_status_driverId v_status_zone v_status_position v_emerg_state (State.endOpenCheck i h s).msgs.paused := by
  subst ev_power_startUp; subst ev_power_park; subst ev_status_status; subst ev_status_shiftNumber; subst ev_status_meterOpened; subst ev_status_driverId; subst ev_status_zone; subst ev_status_position; subst ev_emerg_state;
  unfold State.endOpenCheck; dsimp only; (repeat' split) <;> simp (maxDischargeDepth := 12) [hl]

@[simp] theorem State.enterActive_report {s : State} {v_power_startUp} (ev_power_startUp : s.power.startUp = v_power_startUp)
    {v_status_status} (ev_status_status : s.status.status = v_status_status) {v_status_shiftNumber}
    (ev_status_shiftNumber : s.status.shiftNumber = v_status_shiftNumber) {v_status_meterOpened}
    (ev_status_meterOpened : s.status.meterOpened = v_status_meterOpened) {v_status_driverId}
    (ev_status_driverId : s.status.driverId = v_status_driverId) {v_status_zone} (ev_status_zone : s.status.zone = v_status_zone)
    {v_status_position} (ev_status_position : s.status.position = v_status_position) {v_emerg_state}
    (ev_emerg_state : s.emerg.state = v_emerg_state) {v_msgs_paused} (ev_msgs_paused : s.msgs.paused = v_msgs_paused) :
    ReportOk v_power_startUp (State.enterActive s).power.park
          (State.enterActive s).sched.statusPlace v_status_status v_status_shiftNumber v_status_meterOpened v_status_driverId v_status_zone v_status_position v_emerg_state v_msgs_paused := by
  subst ev_power_startUp; subst ev_status_status; subst ev_status_shiftNumber; subst ev_status_meterOpened; subst ev_status_driverId; subst ev_status_zone; subst ev_status_position; subst ev_emerg_state; subst ev_msgs_paused;
  unfold State.enterActive; (repeat' split) <;> simp (maxDischargeDepth := 12)

@[simp] theorem State.wakeEvent_report (w : WakeSource) {s : State} {v_power_startUp}
    (ev_power_startUp : s.power.startUp = v_power_startUp) {v_status_status} (ev_status_status : s.status.status = v_status_status)
    {v_status_shiftNumber} (ev_status_shiftNumber : s.status.shiftNumber = v_status_shiftNumber) {v_status_meterOpened}
    (ev_status_meterOpened : s.status.meterOpened = v_status_meterOpened) {v_status_driverId}
    (ev_status_driverId : s.status.driverId = v_status_driverId) {v_status_zone} (ev_status_zone : s.status.zone = v_status_zone)
    {v_status_position} (ev_status_position : s.status.position = v_status_position) {v_emerg_state}
    (ev_emerg_state : s.emerg.state = v_emerg_state) {v_msgs_paused} (ev_msgs_paused : s.msgs.paused = v_msgs_paused)
    (hl : ReportOk s.power.startUp s.power.park s.sched.statusPlace s.status.status s.status.shiftNumber s.status.meterOpened s.status.driverId s.status.zone s.status.position s.emerg.state s.msgs.paused) :
    ReportOk v_power_startUp (State.wakeEvent w s).power.park
          (State.wakeEvent w s).sched.statusPlace v_status_status v_status_shiftNumber v_status_meterOpened v_status_driverId v_status_zone v_status_position v_emerg_state v_msgs_paused := by
  subst ev_power_startUp; subst ev_status_status; subst ev_status_shiftNumber; subst ev_status_meterOpened; subst ev_status_driverId; subst ev_status_zone; subst ev_status_position; subst ev_emerg_state; subst ev_msgs_paused;
  unfold State.wakeEvent; (repeat' split) <;> simp (maxDischargeDepth := 12) [hl]

@[simp] theorem State.enterParking_report {s : State} {v_power_startUp} (ev_power_startUp : s.power.startUp = v_power_startUp)
    {v_status_status} (ev_status_status : s.status.status = v_status_status) {v_status_shiftNumber}
    (ev_status_shiftNumber : s.status.shiftNumber = v_status_shiftNumber) {v_status_meterOpened}
    (ev_status_meterOpened : s.status.meterOpened = v_status_meterOpened) {v_status_driverId}
    (ev_status_driverId : s.status.driverId = v_status_driverId) {v_status_zone} (ev_status_zone : s.status.zone = v_status_zone)
    {v_status_position} (ev_status_position : s.status.position = v_status_position) {v_emerg_state}
    (ev_emerg_state : s.emerg.state = v_emerg_state) {v_msgs_paused} (ev_msgs_paused : s.msgs.paused = v_msgs_paused) :
    ReportOk v_power_startUp (State.enterParking s).power.park
          (State.enterParking s).sched.statusPlace v_status_status v_status_shiftNumber v_status_meterOpened v_status_driverId v_status_zone v_status_position v_emerg_state v_msgs_paused := by
  subst ev_power_startUp; subst ev_status_status; subst ev_status_shiftNumber; subst ev_status_meterOpened; subst ev_status_driverId; subst ev_status_zone; subst ev_status_position; subst ev_emerg_state; subst ev_msgs_paused;
  unfold State.enterParking; (repeat' split) <;> simp (maxDischargeDepth := 12)

@[simp] theorem State.enterStandby_report {s : State} {v_power_startUp} (ev_power_startUp : s.power.startUp = v_power_startUp)
    {v_power_park} (ev_power_park : s.power.park = v_power_park) {v_status_status} (ev_status_status : s.status.status = v_status_status)
    {v_status_shiftNumber} (ev_status_shiftNumber : s.status.shiftNumber = v_status_shiftNumber) {v_status_meterOpened}
    (ev_status_meterOpened : s.status.meterOpened = v_status_meterOpened) {v_status_driverId}
    (ev_status_driverId : s.status.driverId = v_status_driverId) {v_status_zone} (ev_status_zone : s.status.zone = v_status_zone)
    {v_status_position} (ev_status_position : s.status.position = v_status_position) {v_emerg_state}
    (ev_emerg_state : s.emerg.state = v_emerg_state) {v_msgs_paused} (ev_msgs_paused : s.msgs.paused = v_msgs_paused) :
    ReportOk v_power_startUp v_power_park
          (State.enterStandby s).sched.statusPlace v_status_status v_status_shiftNumber v_status_meterOpened v_status_driverId v_status_zone v_status_position v_emerg_state v_msgs_paused := by
  subst ev_power_startUp; subst ev_power_park; subst ev_status_status; subst ev_status_shiftNumber; subst ev_status_meterOpened; subst ev_status_driverId; subst ev_status_zone; subst ev_status_position; subst ev_emerg_state; subst ev_msgs_paused;
  unfold State.enterStandby; (repeat' split) <;> simp (maxDischargeDepth := 12)

@[simp] theorem State.enterSleep_report {s : State} {v_power_startUp} (ev_power_startUp : s.power.startUp = v_power_startUp) {v_power_park}
    (ev_power_park : s.power.park = v_power_park) {v_status_status} (ev_status_status : s.status.status = v_status_status)
    {v_status_shiftNumber} (ev_status_shiftNumber : s.status.shiftNumber = v_status_shiftNumber) {v_status_meterOpened}
    (ev_status_meterOpened : s.status.meterOpened = v_status_meterOpened) {v_status_driverId}
    (ev_status_driverId : s.status.driverId = v_status_driverId) {v_status_zone} (ev_status_zone : s.status.zone = v_status_zone)
    {v_status_position} (ev_status_position : s.status.position = v_status_position) {v_emerg_state}
    (ev_emerg_state : s.emerg.state = v_emerg_state) {v_msgs_paused} (ev_msgs_paused : s.msgs.paused = v_msgs_paused) :
    ReportOk v_power_startUp v_power_park
          (State.enterSleep s).sched.statusPlace v_status_status v_status_shiftNumber v_status_meterOpened v_status_driverId v_status_zone v_status_position v_emerg_state v_msgs_paused := by
  subst ev_power_startUp; subst ev_power_park; subst ev_status_status; subst ev_status_shiftNumber; subst ev_status_meterOpened; subst ev_status_driverId; subst ev_status_zone; subst ev_status_position; subst ev_emerg_state; subst ev_msgs_paused;
  unfold State.enterSleep; (repeat' split) <;> simp (maxDischargeDepth := 12)

@[simp] theorem State.endParking_report {s : State} {v_power_startUp} (ev_power_startUp : s.power.startUp = v_power_startUp)
    {v_status_status} (ev_status_status : s.status.status = v_status_status) {v_status_shiftNumber}
    (ev_status_shiftNumber : s.status.shiftNumber = v_status_shiftNumber) {v_status_meterOpened}
    (ev_status_meterOpened : s.status.meterOpened = v_status_meterOpened) {v_status_driverId}
    (ev_status_driverId : s.status.driverId = v_status_driverId) {v_status_zone} (ev_status_zone : s.status.zone = v_status_zone)
    {v_status_position} (ev_status_position : s.status.position = v_status_position) {v_emerg_state}
    (ev_emerg_state : s.emerg.state = v_emerg_state) {v_msgs_paused} (ev_msgs_paused : s.msgs.paused = v_msgs_paused)
    (hl : ReportOk s.power.startUp s.power.park s.sched.statusPlace s.status.status s.status.shiftNumber s.status.meterOpened s.status.driverId s.status.zone s.status.position s.emerg.state s.msgs.paused) :
    ReportOk v_power_startUp (State.endParking s).power.park
          (State.endParking s).sched.statusPlace v_status_status v_status_shiftNumber v_status_meterOpened v_status_driverId v_status_zone v_status_position v_emerg_state v_msgs_paused := by
  subst ev_power_startUp; subst ev_status_status; subst ev_status_shiftNumber; subst ev_status_meterOpened; subst ev_status_driverId; subst ev_status_zone; subst ev_status_position; subst ev_emerg_state; subst ev_msgs_paused;
  unfold State.endParking; (repeat' split) <;> simp (maxDischargeDepth := 12) [hl]

@[simp] theorem State.statusSent_report (b : Bool) {s : State} {v_power_startUp} (ev_power_startUp : s.power.startUp = v_power_startUp)
    {v_status_status} (ev_status_status : s.status.status = v_status_status) {v_status_shiftNumber}
    (ev_status_shiftNumber : s.status.shiftNumber = v_status_shiftNumber) {v_status_meterOpened}
    (ev_status_meterOpened : s.status.meterOpened = v_status_meterOpened) {v_status_driverId}
    (ev_status_driverId : s.status.driverId = v_status_driverId) {v_status_zone} (ev_status_zone : s.status.zone = v_status_zone)
    {v_status_position} (ev_status_position : s.status.position = v_status_position) {v_emerg_state}
    (ev_emerg_state : s.emerg.state = v_emerg_state) {v_msgs_paused} (ev_msgs_paused : s.msgs.paused = v_msgs_paused)
    (hl : ReportOk s.power.startUp s.power.park s.sched.statusPlace s.status.status s.status.shiftNumber s.status.meterOpened s.status.driverId s.status.zone s.status.position s.emerg.state s.msgs.paused) :
    ReportOk v_power_startUp (State.statusSent b s).power.park
          (State.statusSent b s).sched.statusPlace v_status_status v_status_shiftNumber v_status_meterOpened v_status_driverId v_status_zone v_status_position v_emerg_state v_msgs_paused := by
  subst ev_power_startUp; subst ev_status_status; subst ev_status_shiftNumber; subst ev_status_meterOpened; subst ev_status_driverId; subst ev_status_zone; subst ev_status_position; subst ev_emerg_state; subst ev_msgs_paused;
  unfold State.statusSent; (repeat' split) <;> simp (maxDischargeDepth := 12) [hl]

@[simp] theorem State.powerChange_report (w : Word) {s : State} {v_power_startUp} (ev_power_startUp : s.power.startUp = v_power_startUp)
    {v_status_status} (ev_status_status : s.status.status = v_status_status) {v_status_shiftNumber}
    (ev_status_shiftNumber : s.status.shiftNumber = v_status_shiftNumber) {v_status_meterOpened}
    (ev_status_meterOpened : s.status.meterOpened = v_status_meterOpened) {v_status_driverId}
    (ev_status_driverId : s.status.driverId = v_status_driverId) {v_status_zone} (ev_status_zone : s.status.zone = v_status_zone)
    {v_status_position} (ev_status_position : s.status.position = v_status_position) {v_emerg_state}
    (ev_emerg_state : s.emerg.state = v_emerg_state) {v_msgs_paused} (ev_msgs_paused : s.msgs.paused = v_msgs_paused)
    (hl : ReportOk s.power.startUp s.power.park s.sched.statusPlace s.status.status s.status.shiftNumber s.status.meterOpened s.status.driverId s.status.zone s.status.position s.emerg.state s.msgs.paused) :
    ReportOk v_power_startUp (State.powerChange w s).power.park
          (State.powerChange w s).sched.statusPlace v_status_status v_status_shiftNumber v_status_meterOpened v_status_driverId v_status_zone v_status_position v_emerg_state v_msgs_paused := by
  subst ev_power_startUp; subst ev_status_status; subst ev_status_shiftNumber; subst ev_status_meterOpened; subst ev_status_driverId; subst ev_status_zone; subst ev_status_position; subst ev_emerg_state; subst ev_msgs_paused;
  unfold State.powerChange; (repeat' split) <;> simp (maxDischargeDepth := 12) [hl]

@[simp] theorem State.powerRequest_report (l : Lanes) (d : Word) {s : State} {v_power_startUp}
    (ev_power_startUp : s.power.startUp = v_power_startUp) {v_status_status} (ev_status_status : s.status.status = v_status_status)
    {v_status_shiftNumber} (ev_status_shiftNumber : s.status.shiftNumber = v_status_shiftNumber) {v_status_meterOpened}
    (ev_status_meterOpened : s.status.meterOpened = v_status_meterOpened) {v_status_driverId}
    (ev_status_driverId : s.status.driverId = v_status_driverId) {v_status_zone} (ev_status_zone : s.status.zone = v_status_zone)
    {v_status_position} (ev_status_position : s.status.position = v_status_position) {v_emerg_state}
    (ev_emerg_state : s.emerg.state = v_emerg_state) {v_msgs_paused} (ev_msgs_paused : s.msgs.paused = v_msgs_paused)
    (hl : ReportOk s.power.startUp s.power.park s.sched.statusPlace s.status.status s.status.shiftNumber s.status.meterOpened s.status.driverId s.status.zone s.status.position s.emerg.state s.msgs.paused) :
    ReportOk v_power_startUp (State.powerRequest l d s).power.park
          (State.powerRequest l d s).sched.statusPlace v_status_status v_status_shiftNumber v_status_meterOpened v_status_driverId v_status_zone v_status_position v_emerg_state v_msgs_paused := by
  subst ev_power_startUp; subst ev_status_status; subst ev_status_shiftNumber; subst ev_status_meterOpened; subst ev_status_driverId; subst ev_status_zone; subst ev_status_position; subst ev_emerg_state; subst ev_msgs_paused;
  unfold State.powerRequest; dsimp only; (repeat' split) <;> simp (maxDischargeDepth := 12) [hl]

@[simp] theorem State.alertingHandOn_report {s : State} {v_power_startUp} (ev_power_startUp : s.power.startUp = v_power_startUp)
    {v_power_park} (ev_power_park : s.power.park = v_power_park) {v_status_status} (ev_status_status : s.status.status = v_status_status)
    {v_status_shiftNumber} (ev_status_shiftNumber : s.status.shiftNumber = v_status_shiftNumber) {v_status_meterOpened}
    (ev_status_meterOpened : s.status.meterOpened = v_status_meterOpened) {v_status_driverId}
    (ev_status_driverId : s.status.driverId = v_status_driverId) {v_status_zone} (ev_status_zone : s.status.zone = v_status_zone)
    {v_status_position} (ev_status_position : s.status.position = v_status_position) {v_emerg_state}
    (ev_emerg_state : s.emerg.state = v_emerg_state) {v_msgs_paused} (ev_msgs_paused : s.msgs.paused = v_msgs_paused) :
    ReportOk v_power_startUp v_power_park
          (State.alertingHandOn s).sched.statusPlace v_status_status v_status_shiftNumber v_status_meterOpened v_status_driverId v_status_zone v_status_position v_emerg_state v_msgs_paused := by
  subst ev_power_startUp; subst ev_power_park; subst ev_status_status; subst ev_status_shiftNumber; subst ev_status_meterOpened; subst ev_status_driverId; subst ev_status_zone; subst ev_status_position; subst ev_emerg_state; subst ev_msgs_paused;
  unfold State.alertingHandOn; (repeat' split) <;> simp (maxDischargeDepth := 12)

@[simp] theorem State.enterAlerting_report (x : Source) {s : State} {v_power_startUp}
    (ev_power_startUp : s.power.startUp = v_power_startUp) {v_power_park} (ev_power_park : s.power.park = v_power_park) {v_status_status}
    (ev_status_status : s.status.status = v_status_status) {v_status_shiftNumber}
    (ev_status_shiftNumber : s.status.shiftNumber = v_status_shiftNumber) {v_status_meterOpened}
    (ev_status_meterOpened : s.status.meterOpened = v_status_meterOpened) {v_status_driverId}
    (ev_status_driverId : s.status.driverId = v_status_driverId) {v_status_zone} (ev_status_zone : s.status.zone = v_status_zone)
    {v_status_position} (ev_status_position : s.status.position = v_status_position) {v_msgs_paused}
    (ev_msgs_paused : s.msgs.paused = v_msgs_paused) :
    ReportOk v_power_startUp v_power_park
          (State.enterAlerting x s).sched.statusPlace v_status_status v_status_shiftNumber v_status_meterOpened v_status_driverId v_status_zone v_status_position (State.enterAlerting x s).emerg.state v_msgs_paused := by
  subst ev_power_startUp; subst ev_power_park; subst ev_status_status; subst ev_status_shiftNumber; subst ev_status_meterOpened; subst ev_status_driverId; subst ev_status_zone; subst ev_status_position; subst ev_msgs_paused;
  unfold State.enterAlerting; (repeat' split) <;> simp (maxDischargeDepth := 12)

@[simp] theorem State.takeClosing_report {s : State} {v_power_startUp} (ev_power_startUp : s.power.startUp = v_power_startUp)
    {v_status_status} (ev_status_status : s.status.status = v_status_status) {v_status_shiftNumber}
    (ev_status_shiftNumber : s.status.shiftNumber = v_status_shiftNumber) {v_status_meterOpened}
    (ev_status_meterOpened : s.status.meterOpened = v_status_meterOpened) {v_status_driverId}
    (ev_status_driverId : s.status.driverId = v_status_driverId) {v_status_zone} (ev_status_zone : s.status.zone = v_status_zone)
    {v_status_position} (ev_status_position : s.status.position = v_status_position) {v_msgs_paused}
    (ev_msgs_paused : s.msgs.paused = v_msgs_paused)
    (hl : ReportOk s.power.startUp s.power.park s.sched.statusPlace s.status.status s.status.shiftNumber s.status.meterOpened s.status.driverId s.status.zone s.status.position s.emerg.state s.msgs.paused) :
    ReportOk v_power_startUp (State.takeClosing s).power.park
          (State.takeClosing s).sched.statusPlace v_status_status v_status_shiftNumber v_status_meterOpened v_status_driverId v_status_zone v_status_position (State.takeClosing s).emerg.state v_msgs_paused := by
  subst ev_power_startUp; subst ev_status_status; subst ev_status_shiftNumber; subst ev_status_meterOpened; subst ev_status_driverId; subst ev_status_zone; subst ev_status_position; subst ev_msgs_paused;
  unfold State.takeClosing; dsimp only
  have hw := State.wakeEvent_report .switch rfl rfl rfl rfl rfl rfl rfl rfl rfl hl
  split
  · rename_i h
    simp only [beq_iff_eq] at h
    intro e
    have := hw (by simpa using e)
    simp_all [EmergencyState.raised]
  · simpa using hw

@[simp] theorem State.takeOpening_report {s : State} {v_power_startUp} (ev_power_startUp : s.power.startUp = v_power_startUp)
    {v_power_park} (ev_power_park : s.power.park = v_power_park) {v_sched_statusPlace}
    (ev_sched_statusPlace : s.sched.statusPlace = v_sched_statusPlace) {v_status_status}
    (ev_status_status : s.status.status = v_status_status) {v_status_shiftNumber}
    (ev_status_shiftNumber : s.status.shiftNumber = v_status_shiftNumber) {v_status_meterOpened}
    (ev_status_meterOpened : s.status.meterOpened = v_status_meterOpened) {v_status_driverId}
    (ev_status_driverId : s.status.driverId = v_status_driverId) {v_status_zone} (ev_status_zone : s.status.zone = v_status_zone)
    {v_status_position} (ev_status_position : s.status.position = v_status_position) {v_msgs_paused}
    (ev_msgs_paused : s.msgs.paused = v_msgs_paused)
    (hl : ReportOk s.power.startUp s.power.park s.sched.statusPlace s.status.status s.status.shiftNumber s.status.meterOpened s.status.driverId s.status.zone s.status.position s.emerg.state s.msgs.paused) :
    ReportOk v_power_startUp v_power_park v_sched_statusPlace v_status_status v_status_shiftNumber v_status_meterOpened v_status_driverId v_status_zone v_status_position (State.takeOpening s).emerg.state v_msgs_paused := by
  subst ev_power_startUp; subst ev_power_park; subst ev_sched_statusPlace; subst ev_status_status; subst ev_status_shiftNumber; subst ev_status_meterOpened; subst ev_status_driverId; subst ev_status_zone; subst ev_status_position; subst ev_msgs_paused;
  unfold State.takeOpening; (repeat' split) <;> simp_all (maxDischargeDepth := 12) [ReportOk, EmergencyState.raised]

@[simp] theorem State.holdEnds_report {s : State} {v_power_startUp} (ev_power_startUp : s.power.startUp = v_power_startUp) {v_power_park}
    (ev_power_park : s.power.park = v_power_park) {v_status_status} (ev_status_status : s.status.status = v_status_status)
    {v_status_shiftNumber} (ev_status_shiftNumber : s.status.shiftNumber = v_status_shiftNumber) {v_status_meterOpened}
    (ev_status_meterOpened : s.status.meterOpened = v_status_meterOpened) {v_status_driverId}
    (ev_status_driverId : s.status.driverId = v_status_driverId) {v_status_zone} (ev_status_zone : s.status.zone = v_status_zone)
    {v_status_position} (ev_status_position : s.status.position = v_status_position) {v_msgs_paused}
    (ev_msgs_paused : s.msgs.paused = v_msgs_paused)
    (hl : ReportOk s.power.startUp s.power.park s.sched.statusPlace s.status.status s.status.shiftNumber s.status.meterOpened s.status.driverId s.status.zone s.status.position s.emerg.state s.msgs.paused) :
    ReportOk v_power_startUp v_power_park
          (State.holdEnds s).sched.statusPlace v_status_status v_status_shiftNumber v_status_meterOpened v_status_driverId v_status_zone v_status_position (State.holdEnds s).emerg.state v_msgs_paused := by
  subst ev_power_startUp; subst ev_power_park; subst ev_status_status; subst ev_status_shiftNumber; subst ev_status_meterOpened; subst ev_status_driverId; subst ev_status_zone; subst ev_status_position; subst ev_msgs_paused;
  unfold State.holdEnds; (repeat' split) <;> simp (maxDischargeDepth := 12) [hl]

@[simp] theorem State.emergencyRaiseWrite_report (l : Lanes) (d : Word) {s : State} {v_power_startUp}
    (ev_power_startUp : s.power.startUp = v_power_startUp) {v_power_park} (ev_power_park : s.power.park = v_power_park) {v_status_status}
    (ev_status_status : s.status.status = v_status_status) {v_status_shiftNumber}
    (ev_status_shiftNumber : s.status.shiftNumber = v_status_shiftNumber) {v_status_meterOpened}
    (ev_status_meterOpened : s.status.meterOpened = v_status_meterOpened) {v_status_driverId}
    (ev_status_driverId : s.status.driverId = v_status_driverId) {v_status_zone} (ev_status_zone : s.status.zone = v_status_zone)
    {v_status_position} (ev_status_position : s.status.position = v_status_position) {v_msgs_paused}
    (ev_msgs_paused : s.msgs.paused = v_msgs_paused)
    (hl : ReportOk s.power.startUp s.power.park s.sched.statusPlace s.status.status s.status.shiftNumber s.status.meterOpened s.status.driverId s.status.zone s.status.position s.emerg.state s.msgs.paused) :
    ReportOk v_power_startUp v_power_park
          (State.emergencyRaiseWrite l d s).sched.statusPlace v_status_status v_status_shiftNumber v_status_meterOpened v_status_driverId v_status_zone v_status_position (State.emergencyRaiseWrite l d s).emerg.state v_msgs_paused := by
  subst ev_power_startUp; subst ev_power_park; subst ev_status_status; subst ev_status_shiftNumber; subst ev_status_meterOpened; subst ev_status_driverId; subst ev_status_zone; subst ev_status_position; subst ev_msgs_paused;
  unfold State.emergencyRaiseWrite; dsimp only; (repeat' split) <;> simp (maxDischargeDepth := 12) [hl]

@[simp] theorem State.takeAlertAck_report (n : Word) {s : State} {v_power_startUp} (ev_power_startUp : s.power.startUp = v_power_startUp)
    {v_power_park} (ev_power_park : s.power.park = v_power_park) {v_sched_statusPlace}
    (ev_sched_statusPlace : s.sched.statusPlace = v_sched_statusPlace) {v_status_status}
    (ev_status_status : s.status.status = v_status_status) {v_status_shiftNumber}
    (ev_status_shiftNumber : s.status.shiftNumber = v_status_shiftNumber) {v_status_meterOpened}
    (ev_status_meterOpened : s.status.meterOpened = v_status_meterOpened) {v_status_driverId}
    (ev_status_driverId : s.status.driverId = v_status_driverId) {v_status_zone} (ev_status_zone : s.status.zone = v_status_zone)
    {v_status_position} (ev_status_position : s.status.position = v_status_position) {v_msgs_paused}
    (ev_msgs_paused : s.msgs.paused = v_msgs_paused)
    (hl : ReportOk s.power.startUp s.power.park s.sched.statusPlace s.status.status s.status.shiftNumber s.status.meterOpened s.status.driverId s.status.zone s.status.position s.emerg.state s.msgs.paused) :
    ReportOk v_power_startUp v_power_park v_sched_statusPlace v_status_status v_status_shiftNumber v_status_meterOpened v_status_driverId v_status_zone v_status_position (State.takeAlertAck n s).emerg.state v_msgs_paused := by
  subst ev_power_startUp; subst ev_power_park; subst ev_sched_statusPlace; subst ev_status_status; subst ev_status_shiftNumber; subst ev_status_meterOpened; subst ev_status_driverId; subst ev_status_zone; subst ev_status_position; subst ev_msgs_paused;
  unfold State.takeAlertAck; (repeat' split) <;> simp_all (maxDischargeDepth := 12) [ReportOk, EmergencyState.raised]

@[simp] theorem State.takeAlertCancel_report (n : Word) {s : State} {v_power_startUp}
    (ev_power_startUp : s.power.startUp = v_power_startUp) {v_power_park} (ev_power_park : s.power.park = v_power_park) {v_status_status}
    (ev_status_status : s.status.status = v_status_status) {v_status_shiftNumber}
    (ev_status_shiftNumber : s.status.shiftNumber = v_status_shiftNumber) {v_status_meterOpened}
    (ev_status_meterOpened : s.status.meterOpened = v_status_meterOpened) {v_status_driverId}
    (ev_status_driverId : s.status.driverId = v_status_driverId) {v_status_zone} (ev_status_zone : s.status.zone = v_status_zone)
    {v_status_position} (ev_status_position : s.status.position = v_status_position) {v_msgs_paused}
    (ev_msgs_paused : s.msgs.paused = v_msgs_paused)
    (hl : ReportOk s.power.startUp s.power.park s.sched.statusPlace s.status.status s.status.shiftNumber s.status.meterOpened s.status.driverId s.status.zone s.status.position s.emerg.state s.msgs.paused) :
    ReportOk v_power_startUp v_power_park
          (State.takeAlertCancel n s).sched.statusPlace v_status_status v_status_shiftNumber v_status_meterOpened v_status_driverId v_status_zone v_status_position (State.takeAlertCancel n s).emerg.state v_msgs_paused := by
  subst ev_power_startUp; subst ev_power_park; subst ev_status_status; subst ev_status_shiftNumber; subst ev_status_meterOpened; subst ev_status_driverId; subst ev_status_zone; subst ev_status_position; subst ev_msgs_paused;
  unfold State.takeAlertCancel; (repeat' split) <;> simp (maxDischargeDepth := 12) [hl]

@[simp] theorem State.recover_report (j : RecordJudgment) {s : State} {v_power_startUp}
    (ev_power_startUp : s.power.startUp = v_power_startUp) {v_power_park} (ev_power_park : s.power.park = v_power_park) {v_status_status}
    (ev_status_status : s.status.status = v_status_status) {v_status_shiftNumber}
    (ev_status_shiftNumber : s.status.shiftNumber = v_status_shiftNumber) {v_status_meterOpened}
    (ev_status_meterOpened : s.status.meterOpened = v_status_meterOpened) {v_status_driverId}
    (ev_status_driverId : s.status.driverId = v_status_driverId) {v_status_zone} (ev_status_zone : s.status.zone = v_status_zone)
    {v_status_position} (ev_status_position : s.status.position = v_status_position) {v_msgs_paused}
    (ev_msgs_paused : s.msgs.paused = v_msgs_paused)
    (hl : ReportOk s.power.startUp s.power.park s.sched.statusPlace s.status.status s.status.shiftNumber s.status.meterOpened s.status.driverId s.status.zone s.status.position s.emerg.state s.msgs.paused) :
    ReportOk v_power_startUp v_power_park
          (State.recover j s).sched.statusPlace v_status_status v_status_shiftNumber v_status_meterOpened v_status_driverId v_status_zone v_status_position (State.recover j s).emerg.state v_msgs_paused := by
  subst ev_power_startUp; subst ev_power_park; subst ev_status_status; subst ev_status_shiftNumber; subst ev_status_meterOpened; subst ev_status_driverId; subst ev_status_zone; subst ev_status_position; subst ev_msgs_paused;
  unfold State.recover; (repeat' split) <;> simp (maxDischargeDepth := 12) [hl]

@[simp] theorem State.attachDriver_report (d : Word) {s : State} {v_power_startUp} (ev_power_startUp : s.power.startUp = v_power_startUp)
    {v_power_park} (ev_power_park : s.power.park = v_power_park) {v_status_status} (ev_status_status : s.status.status = v_status_status)
    {v_status_shiftNumber} (ev_status_shiftNumber : s.status.shiftNumber = v_status_shiftNumber) {v_status_meterOpened}
    (ev_status_meterOpened : s.status.meterOpened = v_status_meterOpened) {v_status_zone} (ev_status_zone : s.status.zone = v_status_zone)
    {v_status_position} (ev_status_position : s.status.position = v_status_position) {v_emerg_state}
    (ev_emerg_state : s.emerg.state = v_emerg_state) {v_msgs_paused} (ev_msgs_paused : s.msgs.paused = v_msgs_paused) :
    ReportOk v_power_startUp v_power_park
          (State.attachDriver d s).sched.statusPlace v_status_status v_status_shiftNumber v_status_meterOpened
          (State.attachDriver d s).status.driverId v_status_zone v_status_position v_emerg_state v_msgs_paused := by
  subst ev_power_startUp; subst ev_power_park; subst ev_status_status; subst ev_status_shiftNumber; subst ev_status_meterOpened; subst ev_status_zone; subst ev_status_position; subst ev_emerg_state; subst ev_msgs_paused;
  unfold State.attachDriver; (repeat' split) <;> simp (maxDischargeDepth := 12)

@[simp] theorem State.driverWrite_report (l : Lanes) (d : Word) {s : State} {v_power_startUp}
    (ev_power_startUp : s.power.startUp = v_power_startUp) {v_power_park} (ev_power_park : s.power.park = v_power_park) {v_status_zone}
    (ev_status_zone : s.status.zone = v_status_zone) {v_status_position} (ev_status_position : s.status.position = v_status_position)
    {v_emerg_state} (ev_emerg_state : s.emerg.state = v_emerg_state) {v_msgs_paused} (ev_msgs_paused : s.msgs.paused = v_msgs_paused)
    (hl : ReportOk s.power.startUp s.power.park s.sched.statusPlace s.status.status s.status.shiftNumber s.status.meterOpened s.status.driverId s.status.zone s.status.position s.emerg.state s.msgs.paused) :
    ReportOk v_power_startUp v_power_park (State.driverWrite l d s).sched.statusPlace (State.driverWrite l d s).status.status
          (State.driverWrite l d s).status.shiftNumber (State.driverWrite l d s).status.meterOpened
          (State.driverWrite l d s).status.driverId v_status_zone v_status_position v_emerg_state v_msgs_paused := by
  subst ev_power_startUp; subst ev_power_park; subst ev_status_zone; subst ev_status_position; subst ev_emerg_state; subst ev_msgs_paused;
  unfold State.driverWrite; dsimp only; (repeat' split) <;> simp (maxDischargeDepth := 12) [hl]

@[simp] theorem State.statusRequest_report (l : Lanes) (d : Word) {s : State} {v_power_startUp}
    (ev_power_startUp : s.power.startUp = v_power_startUp) {v_power_park} (ev_power_park : s.power.park = v_power_park)
    {v_status_shiftNumber} (ev_status_shiftNumber : s.status.shiftNumber = v_status_shiftNumber) {v_status_meterOpened}
    (ev_status_meterOpened : s.status.meterOpened = v_status_meterOpened) {v_status_driverId}
    (ev_status_driverId : s.status.driverId = v_status_driverId) {v_status_zone} (ev_status_zone : s.status.zone = v_status_zone)
    {v_status_position} (ev_status_position : s.status.position = v_status_position) {v_emerg_state}
    (ev_emerg_state : s.emerg.state = v_emerg_state) {v_msgs_paused} (ev_msgs_paused : s.msgs.paused = v_msgs_paused)
    (hl : ReportOk s.power.startUp s.power.park s.sched.statusPlace s.status.status s.status.shiftNumber s.status.meterOpened s.status.driverId s.status.zone s.status.position s.emerg.state s.msgs.paused) :
    ReportOk v_power_startUp v_power_park (State.statusRequest l d s).sched.statusPlace
          (State.statusRequest l d s).status.status v_status_shiftNumber v_status_meterOpened v_status_driverId v_status_zone v_status_position v_emerg_state v_msgs_paused := by
  subst ev_power_startUp; subst ev_power_park; subst ev_status_shiftNumber; subst ev_status_meterOpened; subst ev_status_driverId; subst ev_status_zone; subst ev_status_position; subst ev_emerg_state; subst ev_msgs_paused;
  unfold State.statusRequest; dsimp only; (repeat' split) <;> simp (maxDischargeDepth := 12) [hl]

@[simp] theorem State.closeShift_report {s : State} {v_power_startUp} (ev_power_startUp : s.power.startUp = v_power_startUp) {v_power_park}
    (ev_power_park : s.power.park = v_power_park) {v_status_shiftNumber}
    (ev_status_shiftNumber : s.status.shiftNumber = v_status_shiftNumber) {v_status_zone} (ev_status_zone : s.status.zone = v_status_zone)
    {v_status_position} (ev_status_position : s.status.position = v_status_position) {v_emerg_state}
    (ev_emerg_state : s.emerg.state = v_emerg_state) {v_msgs_paused} (ev_msgs_paused : s.msgs.paused = v_msgs_paused) :
    ReportOk v_power_startUp v_power_park (State.closeShift s).sched.statusPlace (State.closeShift s).status.status v_status_shiftNumber
          (State.closeShift s).status.meterOpened
          (State.closeShift s).status.driverId v_status_zone v_status_position v_emerg_state v_msgs_paused := by
  subst ev_power_startUp; subst ev_power_park; subst ev_status_shiftNumber; subst ev_status_zone; subst ev_status_position; subst ev_emerg_state; subst ev_msgs_paused;
  unfold State.closeShift; (repeat' split) <;> simp (maxDischargeDepth := 12)

@[simp] theorem State.shiftControl_report (l : Lanes) (d : Word) {s : State} {v_power_startUp}
    (ev_power_startUp : s.power.startUp = v_power_startUp) {v_power_park} (ev_power_park : s.power.park = v_power_park)
    {v_status_shiftNumber} (ev_status_shiftNumber : s.status.shiftNumber = v_status_shiftNumber) {v_status_zone}
    (ev_status_zone : s.status.zone = v_status_zone) {v_status_position} (ev_status_position : s.status.position = v_status_position)
    {v_emerg_state} (ev_emerg_state : s.emerg.state = v_emerg_state) {v_msgs_paused} (ev_msgs_paused : s.msgs.paused = v_msgs_paused)
    (hl : ReportOk s.power.startUp s.power.park s.sched.statusPlace s.status.status s.status.shiftNumber s.status.meterOpened s.status.driverId s.status.zone s.status.position s.emerg.state s.msgs.paused) :
    ReportOk v_power_startUp v_power_park (State.shiftControl l d s).sched.statusPlace
          (State.shiftControl l d s).status.status v_status_shiftNumber (State.shiftControl l d s).status.meterOpened
          (State.shiftControl l d s).status.driverId v_status_zone v_status_position v_emerg_state v_msgs_paused := by
  subst ev_power_startUp; subst ev_power_park; subst ev_status_shiftNumber; subst ev_status_zone; subst ev_status_position; subst ev_emerg_state; subst ev_msgs_paused;
  unfold State.shiftControl; dsimp only; (repeat' split) <;> simp (maxDischargeDepth := 12) [hl]

@[simp] theorem State.zoneByte_report (d : Word) {s : State} {v_power_startUp} (ev_power_startUp : s.power.startUp = v_power_startUp)
    {v_power_park} (ev_power_park : s.power.park = v_power_park) {v_status_status} (ev_status_status : s.status.status = v_status_status)
    {v_status_shiftNumber} (ev_status_shiftNumber : s.status.shiftNumber = v_status_shiftNumber) {v_status_meterOpened}
    (ev_status_meterOpened : s.status.meterOpened = v_status_meterOpened) {v_status_driverId}
    (ev_status_driverId : s.status.driverId = v_status_driverId) {v_status_position}
    (ev_status_position : s.status.position = v_status_position) {v_emerg_state} (ev_emerg_state : s.emerg.state = v_emerg_state)
    {v_msgs_paused} (ev_msgs_paused : s.msgs.paused = v_msgs_paused) :
    ReportOk v_power_startUp v_power_park
          (State.zoneByte d s).sched.statusPlace v_status_status v_status_shiftNumber v_status_meterOpened v_status_driverId
          (State.zoneByte d s).status.zone v_status_position v_emerg_state v_msgs_paused := by
  subst ev_power_startUp; subst ev_power_park; subst ev_status_status; subst ev_status_shiftNumber; subst ev_status_meterOpened; subst ev_status_driverId; subst ev_status_position; subst ev_emerg_state; subst ev_msgs_paused;
  unfold State.zoneByte; (repeat' split) <;> simp (maxDischargeDepth := 12)

@[simp] theorem State.coordinateHigher_report (c : Coordinate) (l : Lanes) (d : Word) {s : State} {v_power_startUp}
    (ev_power_startUp : s.power.startUp = v_power_startUp) {v_power_park} (ev_power_park : s.power.park = v_power_park) {v_status_status}
    (ev_status_status : s.status.status = v_status_status) {v_status_shiftNumber}
    (ev_status_shiftNumber : s.status.shiftNumber = v_status_shiftNumber) {v_status_meterOpened}
    (ev_status_meterOpened : s.status.meterOpened = v_status_meterOpened) {v_status_driverId}
    (ev_status_driverId : s.status.driverId = v_status_driverId) {v_status_zone} (ev_status_zone : s.status.zone = v_status_zone)
    {v_emerg_state} (ev_emerg_state : s.emerg.state = v_emerg_state) {v_msgs_paused} (ev_msgs_paused : s.msgs.paused = v_msgs_paused)
    (hl : ReportOk s.power.startUp s.power.park s.sched.statusPlace s.status.status s.status.shiftNumber s.status.meterOpened s.status.driverId s.status.zone s.status.position s.emerg.state s.msgs.paused) :
    ReportOk v_power_startUp v_power_park
          (State.coordinateHigher c l d s).sched.statusPlace v_status_status v_status_shiftNumber v_status_meterOpened v_status_driverId v_status_zone (State.coordinateHigher c l d s).status.position v_emerg_state v_msgs_paused := by
  subst ev_power_startUp; subst ev_power_park; subst ev_status_status; subst ev_status_shiftNumber; subst ev_status_meterOpened; subst ev_status_driverId; subst ev_status_zone; subst ev_emerg_state; subst ev_msgs_paused;
  unfold State.coordinateHigher; (repeat' split) <;> simp (maxDischargeDepth := 12) [hl]

@[simp] theorem State.takeWatched_report (f : Field) (l : Lanes) (d : Word) {s : State}
    (hl : ReportOk s.power.startUp s.power.park s.sched.statusPlace s.status.status s.status.shiftNumber s.status.meterOpened s.status.driverId s.status.zone s.status.position s.emerg.state s.msgs.paused) :
    ReportOk (State.takeWatched f l d s).power.startUp (State.takeWatched f l d s).power.park (State.takeWatched f l d s).sched.statusPlace
          (State.takeWatched f l d s).status.status (State.takeWatched f l d s).status.shiftNumber
          (State.takeWatched f l d s).status.meterOpened (State.takeWatched f l d s).status.driverId
          (State.takeWatched f l d s).status.zone (State.takeWatched f l d s).status.position (State.takeWatched f l d s).emerg.state
          (State.takeWatched f l d s).msgs.paused := by
  unfold State.takeWatched; (repeat' split) <;> simp (maxDischargeDepth := 12) [hl]

@[simp] theorem State.acceptWrite_report (a : BitVec 19) (l : Lanes) (d : Word) (p : MemoryPath) {s : State}
    (hl : ReportOk s.power.startUp s.power.park s.sched.statusPlace s.status.status s.status.shiftNumber s.status.meterOpened s.status.driverId s.status.zone s.status.position s.emerg.state s.msgs.paused) :
    ReportOk (State.acceptWrite a l d p s).power.startUp (State.acceptWrite a l d p s).power.park
          (State.acceptWrite a l d p s).sched.statusPlace (State.acceptWrite a l d p s).status.status
          (State.acceptWrite a l d p s).status.shiftNumber (State.acceptWrite a l d p s).status.meterOpened
          (State.acceptWrite a l d p s).status.driverId (State.acceptWrite a l d p s).status.zone
          (State.acceptWrite a l d p s).status.position (State.acceptWrite a l d p s).emerg.state
          (State.acceptWrite a l d p s).msgs.paused := by
  unfold State.acceptWrite; dsimp only; (repeat' split) <;> simp (maxDischargeDepth := 12) [hl]

@[simp] theorem State.answerRead_report (a : BitVec 19) (l : Lanes) {s : State} {v_sched_statusPlace}
    (ev_sched_statusPlace : s.sched.statusPlace = v_sched_statusPlace) {v_status_status}
    (ev_status_status : s.status.status = v_status_status) {v_status_shiftNumber}
    (ev_status_shiftNumber : s.status.shiftNumber = v_status_shiftNumber) {v_status_meterOpened}
    (ev_status_meterOpened : s.status.meterOpened = v_status_meterOpened) {v_status_driverId}
    (ev_status_driverId : s.status.driverId = v_status_driverId) {v_status_zone} (ev_status_zone : s.status.zone = v_status_zone)
    {v_status_position} (ev_status_position : s.status.position = v_status_position) {v_emerg_state}
    (ev_emerg_state : s.emerg.state = v_emerg_state) {v_msgs_paused} (ev_msgs_paused : s.msgs.paused = v_msgs_paused)
    (hl : ReportOk s.power.startUp s.power.park s.sched.statusPlace s.status.status s.status.shiftNumber s.status.meterOpened s.status.driverId s.status.zone s.status.position s.emerg.state s.msgs.paused) :
    ReportOk (State.answerRead a l s).power.startUp
          (State.answerRead a l s).power.park v_sched_statusPlace v_status_status v_status_shiftNumber v_status_meterOpened v_status_driverId v_status_zone v_status_position v_emerg_state v_msgs_paused := by
  subst ev_sched_statusPlace; subst ev_status_status; subst ev_status_shiftNumber; subst ev_status_meterOpened; subst ev_status_driverId; subst ev_status_zone; subst ev_status_position; subst ev_emerg_state; subst ev_msgs_paused;
  unfold State.answerRead; dsimp only; (repeat' split) <;> simp (maxDischargeDepth := 12) [hl]

theorem State.processorWrite?_report {a : BitVec 19} {l : Lanes} {d : Word} {s t : State}
    (h : s.processorWrite? a l d = some t)
          (hl : ReportOk s.power.startUp s.power.park s.sched.statusPlace s.status.status s.status.shiftNumber s.status.meterOpened s.status.driverId s.status.zone s.status.position s.emerg.state s.msgs.paused) : ReportOk t.power.startUp t.power.park t.sched.statusPlace t.status.status t.status.shiftNumber t.status.meterOpened t.status.driverId t.status.zone t.status.position t.emerg.state t.msgs.paused := by
  unfold State.processorWrite? at h; dsimp only at h; split at h
  · simp only [Option.map_eq_some_iff] at h
    obtain ⟨p, -, rfl⟩ := h
    simp (maxDischargeDepth := 12) [hl]
  · cases h; simp (maxDischargeDepth := 12) [hl]

theorem State.attempt_report {h : HeldCycle} {s t : State} (e : s.attempt h = .done t)
    (hl : ReportOk s.power.startUp s.power.park s.sched.statusPlace s.status.status s.status.shiftNumber s.status.meterOpened s.status.driverId s.status.zone s.status.position s.emerg.state s.msgs.paused) : ReportOk t.power.startUp t.power.park t.sched.statusPlace t.status.status t.status.shiftNumber t.status.meterOpened t.status.driverId t.status.zone t.status.position t.emerg.state t.msgs.paused := by
  unfold State.attempt at e
  split at e
  · split at e
    · rename_i w; cases e; exact State.processorWrite?_report w hl
    · cases e
  · split at e
    · cases e
    · split at e
      · cases e
      · cases e; simp (maxDischargeDepth := 12) [hl]

@[simp] theorem State.processorCycle_report (c : BusCycle) {s : State}
    (hl : ReportOk s.power.startUp s.power.park s.sched.statusPlace s.status.status s.status.shiftNumber s.status.meterOpened s.status.driverId s.status.zone s.status.position s.emerg.state s.msgs.paused) :
    ReportOk (State.processorCycle c s).power.startUp (State.processorCycle c s).power.park (State.processorCycle c s).sched.statusPlace
          (State.processorCycle c s).status.status (State.processorCycle c s).status.shiftNumber
          (State.processorCycle c s).status.meterOpened (State.processorCycle c s).status.driverId (State.processorCycle c s).status.zone
          (State.processorCycle c s).status.position (State.processorCycle c s).emerg.state (State.processorCycle c s).msgs.paused := by
  unfold State.processorCycle; split
  · simp (maxDischargeDepth := 12) [hl]
  · split
    · rename_i e; exact State.attempt_report e hl
    · simp (maxDischargeDepth := 12) [hl]

@[simp] theorem State.serviceList_report (hs : List HeldCycle) {s : State}
    (hl : ReportOk s.power.startUp s.power.park s.sched.statusPlace s.status.status s.status.shiftNumber s.status.meterOpened s.status.driverId s.status.zone s.status.position s.emerg.state s.msgs.paused) :
    ReportOk (State.serviceList hs s).power.startUp (State.serviceList hs s).power.park (State.serviceList hs s).sched.statusPlace
          (State.serviceList hs s).status.status (State.serviceList hs s).status.shiftNumber (State.serviceList hs s).status.meterOpened
          (State.serviceList hs s).status.driverId (State.serviceList hs s).status.zone (State.serviceList hs s).status.position
          (State.serviceList hs s).emerg.state (State.serviceList hs s).msgs.paused := by
  induction hs generalizing s with
  | nil => unfold State.serviceList; simp (maxDischargeDepth := 12) [hl]
  | cons h rest ih =>
    unfold State.serviceList; split
    · simp (maxDischargeDepth := 12) [hl]
    · split
      · rename_i t e; exact ih (State.attempt_report e hl)
      · simp (maxDischargeDepth := 12) [hl]

@[simp] theorem State.service_report {s : State}
    (hl : ReportOk s.power.startUp s.power.park s.sched.statusPlace s.status.status s.status.shiftNumber s.status.meterOpened s.status.driverId s.status.zone s.status.position s.emerg.state s.msgs.paused) :
    ReportOk (State.service s).power.startUp (State.service s).power.park (State.service s).sched.statusPlace
          (State.service s).status.status (State.service s).status.shiftNumber (State.service s).status.meterOpened
          (State.service s).status.driverId (State.service s).status.zone (State.service s).status.position (State.service s).emerg.state
          (State.service s).msgs.paused := by
  unfold State.service; (repeat' split) <;> simp (maxDischargeDepth := 12) [hl]

@[simp] theorem State.completeDrain_report {s : State}
    (hl : ReportOk s.power.startUp s.power.park s.sched.statusPlace s.status.status s.status.shiftNumber s.status.meterOpened s.status.driverId s.status.zone s.status.position s.emerg.state s.msgs.paused) :
    ReportOk (State.completeDrain s).power.startUp (State.completeDrain s).power.park (State.completeDrain s).sched.statusPlace
          (State.completeDrain s).status.status (State.completeDrain s).status.shiftNumber (State.completeDrain s).status.meterOpened
          (State.completeDrain s).status.driverId (State.completeDrain s).status.zone (State.completeDrain s).status.position
          (State.completeDrain s).emerg.state (State.completeDrain s).msgs.paused := by
  unfold State.completeDrain; (repeat' split) <;> simp (maxDischargeDepth := 12) [hl]

@[simp] theorem State.handOver_report (k : OpKind) {s : State} {v_power_startUp} (ev_power_startUp : s.power.startUp = v_power_startUp)
    {v_power_park} (ev_power_park : s.power.park = v_power_park) {v_sched_statusPlace}
    (ev_sched_statusPlace : s.sched.statusPlace = v_sched_statusPlace) {v_status_status}
    (ev_status_status : s.status.status = v_status_status) {v_status_shiftNumber}
    (ev_status_shiftNumber : s.status.shiftNumber = v_status_shiftNumber) {v_status_meterOpened}
    (ev_status_meterOpened : s.status.meterOpened = v_status_meterOpened) {v_status_driverId}
    (ev_status_driverId : s.status.driverId = v_status_driverId) {v_status_zone} (ev_status_zone : s.status.zone = v_status_zone)
    {v_status_position} (ev_status_position : s.status.position = v_status_position) {v_msgs_paused}
    (ev_msgs_paused : s.msgs.paused = v_msgs_paused)
    (hl : ReportOk s.power.startUp s.power.park s.sched.statusPlace s.status.status s.status.shiftNumber s.status.meterOpened s.status.driverId s.status.zone s.status.position s.emerg.state s.msgs.paused) :
    ReportOk v_power_startUp v_power_park v_sched_statusPlace v_status_status v_status_shiftNumber v_status_meterOpened v_status_driverId v_status_zone v_status_position (State.handOver k s).emerg.state v_msgs_paused := by
  subst ev_power_startUp; subst ev_power_park; subst ev_sched_statusPlace; subst ev_status_status; subst ev_status_shiftNumber; subst ev_status_meterOpened; subst ev_status_driverId; subst ev_status_zone; subst ev_status_position; subst ev_msgs_paused;
  unfold State.handOver; (repeat' split) <;> simp (maxDischargeDepth := 12) [hl]

@[simp] theorem State.startOperation_report {s : State} {v_power_startUp} (ev_power_startUp : s.power.startUp = v_power_startUp)
    {v_power_park} (ev_power_park : s.power.park = v_power_park) {v_sched_statusPlace}
    (ev_sched_statusPlace : s.sched.statusPlace = v_sched_statusPlace) {v_status_status}
    (ev_status_status : s.status.status = v_status_status) {v_status_shiftNumber}
    (ev_status_shiftNumber : s.status.shiftNumber = v_status_shiftNumber) {v_status_meterOpened}
    (ev_status_meterOpened : s.status.meterOpened = v_status_meterOpened) {v_status_driverId}
    (ev_status_driverId : s.status.driverId = v_status_driverId) {v_status_zone} (ev_status_zone : s.status.zone = v_status_zone)
    {v_status_position} (ev_status_position : s.status.position = v_status_position) {v_msgs_paused}
    (ev_msgs_paused : s.msgs.paused = v_msgs_paused)
    (hl : ReportOk s.power.startUp s.power.park s.sched.statusPlace s.status.status s.status.shiftNumber s.status.meterOpened s.status.driverId s.status.zone s.status.position s.emerg.state s.msgs.paused) :
    ReportOk v_power_startUp v_power_park v_sched_statusPlace v_status_status v_status_shiftNumber v_status_meterOpened v_status_driverId v_status_zone v_status_position (State.startOperation s).emerg.state v_msgs_paused := by
  subst ev_power_startUp; subst ev_power_park; subst ev_sched_statusPlace; subst ev_status_status; subst ev_status_shiftNumber; subst ev_status_meterOpened; subst ev_status_driverId; subst ev_status_zone; subst ev_status_position; subst ev_msgs_paused;
  unfold State.startOperation; (repeat' split) <;> simp (maxDischargeDepth := 12) [hl]

@[simp] theorem State.internalCycle_report {s : State}
    (hl : ReportOk s.power.startUp s.power.park s.sched.statusPlace s.status.status s.status.shiftNumber s.status.meterOpened s.status.driverId s.status.zone s.status.position s.emerg.state s.msgs.paused) :
    ReportOk (State.internalCycle s).power.startUp (State.internalCycle s).power.park (State.internalCycle s).sched.statusPlace
          (State.internalCycle s).status.status (State.internalCycle s).status.shiftNumber (State.internalCycle s).status.meterOpened
          (State.internalCycle s).status.driverId (State.internalCycle s).status.zone (State.internalCycle s).status.position
          (State.internalCycle s).emerg.state (State.internalCycle s).msgs.paused := by
  unfold State.internalCycle; split
  · split
    · split
      · rename_i c rest _; cases c <;> simp (maxDischargeDepth := 12) [State.runCycle, hl]
      · exact hl
    · exact hl
  · exact hl

@[simp] theorem State.deliver_report (f : Sending) {s : State} {v_power_startUp} (ev_power_startUp : s.power.startUp = v_power_startUp)
    {v_status_status} (ev_status_status : s.status.status = v_status_status) {v_status_shiftNumber}
    (ev_status_shiftNumber : s.status.shiftNumber = v_status_shiftNumber) {v_status_meterOpened}
    (ev_status_meterOpened : s.status.meterOpened = v_status_meterOpened) {v_status_driverId}
    (ev_status_driverId : s.status.driverId = v_status_driverId) {v_status_zone} (ev_status_zone : s.status.zone = v_status_zone)
    {v_status_position} (ev_status_position : s.status.position = v_status_position) {v_emerg_state}
    (ev_emerg_state : s.emerg.state = v_emerg_state) {v_msgs_paused} (ev_msgs_paused : s.msgs.paused = v_msgs_paused)
    (hl : ReportOk s.power.startUp s.power.park s.sched.statusPlace s.status.status s.status.shiftNumber s.status.meterOpened s.status.driverId s.status.zone s.status.position s.emerg.state s.msgs.paused) :
    ReportOk v_power_startUp (State.deliver f s).power.park
          (State.deliver f s).sched.statusPlace v_status_status v_status_shiftNumber v_status_meterOpened v_status_driverId v_status_zone v_status_position v_emerg_state v_msgs_paused := by
  subst ev_power_startUp; subst ev_status_status; subst ev_status_shiftNumber; subst ev_status_meterOpened; subst ev_status_driverId; subst ev_status_zone; subst ev_status_position; subst ev_emerg_state; subst ev_msgs_paused;
  unfold State.deliver; (repeat' split) <;> simp (maxDischargeDepth := 12) [hl]

@[simp] theorem State.shortSent_report {s : State} {v_power_startUp} (ev_power_startUp : s.power.startUp = v_power_startUp)
    {v_status_status} (ev_status_status : s.status.status = v_status_status) {v_status_shiftNumber}
    (ev_status_shiftNumber : s.status.shiftNumber = v_status_shiftNumber) {v_status_meterOpened}
    (ev_status_meterOpened : s.status.meterOpened = v_status_meterOpened) {v_status_driverId}
    (ev_status_driverId : s.status.driverId = v_status_driverId) {v_status_zone} (ev_status_zone : s.status.zone = v_status_zone)
    {v_status_position} (ev_status_position : s.status.position = v_status_position) {v_emerg_state}
    (ev_emerg_state : s.emerg.state = v_emerg_state) {v_msgs_paused} (ev_msgs_paused : s.msgs.paused = v_msgs_paused)
    (hl : ReportOk s.power.startUp s.power.park s.sched.statusPlace s.status.status s.status.shiftNumber s.status.meterOpened s.status.driverId s.status.zone s.status.position s.emerg.state s.msgs.paused) :
    ReportOk v_power_startUp (State.shortSent s).power.park
          (State.shortSent s).sched.statusPlace v_status_status v_status_shiftNumber v_status_meterOpened v_status_driverId v_status_zone v_status_position v_emerg_state v_msgs_paused := by
  subst ev_power_startUp; subst ev_status_status; subst ev_status_shiftNumber; subst ev_status_meterOpened; subst ev_status_driverId; subst ev_status_zone; subst ev_status_position; subst ev_emerg_state; subst ev_msgs_paused;
  unfold State.shortSent; (repeat' split) <;> simp (maxDischargeDepth := 12) [hl]

@[simp] theorem State.configFault_report (r : FaultReason) (i : Byte) {s : State} {v_power_park}
    (ev_power_park : s.power.park = v_power_park) {v_sched_statusPlace} (ev_sched_statusPlace : s.sched.statusPlace = v_sched_statusPlace)
    {v_status_status} (ev_status_status : s.status.status = v_status_status) {v_status_shiftNumber}
    (ev_status_shiftNumber : s.status.shiftNumber = v_status_shiftNumber) {v_status_meterOpened}
    (ev_status_meterOpened : s.status.meterOpened = v_status_meterOpened) {v_status_driverId}
    (ev_status_driverId : s.status.driverId = v_status_driverId) {v_status_zone} (ev_status_zone : s.status.zone = v_status_zone)
    {v_status_position} (ev_status_position : s.status.position = v_status_position) {v_emerg_state}
    (ev_emerg_state : s.emerg.state = v_emerg_state) {v_msgs_paused} (ev_msgs_paused : s.msgs.paused = v_msgs_paused)
    (hl : ReportOk s.power.startUp s.power.park s.sched.statusPlace s.status.status s.status.shiftNumber s.status.meterOpened s.status.driverId s.status.zone s.status.position s.emerg.state s.msgs.paused) :
    ReportOk (State.configFault r i s).power.startUp v_power_park v_sched_statusPlace v_status_status v_status_shiftNumber v_status_meterOpened v_status_driverId v_status_zone v_status_position v_emerg_state v_msgs_paused := by
  subst ev_power_park; subst ev_sched_statusPlace; subst ev_status_status; subst ev_status_shiftNumber; subst ev_status_meterOpened; subst ev_status_driverId; subst ev_status_zone; subst ev_status_position; subst ev_emerg_state; subst ev_msgs_paused;
  intro h; cases h

@[simp] theorem State.attemptFails_report {s : State} {v_power_park} (ev_power_park : s.power.park = v_power_park) {v_sched_statusPlace}
    (ev_sched_statusPlace : s.sched.statusPlace = v_sched_statusPlace) {v_status_status}
    (ev_status_status : s.status.status = v_status_status) {v_status_shiftNumber}
    (ev_status_shiftNumber : s.status.shiftNumber = v_status_shiftNumber) {v_status_meterOpened}
    (ev_status_meterOpened : s.status.meterOpened = v_status_meterOpened) {v_status_driverId}
    (ev_status_driverId : s.status.driverId = v_status_driverId) {v_status_zone} (ev_status_zone : s.status.zone = v_status_zone)
    {v_status_position} (ev_status_position : s.status.position = v_status_position) {v_emerg_state}
    (ev_emerg_state : s.emerg.state = v_emerg_state) {v_msgs_paused} (ev_msgs_paused : s.msgs.paused = v_msgs_paused)
    (hl : ReportOk s.power.startUp s.power.park s.sched.statusPlace s.status.status s.status.shiftNumber s.status.meterOpened s.status.driverId s.status.zone s.status.position s.emerg.state s.msgs.paused) :
    ReportOk (State.attemptFails s).power.startUp v_power_park v_sched_statusPlace v_status_status v_status_shiftNumber v_status_meterOpened v_status_driverId v_status_zone v_status_position v_emerg_state v_msgs_paused := by
  subst ev_power_park; subst ev_sched_statusPlace; subst ev_status_status; subst ev_status_shiftNumber; subst ev_status_meterOpened; subst ev_status_driverId; subst ev_status_zone; subst ev_status_position; subst ev_emerg_state; subst ev_msgs_paused;
  unfold State.attemptFails; (repeat' split) <;> simp (maxDischargeDepth := 12) [hl]

@[simp] theorem State.takeImage_report (b : List Byte) {s : State} {v_power_park} (ev_power_park : s.power.park = v_power_park)
    {v_sched_statusPlace} (ev_sched_statusPlace : s.sched.statusPlace = v_sched_statusPlace) {v_status_status}
    (ev_status_status : s.status.status = v_status_status) {v_status_shiftNumber}
    (ev_status_shiftNumber : s.status.shiftNumber = v_status_shiftNumber) {v_status_meterOpened}
    (ev_status_meterOpened : s.status.meterOpened = v_status_meterOpened) {v_status_driverId}
    (ev_status_driverId : s.status.driverId = v_status_driverId) {v_status_zone} (ev_status_zone : s.status.zone = v_status_zone)
    {v_status_position} (ev_status_position : s.status.position = v_status_position) {v_emerg_state}
    (ev_emerg_state : s.emerg.state = v_emerg_state) {v_msgs_paused} (ev_msgs_paused : s.msgs.paused = v_msgs_paused)
    (hl : ReportOk s.power.startUp s.power.park s.sched.statusPlace s.status.status s.status.shiftNumber s.status.meterOpened s.status.driverId s.status.zone s.status.position s.emerg.state s.msgs.paused) :
    ReportOk (State.takeImage b s).power.startUp v_power_park v_sched_statusPlace v_status_status v_status_shiftNumber v_status_meterOpened v_status_driverId v_status_zone v_status_position v_emerg_state v_msgs_paused := by
  subst ev_power_park; subst ev_sched_statusPlace; subst ev_status_status; subst ev_status_shiftNumber; subst ev_status_meterOpened; subst ev_status_driverId; subst ev_status_zone; subst ev_status_position; subst ev_emerg_state; subst ev_msgs_paused;
  unfold State.takeImage; split
  · simp [hl]
  · simp [hl]
  · intro h; cases h

@[simp] theorem State.becomeReady_report {s : State} {v_status_status} (ev_status_status : s.status.status = v_status_status)
    {v_status_shiftNumber} (ev_status_shiftNumber : s.status.shiftNumber = v_status_shiftNumber) {v_status_meterOpened}
    (ev_status_meterOpened : s.status.meterOpened = v_status_meterOpened) {v_status_driverId}
    (ev_status_driverId : s.status.driverId = v_status_driverId) {v_status_zone} (ev_status_zone : s.status.zone = v_status_zone)
    {v_status_position} (ev_status_position : s.status.position = v_status_position) {v_msgs_paused}
    (ev_msgs_paused : s.msgs.paused = v_msgs_paused)
    (hl : ReportOk s.power.startUp s.power.park s.sched.statusPlace s.status.status s.status.shiftNumber s.status.meterOpened s.status.driverId s.status.zone s.status.position s.emerg.state s.msgs.paused) :
    ReportOk (State.becomeReady s).power.startUp (State.becomeReady s).power.park
          (State.becomeReady s).sched.statusPlace v_status_status v_status_shiftNumber v_status_meterOpened v_status_driverId v_status_zone v_status_position (State.becomeReady s).emerg.state v_msgs_paused := by
  subst ev_status_status; subst ev_status_shiftNumber; subst ev_status_meterOpened; subst ev_status_driverId; subst ev_status_zone; subst ev_status_position; subst ev_msgs_paused;
  unfold State.becomeReady; dsimp only; (repeat' split) <;> simp (maxDischargeDepth := 12) [hl]

@[simp] theorem State.softReset_report {s : State} :
    ReportOk (State.softReset s).power.startUp (State.softReset s).power.park (State.softReset s).sched.statusPlace
          (State.softReset s).status.status (State.softReset s).status.shiftNumber (State.softReset s).status.meterOpened
          (State.softReset s).status.driverId (State.softReset s).status.zone (State.softReset s).status.position
          (State.softReset s).emerg.state (State.softReset s).msgs.paused := by
  unfold State.softReset; (repeat' split) <;> simp (maxDischargeDepth := 12)

@[simp] theorem State.powerOn_report (a : BitVec 4) {s : State} :
    ReportOk (State.powerOn a s).power.startUp (State.powerOn a s).power.park (State.powerOn a s).sched.statusPlace
          (State.powerOn a s).status.status (State.powerOn a s).status.shiftNumber (State.powerOn a s).status.meterOpened
          (State.powerOn a s).status.driverId (State.powerOn a s).status.zone (State.powerOn a s).status.position
          (State.powerOn a s).emerg.state (State.powerOn a s).msgs.paused := by
  refine State.service_report ?_
  intro h; cases h

@[simp] theorem State.meterMessage_report (m : MeterMessage) {s : State} {v_power_startUp}
    (ev_power_startUp : s.power.startUp = v_power_startUp) {v_status_zone} (ev_status_zone : s.status.zone = v_status_zone)
    {v_status_position} (ev_status_position : s.status.position = v_status_position) {v_emerg_state}
    (ev_emerg_state : s.emerg.state = v_emerg_state) {v_msgs_paused} (ev_msgs_paused : s.msgs.paused = v_msgs_paused)
    (hl : ReportOk s.power.startUp s.power.park s.sched.statusPlace s.status.status s.status.shiftNumber s.status.meterOpened s.status.driverId s.status.zone s.status.position s.emerg.state s.msgs.paused) :
    ReportOk v_power_startUp (State.meterMessage m s).power.park (State.meterMessage m s).sched.statusPlace
          (State.meterMessage m s).status.status (State.meterMessage m s).status.shiftNumber (State.meterMessage m s).status.meterOpened
          (State.meterMessage m s).status.driverId v_status_zone v_status_position v_emerg_state v_msgs_paused := by
  subst ev_power_startUp; subst ev_status_zone; subst ev_status_position; subst ev_emerg_state; subst ev_msgs_paused;
  unfold State.meterMessage; (repeat' split) <;> simp (maxDischargeDepth := 12) [hl]

@[simp] theorem State.takeMeter_report (m : MeterMessage) {s : State} {v_power_startUp}
    (ev_power_startUp : s.power.startUp = v_power_startUp) {v_status_zone} (ev_status_zone : s.status.zone = v_status_zone)
    {v_status_position} (ev_status_position : s.status.position = v_status_position) {v_emerg_state}
    (ev_emerg_state : s.emerg.state = v_emerg_state) {v_msgs_paused} (ev_msgs_paused : s.msgs.paused = v_msgs_paused)
    (hl : ReportOk s.power.startUp s.power.park s.sched.statusPlace s.status.status s.status.shiftNumber s.status.meterOpened s.status.driverId s.status.zone s.status.position s.emerg.state s.msgs.paused) :
    ReportOk v_power_startUp (State.takeMeter m s).power.park (State.takeMeter m s).sched.statusPlace (State.takeMeter m s).status.status
          (State.takeMeter m s).status.shiftNumber (State.takeMeter m s).status.meterOpened
          (State.takeMeter m s).status.driverId v_status_zone v_status_position v_emerg_state v_msgs_paused := by
  subst ev_power_startUp; subst ev_status_zone; subst ev_status_position; subst ev_emerg_state; subst ev_msgs_paused;
  unfold State.takeMeter; (repeat' split) <;> simp (maxDischargeDepth := 12) [hl]

@[simp] theorem State.takeWake_report (c : List Word) {s : State} {v_power_startUp} (ev_power_startUp : s.power.startUp = v_power_startUp)
    {v_status_status} (ev_status_status : s.status.status = v_status_status) {v_status_shiftNumber}
    (ev_status_shiftNumber : s.status.shiftNumber = v_status_shiftNumber) {v_status_meterOpened}
    (ev_status_meterOpened : s.status.meterOpened = v_status_meterOpened) {v_status_driverId}
    (ev_status_driverId : s.status.driverId = v_status_driverId) {v_status_zone} (ev_status_zone : s.status.zone = v_status_zone)
    {v_status_position} (ev_status_position : s.status.position = v_status_position) {v_emerg_state}
    (ev_emerg_state : s.emerg.state = v_emerg_state) {v_msgs_paused} (ev_msgs_paused : s.msgs.paused = v_msgs_paused)
    (hl : ReportOk s.power.startUp s.power.park s.sched.statusPlace s.status.status s.status.shiftNumber s.status.meterOpened s.status.driverId s.status.zone s.status.position s.emerg.state s.msgs.paused) :
    ReportOk v_power_startUp (State.takeWake c s).power.park
          (State.takeWake c s).sched.statusPlace v_status_status v_status_shiftNumber v_status_meterOpened v_status_driverId v_status_zone v_status_position v_emerg_state v_msgs_paused := by
  subst ev_power_startUp; subst ev_status_status; subst ev_status_shiftNumber; subst ev_status_meterOpened; subst ev_status_driverId; subst ev_status_zone; subst ev_status_position; subst ev_emerg_state; subst ev_msgs_paused;
  unfold State.takeWake; (repeat' split) <;> simp (maxDischargeDepth := 12) [hl]

@[simp] theorem State.route_report (d : DownHeader) (b : DownBody) {s : State}
    (hl : ReportOk s.power.startUp s.power.park s.sched.statusPlace s.status.status s.status.shiftNumber s.status.meterOpened s.status.driverId s.status.zone s.status.position s.emerg.state s.msgs.paused) :
    ReportOk (State.route d b s).power.startUp (State.route d b s).power.park (State.route d b s).sched.statusPlace
          (State.route d b s).status.status (State.route d b s).status.shiftNumber (State.route d b s).status.meterOpened
          (State.route d b s).status.driverId (State.route d b s).status.zone (State.route d b s).status.position
          (State.route d b s).emerg.state (State.route d b s).msgs.paused := by
  unfold State.route; (repeat' split) <;> simp (maxDischargeDepth := 12) [hl]

@[simp] theorem State.receive_report (d : DownHeader) (b : DownBody) {s : State}
    (hl : ReportOk s.power.startUp s.power.park s.sched.statusPlace s.status.status s.status.shiftNumber s.status.meterOpened s.status.driverId s.status.zone s.status.position s.emerg.state s.msgs.paused) :
    ReportOk (State.receive d b s).power.startUp (State.receive d b s).power.park (State.receive d b s).sched.statusPlace
          (State.receive d b s).status.status (State.receive d b s).status.shiftNumber (State.receive d b s).status.meterOpened
          (State.receive d b s).status.driverId (State.receive d b s).status.zone (State.receive d b s).status.position
          (State.receive d b s).emerg.state (State.receive d b s).msgs.paused := by
  unfold State.receive; (repeat' split) <;> simp (maxDischargeDepth := 12) [hl]

@[simp] theorem State.writeAt_report (o : Nat) (l : Lanes) (d : Word) {s : State}
    (hl : ReportOk s.power.startUp s.power.park s.sched.statusPlace s.status.status s.status.shiftNumber s.status.meterOpened s.status.driverId s.status.zone s.status.position s.emerg.state s.msgs.paused) :
    ReportOk (State.writeAt o l d s).power.startUp (State.writeAt o l d s).power.park (State.writeAt o l d s).sched.statusPlace
          (State.writeAt o l d s).status.status (State.writeAt o l d s).status.shiftNumber (State.writeAt o l d s).status.meterOpened
          (State.writeAt o l d s).status.driverId (State.writeAt o l d s).status.zone (State.writeAt o l d s).status.position
          (State.writeAt o l d s).emerg.state (State.writeAt o l d s).msgs.paused := by
  unfold State.writeAt; (repeat' split) <;> simp (maxDischargeDepth := 12) [hl]

@[simp] theorem State.readAt_report (o : Nat) (l : Lanes) {s : State}
    (hl : ReportOk s.power.startUp s.power.park s.sched.statusPlace s.status.status s.status.shiftNumber s.status.meterOpened s.status.driverId s.status.zone s.status.position s.emerg.state s.msgs.paused) :
    ReportOk (State.readAt o l s).power.startUp (State.readAt o l s).power.park (State.readAt o l s).sched.statusPlace
          (State.readAt o l s).status.status (State.readAt o l s).status.shiftNumber (State.readAt o l s).status.meterOpened
          (State.readAt o l s).status.driverId (State.readAt o l s).status.zone (State.readAt o l s).status.position
          (State.readAt o l s).emerg.state (State.readAt o l s).msgs.paused := by
  unfold State.readAt; (repeat' split) <;> simp (maxDischargeDepth := 12) [hl]

@[simp] theorem State.complete_report (k : OpKind) {owner : UnderWay → State → State} {s : State}
    (ho : ∀ u t, ReportOk t.power.startUp t.power.park t.sched.statusPlace t.status.status t.status.shiftNumber t.status.meterOpened t.status.driverId t.status.zone t.status.position t.emerg.state t.msgs.paused → ReportOk (owner u t).power.startUp (owner u t).power.park (owner u t).sched.statusPlace (owner u t).status.status (owner u t).status.shiftNumber (owner u t).status.meterOpened (owner u t).status.driverId (owner u t).status.zone (owner u t).status.position (owner u t).emerg.state (owner u t).msgs.paused)
    (hl : ReportOk s.power.startUp s.power.park s.sched.statusPlace s.status.status s.status.shiftNumber s.status.meterOpened s.status.driverId s.status.zone s.status.position s.emerg.state s.msgs.paused) :
    ReportOk (State.complete k owner s).power.startUp (State.complete k owner s).power.park (State.complete k owner s).sched.statusPlace
          (State.complete k owner s).status.status (State.complete k owner s).status.shiftNumber
          (State.complete k owner s).status.meterOpened (State.complete k owner s).status.driverId (State.complete k owner s).status.zone
          (State.complete k owner s).status.position (State.complete k owner s).emerg.state (State.complete k owner s).msgs.paused := by
  unfold State.complete; split
  · exact State.service_report (ho _ _ (by simp (maxDischargeDepth := 12) [hl]))
  · exact hl

end Sys2Proof.Machine
end

