-- ==== Sys2Proof/Laws/Sizes.lean ====
section
/-! SUPPORT. The size law of the lists other than those of the hunt and the trip is kept by the operations that a command is made of. -/

namespace Sys2Proof.Machine

/-- The size law of the lists other than those of the hunt and the trip on the values it speaks of. -/
def SizeOk (buffer : List PostEntry) (acks : List Word) (bids : List Bid) (pendingLog : List TripRecord) (reports : List FareReport)
    (abandoned : List TripRef) (delivered : List Word) : Prop :=
  buffer.length ≤ 4 ∧ acks.length ≤ 4 ∧ bids.length ≤ 4 ∧ pendingLog.length ≤ 2 ∧ reports.length ≤ 8 ∧ abandoned.length ≤ 16 ∧
    delivered.length ≤ 4

theorem mergeNewest_length {d : Bool} {a : BitVec 19} {lo hi : Option Byte} {b r : List PostEntry}
    (h : mergeNewest d a lo hi b = some r) : r.length = b.length := by
  induction b generalizing d r with
  | nil => simp [mergeNewest] at h
  | cons e rest ih =>
    cases rest with
    | nil => simp only [mergeNewest] at h; split at h <;> simp_all; subst h; rfl
    | cons f rest =>
      simp only [mergeNewest, Option.map_eq_some_iff] at h
      obtain ⟨q, hq, rfl⟩ := h
      simp [ih hq]

/-- Posting a write touches the buffer alone, and leaves at most four entries in it (R188). -/
theorem MemoryPath.post_eq {p q : MemoryPath} {a : BitVec 19} {l : Lanes} {d : Word} (h : p.post a l d = some q) :
    q = { p with buffer := q.buffer } ∧ (p.buffer.length ≤ 4 → q.buffer.length ≤ 4) := by
  unfold MemoryPath.post at h; dsimp only at h; split at h
  · rename_i b hb
    cases h
    exact ⟨rfl, fun hp => by rw [mergeNewest_length hb]; exact hp⟩
  · split at h
    · cases h; exact ⟨rfl, fun _ => by simp; omega⟩
    · cases h

theorem Scheduler.dropBid_length (u : Scheduler) (j : DWord) : (u.dropBid j).bids.length ≤ u.bids.length := by
  unfold Scheduler.dropBid; split
  · exact List.length_filter_le _ _
  · exact Nat.le_refl _

theorem Scheduler.addBid_length {u : Scheduler} (j : DWord) (c : BidCode) (h : u.bids.length ≤ 4) :
    (u.addBid j c).bids.length ≤ 4 := by
  unfold Scheduler.addBid Scheduler.makeRoomForBid; split
  · simpa using h
  · dsimp only; split
    · rename_i hb; split
      · simp_all
      · simp_all; omega
    · simp_all

theorem TripEngine.unlist_length (t : TripEngine) (r : TripRef) : (t.unlist r).reports.length ≤ t.reports.length :=
  List.length_filter_le _ _

theorem State.abandonReport_length (r : TripRef) (s : State) : (s.abandonReport r).trips.reports.length ≤ s.trips.reports.length := by
  simp only [State.abandonReport, State.changeTotalsFor, State.changeTotals]
  split <;> simp [TripEngine.unlist_length]

theorem State.abandonReport_head {r : FareReport} {rest : List FareReport} {s : State} (h : s.trips.reports = r :: rest) :
    (s.abandonReport r.record.ref).trips.reports.length < s.trips.reports.length := by
  have : (s.trips.unlist r.record.ref).reports.length < s.trips.reports.length := by
    simp only [TripEngine.unlist, h]
    have := List.length_filter_le (fun e : FareReport => e.record.ref != r.record.ref) rest
    simp; omega
  simp only [State.abandonReport, State.changeTotalsFor, State.changeTotals]
  split <;> simpa using this

theorem State.makeRoomForReport_length {s : State} (h : s.trips.reports.length ≤ 8) : s.makeRoomForReport.trips.reports.length < 8 := by
  unfold State.makeRoomForReport; split
  · rename_i hr; split
    · have := State.abandonReport_head hr; omega
    · omega
  · rename_i hr; simp [hr]


@[simp] theorem State.addBid_sizes (j : DWord) (c : BidCode) {s : State} {v_path_buffer} (ev_path_buffer : s.path.buffer = v_path_buffer)
    {v_sched_acks} (ev_sched_acks : s.sched.acks = v_sched_acks) {v_trips_pendingLog}
    (ev_trips_pendingLog : s.trips.pendingLog = v_trips_pendingLog) {v_trips_reports}
    (ev_trips_reports : s.trips.reports = v_trips_reports) {v_trips_abandoned} (ev_trips_abandoned : s.trips.abandoned = v_trips_abandoned)
    {v_msgs_delivered} (ev_msgs_delivered : s.msgs.delivered = v_msgs_delivered)
    (hl : SizeOk s.path.buffer s.sched.acks s.sched.bids s.trips.pendingLog s.trips.reports s.trips.abandoned s.msgs.delivered) :
    SizeOk v_path_buffer v_sched_acks
          (State.addBid j c s).sched.bids v_trips_pendingLog v_trips_reports v_trips_abandoned v_msgs_delivered := by
  subst ev_path_buffer; subst ev_sched_acks; subst ev_trips_pendingLog; subst ev_trips_reports; subst ev_trips_abandoned; subst ev_msgs_delivered;
  obtain ⟨h1, h2, h3, h4, h5, h6, h7⟩ := hl
  have hd := Nat.le_trans (s.sched.dropBid_length j) h3
  unfold State.addBid; dsimp only; split <;> simp [SizeOk, h1, h2, h4, h5, h6, h7, h3, hd, Scheduler.addBid_length]

@[simp] theorem State.removeBid_sizes (j : DWord) {s : State} {v_path_buffer} (ev_path_buffer : s.path.buffer = v_path_buffer)
    {v_sched_acks} (ev_sched_acks : s.sched.acks = v_sched_acks) {v_trips_pendingLog}
    (ev_trips_pendingLog : s.trips.pendingLog = v_trips_pendingLog) {v_trips_reports}
    (ev_trips_reports : s.trips.reports = v_trips_reports) {v_trips_abandoned} (ev_trips_abandoned : s.trips.abandoned = v_trips_abandoned)
    {v_msgs_delivered} (ev_msgs_delivered : s.msgs.delivered = v_msgs_delivered)
    (hl : SizeOk s.path.buffer s.sched.acks s.sched.bids s.trips.pendingLog s.trips.reports s.trips.abandoned s.msgs.delivered) :
    SizeOk v_path_buffer v_sched_acks
          (State.removeBid j s).sched.bids v_trips_pendingLog v_trips_reports v_trips_abandoned v_msgs_delivered := by
  subst ev_path_buffer; subst ev_sched_acks; subst ev_trips_pendingLog; subst ev_trips_reports; subst ev_trips_abandoned; subst ev_msgs_delivered;
  obtain ⟨h1, h2, h3, h4, h5, h6, h7⟩ := hl
  have hd := Nat.le_trans (s.sched.dropBid_length j) h3
  simp [State.removeBid, SizeOk, h1, h2, h4, h5, h6, h7, hd]

@[simp] theorem State.addAck_sizes (t : Word) {s : State} {v_path_buffer} (ev_path_buffer : s.path.buffer = v_path_buffer) {v_sched_bids}
    (ev_sched_bids : s.sched.bids = v_sched_bids) {v_trips_pendingLog} (ev_trips_pendingLog : s.trips.pendingLog = v_trips_pendingLog)
    {v_trips_reports} (ev_trips_reports : s.trips.reports = v_trips_reports) {v_trips_abandoned}
    (ev_trips_abandoned : s.trips.abandoned = v_trips_abandoned) {v_msgs_delivered}
    (ev_msgs_delivered : s.msgs.delivered = v_msgs_delivered)
    (hl : SizeOk s.path.buffer s.sched.acks s.sched.bids s.trips.pendingLog s.trips.reports s.trips.abandoned s.msgs.delivered) :
    SizeOk v_path_buffer
          (State.addAck t s).sched.acks v_sched_bids v_trips_pendingLog v_trips_reports v_trips_abandoned v_msgs_delivered := by
  subst ev_path_buffer; subst ev_sched_bids; subst ev_trips_pendingLog; subst ev_trips_reports; subst ev_trips_abandoned; subst ev_msgs_delivered;
  obtain ⟨h1, h2, h3, h4, h5, h6, h7⟩ := hl
  have hd : (s.sched.addAck t).acks.length ≤ 4 := by
    unfold Scheduler.addAck; split
    · exact h2
    · split <;> simp <;> omega
  unfold State.addAck; dsimp only; split
  · split <;> simp [SizeOk, h1, h3, h4, h5, h6, h7, hd]
  · simp [SizeOk, h1, h3, h4, h5, h6, h7, hd]

@[simp] theorem State.takeResponse_sizes (n : Fin 16) (l : Lanes) (d : Word) {s : State} {v_path_buffer}
    (ev_path_buffer : s.path.buffer = v_path_buffer) {v_sched_acks} (ev_sched_acks : s.sched.acks = v_sched_acks) {v_trips_pendingLog}
    (ev_trips_pendingLog : s.trips.pendingLog = v_trips_pendingLog) {v_trips_reports}
    (ev_trips_reports : s.trips.reports = v_trips_reports) {v_trips_abandoned} (ev_trips_abandoned : s.trips.abandoned = v_trips_abandoned)
    {v_msgs_delivered} (ev_msgs_delivered : s.msgs.delivered = v_msgs_delivered)
    (hl : SizeOk s.path.buffer s.sched.acks s.sched.bids s.trips.pendingLog s.trips.reports s.trips.abandoned s.msgs.delivered) :
    SizeOk v_path_buffer v_sched_acks
          (State.takeResponse n l d s).sched.bids v_trips_pendingLog v_trips_reports v_trips_abandoned v_msgs_delivered := by
  subst ev_path_buffer; subst ev_sched_acks; subst ev_trips_pendingLog; subst ev_trips_reports; subst ev_trips_abandoned; subst ev_msgs_delivered;
  unfold State.takeResponse; dsimp only; (repeat' split) <;> simp (maxDischargeDepth := 12) [hl]

@[simp] theorem State.awardNoEntry_sizes (b : OfferBody) {s : State} {v_path_buffer} (ev_path_buffer : s.path.buffer = v_path_buffer)
    {v_sched_acks} (ev_sched_acks : s.sched.acks = v_sched_acks) {v_trips_pendingLog}
    (ev_trips_pendingLog : s.trips.pendingLog = v_trips_pendingLog) {v_trips_reports}
    (ev_trips_reports : s.trips.reports = v_trips_reports) {v_trips_abandoned} (ev_trips_abandoned : s.trips.abandoned = v_trips_abandoned)
    {v_msgs_delivered} (ev_msgs_delivered : s.msgs.delivered = v_msgs_delivered)
    (hl : SizeOk s.path.buffer s.sched.acks s.sched.bids s.trips.pendingLog s.trips.reports s.trips.abandoned s.msgs.delivered) :
    SizeOk v_path_buffer v_sched_acks
          (State.awardNoEntry b s).sched.bids v_trips_pendingLog v_trips_reports v_trips_abandoned v_msgs_delivered := by
  subst ev_path_buffer; subst ev_sched_acks; subst ev_trips_pendingLog; subst ev_trips_reports; subst ev_trips_abandoned; subst ev_msgs_delivered;
  unfold State.awardNoEntry; (repeat' split) <;> simp (maxDischargeDepth := 12) [hl]

@[simp] theorem State.takeAward_sizes (b : OfferBody) {s : State} {v_path_buffer} (ev_path_buffer : s.path.buffer = v_path_buffer)
    {v_sched_acks} (ev_sched_acks : s.sched.acks = v_sched_acks) {v_trips_pendingLog}
    (ev_trips_pendingLog : s.trips.pendingLog = v_trips_pendingLog) {v_trips_reports}
    (ev_trips_reports : s.trips.reports = v_trips_reports) {v_trips_abandoned} (ev_trips_abandoned : s.trips.abandoned = v_trips_abandoned)
    {v_msgs_delivered} (ev_msgs_delivered : s.msgs.delivered = v_msgs_delivered)
    (hl : SizeOk s.path.buffer s.sched.acks s.sched.bids s.trips.pendingLog s.trips.reports s.trips.abandoned s.msgs.delivered) :
    SizeOk v_path_buffer v_sched_acks
          (State.takeAward b s).sched.bids v_trips_pendingLog v_trips_reports v_trips_abandoned v_msgs_delivered := by
  subst ev_path_buffer; subst ev_sched_acks; subst ev_trips_pendingLog; subst ev_trips_reports; subst ev_trips_abandoned; subst ev_msgs_delivered;
  unfold State.takeAward; (repeat' split) <;> simp (maxDischargeDepth := 12) [hl]

@[simp] theorem State.takeWithdraw_sizes (j : DWord) {s : State} {v_path_buffer} (ev_path_buffer : s.path.buffer = v_path_buffer)
    {v_sched_acks} (ev_sched_acks : s.sched.acks = v_sched_acks) {v_trips_pendingLog}
    (ev_trips_pendingLog : s.trips.pendingLog = v_trips_pendingLog) {v_trips_reports}
    (ev_trips_reports : s.trips.reports = v_trips_reports) {v_trips_abandoned} (ev_trips_abandoned : s.trips.abandoned = v_trips_abandoned)
    {v_msgs_delivered} (ev_msgs_delivered : s.msgs.delivered = v_msgs_delivered)
    (hl : SizeOk s.path.buffer s.sched.acks s.sched.bids s.trips.pendingLog s.trips.reports s.trips.abandoned s.msgs.delivered) :
    SizeOk v_path_buffer v_sched_acks
          (State.takeWithdraw j s).sched.bids v_trips_pendingLog v_trips_reports v_trips_abandoned v_msgs_delivered := by
  subst ev_path_buffer; subst ev_sched_acks; subst ev_trips_pendingLog; subst ev_trips_reports; subst ev_trips_abandoned; subst ev_msgs_delivered;
  unfold State.takeWithdraw; dsimp only; (repeat' split) <;> simp (maxDischargeDepth := 12) [hl]

@[simp] theorem State.alertingToOffers_sizes {s : State} {v_path_buffer} (ev_path_buffer : s.path.buffer = v_path_buffer) {v_sched_acks}
    (ev_sched_acks : s.sched.acks = v_sched_acks) {v_trips_pendingLog} (ev_trips_pendingLog : s.trips.pendingLog = v_trips_pendingLog)
    {v_trips_reports} (ev_trips_reports : s.trips.reports = v_trips_reports) {v_trips_abandoned}
    (ev_trips_abandoned : s.trips.abandoned = v_trips_abandoned) {v_msgs_delivered}
    (ev_msgs_delivered : s.msgs.delivered = v_msgs_delivered)
    (hl : SizeOk s.path.buffer s.sched.acks s.sched.bids s.trips.pendingLog s.trips.reports s.trips.abandoned s.msgs.delivered) :
    SizeOk v_path_buffer v_sched_acks
          (State.alertingToOffers s).sched.bids v_trips_pendingLog v_trips_reports v_trips_abandoned v_msgs_delivered := by
  subst ev_path_buffer; subst ev_sched_acks; subst ev_trips_pendingLog; subst ev_trips_reports; subst ev_trips_abandoned; subst ev_msgs_delivered;
  unfold State.alertingToOffers; (repeat' split) <;> simp (maxDischargeDepth := 12) [hl]

@[simp] theorem State.closeOffers_sizes {s : State} {v_path_buffer} (ev_path_buffer : s.path.buffer = v_path_buffer) {v_sched_acks}
    (ev_sched_acks : s.sched.acks = v_sched_acks) {v_trips_pendingLog} (ev_trips_pendingLog : s.trips.pendingLog = v_trips_pendingLog)
    {v_trips_reports} (ev_trips_reports : s.trips.reports = v_trips_reports) {v_trips_abandoned}
    (ev_trips_abandoned : s.trips.abandoned = v_trips_abandoned) {v_msgs_delivered}
    (ev_msgs_delivered : s.msgs.delivered = v_msgs_delivered)
    (hl : SizeOk s.path.buffer s.sched.acks s.sched.bids s.trips.pendingLog s.trips.reports s.trips.abandoned s.msgs.delivered) :
    SizeOk v_path_buffer v_sched_acks
          (State.closeOffers s).sched.bids v_trips_pendingLog v_trips_reports v_trips_abandoned v_msgs_delivered := by
  subst ev_path_buffer; subst ev_sched_acks; subst ev_trips_pendingLog; subst ev_trips_reports; subst ev_trips_abandoned; subst ev_msgs_delivered;
  unfold State.closeOffers; dsimp only; (repeat' split) <;> simp (maxDischargeDepth := 12) [hl]

@[simp] theorem State.abandonReport_sizes (r : TripRef) {s : State} {v_path_buffer} (ev_path_buffer : s.path.buffer = v_path_buffer)
    {v_sched_acks} (ev_sched_acks : s.sched.acks = v_sched_acks) {v_sched_bids} (ev_sched_bids : s.sched.bids = v_sched_bids)
    {v_trips_pendingLog} (ev_trips_pendingLog : s.trips.pendingLog = v_trips_pendingLog) {v_msgs_delivered}
    (ev_msgs_delivered : s.msgs.delivered = v_msgs_delivered)
    (hl : SizeOk s.path.buffer s.sched.acks s.sched.bids s.trips.pendingLog s.trips.reports s.trips.abandoned s.msgs.delivered) :
    SizeOk v_path_buffer v_sched_acks v_sched_bids v_trips_pendingLog (State.abandonReport r s).trips.reports
          (State.abandonReport r s).trips.abandoned v_msgs_delivered := by
  subst ev_path_buffer; subst ev_sched_acks; subst ev_sched_bids; subst ev_trips_pendingLog; subst ev_msgs_delivered;
  obtain ⟨h1, h2, h3, h4, h5, h6, h7⟩ := hl
  have hr := Nat.le_trans (s.abandonReport_length r) h5
  refine ⟨by simp [h1], by simp [h2], by simp [h3], by simp [h4], hr, ?_, by simp [h7]⟩
  simp only [State.abandonReport, State.changeTotalsFor, State.changeTotals]
  split <;> simp [lastSixteen] <;> omega

@[simp] theorem State.makeRoomForReport_sizes {s : State} {v_path_buffer} (ev_path_buffer : s.path.buffer = v_path_buffer) {v_sched_acks}
    (ev_sched_acks : s.sched.acks = v_sched_acks) {v_sched_bids} (ev_sched_bids : s.sched.bids = v_sched_bids) {v_trips_pendingLog}
    (ev_trips_pendingLog : s.trips.pendingLog = v_trips_pendingLog) {v_msgs_delivered}
    (ev_msgs_delivered : s.msgs.delivered = v_msgs_delivered)
    (hl : SizeOk s.path.buffer s.sched.acks s.sched.bids s.trips.pendingLog s.trips.reports s.trips.abandoned s.msgs.delivered) :
    SizeOk v_path_buffer v_sched_acks v_sched_bids v_trips_pendingLog (State.makeRoomForReport s).trips.reports
          (State.makeRoomForReport s).trips.abandoned v_msgs_delivered := by
  subst ev_path_buffer; subst ev_sched_acks; subst ev_sched_bids; subst ev_trips_pendingLog; subst ev_msgs_delivered;
  unfold State.makeRoomForReport; (repeat' split) <;> simp [hl]

@[simp] theorem State.listReport_sizes (r : TripRecord) {s : State} {v_path_buffer} (ev_path_buffer : s.path.buffer = v_path_buffer)
    {v_sched_acks} (ev_sched_acks : s.sched.acks = v_sched_acks) {v_sched_bids} (ev_sched_bids : s.sched.bids = v_sched_bids)
    {v_trips_pendingLog} (ev_trips_pendingLog : s.trips.pendingLog = v_trips_pendingLog) {v_msgs_delivered}
    (ev_msgs_delivered : s.msgs.delivered = v_msgs_delivered)
    (hl : SizeOk s.path.buffer s.sched.acks s.sched.bids s.trips.pendingLog s.trips.reports s.trips.abandoned s.msgs.delivered) :
    SizeOk v_path_buffer v_sched_acks v_sched_bids v_trips_pendingLog (State.listReport r s).trips.reports
          (State.listReport r s).trips.abandoned v_msgs_delivered := by
  subst ev_path_buffer; subst ev_sched_acks; subst ev_sched_bids; subst ev_trips_pendingLog; subst ev_msgs_delivered;
  have h0 : ∀ {s : State}, SizeOk s.path.buffer s.sched.acks s.sched.bids s.trips.pendingLog s.trips.reports s.trips.abandoned
      s.msgs.delivered → s.trips.reports.length < 8 → SizeOk s.path.buffer s.sched.acks s.sched.bids s.trips.pendingLog
        (s.trips.reports ++ [⟨r, 0, 0, false⟩]) (s.trips.abandoned.erase r.ref) s.msgs.delivered := by
    intro s hl hlt
    obtain ⟨h1, h2, h3, h4, h5, h6, h7⟩ := hl
    exact ⟨h1, h2, h3, h4, by simp; omega, Nat.le_trans (List.length_erase_le ..) h6, h7⟩
  have h2 : ∀ {s : State}, SizeOk s.path.buffer s.sched.acks s.sched.bids s.trips.pendingLog s.trips.reports s.trips.abandoned
      s.msgs.delivered → SizeOk s.path.buffer s.sched.acks s.sched.bids s.trips.pendingLog
        (s.makeRoomForReport.trips.reports ++ [⟨r, 0, 0, false⟩]) (s.makeRoomForReport.trips.abandoned.erase r.ref) s.msgs.delivered := by
    intro s hl
    simpa using h0 (s := s.makeRoomForReport) (by simp [hl]) (State.makeRoomForReport_length hl.2.2.2.2.1)
  unfold State.listReport; dsimp only
  split
  · have := h2 (s := s.abandonReport r.ref) (by simp [hl])
    simpa [State.changeTotalsFor, State.changeTotals, apply_ite] using this
  · simpa [State.changeTotalsFor, State.changeTotals, apply_ite] using h2 hl

@[simp] theorem State.pendRecord_sizes (r : TripRecord) {s : State} {v_path_buffer} (ev_path_buffer : s.path.buffer = v_path_buffer)
    {v_sched_acks} (ev_sched_acks : s.sched.acks = v_sched_acks) {v_sched_bids} (ev_sched_bids : s.sched.bids = v_sched_bids)
    {v_trips_reports} (ev_trips_reports : s.trips.reports = v_trips_reports) {v_trips_abandoned}
    (ev_trips_abandoned : s.trips.abandoned = v_trips_abandoned) {v_msgs_delivered}
    (ev_msgs_delivered : s.msgs.delivered = v_msgs_delivered)
    (hl : SizeOk s.path.buffer s.sched.acks s.sched.bids s.trips.pendingLog s.trips.reports s.trips.abandoned s.msgs.delivered) :
    SizeOk v_path_buffer v_sched_acks v_sched_bids
          (State.pendRecord r s).trips.pendingLog v_trips_reports v_trips_abandoned v_msgs_delivered := by
  subst ev_path_buffer; subst ev_sched_acks; subst ev_sched_bids; subst ev_trips_reports; subst ev_trips_abandoned; subst ev_msgs_delivered;
  unfold State.pendRecord; (repeat' split) <;> simp_all (maxDischargeDepth := 12) [SizeOk]

@[simp] theorem State.offerToLog_sizes (r : TripRecord) {s : State} {v_path_buffer} (ev_path_buffer : s.path.buffer = v_path_buffer)
    {v_sched_acks} (ev_sched_acks : s.sched.acks = v_sched_acks) {v_sched_bids} (ev_sched_bids : s.sched.bids = v_sched_bids)
    {v_trips_reports} (ev_trips_reports : s.trips.reports = v_trips_reports) {v_trips_abandoned}
    (ev_trips_abandoned : s.trips.abandoned = v_trips_abandoned) {v_msgs_delivered}
    (ev_msgs_delivered : s.msgs.delivered = v_msgs_delivered)
    (hl : SizeOk s.path.buffer s.sched.acks s.sched.bids s.trips.pendingLog s.trips.reports s.trips.abandoned s.msgs.delivered) :
    SizeOk v_path_buffer v_sched_acks v_sched_bids
          (State.offerToLog r s).trips.pendingLog v_trips_reports v_trips_abandoned v_msgs_delivered := by
  subst ev_path_buffer; subst ev_sched_acks; subst ev_sched_bids; subst ev_trips_reports; subst ev_trips_abandoned; subst ev_msgs_delivered;
  unfold State.offerToLog; (repeat' split) <;> simp (maxDischargeDepth := 12) [hl]

@[simp] theorem State.servePending_sizes {s : State} {v_path_buffer} (ev_path_buffer : s.path.buffer = v_path_buffer) {v_sched_acks}
    (ev_sched_acks : s.sched.acks = v_sched_acks) {v_sched_bids} (ev_sched_bids : s.sched.bids = v_sched_bids) {v_trips_reports}
    (ev_trips_reports : s.trips.reports = v_trips_reports) {v_trips_abandoned} (ev_trips_abandoned : s.trips.abandoned = v_trips_abandoned)
    {v_msgs_delivered} (ev_msgs_delivered : s.msgs.delivered = v_msgs_delivered)
    (hl : SizeOk s.path.buffer s.sched.acks s.sched.bids s.trips.pendingLog s.trips.reports s.trips.abandoned s.msgs.delivered) :
    SizeOk v_path_buffer v_sched_acks v_sched_bids
          (State.servePending s).trips.pendingLog v_trips_reports v_trips_abandoned v_msgs_delivered := by
  subst ev_path_buffer; subst ev_sched_acks; subst ev_sched_bids; subst ev_trips_reports; subst ev_trips_abandoned; subst ev_msgs_delivered;
  obtain ⟨h1, h2, h3, h4, h5, h6, h7⟩ := hl
  unfold State.servePending; split
  · rename_i hp
    rw [hp] at h4
    have : ∀ (a : TripRecord) (l : List TripRecord), (a :: l).length ≤ 2 → l.length ≤ 2 := by intro a l h; simp at h; omega
    split
    · simp [State.beginTripDeposit, SizeOk, h1, h2, h3, h5, h6, h7, this _ _ h4]
    · simpa [SizeOk, h1, h2, h3, h5, h6, h7, hp] using h4
  · simp [SizeOk, h1, h2, h3, h4, h5, h6, h7]

@[simp] theorem State.endTripDeposit_sizes {s : State} {v_path_buffer} (ev_path_buffer : s.path.buffer = v_path_buffer) {v_sched_acks}
    (ev_sched_acks : s.sched.acks = v_sched_acks) {v_sched_bids} (ev_sched_bids : s.sched.bids = v_sched_bids) {v_trips_reports}
    (ev_trips_reports : s.trips.reports = v_trips_reports) {v_trips_abandoned} (ev_trips_abandoned : s.trips.abandoned = v_trips_abandoned)
    {v_msgs_delivered} (ev_msgs_delivered : s.msgs.delivered = v_msgs_delivered)
    (hl : SizeOk s.path.buffer s.sched.acks s.sched.bids s.trips.pendingLog s.trips.reports s.trips.abandoned s.msgs.delivered) :
    SizeOk v_path_buffer v_sched_acks v_sched_bids
          (State.endTripDeposit s).trips.pendingLog v_trips_reports v_trips_abandoned v_msgs_delivered := by
  subst ev_path_buffer; subst ev_sched_acks; subst ev_sched_bids; subst ev_trips_reports; subst ev_trips_abandoned; subst ev_msgs_delivered;
  unfold State.endTripDeposit; (repeat' split) <;> simp (maxDischargeDepth := 12) [hl]

@[simp] theorem State.closeTrip_sizes (e : TripEnd) {s : State} {v_path_buffer} (ev_path_buffer : s.path.buffer = v_path_buffer)
    {v_sched_acks} (ev_sched_acks : s.sched.acks = v_sched_acks) {v_sched_bids} (ev_sched_bids : s.sched.bids = v_sched_bids)
    {v_msgs_delivered} (ev_msgs_delivered : s.msgs.delivered = v_msgs_delivered)
    (hl : SizeOk s.path.buffer s.sched.acks s.sched.bids s.trips.pendingLog s.trips.reports s.trips.abandoned s.msgs.delivered) :
    SizeOk v_path_buffer v_sched_acks v_sched_bids (State.closeTrip e s).trips.pendingLog (State.closeTrip e s).trips.reports
          (State.closeTrip e s).trips.abandoned v_msgs_delivered := by
  subst ev_path_buffer; subst ev_sched_acks; subst ev_sched_bids; subst ev_msgs_delivered;
  unfold State.closeTrip; (repeat' split) <;> simp (maxDischargeDepth := 12) [hl]

@[simp] theorem State.takeHire_sizes (t : Byte) {s : State} {v_path_buffer} (ev_path_buffer : s.path.buffer = v_path_buffer) {v_sched_acks}
    (ev_sched_acks : s.sched.acks = v_sched_acks) {v_sched_bids} (ev_sched_bids : s.sched.bids = v_sched_bids) {v_msgs_delivered}
    (ev_msgs_delivered : s.msgs.delivered = v_msgs_delivered)
    (hl : SizeOk s.path.buffer s.sched.acks s.sched.bids s.trips.pendingLog s.trips.reports s.trips.abandoned s.msgs.delivered) :
    SizeOk v_path_buffer v_sched_acks v_sched_bids (State.takeHire t s).trips.pendingLog (State.takeHire t s).trips.reports
          (State.takeHire t s).trips.abandoned v_msgs_delivered := by
  subst ev_path_buffer; subst ev_sched_acks; subst ev_sched_bids; subst ev_msgs_delivered;
  unfold State.takeHire; (repeat' split) <;> simp (maxDischargeDepth := 12) [hl]

@[simp] theorem State.takeStop_sizes (f : DWord) {s : State} {v_path_buffer} (ev_path_buffer : s.path.buffer = v_path_buffer)
    {v_sched_acks} (ev_sched_acks : s.sched.acks = v_sched_acks) {v_sched_bids} (ev_sched_bids : s.sched.bids = v_sched_bids)
    {v_msgs_delivered} (ev_msgs_delivered : s.msgs.delivered = v_msgs_delivered)
    (hl : SizeOk s.path.buffer s.sched.acks s.sched.bids s.trips.pendingLog s.trips.reports s.trips.abandoned s.msgs.delivered) :
    SizeOk v_path_buffer v_sched_acks v_sched_bids (State.takeStop f s).trips.pendingLog (State.takeStop f s).trips.reports
          (State.takeStop f s).trips.abandoned v_msgs_delivered := by
  subst ev_path_buffer; subst ev_sched_acks; subst ev_sched_bids; subst ev_msgs_delivered;
  unfold State.takeStop; (repeat' split) <;> simp (maxDischargeDepth := 12) [hl]

@[simp] theorem State.forceClose_sizes {s : State} {v_path_buffer} (ev_path_buffer : s.path.buffer = v_path_buffer) {v_sched_acks}
    (ev_sched_acks : s.sched.acks = v_sched_acks) {v_sched_bids} (ev_sched_bids : s.sched.bids = v_sched_bids) {v_msgs_delivered}
    (ev_msgs_delivered : s.msgs.delivered = v_msgs_delivered)
    (hl : SizeOk s.path.buffer s.sched.acks s.sched.bids s.trips.pendingLog s.trips.reports s.trips.abandoned s.msgs.delivered) :
    SizeOk v_path_buffer v_sched_acks v_sched_bids (State.forceClose s).trips.pendingLog (State.forceClose s).trips.reports
          (State.forceClose s).trips.abandoned v_msgs_delivered := by
  subst ev_path_buffer; subst ev_sched_acks; subst ev_sched_bids; subst ev_msgs_delivered;
  unfold State.forceClose; (repeat' split) <;> simp (maxDischargeDepth := 12) [hl]

@[simp] theorem State.fareSent_sizes (r : TripRef) {s : State} {v_path_buffer} (ev_path_buffer : s.path.buffer = v_path_buffer)
    {v_sched_acks} (ev_sched_acks : s.sched.acks = v_sched_acks) {v_sched_bids} (ev_sched_bids : s.sched.bids = v_sched_bids)
    {v_trips_pendingLog} (ev_trips_pendingLog : s.trips.pendingLog = v_trips_pendingLog) {v_trips_abandoned}
    (ev_trips_abandoned : s.trips.abandoned = v_trips_abandoned) {v_msgs_delivered}
    (ev_msgs_delivered : s.msgs.delivered = v_msgs_delivered)
    (hl : SizeOk s.path.buffer s.sched.acks s.sched.bids s.trips.pendingLog s.trips.reports s.trips.abandoned s.msgs.delivered) :
    SizeOk v_path_buffer v_sched_acks v_sched_bids v_trips_pendingLog
          (State.fareSent r s).trips.reports v_trips_abandoned v_msgs_delivered := by
  subst ev_path_buffer; subst ev_sched_acks; subst ev_sched_bids; subst ev_trips_pendingLog; subst ev_trips_abandoned; subst ev_msgs_delivered;
  simpa [State.fareSent, SizeOk] using hl

@[simp] theorem State.fareRetransmit_sizes (r : TripRef) {s : State} {v_path_buffer} (ev_path_buffer : s.path.buffer = v_path_buffer)
    {v_sched_acks} (ev_sched_acks : s.sched.acks = v_sched_acks) {v_sched_bids} (ev_sched_bids : s.sched.bids = v_sched_bids)
    {v_trips_pendingLog} (ev_trips_pendingLog : s.trips.pendingLog = v_trips_pendingLog) {v_msgs_delivered}
    (ev_msgs_delivered : s.msgs.delivered = v_msgs_delivered)
    (hl : SizeOk s.path.buffer s.sched.acks s.sched.bids s.trips.pendingLog s.trips.reports s.trips.abandoned s.msgs.delivered) :
    SizeOk v_path_buffer v_sched_acks v_sched_bids v_trips_pendingLog (State.fareRetransmit r s).trips.reports
          (State.fareRetransmit r s).trips.abandoned v_msgs_delivered := by
  subst ev_path_buffer; subst ev_sched_acks; subst ev_sched_bids; subst ev_trips_pendingLog; subst ev_msgs_delivered;
  unfold State.fareRetransmit; (repeat' split) <;> first
    | exact hl
    | (simp (maxDischargeDepth := 12) [hl]; done)
    | simpa [SizeOk] using hl

@[simp] theorem State.ackFare_sizes (r : TripRef) {s : State} {v_path_buffer} (ev_path_buffer : s.path.buffer = v_path_buffer)
    {v_sched_acks} (ev_sched_acks : s.sched.acks = v_sched_acks) {v_sched_bids} (ev_sched_bids : s.sched.bids = v_sched_bids)
    {v_trips_pendingLog} (ev_trips_pendingLog : s.trips.pendingLog = v_trips_pendingLog) {v_msgs_delivered}
    (ev_msgs_delivered : s.msgs.delivered = v_msgs_delivered)
    (hl : SizeOk s.path.buffer s.sched.acks s.sched.bids s.trips.pendingLog s.trips.reports s.trips.abandoned s.msgs.delivered) :
    SizeOk v_path_buffer v_sched_acks v_sched_bids v_trips_pendingLog (State.ackFare r s).trips.reports
          (State.ackFare r s).trips.abandoned v_msgs_delivered := by
  subst ev_path_buffer; subst ev_sched_acks; subst ev_sched_bids; subst ev_trips_pendingLog; subst ev_msgs_delivered;
  obtain ⟨h1, h2, h3, h4, h5, h6, h7⟩ := hl
  have hu := Nat.le_trans (s.trips.unlist_length r) h5
  have he := Nat.le_trans (List.length_erase_le (l := s.trips.abandoned) (a := r)) h6
  unfold State.ackFare State.changeTotalsFor State.changeTotals; (repeat' split) <;> simp [SizeOk, h1, h2, h3, h4, h5, h6, h7, hu, he]

@[simp] theorem State.returnDeposit_sizes {s : State} {v_path_buffer} (ev_path_buffer : s.path.buffer = v_path_buffer) {v_sched_acks}
    (ev_sched_acks : s.sched.acks = v_sched_acks) {v_sched_bids} (ev_sched_bids : s.sched.bids = v_sched_bids) {v_trips_reports}
    (ev_trips_reports : s.trips.reports = v_trips_reports) {v_trips_abandoned} (ev_trips_abandoned : s.trips.abandoned = v_trips_abandoned)
    {v_msgs_delivered} (ev_msgs_delivered : s.msgs.delivered = v_msgs_delivered)
    (hl : SizeOk s.path.buffer s.sched.acks s.sched.bids s.trips.pendingLog s.trips.reports s.trips.abandoned s.msgs.delivered) :
    SizeOk v_path_buffer v_sched_acks v_sched_bids
          (State.returnDeposit s).trips.pendingLog v_trips_reports v_trips_abandoned v_msgs_delivered := by
  subst ev_path_buffer; subst ev_sched_acks; subst ev_sched_bids; subst ev_trips_reports; subst ev_trips_abandoned; subst ev_msgs_delivered;
  unfold State.returnDeposit; dsimp only; (repeat' split) <;> simp_all (maxDischargeDepth := 12) [SizeOk]

@[simp] theorem State.softResetTrips_sizes {s : State} {v_path_buffer} (ev_path_buffer : s.path.buffer = v_path_buffer) {v_sched_acks}
    (ev_sched_acks : s.sched.acks = v_sched_acks) {v_sched_bids} (ev_sched_bids : s.sched.bids = v_sched_bids) {v_trips_reports}
    (ev_trips_reports : s.trips.reports = v_trips_reports) {v_trips_abandoned} (ev_trips_abandoned : s.trips.abandoned = v_trips_abandoned)
    {v_msgs_delivered} (ev_msgs_delivered : s.msgs.delivered = v_msgs_delivered)
    (hl : SizeOk s.path.buffer s.sched.acks s.sched.bids s.trips.pendingLog s.trips.reports s.trips.abandoned s.msgs.delivered) :
    SizeOk v_path_buffer v_sched_acks v_sched_bids
          (State.softResetTrips s).trips.pendingLog v_trips_reports v_trips_abandoned v_msgs_delivered := by
  subst ev_path_buffer; subst ev_sched_acks; subst ev_sched_bids; subst ev_trips_reports; subst ev_trips_abandoned; subst ev_msgs_delivered;
  unfold State.softResetTrips; (repeat' split) <;> simp (maxDischargeDepth := 12) [hl]

@[simp] theorem State.queueAck_sizes (m : InMessage) {s : State} {v_path_buffer} (ev_path_buffer : s.path.buffer = v_path_buffer)
    {v_sched_bids} (ev_sched_bids : s.sched.bids = v_sched_bids) {v_trips_pendingLog}
    (ev_trips_pendingLog : s.trips.pendingLog = v_trips_pendingLog) {v_trips_reports}
    (ev_trips_reports : s.trips.reports = v_trips_reports) {v_trips_abandoned} (ev_trips_abandoned : s.trips.abandoned = v_trips_abandoned)
    {v_msgs_delivered} (ev_msgs_delivered : s.msgs.delivered = v_msgs_delivered)
    (hl : SizeOk s.path.buffer s.sched.acks s.sched.bids s.trips.pendingLog s.trips.reports s.trips.abandoned s.msgs.delivered) :
    SizeOk v_path_buffer
          (State.queueAck m s).sched.acks v_sched_bids v_trips_pendingLog v_trips_reports v_trips_abandoned v_msgs_delivered := by
  subst ev_path_buffer; subst ev_sched_bids; subst ev_trips_pendingLog; subst ev_trips_reports; subst ev_trips_abandoned; subst ev_msgs_delivered;
  unfold State.queueAck; (repeat' split) <;> simp (maxDischargeDepth := 12) [hl]

@[simp] theorem State.judge_sizes (b : BufferId) (m : InMessage) {s : State} {v_path_buffer}
    (ev_path_buffer : s.path.buffer = v_path_buffer) {v_sched_bids} (ev_sched_bids : s.sched.bids = v_sched_bids) {v_trips_pendingLog}
    (ev_trips_pendingLog : s.trips.pendingLog = v_trips_pendingLog) {v_trips_reports}
    (ev_trips_reports : s.trips.reports = v_trips_reports) {v_trips_abandoned} (ev_trips_abandoned : s.trips.abandoned = v_trips_abandoned)
    {v_msgs_delivered} (ev_msgs_delivered : s.msgs.delivered = v_msgs_delivered)
    (hl : SizeOk s.path.buffer s.sched.acks s.sched.bids s.trips.pendingLog s.trips.reports s.trips.abandoned s.msgs.delivered) :
    SizeOk v_path_buffer
          (State.judge b m s).sched.acks v_sched_bids v_trips_pendingLog v_trips_reports v_trips_abandoned v_msgs_delivered := by
  subst ev_path_buffer; subst ev_sched_bids; subst ev_trips_pendingLog; subst ev_trips_reports; subst ev_trips_abandoned; subst ev_msgs_delivered;
  unfold State.judge; dsimp only; (repeat' split) <;> simp (maxDischargeDepth := 12) [hl]

@[simp] theorem State.judgeNext_sizes {s : State} {v_path_buffer} (ev_path_buffer : s.path.buffer = v_path_buffer) {v_sched_bids}
    (ev_sched_bids : s.sched.bids = v_sched_bids) {v_trips_pendingLog} (ev_trips_pendingLog : s.trips.pendingLog = v_trips_pendingLog)
    {v_trips_reports} (ev_trips_reports : s.trips.reports = v_trips_reports) {v_trips_abandoned}
    (ev_trips_abandoned : s.trips.abandoned = v_trips_abandoned) {v_msgs_delivered}
    (ev_msgs_delivered : s.msgs.delivered = v_msgs_delivered)
    (hl : SizeOk s.path.buffer s.sched.acks s.sched.bids s.trips.pendingLog s.trips.reports s.trips.abandoned s.msgs.delivered) :
    SizeOk v_path_buffer
          (State.judgeNext s).sched.acks v_sched_bids v_trips_pendingLog v_trips_reports v_trips_abandoned v_msgs_delivered := by
  subst ev_path_buffer; subst ev_sched_bids; subst ev_trips_pendingLog; subst ev_trips_reports; subst ev_trips_abandoned; subst ev_msgs_delivered;
  unfold State.judgeNext; (repeat' split) <;> simp (maxDischargeDepth := 12) [hl]

@[simp] theorem State.judgeAll_sizes {s : State} {v_path_buffer} (ev_path_buffer : s.path.buffer = v_path_buffer) {v_sched_bids}
    (ev_sched_bids : s.sched.bids = v_sched_bids) {v_trips_pendingLog} (ev_trips_pendingLog : s.trips.pendingLog = v_trips_pendingLog)
    {v_trips_reports} (ev_trips_reports : s.trips.reports = v_trips_reports) {v_trips_abandoned}
    (ev_trips_abandoned : s.trips.abandoned = v_trips_abandoned) {v_msgs_delivered}
    (ev_msgs_delivered : s.msgs.delivered = v_msgs_delivered)
    (hl : SizeOk s.path.buffer s.sched.acks s.sched.bids s.trips.pendingLog s.trips.reports s.trips.abandoned s.msgs.delivered) :
    SizeOk v_path_buffer
          (State.judgeAll s).sched.acks v_sched_bids v_trips_pendingLog v_trips_reports v_trips_abandoned v_msgs_delivered := by
  subst ev_path_buffer; subst ev_sched_bids; subst ev_trips_pendingLog; subst ev_trips_reports; subst ev_trips_abandoned; subst ev_msgs_delivered;
  unfold State.judgeAll; (repeat' split) <;> simp (maxDischargeDepth := 12) [hl]

@[simp] theorem State.assemble_sizes (b : BufferId) (a : Assembly) {s : State} {v_path_buffer}
    (ev_path_buffer : s.path.buffer = v_path_buffer) {v_sched_bids} (ev_sched_bids : s.sched.bids = v_sched_bids) {v_trips_pendingLog}
    (ev_trips_pendingLog : s.trips.pendingLog = v_trips_pendingLog) {v_trips_reports}
    (ev_trips_reports : s.trips.reports = v_trips_reports) {v_trips_abandoned} (ev_trips_abandoned : s.trips.abandoned = v_trips_abandoned)
    {v_msgs_delivered} (ev_msgs_delivered : s.msgs.delivered = v_msgs_delivered)
    (hl : SizeOk s.path.buffer s.sched.acks s.sched.bids s.trips.pendingLog s.trips.reports s.trips.abandoned s.msgs.delivered) :
    SizeOk v_path_buffer
          (State.assemble b a s).sched.acks v_sched_bids v_trips_pendingLog v_trips_reports v_trips_abandoned v_msgs_delivered := by
  subst ev_path_buffer; subst ev_sched_bids; subst ev_trips_pendingLog; subst ev_trips_reports; subst ev_trips_abandoned; subst ev_msgs_delivered;
  unfold State.assemble; (repeat' split) <;> simp (maxDischargeDepth := 12) [hl]

@[simp] theorem State.truncateFor_sizes (b : BufferId) (a : Assembly) {s : State} {v_path_buffer}
    (ev_path_buffer : s.path.buffer = v_path_buffer) {v_sched_bids} (ev_sched_bids : s.sched.bids = v_sched_bids) {v_trips_pendingLog}
    (ev_trips_pendingLog : s.trips.pendingLog = v_trips_pendingLog) {v_trips_reports}
    (ev_trips_reports : s.trips.reports = v_trips_reports) {v_trips_abandoned} (ev_trips_abandoned : s.trips.abandoned = v_trips_abandoned)
    {v_msgs_delivered} (ev_msgs_delivered : s.msgs.delivered = v_msgs_delivered)
    (hl : SizeOk s.path.buffer s.sched.acks s.sched.bids s.trips.pendingLog s.trips.reports s.trips.abandoned s.msgs.delivered) :
    SizeOk v_path_buffer
          (State.truncateFor b a s).sched.acks v_sched_bids v_trips_pendingLog v_trips_reports v_trips_abandoned v_msgs_delivered := by
  subst ev_path_buffer; subst ev_sched_bids; subst ev_trips_pendingLog; subst ev_trips_reports; subst ev_trips_abandoned; subst ev_msgs_delivered;
  unfold State.truncateFor; dsimp only; (repeat' split) <;> simp (maxDischargeDepth := 12) [hl]

@[simp] theorem State.takeText_sizes (b : TextBody) {s : State} {v_path_buffer} (ev_path_buffer : s.path.buffer = v_path_buffer)
    {v_sched_bids} (ev_sched_bids : s.sched.bids = v_sched_bids) {v_trips_pendingLog}
    (ev_trips_pendingLog : s.trips.pendingLog = v_trips_pendingLog) {v_trips_reports}
    (ev_trips_reports : s.trips.reports = v_trips_reports) {v_trips_abandoned} (ev_trips_abandoned : s.trips.abandoned = v_trips_abandoned)
    {v_msgs_delivered} (ev_msgs_delivered : s.msgs.delivered = v_msgs_delivered)
    (hl : SizeOk s.path.buffer s.sched.acks s.sched.bids s.trips.pendingLog s.trips.reports s.trips.abandoned s.msgs.delivered) :
    SizeOk v_path_buffer
          (State.takeText b s).sched.acks v_sched_bids v_trips_pendingLog v_trips_reports v_trips_abandoned v_msgs_delivered := by
  subst ev_path_buffer; subst ev_sched_bids; subst ev_trips_pendingLog; subst ev_trips_reports; subst ev_trips_abandoned; subst ev_msgs_delivered;
  unfold State.takeText; (repeat' split) <;> simp (maxDischargeDepth := 12) [hl]

@[simp] theorem State.interFragmentEnds_sizes (b : BufferId) {s : State} {v_path_buffer} (ev_path_buffer : s.path.buffer = v_path_buffer)
    {v_sched_bids} (ev_sched_bids : s.sched.bids = v_sched_bids) {v_trips_pendingLog}
    (ev_trips_pendingLog : s.trips.pendingLog = v_trips_pendingLog) {v_trips_reports}
    (ev_trips_reports : s.trips.reports = v_trips_reports) {v_trips_abandoned} (ev_trips_abandoned : s.trips.abandoned = v_trips_abandoned)
    {v_msgs_delivered} (ev_msgs_delivered : s.msgs.delivered = v_msgs_delivered)
    (hl : SizeOk s.path.buffer s.sched.acks s.sched.bids s.trips.pendingLog s.trips.reports s.trips.abandoned s.msgs.delivered) :
    SizeOk v_path_buffer
          (State.interFragmentEnds b s).sched.acks v_sched_bids v_trips_pendingLog v_trips_reports v_trips_abandoned v_msgs_delivered := by
  subst ev_path_buffer; subst ev_sched_bids; subst ev_trips_pendingLog; subst ev_trips_reports; subst ev_trips_abandoned; subst ev_msgs_delivered;
  unfold State.interFragmentEnds; (repeat' split) <;> simp (maxDischargeDepth := 12) [hl]

@[simp] theorem State.endInboundDeposit_sizes {s : State} {v_path_buffer} (ev_path_buffer : s.path.buffer = v_path_buffer) {v_sched_bids}
    (ev_sched_bids : s.sched.bids = v_sched_bids) {v_trips_pendingLog} (ev_trips_pendingLog : s.trips.pendingLog = v_trips_pendingLog)
    {v_trips_reports} (ev_trips_reports : s.trips.reports = v_trips_reports) {v_trips_abandoned}
    (ev_trips_abandoned : s.trips.abandoned = v_trips_abandoned)
    (hl : SizeOk s.path.buffer s.sched.acks s.sched.bids s.trips.pendingLog s.trips.reports s.trips.abandoned s.msgs.delivered) :
    SizeOk v_path_buffer (State.endInboundDeposit s).sched.acks v_sched_bids v_trips_pendingLog v_trips_reports v_trips_abandoned
          (State.endInboundDeposit s).msgs.delivered := by
  subst ev_path_buffer; subst ev_sched_bids; subst ev_trips_pendingLog; subst ev_trips_reports; subst ev_trips_abandoned;
  unfold State.endInboundDeposit; split
  · have hd : ∀ l : List Word, SizeOk s.path.buffer s.sched.acks s.sched.bids s.trips.pendingLog s.trips.reports
        s.trips.abandoned (lastFour l) := by
      intro l
      obtain ⟨h1, h2, h3, h4, h5, h6, -⟩ := hl
      exact ⟨h1, h2, h3, h4, h5, h6, by simp [lastFour]; omega⟩
    simp (maxDischargeDepth := 12) [hd]
  · exact hl

@[simp] theorem State.pointerMoved_sizes (i : RingId) {s : State} {v_path_buffer} (ev_path_buffer : s.path.buffer = v_path_buffer)
    {v_sched_acks} (ev_sched_acks : s.sched.acks = v_sched_acks) {v_sched_bids} (ev_sched_bids : s.sched.bids = v_sched_bids)
    {v_trips_reports} (ev_trips_reports : s.trips.reports = v_trips_reports) {v_trips_abandoned}
    (ev_trips_abandoned : s.trips.abandoned = v_trips_abandoned) {v_msgs_delivered}
    (ev_msgs_delivered : s.msgs.delivered = v_msgs_delivered)
    (hl : SizeOk s.path.buffer s.sched.acks s.sched.bids s.trips.pendingLog s.trips.reports s.trips.abandoned s.msgs.delivered) :
    SizeOk v_path_buffer v_sched_acks v_sched_bids
          (State.pointerMoved i s).trips.pendingLog v_trips_reports v_trips_abandoned v_msgs_delivered := by
  subst ev_path_buffer; subst ev_sched_acks; subst ev_sched_bids; subst ev_trips_reports; subst ev_trips_abandoned; subst ev_msgs_delivered;
  unfold State.pointerMoved; (repeat' split) <;> simp (maxDischargeDepth := 12) [hl]

@[simp] theorem State.pointerWrite_sizes (i : RingId) (l : Lanes) (d : Word) {s : State} {v_path_buffer}
    (ev_path_buffer : s.path.buffer = v_path_buffer) {v_sched_acks} (ev_sched_acks : s.sched.acks = v_sched_acks) {v_sched_bids}
    (ev_sched_bids : s.sched.bids = v_sched_bids) {v_trips_reports} (ev_trips_reports : s.trips.reports = v_trips_reports)
    {v_trips_abandoned} (ev_trips_abandoned : s.trips.abandoned = v_trips_abandoned) {v_msgs_delivered}
    (ev_msgs_delivered : s.msgs.delivered = v_msgs_delivered)
    (hl : SizeOk s.path.buffer s.sched.acks s.sched.bids s.trips.pendingLog s.trips.reports s.trips.abandoned s.msgs.delivered) :
    SizeOk v_path_buffer v_sched_acks v_sched_bids
          (State.pointerWrite i l d s).trips.pendingLog v_trips_reports v_trips_abandoned v_msgs_delivered := by
  subst ev_path_buffer; subst ev_sched_acks; subst ev_sched_bids; subst ev_trips_reports; subst ev_trips_abandoned; subst ev_msgs_delivered;
  unfold State.pointerWrite; dsimp only; (repeat' split) <;> simp (maxDischargeDepth := 12) [hl]

@[simp] theorem State.endOpenCheck_sizes (i : RingId) (h : HeaderWords) {s : State} {v_path_buffer}
    (ev_path_buffer : s.path.buffer = v_path_buffer) {v_sched_acks} (ev_sched_acks : s.sched.acks = v_sched_acks) {v_sched_bids}
    (ev_sched_bids : s.sched.bids = v_sched_bids) {v_trips_reports} (ev_trips_reports : s.trips.reports = v_trips_reports)
    {v_trips_abandoned} (ev_trips_abandoned : s.trips.abandoned = v_trips_abandoned) {v_msgs_delivered}
    (ev_msgs_delivered : s.msgs.delivered = v_msgs_delivered)
    (hl : SizeOk s.path.buffer s.sched.acks s.sched.bids s.trips.pendingLog s.trips.reports s.trips.abandoned s.msgs.delivered) :
    SizeOk v_path_buffer v_sched_acks v_sched_bids
          (State.endOpenCheck i h s).trips.pendingLog v_trips_reports v_trips_abandoned v_msgs_delivered := by
  subst ev_path_buffer; subst ev_sched_acks; subst ev_sched_bids; subst ev_trips_reports; subst ev_trips_abandoned; subst ev_msgs_delivered;
  unfold State.endOpenCheck; dsimp only; (repeat' split) <;> simp (maxDischargeDepth := 12) [hl]

@[simp] theorem State.softResetMessages_sizes {s : State} {v_path_buffer} (ev_path_buffer : s.path.buffer = v_path_buffer) {v_sched_acks}
    (ev_sched_acks : s.sched.acks = v_sched_acks) {v_sched_bids} (ev_sched_bids : s.sched.bids = v_sched_bids) {v_trips_pendingLog}
    (ev_trips_pendingLog : s.trips.pendingLog = v_trips_pendingLog) {v_trips_reports}
    (ev_trips_reports : s.trips.reports = v_trips_reports) {v_trips_abandoned} (ev_trips_abandoned : s.trips.abandoned = v_trips_abandoned)
    (hl : SizeOk s.path.buffer s.sched.acks s.sched.bids s.trips.pendingLog s.trips.reports s.trips.abandoned s.msgs.delivered) :
    SizeOk v_path_buffer v_sched_acks v_sched_bids v_trips_pendingLog v_trips_reports v_trips_abandoned
          (State.softResetMessages s).msgs.delivered := by
  subst ev_path_buffer; subst ev_sched_acks; subst ev_sched_bids; subst ev_trips_pendingLog; subst ev_trips_reports; subst ev_trips_abandoned;
  obtain ⟨h1, h2, h3, h4, h5, h6, h7⟩ := hl
  simp [State.softResetMessages, MessageEngine.reset, SizeOk, h1, h2, h3, h4, h5, h6]

@[simp] theorem State.exitJoined_sizes {s : State} {v_path_buffer} (ev_path_buffer : s.path.buffer = v_path_buffer) {v_sched_acks}
    (ev_sched_acks : s.sched.acks = v_sched_acks) {v_trips_pendingLog} (ev_trips_pendingLog : s.trips.pendingLog = v_trips_pendingLog)
    {v_trips_reports} (ev_trips_reports : s.trips.reports = v_trips_reports) {v_trips_abandoned}
    (ev_trips_abandoned : s.trips.abandoned = v_trips_abandoned) {v_msgs_delivered}
    (ev_msgs_delivered : s.msgs.delivered = v_msgs_delivered)
    (hl : SizeOk s.path.buffer s.sched.acks s.sched.bids s.trips.pendingLog s.trips.reports s.trips.abandoned s.msgs.delivered) :
    SizeOk v_path_buffer v_sched_acks
          (State.exitJoined s).sched.bids v_trips_pendingLog v_trips_reports v_trips_abandoned v_msgs_delivered := by
  subst ev_path_buffer; subst ev_sched_acks; subst ev_trips_pendingLog; subst ev_trips_reports; subst ev_trips_abandoned; subst ev_msgs_delivered;
  obtain ⟨h1, h2, h3, h4, h5, h6, h7⟩ := hl
  simp [State.exitJoined, Scheduler.clearWorking, SizeOk, h1, h2, h3, h4, h5, h6, h7]

@[simp] theorem State.exitLink_sizes {s : State} {v_path_buffer} (ev_path_buffer : s.path.buffer = v_path_buffer) {v_sched_acks}
    (ev_sched_acks : s.sched.acks = v_sched_acks) {v_trips_pendingLog} (ev_trips_pendingLog : s.trips.pendingLog = v_trips_pendingLog)
    {v_trips_reports} (ev_trips_reports : s.trips.reports = v_trips_reports) {v_trips_abandoned}
    (ev_trips_abandoned : s.trips.abandoned = v_trips_abandoned) {v_msgs_delivered}
    (ev_msgs_delivered : s.msgs.delivered = v_msgs_delivered)
    (hl : SizeOk s.path.buffer s.sched.acks s.sched.bids s.trips.pendingLog s.trips.reports s.trips.abandoned s.msgs.delivered) :
    SizeOk v_path_buffer v_sched_acks
          (State.exitLink s).sched.bids v_trips_pendingLog v_trips_reports v_trips_abandoned v_msgs_delivered := by
  subst ev_path_buffer; subst ev_sched_acks; subst ev_trips_pendingLog; subst ev_trips_reports; subst ev_trips_abandoned; subst ev_msgs_delivered;
  unfold State.exitLink; (repeat' split) <;> simp (maxDischargeDepth := 12) [hl]

@[simp] theorem State.enterQuiet_sizes (b : Bool) {s : State} {v_path_buffer} (ev_path_buffer : s.path.buffer = v_path_buffer)
    {v_sched_acks} (ev_sched_acks : s.sched.acks = v_sched_acks) {v_trips_pendingLog}
    (ev_trips_pendingLog : s.trips.pendingLog = v_trips_pendingLog) {v_trips_reports}
    (ev_trips_reports : s.trips.reports = v_trips_reports) {v_trips_abandoned} (ev_trips_abandoned : s.trips.abandoned = v_trips_abandoned)
    {v_msgs_delivered} (ev_msgs_delivered : s.msgs.delivered = v_msgs_delivered)
    (hl : SizeOk s.path.buffer s.sched.acks s.sched.bids s.trips.pendingLog s.trips.reports s.trips.abandoned s.msgs.delivered) :
    SizeOk v_path_buffer v_sched_acks
          (State.enterQuiet b s).sched.bids v_trips_pendingLog v_trips_reports v_trips_abandoned v_msgs_delivered := by
  subst ev_path_buffer; subst ev_sched_acks; subst ev_trips_pendingLog; subst ev_trips_reports; subst ev_trips_abandoned; subst ev_msgs_delivered;
  unfold State.enterQuiet; dsimp only; (repeat' split) <;> simp (maxDischargeDepth := 12) [hl]

@[simp] theorem State.enterOff_sizes {s : State} {v_path_buffer} (ev_path_buffer : s.path.buffer = v_path_buffer) {v_sched_acks}
    (ev_sched_acks : s.sched.acks = v_sched_acks) {v_trips_pendingLog} (ev_trips_pendingLog : s.trips.pendingLog = v_trips_pendingLog)
    {v_trips_reports} (ev_trips_reports : s.trips.reports = v_trips_reports) {v_trips_abandoned}
    (ev_trips_abandoned : s.trips.abandoned = v_trips_abandoned) {v_msgs_delivered}
    (ev_msgs_delivered : s.msgs.delivered = v_msgs_delivered)
    (hl : SizeOk s.path.buffer s.sched.acks s.sched.bids s.trips.pendingLog s.trips.reports s.trips.abandoned s.msgs.delivered) :
    SizeOk v_path_buffer v_sched_acks
          (State.enterOff s).sched.bids v_trips_pendingLog v_trips_reports v_trips_abandoned v_msgs_delivered := by
  subst ev_path_buffer; subst ev_sched_acks; subst ev_trips_pendingLog; subst ev_trips_reports; subst ev_trips_abandoned; subst ev_msgs_delivered;
  unfold State.enterOff; (repeat' split) <;> simp (maxDischargeDepth := 12) [hl]

@[simp] theorem State.endPass_sizes {s : State} {v_path_buffer} (ev_path_buffer : s.path.buffer = v_path_buffer) {v_sched_acks}
    (ev_sched_acks : s.sched.acks = v_sched_acks) {v_trips_pendingLog} (ev_trips_pendingLog : s.trips.pendingLog = v_trips_pendingLog)
    {v_trips_reports} (ev_trips_reports : s.trips.reports = v_trips_reports) {v_trips_abandoned}
    (ev_trips_abandoned : s.trips.abandoned = v_trips_abandoned) {v_msgs_delivered}
    (ev_msgs_delivered : s.msgs.delivered = v_msgs_delivered)
    (hl : SizeOk s.path.buffer s.sched.acks s.sched.bids s.trips.pendingLog s.trips.reports s.trips.abandoned s.msgs.delivered) :
    SizeOk v_path_buffer v_sched_acks
          (State.endPass s).sched.bids v_trips_pendingLog v_trips_reports v_trips_abandoned v_msgs_delivered := by
  subst ev_path_buffer; subst ev_sched_acks; subst ev_trips_pendingLog; subst ev_trips_reports; subst ev_trips_abandoned; subst ev_msgs_delivered;
  unfold State.endPass; (repeat' split) <;> simp (maxDischargeDepth := 12) [hl]

@[simp] theorem State.candidateFails_sizes {s : State} {v_path_buffer} (ev_path_buffer : s.path.buffer = v_path_buffer) {v_sched_acks}
    (ev_sched_acks : s.sched.acks = v_sched_acks) {v_trips_pendingLog} (ev_trips_pendingLog : s.trips.pendingLog = v_trips_pendingLog)
    {v_trips_reports} (ev_trips_reports : s.trips.reports = v_trips_reports) {v_trips_abandoned}
    (ev_trips_abandoned : s.trips.abandoned = v_trips_abandoned) {v_msgs_delivered}
    (ev_msgs_delivered : s.msgs.delivered = v_msgs_delivered)
    (hl : SizeOk s.path.buffer s.sched.acks s.sched.bids s.trips.pendingLog s.trips.reports s.trips.abandoned s.msgs.delivered) :
    SizeOk v_path_buffer v_sched_acks
          (State.candidateFails s).sched.bids v_trips_pendingLog v_trips_reports v_trips_abandoned v_msgs_delivered := by
  subst ev_path_buffer; subst ev_sched_acks; subst ev_trips_pendingLog; subst ev_trips_reports; subst ev_trips_abandoned; subst ev_msgs_delivered;
  unfold State.candidateFails; dsimp only; (repeat' split) <;> simp (maxDischargeDepth := 12) [hl]

@[simp] theorem State.nextChannel_sizes {s : State} {v_path_buffer} (ev_path_buffer : s.path.buffer = v_path_buffer) {v_sched_acks}
    (ev_sched_acks : s.sched.acks = v_sched_acks) {v_trips_pendingLog} (ev_trips_pendingLog : s.trips.pendingLog = v_trips_pendingLog)
    {v_trips_reports} (ev_trips_reports : s.trips.reports = v_trips_reports) {v_trips_abandoned}
    (ev_trips_abandoned : s.trips.abandoned = v_trips_abandoned) {v_msgs_delivered}
    (ev_msgs_delivered : s.msgs.delivered = v_msgs_delivered)
    (hl : SizeOk s.path.buffer s.sched.acks s.sched.bids s.trips.pendingLog s.trips.reports s.trips.abandoned s.msgs.delivered) :
    SizeOk v_path_buffer v_sched_acks
          (State.nextChannel s).sched.bids v_trips_pendingLog v_trips_reports v_trips_abandoned v_msgs_delivered := by
  subst ev_path_buffer; subst ev_sched_acks; subst ev_trips_pendingLog; subst ev_trips_reports; subst ev_trips_abandoned; subst ev_msgs_delivered;
  unfold State.nextChannel; (repeat' split) <;> simp (maxDischargeDepth := 12) [hl]

@[simp] theorem State.huntBeacon_sizes (g : Bool) (n : Word) (a : Byte) {s : State} {v_path_buffer}
    (ev_path_buffer : s.path.buffer = v_path_buffer) {v_sched_acks} (ev_sched_acks : s.sched.acks = v_sched_acks) {v_trips_pendingLog}
    (ev_trips_pendingLog : s.trips.pendingLog = v_trips_pendingLog) {v_trips_reports}
    (ev_trips_reports : s.trips.reports = v_trips_reports) {v_trips_abandoned} (ev_trips_abandoned : s.trips.abandoned = v_trips_abandoned)
    {v_msgs_delivered} (ev_msgs_delivered : s.msgs.delivered = v_msgs_delivered)
    (hl : SizeOk s.path.buffer s.sched.acks s.sched.bids s.trips.pendingLog s.trips.reports s.trips.abandoned s.msgs.delivered) :
    SizeOk v_path_buffer v_sched_acks
          (State.huntBeacon g n a s).sched.bids v_trips_pendingLog v_trips_reports v_trips_abandoned v_msgs_delivered := by
  subst ev_path_buffer; subst ev_sched_acks; subst ev_trips_pendingLog; subst ev_trips_reports; subst ev_trips_abandoned; subst ev_msgs_delivered;
  unfold State.huntBeacon; dsimp only; (repeat' split) <;> simp (maxDischargeDepth := 12) [hl]

@[simp] theorem State.joinFails_sizes {s : State} {v_path_buffer} (ev_path_buffer : s.path.buffer = v_path_buffer) {v_sched_acks}
    (ev_sched_acks : s.sched.acks = v_sched_acks) {v_trips_pendingLog} (ev_trips_pendingLog : s.trips.pendingLog = v_trips_pendingLog)
    {v_trips_reports} (ev_trips_reports : s.trips.reports = v_trips_reports) {v_trips_abandoned}
    (ev_trips_abandoned : s.trips.abandoned = v_trips_abandoned) {v_msgs_delivered}
    (ev_msgs_delivered : s.msgs.delivered = v_msgs_delivered)
    (hl : SizeOk s.path.buffer s.sched.acks s.sched.bids s.trips.pendingLog s.trips.reports s.trips.abandoned s.msgs.delivered) :
    SizeOk v_path_buffer v_sched_acks
          (State.joinFails s).sched.bids v_trips_pendingLog v_trips_reports v_trips_abandoned v_msgs_delivered := by
  subst ev_path_buffer; subst ev_sched_acks; subst ev_trips_pendingLog; subst ev_trips_reports; subst ev_trips_abandoned; subst ev_msgs_delivered;
  unfold State.joinFails; (repeat' split) <;> simp (maxDischargeDepth := 12) [hl]

@[simp] theorem State.contenderFails_sizes (c : Contender) {s : State} {v_path_buffer} (ev_path_buffer : s.path.buffer = v_path_buffer)
    {v_sched_acks} (ev_sched_acks : s.sched.acks = v_sched_acks) {v_trips_pendingLog}
    (ev_trips_pendingLog : s.trips.pendingLog = v_trips_pendingLog) {v_trips_reports}
    (ev_trips_reports : s.trips.reports = v_trips_reports) {v_trips_abandoned} (ev_trips_abandoned : s.trips.abandoned = v_trips_abandoned)
    {v_msgs_delivered} (ev_msgs_delivered : s.msgs.delivered = v_msgs_delivered)
    (hl : SizeOk s.path.buffer s.sched.acks s.sched.bids s.trips.pendingLog s.trips.reports s.trips.abandoned s.msgs.delivered) :
    SizeOk v_path_buffer v_sched_acks
          (State.contenderFails c s).sched.bids v_trips_pendingLog v_trips_reports v_trips_abandoned v_msgs_delivered := by
  subst ev_path_buffer; subst ev_sched_acks; subst ev_trips_pendingLog; subst ev_trips_reports; subst ev_trips_abandoned; subst ev_msgs_delivered;
  unfold State.contenderFails; split
  · simp [hl]
  · simp [hl]
  · obtain ⟨h1, h2, h3, h4, h5, h6, h7⟩ := hl
    have hb : ∀ j, (s.sched.bidFails j).bids.length ≤ 4 :=
      fun j => Nat.le_trans (List.length_filter_le _ _) (by simpa using h3)
    simp [SizeOk, h1, h2, h3, h4, h5, h6, h7, hb]
  · simp [hl]

@[simp] theorem State.contentionOutcome_sizes (b : Bool) {s : State} {v_path_buffer} (ev_path_buffer : s.path.buffer = v_path_buffer)
    {v_sched_acks} (ev_sched_acks : s.sched.acks = v_sched_acks) {v_trips_pendingLog}
    (ev_trips_pendingLog : s.trips.pendingLog = v_trips_pendingLog) {v_trips_reports}
    (ev_trips_reports : s.trips.reports = v_trips_reports) {v_trips_abandoned} (ev_trips_abandoned : s.trips.abandoned = v_trips_abandoned)
    {v_msgs_delivered} (ev_msgs_delivered : s.msgs.delivered = v_msgs_delivered)
    (hl : SizeOk s.path.buffer s.sched.acks s.sched.bids s.trips.pendingLog s.trips.reports s.trips.abandoned s.msgs.delivered) :
    SizeOk v_path_buffer v_sched_acks
          (State.contentionOutcome b s).sched.bids v_trips_pendingLog v_trips_reports v_trips_abandoned v_msgs_delivered := by
  subst ev_path_buffer; subst ev_sched_acks; subst ev_trips_pendingLog; subst ev_trips_reports; subst ev_trips_abandoned; subst ev_msgs_delivered;
  have hb : ∀ (u : Scheduler) (c : Contender), u.bids.length ≤ 4 → (u.heard c).bids.length ≤ 4 := by
    intro u c h
    cases c <;> simp only [Scheduler.heard]
    · exact h
    · exact h
    · exact Nat.le_trans (Scheduler.dropBid_length ..) h
    · split <;> simpa using h
  unfold State.contentionOutcome; dsimp only; (repeat' split) <;> first
    | exact hl
    | (simp (maxDischargeDepth := 12) [hl]; done)
    | exact ⟨hl.1, hl.2.1, hb _ _ hl.2.2.1, hl.2.2.2⟩

@[simp] theorem State.missBeacon_sizes {s : State} {v_path_buffer} (ev_path_buffer : s.path.buffer = v_path_buffer) {v_sched_acks}
    (ev_sched_acks : s.sched.acks = v_sched_acks) {v_trips_pendingLog} (ev_trips_pendingLog : s.trips.pendingLog = v_trips_pendingLog)
    {v_trips_reports} (ev_trips_reports : s.trips.reports = v_trips_reports) {v_trips_abandoned}
    (ev_trips_abandoned : s.trips.abandoned = v_trips_abandoned) {v_msgs_delivered}
    (ev_msgs_delivered : s.msgs.delivered = v_msgs_delivered)
    (hl : SizeOk s.path.buffer s.sched.acks s.sched.bids s.trips.pendingLog s.trips.reports s.trips.abandoned s.msgs.delivered) :
    SizeOk v_path_buffer v_sched_acks
          (State.missBeacon s).sched.bids v_trips_pendingLog v_trips_reports v_trips_abandoned v_msgs_delivered := by
  subst ev_path_buffer; subst ev_sched_acks; subst ev_trips_pendingLog; subst ev_trips_reports; subst ev_trips_abandoned; subst ev_msgs_delivered;
  unfold State.missBeacon; dsimp only; (repeat' split) <;> simp (maxDischargeDepth := 12) [hl]

@[simp] theorem State.closeWindow_sizes {s : State} {v_path_buffer} (ev_path_buffer : s.path.buffer = v_path_buffer) {v_sched_acks}
    (ev_sched_acks : s.sched.acks = v_sched_acks) {v_trips_pendingLog} (ev_trips_pendingLog : s.trips.pendingLog = v_trips_pendingLog)
    {v_trips_reports} (ev_trips_reports : s.trips.reports = v_trips_reports) {v_trips_abandoned}
    (ev_trips_abandoned : s.trips.abandoned = v_trips_abandoned) {v_msgs_delivered}
    (ev_msgs_delivered : s.msgs.delivered = v_msgs_delivered)
    (hl : SizeOk s.path.buffer s.sched.acks s.sched.bids s.trips.pendingLog s.trips.reports s.trips.abandoned s.msgs.delivered) :
    SizeOk v_path_buffer v_sched_acks
          (State.closeWindow s).sched.bids v_trips_pendingLog v_trips_reports v_trips_abandoned v_msgs_delivered := by
  subst ev_path_buffer; subst ev_sched_acks; subst ev_trips_pendingLog; subst ev_trips_reports; subst ev_trips_abandoned; subst ev_msgs_delivered;
  unfold State.closeWindow; (repeat' split) <;> simp (maxDischargeDepth := 12) [hl]

@[simp] theorem State.startCycle_sizes {s : State} {v_path_buffer} (ev_path_buffer : s.path.buffer = v_path_buffer) {v_sched_acks}
    (ev_sched_acks : s.sched.acks = v_sched_acks) {v_trips_pendingLog} (ev_trips_pendingLog : s.trips.pendingLog = v_trips_pendingLog)
    {v_trips_reports} (ev_trips_reports : s.trips.reports = v_trips_reports) {v_trips_abandoned}
    (ev_trips_abandoned : s.trips.abandoned = v_trips_abandoned) {v_msgs_delivered}
    (ev_msgs_delivered : s.msgs.delivered = v_msgs_delivered)
    (hl : SizeOk s.path.buffer s.sched.acks s.sched.bids s.trips.pendingLog s.trips.reports s.trips.abandoned s.msgs.delivered) :
    SizeOk v_path_buffer v_sched_acks
          (State.startCycle s).sched.bids v_trips_pendingLog v_trips_reports v_trips_abandoned v_msgs_delivered := by
  subst ev_path_buffer; subst ev_sched_acks; subst ev_trips_pendingLog; subst ev_trips_reports; subst ev_trips_abandoned; subst ev_msgs_delivered;
  unfold State.startCycle; (repeat' split) <;> simp (maxDischargeDepth := 12) [hl]

@[simp] theorem State.takeBeacon_sizes (n : Word) (b : BeaconBody) {s : State} {v_path_buffer}
    (ev_path_buffer : s.path.buffer = v_path_buffer) {v_sched_acks} (ev_sched_acks : s.sched.acks = v_sched_acks) {v_trips_pendingLog}
    (ev_trips_pendingLog : s.trips.pendingLog = v_trips_pendingLog) {v_trips_reports}
    (ev_trips_reports : s.trips.reports = v_trips_reports) {v_trips_abandoned} (ev_trips_abandoned : s.trips.abandoned = v_trips_abandoned)
    {v_msgs_delivered} (ev_msgs_delivered : s.msgs.delivered = v_msgs_delivered)
    (hl : SizeOk s.path.buffer s.sched.acks s.sched.bids s.trips.pendingLog s.trips.reports s.trips.abandoned s.msgs.delivered) :
    SizeOk v_path_buffer v_sched_acks
          (State.takeBeacon n b s).sched.bids v_trips_pendingLog v_trips_reports v_trips_abandoned v_msgs_delivered := by
  subst ev_path_buffer; subst ev_sched_acks; subst ev_trips_pendingLog; subst ev_trips_reports; subst ev_trips_abandoned; subst ev_msgs_delivered;
  unfold State.takeBeacon; dsimp only; (repeat' split) <;> simp (maxDischargeDepth := 12) [hl]

@[simp] theorem State.joinGrantWaitEnds_sizes {s : State} {v_path_buffer} (ev_path_buffer : s.path.buffer = v_path_buffer) {v_sched_acks}
    (ev_sched_acks : s.sched.acks = v_sched_acks) {v_trips_pendingLog} (ev_trips_pendingLog : s.trips.pendingLog = v_trips_pendingLog)
    {v_trips_reports} (ev_trips_reports : s.trips.reports = v_trips_reports) {v_trips_abandoned}
    (ev_trips_abandoned : s.trips.abandoned = v_trips_abandoned) {v_msgs_delivered}
    (ev_msgs_delivered : s.msgs.delivered = v_msgs_delivered)
    (hl : SizeOk s.path.buffer s.sched.acks s.sched.bids s.trips.pendingLog s.trips.reports s.trips.abandoned s.msgs.delivered) :
    SizeOk v_path_buffer v_sched_acks
          (State.joinGrantWaitEnds s).sched.bids v_trips_pendingLog v_trips_reports v_trips_abandoned v_msgs_delivered := by
  subst ev_path_buffer; subst ev_sched_acks; subst ev_trips_pendingLog; subst ev_trips_reports; subst ev_trips_abandoned; subst ev_msgs_delivered;
  unfold State.joinGrantWaitEnds; (repeat' split) <;> simp (maxDischargeDepth := 12) [hl]

@[simp] theorem State.enterActive_sizes {s : State} {v_path_buffer} (ev_path_buffer : s.path.buffer = v_path_buffer) {v_sched_acks}
    (ev_sched_acks : s.sched.acks = v_sched_acks) {v_trips_pendingLog} (ev_trips_pendingLog : s.trips.pendingLog = v_trips_pendingLog)
    {v_trips_reports} (ev_trips_reports : s.trips.reports = v_trips_reports) {v_trips_abandoned}
    (ev_trips_abandoned : s.trips.abandoned = v_trips_abandoned) {v_msgs_delivered}
    (ev_msgs_delivered : s.msgs.delivered = v_msgs_delivered)
    (hl : SizeOk s.path.buffer s.sched.acks s.sched.bids s.trips.pendingLog s.trips.reports s.trips.abandoned s.msgs.delivered) :
    SizeOk v_path_buffer v_sched_acks
          (State.enterActive s).sched.bids v_trips_pendingLog v_trips_reports v_trips_abandoned v_msgs_delivered := by
  subst ev_path_buffer; subst ev_sched_acks; subst ev_trips_pendingLog; subst ev_trips_reports; subst ev_trips_abandoned; subst ev_msgs_delivered;
  unfold State.enterActive; (repeat' split) <;> simp (maxDischargeDepth := 12) [hl]

@[simp] theorem State.wakeEvent_sizes (w : WakeSource) {s : State} {v_path_buffer} (ev_path_buffer : s.path.buffer = v_path_buffer)
    {v_sched_acks} (ev_sched_acks : s.sched.acks = v_sched_acks) {v_trips_pendingLog}
    (ev_trips_pendingLog : s.trips.pendingLog = v_trips_pendingLog) {v_trips_reports}
    (ev_trips_reports : s.trips.reports = v_trips_reports) {v_trips_abandoned} (ev_trips_abandoned : s.trips.abandoned = v_trips_abandoned)
    {v_msgs_delivered} (ev_msgs_delivered : s.msgs.delivered = v_msgs_delivered)
    (hl : SizeOk s.path.buffer s.sched.acks s.sched.bids s.trips.pendingLog s.trips.reports s.trips.abandoned s.msgs.delivered) :
    SizeOk v_path_buffer v_sched_acks
          (State.wakeEvent w s).sched.bids v_trips_pendingLog v_trips_reports v_trips_abandoned v_msgs_delivered := by
  subst ev_path_buffer; subst ev_sched_acks; subst ev_trips_pendingLog; subst ev_trips_reports; subst ev_trips_abandoned; subst ev_msgs_delivered;
  unfold State.wakeEvent; (repeat' split) <;> simp (maxDischargeDepth := 12) [hl]

@[simp] theorem State.enterSleep_sizes {s : State} {v_path_buffer} (ev_path_buffer : s.path.buffer = v_path_buffer) {v_sched_acks}
    (ev_sched_acks : s.sched.acks = v_sched_acks) {v_trips_pendingLog} (ev_trips_pendingLog : s.trips.pendingLog = v_trips_pendingLog)
    {v_trips_reports} (ev_trips_reports : s.trips.reports = v_trips_reports) {v_trips_abandoned}
    (ev_trips_abandoned : s.trips.abandoned = v_trips_abandoned) {v_msgs_delivered}
    (ev_msgs_delivered : s.msgs.delivered = v_msgs_delivered)
    (hl : SizeOk s.path.buffer s.sched.acks s.sched.bids s.trips.pendingLog s.trips.reports s.trips.abandoned s.msgs.delivered) :
    SizeOk v_path_buffer v_sched_acks
          (State.enterSleep s).sched.bids v_trips_pendingLog v_trips_reports v_trips_abandoned v_msgs_delivered := by
  subst ev_path_buffer; subst ev_sched_acks; subst ev_trips_pendingLog; subst ev_trips_reports; subst ev_trips_abandoned; subst ev_msgs_delivered;
  unfold State.enterSleep; (repeat' split) <;> simp (maxDischargeDepth := 12) [hl]

@[simp] theorem State.endParking_sizes {s : State} {v_path_buffer} (ev_path_buffer : s.path.buffer = v_path_buffer) {v_sched_acks}
    (ev_sched_acks : s.sched.acks = v_sched_acks) {v_trips_pendingLog} (ev_trips_pendingLog : s.trips.pendingLog = v_trips_pendingLog)
    {v_trips_reports} (ev_trips_reports : s.trips.reports = v_trips_reports) {v_trips_abandoned}
    (ev_trips_abandoned : s.trips.abandoned = v_trips_abandoned) {v_msgs_delivered}
    (ev_msgs_delivered : s.msgs.delivered = v_msgs_delivered)
    (hl : SizeOk s.path.buffer s.sched.acks s.sched.bids s.trips.pendingLog s.trips.reports s.trips.abandoned s.msgs.delivered) :
    SizeOk v_path_buffer v_sched_acks
          (State.endParking s).sched.bids v_trips_pendingLog v_trips_reports v_trips_abandoned v_msgs_delivered := by
  subst ev_path_buffer; subst ev_sched_acks; subst ev_trips_pendingLog; subst ev_trips_reports; subst ev_trips_abandoned; subst ev_msgs_delivered;
  unfold State.endParking; (repeat' split) <;> simp (maxDischargeDepth := 12) [hl]

@[simp] theorem State.statusSent_sizes (b : Bool) {s : State} {v_path_buffer} (ev_path_buffer : s.path.buffer = v_path_buffer)
    {v_sched_acks} (ev_sched_acks : s.sched.acks = v_sched_acks) {v_trips_pendingLog}
    (ev_trips_pendingLog : s.trips.pendingLog = v_trips_pendingLog) {v_trips_reports}
    (ev_trips_reports : s.trips.reports = v_trips_reports) {v_trips_abandoned} (ev_trips_abandoned : s.trips.abandoned = v_trips_abandoned)
    {v_msgs_delivered} (ev_msgs_delivered : s.msgs.delivered = v_msgs_delivered)
    (hl : SizeOk s.path.buffer s.sched.acks s.sched.bids s.trips.pendingLog s.trips.reports s.trips.abandoned s.msgs.delivered) :
    SizeOk v_path_buffer v_sched_acks
          (State.statusSent b s).sched.bids v_trips_pendingLog v_trips_reports v_trips_abandoned v_msgs_delivered := by
  subst ev_path_buffer; subst ev_sched_acks; subst ev_trips_pendingLog; subst ev_trips_reports; subst ev_trips_abandoned; subst ev_msgs_delivered;
  unfold State.statusSent; (repeat' split) <;> simp (maxDischargeDepth := 12) [hl]

@[simp] theorem State.powerChange_sizes (w : Word) {s : State} {v_path_buffer} (ev_path_buffer : s.path.buffer = v_path_buffer)
    {v_sched_acks} (ev_sched_acks : s.sched.acks = v_sched_acks) {v_trips_pendingLog}
    (ev_trips_pendingLog : s.trips.pendingLog = v_trips_pendingLog) {v_trips_reports}
    (ev_trips_reports : s.trips.reports = v_trips_reports) {v_trips_abandoned} (ev_trips_abandoned : s.trips.abandoned = v_trips_abandoned)
    {v_msgs_delivered} (ev_msgs_delivered : s.msgs.delivered = v_msgs_delivered)
    (hl : SizeOk s.path.buffer s.sched.acks s.sched.bids s.trips.pendingLog s.trips.reports s.trips.abandoned s.msgs.delivered) :
    SizeOk v_path_buffer v_sched_acks
          (State.powerChange w s).sched.bids v_trips_pendingLog v_trips_reports v_trips_abandoned v_msgs_delivered := by
  subst ev_path_buffer; subst ev_sched_acks; subst ev_trips_pendingLog; subst ev_trips_reports; subst ev_trips_abandoned; subst ev_msgs_delivered;
  unfold State.powerChange; (repeat' split) <;> simp (maxDischargeDepth := 12) [hl]

@[simp] theorem State.powerRequest_sizes (l : Lanes) (d : Word) {s : State} {v_path_buffer}
    (ev_path_buffer : s.path.buffer = v_path_buffer) {v_sched_acks} (ev_sched_acks : s.sched.acks = v_sched_acks) {v_trips_pendingLog}
    (ev_trips_pendingLog : s.trips.pendingLog = v_trips_pendingLog) {v_trips_reports}
    (ev_trips_reports : s.trips.reports = v_trips_reports) {v_trips_abandoned} (ev_trips_abandoned : s.trips.abandoned = v_trips_abandoned)
    {v_msgs_delivered} (ev_msgs_delivered : s.msgs.delivered = v_msgs_delivered)
    (hl : SizeOk s.path.buffer s.sched.acks s.sched.bids s.trips.pendingLog s.trips.reports s.trips.abandoned s.msgs.delivered) :
    SizeOk v_path_buffer v_sched_acks
          (State.powerRequest l d s).sched.bids v_trips_pendingLog v_trips_reports v_trips_abandoned v_msgs_delivered := by
  subst ev_path_buffer; subst ev_sched_acks; subst ev_trips_pendingLog; subst ev_trips_reports; subst ev_trips_abandoned; subst ev_msgs_delivered;
  unfold State.powerRequest; dsimp only; (repeat' split) <;> simp (maxDischargeDepth := 12) [hl]

@[simp] theorem State.alertingHandOn_sizes {s : State} {v_path_buffer} (ev_path_buffer : s.path.buffer = v_path_buffer) {v_sched_acks}
    (ev_sched_acks : s.sched.acks = v_sched_acks) {v_trips_pendingLog} (ev_trips_pendingLog : s.trips.pendingLog = v_trips_pendingLog)
    {v_trips_reports} (ev_trips_reports : s.trips.reports = v_trips_reports) {v_trips_abandoned}
    (ev_trips_abandoned : s.trips.abandoned = v_trips_abandoned) {v_msgs_delivered}
    (ev_msgs_delivered : s.msgs.delivered = v_msgs_delivered)
    (hl : SizeOk s.path.buffer s.sched.acks s.sched.bids s.trips.pendingLog s.trips.reports s.trips.abandoned s.msgs.delivered) :
    SizeOk v_path_buffer v_sched_acks
          (State.alertingHandOn s).sched.bids v_trips_pendingLog v_trips_reports v_trips_abandoned v_msgs_delivered := by
  subst ev_path_buffer; subst ev_sched_acks; subst ev_trips_pendingLog; subst ev_trips_reports; subst ev_trips_abandoned; subst ev_msgs_delivered;
  unfold State.alertingHandOn; (repeat' split) <;> simp (maxDischargeDepth := 12) [hl]

@[simp] theorem State.enterAlerting_sizes (x : Source) {s : State} {v_path_buffer} (ev_path_buffer : s.path.buffer = v_path_buffer)
    {v_sched_acks} (ev_sched_acks : s.sched.acks = v_sched_acks) {v_trips_pendingLog}
    (ev_trips_pendingLog : s.trips.pendingLog = v_trips_pendingLog) {v_trips_reports}
    (ev_trips_reports : s.trips.reports = v_trips_reports) {v_trips_abandoned} (ev_trips_abandoned : s.trips.abandoned = v_trips_abandoned)
    {v_msgs_delivered} (ev_msgs_delivered : s.msgs.delivered = v_msgs_delivered)
    (hl : SizeOk s.path.buffer s.sched.acks s.sched.bids s.trips.pendingLog s.trips.reports s.trips.abandoned s.msgs.delivered) :
    SizeOk v_path_buffer v_sched_acks
          (State.enterAlerting x s).sched.bids v_trips_pendingLog v_trips_reports v_trips_abandoned v_msgs_delivered := by
  subst ev_path_buffer; subst ev_sched_acks; subst ev_trips_pendingLog; subst ev_trips_reports; subst ev_trips_abandoned; subst ev_msgs_delivered;
  unfold State.enterAlerting; (repeat' split) <;> simp (maxDischargeDepth := 12) [hl]

@[simp] theorem State.takeClosing_sizes {s : State} {v_path_buffer} (ev_path_buffer : s.path.buffer = v_path_buffer) {v_sched_acks}
    (ev_sched_acks : s.sched.acks = v_sched_acks) {v_trips_pendingLog} (ev_trips_pendingLog : s.trips.pendingLog = v_trips_pendingLog)
    {v_trips_reports} (ev_trips_reports : s.trips.reports = v_trips_reports) {v_trips_abandoned}
    (ev_trips_abandoned : s.trips.abandoned = v_trips_abandoned) {v_msgs_delivered}
    (ev_msgs_delivered : s.msgs.delivered = v_msgs_delivered)
    (hl : SizeOk s.path.buffer s.sched.acks s.sched.bids s.trips.pendingLog s.trips.reports s.trips.abandoned s.msgs.delivered) :
    SizeOk v_path_buffer v_sched_acks
          (State.takeClosing s).sched.bids v_trips_pendingLog v_trips_reports v_trips_abandoned v_msgs_delivered := by
  subst ev_path_buffer; subst ev_sched_acks; subst ev_trips_pendingLog; subst ev_trips_reports; subst ev_trips_abandoned; subst ev_msgs_delivered;
  unfold State.takeClosing; dsimp only; (repeat' split) <;> simp (maxDischargeDepth := 12) [hl]

@[simp] theorem State.holdEnds_sizes {s : State} {v_path_buffer} (ev_path_buffer : s.path.buffer = v_path_buffer) {v_sched_acks}
    (ev_sched_acks : s.sched.acks = v_sched_acks) {v_trips_pendingLog} (ev_trips_pendingLog : s.trips.pendingLog = v_trips_pendingLog)
    {v_trips_reports} (ev_trips_reports : s.trips.reports = v_trips_reports) {v_trips_abandoned}
    (ev_trips_abandoned : s.trips.abandoned = v_trips_abandoned) {v_msgs_delivered}
    (ev_msgs_delivered : s.msgs.delivered = v_msgs_delivered)
    (hl : SizeOk s.path.buffer s.sched.acks s.sched.bids s.trips.pendingLog s.trips.reports s.trips.abandoned s.msgs.delivered) :
    SizeOk v_path_buffer v_sched_acks
          (State.holdEnds s).sched.bids v_trips_pendingLog v_trips_reports v_trips_abandoned v_msgs_delivered := by
  subst ev_path_buffer; subst ev_sched_acks; subst ev_trips_pendingLog; subst ev_trips_reports; subst ev_trips_abandoned; subst ev_msgs_delivered;
  unfold State.holdEnds; (repeat' split) <;> simp (maxDischargeDepth := 12) [hl]

@[simp] theorem State.emergencyRaiseWrite_sizes (l : Lanes) (d : Word) {s : State} {v_path_buffer}
    (ev_path_buffer : s.path.buffer = v_path_buffer) {v_sched_acks} (ev_sched_acks : s.sched.acks = v_sched_acks) {v_trips_pendingLog}
    (ev_trips_pendingLog : s.trips.pendingLog = v_trips_pendingLog) {v_trips_reports}
    (ev_trips_reports : s.trips.reports = v_trips_reports) {v_trips_abandoned} (ev_trips_abandoned : s.trips.abandoned = v_trips_abandoned)
    {v_msgs_delivered} (ev_msgs_delivered : s.msgs.delivered = v_msgs_delivered)
    (hl : SizeOk s.path.buffer s.sched.acks s.sched.bids s.trips.pendingLog s.trips.reports s.trips.abandoned s.msgs.delivered) :
    SizeOk v_path_buffer v_sched_acks
          (State.emergencyRaiseWrite l d s).sched.bids v_trips_pendingLog v_trips_reports v_trips_abandoned v_msgs_delivered := by
  subst ev_path_buffer; subst ev_sched_acks; subst ev_trips_pendingLog; subst ev_trips_reports; subst ev_trips_abandoned; subst ev_msgs_delivered;
  unfold State.emergencyRaiseWrite; dsimp only; (repeat' split) <;> simp (maxDischargeDepth := 12) [hl]

@[simp] theorem State.recover_sizes (j : RecordJudgment) {s : State} {v_path_buffer} (ev_path_buffer : s.path.buffer = v_path_buffer)
    {v_sched_acks} (ev_sched_acks : s.sched.acks = v_sched_acks) {v_trips_pendingLog}
    (ev_trips_pendingLog : s.trips.pendingLog = v_trips_pendingLog) {v_trips_reports}
    (ev_trips_reports : s.trips.reports = v_trips_reports) {v_trips_abandoned} (ev_trips_abandoned : s.trips.abandoned = v_trips_abandoned)
    {v_msgs_delivered} (ev_msgs_delivered : s.msgs.delivered = v_msgs_delivered)
    (hl : SizeOk s.path.buffer s.sched.acks s.sched.bids s.trips.pendingLog s.trips.reports s.trips.abandoned s.msgs.delivered) :
    SizeOk v_path_buffer v_sched_acks
          (State.recover j s).sched.bids v_trips_pendingLog v_trips_reports v_trips_abandoned v_msgs_delivered := by
  subst ev_path_buffer; subst ev_sched_acks; subst ev_trips_pendingLog; subst ev_trips_reports; subst ev_trips_abandoned; subst ev_msgs_delivered;
  unfold State.recover; (repeat' split) <;> simp (maxDischargeDepth := 12) [hl]

@[simp] theorem State.closeShift_sizes {s : State} {v_path_buffer} (ev_path_buffer : s.path.buffer = v_path_buffer) {v_sched_acks}
    (ev_sched_acks : s.sched.acks = v_sched_acks) {v_trips_pendingLog} (ev_trips_pendingLog : s.trips.pendingLog = v_trips_pendingLog)
    {v_trips_reports} (ev_trips_reports : s.trips.reports = v_trips_reports) {v_trips_abandoned}
    (ev_trips_abandoned : s.trips.abandoned = v_trips_abandoned) {v_msgs_delivered}
    (ev_msgs_delivered : s.msgs.delivered = v_msgs_delivered)
    (hl : SizeOk s.path.buffer s.sched.acks s.sched.bids s.trips.pendingLog s.trips.reports s.trips.abandoned s.msgs.delivered) :
    SizeOk v_path_buffer v_sched_acks
          (State.closeShift s).sched.bids v_trips_pendingLog v_trips_reports v_trips_abandoned v_msgs_delivered := by
  subst ev_path_buffer; subst ev_sched_acks; subst ev_trips_pendingLog; subst ev_trips_reports; subst ev_trips_abandoned; subst ev_msgs_delivered;
  unfold State.closeShift; (repeat' split) <;> simp (maxDischargeDepth := 12) [hl]

@[simp] theorem State.shiftControl_sizes (l : Lanes) (d : Word) {s : State} {v_path_buffer}
    (ev_path_buffer : s.path.buffer = v_path_buffer) {v_sched_acks} (ev_sched_acks : s.sched.acks = v_sched_acks) {v_msgs_delivered}
    (ev_msgs_delivered : s.msgs.delivered = v_msgs_delivered)
    (hl : SizeOk s.path.buffer s.sched.acks s.sched.bids s.trips.pendingLog s.trips.reports s.trips.abandoned s.msgs.delivered) :
    SizeOk v_path_buffer v_sched_acks (State.shiftControl l d s).sched.bids (State.shiftControl l d s).trips.pendingLog
          (State.shiftControl l d s).trips.reports (State.shiftControl l d s).trips.abandoned v_msgs_delivered := by
  subst ev_path_buffer; subst ev_sched_acks; subst ev_msgs_delivered;
  unfold State.shiftControl; dsimp only; (repeat' split) <;> simp (maxDischargeDepth := 12) [hl]

@[simp] theorem State.takeWatched_sizes (f : Field) (l : Lanes) (d : Word) {s : State}
    (hl : SizeOk s.path.buffer s.sched.acks s.sched.bids s.trips.pendingLog s.trips.reports s.trips.abandoned s.msgs.delivered) :
    SizeOk (State.takeWatched f l d s).path.buffer (State.takeWatched f l d s).sched.acks (State.takeWatched f l d s).sched.bids
          (State.takeWatched f l d s).trips.pendingLog (State.takeWatched f l d s).trips.reports
          (State.takeWatched f l d s).trips.abandoned (State.takeWatched f l d s).msgs.delivered := by
  unfold State.takeWatched; (repeat' split) <;> simp (maxDischargeDepth := 12) [hl]

@[simp] theorem State.acceptWrite_sizes (a : BitVec 19) (l : Lanes) (d : Word) (p : MemoryPath) {s : State}
    (hp : SizeOk p.buffer s.sched.acks s.sched.bids s.trips.pendingLog s.trips.reports s.trips.abandoned s.msgs.delivered) :
    SizeOk (State.acceptWrite a l d p s).path.buffer (State.acceptWrite a l d p s).sched.acks (State.acceptWrite a l d p s).sched.bids
          (State.acceptWrite a l d p s).trips.pendingLog (State.acceptWrite a l d p s).trips.reports
          (State.acceptWrite a l d p s).trips.abandoned (State.acceptWrite a l d p s).msgs.delivered := by
  unfold State.acceptWrite; dsimp only; (repeat' split) <;> simp (maxDischargeDepth := 12) [hp]

@[simp] theorem State.answerRead_sizes (a : BitVec 19) (l : Lanes) {s : State} {v_sched_acks} (ev_sched_acks : s.sched.acks = v_sched_acks)
    {v_sched_bids} (ev_sched_bids : s.sched.bids = v_sched_bids) {v_msgs_delivered}
    (ev_msgs_delivered : s.msgs.delivered = v_msgs_delivered)
    (hl : SizeOk s.path.buffer s.sched.acks s.sched.bids s.trips.pendingLog s.trips.reports s.trips.abandoned s.msgs.delivered) :
    SizeOk (State.answerRead a l s).path.buffer v_sched_acks v_sched_bids (State.answerRead a l s).trips.pendingLog
          (State.answerRead a l s).trips.reports (State.answerRead a l s).trips.abandoned v_msgs_delivered := by
  subst ev_sched_acks; subst ev_sched_bids; subst ev_msgs_delivered;
  unfold State.answerRead; dsimp only; (repeat' split) <;> simp (maxDischargeDepth := 12) [hl]

@[simp] theorem State.hold_sizes (h : HeldCycle) {s : State} {v_sched_acks} (ev_sched_acks : s.sched.acks = v_sched_acks) {v_sched_bids}
    (ev_sched_bids : s.sched.bids = v_sched_bids) {v_trips_pendingLog} (ev_trips_pendingLog : s.trips.pendingLog = v_trips_pendingLog)
    {v_trips_reports} (ev_trips_reports : s.trips.reports = v_trips_reports) {v_trips_abandoned}
    (ev_trips_abandoned : s.trips.abandoned = v_trips_abandoned) {v_msgs_delivered}
    (ev_msgs_delivered : s.msgs.delivered = v_msgs_delivered)
    (hl : SizeOk s.path.buffer s.sched.acks s.sched.bids s.trips.pendingLog s.trips.reports s.trips.abandoned s.msgs.delivered) :
    SizeOk (State.hold h s).path.buffer v_sched_acks v_sched_bids v_trips_pendingLog v_trips_reports v_trips_abandoned v_msgs_delivered := by
  subst ev_sched_acks; subst ev_sched_bids; subst ev_trips_pendingLog; subst ev_trips_reports; subst ev_trips_abandoned; subst ev_msgs_delivered;
  unfold State.hold; (repeat' split) <;> simp (maxDischargeDepth := 12) [hl]

theorem State.processorWrite?_sizes {a : BitVec 19} {l : Lanes} {d : Word} {s t : State}
    (h : s.processorWrite? a l d = some t)
          (hl : SizeOk s.path.buffer s.sched.acks s.sched.bids s.trips.pendingLog s.trips.reports s.trips.abandoned s.msgs.delivered) : SizeOk t.path.buffer t.sched.acks t.sched.bids t.trips.pendingLog t.trips.reports t.trips.abandoned t.msgs.delivered := by
  unfold State.processorWrite? at h; dsimp only at h; split at h
  · simp only [Option.map_eq_some_iff] at h
    obtain ⟨p, hp, rfl⟩ := h
    exact State.acceptWrite_sizes _ _ _ _ ⟨(MemoryPath.post_eq hp).2 hl.1, hl.2⟩
  · cases h
    exact State.acceptWrite_sizes _ _ _ _ hl

theorem State.attempt_sizes {h : HeldCycle} {s t : State} (e : s.attempt h = .done t)
    (hl : SizeOk s.path.buffer s.sched.acks s.sched.bids s.trips.pendingLog s.trips.reports s.trips.abandoned s.msgs.delivered) : SizeOk t.path.buffer t.sched.acks t.sched.bids t.trips.pendingLog t.trips.reports t.trips.abandoned t.msgs.delivered := by
  unfold State.attempt at e
  split at e
  · split at e
    · rename_i w; cases e; exact State.processorWrite?_sizes w hl
    · cases e
  · split at e
    · cases e
    · split at e
      · cases e
      · cases e; simp (maxDischargeDepth := 12) [hl]

@[simp] theorem State.processorCycle_sizes (c : BusCycle) {s : State}
    (hl : SizeOk s.path.buffer s.sched.acks s.sched.bids s.trips.pendingLog s.trips.reports s.trips.abandoned s.msgs.delivered) :
    SizeOk (State.processorCycle c s).path.buffer (State.processorCycle c s).sched.acks (State.processorCycle c s).sched.bids
          (State.processorCycle c s).trips.pendingLog (State.processorCycle c s).trips.reports (State.processorCycle c s).trips.abandoned
          (State.processorCycle c s).msgs.delivered := by
  unfold State.processorCycle; split
  · simp [hl]
  · split
    · rename_i e; exact State.attempt_sizes e hl
    · simp [hl]

@[simp] theorem State.serviceList_sizes (hs : List HeldCycle) {s : State}
    (hl : SizeOk s.path.buffer s.sched.acks s.sched.bids s.trips.pendingLog s.trips.reports s.trips.abandoned s.msgs.delivered) :
    SizeOk (State.serviceList hs s).path.buffer (State.serviceList hs s).sched.acks (State.serviceList hs s).sched.bids
          (State.serviceList hs s).trips.pendingLog (State.serviceList hs s).trips.reports (State.serviceList hs s).trips.abandoned
          (State.serviceList hs s).msgs.delivered := by
  induction hs generalizing s with
  | nil => unfold State.serviceList; simp (maxDischargeDepth := 12) [hl]
  | cons h rest ih =>
    unfold State.serviceList; split
    · simp (maxDischargeDepth := 12) [hl]
    · split
      · rename_i t e; exact ih (State.attempt_sizes e hl)
      · simp (maxDischargeDepth := 12) [hl]

@[simp] theorem State.service_sizes {s : State}
    (hl : SizeOk s.path.buffer s.sched.acks s.sched.bids s.trips.pendingLog s.trips.reports s.trips.abandoned s.msgs.delivered) :
    SizeOk (State.service s).path.buffer (State.service s).sched.acks (State.service s).sched.bids (State.service s).trips.pendingLog
          (State.service s).trips.reports (State.service s).trips.abandoned (State.service s).msgs.delivered := by
  unfold State.service; (repeat' split) <;> simp (maxDischargeDepth := 12) [hl]

@[simp] theorem State.startDrain_sizes {s : State} {v_sched_acks} (ev_sched_acks : s.sched.acks = v_sched_acks) {v_sched_bids}
    (ev_sched_bids : s.sched.bids = v_sched_bids) {v_trips_pendingLog} (ev_trips_pendingLog : s.trips.pendingLog = v_trips_pendingLog)
    {v_trips_reports} (ev_trips_reports : s.trips.reports = v_trips_reports) {v_trips_abandoned}
    (ev_trips_abandoned : s.trips.abandoned = v_trips_abandoned) {v_msgs_delivered}
    (ev_msgs_delivered : s.msgs.delivered = v_msgs_delivered)
    (hl : SizeOk s.path.buffer s.sched.acks s.sched.bids s.trips.pendingLog s.trips.reports s.trips.abandoned s.msgs.delivered) :
    SizeOk (State.startDrain s).path.buffer v_sched_acks v_sched_bids v_trips_pendingLog v_trips_reports v_trips_abandoned v_msgs_delivered := by
  subst ev_sched_acks; subst ev_sched_bids; subst ev_trips_pendingLog; subst ev_trips_reports; subst ev_trips_abandoned; subst ev_msgs_delivered;
  unfold State.startDrain; (repeat' split) <;> simp (maxDischargeDepth := 12) [hl]

@[simp] theorem State.completeDrain_sizes {s : State}
    (hl : SizeOk s.path.buffer s.sched.acks s.sched.bids s.trips.pendingLog s.trips.reports s.trips.abandoned s.msgs.delivered) :
    SizeOk (State.completeDrain s).path.buffer (State.completeDrain s).sched.acks (State.completeDrain s).sched.bids
          (State.completeDrain s).trips.pendingLog (State.completeDrain s).trips.reports (State.completeDrain s).trips.abandoned
          (State.completeDrain s).msgs.delivered := by
  have hd : ∀ l : List PostEntry, l.length ≤ 4 → (l.drop 1).length ≤ 4 := by intro l h; simp; omega
  obtain ⟨h1, h2, h3, h4, h5, h6, h7⟩ := hl
  have := hd _ h1
  unfold State.completeDrain; (repeat' split) <;> simp (maxDischargeDepth := 12) [SizeOk, MemoryPath.drained, *]
  all_goals exact State.service_sizes (by simp_all [SizeOk])

@[simp] theorem State.startOperation_sizes {s : State} {v_sched_acks} (ev_sched_acks : s.sched.acks = v_sched_acks) {v_sched_bids}
    (ev_sched_bids : s.sched.bids = v_sched_bids) {v_trips_pendingLog} (ev_trips_pendingLog : s.trips.pendingLog = v_trips_pendingLog)
    {v_trips_reports} (ev_trips_reports : s.trips.reports = v_trips_reports) {v_trips_abandoned}
    (ev_trips_abandoned : s.trips.abandoned = v_trips_abandoned) {v_msgs_delivered}
    (ev_msgs_delivered : s.msgs.delivered = v_msgs_delivered)
    (hl : SizeOk s.path.buffer s.sched.acks s.sched.bids s.trips.pendingLog s.trips.reports s.trips.abandoned s.msgs.delivered) :
    SizeOk (State.startOperation s).path.buffer v_sched_acks v_sched_bids v_trips_pendingLog v_trips_reports v_trips_abandoned v_msgs_delivered := by
  subst ev_sched_acks; subst ev_sched_bids; subst ev_trips_pendingLog; subst ev_trips_reports; subst ev_trips_abandoned; subst ev_msgs_delivered;
  unfold State.startOperation; (repeat' split) <;> simp (maxDischargeDepth := 12) [hl]

@[simp] theorem State.endOperation_sizes {s : State} {v_sched_acks} (ev_sched_acks : s.sched.acks = v_sched_acks) {v_sched_bids}
    (ev_sched_bids : s.sched.bids = v_sched_bids) {v_trips_pendingLog} (ev_trips_pendingLog : s.trips.pendingLog = v_trips_pendingLog)
    {v_trips_reports} (ev_trips_reports : s.trips.reports = v_trips_reports) {v_trips_abandoned}
    (ev_trips_abandoned : s.trips.abandoned = v_trips_abandoned) {v_msgs_delivered}
    (ev_msgs_delivered : s.msgs.delivered = v_msgs_delivered)
    (hl : SizeOk s.path.buffer s.sched.acks s.sched.bids s.trips.pendingLog s.trips.reports s.trips.abandoned s.msgs.delivered) :
    SizeOk (State.endOperation s).path.buffer v_sched_acks v_sched_bids v_trips_pendingLog v_trips_reports v_trips_abandoned v_msgs_delivered := by
  subst ev_sched_acks; subst ev_sched_bids; subst ev_trips_pendingLog; subst ev_trips_reports; subst ev_trips_abandoned; subst ev_msgs_delivered;
  unfold State.endOperation; (repeat' split) <;> simp (maxDischargeDepth := 12) [hl]

@[simp] theorem State.afterCycle_sizes {s : State} {v_sched_acks} (ev_sched_acks : s.sched.acks = v_sched_acks) {v_sched_bids}
    (ev_sched_bids : s.sched.bids = v_sched_bids) {v_trips_pendingLog} (ev_trips_pendingLog : s.trips.pendingLog = v_trips_pendingLog)
    {v_trips_reports} (ev_trips_reports : s.trips.reports = v_trips_reports) {v_trips_abandoned}
    (ev_trips_abandoned : s.trips.abandoned = v_trips_abandoned) {v_msgs_delivered}
    (ev_msgs_delivered : s.msgs.delivered = v_msgs_delivered)
    (hl : SizeOk s.path.buffer s.sched.acks s.sched.bids s.trips.pendingLog s.trips.reports s.trips.abandoned s.msgs.delivered) :
    SizeOk (State.afterCycle s).path.buffer v_sched_acks v_sched_bids v_trips_pendingLog v_trips_reports v_trips_abandoned v_msgs_delivered := by
  subst ev_sched_acks; subst ev_sched_bids; subst ev_trips_pendingLog; subst ev_trips_reports; subst ev_trips_abandoned; subst ev_msgs_delivered;
  unfold State.afterCycle; (repeat' split) <;> simp (maxDischargeDepth := 12) [hl]

@[simp] theorem State.internalCycle_sizes {s : State}
    (hl : SizeOk s.path.buffer s.sched.acks s.sched.bids s.trips.pendingLog s.trips.reports s.trips.abandoned s.msgs.delivered) :
    SizeOk (State.internalCycle s).path.buffer (State.internalCycle s).sched.acks (State.internalCycle s).sched.bids
          (State.internalCycle s).trips.pendingLog (State.internalCycle s).trips.reports (State.internalCycle s).trips.abandoned
          (State.internalCycle s).msgs.delivered := by
  unfold State.internalCycle; split
  · split
    · split
      · rename_i c rest _; cases c <;> simp (maxDischargeDepth := 12) [State.runCycle, hl]
      · exact hl
    · exact hl
  · exact hl

@[simp] theorem State.startSlot_sizes {s : State} {v_path_buffer} (ev_path_buffer : s.path.buffer = v_path_buffer) {v_sched_acks}
    (ev_sched_acks : s.sched.acks = v_sched_acks) {v_trips_pendingLog} (ev_trips_pendingLog : s.trips.pendingLog = v_trips_pendingLog)
    {v_trips_reports} (ev_trips_reports : s.trips.reports = v_trips_reports) {v_trips_abandoned}
    (ev_trips_abandoned : s.trips.abandoned = v_trips_abandoned) {v_msgs_delivered}
    (ev_msgs_delivered : s.msgs.delivered = v_msgs_delivered)
    (hl : SizeOk s.path.buffer s.sched.acks s.sched.bids s.trips.pendingLog s.trips.reports s.trips.abandoned s.msgs.delivered) :
    SizeOk v_path_buffer v_sched_acks
          (State.startSlot s).sched.bids v_trips_pendingLog v_trips_reports v_trips_abandoned v_msgs_delivered := by
  subst ev_path_buffer; subst ev_sched_acks; subst ev_trips_pendingLog; subst ev_trips_reports; subst ev_trips_abandoned; subst ev_msgs_delivered;
  unfold State.startSlot; dsimp only; (repeat' split) <;> simp (maxDischargeDepth := 12) [hl]

@[simp] theorem State.deliver_sizes (f : Sending) {s : State} {v_path_buffer} (ev_path_buffer : s.path.buffer = v_path_buffer)
    {v_trips_pendingLog} (ev_trips_pendingLog : s.trips.pendingLog = v_trips_pendingLog) {v_trips_reports}
    (ev_trips_reports : s.trips.reports = v_trips_reports) {v_trips_abandoned} (ev_trips_abandoned : s.trips.abandoned = v_trips_abandoned)
    {v_msgs_delivered} (ev_msgs_delivered : s.msgs.delivered = v_msgs_delivered)
    (hl : SizeOk s.path.buffer s.sched.acks s.sched.bids s.trips.pendingLog s.trips.reports s.trips.abandoned s.msgs.delivered) :
    SizeOk v_path_buffer (State.deliver f s).sched.acks
          (State.deliver f s).sched.bids v_trips_pendingLog v_trips_reports v_trips_abandoned v_msgs_delivered := by
  subst ev_path_buffer; subst ev_trips_pendingLog; subst ev_trips_reports; subst ev_trips_abandoned; subst ev_msgs_delivered;
  unfold State.deliver; (repeat' split) <;> first
    | (simp (maxDischargeDepth := 12) [hl]; done)
    | (obtain ⟨h1, h2, h3, h4, h5, h6, h7⟩ := hl
       refine ⟨h1, ?_, ?_, h4, h5, h6, h7⟩ <;> first
         | exact Nat.le_trans (List.length_erase_le ..) h2
         | exact Nat.le_trans (Scheduler.dropBid_length ..) h3
         | simpa using h2
         | simpa using h3)

@[simp] theorem State.shortSent_sizes {s : State} {v_path_buffer} (ev_path_buffer : s.path.buffer = v_path_buffer) {v_trips_pendingLog}
    (ev_trips_pendingLog : s.trips.pendingLog = v_trips_pendingLog) {v_trips_reports}
    (ev_trips_reports : s.trips.reports = v_trips_reports) {v_trips_abandoned} (ev_trips_abandoned : s.trips.abandoned = v_trips_abandoned)
    {v_msgs_delivered} (ev_msgs_delivered : s.msgs.delivered = v_msgs_delivered)
    (hl : SizeOk s.path.buffer s.sched.acks s.sched.bids s.trips.pendingLog s.trips.reports s.trips.abandoned s.msgs.delivered) :
    SizeOk v_path_buffer (State.shortSent s).sched.acks
          (State.shortSent s).sched.bids v_trips_pendingLog v_trips_reports v_trips_abandoned v_msgs_delivered := by
  subst ev_path_buffer; subst ev_trips_pendingLog; subst ev_trips_reports; subst ev_trips_abandoned; subst ev_msgs_delivered;
  unfold State.shortSent; (repeat' split) <;> simp (maxDischargeDepth := 12) [hl]

@[simp] theorem State.longDelivered_sizes (f : Sending) {s : State} {v_path_buffer} (ev_path_buffer : s.path.buffer = v_path_buffer)
    {v_sched_acks} (ev_sched_acks : s.sched.acks = v_sched_acks) {v_sched_bids} (ev_sched_bids : s.sched.bids = v_sched_bids)
    {v_trips_pendingLog} (ev_trips_pendingLog : s.trips.pendingLog = v_trips_pendingLog) {v_trips_abandoned}
    (ev_trips_abandoned : s.trips.abandoned = v_trips_abandoned) {v_msgs_delivered}
    (ev_msgs_delivered : s.msgs.delivered = v_msgs_delivered)
    (hl : SizeOk s.path.buffer s.sched.acks s.sched.bids s.trips.pendingLog s.trips.reports s.trips.abandoned s.msgs.delivered) :
    SizeOk v_path_buffer v_sched_acks v_sched_bids v_trips_pendingLog
          (State.longDelivered f s).trips.reports v_trips_abandoned v_msgs_delivered := by
  subst ev_path_buffer; subst ev_sched_acks; subst ev_sched_bids; subst ev_trips_pendingLog; subst ev_trips_abandoned; subst ev_msgs_delivered;
  unfold State.longDelivered; (repeat' split) <;> simp (maxDischargeDepth := 12) [hl]

@[simp] theorem State.longSent_sizes {s : State} {v_path_buffer} (ev_path_buffer : s.path.buffer = v_path_buffer) {v_sched_acks}
    (ev_sched_acks : s.sched.acks = v_sched_acks) {v_sched_bids} (ev_sched_bids : s.sched.bids = v_sched_bids) {v_trips_pendingLog}
    (ev_trips_pendingLog : s.trips.pendingLog = v_trips_pendingLog) {v_trips_abandoned}
    (ev_trips_abandoned : s.trips.abandoned = v_trips_abandoned) {v_msgs_delivered}
    (ev_msgs_delivered : s.msgs.delivered = v_msgs_delivered)
    (hl : SizeOk s.path.buffer s.sched.acks s.sched.bids s.trips.pendingLog s.trips.reports s.trips.abandoned s.msgs.delivered) :
    SizeOk v_path_buffer v_sched_acks v_sched_bids v_trips_pendingLog
          (State.longSent s).trips.reports v_trips_abandoned v_msgs_delivered := by
  subst ev_path_buffer; subst ev_sched_acks; subst ev_sched_bids; subst ev_trips_pendingLog; subst ev_trips_abandoned; subst ev_msgs_delivered;
  unfold State.longSent; (repeat' split) <;> simp (maxDischargeDepth := 12) [hl]

@[simp] theorem State.resetLow_sizes {s : State} {v_sched_acks} (ev_sched_acks : s.sched.acks = v_sched_acks) {v_sched_bids}
    (ev_sched_bids : s.sched.bids = v_sched_bids) {v_trips_pendingLog} (ev_trips_pendingLog : s.trips.pendingLog = v_trips_pendingLog)
    {v_trips_reports} (ev_trips_reports : s.trips.reports = v_trips_reports) {v_trips_abandoned}
    (ev_trips_abandoned : s.trips.abandoned = v_trips_abandoned) {v_msgs_delivered}
    (ev_msgs_delivered : s.msgs.delivered = v_msgs_delivered)
    (hl : SizeOk s.path.buffer s.sched.acks s.sched.bids s.trips.pendingLog s.trips.reports s.trips.abandoned s.msgs.delivered) :
    SizeOk (State.resetLow s).path.buffer v_sched_acks v_sched_bids v_trips_pendingLog v_trips_reports v_trips_abandoned v_msgs_delivered := by
  subst ev_sched_acks; subst ev_sched_bids; subst ev_trips_pendingLog; subst ev_trips_reports; subst ev_trips_abandoned; subst ev_msgs_delivered;
  unfold State.resetLow; (repeat' split) <;> simp_all (maxDischargeDepth := 12) [SizeOk]

@[simp] theorem State.becomeReady_sizes {s : State} {v_path_buffer} (ev_path_buffer : s.path.buffer = v_path_buffer) {v_sched_acks}
    (ev_sched_acks : s.sched.acks = v_sched_acks) {v_trips_pendingLog} (ev_trips_pendingLog : s.trips.pendingLog = v_trips_pendingLog)
    {v_trips_reports} (ev_trips_reports : s.trips.reports = v_trips_reports) {v_trips_abandoned}
    (ev_trips_abandoned : s.trips.abandoned = v_trips_abandoned) {v_msgs_delivered}
    (ev_msgs_delivered : s.msgs.delivered = v_msgs_delivered)
    (hl : SizeOk s.path.buffer s.sched.acks s.sched.bids s.trips.pendingLog s.trips.reports s.trips.abandoned s.msgs.delivered) :
    SizeOk v_path_buffer v_sched_acks
          (State.becomeReady s).sched.bids v_trips_pendingLog v_trips_reports v_trips_abandoned v_msgs_delivered := by
  subst ev_path_buffer; subst ev_sched_acks; subst ev_trips_pendingLog; subst ev_trips_reports; subst ev_trips_abandoned; subst ev_msgs_delivered;
  unfold State.becomeReady; dsimp only; (repeat' split) <;> simp (maxDischargeDepth := 12) [hl]

@[simp] theorem State.softReset_sizes {s : State}
    (hl : SizeOk s.path.buffer s.sched.acks s.sched.bids s.trips.pendingLog s.trips.reports s.trips.abandoned s.msgs.delivered) :
    SizeOk (State.softReset s).path.buffer (State.softReset s).sched.acks (State.softReset s).sched.bids
          (State.softReset s).trips.pendingLog (State.softReset s).trips.reports (State.softReset s).trips.abandoned
          (State.softReset s).msgs.delivered := by
  have hk : SizeOk [] [] [] (State.returnDeposit (s.enterQuiet false)).trips.pendingLog s.trips.reports s.trips.abandoned
      s.msgs.delivered := by
    have hq := State.enterQuiet_sizes false (s := s) rfl rfl rfl rfl rfl rfl hl
    obtain ⟨-, -, -, h4, h5, h6, h7⟩ := State.returnDeposit_sizes (s := s.enterQuiet false) rfl rfl rfl rfl rfl rfl (by simpa using hq)
    exact ⟨by simp, by simp, by simp, h4, by simpa using h5, by simpa using h6, by simpa using h7⟩
  unfold State.softReset; dsimp only
  simp (maxDischargeDepth := 12) [MemoryPath.softReset, Scheduler.softReset, Scheduler.reset, hk]

@[simp] theorem State.powerOn_sizes (a : BitVec 4) {s : State} :
    SizeOk (State.powerOn a s).path.buffer (State.powerOn a s).sched.acks (State.powerOn a s).sched.bids
          (State.powerOn a s).trips.pendingLog (State.powerOn a s).trips.reports (State.powerOn a s).trips.abandoned
          (State.powerOn a s).msgs.delivered := by
  refine State.service_sizes ?_
  simp [SizeOk, State.reset, MemoryPath.reset, Scheduler.reset, TripEngine.reset, MessageEngine.reset]

@[simp] theorem State.meterMessage_sizes (m : MeterMessage) {s : State} {v_path_buffer} (ev_path_buffer : s.path.buffer = v_path_buffer)
    {v_sched_acks} (ev_sched_acks : s.sched.acks = v_sched_acks) {v_msgs_delivered}
    (ev_msgs_delivered : s.msgs.delivered = v_msgs_delivered)
    (hl : SizeOk s.path.buffer s.sched.acks s.sched.bids s.trips.pendingLog s.trips.reports s.trips.abandoned s.msgs.delivered) :
    SizeOk v_path_buffer v_sched_acks (State.meterMessage m s).sched.bids (State.meterMessage m s).trips.pendingLog
          (State.meterMessage m s).trips.reports (State.meterMessage m s).trips.abandoned v_msgs_delivered := by
  subst ev_path_buffer; subst ev_sched_acks; subst ev_msgs_delivered;
  unfold State.meterMessage; (repeat' split) <;> simp (maxDischargeDepth := 12) [hl]

@[simp] theorem State.takeMeter_sizes (m : MeterMessage) {s : State} {v_path_buffer} (ev_path_buffer : s.path.buffer = v_path_buffer)
    {v_sched_acks} (ev_sched_acks : s.sched.acks = v_sched_acks) {v_msgs_delivered}
    (ev_msgs_delivered : s.msgs.delivered = v_msgs_delivered)
    (hl : SizeOk s.path.buffer s.sched.acks s.sched.bids s.trips.pendingLog s.trips.reports s.trips.abandoned s.msgs.delivered) :
    SizeOk v_path_buffer v_sched_acks (State.takeMeter m s).sched.bids (State.takeMeter m s).trips.pendingLog
          (State.takeMeter m s).trips.reports (State.takeMeter m s).trips.abandoned v_msgs_delivered := by
  subst ev_path_buffer; subst ev_sched_acks; subst ev_msgs_delivered;
  unfold State.takeMeter; (repeat' split) <;> simp (maxDischargeDepth := 12) [hl]

@[simp] theorem State.takeWake_sizes (c : List Word) {s : State} {v_path_buffer} (ev_path_buffer : s.path.buffer = v_path_buffer)
    {v_sched_acks} (ev_sched_acks : s.sched.acks = v_sched_acks) {v_trips_pendingLog}
    (ev_trips_pendingLog : s.trips.pendingLog = v_trips_pendingLog) {v_trips_reports}
    (ev_trips_reports : s.trips.reports = v_trips_reports) {v_trips_abandoned} (ev_trips_abandoned : s.trips.abandoned = v_trips_abandoned)
    {v_msgs_delivered} (ev_msgs_delivered : s.msgs.delivered = v_msgs_delivered)
    (hl : SizeOk s.path.buffer s.sched.acks s.sched.bids s.trips.pendingLog s.trips.reports s.trips.abandoned s.msgs.delivered) :
    SizeOk v_path_buffer v_sched_acks
          (State.takeWake c s).sched.bids v_trips_pendingLog v_trips_reports v_trips_abandoned v_msgs_delivered := by
  subst ev_path_buffer; subst ev_sched_acks; subst ev_trips_pendingLog; subst ev_trips_reports; subst ev_trips_abandoned; subst ev_msgs_delivered;
  unfold State.takeWake; (repeat' split) <;> simp (maxDischargeDepth := 12) [hl]

@[simp] theorem State.route_sizes (d : DownHeader) (b : DownBody) {s : State}
    (hl : SizeOk s.path.buffer s.sched.acks s.sched.bids s.trips.pendingLog s.trips.reports s.trips.abandoned s.msgs.delivered) :
    SizeOk (State.route d b s).path.buffer (State.route d b s).sched.acks (State.route d b s).sched.bids
          (State.route d b s).trips.pendingLog (State.route d b s).trips.reports (State.route d b s).trips.abandoned
          (State.route d b s).msgs.delivered := by
  unfold State.route; (repeat' split) <;> simp (maxDischargeDepth := 12) [hl]

@[simp] theorem State.receive_sizes (d : DownHeader) (b : DownBody) {s : State}
    (hl : SizeOk s.path.buffer s.sched.acks s.sched.bids s.trips.pendingLog s.trips.reports s.trips.abandoned s.msgs.delivered) :
    SizeOk (State.receive d b s).path.buffer (State.receive d b s).sched.acks (State.receive d b s).sched.bids
          (State.receive d b s).trips.pendingLog (State.receive d b s).trips.reports (State.receive d b s).trips.abandoned
          (State.receive d b s).msgs.delivered := by
  unfold State.receive; (repeat' split) <;> simp (maxDischargeDepth := 12) [hl]

@[simp] theorem State.writeAt_sizes (o : Nat) (l : Lanes) (d : Word) {s : State}
    (hl : SizeOk s.path.buffer s.sched.acks s.sched.bids s.trips.pendingLog s.trips.reports s.trips.abandoned s.msgs.delivered) :
    SizeOk (State.writeAt o l d s).path.buffer (State.writeAt o l d s).sched.acks (State.writeAt o l d s).sched.bids
          (State.writeAt o l d s).trips.pendingLog (State.writeAt o l d s).trips.reports (State.writeAt o l d s).trips.abandoned
          (State.writeAt o l d s).msgs.delivered := by
  unfold State.writeAt; (repeat' split) <;> simp (maxDischargeDepth := 12) [hl]

@[simp] theorem State.readAt_sizes (o : Nat) (l : Lanes) {s : State}
    (hl : SizeOk s.path.buffer s.sched.acks s.sched.bids s.trips.pendingLog s.trips.reports s.trips.abandoned s.msgs.delivered) :
    SizeOk (State.readAt o l s).path.buffer (State.readAt o l s).sched.acks (State.readAt o l s).sched.bids
          (State.readAt o l s).trips.pendingLog (State.readAt o l s).trips.reports (State.readAt o l s).trips.abandoned
          (State.readAt o l s).msgs.delivered := by
  unfold State.readAt; (repeat' split) <;> simp (maxDischargeDepth := 12) [hl]

@[simp] theorem State.complete_sizes (k : OpKind) {owner : UnderWay → State → State} {s : State}
    (ho : ∀ u t, SizeOk t.path.buffer t.sched.acks t.sched.bids t.trips.pendingLog t.trips.reports t.trips.abandoned t.msgs.delivered → SizeOk (owner u t).path.buffer (owner u t).sched.acks (owner u t).sched.bids (owner u t).trips.pendingLog (owner u t).trips.reports (owner u t).trips.abandoned (owner u t).msgs.delivered)
    (hl : SizeOk s.path.buffer s.sched.acks s.sched.bids s.trips.pendingLog s.trips.reports s.trips.abandoned s.msgs.delivered) :
    SizeOk (State.complete k owner s).path.buffer (State.complete k owner s).sched.acks (State.complete k owner s).sched.bids
          (State.complete k owner s).trips.pendingLog (State.complete k owner s).trips.reports (State.complete k owner s).trips.abandoned
          (State.complete k owner s).msgs.delivered := by
  unfold State.complete; split
  · exact State.service_sizes (ho _ _ (by simp (maxDischargeDepth := 12) [hl]))
  · exact hl

end Sys2Proof.Machine
end

