-- ==== Sys2Proof/Laws/Path.lean ====
section
/-! SUPPORT. What a processor cycle at a field of the cab area does: a WATCHED write is taken by its owner with its lanes posted,
      a SHADOWED read is answered by its owner; and what raising a cause and handing on leave behind. -/

namespace Sys2Proof.Machine

/-! ## Offsets -/

theorem pageAddress_toNat (a : BitVec 4) (o : Nat) (h : o < 0x4000) : (pageAddress a o).toNat = a.toNat * 2 ^ 15 + o / 2 := by
  simp only [pageAddress, BitVec.toNat_append, BitVec.toNat_ofNat]
  rw [Nat.mod_eq_of_lt (by omega), ← Nat.shiftLeft_add_eq_or_of_lt (by omega), Nat.shiftLeft_eq]

/-- The word of an even offset of the selected page's cab area is that offset's (R186). -/
@[simp] theorem cabOffset_pageAddress (a : BitVec 4) {o : Nat} (he : o % 2 = 0) (h : o < 0x4000) : cabOffset a (pageAddress a o) = some o := by
  have := pageAddress_toNat a o h
  unfold cabOffset
  rw [this]
  rw [if_pos (by omega)]
  congr 1
  omega

theorem State.fieldOf_pageAddress {s : State} {o : Nat} (he : o % 2 = 0) (h : o < 0x4000) :
    s.fieldOf (pageAddress s.path.asel o) = some (fieldAt o) := by
  simp [State.fieldOf, he, h]

theorem State.laneTreatment_pageAddress {s : State} {o : Nat} (he : o % 2 = 0) (h : o < 0x4000) (hi : Bool) :
    s.laneTreatment (pageAddress s.path.asel o) hi = s.treatment (fieldAt o) hi := by
  simp [State.laneTreatment, he, h]

theorem fieldAt_response (n : Fin 16) : fieldAt (responseOffset n) = .offer n 0x18 := by
  revert n; decide

theorem responseOffset_even (n : Fin 16) : responseOffset n % 2 = 0 := by
  revert n; decide

theorem responseOffset_lt (n : Fin 16) : responseOffset n < 0x4000 := by
  revert n; decide

/-! ## A write that is taken at once -/

theorem State.writesFree_iff (s : State) :
    s.writesFree = true ↔ s.ready = true ∧ s.path.resetDrain = false ∧ s.path.held = [] ∧ s.path.buffer.length < 4 := by
  simp [State.writesFree, State.cyclesFree, List.isEmpty_iff, and_assoc]

theorem State.cyclesFree_iff (s : State) : s.cyclesFree = true ↔ s.ready = true ∧ s.path.resetDrain = false ∧ s.path.held = [] := by
  simp [State.cyclesFree, List.isEmpty_iff, and_assoc]

theorem State.ready_iff (s : State) : s.ready = true ↔ s.path.inReset = false ∧ s.power.startUp = .ready := by
  simp [State.ready, State.running]

theorem MemoryPath.post_room (p : MemoryPath) (a : BitVec 19) (l : Lanes) (d : Word) (h : p.buffer.length < 4) :
    ∃ b, p.post a l d = some { p with buffer := b } := by
  unfold MemoryPath.post; dsimp only; split
  · exact ⟨_, rfl⟩
  · exact ⟨_, by rw [if_pos h]⟩

/-- A write whose covered lanes are WATCHED is posted and taken by the owner of its field. -/
theorem State.writeAt_watched {s : State} {o : Nat} {l : Lanes} {d : Word} (hs : s.writesFree = true) (he : o % 2 = 0) (ho : o < 0x4000)
    (hl : laneAny l = true) (hlo : l.lo = true → s.treatment (fieldAt o) false = .watched)
    (hhi : l.hi = true → s.treatment (fieldAt o) true = .watched) :
    ∃ b, s.path.post (pageAddress s.path.asel o) l d = some { s.path with buffer := b } ∧
      s.writeAt o l d = State.takeWatched (fieldAt o) l d { s with path := { s.path with buffer := b } } := by
  obtain ⟨hr, hd, hh, hb⟩ := (State.writesFree_iff s).1 hs
  have hrun : s.path.inReset = false := ((State.ready_iff s).1 hr).1
  obtain ⟨b, hp⟩ := MemoryPath.post_room s.path (pageAddress s.path.asel o) l d hb
  refine ⟨b, hp, ?_⟩
  obtain ⟨lo, hi⟩ := l
  have h1 : s.postedLanes (pageAddress s.path.asel o) ⟨lo, hi⟩ = ⟨lo, hi⟩ := by
    simp only [State.postedLanes, State.laneTreatment_pageAddress he ho]
    cases lo <;> cases hi <;> simp_all
  have h2 : s.lanesOf .guarded (pageAddress s.path.asel o) ⟨lo, hi⟩ = ⟨false, false⟩ := by
    simp only [State.lanesOf, State.laneTreatment_pageAddress he ho]
    cases lo <;> cases hi <;> simp_all
  have h3 : s.lanesOf .watched (pageAddress s.path.asel o) ⟨lo, hi⟩ = ⟨lo, hi⟩ := by
    simp only [State.lanesOf, State.laneTreatment_pageAddress he ho]
    cases lo <;> cases hi <;> simp_all
  simp only [State.writeAt, State.processorCycle, MemoryPath.holdsAll, hrun, hd, hh, State.attempt, State.processorWrite?, h1, hl,
    if_true, hp, Option.map_some, State.acceptWrite, h2, h3, State.fieldOf_pageAddress he ho, laneAny, Bool.or_self, List.isEmpty_nil,
    Bool.not_true]
  simp only [laneAny] at hl
  simp [hl]

/-- A write no covered lane of which is GUARDED is posted, and its WATCHED lanes are taken by the owner of the field. -/
theorem State.writeAt_posted {s : State} {o : Nat} {l : Lanes} {d : Word} (hs : s.writesFree = true) (he : o % 2 = 0) (ho : o < 0x4000)
    (hl : laneAny l = true) (hlo : l.lo = true → s.treatment (fieldAt o) false ≠ .guarded)
    (hhi : l.hi = true → s.treatment (fieldAt o) true ≠ .guarded) :
    ∃ b, s.path.post (pageAddress s.path.asel o) l d = some { s.path with buffer := b } ∧
      s.writeAt o l d =
        (if laneAny (s.lanesOf .watched (pageAddress s.path.asel o) l) then
          State.takeWatched (fieldAt o) (s.lanesOf .watched (pageAddress s.path.asel o) l) d { s with path := { s.path with buffer := b } }
        else { s with path := { s.path with buffer := b } }) := by
  obtain ⟨hr, hd, hh, hb⟩ := (State.writesFree_iff s).1 hs
  have hrun : s.path.inReset = false := ((State.ready_iff s).1 hr).1
  obtain ⟨b, hp⟩ := MemoryPath.post_room s.path (pageAddress s.path.asel o) l d hb
  refine ⟨b, hp, ?_⟩
  obtain ⟨lo, hi⟩ := l
  have h1 : s.postedLanes (pageAddress s.path.asel o) ⟨lo, hi⟩ = ⟨lo, hi⟩ := by
    simp only [State.postedLanes, State.laneTreatment_pageAddress he ho]
    cases lo <;> cases hi <;> simp_all
  have h2 : s.lanesOf .guarded (pageAddress s.path.asel o) ⟨lo, hi⟩ = ⟨false, false⟩ := by
    simp only [State.lanesOf, State.laneTreatment_pageAddress he ho]
    cases lo <;> cases hi <;> simp_all
  simp only [State.writeAt, State.processorCycle, MemoryPath.holdsAll, hrun, hd, hh, State.attempt, State.processorWrite?, h1, hl,
    hp, Option.map_some, State.acceptWrite, h2, State.fieldOf_pageAddress he ho, laneAny, Bool.or_self, List.isEmpty_nil, Bool.not_true]
  simp only [laneAny] at hl
  simp [hl]

/-- A read whose covered lanes are SHADOWED is answered by the owner of its field, and has its effect there. -/
theorem State.readAt_shadowed {s : State} {o : Nat} {l : Lanes} (hs : s.cyclesFree = true) (he : o % 2 = 0) (ho : o < 0x4000)
    (hl : laneAny l = true) (ht : ∀ hi, s.treatment (fieldAt o) hi = .shadowed)
    (hst : s.stalled (pageAddress s.path.asel o) = false) :
    s.readAt o l = State.readEffect (fieldAt o)
      { s with
        path := { s.path with
          answer := some
            ⟨pageAddress s.path.asel o, if l.lo then some (Word.lower (s.shadowWord (fieldAt o))) else none,
              if l.hi then some (Word.upper (s.shadowWord (fieldAt o))) else none⟩ } } := by
  obtain ⟨hr, hd, hh⟩ := (State.cyclesFree_iff s).1 hs
  have hrun : s.path.inReset = false := ((State.ready_iff s).1 hr).1
  obtain ⟨lo, hi⟩ := l
  have h2 : s.lanesOf .shadowed (pageAddress s.path.asel o) ⟨lo, hi⟩ = ⟨lo, hi⟩ := by
    simp only [State.lanesOf, State.laneTreatment_pageAddress he ho, ht]
    cases lo <;> cases hi <;> simp
  have h3 : s.needsMemory (pageAddress s.path.asel o) ⟨lo, hi⟩ = false := by
    simp [State.needsMemory, State.laneNeedsMemory, State.laneTreatment_pageAddress he ho, ht]
  simp only [State.readAt, State.processorCycle, MemoryPath.holdsAll, hrun, hd, hh, State.attempt, hst, h3, State.answerRead, h2, hl,
    State.fieldOf_pageAddress he ho, State.readLane, State.laneTreatment_pageAddress he ho, ht]
  simp [hrun, hd, hh]

/-! ## Posted bytes -/

/-- The newest posted byte behind a new newest entry. -/
theorem posted_append (b : BitVec 19) (hi : Bool) (xs : List PostEntry) (e : PostEntry) :
    posted b hi (xs ++ [e]) = if e.address = b then ((if hi then e.hi else e.lo).or (posted b hi xs)) else posted b hi xs := by
  induction xs with
  | nil => simp [posted]
  | cons x xs ih =>
    simp only [List.cons_append, posted, ih]
    by_cases h : e.address = b
    · simp only [h, if_true]
      cases (if hi = true then e.hi else e.lo) <;> simp <;> cases posted b hi xs <;> rfl
    · simp only [h, if_false]

/-- The newest posted bytes after a merge into the newest entry. -/
theorem mergeNewest_posted {dr : Bool} {a : BitVec 19} {lo hi : Option Byte} {xs ys : List PostEntry} (h : mergeNewest dr a lo hi xs = some ys)
    (b : BitVec 19) (k : Bool) : posted b k ys = if b = a then ((if k then hi else lo).or (posted b k xs)) else posted b k xs := by
  induction xs generalizing dr ys with
  | nil => simp [mergeNewest] at h
  | cons e xs ih =>
    cases xs with
    | nil =>
      simp only [mergeNewest] at h
      split at h
      · rename_i hc; cases h
        obtain ⟨ha, -⟩ := hc
        by_cases hb : b = a
        · subst hb; cases k <;> cases lo <;> cases hi <;> simp [posted, ha, overlay]
        · have : ¬ e.address = b := by rw [ha]; exact fun h => hb h.symm
          simp [posted, hb, Ne.symm hb, this]
      · cases h
    | cons f rest =>
      simp only [mergeNewest, Option.map_eq_some_iff] at h
      obtain ⟨r, hr, rfl⟩ := h
      have := ih hr
      rw [posted, this]
      have e2 : posted b k (e :: f :: rest) = match posted b k (f :: rest) with
        | some b => some b
        | none => if e.address = b then (if k then e.hi else e.lo) else none := rfl
      rw [e2]
      by_cases hb : b = a
      · simp only [hb, if_true]
        cases (if k then hi else lo)
        · simp <;> cases posted a k (f :: rest) <;> rfl
        · simp
      · simp only [hb, if_false] <;> cases posted b k (f :: rest) <;> rfl

/-- The newest posted bytes after a write has been posted: the bytes of its lanes, and otherwise those of before (R188). -/
theorem MemoryPath.post_posted {p q : MemoryPath} {a : BitVec 19} {l : Lanes} {d : Word} (h : p.post a l d = some q) (b : BitVec 19) (k : Bool) :
    posted b k q.buffer = if b = a ∧
          (if k then l.hi else l.lo) = true then some (if k then Word.upper d else Word.lower d) else posted b k p.buffer := by
  have e : (if k then postHi l d else postLo l d) = if (if k then l.hi else l.lo) = true then some (if k then Word.upper d else Word.lower d) else none := by
    cases k <;> simp [postHi, postLo]
  unfold MemoryPath.post at h; dsimp only at h
  split at h
  · rename_i ys hm; cases h
    rw [mergeNewest_posted hm, e]
    by_cases hb : b = a
    · by_cases hl : (if k then l.hi else l.lo) = true <;> simp [hb, hl]
    · simp [hb]
  · split at h
    · cases h
      rw [posted_append]
      dsimp only
      rw [e]
      by_cases hb : b = a
      · by_cases hl : (if k then l.hi else l.lo) = true <;> simp [hb, hl]
      · simp [hb, Ne.symm hb]
    · cases h

theorem State.takeWatched_held (f : Field) (l : Lanes) (d : Word) (s : State) : (State.takeWatched f l d s).path.held = s.path.held ∧
    (State.takeWatched f l d s).path.buffer = s.path.buffer := by
  unfold State.takeWatched
  cases f <;> simp <;> (repeat' split) <;> simp

/-- An accepted write leaves the post buffer as it was posted to. -/
theorem State.acceptWrite_path (a : BitVec 19) (l : Lanes) (d : Word) (p : MemoryPath) (s : State) :
    (s.acceptWrite a l d p).path.buffer = p.buffer ∧ (s.acceptWrite a l d p).path.held = p.held ∧ (s.acceptWrite a l d p).mem = s.mem := by
  unfold State.acceptWrite
  dsimp only
  (repeat' split) <;> simp [State.takeWatched_held]

theorem State.readEffect_path (f : Field) (s : State) : (State.readEffect f s).path = s.path ∧ (State.readEffect f s).mem = s.mem := by
  unfold State.readEffect
  cases f <;> simp <;> (repeat' split) <;> simp

/-! ## Held cycles and the ends of operations -/

/-- With no cycle held only the arbiter looks at the port. -/
@[simp] theorem State.service_none {s : State} (h : s.path.held = []) : s.service = { s with path := s.path.arbitrate } := by
  have : s.service = State.arbitrate { s with path := { s.path with held := [] } } := by unfold State.service; rw [h]; rfl
  rw [this, ← h]
  rfl

/-- With no operation under way the arbiter has nothing to grant. -/
@[simp] theorem MemoryPath.arbitrate_none {p : MemoryPath} (h : p.under = none) : p.arbitrate = p := by
  simp [MemoryPath.arbitrate, MemoryPath.internalReady, h]

/-- With no cycle held and no operation under way there is nothing to handle. -/
theorem State.service_free {s : State} (h : s.path.held = []) (hu : s.path.under = none) : s.service = s := by
  rw [State.service_none h, MemoryPath.arbitrate_none hu]

/-- While a cycle is on the port the arbiter grants nothing (R197). -/
theorem MemoryPath.arbitrate_busy {p : MemoryPath} (h : p.portIdle = false) : p.arbitrate = p := by
  simp [MemoryPath.arbitrate, h]

/-- A cycle that is done leaves the held cycles as they were. -/
theorem State.attempt_held {h : HeldCycle} {s t : State} (hd : s.attempt h = .done t) : t.path.held = s.path.held := by
  unfold State.attempt at hd
  split at hd
  · split at hd
    · rename_i hw; cases hd
      unfold State.processorWrite? at hw; dsimp only at hw
      split at hw
      · obtain ⟨p, hp, rfl⟩ := Option.map_eq_some_iff.1 hw
        rw [(State.acceptWrite_path _ _ _ _ _).2.1, (MemoryPath.post_eq hp).1]
      · cases hw; exact (State.acceptWrite_path _ _ _ _ _).2.1
    · cases hd
  · (repeat' split at hd) <;> cases hd
    unfold State.answerRead; dsimp only
    have hg : ∀ p : MemoryPath, p.processorGrant.giveTurn.held = p.held := by
      intro p; unfold MemoryPath.giveTurn MemoryPath.arbitrate MemoryPath.processorGrant; (repeat' split) <;> rfl
    (repeat' split) <;> simp [State.readEffect_path, hg]

/-- A cycle made while another is held joins the held cycles, and so do those behind it. -/
theorem State.makes_held (cs : List BusCycle) {s : State} (h : s.path.held ≠ []) :
    State.makes cs s { s with path := { s.path with held := s.path.held ++ cs.map (fun c => ⟨c, false⟩) } } := by
  induction cs generalizing s with
  | nil => simp [State.makes]
  | cons c cs ih =>
    have hc : s.processorCycle c = s.hold ⟨c, false⟩ := by
      unfold State.processorCycle; rw [if_pos (by simp [h])]
    have := @ih (s.hold ⟨c, false⟩) (by simp [State.hold])
    cases c <;> refine ⟨_, congrArg Host.Outcome.next hc, ?_⟩ <;> simpa [State.hold] using this

/-- A read that waited for the port is attempted as a new one, unless it is stalled. -/
theorem State.attempt_passed {a : BitVec 19} {l : Lanes} {s : State} (h : s.stalled a = false) :
    s.attempt ⟨.read a l, true⟩ = s.attempt ⟨.read a l, false⟩ := by
  simp [State.attempt, h]

/-- Cycles handled in their order are made one after another; a read that waited for the port already may be the first of them. -/
theorem State.serviceList_makes (hs : List HeldCycle) {s : State} (he : s.path.held = []) (ht : ∀ h ∈ hs.tail, h.passed = false)
    (hh : ∀ h, hs.head? = some h → h.passed = true → s.path.holdsAll = false ∧ ∃ a l, h.cycle = .read a l ∧ s.stalled a = false) :
    State.makes (hs.map (·.cycle)) s (State.serviceList hs s) := by
  induction hs generalizing s with
  | nil => simp [State.makes, State.serviceList]
  | cons h rest ih =>
    have hr : rest = (rest.map (·.cycle)).map (fun c => (⟨c, false⟩ : HeldCycle)) := by
      rw [List.map_map]
      exact ((List.map_congr_left (g := id) (fun x hx => by have := ht x hx; cases x; simp_all)).trans (List.map_id rest)).symm
    have hrest : ∀ k ∈ rest.tail, k.passed = false := fun k hk => ht k (List.mem_of_mem_tail hk)
    have hhead : ∀ k, rest.head? = some k → k.passed = true → False := fun k hk hp => by
      rw [ht k (List.mem_of_mem_head? hk)] at hp; cases hp
    -- the cycle is made from `s` as it is attempted
    have step : ∀ u, s.processorCycle h.cycle = u → State.makes (rest.map (·.cycle)) u (State.serviceList (h :: rest) s) →
        State.makes ((h :: rest).map (·.cycle)) s (State.serviceList (h :: rest) s) := by
      intro u hu hm
      obtain ⟨c, q⟩ := h
      cases c <;> exact ⟨u, congrArg Host.Outcome.next hu, hm⟩
    by_cases ha : s.path.holdsAll = true
    · have hp : h.passed = false := by
        cases hq : h.passed with
        | false => rfl
        | true => exact absurd (hh h rfl hq).1 (by simp [ha])
      have e : State.serviceList (h :: rest) s = { s with path := { s.path with held := h :: rest } } := by simp [State.serviceList, ha]
      refine step (s.hold h) ?_ ?_
      · unfold State.processorCycle; rw [if_pos (by simp [ha])]; obtain ⟨c, q⟩ := h; cases hp; rfl
      · have := State.makes_held (rest.map (·.cycle)) (s := s.hold h) (by simp [State.hold])
        rw [e]; rw [← hr] at this; simpa [State.hold, he] using this
    · have ha : s.path.holdsAll = false := by simpa using ha
      have hq : s.attempt h = s.attempt ⟨h.cycle, false⟩ := by
        obtain ⟨c, q⟩ := h
        cases q with
        | false => rfl
        | true =>
          obtain ⟨-, a, l, hc, hst⟩ := hh ⟨c, true⟩ rfl rfl
          dsimp only at hc; subst hc; exact State.attempt_passed hst
      cases hd : s.attempt h with
      | done t =>
        have e : State.serviceList (h :: rest) s = State.serviceList rest t := by simp [State.serviceList, ha, hd]
        refine step t ?_ ?_
        · unfold State.processorCycle; rw [if_neg (by simp [ha, he]), ← hq, hd]
        · rw [e]
          exact ih ((State.attempt_held hd).trans he) hrest (fun k hk hp => (hhead k hk hp).elim)
      | waits k =>
        have e : State.serviceList (h :: rest) s = { s with path := { s.path with held := k :: rest } } := by
          simp [State.serviceList, ha, hd]
        refine step (s.hold k) ?_ ?_
        · unfold State.processorCycle; rw [if_neg (by simp [ha, he]), ← hq, hd]
        · have := State.makes_held (rest.map (·.cycle)) (s := s.hold k) (by simp [State.hold])
          rw [e]; rw [← hr] at this; simpa [State.hold, he] using this

/-- The release of ready: what `service` does with the held cycles. -/
theorem State.service_serves {s x : State} (h : x.path.held = s.path.held) :
    s.serves { x with path := { x.path with held := [] } } x.service := by
  refine ⟨rfl, fun ht hh => ⟨State.serviceList s.path.held { x with path := { x.path with held := [] } }, ?_, ?_⟩⟩
  · exact State.serviceList_makes _ rfl ht (fun k hk hp => by
      obtain ⟨h1, h2, h3⟩ := hh k hk hp
      exact ⟨by simp only [MemoryPath.holdsAll]; dsimp only at h1 h2; simp [h1, h2], h3⟩)
  · unfold State.service; rw [h]
    generalize State.serviceList s.path.held { x with path := { x.path with held := [] } } = v
    unfold State.arbitrate
    refine congrArg (fun p => ({ v with path := p } : State)) ?_
    by_cases hg : v.path.under.any (fun o => o.mark == 0 && !o.cycles.isEmpty) = true ∧ v.path.drain = .idle ∧ v.path.internal = false ∧
        (v.path.buffer = [] ∨ 16 ≤ v.path.fairness)
    · have e : (v.path.internalReady && v.path.portIdle && (v.path.buffer.isEmpty || v.path.internalTurn)) = true := by
        simpa [MemoryPath.internalTurn, MemoryPath.portIdle, MemoryPath.internalReady, List.isEmpty_iff, and_assoc, hg.1] using hg.2
      unfold MemoryPath.arbitrate; rw [if_pos e]; simp [hg]
    · have e : ¬(v.path.internalReady && v.path.portIdle && (v.path.buffer.isEmpty || v.path.internalTurn)) = true := by
        intro he; apply hg
        simp only [MemoryPath.internalTurn, MemoryPath.portIdle, MemoryPath.internalReady, List.isEmpty_iff, Bool.and_eq_true,
          Bool.or_eq_true, beq_iff_eq, Bool.not_eq_true', decide_eq_true_eq] at he
        exact ⟨he.1.1, he.1.2.1, he.1.2.2, he.2.imp id And.right⟩
      unfold MemoryPath.arbitrate; rw [if_neg e]; simp only [hg, decide_false, Bool.or_false, if_false]

/-- The end of an operation, when it is under way with its last cycle completed. -/
theorem State.complete_finished {k : OpKind} {owner : UnderWay → State → State} {s : State} {u : UnderWay} (hr : s.running = true)
    (hu : s.path.under = some u) (hk : u.kind = k) (hc : u.cycles = []) :
    s.complete k owner = State.service (owner u (State.raiseAll u.causes s.endOperation)) := by
  simp [State.complete, State.finished, hr, hu, hk, hc]

/-- The end of an operation changes the queue of commands only where its owner does. -/
theorem State.complete_pending {k : OpKind} {owner : UnderWay → State → State} (s : State)
    (h : ∀ u t, (owner u t).pending = t.pending) : (s.complete k owner).pending = s.pending := by
  unfold State.complete; split
  · simp [h]
  · rfl

/-- The end of an operation changes memory only where its owner does. -/
theorem State.complete_mem {k : OpKind} {owner : UnderWay → State → State} (s : State) (h : ∀ u t, (owner u t).mem = t.mem) :
    (s.complete k owner).mem = s.mem := by
  unfold State.complete; split
  · simp [h]
  · rfl

/-! ## Raising and handing on -/

/-- Raising a cause does what R208 and R211 say. -/
theorem State.raise_raises (c : Cause) (s : State) : s.raises (s.raise c) c.mask := by
  unfold State.raises State.raise State.evaluateAttention
  dsimp only
  split
  · rename_i h
    simp only [Bool.and_eq_true, Bool.not_eq_true'] at h
    simp [h]
  · rename_i h
    simp only [Bool.and_eq_true, Bool.not_eq_true', not_and] at h
    cases hb : s.page.busy <;> simp_all

/-- The causes after a cause was raised (R208). -/
theorem State.raise_causes (c : Cause) (s : State) : (s.raise c).page.causes = s.page.causes ||| c.mask := by
  rw [(State.raise_raises c s).1]

theorem State.raises_trans {s t u : State} {a b : BitVec 13} (h : s.raises t a) (k : t.raises u b) : s.raises u (a ||| b) := by
  unfold State.raises at *
  dsimp only at *
  obtain ⟨h1, h2⟩ := h
  obtain ⟨k1, k2⟩ := k
  rw [k1, k2, h1, h2]
  cases hb : s.page.busy
  · simp only [Bool.not_false, Bool.true_and, Bool.false_or]
    by_cases hz : ((s.page.causes ||| a) &&& s.page.enables) = 0#13
    · simp [hz, BitVec.or_assoc]
    · have : ((s.page.causes ||| (a ||| b)) &&& s.page.enables) ≠ 0#13 := by
        intro e
        apply hz
        rw [← BitVec.or_assoc] at e
        generalize s.page.causes ||| a = x at e ⊢
        generalize s.page.enables = y at e ⊢
        have e2 : (x &&& y) ||| (b &&& y) = 0#13 := by
          rw [← e]; ext i; simp [Bool.and_or_distrib_right]
        ext i hi
        have := congrArg (fun v => v.getLsbD i) e2
        simp only [BitVec.getLsbD_or, BitVec.getLsbD_and, BitVec.getLsbD_zero, Bool.or_eq_false_iff] at this
        simpa [BitVec.getLsbD_eq_getElem hi] using this.1
      have h0 : ((s.page.causes ||| a) &&& s.page.enables != 0#13) = true := bne_iff_ne.2 hz
      have h3 : ((s.page.causes ||| (a ||| b)) &&& s.page.enables != 0#13) = true := bne_iff_ne.2 this
      simp [h0, h3, BitVec.or_assoc]
  · simp [BitVec.or_assoc]

/-- Raising a cause changes only the page and ATTN. -/
theorem State.raise_eq (c : Cause) (s : State) :
    s.raise c = { s with page := (s.raise c).page, pins := { s.pins with attn := (s.raise c).pins.attn } } := by
  unfold State.raise State.evaluateAttention
  dsimp only
  split <;> rfl

/-- Raising several causes does what R208 and R211 say, for the set of them. -/
theorem State.raiseAll_raises (cs : List Cause) : ∀ {s : State}, s.attentionLaw → s.raises (State.raiseAll cs s) (causesMask cs) := by
  have hm : ∀ (cs : List Cause) (m : BitVec 13),
      cs.foldl (fun m c => m ||| c.mask) m = m ||| cs.foldl (fun m c => m ||| c.mask) 0#13 := by
    intro cs
    induction cs with
    | nil => simp
    | cons c cs ih => intro m; simp only [List.foldl_cons]; rw [ih, ih (0#13 ||| c.mask)]; simp [BitVec.or_assoc]
  induction cs with
  | nil =>
    intro s h
    simp only [State.raiseAll, causesMask, List.foldl_nil, State.raises, State.attentionLaw] at *
    generalize s.page = p at *
    obtain ⟨ca, en, bu, as_, co, sc, sh, po, ec, lu⟩ := p
    cases bu
    · have := h.2 rfl; simp at this; simp [this]
    · simp
  | cons c cs ih =>
    intro s h
    have h1 := State.raise_raises c s
    have h2 : (s.raise c).attentionLaw := by
      obtain ⟨p1, p2⟩ := h1
      unfold State.attentionLaw
      rw [p1, p2, h.1]
      refine ⟨rfl, fun hb => ?_⟩
      simp only [Bool.or_eq_false_iff, Bool.and_eq_false_imp, Bool.not_eq_true', bne_eq_false_iff_eq] at hb
      exact hb.2 hb.1
    have := State.raises_trans h1 (ih h2)
    have e : causesMask (c :: cs) = c.mask ||| causesMask cs := by
      simp only [causesMask, List.foldl_cons]; rw [hm]; simp
    rw [e]; exact this

/-- Raising causes changes only the page and ATTN. -/
theorem State.raiseAll_eq (cs : List Cause) (s : State) :
    State.raiseAll cs s =
      { s with page := (State.raiseAll cs s).page, pins := { s.pins with attn := (State.raiseAll cs s).pins.attn } } := by
  induction cs generalizing s with
  | nil => rfl
  | cons c cs ih =>
    have h := ih (s.raise c)
    have e := State.raise_eq c s
    show State.raiseAll cs (s.raise c) = { s with
      page := (State.raiseAll cs (s.raise c)).page, pins := { s.pins with attn := (State.raiseAll cs (s.raise c)).pins.attn } }
    generalize State.raiseAll cs (s.raise c) = t at h ⊢
    rw [e] at h
    exact h

/-- Handing on changes only the STATUS place and the lamps. -/
theorem State.handOn_eq (s : State) :
    s.handOn = { s with
      sched := { s.sched with statusPlace := if s.power.startUp = .ready then some s.statusReport else s.sched.statusPlace },
      pins := { s.pins with
        lampHire := s.lampsFollow && (s.status.lampMap.at_ s.status.status).hire.lit s.status.flashOn,
        lampCall := s.lampsFollow && (s.status.lampMap.at_ s.status.status).call.lit s.status.flashOn,
        lampAlarm := s.power.startUp == .ready && s.status.alarmEnabled && s.emerg.state.raised && s.status.alarmOn } } := by
  unfold State.handOn State.refreshReport State.driveLamps
  by_cases h : s.power.startUp = .ready <;> simp [h, State.lampsFollow]

/-- A requested rewrite of the emergency record is carried by one that waits, or follows the one under way, or joins the queue (R159). -/
theorem State.rewriteRecord_eq (s : State) :
    s.rewriteRecord = { s with
      path := { s.path with
        queue := if s.path.busyWith .emergencyRewrite then s.path.queue else s.path.queue ++ [⟨.emergencyRewrite, 0⟩] },
      emerg := { s.emerg with
        owed := s.emerg.owed || (!s.path.queued .emergencyRewrite && s.path.underWay .emergencyRewrite) } } := by
  unfold State.rewriteRecord MemoryPath.busyWith
  cases h : s.path.queued .emergencyRewrite <;> cases k : s.path.underWay .emergencyRewrite <;>
    simp [State.requestWrite, MemoryPath.requestWrite]

/-- The same with EMERGENCY waiting on the rewrite. -/
theorem State.rewriteWithCause_eq (s : State) :
    s.rewriteWithCause = { s with
      path := { s.path with
        queue := if s.path.busyWith .emergencyRewrite then s.path.queue else s.path.queue ++ [⟨.emergencyRewrite, 0⟩] },
      emerg := { s.emerg with
        causeWaits := true,
        owed := s.emerg.owed || (!s.path.queued .emergencyRewrite && s.path.underWay .emergencyRewrite) } } := by
  unfold State.rewriteWithCause
  rw [State.rewriteRecord_eq]

/-- The end of a record rewrite: an owed one joins the queue, and the guard of a cancel is lifted with the last rewrite (R159, R160). -/
theorem State.endRecordRewrite_eq (c : Bool) (s : State) :
    s.endRecordRewrite c = { s with
      path := { s.path with queue := s.path.queue ++ (if s.emerg.owed then [⟨.emergencyRewrite, 0⟩] else []) },
      emerg := { s.emerg with
        owed := false, guardHeld := s.emerg.guardHeld && !(c && !s.emerg.owed && !s.path.queued .emergencyRewrite) } } := by
  obtain ⟨pe, m, pi, pa, pg, l, r, sc, o, tr, ms, e, st, po⟩ := s
  obtain ⟨e1, e2, e3, e4, e5, e6, e7, e8, e9, e10, e11, ow, e12, gh⟩ := e
  unfold State.endRecordRewrite
  cases c <;> cases ow <;> cases gh <;> cases h : pa.queued .emergencyRewrite <;>
    simp [h, State.requestWrite, MemoryPath.requestWrite]

/-! ## The link comes up -/

/-- Entry into QUIET from OFF with nothing on the air: the receiver is tuned to the first listed channel and listens (R22). -/
theorem State.enterQuiet_first {s : State} (h : s.link.state = .off) (hs : s.radio.sending = none) :
    s.enterQuiet true = { s with
      link := s.link.cleared .quiet,
      radio := { s.radio with
        channel := s.link.channels.headD 0#16, receiverOn := true,
        output := s.radio.output ++ [.order (.tune (s.link.channels.headD 0#16)), .order .listen] } } := by
  unfold State.enterQuiet State.exitLink
  simp [h, State.give, Transceiver.give, hs, Transceiver.apply, LinkController.firstChannel]

/-- The link after an entry into QUIET (R22). -/
theorem State.enterQuiet_cleared (b : Bool) (s : State) : (s.enterQuiet b).link = s.link.cleared .quiet := by
  have h : ∀ u : State, u.link = s.link ∨ u.link = { s.link with grantWait := none } → u.link.cleared .quiet = s.link.cleared .quiet := by
    intro u h
    rcases h with h | h <;> rw [h] <;> rfl
  unfold State.enterQuiet State.exitLink
  dsimp only
  apply h
  cases hl : s.link.state <;> (repeat' split) <;> simp [State.give, State.exitJoined, State.leaveJoin]

/-- The link after an entry into OFF (R21). -/
theorem State.enterOff_cleared (s : State) : s.enterOff.link = s.link.cleared .off := by
  have h : ∀ u : State, u.link = s.link ∨ u.link = { s.link with grantWait := none } → u.link.cleared .off = s.link.cleared .off := by
    intro u h
    rcases h with h | h <;> rw [h] <;> rfl
  unfold State.enterOff State.exitLink
  dsimp only
  apply h
  cases hl : s.link.state <;> simp [State.give, State.exitJoined, State.leaveJoin]

/-! ## The soft reset of the offer table -/

theorem State.softResetEntry_stateOf (n k : Fin 16) (s : State) :
    (s.softResetEntry n).offers.stateOf k =
      if k = n then (if s.offers.stateOf n = .awarded then .awarded else .empty) else s.offers.stateOf k := by
  have hf : ∀ (t : OfferEngine), (t.forget n).stateOf k = t.stateOf k := fun _ => rfl
  unfold State.softResetEntry
  by_cases h : s.offers.stateOf n = .awarded
  · rw [if_pos (by simp [h]), if_pos h]
    show ((s.offers.setEntry n _).entry k).state = _
    rw [OfferEngine.entry_setEntry]
    by_cases hk : k = n
    · subst hk; simp only [if_true]
      have : (s.offers.entry k).state = .awarded := h
      simp [OfferEntry.softReset, this]
    · simp [hk, OfferEngine.stateOf]
  · rw [if_neg (by simpa using h), if_neg h]
    show ((s.offers.setEntry n _).entry k).state = _
    rw [OfferEngine.entry_setEntry]
    by_cases hk : k = n
    · subst hk; simp only [if_true]
      have : (s.offers.entry k).state ≠ .awarded := h
      simp only [OfferEntry.softReset, beq_iff_eq, if_neg this]
      split <;> rfl
    · simp [hk, OfferEngine.stateOf]

theorem State.foldl_softResetEntry_stateOf (ns : List (Fin 16)) (k : Fin 16) (s : State) :
    (ns.foldl (fun s n => s.softResetEntry n) s).offers.stateOf k =
      if k ∈ ns then (if s.offers.stateOf k = .awarded then .awarded else .empty) else s.offers.stateOf k := by
  induction ns generalizing s with
  | nil => simp
  | cons n ns ih =>
    rw [List.foldl_cons, ih, State.softResetEntry_stateOf]
    by_cases hk : k = n
    · subst hk
      by_cases h : s.offers.stateOf k = .awarded <;> simp [h]
    · simp [hk]

/-- A soft reset leaves an AWARDED entry AWARDED and empties every other (R91). -/
theorem State.softResetOffers_stateOf (k : Fin 16) (s : State) :
    s.softResetOffers.offers.stateOf k = if s.offers.stateOf k = .awarded then .awarded else .empty := by
  unfold State.softResetOffers
  rw [State.foldl_softResetEntry_stateOf, if_pos (by revert k; decide)]

theorem State.foldl_softResetEntry_queue {ns : List (Fin 16)} {s : State} (h : ∀ o ∈ s.path.queue, o.kind.kept = true) :
    ∀ o ∈ (ns.foldl (fun s n => s.softResetEntry n) s).path.queue, o.kind.kept = true := by
  induction ns generalizing s with
  | nil => exact h
  | cons n ns ih =>
    rw [List.foldl_cons]
    apply ih
    unfold State.softResetEntry
    split
    · exact h
    · simp only [State.requestRewrite, MemoryPath.requestRewrite]
      split
      · exact h
      · intro o ho
        rcases List.mem_append.1 ho with ho | ho
        · exact h o ho
        · rw [List.mem_singleton.1 ho]; rfl

theorem State.softResetOffers_queue {s : State} (h : ∀ o ∈ s.path.queue, o.kind.kept = true) :
    ∀ o ∈ s.softResetOffers.path.queue, o.kind.kept = true := by
  unfold State.softResetOffers
  exact State.foldl_softResetEntry_queue h

/-- The soft reset of one entry changes that entry alone (R91). -/
theorem State.softResetEntry_entry (n k : Fin 16) (s : State) :
    (s.softResetEntry n).offers.entry k = if k = n then (s.offers.entry n).softReset else s.offers.entry k := by
  unfold State.softResetEntry
  split
  · exact OfferEngine.entry_setEntry ..
  · exact OfferEngine.entry_setEntry ..

theorem State.foldl_softResetEntry_entry {ns : List (Fin 16)} (h : ns.Nodup) (k : Fin 16) (s : State) :
    (ns.foldl (fun s n => s.softResetEntry n) s).offers.entry k =
      if k ∈ ns then (s.offers.entry k).softReset else s.offers.entry k := by
  induction ns generalizing s with
  | nil => simp
  | cons n ns ih =>
    obtain ⟨h1, h2⟩ := List.nodup_cons.1 h
    rw [List.foldl_cons, ih h2, State.softResetEntry_entry]
    by_cases hk : k = n
    · subst hk; simp [h1]
    · simp [hk]

/-- A soft reset applies its rule to every entry (R91). -/
theorem State.softResetOffers_entry (k : Fin 16) (s : State) :
    s.softResetOffers.offers.entry k = (s.offers.entry k).softReset := by
  unfold State.softResetOffers
  rw [State.foldl_softResetEntry_entry (by decide), if_pos (by revert k; decide)]

theorem State.softResetEntry_queued (n k : Fin 16) (s : State)
    (h : s.path.queued (.offerRewrite k) = true ∨ (k = n ∧ s.offers.stateOf k ≠ .awarded)) :
    (s.softResetEntry n).path.queued (.offerRewrite k) = true := by
  unfold State.softResetEntry
  split
  · rename_i ha
    rcases h with h | ⟨rfl, h⟩
    · exact h
    · exact absurd (by simpa using ha) h
  · unfold State.requestRewrite MemoryPath.requestRewrite
    dsimp only
    split
    · rename_i hq
      rcases h with h | ⟨rfl, h⟩
      · exact h
      · exact hq
    · rcases h with h | ⟨rfl, h⟩
      · simp only [MemoryPath.queued, List.any_append] at h ⊢; simp [h]
      · simp [MemoryPath.queued]

/-- After a soft reset the rewrite of every entry that was not AWARDED waits (R91). -/
theorem State.softResetOffers_queued {k : Fin 16} {s : State} (h : s.offers.stateOf k ≠ .awarded) :
    s.softResetOffers.path.queued (.offerRewrite k) = true := by
  have key : ∀ (ns : List (Fin 16)) (s : State),
      (s.path.queued (.offerRewrite k) = true ∨ (k ∈ ns ∧ s.offers.stateOf k ≠ .awarded)) →
      (ns.foldl (fun s n => s.softResetEntry n) s).path.queued (.offerRewrite k) = true := by
    intro ns
    induction ns with
    | nil => intro s h; simpa using h
    | cons n ns ih =>
      intro s h
      apply ih
      rcases h with h | ⟨h1, h2⟩
      · exact Or.inl (State.softResetEntry_queued _ _ _ (Or.inl h))
      · by_cases hk : k = n
        · exact Or.inl (State.softResetEntry_queued _ _ _ (Or.inr ⟨hk, h2⟩))
        · refine Or.inr ⟨by simpa [hk] using h1, ?_⟩
          unfold OfferEngine.stateOf at h2 ⊢
          rw [State.softResetEntry_entry, if_neg hk]; exact h2
  unfold State.softResetOffers
  exact key allEntries s (Or.inr ⟨(by decide : ∀ k : Fin 16, k ∈ allEntries) k, h⟩)

/-- An operation that waits before the soft reset of the offers waits after it. -/
theorem State.softResetOffers_keeps {o : Operation} {s : State} (h : o ∈ s.path.queue) : o ∈ s.softResetOffers.path.queue := by
  have key : ∀ (ns : List (Fin 16)) (s : State), o ∈ s.path.queue → o ∈ (ns.foldl (fun s n => s.softResetEntry n) s).path.queue := by
    intro ns
    induction ns with
    | nil => intro s h; exact h
    | cons n ns ih =>
      intro s h
      rw [List.foldl_cons]
      apply ih
      unfold State.softResetEntry
      split
      · exact h
      · unfold State.requestRewrite MemoryPath.requestRewrite; dsimp only
        split
        · exact h
        · exact List.mem_append_left _ h
  unfold State.softResetOffers
  exact key allEntries s h

/-- A soft reset keeps the place of an AWARDED entry in the entry order (R91). -/
theorem State.softResetOffers_order {k : Fin 16} {s : State} (h : s.offers.stateOf k = .awarded) :
    k ∈ s.softResetOffers.offers.order ↔ k ∈ s.offers.order := by
  have key : ∀ (ns : List (Fin 16)) (s : State), s.offers.stateOf k = .awarded →
      (k ∈ (ns.foldl (fun s n => s.softResetEntry n) s).offers.order ↔ k ∈ s.offers.order) := by
    intro ns
    induction ns with
    | nil => intro s h; exact Iff.rfl
    | cons n ns ih =>
      intro s h
      rw [List.foldl_cons, ih _ (by rw [State.softResetEntry_stateOf]; split <;> simp_all)]
      unfold State.softResetEntry
      split
      · rfl
      · rename_i hn
        have : k ≠ n := by rintro rfl; exact hn (by simp [h])
        exact List.mem_erase_of_ne this
  unfold State.softResetOffers
  exact key allEntries s h

/-! ## Guard hits -/

/-- What a guard hit does: the Memory Path stays too (R189). -/
theorem State.guardHit_drops (s : State) : s.dropsWrite s.guardHit := by
  refine ⟨⟨State.raise_raises .guard (s.count .guardHits), ?_, ?_⟩, by simp [State.guardHit]⟩
  · rw [State.guardHit, State.raise_eq]; rfl
  · simp [State.guardHit, State.blocksStay]

/-- A write all of whose covered lanes are GUARDED is a guard hit and nothing else, whatever the post buffer holds (R189). -/
theorem State.processorWrite_guarded {s : State} {a : BitVec 19} {l : Lanes} (d : Word) (hr : s.running = true)
    (hd : s.path.resetDrain = false) (hh : s.path.held = []) (hl : laneAny l = true)
    (ht : ∀ hi, (if hi then l.hi else l.lo) = true → s.laneTreatment a hi = .guarded) :
    exec (.processorWrite a l d) s = .next s.guardHit := by
  obtain ⟨lo, hi⟩ := l
  have hrun : s.path.inReset = false := by simpa [State.running] using hr
  have hlo : lo = true → s.laneTreatment a false = .guarded := ht false
  have hhi : hi = true → s.laneTreatment a true = .guarded := ht true
  have h1 : s.postedLanes a ⟨lo, hi⟩ = ⟨false, false⟩ := by
    simp only [State.postedLanes]; cases lo <;> cases hi <;> simp_all
  have h2 : s.lanesOf .guarded a ⟨lo, hi⟩ = ⟨lo, hi⟩ := by
    simp only [State.lanesOf]; cases lo <;> cases hi <;> simp_all
  have h3 : s.lanesOf .watched a ⟨lo, hi⟩ = ⟨false, false⟩ := by
    simp only [State.lanesOf]; cases lo <;> cases hi <;> simp_all
  simp only [exec, execProcessorWrite, State.processorCycle, MemoryPath.holdsAll, hrun, hd, hh, State.attempt, State.processorWrite?, h1,
    laneAny, State.acceptWrite, h2, h3]
  simp only [laneAny] at hl
  simp [hl]
  split <;> rfl

/-- The deposit under way has cycles to come (R107). -/
theorem State.depositWritten_eq_false {k : OpKind} {s : State} :
    s.depositWritten k = false ↔ ∀ u, s.path.under = some u → u.kind = k → u.cycles ≠ [] := by
  unfold State.depositWritten
  cases s.path.under <;> simp

/-- The grant to the drain of an entry for the GUARDED emergency record writes nothing (R191). -/
theorem State.startDrain_drops {s : State} {e : PostEntry} {rest : List PostEntry} (hb : s.path.buffer = e :: rest)
    (hg : (s.running && s.path.portIdle && !s.path.internalTurn) = true) (hd : s.drainDrops e = true) :
    s.startDrain = { s with path := { s.path.processorGrant with drain := .dropping } } := by
  unfold State.startDrain; rw [hb]; dsimp only; rw [if_pos hg, if_pos hd]

/-- The grant to another drain writes its entry (R191, log entry 56). -/
theorem State.startDrain_writes {s : State} {e : PostEntry} {rest : List PostEntry} (hb : s.path.buffer = e :: rest)
    (hg : (s.running && s.path.portIdle && !s.path.internalTurn) = true) (hd : s.drainDrops e = false) :
    s.startDrain =
      { s with path := { s.path.processorGrant with drain := .writing }, mem := Memory.writeLanes s.mem e.address e.lo e.hi } := by
  unfold State.startDrain; rw [hb]; dsimp only; rw [if_pos hg, hd]; rfl

/-- A drain that was dropped at its beginning is a guard hit (R191). -/
theorem State.completeDrain_drops {s : State} {e : PostEntry} {rest : List PostEntry} (hb : s.path.buffer = e :: rest)
    (h : s.path.drain = .dropping) : s.completeDrain = State.service (State.guardHit { s with path := s.path.drained }) := by
  unfold State.completeDrain; rw [hb, h]

/-- Another drain takes its entry out of the buffer (R191). -/
theorem State.completeDrain_writes {s : State} {e : PostEntry} {rest : List PostEntry} (hb : s.path.buffer = e :: rest)
    (h : s.path.drain = .writing) : s.completeDrain = State.service { s with path := s.path.drained } := by
  unfold State.completeDrain; rw [hb, h]

end Sys2Proof.Machine
end

