-- ==== Sys2Proof/Laws/Effects.lean ====
section
/-! SUPPORT. What taken writes, answered reads and the shared operations of the owners do: the lemmas that proofs about commands cite. -/

namespace Sys2Proof.Machine

theorem State.writesFree_ready {s : State} (hs : s.writesFree = true) : s.power.startUp = .ready :=
  ((State.ready_iff s).1 ((State.writesFree_iff s).1 hs).1).2

/-! ## Writes and reads of the fields of the cab area -/

theorem State.posts_of {s t : State} {o : Nat} {l : Lanes} {d : Word} {b : List PostEntry}
    (hp : s.path.post (pageAddress s.path.asel o) l d = some { s.path with buffer := b }) (h : t.path = { s.path with buffer := b }) :
    s.posts t o l d := by
  unfold State.posts; rw [hp, h]

theorem State.posts_through {s t u : State} {o : Nat} {l : Lanes} {d : Word} {b : List PostEntry}
    (hp : s.path.post (pageAddress s.path.asel o) l d = some { s.path with buffer := b })
    (hu : u.path = { s.path with buffer := b }) (h : t.path = u.path) : s.posts t o l d := by
  unfold State.posts; rw [hp, h, hu]

theorem State.raises_of {s t u : State} {m : BitVec 13} (h : u.raises t m) (h1 : u.page = s.page) (h2 : u.pins.attn = s.pins.attn) :
    s.raises t m := by
  unfold State.raises at *; rw [h1, h2] at h; exact h

theorem State.raises_to {s t u : State} {m : BitVec 13} (h : s.raises t m) (h1 : u.page = t.page) (h2 : u.pins.attn = t.pins.attn) :
    s.raises u m := by
  unfold State.raises at *; rw [h1, h2]; exact h

/-- A frame that is heard is handed to its owner (R35). -/
theorem State.receive_heard {s : State} {h : DownHeader} {b : DownBody} (hh : s.hears h b = true) : s.receive h b = s.route h b := by
  unfold State.receive; rw [if_pos hh]

/-- A write of a WATCHED field that is taken at once: its lanes are posted, and its owner takes it from a state that differs only in
the post buffer. -/
theorem State.taken {s : State} {o : Nat} {l : Lanes} {d : Word} (hs : s.writesFree = true) (he : o % 2 = 0) (ho : o < 0x4000)
    (hl : laneAny l = true) (ht : ∀ k, s.treatment (fieldAt o) k = .watched) :
    ∃ b u, s.path.post (pageAddress s.path.asel o) l d = some { s.path with buffer := b } ∧
      Host.Outcome.next (φ := Fault) (ρ := Refusal) (s.writeAt o l d) = .next (State.takeWatched (fieldAt o) l d u) ∧
      u.path = { s.path with buffer := b } ∧ u.pending = s.pending ∧ u.mem = s.mem ∧ u.pins = s.pins ∧ u.page = s.page ∧
      u.link = s.link ∧ u.radio = s.radio ∧ u.sched = s.sched ∧ u.offers = s.offers ∧ u.trips = s.trips ∧ u.msgs = s.msgs ∧
      u.emerg = s.emerg ∧ u.status = s.status ∧ u.power = s.power ∧ u = { s with path := { s.path with buffer := b } } := by
  obtain ⟨b, hp, hw⟩ := State.writeAt_watched hs he ho hl (fun _ => ht _) (fun _ => ht _) (d := d)
  exact ⟨b, _, hp, congrArg Host.Outcome.next hw, rfl, rfl, rfl, rfl, rfl, rfl, rfl, rfl, rfl, rfl, rfl, rfl, rfl, rfl, rfl⟩

/-- A read of a SHADOWED field with no operation under way: it is answered by the owner, and has its effect there. -/
theorem State.answered {s : State} {o : Nat} {l : Lanes} (hs : s.cyclesFree = true) (he : o % 2 = 0) (ho : o < 0x4000)
    (hl : laneAny l = true) (ht : ∀ k, s.treatment (fieldAt o) k = .shadowed) (hu : s.path.under = none) :
    Host.Outcome.next (φ := Fault) (ρ := Refusal) (s.readAt o l) = .next (State.readEffect (fieldAt o)
      { s with
        path := { s.path with
          answer := some
            ⟨pageAddress s.path.asel o, if l.lo then some (Word.lower (s.shadowWord (fieldAt o))) else none,
              if l.hi then some (Word.upper (s.shadowWord (fieldAt o))) else none⟩ } }) := by
  rw [State.readAt_shadowed hs he ho hl (fun _ => ht _) (by simp [State.stalled, hu])]

/-! ## Rings -/

theorem MessageEngine.ring_set (m : MessageEngine) (id : RingId) (r : Ring) : (m.setRing id r).ring id = r := by cases id <;> rfl

theorem MessageEngine.set_set (m : MessageEngine) (id : RingId) (r q : Ring) : (m.setRing id r).setRing id q = m.setRing id q := by
  cases id <;> rfl

theorem fieldAt_ring (id : RingId) :
    fieldAt (ringOffset id) = .ringDescriptor id .base ∧ fieldAt (ringOffset id + 2) = .ringDescriptor id .size ∧
      fieldAt (ringOffset id + 4) = .ringControl id := by
  cases id <;> decide

theorem ringOffset_even (id : RingId) : ringOffset id % 2 = 0 ∧ ringOffset id < 0x100 := by cases id <;> decide

/-! ## Bids and the offer table -/

/-- A queued bid is in the list. -/
theorem State.addBid_mem (j : DWord) (c : BidCode) (s : State) : (⟨j, c, 0⟩ : Bid) ∈ (s.addBid j c).sched.bids := by
  unfold State.addBid
  dsimp only
  generalize (if s.radio.sendsBid j = true then _ else s : State).sched = u
  unfold Scheduler.addBid
  split
  · rename_i h
    simp only [Scheduler.hasBid, List.any_eq_true, beq_iff_eq] at h
    obtain ⟨b, hb, h⟩ := h
    simp only [List.mem_map]
    exact ⟨b, hb, by rw [if_pos h]⟩
  · simp

theorem State.emptyAll_stateOf (ns : List (Fin 16)) (k : Fin 16) (s : State) :
    (State.emptyAll ns s).offers.stateOf k = if k ∈ ns then .empty else s.offers.stateOf k := by
  induction ns generalizing s with
  | nil => simp [State.emptyAll]
  | cons n ns ih =>
    rw [State.emptyAll, ih]
    have : (s.emptyEntry n []).offers.stateOf k = if k = n then .empty else s.offers.stateOf k := by
      show ((s.offers.update n OfferEntry.emptied []).forget n).stateOf k = _
      simp only [OfferEngine.stateOf, OfferEngine.entry_forget, OfferEngine.entry_update]
      split <;> rfl
    rw [this]
    by_cases h : k ∈ ns <;> by_cases h2 : k = n <;> simp [h, h2]

/-- A taken CLOSE empties every entry (R87). -/
theorem State.closeOffers_stateOf (k : Fin 16) (s : State) : s.closeOffers.offers.stateOf k = .empty := by
  unfold State.closeOffers
  dsimp only
  have key : ∀ v : State, v.offers = s.offers →
        (State.emptyAll (allEntries.filter (fun n => s.offers.stateOf n != .empty)) v).offers.stateOf k = .empty := by
    intro v hv
    rw [State.emptyAll_stateOf, hv]
    split
    · rfl
    · rename_i h
      simp only [List.mem_filter, bne_iff_ne, not_and, Decidable.not_not] at h
      exact h ((by decide : ∀ n : Fin 16, n ∈ allEntries) k)
  split
  · rename_i n _
    show ((OfferEngine.attach _ n _).stateOf k) = _
    simp only [OfferEngine.attach, OfferEngine.stateOf, OfferEngine.entry_setEntry]
    split
    · rename_i e; subst e; exact key _ (by split <;> simp)
    · exact key _ (by split <;> simp)
  · exact key _ (by split <;> simp)

theorem MemoryPath.queued_requestRewrite (p : MemoryPath) (k j : OpKind) :
    (p.requestRewrite k).queued j = (p.queued j || k == j) := by
  unfold MemoryPath.requestRewrite
  split
  · rename_i h
    by_cases e : k = j
    · subst e; simp [h]
    · simp [e]
  · simp [MemoryPath.queued, List.any_append]

/-- Emptying entries, each once, changes exactly them (R85). -/
theorem State.emptyAll_entry (ns : List (Fin 16)) (hns : ns.Nodup) (k : Fin 16) (s : State) :
    (State.emptyAll ns s).offers.entry k =
      if k ∈ ns then { (s.offers.entry k).emptied with seq := (s.offers.entry k).seq + 1#8 } else s.offers.entry k := by
  induction ns generalizing s with
  | nil => simp [State.emptyAll]
  | cons n ns ih =>
    rw [State.emptyAll, ih (List.nodup_cons.1 hns).2]
    have e1 : (s.emptyEntry n []).offers.entry k =
        if k = n then { (s.offers.entry k).emptied with seq := (s.offers.entry k).seq + 1#8 } else s.offers.entry k := by
      show ((s.offers.update n OfferEntry.emptied []).forget n).entry k = _
      simp only [OfferEngine.entry_forget, OfferEngine.entry_update]
      split
      · rename_i h; subst h; simp [OfferEntry.emptied, joinCauses, OfferEntry.reset]
      · rfl
    have hn := (List.nodup_cons.1 hns).1
    by_cases h2 : k = n
    · subst h2; simp [hn, e1]
    · simp [h2, e1]

/-- Every entry emptied has its image to be rewritten (R85). -/
theorem State.emptyAll_queued (ns : List (Fin 16)) (k : OpKind) (s : State) :
    (State.emptyAll ns s).path.queued k = (s.path.queued k || ns.any (fun n => OpKind.offerRewrite n == k)) := by
  induction ns generalizing s with
  | nil => simp [State.emptyAll]
  | cons n ns ih =>
    rw [State.emptyAll, ih]
    show ((s.path.requestRewrite (.offerRewrite n)).queued k || _) = _
    rw [MemoryPath.queued_requestRewrite, List.any_cons, Bool.or_assoc]

/-- The last rewrite waiting among entries is one of them, and there is one when the rewrite of one of them waits. -/
theorem lastRewrite_spec (among : Fin 16 → Bool) (q : List Operation) :
    (∀ n, lastRewrite among q = some n → among n = true) ∧
      (lastRewrite among q = none → ∀ n, among n = true → q.any (fun o => o.kind == .offerRewrite n) = false) := by
  induction q with
  | nil => simp [lastRewrite]
  | cons o q ih =>
    unfold lastRewrite
    split
    · rename_i m _ h
      refine ⟨fun n hn => ih.1 n (by rw [h]; exact hn), fun hn => by simp at hn⟩
    · rename_i m h hk
      refine ⟨fun n hn => ?_, fun hn n ha => ?_⟩
      · split at hn <;> simp_all
      · split at hn
        · simp at hn
        · rename_i hm
          have : m ≠ n := fun e => hm (e ▸ ha)
          simp only [List.any_cons, hk, ih.2 h n ha, Bool.or_false]
          simp [this]
    · rename_i h hk
      refine ⟨fun n hn => by simp at hn, fun _ n ha => ?_⟩
      simp only [List.any_cons, ih.2 h n ha, Bool.or_false, beq_eq_false_iff_ne]
      exact hk n

/-- A taken CLOSE empties every entry that held an offer, with its image to be rewritten, and attaches OFFER_CHANGE once (R8, R85, R87). -/
theorem State.closeOffers_entries (s : State) :
    (∀ k, s.offers.stateOf k = .empty → (s.closeOffers.offers.entry k) = s.offers.entry k) ∧
    (∀ k, s.offers.stateOf k ≠ .empty → s.closeOffers.path.queued (.offerRewrite k) = true ∧
      s.closeOffers.offers.entry k = { (s.offers.entry k).emptied with
        seq := (s.offers.entry k).seq + 1#8, causes := (s.closeOffers.offers.entry k).causes }) ∧
    ((∃ k, s.offers.stateOf k ≠ .empty) → ∃ n, s.offers.stateOf n ≠ .empty ∧ .offerChange ∈ (s.closeOffers.offers.entry n).causes ∧
      ∀ k, k ≠ n → (s.closeOffers.offers.entry k).causes = (s.offers.entry k).causes) := by
  unfold State.closeOffers
  dsimp only
  have key : ∀ v : State, v.offers = s.offers → ∀ t : State,
      t = (match lastRewrite (fun n => s.offers.stateOf n != .empty)
          (State.emptyAll (allEntries.filter (fun n => s.offers.stateOf n != .empty)) v).path.queue with
        | some n =>
          let A := State.emptyAll (allEntries.filter (fun n => s.offers.stateOf n != .empty)) v
          { A with offers := A.offers.attach n [.offerChange] }
        | none => State.emptyAll (allEntries.filter (fun n => s.offers.stateOf n != .empty)) v) →
      (∀ k, s.offers.stateOf k = .empty → t.offers.entry k = s.offers.entry k) ∧
      (∀ k, s.offers.stateOf k ≠ .empty → t.path.queued (.offerRewrite k) = true ∧
        t.offers.entry k = { (s.offers.entry k).emptied with
          seq := (s.offers.entry k).seq + 1#8, causes := (t.offers.entry k).causes }) ∧
      ((∃ k, s.offers.stateOf k ≠ .empty) → ∃ n, s.offers.stateOf n ≠ .empty ∧ .offerChange ∈ (t.offers.entry n).causes ∧
        ∀ k, k ≠ n → (t.offers.entry k).causes = (s.offers.entry k).causes) := by
    intro v v1 t ht
    have hmem : ∀ k, k ∈ allEntries.filter (fun n => s.offers.stateOf n != .empty) ↔ s.offers.stateOf k ≠ .empty := by
      intro k
      simp only [List.mem_filter, bne_iff_ne, and_iff_right_iff_imp]
      exact fun _ => (by decide : ∀ n : Fin 16, n ∈ allEntries) k
    have he := fun k => State.emptyAll_entry (allEntries.filter (fun n => s.offers.stateOf n != .empty))
      ((by decide : allEntries.Nodup).filter _) k v
    have hq := fun k => State.emptyAll_queued (allEntries.filter (fun n => s.offers.stateOf n != .empty)) k v
    simp only [hmem, v1] at he
    have hq2 : ∀ k, s.offers.stateOf k ≠ .empty →
        (State.emptyAll (allEntries.filter (fun n => s.offers.stateOf n != .empty)) v).path.queued (.offerRewrite k) = true := by
      intro k hk
      rw [hq]
      simp only [Bool.or_eq_true, List.any_eq_true, beq_iff_eq]
      exact .inr ⟨k, (hmem k).2 hk, rfl⟩
    clear hq
    have hl := lastRewrite_spec (fun n => s.offers.stateOf n != .empty)
      (State.emptyAll (allEntries.filter (fun n => s.offers.stateOf n != .empty)) v).path.queue
    revert ht hl he hq2
    generalize State.emptyAll (allEntries.filter (fun n => s.offers.stateOf n != .empty)) v = A
    intro ht he hq2 hl
    subst ht
    dsimp only
    split
    · rename_i n hn
      have hn2 : s.offers.stateOf n ≠ .empty := by simpa using hl.1 n hn
      have ha : ∀ k, (A.offers.attach n [.offerChange]).entry k =
          if k = n then { A.offers.entry n with causes := joinCauses (A.offers.entry n).causes [.offerChange] } else A.offers.entry k := by
        intro k; simp only [OfferEngine.attach, OfferEngine.entry_setEntry]
      refine ⟨fun k hk => ?_, fun k hk => ⟨hq2 k hk, ?_⟩, fun _ => ⟨n, hn2, ?_, fun k hk => ?_⟩⟩
      · have hkn : k ≠ n := fun e => hn2 (e ▸ hk)
        simp only [ha, hkn, if_false, he, hk, ne_eq, not_true_eq_false]
      · simp only [ha]
        split
        · rename_i e; subst e; simp [he, hk]
        · simp [he, hk, OfferEntry.emptied]
      · simp only [ha, if_true, joinCauses]
        by_cases h : Cause.offerChange ∈ (A.offers.entry n).causes <;> simp [h]
      · simp only [ha, hk, if_false, he]
        split <;> simp [OfferEntry.emptied]
    · rename_i hn
      have none : ∀ k, s.offers.stateOf k = .empty := by
        intro k
        refine Decidable.byContradiction fun hk => ?_
        have := hl.2 hn k (by simpa using hk)
        have h2 := hq2 k hk
        simp [MemoryPath.queued] at h2
        simp at this
        obtain ⟨o, h3, h4⟩ := h2
        exact this o h3 h4
      exact ⟨fun k hk => by simp [he, hk], fun k hk => absurd (none k) hk, fun ⟨k, hk⟩ => absurd (none k) hk⟩
  cases s.offers.awarded with
  | some n => exact key (s.addBid (s.offers.entry n).job .return) (by simp) _ rfl
  | none =>
    cases s.offers.bidding with
    | some n => exact key (s.addBid (s.offers.entry n).job .decline) (by simp) _ rfl
    | none => exact key s rfl _ rfl

theorem State.bidding_spec (t : OfferEngine) :
    (∀ n, t.bidding = some n → t.stateOf n = .bidding) ∧ (t.bidding = none → ∀ n, t.stateOf n ≠ .bidding) := by
  refine ⟨fun n h => ?_, fun h n hn => ?_⟩
  · have := List.find?_some h; simpa using this
  · have := List.find?_eq_none.1 h n ((by decide : ∀ n : Fin 16, n ∈ allEntries) n); simp [hn] at this

theorem State.alertingToOffers_bidding {s : State} (hOff : s.offerLaw) (n : Fin 16) : s.alertingToOffers.offers.stateOf n ≠ .bidding := by
  unfold State.alertingToOffers
  split
  · rename_i k hk
    have hb := (State.bidding_spec _).1 k hk
    simp only [State.addBid_frame]
    show ((s.offers.update k (OfferEntry.become .noAward) [.offerChange]).entry n).state ≠ _
    rw [OfferEngine.entry_update]
    intro h
    split at h
    · simp [OfferEntry.become] at h
    · rename_i hne
      exact hne (hOff.1 n k (by simp [OfferState.claims, OfferEngine.stateOf, h]) (by simp [OfferState.claims, hb]))
  · rename_i hk; exact (State.bidding_spec _).2 hk n

/-- A requested rewrite waits in the queue. -/
theorem MemoryPath.requestRewrite_queued (p : MemoryPath) (k : OpKind) : (p.requestRewrite k).queued k = true := by
  unfold MemoryPath.requestRewrite; split
  · assumption
  · simp [MemoryPath.queued]

theorem MemoryPath.requestRewrite_mem (p : MemoryPath) (k : OpKind) : ∀ o ∈ p.queue, o ∈ (p.requestRewrite k).queue := by
  intro o ho; unfold MemoryPath.requestRewrite; split <;> simp [ho]

theorem State.alertingToOffers_queue (s : State) : ∀ o ∈ s.path.queue, o ∈ s.alertingToOffers.path.queue := by
  intro o ho
  unfold State.alertingToOffers
  split
  · simp only [State.addBid_frame, State.updateEntry, State.requestRewrite]
    exact MemoryPath.requestRewrite_mem _ _ o ho
  · exact ho

/-- The BIDDING entry gives NO_AWARD with OFFER_CHANGE and a DECLINE bid; every other entry stays (R86). -/
theorem State.alertingToOffers_entries {s : State} (hOff : s.offerLaw) :
    (∀ n, s.offers.stateOf n = .bidding → s.alertingToOffers.path.queued (.offerRewrite n) = true ∧
      .offerChange ∈ (s.alertingToOffers.offers.entry n).causes ∧
      s.alertingToOffers.offers.entry n = { s.offers.entry n with
        state := .noAward, timer := none, seq := (s.offers.entry n).seq + 1#8,
        causes := (s.alertingToOffers.offers.entry n).causes } ∧
      ⟨(s.offers.entry n).job, .decline, 0⟩ ∈ s.alertingToOffers.sched.bids) ∧
    ∀ n, s.offers.stateOf n ≠ .bidding → s.alertingToOffers.offers.entry n = s.offers.entry n := by
  unfold State.alertingToOffers
  split
  · rename_i k hk
    have hb := (State.bidding_spec _).1 k hk
    simp only [State.addBid_frame]
    have he : ∀ n, (s.updateEntry k (OfferEntry.become .noAward) [.offerChange]).offers.entry n = _ :=
      fun n => OfferEngine.entry_update s.offers k n (OfferEntry.become .noAward) [.offerChange]
    refine ⟨fun n hn => ?_, fun n hn => ?_⟩
    · have e : n = k := hOff.1 n k (by simp [OfferState.claims, hn]) (by simp [OfferState.claims, hb])
      subst e
      refine ⟨MemoryPath.requestRewrite_queued _ _, ?_, ?_, State.addBid_mem _ _ _⟩
      · rw [he, if_pos rfl]
        by_cases h : Cause.offerChange ∈ (s.offers.entry n).causes <;> simp [joinCauses, OfferEntry.become, h]
      · rw [he, if_pos rfl]; rfl
    · have e : n ≠ k := fun e => hn (e ▸ hb)
      rw [he, if_neg e]
  · rename_i hk
    exact ⟨fun n hn => absurd hn ((State.bidding_spec _).2 hk n), fun _ _ => rfl⟩

/-- What an entry into ALERTING does, but for the frames on the air (R86, R152). -/
theorem State.enterAlerting_spec (src : Source) {s t : State} (hr : s.power.startUp = .ready) (hOff : s.offerLaw) (ht : s.enterAlerting src = t) :
    t.emerg = { s.emerg with
      state := .alerting, number := nextSkippingZero s.emerg.number, source := src, raisedAt := s.link.clock,
      ackedAt := 0#32, cancelledAt := 0#32, sends := 0#16, hold := none, causeWaits := true,
      owed := s.emerg.owed || (!s.path.queued .emergencyRewrite && s.path.underWay .emergencyRewrite) } ∧
    t.sched.alertPlace = some ⟨nextSkippingZero s.emerg.number, src⟩ ∧ t.sched.alertAttempts = 0 ∧
    t.sched.statusPlace = some t.statusReport ∧ t.lampLaw ∧ t.page = s.page ∧ s.linesStay t ∧
    t.status = { s.status with alarmOn := true } ∧ (∀ n, t.offers.stateOf n ≠ .bidding) ∧
    (s.path.busyWith .emergencyRewrite = false → ⟨.emergencyRewrite, 0⟩ ∈ t.path.queue) ∧
    t.trips = (if s.emerg.state = .clear then
      { s.trips with trip := s.trips.trip.map (fun o => { o with flags := { o.flags with emergency := true } }) } else s.trips) ∧
    t.pending = s.pending ∧ t.mem = s.mem ∧ t.link = s.link ∧ t.msgs = s.msgs ∧ t.power = s.power ∧ t.path.buffer = s.path.buffer ∧
    t.radio.output = s.radio.output ∧
    (∀ n, s.offers.stateOf n = .bidding → t.path.queued (.offerRewrite n) = true ∧ .offerChange ∈ (t.offers.entry n).causes ∧
      t.offers.entry n = { s.offers.entry n with
        state := .noAward, timer := none, seq := (s.offers.entry n).seq + 1#8, causes := (t.offers.entry n).causes } ∧
      ⟨(s.offers.entry n).job, .decline, 0⟩ ∈ t.sched.bids) ∧
    ∀ n, s.offers.stateOf n ≠ .bidding → t.offers.entry n = s.offers.entry n := by
  subst ht
  unfold State.enterAlerting
  dsimp only
  generalize hv : (if (s.emerg.state == EmergencyState.clear) = true then s.markTripEmergency else s : State) = v
  have vm : v = { s with trips := v.trips } ∧
        v.trips = if s.emerg.state = .clear then { s.trips with trip := s.trips.trip.map (fun o => { o with flags := { o.flags with emergency := true } }) } else s.trips := by
    subst hv
    by_cases hc : s.emerg.state = .clear <;> simp [hc, State.markTripEmergency, State.changeTrip]
  obtain ⟨v1, v2⟩ := vm
  rw [v1]
  dsimp only
  rw [v2]
  unfold State.alertingHandOn
  simp only [State.rewriteWithCause_eq, State.fillAlert, State.refillAlert]
  generalize hW : ({ s with path := _, sched := _, trips := _, emerg := _ } : State) = W
  have hWo : W.offerLaw := by subst hW; exact hOff
  have hb := State.alertingToOffers_bidding hWo
  have hq := State.alertingToOffers_queue W
  have he := State.alertingToOffers_entries hWo
  have hWf : W.offers = s.offers := by subst hW; rfl
  rw [hWf] at he
  have w1 : (W.alertingToOffers.sched.alertPlace = W.sched.alertPlace ∧ W.alertingToOffers.sched.alertAttempts = W.sched.alertAttempts) ∧
        W.alertingToOffers.emerg = W.emerg ∧ W.alertingToOffers.page = W.page ∧ W.alertingToOffers.pins = W.pins ∧
        W.alertingToOffers.status = W.status ∧ W.alertingToOffers.trips = W.trips ∧ W.alertingToOffers.pending = W.pending ∧
        W.alertingToOffers.mem = W.mem ∧ W.alertingToOffers.link = W.link ∧ W.alertingToOffers.msgs = W.msgs ∧
        W.alertingToOffers.power = W.power ∧ W.alertingToOffers.path.buffer = W.path.buffer ∧
        W.alertingToOffers.radio.output = W.radio.output := by
    simp
  obtain ⟨⟨w1, w2⟩, w3, w4, w5, w6, w7, w8, w9, w10, w11, w12, w13, w14⟩ := w1
  generalize W.alertingToOffers = A at *
  rw [State.handOn_eq]
  refine ⟨?_, ?_, ?_, ?_, ?_, ?_, ?_, ?_, ?_, ?_, ?_, ?_, ?_, ?_, ?_, ?_, ?_, ?_, he.1, he.2⟩
  · rw [show _ = A.emerg from rfl, w3, ← hW]
  · rw [show _ = A.sched.alertPlace from rfl, w1, ← hW]
  · rw [show _ = A.sched.alertAttempts from rfl, w2, ← hW]
  · dsimp only
    rw [w12, ← hW]; dsimp only; rw [if_pos hr]; rfl
  · exact ⟨rfl, rfl, rfl⟩
  · rw [show _ = A.page from rfl, w4, ← hW]
  · unfold State.linesStay; dsimp only; rw [w5, ← hW]; simp
  · dsimp only; rw [w6, ← hW]
  · exact hb
  · intro h
    apply hq
    rw [← hW]; dsimp only; rw [h]; simp
  · rw [show _ = A.trips from rfl, w7, ← hW]
  · rw [show _ = A.pending from rfl, w8, ← hW]
  · rw [show _ = A.mem from rfl, w9, ← hW]
  · rw [show _ = A.link from rfl, w10, ← hW]
  · rw [show _ = A.msgs from rfl, w11, ← hW]
  · rw [show _ = A.power from rfl, w12, ← hW]
  · rw [show _ = A.path.buffer from rfl, w13, ← hW]
  · rw [show _ = A.radio.output from rfl, w14, ← hW]

/-! ## Judging an inbound message -/

theorem Scheduler.addAck_mem (u : Scheduler) (tag : Word) : tag ∈ (u.addAck tag).acks := by
  unfold Scheduler.addAck
  split
  · rename_i h; simpa using h
  · simp

theorem State.addAck_eq (tag : Word) (s : State) :
    s.addAck tag = { s with sched := s.sched.addAck tag, radio := (s.addAck tag).radio } := by
  unfold State.addAck
  dsimp only
  (repeat' split) <;> rfl

/-- What judging the message of a buffer does (R140 to R142). -/
theorem State.judge_spec {k : BufferId} {m : InMessage} {s t : State} (hd : s.msgs.deposit = none) (ht : s.judge k m = t) :
    t = { s with msgs := t.msgs, path := t.path, sched := t.sched, radio := t.radio, page := t.page } ∧
    t.msgs = { s.msgs.setBuffer k .empty with deposit := t.msgs.deposit } ∧
    t.path.buffer = s.path.buffer ∧ t.path.under = s.path.under ∧
    (m.tag ∈ s.msgs.delivered → t.msgs.deposit = none ∧ t.page = s.page ∧ t.path = s.path ∧
      (m.ackRequired = true → m.truncated = false → m.tag ∈ t.sched.acks) ∧
      (¬(m.ackRequired = true ∧ m.truncated = false) → t.sched = s.sched)) ∧
    (m.tag ∉ s.msgs.delivered → t.sched = s.sched ∧
      (∀ plan, s.msgs.inbound.plan m.bytes = some plan → t.msgs.deposit = some ⟨m, plan⟩ ∧ t.page = s.page ∧
        t.path = { s.path with queue := s.path.queue ++ [⟨.inboundDeposit, 0⟩] }) ∧
      (s.msgs.inbound.plan m.bytes = none → t.msgs.deposit = none ∧ t.path = s.path ∧
        t.page.counters.messagesDropped = satAdd s.page.counters.messagesDropped 1#16)) := by
  subst ht
  have e1 : (s.msgs.setBuffer k .empty).delivered = s.msgs.delivered := by cases k <;> rfl
  have e2 : (s.msgs.setBuffer k .empty).inbound = s.msgs.inbound := by cases k <;> rfl
  have e3 : (s.msgs.setBuffer k .empty).deposit = none := by cases k <;> exact hd
  unfold State.judge
  dsimp only
  rw [show (s.setBuffer k .empty).msgs = s.msgs.setBuffer k .empty from rfl, e1, e2]
  by_cases hdl : m.tag ∈ s.msgs.delivered
  · rw [if_pos (by simpa using hdl)]
    unfold State.queueAck
    split
    · rename_i h
      simp only [Bool.and_eq_true, Bool.not_eq_true'] at h
      rw [State.addAck_eq]
      refine ⟨rfl, by rw [show (s.setBuffer k .empty).msgs = s.msgs.setBuffer k .empty from rfl, e3]; cases k <;> simp [MessageEngine.setBuffer, hd], rfl, rfl,
        fun _ => ⟨e3, rfl, rfl, fun _ _ => ?_, fun h2 => absurd h h2⟩, fun h2 => absurd hdl h2⟩
      exact Scheduler.addAck_mem _ _
    · rename_i h
      simp only [Bool.and_eq_true, Bool.not_eq_true'] at h
      exact ⟨rfl, by rw [show (s.setBuffer k .empty).msgs = s.msgs.setBuffer k .empty from rfl, e3]; cases k <;> simp [MessageEngine.setBuffer, hd], rfl, rfl,
        fun _ => ⟨e3, rfl, rfl, fun a b => absurd ⟨a, b⟩ h, fun _ => rfl⟩, fun h2 => absurd hdl h2⟩
  · rw [if_neg (by simpa using hdl)]
    cases hp : s.msgs.inbound.plan m.bytes with
    | some plan =>
      exact ⟨rfl, rfl, rfl, rfl, fun h => absurd h hdl, fun _ => ⟨rfl, fun p h => by cases h; exact ⟨rfl, rfl, rfl⟩, fun h => (by cases h)⟩⟩
    | none =>
      refine ⟨rfl, ?_, rfl, rfl, fun h => absurd h hdl, fun _ => ⟨rfl, fun p h => (by cases h), fun _ => ⟨e3, rfl, rfl⟩⟩⟩
      rw [show (State.dropMessage (s.setBuffer k .empty)).msgs = s.msgs.setBuffer k .empty from rfl, e3]; cases k <;> simp [MessageEngine.setBuffer, hd]

/-- With no deposit under way, the one CLOSED buffer is judged, and nothing remains to be judged (R140). -/
theorem State.judgeAll_one {k : BufferId} {m : InMessage} {s : State} (hk : s.msgs.buffer k = .closed m) (hd : s.msgs.deposit = none)
    (ho : ∀ j, j ≠ k → (s.msgs.buffer j).message? = none) : s.judgeAll = s.judge k m := by
  have h1 : s.judgeNext = s.judge k m := by
    unfold State.judgeNext MessageEngine.earliestClosed
    rw [hd]
    cases k
    · have := ho .buffer1 (by simp)
      simp only [MessageEngine.buffer] at hk this
      rw [hk, this]; rfl
    · have := ho .buffer0 (by simp)
      simp only [MessageEngine.buffer] at hk this
      rw [hk, this]; rfl
  have hb : ∀ j, ((s.judge k m).msgs.buffer j).message? = none := by
    have hs : ∀ j, ((s.msgs.setBuffer k .empty).buffer j).message? = none := by
      intro j
      by_cases e : j = k
      · subst e; cases j <;> rfl
      · have := ho j e; cases j <;> cases k <;> first | exact absurd rfl e | simpa [MessageEngine.setBuffer, MessageEngine.buffer] using this
    intro j
    have h := hs j
    rw [(State.judge_spec hd rfl).2.1]
    cases j <;> exact h
  unfold State.judgeAll
  rw [h1]
  have h0 := hb .buffer0
  have h2 := hb .buffer1
  simp only [MessageEngine.buffer] at h0 h2
  generalize s.judge k m = t at *
  unfold State.judgeNext MessageEngine.earliestClosed
  rw [h0, h2]
  cases t.msgs.deposit <;> rfl

/-- No buffer assembles a tag that is fresh (R137). -/
theorem MessageEngine.assemblingTag_fresh {m : MessageEngine} {tag : Word} (hf : ∀ (k : BufferId) a, m.buffer k = .assembling a → a.tag ≠ tag) :
    m.assemblingTag tag = none := by
  have h0 := hf .buffer0
  have h1 := hf .buffer1
  simp only [MessageEngine.buffer] at h0 h1
  unfold MessageEngine.assemblingTag
  cases e0 : m.buffer0 <;> cases e1 : m.buffer1 <;> simp_all [Buffer.assembly?]

/-- A message of one fragment closes in the empty buffer that it takes, and is judged (R137, R138, R140). -/
theorem State.takeText_one {s : State} {b : TextBody}
    (hb : ¬(b.count.toNat ≤ b.index.toNat ∨ b.count.toNat < 1 ∨ 5 < b.count.toNat ∨ 40 < b.text.length))
    (hf : ∀ (k : BufferId) a, s.msgs.buffer k = .assembling a → a.tag ≠ b.tag) (h1 : b.count.toNat = 1) {k : BufferId}
    (he : s.msgs.buffer k = .empty) (hk : k = .buffer0 ∨ s.msgs.buffer0 ≠ .empty) :
    s.takeText b = State.judgeAll { s with
      msgs := { s.msgs.setBuffer k
          (.closed ⟨b.tag, b.flags.getLsbD 0, b.flags.getLsbD 1, false, [some b.text], s.link.clock, s.msgs.stamp + 1⟩) with
        stamp := s.msgs.stamp + 2 } } := by
  have hp : (List.replicate b.count.toNat none).set b.index.toNat (some b.text) = [some b.text] := by
    have : b.index.toNat = 0 := by omega
    rw [h1, this]; rfl
  unfold State.takeText
  rw [if_neg hb, MessageEngine.assemblingTag_fresh hf]
  dsimp only
  have : s.msgs.bufferFor = some (k, none) := by
    unfold MessageEngine.bufferFor
    rcases hk with rfl | hk
    · simp only [MessageEngine.buffer] at he; rw [he]
    · cases k
      · exact absurd he hk
      · simp only [MessageEngine.buffer] at he; rw [he]; cases h0 : s.msgs.buffer0 <;> simp_all
  rw [this]
  dsimp only
  unfold State.assemble
  rw [if_pos (by simp [newAssembly, Assembly.complete, hp])]
  congr 1
  cases k <;> simp [State.closeBuffer, newAssembly, hp, MessageEngine.setBuffer]

/-- While a deposit is under way nothing is judged (R140). -/
theorem State.judgeAll_waits {s : State} (hd : s.msgs.deposit ≠ none) : s.judgeAll = s := by
  have h : s.judgeNext = s := by unfold State.judgeNext; cases hq : s.msgs.deposit <;> simp_all
  unfold State.judgeAll; rw [h, h]

/-- An assembly that is truncated while a deposit is under way is dropped, unless it repeats a message delivered already (R138, log entry 29). -/
theorem State.truncateFor_waits {s : State} {k : BufferId} {a : Assembly} (hd : s.msgs.deposit ≠ none) :
    s.truncateFor k a = { s with
      msgs := { s.msgs.setBuffer k .empty with stamp := s.msgs.stamp + 1 }, page := (s.truncateFor k a).page } ∧
    (a.tag ∈ s.msgs.delivered → (s.truncateFor k a).page = s.page) ∧
    (a.tag ∉ s.msgs.delivered →
      (s.truncateFor k a).page.counters.messagesDropped = satAdd s.page.counters.messagesDropped 1#16) := by
  have e2 : (s.closeBuffer k a true).msgs.buffer k =
      .closed ⟨a.tag, a.urgent, a.ackRequired, true, a.parts, s.link.clock, s.msgs.stamp⟩ := by cases k <;> rfl
  have e3 : ((s.closeBuffer k a true).setBuffer k .empty).msgs.delivered = s.msgs.delivered := by cases k <;> rfl
  unfold State.truncateFor
  rw [State.judgeAll_waits (s := s.closeBuffer k a true) (by cases k <;> exact hd)]
  dsimp only; rw [e2]; dsimp only; rw [e3]
  by_cases hm : a.tag ∈ s.msgs.delivered
  · rw [if_pos (by simpa using hm)]
    exact ⟨by cases k <;> rfl, fun _ => rfl, fun h => absurd hm h⟩
  · rw [if_neg (by simpa using hm)]
    exact ⟨by cases k <;> rfl, fun h => absurd h hm, fun h => by cases k <;> rfl⟩

/-- What judging the message of a CLOSED buffer does, with no deposit under way. -/
theorem State.judge_judges {k : BufferId} {m : InMessage} {s : State} (hd : s.msgs.deposit = none) : s.judges (s.judge k m) k m := by
  have e1 : (s.msgs.setBuffer k .empty).delivered = s.msgs.delivered := by cases k <;> rfl
  have e2 : (s.msgs.setBuffer k .empty).inbound = s.msgs.inbound := by cases k <;> rfl
  have e3 : (s.msgs.setBuffer k .empty).deposit = none := by cases k <;> exact hd
  have e4 : ∀ m : MessageEngine, m.deposit = none → m = { m with deposit := none } := by intro m h; cases m; cases h; rfl
  unfold State.judges State.judge
  dsimp only
  rw [show (s.setBuffer k .empty).msgs = s.msgs.setBuffer k .empty from rfl, e1, e2]
  by_cases hdl : m.tag ∈ s.msgs.delivered
  · rw [if_pos (by simpa using hdl)]
    unfold State.queueAck
    split
    · rename_i h
      simp only [Bool.and_eq_true, Bool.not_eq_true'] at h
      rw [State.addAck_eq]
      refine ⟨rfl, ?_, fun _ => ⟨e3, rfl, rfl, ?_, fun _ => Scheduler.addAck_mem _ _, fun h2 => absurd h h2⟩, fun h2 => absurd hdl h2⟩
      · show s.msgs.setBuffer k .empty = _
        rw [show (s.setBuffer k .empty).msgs = s.msgs.setBuffer k .empty from rfl, e3]; cases k <;> exact e4 _ hd
      · unfold Scheduler.addAck; dsimp only; split <;> rfl
    · rename_i h
      simp only [Bool.and_eq_true, Bool.not_eq_true'] at h
      refine ⟨rfl, ?_, fun _ => ⟨e3, rfl, rfl, rfl, fun h2 => absurd h2 h, fun _ => ⟨rfl, rfl⟩⟩, fun h2 => absurd hdl h2⟩
      rw [show (s.setBuffer k .empty).msgs = s.msgs.setBuffer k .empty from rfl, e3]; cases k <;> exact e4 _ hd
  · rw [if_neg (by simpa using hdl)]
    cases hp : s.msgs.inbound.plan m.bytes with
    | some plan =>
      refine ⟨rfl, rfl, fun h => absurd h hdl, fun _ => ⟨rfl, rfl, fun p h => by cases h; exact ⟨rfl, rfl, rfl⟩, fun h => (by cases h)⟩⟩
    | none =>
      refine ⟨rfl, ?_, fun h => absurd h hdl, fun _ => ⟨rfl, rfl, fun p h => (by cases h), fun _ => ⟨e3, rfl, rfl⟩⟩⟩
      rw [show (State.dropMessage (s.setBuffer k .empty)).msgs = s.msgs.setBuffer k .empty from rfl, e3]; cases k <;> exact e4 _ hd

/-- The judging of the buffer that closed earliest, and of the other one when no deposit has begun (R140). -/
theorem State.judgeAll_two {k j : BufferId} {m : InMessage} {s : State} (hkj : k ≠ j) (hk : s.msgs.buffer k = .closed m) (hd : s.msgs.deposit = none)
    (ho : (s.msgs.buffer j).message? = none ∨ ∃ x, s.msgs.buffer j = .closed x ∧ m.closedAt < x.closedAt) :
    ∃ t, s.judges t k m ∧ ((s.msgs.buffer j).message? = none ∨ t.msgs.deposit ≠ none → s.judgeAll = t) ∧
    (∀ x, s.msgs.buffer j = .closed x → t.msgs.deposit = none → ∃ w, t.judges w j x ∧ s.judgeAll = w) := by
  have h1 : s.judgeNext = s.judge k m := by
    unfold State.judgeNext MessageEngine.earliestClosed
    rw [hd]
    cases k <;> cases j <;> first | exact absurd rfl hkj | skip
    · simp only [MessageEngine.buffer] at hk ho
      rw [hk]
      rcases ho with ho | ⟨x, ho, hx⟩
      · rw [ho]; rfl
      · rw [ho]; simp only [Buffer.message?]; rw [if_pos hx]
    · simp only [MessageEngine.buffer] at hk ho
      rw [hk]
      rcases ho with ho | ⟨x, ho, hx⟩
      · rw [ho]; rfl
      · rw [ho]; simp only [Buffer.message?]; rw [if_neg (by omega)]
  have hj := State.judge_judges (k := k) (m := m) hd
  refine ⟨s.judge k m, hj, ?_⟩
  have hb : (s.judge k m).msgs.buffer j = s.msgs.buffer j ∧ (s.judge k m).msgs.buffer k = .empty := by
    rw [hj.2.1]; cases k <;> cases j <;> first | exact absurd rfl hkj | exact ⟨rfl, rfl⟩
  unfold State.judgeAll
  rw [h1]
  generalize s.judge k m = t at *
  refine ⟨?_, ?_⟩
  · rintro (h | h)
    · have : t.msgs.earliestClosed = none := by
        unfold MessageEngine.earliestClosed
        cases k <;> cases j <;> first | exact absurd rfl hkj | skip
        all_goals simp only [MessageEngine.buffer] at hb h; rw [hb.2]; rw [hb.1, h]; rfl
      unfold State.judgeNext; rw [this]; cases t.msgs.deposit <;> rfl
    · unfold State.judgeNext; cases hq : t.msgs.deposit <;> simp_all
  · intro x hx hdt
    refine ⟨t.judge j x, State.judge_judges hdt, ?_⟩
    have : t.msgs.earliestClosed = some (j, x) := by
      rw [hx] at hb
      unfold MessageEngine.earliestClosed
      cases k <;> cases j <;> first | exact absurd rfl hkj | skip
      all_goals simp only [MessageEngine.buffer] at hb; rw [hb.2]; rw [hb.1]; rfl
    unfold State.judgeNext; rw [hdt, this]

/-- A change of the flow state (R144). -/
theorem State.changeFlow_spec (p : Bool) (s : State) :
    (s.changeFlow p).page = s.page ∧ (s.changeFlow p).pins.attn = s.pins.attn ∧ (s.changeFlow p).msgs = { s.msgs with paused := p } ∧
    (s.changeFlow p).sched.flowPlace = some (if p then .pause else .resume) ∧ (s.changeFlow p).sched.acks = s.sched.acks ∧
    (s.power.startUp = .ready → (s.changeFlow p).sched.statusPlace = some (s.changeFlow p).statusReport) := by
  unfold State.changeFlow State.fillFlow State.handOn State.refreshReport State.driveLamps
  dsimp only
  by_cases h : s.power.startUp = .ready
  · simp [h]; rfl
  · simp [h]

/-- The evaluation of the flow state (R144). -/
theorem State.evaluateFlow_spec (s : State) :
    s.evaluateFlow.page = s.page ∧ s.evaluateFlow.pins.attn = s.pins.attn ∧
    s.evaluateFlow.msgs = { s.msgs with paused := s.evaluateFlow.msgs.paused } ∧ s.evaluateFlow.sched.acks = s.sched.acks ∧
    (s.msgs.inbound.state = .open → s.flows s.evaluateFlow (s.msgs.inbound.desc.size.toNat - 4) s.msgs.inbound.own s.msgs.inbound.theirs) ∧
    (s.msgs.inbound.state ≠ .open → s.evaluateFlow = s) := by
  unfold State.evaluateFlow State.flows Ring.free freeBytes Descriptor.dataSize
  dsimp only
  by_cases h : s.msgs.inbound.state = .open
  · simp only [h]
    generalize hq : (s.msgs.inbound.theirs.toNat + 2 * (s.msgs.inbound.desc.size.toNat - 4) - s.msgs.inbound.own.toNat - 4) %
      (s.msgs.inbound.desc.size.toNat - 4) = free
    cases hp : s.msgs.paused
    · by_cases hf : free < s.msgs.pauseAt
      · obtain ⟨a1, a2, a3, a4, a5, a6⟩ := State.changeFlow_spec true s
        simp [hf, a3, a4]
        exact a6
      · simp [hf, hp]; rw [← hp]
    · by_cases hf : s.msgs.resumeAt ≤ free
      · obtain ⟨a1, a2, a3, a4, a5, a6⟩ := State.changeFlow_spec false s
        simp [hf, a3, a4]
        exact a6
      · simp [hf, hp]; rw [← hp]
  · simp [h]

/-! ## Closing a trip -/

/-- The totals differ at most in the three counts of fates that lists decide (R110, R108, R112). -/
def Totals.sameButFates (a b : Totals) : Prop :=
  b = { a with reportsInList := b.reportsInList, reportsAbandoned := b.reportsAbandoned, tripsNotLogged := b.tripsNotLogged }

theorem State.changeTotalsFor_totals (r : TripRef) (f : Totals → Totals) (s : State) :
    (s.changeTotalsFor r f).trips.totals = if s.status.shiftOpen = true ∧
          r.shift = s.status.shiftNumber then f s.trips.totals else s.trips.totals := by
  unfold State.changeTotalsFor State.ofOpenShift State.changeTotals
  by_cases h : s.status.shiftOpen = true <;> by_cases k : r.shift = s.status.shiftNumber <;> simp [h, k]

/-- An abandoned report (R112). -/
theorem State.abandonReport_spec (r : TripRef) (s : State) :
    s.raises (s.abandonReport r) 0x20#13 ∧ (s.abandonReport r).trips.reports = s.trips.reports.filter (fun e => e.record.ref != r) ∧
    r ∈ (s.abandonReport r).trips.abandoned ∧
    (s.abandonReport r).trips.totals = (if s.status.shiftOpen = true ∧
          r.shift = s.status.shiftNumber then s.trips.totals.listedToAbandoned else s.trips.totals) := by
  unfold State.abandonReport
  dsimp only
  refine ⟨State.raises_of (State.raise_raises .reportDone _) (by simp) (by simp), by simp [TripEngine.unlist], ?_, ?_⟩
  · have : ∀ l : List TripRef, r ∈ lastSixteen (l ++ [r]) := by
      intro l; unfold lastSixteen
      rw [List.drop_append_of_le_length (by simp)]; simp
    simp [this]
  · simp [State.changeTotalsFor_totals, TripEngine.unlist]

theorem State.changeTotalsFor_same {r : TripRef} {f : Totals → Totals} {s : State} (h : ∀ t, Totals.sameButFates t (f t)) :
    Totals.sameButFates s.trips.totals (s.changeTotalsFor r f).trips.totals := by
  rw [State.changeTotalsFor_totals]; split
  · exact h _
  · rfl

theorem Totals.sameButFates_trans {a b c : Totals} (h : Totals.sameButFates a b) (k : Totals.sameButFates b c) : Totals.sameButFates a c := by
  unfold Totals.sameButFates at *; rw [k, h]

theorem State.abandonReport_same (r : TripRef) (s : State) : Totals.sameButFates s.trips.totals (s.abandonReport r).trips.totals := by
  rw [(State.abandonReport_spec r s).2.2.2]; split <;> rfl

/-- A closed trip's report enters the list as its newest (R110). -/
theorem State.listReport_spec (record : TripRecord) (s : State) :
    (s.listReport record).trips.reports.getLast? = some ⟨record, 0, 0, false⟩ ∧
    Totals.sameButFates s.trips.totals (s.listReport record).trips.totals ∧
    (s.trips.reports.length < 8 → (∀ e ∈ s.trips.reports, e.record.ref ≠ record.ref) →
      (s.listReport record).trips.reports = s.trips.reports ++ [⟨record, 0, 0, false⟩] ∧ (s.listReport record).page = s.page ∧
      (s.listReport record).trips.totals =
        (if s.status.shiftOpen = true ∧ record.ref.shift = s.status.shiftNumber then
          { s.trips.totals with reportsInList := satAdd s.trips.totals.reportsInList 1#16 } else s.trips.totals)) := by
  unfold State.listReport
  dsimp only
  have h0 : ∀ u : State, Totals.sameButFates u.trips.totals u.makeRoomForReport.trips.totals := by
    intro u; unfold State.makeRoomForReport; split
    · split
      · exact State.abandonReport_same _ _
      · rfl
    · rfl
  refine ⟨?_, ?_, ?_⟩
  · simp
  · refine Totals.sameButFates_trans ?_ (State.changeTotalsFor_same (fun t => rfl))
    dsimp only
    refine Totals.sameButFates_trans ?_ (h0 _)
    split
    · exact State.abandonReport_same _ _
    · rfl
  · intro hl hn
    have e : s.trips.reports.any (fun e => e.record.ref == record.ref) = false := by
      simp only [List.any_eq_false, beq_iff_eq]; exact hn
    rw [e]
    have e2 : s.makeRoomForReport = s := by
      unfold State.makeRoomForReport; split
      · rw [if_neg (by omega)]
      · rfl
    simp only [Bool.false_eq_true, if_false, e2]
    refine ⟨by simp, by simp, ?_⟩
    rw [State.changeTotalsFor_totals]

/-- A closed record goes to the trip log, or waits for it (R107, R108). -/
theorem State.offerToLog_spec (record : TripRecord) (s : State) :
    ((s.offerToLog record).trips.deposit.map (·.record) = some record ∨ record ∈ (s.offerToLog record).trips.pendingLog) ∧
    Totals.sameButFates s.trips.totals (s.offerToLog record).trips.totals ∧
    (s.offerToLog record).trips.totals.reportsInList = s.trips.totals.reportsInList ∧
    (s.offerToLog record).trips.totals.reportsAbandoned = s.trips.totals.reportsAbandoned := by
  have hp : record ∈ (s.pendRecord record).trips.pendingLog ∧ Totals.sameButFates s.trips.totals (s.pendRecord record).trips.totals ∧
      (s.pendRecord record).trips.totals.reportsInList = s.trips.totals.reportsInList ∧
      (s.pendRecord record).trips.totals.reportsAbandoned = s.trips.totals.reportsAbandoned := by
    unfold State.pendRecord
    dsimp only
    refine ⟨by simp, ?_, ?_, ?_⟩
    · split
      · split
        · exact State.changeTotalsFor_same (fun t => rfl)
        · rfl
      · rfl
    all_goals
      split
      · split
        · simp only [State.changeTotalsFor_totals]; split <;> rfl
        · rfl
      · rfl
  unfold State.offerToLog
  split
  · split
    · exact ⟨Or.inl rfl, rfl, rfl, rfl⟩
    · exact ⟨Or.inr hp.1, hp.2⟩
  · exact ⟨Or.inr hp.1, hp.2⟩

/-- A trip closes (R102 to R107, R110, R115). -/
theorem State.closeTrip_spec {e : TripEnd} {s t : State} {o : OpenTrip} (h : s.trips.trip = some o) (ht : s.closeTrip e = t) :
    t.trips.trip = none ∧ t.trips.silence = none ∧ t.trips.lastRef = o.ref ∧
    t.trips.reports.getLast? = some ⟨s.closedRecord o e, 0, 0, false⟩ ∧
    (t.trips.deposit.map (·.record) = some (s.closedRecord o e) ∨ s.closedRecord o e ∈ t.trips.pendingLog) ∧
    Totals.sameButFates (s.trips.totals.take (s.closedRecord o e)) t.trips.totals ∧
    (s.trips.reports.length < 8 → (∀ x ∈ s.trips.reports, x.record.ref ≠ o.ref) →
      t.trips.reports = s.trips.reports ++ [⟨s.closedRecord o e, 0, 0, false⟩] ∧
      t.trips.totals.reportsAbandoned = s.trips.totals.reportsAbandoned ∧ t.page = s.page ∧
      (s.status.shiftOpen = true → o.ref.shift = s.status.shiftNumber →
        t.trips.totals.reportsInList = satAdd s.trips.totals.reportsInList 1#16)) ∧
    t.status.status = (if e.interrupted = false ∧
          s.status.status = .hired then (if s.offers.awarded.isSome then .assigned else .free) else s.status.status) := by
  subst ht
  unfold State.closeTrip
  rw [h]
  dsimp only
  generalize hr : s.closedRecord o e = r
  have hrr : r.ref = o.ref := by subst hr; rfl
  generalize hA : (if e.interrupted = true then _ else State.statusAfterTrip _ : State) = A
  have a : A.trips = { s.trips with trip := none, silence := none, lastRef := o.ref, totals := s.trips.totals.take r } ∧
      A.status.shiftOpen = s.status.shiftOpen ∧ A.status.shiftNumber = s.status.shiftNumber ∧ A.page = s.page ∧
      A.status.status = (if e.interrupted = false ∧
            s.status.status = .hired then (if s.offers.awarded.isSome then .assigned else .free) else s.status.status) := by
    subst hA
    cases e.interrupted
    · refine ⟨by simp [State.changeTotals], by simp, by simp, by simp, ?_⟩
      simp only [Bool.false_eq_true, if_false]
      unfold State.statusAfterTrip
      by_cases hh : s.status.status = .hired <;> simp [hh, State.changeTotals, State.setStatus]
      congr
    · simp [State.changeTotals]
  obtain ⟨a1, a2, a3, a4, a5⟩ := a
  have b := State.offerToLog_spec r A
  generalize hB : A.offerToLog r = B at *
  have bb : B.trips.trip = A.trips.trip ∧ B.trips.silence = A.trips.silence ∧ B.trips.lastRef = A.trips.lastRef ∧
        B.trips.reports = A.trips.reports ∧ B.status = A.status ∧ B.page = A.page := by
    subst hB; simp
  obtain ⟨b1, b2, b3, b4, b5, b6⟩ := bb
  have c := State.listReport_spec r B
  generalize hC : B.listReport r = C at *
  have cc : C.trips.trip = B.trips.trip ∧ C.trips.silence = B.trips.silence ∧ C.trips.lastRef = B.trips.lastRef ∧ C.status = B.status ∧
        C.trips.deposit = B.trips.deposit ∧ C.trips.pendingLog = B.trips.pendingLog := by
    subst hC; simp
  obtain ⟨c1, c2, c3, c4, c5, c6⟩ := cc
  simp only [State.settleLong_frame]
  refine ⟨by rw [c1, b1, a1], by rw [c2, b2, a1], by rw [c3, b3, a1], c.1, by rw [c5, c6]; exact b.1, ?_, ?_, by rw [c4, b5, a5]⟩
  · refine Totals.sameButFates_trans ?_ c.2.1
    have := b.2.1
    rw [a1] at this; exact this
  · intro hl hn
    have hl' : B.trips.reports.length < 8 := by rw [b4, a1]; exact hl
    have hn' : ∀ x ∈ B.trips.reports, x.record.ref ≠ r.ref := by rw [b4, a1, hrr]; exact hn
    obtain ⟨d1, d2, d3⟩ := c.2.2 hl' hn'
    refine ⟨by rw [d1, b4, a1], ?_, by rw [d2, b6, a4], fun h1 h2 => ?_⟩
    · rw [d3]
      have : B.trips.totals.reportsAbandoned = s.trips.totals.reportsAbandoned := by rw [b.2.2.2, a1]; rfl
      split <;> exact this
    · rw [d3, if_pos ⟨by rw [b5, a2]; exact h1, by rw [b5, a3, hrr]; exact h2⟩]
      dsimp only
      rw [b.2.2.1, a1]; rfl

/-! ## Coming up, and opening a trip -/

/-- In ACTIVE nothing is a wake event (R175). -/
theorem State.wakeEvent_active {w : WakeSource} {s : State} (h : s.power.power = .active) : s.wakeEvent w = s := by
  unfold State.wakeEvent; rw [h]; rfl

theorem State.enterActive_power (s : State) : s.enterActive.power = { s.power with power := .active, park := false } := by
  unfold State.enterActive; dsimp only
  rw [State.handOn_eq]
  split <;> simp

/-- A wake event (R174, R177). -/
theorem State.wakeEvent_spec {w : WakeSource} {s : State} (h : w.wakesIn s.power.power = true) :
    (s.wakeEvent w).power = { s.power with power := .active, park := false, reason := s.power.reason.add w } ∧
    (s.wakeEvent w).pins.wake = true ∧ (s.wakeEvent w).page.causes &&& 0x100#13 = 0x100#13 := by
  unfold State.wakeEvent
  rw [if_pos h]
  dsimp only
  refine ⟨?_, by simp, ?_⟩
  · simp only [State.raise_frame, State.enterActive_power]
  · rw [State.raise_causes]
    show (_ ||| 0x100#13) &&& _ = _
    generalize State.page _ = p
    ext i hi; simp [Bool.and_or_distrib_right]

/-- The AWARDED entry is emptied by a HIRE (R85). -/
theorem State.carryJob_spec (s : State) :
    (∀ n, s.offers.awarded = some n → s.carryJob.offers.stateOf n = .empty ∧ s.carryJob.path.queued (.offerRewrite n) = true ∧
          .offerChange ∈ (s.carryJob.offers.entry n).causes) ∧
    (∀ n, s.offers.awarded ≠ some n → s.carryJob.offers.entry n = s.offers.entry n) := by
  unfold State.carryJob
  refine ⟨?_, ?_⟩
  · intro n h
    rw [h]
    unfold State.emptyEntry State.updateEntry
    simp only [State.requestRewrite, OfferEngine.stateOf, OfferEngine.entry_forget, OfferEngine.entry_update, if_true]
    refine ⟨rfl, MemoryPath.requestRewrite_queued _ _, ?_⟩
    simp only [joinCauses, List.mem_append, List.mem_filter]
    by_cases hm : Cause.offerChange ∈ (s.offers.entry n).causes
    · left; exact hm
    · right; simp [OfferEntry.emptied, hm]
  · intro n h
    cases ha : s.offers.awarded with
    | none => rfl
    | some k =>
      unfold State.emptyEntry State.updateEntry
      simp only [State.requestRewrite, OfferEngine.entry_forget, OfferEngine.entry_update]
      rw [if_neg]
      rintro rfl; exact h ha

/-- A trip opens (R98). -/
theorem State.openTrip_spec (k : Byte) (s t : State) (hr : s.power.startUp = .ready) (ht : s.openTrip k = t) :
    ∃ o, t.trips.trip = some o ∧
      o.startTime = s.link.clock ∧ o.startMark = s.link.seconds ∧ o.tariffs = [⟨k, s.link.clock⟩] ∧ o.groups = ⟨0#32, 0#32, 0#32, 0#32⟩ ∧
      o.ungrouped = 0#32 ∧ o.stepSum = 0#32 ∧ o.stepCount = 0#16 ∧
      o.flags = ⟨s.emerg.state != .clear, false, false, false, false, false⟩ ∧ t.trips.silence = some 15 ∧
      o.job = s.offers.awarded.map (fun n => (s.offers.entry n).job) ∧
      o.forced = (s.offers.awarded.any (fun n => (s.offers.entry n).forced)) ∧
      (∀ n, s.offers.awarded = some n → t.offers.stateOf n = .empty ∧ t.path.queued (.offerRewrite n) = true ∧
        .offerChange ∈ (t.offers.entry n).causes) ∧
      (∀ n, s.offers.awarded ≠ some n → t.offers.entry n = s.offers.entry n) ∧
      t.sched.statusPlace = some t.statusReport ∧ t.lampLaw ∧
      o.ref = ⟨s.status.shiftNumber, s.trips.counter⟩ ∧ t.status = { s.status with status := .hired } ∧
        t.trips = { s.trips with trip := some o, counter := nextSkippingZero s.trips.counter, silence := some 15 } := by
  subst ht
  unfold State.openTrip State.setStatus
  dsimp only
  have cj := State.carryJob_spec s
  have fr : s.carryJob.link = s.link ∧ s.carryJob.status = s.status ∧ s.carryJob.trips = s.trips ∧ s.carryJob.emerg = s.emerg ∧
        s.carryJob.power = s.power := by simp
  generalize s.carryJob = A at *
  obtain ⟨f1, f2, f3, f4, f5⟩ := fr
  rw [State.handOn_eq]
  refine ⟨_, rfl, ?_⟩
  dsimp only
  rw [f1, f2, f3, f4, f5, if_pos hr]
  have hj : s.offers.job = s.offers.awarded.map (fun n => ((s.offers.entry n).job, (s.offers.entry n).forced)) := by
    unfold OfferEngine.job; cases s.offers.awarded <;> rfl
  refine ⟨rfl, rfl, rfl, rfl, rfl, rfl, rfl, rfl, rfl, ?_, ?_, cj.1, cj.2, rfl, ⟨?_, ?_, ?_⟩, rfl, rfl, rfl⟩
  · rw [hj]; cases s.offers.awarded <;> rfl
  · rw [hj]; cases s.offers.awarded <;> rfl
  all_goals simp [State.lampsFollow, f5]

/-- Causes that are set stay set (R208). -/
theorem State.raise_keeps {m : BitVec 13} {c : Cause} {s : State} (h : s.page.causes &&& m = m) : (s.raise c).page.causes &&& m = m := by
  rw [State.raise_causes]
  have : (s.page.causes ||| c.mask) &&& m = (s.page.causes &&& m) ||| (c.mask &&& m) := by
    ext i hi; simp [Bool.and_or_distrib_right]
  rw [this, h]
  ext i hi; simp only [BitVec.getElem_or, BitVec.getElem_and]; cases m[i] <;> simp

theorem State.abandonReport_keeps {m : BitVec 13} {r : TripRef} {s : State} (h : s.page.causes &&& m = m) :
    (s.abandonReport r).page.causes &&& m = m := by
  unfold State.abandonReport
  exact State.raise_keeps (by simpa using h)

theorem State.listReport_keeps {m : BitVec 13} {r : TripRecord} {s : State} (h : s.page.causes &&& m = m) :
    (s.listReport r).page.causes &&& m = m := by
  unfold State.listReport
  dsimp only
  simp only [State.changeTotalsFor_frame]
  have h0 : ∀ u : State, u.page.causes &&& m = m → u.makeRoomForReport.page.causes &&& m = m := by
    intro u hu; unfold State.makeRoomForReport; split
    · split
      · exact State.abandonReport_keeps hu
      · exact hu
    · exact hu
  apply h0
  split
  · exact State.abandonReport_keeps h
  · exact h

theorem State.closeTrip_keeps {m : BitVec 13} {e : TripEnd} {s : State} (h : s.page.causes &&& m = m) : (s.closeTrip e).page.causes &&& m = m := by
  unfold State.closeTrip
  split
  · dsimp only
    simp only [State.settleLong_frame]
    apply State.listReport_keeps
    simp only [State.offerToLog_frame]
    split <;> simpa using h
  · exact h

/-! ## Updates and long slots -/

/-- The update of an entry that leaves its state (R69, R70). -/
theorem State.updateEntry_become (n : Fin 16) (st : OfferState) (s : State) : let t := s.updateEntry n (OfferEntry.become st) [.offerChange]
   (t = { s with offers := t.offers, path := t.path } ∧ t.path.buffer = s.path.buffer ∧
      t.path.under = s.path.under ∧ t.offers.order = s.offers.order) ∧
      t.offers.entry n = { s.offers.entry n with
        state := st, timer := none, seq := (s.offers.entry n).seq + 1#8, causes := (t.offers.entry n).causes } ∧
      .offerChange ∈ (t.offers.entry n).causes ∧ t.path.queued (.offerRewrite n) = true ∧
      ∀ k, k ≠ n → t.offers.entry k = s.offers.entry k := by
  dsimp only
  unfold State.updateEntry
  simp only [State.requestRewrite, OfferEngine.entry_update, if_true]
  refine ⟨⟨trivial, by simp, by simp, by simp⟩, rfl, ?_, MemoryPath.requestRewrite_queued _ _, ?_⟩
  · simp only [joinCauses, List.mem_append, List.mem_filter]
    by_cases hm : Cause.offerChange ∈ (s.offers.entry n).causes
    · left; exact hm
    · right; simp [OfferEntry.become, hm]
  · intro k hk; rw [if_neg hk]

/-- Asking for long slots changes only the scheduler and what is on the air (R59). -/
theorem State.settleLong_eq (s : State) : ∃ sc ra, s.settleLong = { s with sched := sc, radio := ra } := ⟨s.settleLong.sched, s.settleLong.radio, by
  have : s.settleLong.pending = s.pending ∧ s.settleLong.mem = s.mem ∧ s.settleLong.pins = s.pins ∧ s.settleLong.path = s.path ∧
        s.settleLong.page = s.page ∧ s.settleLong.link = s.link ∧ s.settleLong.offers = s.offers ∧ s.settleLong.trips = s.trips ∧
        s.settleLong.msgs = s.msgs ∧ s.settleLong.emerg = s.emerg ∧ s.settleLong.status = s.status ∧ s.settleLong.power = s.power := by simp
  generalize s.settleLong = t at *
  obtain ⟨a,b,c,d,e,f,g,h,i,j,k,l⟩ := this
  cases t; simp_all⟩

/-- A slot request that waits stays while a long frame is sendable, and leaves its place when none is (R59). -/
theorem State.settleLong_request {s : State} {r : SlotRequest} (h : s.sched.long = .request) (hr : s.sched.slotRequest = some r) :
    s.settleLong.sendable = s.sendable ∧
    (s.sendable = 0 → s.settleLong.sched.slotRequest = none ∧ s.settleLong.sched.long = .none) ∧ (0 < s.sendable → s.settleLong = s) := by
  refine ⟨by simp [State.sendable, State.siteHasFare, State.siteHasText], fun h0 => ?_, fun h0 => ?_⟩
  · unfold State.settleLong; rw [h]; dsimp only; rw [if_pos h0]
    exact ⟨by simp [State.emptySlotRequest, Scheduler.emptySlotRequest, hr], rfl⟩
  · unfold State.settleLong; rw [h]; dsimp only; rw [if_neg (by omega)]

/-- With contention IDLE no contender leaves it when long slots are settled (R58, R59). -/
theorem State.settleLong_idle {s : State} (h : s.sched.contention = .idle) : s.settleLong.sched.contention = .idle := by
  unfold State.settleLong State.emptySlotRequest Scheduler.emptySlotRequest
  (repeat' split) <;> simp [h, Contention.leave]

/-- The bid list after a failed transmission: one attempt more for the bid, which leaves at the eighth (R56, R57). -/
theorem Scheduler.bidFails_bids (u : Scheduler) (job : DWord) : (u.bidFails job).bids = u.bids.filterMap (fun x =>
    if x.job = job then (if 7 ≤ x.attempts then none else some { x with attempts := x.attempts + 1 }) else some x) := by
  simp only [Scheduler.bidFails]
  induction u.bids with
  | nil => rfl
  | cons b l ih =>
    simp only [List.map_cons, List.filterMap_cons]
    by_cases h : b.job = job
    · by_cases h2 : 7 ≤ b.attempts
      · rw [List.filter_cons_of_neg (by simp [h]; omega)]; simp [h, h2, ih]
      · rw [List.filter_cons_of_pos (by simp [h]; omega)]; simp [h, h2, ih]
    · rw [List.filter_cons_of_pos (by simp [h])]; simp [h, ih]

/-- The bid list without the bid of a job (R47, R56). -/
theorem Scheduler.dropBid_bids (u : Scheduler) (job : DWord) : (u.dropBid job).bids = u.bids.filter (fun x => x.job != job) := by
  unfold Scheduler.dropBid
  split
  · rfl
  · rename_i h
    symm
    rw [List.filter_eq_self]
    intro a ha
    simp [Scheduler.hasBid] at h ⊢
    exact h a ha

/-- A grant whose last slot has passed ends, and nothing else changes but what asks for long slots (R59, R62). -/
theorem State.endPassedGrant_spec (s : State) :
    s.endPassedGrant = { s with
      sched := { s.sched with
        grant := s.endPassedGrant.sched.grant, long := s.endPassedGrant.sched.long,
        slotRequest := s.endPassedGrant.sched.slotRequest } } := by
  unfold State.endPassedGrant State.endGrant State.settleLong
  cases s.sched.grant with
  | none => rfl
  | some g =>
    dsimp only
    split
    · split <;> rfl
    · rfl

/-- What a good beacon makes of the cycle (R18 to R20). -/
theorem State.alignCycle_spec (b : BeaconBody) (s : State) :
    let t := s.alignCycle b
    t = { s with link := t.link, sched := t.sched, emerg := t.emerg, power := t.power } ∧
    t.link = { s.link with
      quiet := t.link.quiet, grantWait := t.link.grantWait, cycle := b.cycle, nextSlot := 0, window := true, beaconIn := true,
      clock := b.time, contention := min 8 b.contention.toNat } ∧
    t.sched = { s.sched with grant := t.sched.grant, long := t.sched.long, slotRequest := t.sched.slotRequest } ∧
    t.emerg.state = s.emerg.state ∧ t.power.image = s.power.image ∧
    (s.link.window = true → t.emerg = s.emerg ∧ t.power = s.power ∧ t.link.grantWait = s.link.grantWait) ∧
    (s.link.state = .quiet → t.link.quiet = if s.link.window = true then s.link.quiet else s.link.quiet + 1) := by
  unfold State.alignCycle State.countCycleStart
  dsimp only
  by_cases h : s.link.window = true
  · rw [if_pos h]
    exact ⟨rfl, rfl, rfl, rfl, rfl, fun _ => ⟨rfl, rfl, rfl⟩, fun _ => by rw [if_pos h]⟩
  · rw [if_neg h, State.endPassedGrant_spec]
    exact ⟨rfl, rfl, rfl, rfl, rfl, fun k => absurd k h, fun k => by rw [if_neg h]; simp [k]⟩

/-! ## The hunt and JOIN -/

/-- The candidate is in the list with a rank that none behind it beats and that it beats every one before it by (R26). -/
def Candidate.selectedFrom (c : Candidate) (l : List Candidate) : Prop :=
  ∃ before after, l = before ++ c :: after ∧ (∀ d ∈ before, abilityRank c.abilities < abilityRank d.abilities) ∧
    ∀ d ∈ after, abilityRank c.abilities ≤ abilityRank d.abilities

theorem selectCandidate_none_iff (l : List Candidate) : selectCandidate l = none ↔ l = [] := by
  cases l with
  | nil => simp [selectCandidate]
  | cons a l =>
    unfold selectCandidate
    cases selectCandidate l <;> dsimp only <;> (try split) <;> simp

/-- The selected candidate has the highest rank, the earliest among equals (R26). -/
theorem selectCandidate_some {l : List Candidate} {c : Candidate} (h : selectCandidate l = some c) : c.selectedFrom l := by
  induction l generalizing c with
  | nil => simp [selectCandidate] at h
  | cons a l ih =>
    unfold selectCandidate at h
    cases hs : selectCandidate l with
    | none =>
      rw [hs] at h
      cases h
      exact ⟨[], l, rfl, by simp, by simp [(selectCandidate_none_iff l).1 hs]⟩
    | some d =>
      rw [hs] at h
      obtain ⟨b, f, rfl, h1, h2⟩ := ih hs
      dsimp only at h
      split at h <;> cases h
      · rename_i hlt
        refine ⟨a :: b, f, rfl, fun x hx => ?_, h2⟩
        rcases List.mem_cons.1 hx with rfl | hx
        · exact hlt
        · exact h1 x hx
      · rename_i hlt
        refine ⟨[], _, rfl, by simp, fun x hx => ?_⟩
        rcases List.mem_append.1 hx with hx | hx
        · have := h1 x hx
          omega
        · rcases List.mem_cons.1 hx with rfl | hx
          · omega
          · have := h2 x hx
            omega

theorem State.enterJoin_spec (c : Candidate) (s : State) :
    (s.enterJoin c).link = { s.link with state := .join, joining := some c, attempts := 0, loss := 0, grantWait := none, hunt := none } ∧
    (s.enterJoin c).sched = { s.sched with joinPlace := true, joinAttempts := 0, contention := .idle } ∧
    s.enterJoin c = { s with link := (s.enterJoin c).link, radio := (s.enterJoin c).radio, sched := (s.enterJoin c).sched } ∧
    (s.radio.sending = none → s.radio.deferred = [] → (s.enterJoin c).radio.channel = c.channel) := by
  unfold State.enterJoin
  dsimp only
  by_cases h : s.radio.tuned = c.channel
  · rw [if_pos h]
    refine ⟨rfl, rfl, rfl, fun h1 h2 => ?_⟩
    have : s.radio.tuned = s.radio.channel := by unfold Transceiver.tuned; rw [h2]; rfl
    rw [← this]; exact h
  · rw [if_neg h]
    refine ⟨rfl, rfl, rfl, fun h1 h2 => ?_⟩
    unfold State.give Transceiver.give; simp [h1, Transceiver.apply]

theorem dropRepeats_spec (l : List Word) : (dropRepeats l).Nodup ∧ ∀ d, d ∈ dropRepeats l ↔ d ∈ l := by
  induction l with
  | nil => simp [dropRepeats]
  | cons a l ih =>
    unfold dropRepeats
    refine ⟨?_, ?_⟩
    · rw [List.nodup_cons]; exact ⟨by simp, ih.1.filter _⟩
    · intro d
      simp only [List.mem_cons, List.mem_filter, ih.2, bne_iff_ne]
      by_cases h : d = a <;> simp [h]

/-- The channels of a list without repeats stand in the order of the list (R23). -/
theorem dropRepeats_order (l : List Word) : (dropRepeats l).Pairwise (fun d e => l.idxOf d < l.idxOf e) := by
  induction l with
  | nil => exact List.Pairwise.nil
  | cons a l ih =>
    have hne : ∀ d : Word, (d != a) = true → (a == d) = false := by
      intro d hd; rw [bne_iff_ne] at hd; exact beq_false_of_ne (Ne.symm hd)
    unfold dropRepeats
    rw [List.pairwise_cons]
    refine ⟨fun e he => ?_, ?_⟩
    · simp [List.idxOf_cons, hne e (List.mem_filter.1 he).2]
    · rw [List.pairwise_filter]
      refine ih.imp (fun {d e} h hd he => ?_)
      simpa [List.idxOf_cons, hne d hd, hne e he] using h

/-- The next channel is tuned (R23). -/
theorem State.tuneNext_spec (d : Word) (ds : List Word) (s : State) :
    s.tuneNext d ds = { s with link := { s.link with state := .hunt, hunt := some ⟨d, ds, none⟩ }, radio := (s.tuneNext d ds).radio } ∧
          (s.tuneNext d ds).radio.output = s.radio.output ++ [.order (.tune d)] ∧
      (s.radio.sending = none → (s.tuneNext d ds).radio.channel = d) := by
  refine ⟨rfl, ?_, fun h => ?_⟩
  · unfold State.tuneNext State.give Transceiver.give; dsimp only; split <;> rfl
  · unfold State.tuneNext State.give Transceiver.give; simp [h, Transceiver.apply]

/-- Entry into QUIET from QUIET, HUNT or JOIN (R22). -/
theorem State.enterQuiet_from {s : State} (h : s.link.state ≠ .off) (hj : s.link.state ≠ .joined) : s.enterQuiet false =
    { s with link := s.link.cleared .quiet, radio := (s.enterQuiet false).radio, sched := (s.enterQuiet false).sched } := by
  unfold State.enterQuiet State.exitLink
  cases hs : s.link.state
  · exact absurd hs h
  · simp [hs]
  · simp [hs]
  · simp [State.leaveJoin, hs, LinkController.cleared]
  · exact absurd hs hj

/-- The failure of the candidate being joined: the link is QUIET when no other is left, and else the one that is selected is joined. -/
theorem State.candidateFails_spec {s : State} (hj : s.link.state = .join) {c : Candidate} (hc : s.link.joining = some c) :
    (s.link.candidates.erase c = [] →
      s.candidateFails = { s with
        link := s.link.cleared .quiet, radio := s.candidateFails.radio, sched := s.sched.clearJoin }) ∧
    (s.link.candidates.erase c ≠ [] → ∃ d, d.selectedFrom (s.link.candidates.erase c) ∧
      s.candidateFails = { s with link := s.candidateFails.link, radio := s.candidateFails.radio, sched := s.candidateFails.sched } ∧
      s.candidateFails.link = { s.link with
        joining := some d, candidates := s.link.candidates.erase c, attempts := 0, loss := 0, grantWait := none, hunt := none } ∧
      s.candidateFails.sched = { s.sched.clearJoin with joinPlace := true, joinAttempts := 0 }) := by
  unfold State.candidateFails
  rw [hc]
  dsimp only
  cases h : selectCandidate (s.link.candidates.erase c) with
  | none =>
    refine ⟨fun _ => ?_, fun hn => absurd ((selectCandidate_none_iff _).1 h) hn⟩
    dsimp only
    rw [State.enterQuiet_from (by simp [State.leaveJoin, hj]) (by simp [State.leaveJoin, hj])]
    simp [State.leaveJoin, State.enterQuiet, State.exitLink, hj, LinkController.cleared, Scheduler.clearJoin]
  | some d =>
    refine ⟨fun hn => by rw [hn] at h; simp [selectCandidate] at h, fun _ => ⟨d, selectCandidate_some h, ?_⟩⟩
    dsimp only
    obtain ⟨e1, e2, e3, _⟩ := State.enterJoin_spec d
      { s.leaveJoin with link := { s.leaveJoin.link with candidates := s.link.candidates.erase c } }
    refine ⟨e3, ?_, e2⟩
    rw [e1, State.leaveJoin, hj]

end Sys2Proof.Machine
end

