-- ==== Sys2Proof/Laws/Hunt.lean ====
section
/-! SUPPORT. The size law of the hunt is kept by the operations that a command is made of. -/

namespace Sys2Proof.Machine

/-- The size law of the hunt on the values it speaks of. -/
def CandidatesOk (channels : List Word) (candidates : List Candidate) (hunt : Option Hunt) : Prop :=
  channels.length ≤ 8 ∧ candidates.length ≤ 8 ∧ ∀ h, hunt = some h → candidates.length + h.rest.length < 8

/-- Entry into JOIN ends the pass and keeps the candidates (R27). -/
theorem State.enterJoin_pass (c : Candidate) (s : State) :
    (s.enterJoin c).link.hunt = none ∧ (s.enterJoin c).link.candidates = s.link.candidates ∧
      (s.enterJoin c).link.channels = s.link.channels := by
  unfold State.enterJoin; dsimp only; split <;> simp

theorem dropRepeats_length (l : List Word) : (dropRepeats l).length ≤ l.length := by
  induction l with
  | nil => exact Nat.le_refl _
  | cons c rest ih => exact Nat.succ_le_succ (Nat.le_trans (List.length_filter_le _ _) ih)

theorem channelsOf_length (b : List Byte) (n : Nat) : ∀ o, (channelsOf b o n).length = n := by
  induction n with
  | zero => exact fun _ => rfl
  | succ n ih => exact fun o => congrArg Nat.succ (ih (o + 2))

/-- A good image lists at most eight channels (R181). -/
theorem judgeImage_channels {b : List Byte} {image : ConfigImage} (h : judgeImage b = .good image) : image.channels.length ≤ 8 := by
  unfold judgeImage at h
  dsimp only at h
  split at h
  · cases h
  split at h
  · cases h
  split at h
  · cases h
  split at h
  · cases h
  rename_i hc
  split at h
  · cases h
  split at h
  · cases h
  split at h
  · cases h
  split at h
  · cases h
  split at h
  · cases h
  · cases h
    show (channelsOf b 6 (imageByte b 4).toNat).length ≤ 8
    rw [channelsOf_length]
    omega


@[simp] theorem State.enterQuiet_cands (b : Bool) {s : State} {v_link_channels} (ev_link_channels : s.link.channels = v_link_channels)
    (hl : CandidatesOk s.link.channels s.link.candidates s.link.hunt) :
    CandidatesOk v_link_channels (State.enterQuiet b s).link.candidates (State.enterQuiet b s).link.hunt := by
  subst ev_link_channels;
  unfold State.enterQuiet; dsimp only; simp [LinkController.cleared, CandidatesOk, hl.1]

@[simp] theorem State.enterOff_cands {s : State} {v_link_channels} (ev_link_channels : s.link.channels = v_link_channels)
    (hl : CandidatesOk s.link.channels s.link.candidates s.link.hunt) :
    CandidatesOk v_link_channels (State.enterOff s).link.candidates (State.enterOff s).link.hunt := by
  subst ev_link_channels;
  unfold State.enterOff; dsimp only; simp [LinkController.cleared, CandidatesOk, hl.1]

@[simp] theorem State.enterJoin_cands (c : Candidate) {s : State} {v_link_channels} (ev_link_channels : s.link.channels = v_link_channels)
    {v_link_candidates} (ev_link_candidates : s.link.candidates = v_link_candidates)
    (hl : CandidatesOk s.link.channels s.link.candidates s.link.hunt) :
    CandidatesOk v_link_channels v_link_candidates (State.enterJoin c s).link.hunt := by
  subst ev_link_channels; subst ev_link_candidates;
  unfold State.enterJoin; (repeat' split) <;> simp_all (maxDischargeDepth := 12) [CandidatesOk]

@[simp] theorem State.endPass_cands {s : State} {v_link_channels} (ev_link_channels : s.link.channels = v_link_channels)
    (hl : CandidatesOk s.link.channels s.link.candidates s.link.hunt) :
    CandidatesOk v_link_channels (State.endPass s).link.candidates (State.endPass s).link.hunt := by
  subst ev_link_channels;
  unfold State.endPass; split <;> simp [State.enterJoin_pass, State.enterQuiet, LinkController.cleared, CandidatesOk, hl.1, hl.2.1]

@[simp] theorem State.candidateFails_cands {s : State} {v_link_channels} (ev_link_channels : s.link.channels = v_link_channels)
    (hl : CandidatesOk s.link.channels s.link.candidates s.link.hunt) :
    CandidatesOk v_link_channels (State.candidateFails s).link.candidates (State.candidateFails s).link.hunt := by
  subst ev_link_channels;
  unfold State.candidateFails; split
  · rename_i c hc
    have he : (s.link.candidates.erase c).length ≤ 8 := Nat.le_trans (List.length_erase_le ..) hl.2.1
    dsimp only; split <;> simp [CandidatesOk, State.enterJoin_pass, State.enterQuiet, LinkController.cleared, hl.1, he]
  · exact hl

@[simp] theorem State.tuneNext_cands (c : Word) (r : List Word) {s : State} {v_link_channels}
    (ev_link_channels : s.link.channels = v_link_channels) {v_link_candidates} (ev_link_candidates : s.link.candidates = v_link_candidates)
    (hl : CandidatesOk s.link.channels s.link.candidates s.link.hunt) (hs : s.link.candidates.length + r.length < 8) :
    CandidatesOk v_link_channels v_link_candidates (State.tuneNext c r s).link.hunt := by
  subst ev_link_channels; subst ev_link_candidates;
  simp [State.tuneNext, CandidatesOk, hl.1, hl.2.1, hs]

@[simp] theorem State.quickJoin_cands (c : Word) (r : Run) {s : State} {v_link_channels}
    (ev_link_channels : s.link.channels = v_link_channels) (hc : s.link.channels.length ≤ 8) :
    CandidatesOk v_link_channels (State.quickJoin c r s).link.candidates (State.quickJoin c r s).link.hunt := by
  subst ev_link_channels;
  simp [State.quickJoin, State.enterJoin_pass, CandidatesOk, hc]

@[simp] theorem State.nextChannel_cands {s : State} {v_link_channels} (ev_link_channels : s.link.channels = v_link_channels)
    (hs : s.link.channels.length ≤ 8 ∧ s.link.candidates.length ≤ 8 ∧
      ∀ h, s.link.hunt = some h → s.link.candidates.length + h.rest.length ≤ 8) :
    CandidatesOk v_link_channels (State.nextChannel s).link.candidates (State.nextChannel s).link.hunt := by
  subst ev_link_channels;
  have hp : s.endPass.link.candidates.length ≤ 8 ∧ ∀ h, s.endPass.link.hunt = some h →
      s.endPass.link.candidates.length + h.rest.length < 8 := by
    unfold State.endPass
    split
    · simp [State.enterJoin_pass, hs.2.1]
    · simp [State.enterQuiet, LinkController.cleared]
  unfold State.nextChannel; split
  · rename_i h hh
    have h3 := hs.2.2 h hh
    split
    · exact State.quickJoin_cands _ _ rfl hs.1
    · exact ⟨hs.1, hp⟩
    · rename_i c rest _ hr
      have hlt : s.link.candidates.length + rest.length < 8 := by rw [hr] at h3; simp at h3; omega
      split
      · exact ⟨hs.1, hp⟩
      · simp [State.tuneNext, CandidatesOk, hs.1, hs.2.1, hlt]
  · rename_i h; exact ⟨hs.1, hs.2.1, fun k hk => absurd hk (by simp [h])⟩

@[simp] theorem State.startHunt_cands {s : State} {v_link_channels} (ev_link_channels : s.link.channels = v_link_channels)
    (hl : CandidatesOk s.link.channels s.link.candidates s.link.hunt) :
    CandidatesOk v_link_channels (State.startHunt s).link.candidates (State.startHunt s).link.hunt := by
  subst ev_link_channels;
  have hr := dropRepeats_length s.link.channels
  unfold State.startHunt; split
  · rename_i c rest h
    rw [h] at hr
    have hr : rest.length < 8 := Nat.lt_of_lt_of_le hr hl.1
    simp [State.tuneNext, CandidatesOk, hl.1, hr]
  · exact hl

@[simp] theorem State.huntBeacon_cands (g : Bool) (n : Word) (a : Byte) {s : State} {v_link_channels}
    (ev_link_channels : s.link.channels = v_link_channels) (hl : CandidatesOk s.link.channels s.link.candidates s.link.hunt) :
    CandidatesOk v_link_channels (State.huntBeacon g n a s).link.candidates (State.huntBeacon g n a s).link.hunt := by
  subst ev_link_channels;
  unfold State.huntBeacon; split
  · rename_i h hh
    have h3 := hl.2.2 h hh
    dsimp only; (repeat' split) <;> first
      | exact State.quickJoin_cands _ _ rfl hl.1
      | exact State.endPass_cands rfl hl
      | (refine State.nextChannel_cands rfl ⟨hl.1, ?_, ?_⟩
         · simp; omega
         · intro k hk; cases hk; simp; omega)
      | exact ⟨hl.1, hl.2.1, fun k hk => by cases hk; exact h3⟩
  · exact hl

@[simp] theorem State.joinFails_cands {s : State} {v_link_channels} (ev_link_channels : s.link.channels = v_link_channels)
    (hl : CandidatesOk s.link.channels s.link.candidates s.link.hunt) :
    CandidatesOk v_link_channels (State.joinFails s).link.candidates (State.joinFails s).link.hunt := by
  subst ev_link_channels;
  unfold State.joinFails; (repeat' split) <;> simp (maxDischargeDepth := 12) [hl]

@[simp] theorem State.contenderFails_cands (c : Contender) {s : State} {v_link_channels}
    (ev_link_channels : s.link.channels = v_link_channels) (hl : CandidatesOk s.link.channels s.link.candidates s.link.hunt) :
    CandidatesOk v_link_channels (State.contenderFails c s).link.candidates (State.contenderFails c s).link.hunt := by
  subst ev_link_channels;
  unfold State.contenderFails; (repeat' split) <;> simp (maxDischargeDepth := 12) [hl]

@[simp] theorem State.contentionOutcome_cands (b : Bool) {s : State} {v_link_channels}
    (ev_link_channels : s.link.channels = v_link_channels) (hl : CandidatesOk s.link.channels s.link.candidates s.link.hunt) :
    CandidatesOk v_link_channels (State.contentionOutcome b s).link.candidates (State.contentionOutcome b s).link.hunt := by
  subst ev_link_channels;
  unfold State.contentionOutcome; (repeat' split) <;> simp (maxDischargeDepth := 12) [hl]

@[simp] theorem State.missBeacon_cands {s : State} {v_link_channels} (ev_link_channels : s.link.channels = v_link_channels)
    (hl : CandidatesOk s.link.channels s.link.candidates s.link.hunt) :
    CandidatesOk v_link_channels (State.missBeacon s).link.candidates (State.missBeacon s).link.hunt := by
  subst ev_link_channels;
  have hm : CandidatesOk s.link.channels s.link.candidates (s.link.hunt.map (fun h => { h with run := none })) := by
    refine ⟨hl.1, hl.2.1, fun k hk => ?_⟩
    obtain ⟨h, hh, rfl⟩ := Option.map_eq_some_iff.1 hk
    exact hl.2.2 h hh
  unfold State.missBeacon; dsimp only; (repeat' split) <;> first
    | (simp (maxDischargeDepth := 12) [hl]; done)
    | (simp (maxDischargeDepth := 12) [hm]; done)

@[simp] theorem State.closeWindow_cands {s : State} {v_link_channels} (ev_link_channels : s.link.channels = v_link_channels)
    (hl : CandidatesOk s.link.channels s.link.candidates s.link.hunt) :
    CandidatesOk v_link_channels (State.closeWindow s).link.candidates (State.closeWindow s).link.hunt := by
  subst ev_link_channels;
  unfold State.closeWindow; (repeat' split) <;> simp (maxDischargeDepth := 12) [hl]

@[simp] theorem State.startCycle_cands {s : State} {v_link_channels} (ev_link_channels : s.link.channels = v_link_channels)
    (hl : CandidatesOk s.link.channels s.link.candidates s.link.hunt) :
    CandidatesOk v_link_channels (State.startCycle s).link.candidates (State.startCycle s).link.hunt := by
  subst ev_link_channels;
  unfold State.startCycle; (repeat' split) <;> simp (maxDischargeDepth := 12) [hl]

@[simp] theorem State.takeBeacon_cands (n : Word) (b : BeaconBody) {s : State} {v_link_channels}
    (ev_link_channels : s.link.channels = v_link_channels) (hl : CandidatesOk s.link.channels s.link.candidates s.link.hunt) :
    CandidatesOk v_link_channels (State.takeBeacon n b s).link.candidates (State.takeBeacon n b s).link.hunt := by
  subst ev_link_channels;
  unfold State.takeBeacon; dsimp only; (repeat' split) <;> simp (maxDischargeDepth := 12) [hl]

@[simp] theorem State.enterJoined_cands (c : Candidate) (x y z : Byte) {s : State} {v_link_channels}
    (ev_link_channels : s.link.channels = v_link_channels) {v_link_hunt} (ev_link_hunt : s.link.hunt = v_link_hunt)
    (hl : CandidatesOk s.link.channels s.link.candidates s.link.hunt) :
    CandidatesOk v_link_channels (State.enterJoined c x y z s).link.candidates v_link_hunt := by
  subst ev_link_channels; subst ev_link_hunt;
  simp [State.enterJoined, CandidatesOk, hl.1]; intro h hh; have := hl.2.2 h hh; omega

@[simp] theorem State.takeGrantJoin_cands (x y z : Byte) {s : State} {v_link_channels}
    (ev_link_channels : s.link.channels = v_link_channels) {v_link_hunt} (ev_link_hunt : s.link.hunt = v_link_hunt)
    (hl : CandidatesOk s.link.channels s.link.candidates s.link.hunt) :
    CandidatesOk v_link_channels (State.takeGrantJoin x y z s).link.candidates v_link_hunt := by
  subst ev_link_channels; subst ev_link_hunt;
  unfold State.takeGrantJoin; (repeat' split) <;> simp (maxDischargeDepth := 12) [hl]

@[simp] theorem State.joinGrantWaitEnds_cands {s : State} {v_link_channels} (ev_link_channels : s.link.channels = v_link_channels)
    (hl : CandidatesOk s.link.channels s.link.candidates s.link.hunt) :
    CandidatesOk v_link_channels (State.joinGrantWaitEnds s).link.candidates (State.joinGrantWaitEnds s).link.hunt := by
  subst ev_link_channels;
  unfold State.joinGrantWaitEnds; (repeat' split) <;> simp (maxDischargeDepth := 12) [hl]

@[simp] theorem State.enterActive_cands {s : State} {v_link_channels} (ev_link_channels : s.link.channels = v_link_channels)
    (hl : CandidatesOk s.link.channels s.link.candidates s.link.hunt) :
    CandidatesOk v_link_channels (State.enterActive s).link.candidates (State.enterActive s).link.hunt := by
  subst ev_link_channels;
  unfold State.enterActive; (repeat' split) <;> simp (maxDischargeDepth := 12) [hl]

@[simp] theorem State.wakeEvent_cands (w : WakeSource) {s : State} {v_link_channels} (ev_link_channels : s.link.channels = v_link_channels)
    (hl : CandidatesOk s.link.channels s.link.candidates s.link.hunt) :
    CandidatesOk v_link_channels (State.wakeEvent w s).link.candidates (State.wakeEvent w s).link.hunt := by
  subst ev_link_channels;
  unfold State.wakeEvent; (repeat' split) <;> simp (maxDischargeDepth := 12) [hl]

@[simp] theorem State.enterSleep_cands {s : State} {v_link_channels} (ev_link_channels : s.link.channels = v_link_channels)
    (hl : CandidatesOk s.link.channels s.link.candidates s.link.hunt) :
    CandidatesOk v_link_channels (State.enterSleep s).link.candidates (State.enterSleep s).link.hunt := by
  subst ev_link_channels;
  unfold State.enterSleep; (repeat' split) <;> simp (maxDischargeDepth := 12) [hl]

@[simp] theorem State.endParking_cands {s : State} {v_link_channels} (ev_link_channels : s.link.channels = v_link_channels)
    (hl : CandidatesOk s.link.channels s.link.candidates s.link.hunt) :
    CandidatesOk v_link_channels (State.endParking s).link.candidates (State.endParking s).link.hunt := by
  subst ev_link_channels;
  unfold State.endParking; (repeat' split) <;> simp (maxDischargeDepth := 12) [hl]

@[simp] theorem State.statusSent_cands (b : Bool) {s : State} {v_link_channels} (ev_link_channels : s.link.channels = v_link_channels)
    (hl : CandidatesOk s.link.channels s.link.candidates s.link.hunt) :
    CandidatesOk v_link_channels (State.statusSent b s).link.candidates (State.statusSent b s).link.hunt := by
  subst ev_link_channels;
  unfold State.statusSent; (repeat' split) <;> simp (maxDischargeDepth := 12) [hl]

@[simp] theorem State.powerChange_cands (w : Word) {s : State} {v_link_channels} (ev_link_channels : s.link.channels = v_link_channels)
    (hl : CandidatesOk s.link.channels s.link.candidates s.link.hunt) :
    CandidatesOk v_link_channels (State.powerChange w s).link.candidates (State.powerChange w s).link.hunt := by
  subst ev_link_channels;
  unfold State.powerChange; (repeat' split) <;> simp (maxDischargeDepth := 12) [hl]

@[simp] theorem State.powerRequest_cands (l : Lanes) (d : Word) {s : State} {v_link_channels}
    (ev_link_channels : s.link.channels = v_link_channels) (hl : CandidatesOk s.link.channels s.link.candidates s.link.hunt) :
    CandidatesOk v_link_channels (State.powerRequest l d s).link.candidates (State.powerRequest l d s).link.hunt := by
  subst ev_link_channels;
  unfold State.powerRequest; dsimp only; (repeat' split) <;> simp (maxDischargeDepth := 12) [hl]

@[simp] theorem State.takeClosing_cands {s : State} {v_link_channels} (ev_link_channels : s.link.channels = v_link_channels)
    (hl : CandidatesOk s.link.channels s.link.candidates s.link.hunt) :
    CandidatesOk v_link_channels (State.takeClosing s).link.candidates (State.takeClosing s).link.hunt := by
  subst ev_link_channels;
  unfold State.takeClosing; dsimp only; (repeat' split) <;> simp (maxDischargeDepth := 12) [hl]

@[simp] theorem State.takeWatched_cands (f : Field) (l : Lanes) (d : Word) {s : State}
    (hl : CandidatesOk s.link.channels s.link.candidates s.link.hunt) :
    CandidatesOk (State.takeWatched f l d s).link.channels (State.takeWatched f l d s).link.candidates
          (State.takeWatched f l d s).link.hunt := by
  unfold State.takeWatched; (repeat' split) <;> simp (maxDischargeDepth := 12) [hl]

@[simp] theorem State.acceptWrite_cands (a : BitVec 19) (l : Lanes) (d : Word) (p : MemoryPath) {s : State}
    (hl : CandidatesOk s.link.channels s.link.candidates s.link.hunt) :
    CandidatesOk (State.acceptWrite a l d p s).link.channels (State.acceptWrite a l d p s).link.candidates
          (State.acceptWrite a l d p s).link.hunt := by
  unfold State.acceptWrite; dsimp only; (repeat' split) <;> simp (maxDischargeDepth := 12) [hl]

@[simp] theorem State.answerRead_cands (a : BitVec 19) (l : Lanes) {s : State}
    (hl : CandidatesOk s.link.channels s.link.candidates s.link.hunt) :
    CandidatesOk (State.answerRead a l s).link.channels (State.answerRead a l s).link.candidates (State.answerRead a l s).link.hunt := by
  unfold State.answerRead; dsimp only; (repeat' split) <;> simp (maxDischargeDepth := 12) [hl]

theorem State.processorWrite?_cands {a : BitVec 19} {l : Lanes} {d : Word} {s t : State}
    (h : s.processorWrite? a l d = some t)
          (hl : CandidatesOk s.link.channels s.link.candidates s.link.hunt) : CandidatesOk t.link.channels t.link.candidates t.link.hunt := by
  unfold State.processorWrite? at h; dsimp only at h; split at h
  · simp only [Option.map_eq_some_iff] at h
    obtain ⟨p, -, rfl⟩ := h
    simp (maxDischargeDepth := 12) [hl]
  · cases h; simp (maxDischargeDepth := 12) [hl]

theorem State.attempt_cands {h : HeldCycle} {s t : State} (e : s.attempt h = .done t)
    (hl : CandidatesOk s.link.channels s.link.candidates s.link.hunt) : CandidatesOk t.link.channels t.link.candidates t.link.hunt := by
  unfold State.attempt at e
  split at e
  · split at e
    · rename_i w; cases e; exact State.processorWrite?_cands w hl
    · cases e
  · split at e
    · cases e
    · split at e
      · cases e
      · cases e; simp (maxDischargeDepth := 12) [hl]

@[simp] theorem State.processorCycle_cands (c : BusCycle) {s : State} (hl : CandidatesOk s.link.channels s.link.candidates s.link.hunt) :
    CandidatesOk (State.processorCycle c s).link.channels (State.processorCycle c s).link.candidates
          (State.processorCycle c s).link.hunt := by
  unfold State.processorCycle; split
  · simp (maxDischargeDepth := 12) [hl]
  · split
    · rename_i e; exact State.attempt_cands e hl
    · simp (maxDischargeDepth := 12) [hl]

@[simp] theorem State.serviceList_cands (hs : List HeldCycle) {s : State}
    (hl : CandidatesOk s.link.channels s.link.candidates s.link.hunt) :
    CandidatesOk (State.serviceList hs s).link.channels (State.serviceList hs s).link.candidates (State.serviceList hs s).link.hunt := by
  induction hs generalizing s with
  | nil => unfold State.serviceList; simp (maxDischargeDepth := 12) [hl]
  | cons h rest ih =>
    unfold State.serviceList; split
    · simp (maxDischargeDepth := 12) [hl]
    · split
      · rename_i t e; exact ih (State.attempt_cands e hl)
      · simp (maxDischargeDepth := 12) [hl]

@[simp] theorem State.service_cands {s : State} (hl : CandidatesOk s.link.channels s.link.candidates s.link.hunt) :
    CandidatesOk (State.service s).link.channels (State.service s).link.candidates (State.service s).link.hunt := by
  unfold State.service; (repeat' split) <;> simp (maxDischargeDepth := 12) [hl]

@[simp] theorem State.completeDrain_cands {s : State} (hl : CandidatesOk s.link.channels s.link.candidates s.link.hunt) :
    CandidatesOk (State.completeDrain s).link.channels (State.completeDrain s).link.candidates (State.completeDrain s).link.hunt := by
  unfold State.completeDrain; (repeat' split) <;> simp (maxDischargeDepth := 12) [hl]

@[simp] theorem State.internalCycle_cands {s : State} (hl : CandidatesOk s.link.channels s.link.candidates s.link.hunt) :
    CandidatesOk (State.internalCycle s).link.channels (State.internalCycle s).link.candidates (State.internalCycle s).link.hunt := by
  unfold State.internalCycle; split
  · split
    · split
      · rename_i c rest _; cases c <;> simp (maxDischargeDepth := 12) [State.runCycle, hl]
      · exact hl
    · exact hl
  · exact hl

@[simp] theorem State.startSlot_cands {s : State} {v_link_channels} (ev_link_channels : s.link.channels = v_link_channels)
    (hl : CandidatesOk s.link.channels s.link.candidates s.link.hunt) :
    CandidatesOk v_link_channels (State.startSlot s).link.candidates (State.startSlot s).link.hunt := by
  subst ev_link_channels;
  unfold State.startSlot; dsimp only; (repeat' split) <;> simp (maxDischargeDepth := 12) [hl]

@[simp] theorem State.deliver_cands (f : Sending) {s : State} {v_link_channels} (ev_link_channels : s.link.channels = v_link_channels)
    (hl : CandidatesOk s.link.channels s.link.candidates s.link.hunt) :
    CandidatesOk v_link_channels (State.deliver f s).link.candidates (State.deliver f s).link.hunt := by
  subst ev_link_channels;
  unfold State.deliver; (repeat' split) <;> simp (maxDischargeDepth := 12) [hl]

@[simp] theorem State.shortSent_cands {s : State} {v_link_channels} (ev_link_channels : s.link.channels = v_link_channels)
    (hl : CandidatesOk s.link.channels s.link.candidates s.link.hunt) :
    CandidatesOk v_link_channels (State.shortSent s).link.candidates (State.shortSent s).link.hunt := by
  subst ev_link_channels;
  unfold State.shortSent; (repeat' split) <;> simp (maxDischargeDepth := 12) [hl]

@[simp] theorem State.takeImage_cands (b : List Byte) {s : State} {v_link_candidates}
    (ev_link_candidates : s.link.candidates = v_link_candidates) {v_link_hunt} (ev_link_hunt : s.link.hunt = v_link_hunt)
    (hl : CandidatesOk s.link.channels s.link.candidates s.link.hunt) :
    CandidatesOk (State.takeImage b s).link.channels v_link_candidates v_link_hunt := by
  subst ev_link_candidates; subst ev_link_hunt;
  unfold State.takeImage; split
  · simpa using hl
  · simpa using hl
  · rename_i image h
    exact ⟨judgeImage_channels h, hl.2⟩

@[simp] theorem State.becomeReady_cands {s : State} {v_link_channels} (ev_link_channels : s.link.channels = v_link_channels)
    (hl : CandidatesOk s.link.channels s.link.candidates s.link.hunt) :
    CandidatesOk v_link_channels (State.becomeReady s).link.candidates (State.becomeReady s).link.hunt := by
  subst ev_link_channels;
  unfold State.becomeReady; dsimp only; (repeat' split) <;> simp (maxDischargeDepth := 12) [hl]

@[simp] theorem State.softReset_cands {s : State} (hl : CandidatesOk s.link.channels s.link.candidates s.link.hunt) :
    CandidatesOk (State.softReset s).link.channels (State.softReset s).link.candidates (State.softReset s).link.hunt := by
  unfold State.softReset; (repeat' split) <;> simp (maxDischargeDepth := 12) [hl]

@[simp] theorem State.powerOn_cands (a : BitVec 4) {s : State} :
    CandidatesOk (State.powerOn a s).link.channels (State.powerOn a s).link.candidates (State.powerOn a s).link.hunt := by
  refine State.service_cands ?_
  simp [CandidatesOk, State.reset, LinkController.reset]

@[simp] theorem State.meterMessage_cands (m : MeterMessage) {s : State} {v_link_channels}
    (ev_link_channels : s.link.channels = v_link_channels) (hl : CandidatesOk s.link.channels s.link.candidates s.link.hunt) :
    CandidatesOk v_link_channels (State.meterMessage m s).link.candidates (State.meterMessage m s).link.hunt := by
  subst ev_link_channels;
  unfold State.meterMessage; (repeat' split) <;> simp (maxDischargeDepth := 12) [hl]

@[simp] theorem State.takeMeter_cands (m : MeterMessage) {s : State} {v_link_channels}
    (ev_link_channels : s.link.channels = v_link_channels) (hl : CandidatesOk s.link.channels s.link.candidates s.link.hunt) :
    CandidatesOk v_link_channels (State.takeMeter m s).link.candidates (State.takeMeter m s).link.hunt := by
  subst ev_link_channels;
  unfold State.takeMeter; (repeat' split) <;> simp (maxDischargeDepth := 12) [hl]

@[simp] theorem State.takeWake_cands (c : List Word) {s : State} {v_link_channels} (ev_link_channels : s.link.channels = v_link_channels)
    (hl : CandidatesOk s.link.channels s.link.candidates s.link.hunt) :
    CandidatesOk v_link_channels (State.takeWake c s).link.candidates (State.takeWake c s).link.hunt := by
  subst ev_link_channels;
  unfold State.takeWake; (repeat' split) <;> simp (maxDischargeDepth := 12) [hl]

@[simp] theorem State.route_cands (d : DownHeader) (b : DownBody) {s : State}
    (hl : CandidatesOk s.link.channels s.link.candidates s.link.hunt) :
    CandidatesOk (State.route d b s).link.channels (State.route d b s).link.candidates (State.route d b s).link.hunt := by
  unfold State.route; (repeat' split) <;> simp (maxDischargeDepth := 12) [hl]

@[simp] theorem State.receive_cands (d : DownHeader) (b : DownBody) {s : State}
    (hl : CandidatesOk s.link.channels s.link.candidates s.link.hunt) :
    CandidatesOk (State.receive d b s).link.channels (State.receive d b s).link.candidates (State.receive d b s).link.hunt := by
  unfold State.receive; (repeat' split) <;> simp (maxDischargeDepth := 12) [hl]

@[simp] theorem State.writeAt_cands (o : Nat) (l : Lanes) (d : Word) {s : State}
    (hl : CandidatesOk s.link.channels s.link.candidates s.link.hunt) :
    CandidatesOk (State.writeAt o l d s).link.channels (State.writeAt o l d s).link.candidates (State.writeAt o l d s).link.hunt := by
  unfold State.writeAt; (repeat' split) <;> simp (maxDischargeDepth := 12) [hl]

@[simp] theorem State.readAt_cands (o : Nat) (l : Lanes) {s : State} (hl : CandidatesOk s.link.channels s.link.candidates s.link.hunt) :
    CandidatesOk (State.readAt o l s).link.channels (State.readAt o l s).link.candidates (State.readAt o l s).link.hunt := by
  unfold State.readAt; (repeat' split) <;> simp (maxDischargeDepth := 12) [hl]

@[simp] theorem State.complete_cands (k : OpKind) {owner : UnderWay → State → State} {s : State}
    (ho : ∀ u t, CandidatesOk t.link.channels t.link.candidates t.link.hunt → CandidatesOk (owner u t).link.channels (owner u t).link.candidates (owner u t).link.hunt)
    (hl : CandidatesOk s.link.channels s.link.candidates s.link.hunt) :
    CandidatesOk (State.complete k owner s).link.channels (State.complete k owner s).link.candidates
          (State.complete k owner s).link.hunt := by
  unfold State.complete; split
  · exact State.service_cands (ho _ _ (by simp (maxDischargeDepth := 12) [hl]))
  · exact hl

end Sys2Proof.Machine
end

