-- ==== Sys2Proof/Laws/Queue.lean ====
section
/-! SUPPORT. The law of the operation queue is kept by the operations that a command is made of. -/

namespace Sys2Proof.Machine

/-- One of three rings. -/
def ringOf (ob ib tl : Ring) : RingId → Ring
  | .outbound => ob
  | .inbound => ib
  | .triplog => tl

/-- The law of the operation queue on the values it speaks of. -/
def QueueOk (q : List Operation) (under : Option UnderWay) (flight : Outbound) (md : Option InDeposit) (ob ib tl : Ring)
    (td : Option TripDeposit) (st : StartUp) (owed : Bool) : Prop :=
  (q.map (·.kind)).Nodup ∧ .abandoned ∉ q.map (·.kind) ∧
    (.outboundFetch ∈ q.map (·.kind) → flight = .fetching .reading) ∧
    (∀ u, under = some u → u.kind = .outboundFetch → u.cycles ≠ [] → flight = .fetching .reading ∧ .outboundFetch ∉ q.map (·.kind)) ∧
    (.outboundCompletion ∈ q.map (·.kind) ∨ under.map (·.kind) = some .outboundCompletion → ∃ c, flight = .completing c) ∧
    (.inboundDeposit ∈ q.map (·.kind) ∨ under.map (·.kind) = some .inboundDeposit → md ≠ none) ∧
    (.tripDeposit ∈ q.map (·.kind) ∨ under.map (·.kind) = some .tripDeposit → td ≠ none) ∧
    (∀ r, .headerRead r ∈ q.map (·.kind) ∨ under.map (·.kind) = some (.headerRead r) → (ringOf ob ib tl r).check ≠ none) ∧
    (∀ k, under.map (·.kind) = some k → k.once = true → k ∉ q.map (·.kind)) ∧ (.recoveryRead ∈ q.map (·.kind) → st = .recovering) ∧
    (∀ r, .headerRead r ∈ q.map (·.kind) → st = .ready) ∧
    (owed = true → under.map (·.kind) = some .emergencyRewrite ∧ .emergencyRewrite ∉ q.map (·.kind))

/-- The rewrites of which the requester keeps one in its queue. -/
def OpKind.single : OpKind → Bool
  | .offerRewrite _ => true
  | .totalsSnapshot => true
  | _ => false

@[simp] theorem OpKind.single_offer (n : Fin 16) : (OpKind.offerRewrite n).single = true := rfl
@[simp] theorem OpKind.single_totals : OpKind.totalsSnapshot.single = true := rfl

theorem MemoryPath.queued_iff (p : MemoryPath) (k : OpKind) : p.queued k = true ↔ k ∈ p.queue.map (·.kind) := by
  simp [MemoryPath.queued]

theorem MemoryPath.underWay_iff (p : MemoryPath) (k : OpKind) : p.underWay k = true ↔ p.under.map (·.kind) = some k := by
  cases h : p.under <;> simp [MemoryPath.underWay, h]

/-- An operation joins the queue: it must not wait there yet, and its own condition must hold. -/
theorem QueueOk.push {q : List Operation} {under : Option UnderWay} {flight : Outbound} {md : Option InDeposit} {ob ib tl : Ring}
    {td : Option TripDeposit} {st : StartUp} {owed : Bool} (hl : QueueOk q under flight md ob ib tl td st owed) (k : OpKind) (m : Nat)
    (hk : k ∉ q.map (·.kind)) (ha : k ≠ .abandoned) (hf : k = .outboundFetch → flight = .fetching .reading ∧
      ∀ u, under = some u → u.kind = .outboundFetch → u.cycles = [])
    (hc : k = .outboundCompletion → ∃ c, flight = .completing c) (hi : k = .inboundDeposit → md ≠ none)
    (ht : k = .tripDeposit → td ≠ none) (hh : ∀ r, k = .headerRead r → (ringOf ob ib tl r).check ≠ none ∧ st = .ready)
    (ho : k.once = true → under.map (·.kind) ≠ some k) (hr : k ≠ .recoveryRead) (he : k = .emergencyRewrite → owed = false) :
    QueueOk (q ++ [⟨k, m⟩]) under flight md ob ib tl td st owed := by
  obtain ⟨h1, h2, h3, h4, h5, h6, h7, h8, h9, h10, h11, h12⟩ := hl
  have hm : ∀ j, j ∈ (q ++ [⟨k, m⟩] : List Operation).map (·.kind) ↔ j ∈ q.map (·.kind) ∨ j = k := by intro j; simp
  refine ⟨?_, ?_, ?_, ?_, ?_, ?_, ?_, ?_, ?_, ?_, ?_, ?_⟩
  · rw [List.map_append, List.nodup_append]
    exact ⟨h1, by simp, by intro a h b hb; simp at hb; subst hb; intro e; exact hk (e ▸ h)⟩
  · rw [hm]; rintro (h | h)
    · exact h2 h
    · exact ha h.symm
  · rw [hm]; rintro (h | h)
    · exact h3 h
    · exact (hf h.symm).1
  · intro u hu hu2 hu3
    refine ⟨(h4 u hu hu2 hu3).1, ?_⟩
    rw [hm]; rintro (h | h)
    · exact (h4 u hu hu2 hu3).2 h
    · exact hu3 ((hf h.symm).2 u hu hu2)
  · rw [hm]; rintro ((h | h) | h)
    · exact h5 (Or.inl h)
    · exact hc h.symm
    · exact h5 (Or.inr h)
  · rw [hm]; rintro ((h | h) | h)
    · exact h6 (Or.inl h)
    · exact hi h.symm
    · exact h6 (Or.inr h)
  · rw [hm]; rintro ((h | h) | h)
    · exact h7 (Or.inl h)
    · exact ht h.symm
    · exact h7 (Or.inr h)
  · intro r; rw [hm]; rintro ((h | h) | h)
    · exact h8 r (Or.inl h)
    · exact (hh r h.symm).1
    · exact h8 r (Or.inr h)
  · intro j hj ho2; rw [hm]; rintro (h | h)
    · exact h9 j hj ho2 h
    · subst h; exact ho ho2 hj
  · rw [hm]; rintro (h | h)
    · exact h10 h
    · exact absurd h.symm hr
  · intro r; rw [hm]; rintro (h | h)
    · exact h11 r h
    · exact (hh r h.symm).2
  · intro h
    refine ⟨(h12 h).1, ?_⟩
    rw [hm]; rintro (k2 | k2)
    · exact (h12 h).2 k2
    · rw [he k2.symm] at h; cases h

/-- A rewrite of which one waits at most joins the queue. -/
theorem QueueOk.push_single {q : List Operation} {under : Option UnderWay} {flight : Outbound} {md : Option InDeposit} {ob ib tl : Ring}
    {td : Option TripDeposit} {st : StartUp} {owed : Bool} (hl : QueueOk q under flight md ob ib tl td st owed) {k : OpKind}
    (hs : k.single = true) (hk : k ∉ q.map (·.kind)) : QueueOk (q ++ [⟨k, 0⟩]) under flight md ob ib tl td st owed := by
  refine hl.push k 0 hk ?_ ?_ ?_ ?_ ?_ ?_ ?_ ?_ ?_ <;> (try intro r) <;> cases k <;> simp_all [OpKind.single, OpKind.once]


@[simp] theorem State.requestRewrite_queueOk (k : OpKind) {s : State} {v_path_under} (ev_path_under : s.path.under = v_path_under)
    {v_msgs_flight} (ev_msgs_flight : s.msgs.flight = v_msgs_flight) {v_msgs_deposit} (ev_msgs_deposit : s.msgs.deposit = v_msgs_deposit)
    {v_msgs_outbound} (ev_msgs_outbound : s.msgs.outbound = v_msgs_outbound) {v_msgs_inbound}
    (ev_msgs_inbound : s.msgs.inbound = v_msgs_inbound) {v_msgs_triplog} (ev_msgs_triplog : s.msgs.triplog = v_msgs_triplog)
    {v_trips_deposit} (ev_trips_deposit : s.trips.deposit = v_trips_deposit) {v_power_startUp}
    (ev_power_startUp : s.power.startUp = v_power_startUp) {v_emerg_owed} (ev_emerg_owed : s.emerg.owed = v_emerg_owed)
    (hl : QueueOk s.path.queue s.path.under s.msgs.flight s.msgs.deposit s.msgs.outbound s.msgs.inbound s.msgs.triplog s.trips.deposit s.power.startUp s.emerg.owed) (hk : k.single = true) :
    QueueOk (State.requestRewrite k s).path.queue v_path_under v_msgs_flight v_msgs_deposit v_msgs_outbound v_msgs_inbound v_msgs_triplog v_trips_deposit v_power_startUp v_emerg_owed := by
  subst ev_path_under; subst ev_msgs_flight; subst ev_msgs_deposit; subst ev_msgs_outbound; subst ev_msgs_inbound; subst ev_msgs_triplog; subst ev_trips_deposit; subst ev_power_startUp; subst ev_emerg_owed;
  unfold State.requestRewrite MemoryPath.requestRewrite; dsimp only; split
  · exact hl
  · rename_i hq; exact hl.push_single hk (fun h => hq ((MemoryPath.queued_iff ..).2 h))

@[simp] theorem State.updateEntry_queueOk (n : Fin 16) (f : OfferEntry → OfferEntry) (cs : List Cause) {s : State} {v_path_under}
    (ev_path_under : s.path.under = v_path_under) {v_msgs_flight} (ev_msgs_flight : s.msgs.flight = v_msgs_flight) {v_msgs_deposit}
    (ev_msgs_deposit : s.msgs.deposit = v_msgs_deposit) {v_msgs_outbound} (ev_msgs_outbound : s.msgs.outbound = v_msgs_outbound)
    {v_msgs_inbound} (ev_msgs_inbound : s.msgs.inbound = v_msgs_inbound) {v_msgs_triplog}
    (ev_msgs_triplog : s.msgs.triplog = v_msgs_triplog) {v_trips_deposit} (ev_trips_deposit : s.trips.deposit = v_trips_deposit)
    {v_power_startUp} (ev_power_startUp : s.power.startUp = v_power_startUp) {v_emerg_owed} (ev_emerg_owed : s.emerg.owed = v_emerg_owed)
    (hl : QueueOk s.path.queue s.path.under s.msgs.flight s.msgs.deposit s.msgs.outbound s.msgs.inbound s.msgs.triplog s.trips.deposit s.power.startUp s.emerg.owed) :
    QueueOk (State.updateEntry n f cs s).path.queue v_path_under v_msgs_flight v_msgs_deposit v_msgs_outbound v_msgs_inbound v_msgs_triplog v_trips_deposit v_power_startUp v_emerg_owed := by
  subst ev_path_under; subst ev_msgs_flight; subst ev_msgs_deposit; subst ev_msgs_outbound; subst ev_msgs_inbound; subst ev_msgs_triplog; subst ev_trips_deposit; subst ev_power_startUp; subst ev_emerg_owed;
  exact State.requestRewrite_queueOk _ rfl rfl rfl rfl rfl rfl rfl rfl rfl hl rfl

@[simp] theorem State.emptyEntry_queueOk (n : Fin 16) (cs : List Cause) {s : State} {v_path_under}
    (ev_path_under : s.path.under = v_path_under) {v_msgs_flight} (ev_msgs_flight : s.msgs.flight = v_msgs_flight) {v_msgs_deposit}
    (ev_msgs_deposit : s.msgs.deposit = v_msgs_deposit) {v_msgs_outbound} (ev_msgs_outbound : s.msgs.outbound = v_msgs_outbound)
    {v_msgs_inbound} (ev_msgs_inbound : s.msgs.inbound = v_msgs_inbound) {v_msgs_triplog}
    (ev_msgs_triplog : s.msgs.triplog = v_msgs_triplog) {v_trips_deposit} (ev_trips_deposit : s.trips.deposit = v_trips_deposit)
    {v_power_startUp} (ev_power_startUp : s.power.startUp = v_power_startUp) {v_emerg_owed} (ev_emerg_owed : s.emerg.owed = v_emerg_owed)
    (hl : QueueOk s.path.queue s.path.under s.msgs.flight s.msgs.deposit s.msgs.outbound s.msgs.inbound s.msgs.triplog s.trips.deposit s.power.startUp s.emerg.owed) :
    QueueOk (State.emptyEntry n cs s).path.queue v_path_under v_msgs_flight v_msgs_deposit v_msgs_outbound v_msgs_inbound v_msgs_triplog v_trips_deposit v_power_startUp v_emerg_owed := by
  subst ev_path_under; subst ev_msgs_flight; subst ev_msgs_deposit; subst ev_msgs_outbound; subst ev_msgs_inbound; subst ev_msgs_triplog; subst ev_trips_deposit; subst ev_power_startUp; subst ev_emerg_owed;
  unfold State.emptyEntry; (repeat' split) <;> simp (maxDischargeDepth := 12) [hl]

@[simp] theorem State.placeEntry_queueOk (n : Fin 16) (f : OfferEntry → OfferEntry) (cs : List Cause) {s : State} {v_path_under}
    (ev_path_under : s.path.under = v_path_under) {v_msgs_flight} (ev_msgs_flight : s.msgs.flight = v_msgs_flight) {v_msgs_deposit}
    (ev_msgs_deposit : s.msgs.deposit = v_msgs_deposit) {v_msgs_outbound} (ev_msgs_outbound : s.msgs.outbound = v_msgs_outbound)
    {v_msgs_inbound} (ev_msgs_inbound : s.msgs.inbound = v_msgs_inbound) {v_msgs_triplog}
    (ev_msgs_triplog : s.msgs.triplog = v_msgs_triplog) {v_trips_deposit} (ev_trips_deposit : s.trips.deposit = v_trips_deposit)
    {v_power_startUp} (ev_power_startUp : s.power.startUp = v_power_startUp) {v_emerg_owed} (ev_emerg_owed : s.emerg.owed = v_emerg_owed)
    (hl : QueueOk s.path.queue s.path.under s.msgs.flight s.msgs.deposit s.msgs.outbound s.msgs.inbound s.msgs.triplog s.trips.deposit s.power.startUp s.emerg.owed) :
    QueueOk (State.placeEntry n f cs s).path.queue v_path_under v_msgs_flight v_msgs_deposit v_msgs_outbound v_msgs_inbound v_msgs_triplog v_trips_deposit v_power_startUp v_emerg_owed := by
  subst ev_path_under; subst ev_msgs_flight; subst ev_msgs_deposit; subst ev_msgs_outbound; subst ev_msgs_inbound; subst ev_msgs_triplog; subst ev_trips_deposit; subst ev_power_startUp; subst ev_emerg_owed;
  unfold State.placeEntry; (repeat' split) <;> simp (maxDischargeDepth := 12) [hl]

@[simp] theorem State.takeOffer_queueOk (h : DownHeader) (b : OfferBody) {s : State} {v_path_under}
    (ev_path_under : s.path.under = v_path_under) {v_msgs_flight} (ev_msgs_flight : s.msgs.flight = v_msgs_flight) {v_msgs_deposit}
    (ev_msgs_deposit : s.msgs.deposit = v_msgs_deposit) {v_msgs_outbound} (ev_msgs_outbound : s.msgs.outbound = v_msgs_outbound)
    {v_msgs_inbound} (ev_msgs_inbound : s.msgs.inbound = v_msgs_inbound) {v_msgs_triplog}
    (ev_msgs_triplog : s.msgs.triplog = v_msgs_triplog) {v_trips_deposit} (ev_trips_deposit : s.trips.deposit = v_trips_deposit)
    {v_power_startUp} (ev_power_startUp : s.power.startUp = v_power_startUp) {v_emerg_owed} (ev_emerg_owed : s.emerg.owed = v_emerg_owed)
    (hl : QueueOk s.path.queue s.path.under s.msgs.flight s.msgs.deposit s.msgs.outbound s.msgs.inbound s.msgs.triplog s.trips.deposit s.power.startUp s.emerg.owed) :
    QueueOk (State.takeOffer h b s).path.queue v_path_under v_msgs_flight v_msgs_deposit v_msgs_outbound v_msgs_inbound v_msgs_triplog v_trips_deposit v_power_startUp v_emerg_owed := by
  subst ev_path_under; subst ev_msgs_flight; subst ev_msgs_deposit; subst ev_msgs_outbound; subst ev_msgs_inbound; subst ev_msgs_triplog; subst ev_trips_deposit; subst ev_power_startUp; subst ev_emerg_owed;
  unfold State.takeOffer; (repeat' split) <;> simp (maxDischargeDepth := 12) [hl]

@[simp] theorem State.lifetimeEnds_queueOk (n : Fin 16) {s : State} {v_path_under} (ev_path_under : s.path.under = v_path_under)
    {v_msgs_flight} (ev_msgs_flight : s.msgs.flight = v_msgs_flight) {v_msgs_deposit} (ev_msgs_deposit : s.msgs.deposit = v_msgs_deposit)
    {v_msgs_outbound} (ev_msgs_outbound : s.msgs.outbound = v_msgs_outbound) {v_msgs_inbound}
    (ev_msgs_inbound : s.msgs.inbound = v_msgs_inbound) {v_msgs_triplog} (ev_msgs_triplog : s.msgs.triplog = v_msgs_triplog)
    {v_trips_deposit} (ev_trips_deposit : s.trips.deposit = v_trips_deposit) {v_power_startUp}
    (ev_power_startUp : s.power.startUp = v_power_startUp) {v_emerg_owed} (ev_emerg_owed : s.emerg.owed = v_emerg_owed)
    (hl : QueueOk s.path.queue s.path.under s.msgs.flight s.msgs.deposit s.msgs.outbound s.msgs.inbound s.msgs.triplog s.trips.deposit s.power.startUp s.emerg.owed) :
    QueueOk (State.lifetimeEnds n s).path.queue v_path_under v_msgs_flight v_msgs_deposit v_msgs_outbound v_msgs_inbound v_msgs_triplog v_trips_deposit v_power_startUp v_emerg_owed := by
  subst ev_path_under; subst ev_msgs_flight; subst ev_msgs_deposit; subst ev_msgs_outbound; subst ev_msgs_inbound; subst ev_msgs_triplog; subst ev_trips_deposit; subst ev_power_startUp; subst ev_emerg_owed;
  unfold State.lifetimeEnds; dsimp only; (repeat' split) <;> simp (maxDischargeDepth := 12) [hl]

@[simp] theorem State.awardWaitEnds_queueOk (n : Fin 16) {s : State} {v_path_under} (ev_path_under : s.path.under = v_path_under)
    {v_msgs_flight} (ev_msgs_flight : s.msgs.flight = v_msgs_flight) {v_msgs_deposit} (ev_msgs_deposit : s.msgs.deposit = v_msgs_deposit)
    {v_msgs_outbound} (ev_msgs_outbound : s.msgs.outbound = v_msgs_outbound) {v_msgs_inbound}
    (ev_msgs_inbound : s.msgs.inbound = v_msgs_inbound) {v_msgs_triplog} (ev_msgs_triplog : s.msgs.triplog = v_msgs_triplog)
    {v_trips_deposit} (ev_trips_deposit : s.trips.deposit = v_trips_deposit) {v_power_startUp}
    (ev_power_startUp : s.power.startUp = v_power_startUp) {v_emerg_owed} (ev_emerg_owed : s.emerg.owed = v_emerg_owed)
    (hl : QueueOk s.path.queue s.path.under s.msgs.flight s.msgs.deposit s.msgs.outbound s.msgs.inbound s.msgs.triplog s.trips.deposit s.power.startUp s.emerg.owed) :
    QueueOk (State.awardWaitEnds n s).path.queue v_path_under v_msgs_flight v_msgs_deposit v_msgs_outbound v_msgs_inbound v_msgs_triplog v_trips_deposit v_power_startUp v_emerg_owed := by
  subst ev_path_under; subst ev_msgs_flight; subst ev_msgs_deposit; subst ev_msgs_outbound; subst ev_msgs_inbound; subst ev_msgs_triplog; subst ev_trips_deposit; subst ev_power_startUp; subst ev_emerg_owed;
  unfold State.awardWaitEnds; dsimp only; (repeat' split) <;> simp (maxDischargeDepth := 12) [hl]

@[simp] theorem State.takeResponse_queueOk (n : Fin 16) (l : Lanes) (d : Word) {s : State} {v_path_under}
    (ev_path_under : s.path.under = v_path_under) {v_msgs_flight} (ev_msgs_flight : s.msgs.flight = v_msgs_flight) {v_msgs_deposit}
    (ev_msgs_deposit : s.msgs.deposit = v_msgs_deposit) {v_msgs_outbound} (ev_msgs_outbound : s.msgs.outbound = v_msgs_outbound)
    {v_msgs_inbound} (ev_msgs_inbound : s.msgs.inbound = v_msgs_inbound) {v_msgs_triplog}
    (ev_msgs_triplog : s.msgs.triplog = v_msgs_triplog) {v_trips_deposit} (ev_trips_deposit : s.trips.deposit = v_trips_deposit)
    {v_power_startUp} (ev_power_startUp : s.power.startUp = v_power_startUp) {v_emerg_owed} (ev_emerg_owed : s.emerg.owed = v_emerg_owed)
    (hl : QueueOk s.path.queue s.path.under s.msgs.flight s.msgs.deposit s.msgs.outbound s.msgs.inbound s.msgs.triplog s.trips.deposit s.power.startUp s.emerg.owed) :
    QueueOk (State.takeResponse n l d s).path.queue v_path_under v_msgs_flight v_msgs_deposit v_msgs_outbound v_msgs_inbound v_msgs_triplog v_trips_deposit v_power_startUp v_emerg_owed := by
  subst ev_path_under; subst ev_msgs_flight; subst ev_msgs_deposit; subst ev_msgs_outbound; subst ev_msgs_inbound; subst ev_msgs_triplog; subst ev_trips_deposit; subst ev_power_startUp; subst ev_emerg_owed;
  unfold State.takeResponse; dsimp only; (repeat' split) <;> simp (maxDischargeDepth := 12) [hl]

@[simp] theorem State.awardNoEntry_queueOk (b : OfferBody) {s : State} {v_path_under} (ev_path_under : s.path.under = v_path_under)
    {v_msgs_flight} (ev_msgs_flight : s.msgs.flight = v_msgs_flight) {v_msgs_deposit} (ev_msgs_deposit : s.msgs.deposit = v_msgs_deposit)
    {v_msgs_outbound} (ev_msgs_outbound : s.msgs.outbound = v_msgs_outbound) {v_msgs_inbound}
    (ev_msgs_inbound : s.msgs.inbound = v_msgs_inbound) {v_msgs_triplog} (ev_msgs_triplog : s.msgs.triplog = v_msgs_triplog)
    {v_trips_deposit} (ev_trips_deposit : s.trips.deposit = v_trips_deposit) {v_power_startUp}
    (ev_power_startUp : s.power.startUp = v_power_startUp) {v_emerg_owed} (ev_emerg_owed : s.emerg.owed = v_emerg_owed)
    (hl : QueueOk s.path.queue s.path.under s.msgs.flight s.msgs.deposit s.msgs.outbound s.msgs.inbound s.msgs.triplog s.trips.deposit s.power.startUp s.emerg.owed) :
    QueueOk (State.awardNoEntry b s).path.queue v_path_under v_msgs_flight v_msgs_deposit v_msgs_outbound v_msgs_inbound v_msgs_triplog v_trips_deposit v_power_startUp v_emerg_owed := by
  subst ev_path_under; subst ev_msgs_flight; subst ev_msgs_deposit; subst ev_msgs_outbound; subst ev_msgs_inbound; subst ev_msgs_triplog; subst ev_trips_deposit; subst ev_power_startUp; subst ev_emerg_owed;
  unfold State.awardNoEntry; (repeat' split) <;> simp (maxDischargeDepth := 12) [hl]

@[simp] theorem State.takeAward_queueOk (b : OfferBody) {s : State} {v_path_under} (ev_path_under : s.path.under = v_path_under)
    {v_msgs_flight} (ev_msgs_flight : s.msgs.flight = v_msgs_flight) {v_msgs_deposit} (ev_msgs_deposit : s.msgs.deposit = v_msgs_deposit)
    {v_msgs_outbound} (ev_msgs_outbound : s.msgs.outbound = v_msgs_outbound) {v_msgs_inbound}
    (ev_msgs_inbound : s.msgs.inbound = v_msgs_inbound) {v_msgs_triplog} (ev_msgs_triplog : s.msgs.triplog = v_msgs_triplog)
    {v_trips_deposit} (ev_trips_deposit : s.trips.deposit = v_trips_deposit) {v_power_startUp}
    (ev_power_startUp : s.power.startUp = v_power_startUp) {v_emerg_owed} (ev_emerg_owed : s.emerg.owed = v_emerg_owed)
    (hl : QueueOk s.path.queue s.path.under s.msgs.flight s.msgs.deposit s.msgs.outbound s.msgs.inbound s.msgs.triplog s.trips.deposit s.power.startUp s.emerg.owed) :
    QueueOk (State.takeAward b s).path.queue v_path_under v_msgs_flight v_msgs_deposit v_msgs_outbound v_msgs_inbound v_msgs_triplog v_trips_deposit v_power_startUp v_emerg_owed := by
  subst ev_path_under; subst ev_msgs_flight; subst ev_msgs_deposit; subst ev_msgs_outbound; subst ev_msgs_inbound; subst ev_msgs_triplog; subst ev_trips_deposit; subst ev_power_startUp; subst ev_emerg_owed;
  unfold State.takeAward; (repeat' split) <;> simp (maxDischargeDepth := 12) [hl]

@[simp] theorem State.takeLost_queueOk (j : DWord) {s : State} {v_path_under} (ev_path_under : s.path.under = v_path_under) {v_msgs_flight}
    (ev_msgs_flight : s.msgs.flight = v_msgs_flight) {v_msgs_deposit} (ev_msgs_deposit : s.msgs.deposit = v_msgs_deposit) {v_msgs_outbound}
    (ev_msgs_outbound : s.msgs.outbound = v_msgs_outbound) {v_msgs_inbound} (ev_msgs_inbound : s.msgs.inbound = v_msgs_inbound)
    {v_msgs_triplog} (ev_msgs_triplog : s.msgs.triplog = v_msgs_triplog) {v_trips_deposit}
    (ev_trips_deposit : s.trips.deposit = v_trips_deposit) {v_power_startUp} (ev_power_startUp : s.power.startUp = v_power_startUp)
    {v_emerg_owed} (ev_emerg_owed : s.emerg.owed = v_emerg_owed)
    (hl : QueueOk s.path.queue s.path.under s.msgs.flight s.msgs.deposit s.msgs.outbound s.msgs.inbound s.msgs.triplog s.trips.deposit s.power.startUp s.emerg.owed) :
    QueueOk (State.takeLost j s).path.queue v_path_under v_msgs_flight v_msgs_deposit v_msgs_outbound v_msgs_inbound v_msgs_triplog v_trips_deposit v_power_startUp v_emerg_owed := by
  subst ev_path_under; subst ev_msgs_flight; subst ev_msgs_deposit; subst ev_msgs_outbound; subst ev_msgs_inbound; subst ev_msgs_triplog; subst ev_trips_deposit; subst ev_power_startUp; subst ev_emerg_owed;
  unfold State.takeLost; (repeat' split) <;> simp (maxDischargeDepth := 12) [hl]

@[simp] theorem State.takeWithdraw_queueOk (j : DWord) {s : State} {v_path_under} (ev_path_under : s.path.under = v_path_under)
    {v_msgs_flight} (ev_msgs_flight : s.msgs.flight = v_msgs_flight) {v_msgs_deposit} (ev_msgs_deposit : s.msgs.deposit = v_msgs_deposit)
    {v_msgs_outbound} (ev_msgs_outbound : s.msgs.outbound = v_msgs_outbound) {v_msgs_inbound}
    (ev_msgs_inbound : s.msgs.inbound = v_msgs_inbound) {v_msgs_triplog} (ev_msgs_triplog : s.msgs.triplog = v_msgs_triplog)
    {v_trips_deposit} (ev_trips_deposit : s.trips.deposit = v_trips_deposit) {v_power_startUp}
    (ev_power_startUp : s.power.startUp = v_power_startUp) {v_emerg_owed} (ev_emerg_owed : s.emerg.owed = v_emerg_owed)
    (hl : QueueOk s.path.queue s.path.under s.msgs.flight s.msgs.deposit s.msgs.outbound s.msgs.inbound s.msgs.triplog s.trips.deposit s.power.startUp s.emerg.owed) :
    QueueOk (State.takeWithdraw j s).path.queue v_path_under v_msgs_flight v_msgs_deposit v_msgs_outbound v_msgs_inbound v_msgs_triplog v_trips_deposit v_power_startUp v_emerg_owed := by
  subst ev_path_under; subst ev_msgs_flight; subst ev_msgs_deposit; subst ev_msgs_outbound; subst ev_msgs_inbound; subst ev_msgs_triplog; subst ev_trips_deposit; subst ev_power_startUp; subst ev_emerg_owed;
  unfold State.takeWithdraw; dsimp only; (repeat' split) <;> simp (maxDischargeDepth := 12) [hl]

@[simp] theorem State.carryJob_queueOk {s : State} {v_path_under} (ev_path_under : s.path.under = v_path_under) {v_msgs_flight}
    (ev_msgs_flight : s.msgs.flight = v_msgs_flight) {v_msgs_deposit} (ev_msgs_deposit : s.msgs.deposit = v_msgs_deposit) {v_msgs_outbound}
    (ev_msgs_outbound : s.msgs.outbound = v_msgs_outbound) {v_msgs_inbound} (ev_msgs_inbound : s.msgs.inbound = v_msgs_inbound)
    {v_msgs_triplog} (ev_msgs_triplog : s.msgs.triplog = v_msgs_triplog) {v_trips_deposit}
    (ev_trips_deposit : s.trips.deposit = v_trips_deposit) {v_power_startUp} (ev_power_startUp : s.power.startUp = v_power_startUp)
    {v_emerg_owed} (ev_emerg_owed : s.emerg.owed = v_emerg_owed)
    (hl : QueueOk s.path.queue s.path.under s.msgs.flight s.msgs.deposit s.msgs.outbound s.msgs.inbound s.msgs.triplog s.trips.deposit s.power.startUp s.emerg.owed) :
    QueueOk (State.carryJob s).path.queue v_path_under v_msgs_flight v_msgs_deposit v_msgs_outbound v_msgs_inbound v_msgs_triplog v_trips_deposit v_power_startUp v_emerg_owed := by
  subst ev_path_under; subst ev_msgs_flight; subst ev_msgs_deposit; subst ev_msgs_outbound; subst ev_msgs_inbound; subst ev_msgs_triplog; subst ev_trips_deposit; subst ev_power_startUp; subst ev_emerg_owed;
  unfold State.carryJob; (repeat' split) <;> simp (maxDischargeDepth := 12) [hl]

@[simp] theorem State.alertingToOffers_queueOk {s : State} {v_path_under} (ev_path_under : s.path.under = v_path_under) {v_msgs_flight}
    (ev_msgs_flight : s.msgs.flight = v_msgs_flight) {v_msgs_deposit} (ev_msgs_deposit : s.msgs.deposit = v_msgs_deposit) {v_msgs_outbound}
    (ev_msgs_outbound : s.msgs.outbound = v_msgs_outbound) {v_msgs_inbound} (ev_msgs_inbound : s.msgs.inbound = v_msgs_inbound)
    {v_msgs_triplog} (ev_msgs_triplog : s.msgs.triplog = v_msgs_triplog) {v_trips_deposit}
    (ev_trips_deposit : s.trips.deposit = v_trips_deposit) {v_power_startUp} (ev_power_startUp : s.power.startUp = v_power_startUp)
    {v_emerg_owed} (ev_emerg_owed : s.emerg.owed = v_emerg_owed)
    (hl : QueueOk s.path.queue s.path.under s.msgs.flight s.msgs.deposit s.msgs.outbound s.msgs.inbound s.msgs.triplog s.trips.deposit s.power.startUp s.emerg.owed) :
    QueueOk (State.alertingToOffers s).path.queue v_path_under v_msgs_flight v_msgs_deposit v_msgs_outbound v_msgs_inbound v_msgs_triplog v_trips_deposit v_power_startUp v_emerg_owed := by
  subst ev_path_under; subst ev_msgs_flight; subst ev_msgs_deposit; subst ev_msgs_outbound; subst ev_msgs_inbound; subst ev_msgs_triplog; subst ev_trips_deposit; subst ev_power_startUp; subst ev_emerg_owed;
  unfold State.alertingToOffers; (repeat' split) <;> simp (maxDischargeDepth := 12) [hl]

@[simp] theorem State.emptyAll_queueOk (ns : List (Fin 16)) {s : State} {v_path_under} (ev_path_under : s.path.under = v_path_under)
    {v_msgs_flight} (ev_msgs_flight : s.msgs.flight = v_msgs_flight) {v_msgs_deposit} (ev_msgs_deposit : s.msgs.deposit = v_msgs_deposit)
    {v_msgs_outbound} (ev_msgs_outbound : s.msgs.outbound = v_msgs_outbound) {v_msgs_inbound}
    (ev_msgs_inbound : s.msgs.inbound = v_msgs_inbound) {v_msgs_triplog} (ev_msgs_triplog : s.msgs.triplog = v_msgs_triplog)
    {v_trips_deposit} (ev_trips_deposit : s.trips.deposit = v_trips_deposit) {v_power_startUp}
    (ev_power_startUp : s.power.startUp = v_power_startUp) {v_emerg_owed} (ev_emerg_owed : s.emerg.owed = v_emerg_owed)
    (hl : QueueOk s.path.queue s.path.under s.msgs.flight s.msgs.deposit s.msgs.outbound s.msgs.inbound s.msgs.triplog s.trips.deposit s.power.startUp s.emerg.owed) :
    QueueOk (State.emptyAll ns s).path.queue v_path_under v_msgs_flight v_msgs_deposit v_msgs_outbound v_msgs_inbound v_msgs_triplog v_trips_deposit v_power_startUp v_emerg_owed := by
  subst ev_path_under; subst ev_msgs_flight; subst ev_msgs_deposit; subst ev_msgs_outbound; subst ev_msgs_inbound; subst ev_msgs_triplog; subst ev_trips_deposit; subst ev_power_startUp; subst ev_emerg_owed;
  induction ns generalizing s with
  | nil => exact hl
  | cons n rest ih =>
    have := ih (s := s.emptyEntry n []) (by simpa using State.emptyEntry_queueOk n [] rfl rfl rfl rfl rfl rfl rfl rfl rfl hl)
    simpa [State.emptyAll] using this

@[simp] theorem State.closeOffers_queueOk {s : State} {v_path_under} (ev_path_under : s.path.under = v_path_under) {v_msgs_flight}
    (ev_msgs_flight : s.msgs.flight = v_msgs_flight) {v_msgs_deposit} (ev_msgs_deposit : s.msgs.deposit = v_msgs_deposit) {v_msgs_outbound}
    (ev_msgs_outbound : s.msgs.outbound = v_msgs_outbound) {v_msgs_inbound} (ev_msgs_inbound : s.msgs.inbound = v_msgs_inbound)
    {v_msgs_triplog} (ev_msgs_triplog : s.msgs.triplog = v_msgs_triplog) {v_trips_deposit}
    (ev_trips_deposit : s.trips.deposit = v_trips_deposit) {v_power_startUp} (ev_power_startUp : s.power.startUp = v_power_startUp)
    {v_emerg_owed} (ev_emerg_owed : s.emerg.owed = v_emerg_owed)
    (hl : QueueOk s.path.queue s.path.under s.msgs.flight s.msgs.deposit s.msgs.outbound s.msgs.inbound s.msgs.triplog s.trips.deposit s.power.startUp s.emerg.owed) :
    QueueOk (State.closeOffers s).path.queue v_path_under v_msgs_flight v_msgs_deposit v_msgs_outbound v_msgs_inbound v_msgs_triplog v_trips_deposit v_power_startUp v_emerg_owed := by
  subst ev_path_under; subst ev_msgs_flight; subst ev_msgs_deposit; subst ev_msgs_outbound; subst ev_msgs_inbound; subst ev_msgs_triplog; subst ev_trips_deposit; subst ev_power_startUp; subst ev_emerg_owed;
  unfold State.closeOffers; dsimp only; (repeat' split) <;> simp (maxDischargeDepth := 12) [hl]

@[simp] theorem State.softResetEntry_queueOk (n : Fin 16) {s : State} {v_path_under} (ev_path_under : s.path.under = v_path_under)
    {v_msgs_flight} (ev_msgs_flight : s.msgs.flight = v_msgs_flight) {v_msgs_deposit} (ev_msgs_deposit : s.msgs.deposit = v_msgs_deposit)
    {v_msgs_outbound} (ev_msgs_outbound : s.msgs.outbound = v_msgs_outbound) {v_msgs_inbound}
    (ev_msgs_inbound : s.msgs.inbound = v_msgs_inbound) {v_msgs_triplog} (ev_msgs_triplog : s.msgs.triplog = v_msgs_triplog)
    {v_trips_deposit} (ev_trips_deposit : s.trips.deposit = v_trips_deposit) {v_power_startUp}
    (ev_power_startUp : s.power.startUp = v_power_startUp) {v_emerg_owed} (ev_emerg_owed : s.emerg.owed = v_emerg_owed)
    (hl : QueueOk s.path.queue s.path.under s.msgs.flight s.msgs.deposit s.msgs.outbound s.msgs.inbound s.msgs.triplog s.trips.deposit s.power.startUp s.emerg.owed) :
    QueueOk (State.softResetEntry n s).path.queue v_path_under v_msgs_flight v_msgs_deposit v_msgs_outbound v_msgs_inbound v_msgs_triplog v_trips_deposit v_power_startUp v_emerg_owed := by
  subst ev_path_under; subst ev_msgs_flight; subst ev_msgs_deposit; subst ev_msgs_outbound; subst ev_msgs_inbound; subst ev_msgs_triplog; subst ev_trips_deposit; subst ev_power_startUp; subst ev_emerg_owed;
  unfold State.softResetEntry; split
  · exact hl
  · exact State.requestRewrite_queueOk _ rfl rfl rfl rfl rfl rfl rfl rfl rfl hl rfl

@[simp] theorem State.softResetOffers_queueOk {s : State} {v_path_under} (ev_path_under : s.path.under = v_path_under) {v_msgs_flight}
    (ev_msgs_flight : s.msgs.flight = v_msgs_flight) {v_msgs_deposit} (ev_msgs_deposit : s.msgs.deposit = v_msgs_deposit) {v_msgs_outbound}
    (ev_msgs_outbound : s.msgs.outbound = v_msgs_outbound) {v_msgs_inbound} (ev_msgs_inbound : s.msgs.inbound = v_msgs_inbound)
    {v_msgs_triplog} (ev_msgs_triplog : s.msgs.triplog = v_msgs_triplog) {v_trips_deposit}
    (ev_trips_deposit : s.trips.deposit = v_trips_deposit) {v_power_startUp} (ev_power_startUp : s.power.startUp = v_power_startUp)
    {v_emerg_owed} (ev_emerg_owed : s.emerg.owed = v_emerg_owed)
    (hl : QueueOk s.path.queue s.path.under s.msgs.flight s.msgs.deposit s.msgs.outbound s.msgs.inbound s.msgs.triplog s.trips.deposit s.power.startUp s.emerg.owed) :
    QueueOk (State.softResetOffers s).path.queue v_path_under v_msgs_flight v_msgs_deposit v_msgs_outbound v_msgs_inbound v_msgs_triplog v_trips_deposit v_power_startUp v_emerg_owed := by
  subst ev_path_under; subst ev_msgs_flight; subst ev_msgs_deposit; subst ev_msgs_outbound; subst ev_msgs_inbound; subst ev_msgs_triplog; subst ev_trips_deposit; subst ev_power_startUp; subst ev_emerg_owed;
  have h : ∀ (ns : List (Fin 16))
    {s : State}, QueueOk s.path.queue s.path.under s.msgs.flight s.msgs.deposit s.msgs.outbound s.msgs.inbound s.msgs.triplog s.trips.deposit s.power.startUp s.emerg.owed → QueueOk (ns.foldl (fun s n => s.softResetEntry n) s).path.queue (ns.foldl (fun s n => s.softResetEntry n) s).path.under (ns.foldl (fun s n => s.softResetEntry n) s).msgs.flight (ns.foldl (fun s n => s.softResetEntry n) s).msgs.deposit (ns.foldl (fun s n => s.softResetEntry n) s).msgs.outbound (ns.foldl (fun s n => s.softResetEntry n) s).msgs.inbound (ns.foldl (fun s n => s.softResetEntry n) s).msgs.triplog (ns.foldl (fun s n => s.softResetEntry n) s).trips.deposit (ns.foldl (fun s n => s.softResetEntry n) s).power.startUp (ns.foldl (fun s n => s.softResetEntry n) s).emerg.owed := by
    intro ns
    induction ns with
    | nil => exact fun h => h
    | cons n rest ih => intro s h; exact ih (by simpa using State.softResetEntry_queueOk n rfl rfl rfl rfl rfl rfl rfl rfl rfl h)
  have h1 : QueueOk (State.softResetOffers s).path.queue (State.softResetOffers s).path.under (State.softResetOffers s).msgs.flight
    (State.softResetOffers s).msgs.deposit (State.softResetOffers s).msgs.outbound (State.softResetOffers s).msgs.inbound
    (State.softResetOffers s).msgs.triplog (State.softResetOffers s).trips.deposit (State.softResetOffers s).power.startUp
    (State.softResetOffers s).emerg.owed := by
    simp only [State.softResetOffers]; exact h allEntries hl
  simpa using h1

@[simp] theorem State.setRing_queueOk (i : RingId) (r : Ring) {s : State} {v_path_queue} (ev_path_queue : s.path.queue = v_path_queue)
    {v_path_under} (ev_path_under : s.path.under = v_path_under) {v_msgs_flight} (ev_msgs_flight : s.msgs.flight = v_msgs_flight)
    {v_msgs_deposit} (ev_msgs_deposit : s.msgs.deposit = v_msgs_deposit) {v_trips_deposit}
    (ev_trips_deposit : s.trips.deposit = v_trips_deposit) {v_power_startUp} (ev_power_startUp : s.power.startUp = v_power_startUp)
    {v_emerg_owed} (ev_emerg_owed : s.emerg.owed = v_emerg_owed)
    (hl : QueueOk s.path.queue s.path.under s.msgs.flight s.msgs.deposit s.msgs.outbound s.msgs.inbound s.msgs.triplog s.trips.deposit s.power.startUp s.emerg.owed) (hc : r.check = (s.msgs.ring i).check) :
    QueueOk v_path_queue v_path_under v_msgs_flight v_msgs_deposit (State.setRing i r s).msgs.outbound (State.setRing i r s).msgs.inbound
          (State.setRing i r s).msgs.triplog v_trips_deposit v_power_startUp v_emerg_owed := by
  subst ev_path_queue; subst ev_path_under; subst ev_msgs_flight; subst ev_msgs_deposit; subst ev_trips_deposit; subst ev_power_startUp; subst ev_emerg_owed;
  obtain ⟨h1, h2, h3, h4, h5, h6, h7, h8, h9, h10, h11, h12⟩ := hl
  refine ⟨h1, h2, h3, h4, h5, h6, h7, ?_, h9, h10, h11, h12⟩
  intro k hk
  have := h8 k hk
  cases i <;> cases k <;> simp_all [State.setRing, MessageEngine.setRing, MessageEngine.ring, ringOf]

@[simp] theorem State.moveOwn_queueOk (i : RingId) (p : Nat) {s : State} {v_path_queue} (ev_path_queue : s.path.queue = v_path_queue)
    {v_path_under} (ev_path_under : s.path.under = v_path_under) {v_msgs_flight} (ev_msgs_flight : s.msgs.flight = v_msgs_flight)
    {v_msgs_deposit} (ev_msgs_deposit : s.msgs.deposit = v_msgs_deposit) {v_trips_deposit}
    (ev_trips_deposit : s.trips.deposit = v_trips_deposit) {v_power_startUp} (ev_power_startUp : s.power.startUp = v_power_startUp)
    {v_emerg_owed} (ev_emerg_owed : s.emerg.owed = v_emerg_owed)
    (hl : QueueOk s.path.queue s.path.under s.msgs.flight s.msgs.deposit s.msgs.outbound s.msgs.inbound s.msgs.triplog s.trips.deposit s.power.startUp s.emerg.owed) :
    QueueOk v_path_queue v_path_under v_msgs_flight v_msgs_deposit (State.moveOwn i p s).msgs.outbound (State.moveOwn i p s).msgs.inbound
          (State.moveOwn i p s).msgs.triplog v_trips_deposit v_power_startUp v_emerg_owed := by
  subst ev_path_queue; subst ev_path_under; subst ev_msgs_flight; subst ev_msgs_deposit; subst ev_trips_deposit; subst ev_power_startUp; subst ev_emerg_owed;
  unfold State.moveOwn; (repeat' split) <;> simp (maxDischargeDepth := 12) [hl]

@[simp] theorem State.beginTripDeposit_queueOk (r : TripRecord) (p : Deposit) {s : State} {v_path_under}
    (ev_path_under : s.path.under = v_path_under) {v_msgs_flight} (ev_msgs_flight : s.msgs.flight = v_msgs_flight) {v_msgs_deposit}
    (ev_msgs_deposit : s.msgs.deposit = v_msgs_deposit) {v_msgs_outbound} (ev_msgs_outbound : s.msgs.outbound = v_msgs_outbound)
    {v_msgs_inbound} (ev_msgs_inbound : s.msgs.inbound = v_msgs_inbound) {v_msgs_triplog}
    (ev_msgs_triplog : s.msgs.triplog = v_msgs_triplog) {v_power_startUp} (ev_power_startUp : s.power.startUp = v_power_startUp)
    {v_emerg_owed} (ev_emerg_owed : s.emerg.owed = v_emerg_owed)
    (hl : QueueOk s.path.queue s.path.under s.msgs.flight s.msgs.deposit s.msgs.outbound s.msgs.inbound s.msgs.triplog s.trips.deposit s.power.startUp s.emerg.owed) (hd : s.trips.deposit = none) :
    QueueOk (State.beginTripDeposit r p s).path.queue v_path_under v_msgs_flight v_msgs_deposit v_msgs_outbound v_msgs_inbound v_msgs_triplog (State.beginTripDeposit r p s).trips.deposit v_power_startUp v_emerg_owed := by
  subst ev_path_under; subst ev_msgs_flight; subst ev_msgs_deposit; subst ev_msgs_outbound; subst ev_msgs_inbound; subst ev_msgs_triplog; subst ev_power_startUp; subst ev_emerg_owed;
  obtain ⟨h1, h2, h3, h4, h5, h6, h7, h8, h9, h10, h11, h12⟩ := hl
  have h0 : QueueOk s.path.queue s.path.under s.msgs.flight s.msgs.deposit s.msgs.outbound s.msgs.inbound s.msgs.triplog
      (some ⟨r, p⟩) s.power.startUp s.emerg.owed := ⟨h1, h2, h3, h4, h5, h6, by simp, h8, h9, h10, h11, h12⟩
  exact h0.push .tripDeposit 0 (fun h => h7 (Or.inl h) hd) (by simp) (by simp) (by simp) (by simp) (by simp) (by simp)
    (fun _ h => h7 (Or.inr h) hd) (by simp) (by simp)

@[simp] theorem State.offerToLog_queueOk (r : TripRecord) {s : State} {v_path_under} (ev_path_under : s.path.under = v_path_under)
    {v_msgs_flight} (ev_msgs_flight : s.msgs.flight = v_msgs_flight) {v_msgs_deposit} (ev_msgs_deposit : s.msgs.deposit = v_msgs_deposit)
    {v_msgs_outbound} (ev_msgs_outbound : s.msgs.outbound = v_msgs_outbound) {v_msgs_inbound}
    (ev_msgs_inbound : s.msgs.inbound = v_msgs_inbound) {v_msgs_triplog} (ev_msgs_triplog : s.msgs.triplog = v_msgs_triplog)
    {v_power_startUp} (ev_power_startUp : s.power.startUp = v_power_startUp) {v_emerg_owed} (ev_emerg_owed : s.emerg.owed = v_emerg_owed)
    (hl : QueueOk s.path.queue s.path.under s.msgs.flight s.msgs.deposit s.msgs.outbound s.msgs.inbound s.msgs.triplog s.trips.deposit s.power.startUp s.emerg.owed) :
    QueueOk (State.offerToLog r s).path.queue v_path_under v_msgs_flight v_msgs_deposit v_msgs_outbound v_msgs_inbound v_msgs_triplog
          (State.offerToLog r s).trips.deposit v_power_startUp v_emerg_owed := by
  subst ev_path_under; subst ev_msgs_flight; subst ev_msgs_deposit; subst ev_msgs_outbound; subst ev_msgs_inbound; subst ev_msgs_triplog; subst ev_power_startUp; subst ev_emerg_owed;
  unfold State.offerToLog; (repeat' split) <;> simp_all

@[simp] theorem State.servePending_queueOk {s : State} {v_path_under} (ev_path_under : s.path.under = v_path_under) {v_msgs_flight}
    (ev_msgs_flight : s.msgs.flight = v_msgs_flight) {v_msgs_deposit} (ev_msgs_deposit : s.msgs.deposit = v_msgs_deposit) {v_msgs_outbound}
    (ev_msgs_outbound : s.msgs.outbound = v_msgs_outbound) {v_msgs_inbound} (ev_msgs_inbound : s.msgs.inbound = v_msgs_inbound)
    {v_msgs_triplog} (ev_msgs_triplog : s.msgs.triplog = v_msgs_triplog) {v_power_startUp}
    (ev_power_startUp : s.power.startUp = v_power_startUp) {v_emerg_owed} (ev_emerg_owed : s.emerg.owed = v_emerg_owed)
    (hl : QueueOk s.path.queue s.path.under s.msgs.flight s.msgs.deposit s.msgs.outbound s.msgs.inbound s.msgs.triplog s.trips.deposit s.power.startUp s.emerg.owed) :
    QueueOk (State.servePending s).path.queue v_path_under v_msgs_flight v_msgs_deposit v_msgs_outbound v_msgs_inbound v_msgs_triplog
          (State.servePending s).trips.deposit v_power_startUp v_emerg_owed := by
  subst ev_path_under; subst ev_msgs_flight; subst ev_msgs_deposit; subst ev_msgs_outbound; subst ev_msgs_inbound; subst ev_msgs_triplog; subst ev_power_startUp; subst ev_emerg_owed;
  unfold State.servePending; (repeat' split) <;> simp_all

@[simp] theorem State.closeTotals_queueOk {s : State} {v_path_under} (ev_path_under : s.path.under = v_path_under) {v_msgs_flight}
    (ev_msgs_flight : s.msgs.flight = v_msgs_flight) {v_msgs_deposit} (ev_msgs_deposit : s.msgs.deposit = v_msgs_deposit) {v_msgs_outbound}
    (ev_msgs_outbound : s.msgs.outbound = v_msgs_outbound) {v_msgs_inbound} (ev_msgs_inbound : s.msgs.inbound = v_msgs_inbound)
    {v_msgs_triplog} (ev_msgs_triplog : s.msgs.triplog = v_msgs_triplog) {v_trips_deposit}
    (ev_trips_deposit : s.trips.deposit = v_trips_deposit) {v_power_startUp} (ev_power_startUp : s.power.startUp = v_power_startUp)
    {v_emerg_owed} (ev_emerg_owed : s.emerg.owed = v_emerg_owed)
    (hl : QueueOk s.path.queue s.path.under s.msgs.flight s.msgs.deposit s.msgs.outbound s.msgs.inbound s.msgs.triplog s.trips.deposit s.power.startUp s.emerg.owed) :
    QueueOk (State.closeTotals s).path.queue v_path_under v_msgs_flight v_msgs_deposit v_msgs_outbound v_msgs_inbound v_msgs_triplog v_trips_deposit v_power_startUp v_emerg_owed := by
  subst ev_path_under; subst ev_msgs_flight; subst ev_msgs_deposit; subst ev_msgs_outbound; subst ev_msgs_inbound; subst ev_msgs_triplog; subst ev_trips_deposit; subst ev_power_startUp; subst ev_emerg_owed;
  unfold State.closeTotals; dsimp only
  have h0 := fun x (y : Transceiver) => State.requestRewrite_queueOk .totalsSnapshot
    (s := { s with trips := { s.trips with captured := some ⟨s.trips.totals, s.link.clock⟩, shiftReport := x }, radio := y }) rfl rfl rfl rfl rfl rfl rfl rfl rfl hl rfl
  split
  · have := h0 (some ⟨⟨s.trips.totals, s.link.clock⟩, 0, 0, false⟩); simp [this]
  · have := h0 (some ⟨⟨s.trips.totals, s.link.clock⟩, 0, 0, false⟩); simp [this]

@[simp] theorem State.openTrip_queueOk (t : Byte) {s : State} {v_path_under} (ev_path_under : s.path.under = v_path_under) {v_msgs_flight}
    (ev_msgs_flight : s.msgs.flight = v_msgs_flight) {v_msgs_deposit} (ev_msgs_deposit : s.msgs.deposit = v_msgs_deposit) {v_msgs_outbound}
    (ev_msgs_outbound : s.msgs.outbound = v_msgs_outbound) {v_msgs_inbound} (ev_msgs_inbound : s.msgs.inbound = v_msgs_inbound)
    {v_msgs_triplog} (ev_msgs_triplog : s.msgs.triplog = v_msgs_triplog) {v_trips_deposit}
    (ev_trips_deposit : s.trips.deposit = v_trips_deposit) {v_power_startUp} (ev_power_startUp : s.power.startUp = v_power_startUp)
    {v_emerg_owed} (ev_emerg_owed : s.emerg.owed = v_emerg_owed)
    (hl : QueueOk s.path.queue s.path.under s.msgs.flight s.msgs.deposit s.msgs.outbound s.msgs.inbound s.msgs.triplog s.trips.deposit s.power.startUp s.emerg.owed) :
    QueueOk (State.openTrip t s).path.queue v_path_under v_msgs_flight v_msgs_deposit v_msgs_outbound v_msgs_inbound v_msgs_triplog v_trips_deposit v_power_startUp v_emerg_owed := by
  subst ev_path_under; subst ev_msgs_flight; subst ev_msgs_deposit; subst ev_msgs_outbound; subst ev_msgs_inbound; subst ev_msgs_triplog; subst ev_trips_deposit; subst ev_power_startUp; subst ev_emerg_owed;
  unfold State.openTrip; (repeat' split) <;> simp (maxDischargeDepth := 12) [hl]

@[simp] theorem State.closeTrip_queueOk (e : TripEnd) {s : State} {v_path_under} (ev_path_under : s.path.under = v_path_under)
    {v_msgs_flight} (ev_msgs_flight : s.msgs.flight = v_msgs_flight) {v_msgs_deposit} (ev_msgs_deposit : s.msgs.deposit = v_msgs_deposit)
    {v_msgs_outbound} (ev_msgs_outbound : s.msgs.outbound = v_msgs_outbound) {v_msgs_inbound}
    (ev_msgs_inbound : s.msgs.inbound = v_msgs_inbound) {v_msgs_triplog} (ev_msgs_triplog : s.msgs.triplog = v_msgs_triplog)
    {v_power_startUp} (ev_power_startUp : s.power.startUp = v_power_startUp) {v_emerg_owed} (ev_emerg_owed : s.emerg.owed = v_emerg_owed)
    (hl : QueueOk s.path.queue s.path.under s.msgs.flight s.msgs.deposit s.msgs.outbound s.msgs.inbound s.msgs.triplog s.trips.deposit s.power.startUp s.emerg.owed) :
    QueueOk (State.closeTrip e s).path.queue v_path_under v_msgs_flight v_msgs_deposit v_msgs_outbound v_msgs_inbound v_msgs_triplog
          (State.closeTrip e s).trips.deposit v_power_startUp v_emerg_owed := by
  subst ev_path_under; subst ev_msgs_flight; subst ev_msgs_deposit; subst ev_msgs_outbound; subst ev_msgs_inbound; subst ev_msgs_triplog; subst ev_power_startUp; subst ev_emerg_owed;
  unfold State.closeTrip; (repeat' split) <;> simp (maxDischargeDepth := 12) [hl]

@[simp] theorem State.takeHire_queueOk (t : Byte) {s : State} {v_path_under} (ev_path_under : s.path.under = v_path_under) {v_msgs_flight}
    (ev_msgs_flight : s.msgs.flight = v_msgs_flight) {v_msgs_deposit} (ev_msgs_deposit : s.msgs.deposit = v_msgs_deposit) {v_msgs_outbound}
    (ev_msgs_outbound : s.msgs.outbound = v_msgs_outbound) {v_msgs_inbound} (ev_msgs_inbound : s.msgs.inbound = v_msgs_inbound)
    {v_msgs_triplog} (ev_msgs_triplog : s.msgs.triplog = v_msgs_triplog) {v_power_startUp}
    (ev_power_startUp : s.power.startUp = v_power_startUp) {v_emerg_owed} (ev_emerg_owed : s.emerg.owed = v_emerg_owed)
    (hl : QueueOk s.path.queue s.path.under s.msgs.flight s.msgs.deposit s.msgs.outbound s.msgs.inbound s.msgs.triplog s.trips.deposit s.power.startUp s.emerg.owed) :
    QueueOk (State.takeHire t s).path.queue v_path_under v_msgs_flight v_msgs_deposit v_msgs_outbound v_msgs_inbound v_msgs_triplog
          (State.takeHire t s).trips.deposit v_power_startUp v_emerg_owed := by
  subst ev_path_under; subst ev_msgs_flight; subst ev_msgs_deposit; subst ev_msgs_outbound; subst ev_msgs_inbound; subst ev_msgs_triplog; subst ev_power_startUp; subst ev_emerg_owed;
  unfold State.takeHire; (repeat' split) <;> simp (maxDischargeDepth := 12) [hl]

@[simp] theorem State.takeStop_queueOk (f : DWord) {s : State} {v_path_under} (ev_path_under : s.path.under = v_path_under) {v_msgs_flight}
    (ev_msgs_flight : s.msgs.flight = v_msgs_flight) {v_msgs_deposit} (ev_msgs_deposit : s.msgs.deposit = v_msgs_deposit) {v_msgs_outbound}
    (ev_msgs_outbound : s.msgs.outbound = v_msgs_outbound) {v_msgs_inbound} (ev_msgs_inbound : s.msgs.inbound = v_msgs_inbound)
    {v_msgs_triplog} (ev_msgs_triplog : s.msgs.triplog = v_msgs_triplog) {v_power_startUp}
    (ev_power_startUp : s.power.startUp = v_power_startUp) {v_emerg_owed} (ev_emerg_owed : s.emerg.owed = v_emerg_owed)
    (hl : QueueOk s.path.queue s.path.under s.msgs.flight s.msgs.deposit s.msgs.outbound s.msgs.inbound s.msgs.triplog s.trips.deposit s.power.startUp s.emerg.owed) :
    QueueOk (State.takeStop f s).path.queue v_path_under v_msgs_flight v_msgs_deposit v_msgs_outbound v_msgs_inbound v_msgs_triplog
          (State.takeStop f s).trips.deposit v_power_startUp v_emerg_owed := by
  subst ev_path_under; subst ev_msgs_flight; subst ev_msgs_deposit; subst ev_msgs_outbound; subst ev_msgs_inbound; subst ev_msgs_triplog; subst ev_power_startUp; subst ev_emerg_owed;
  unfold State.takeStop; (repeat' split) <;> simp (maxDischargeDepth := 12) [hl]

@[simp] theorem State.forceClose_queueOk {s : State} {v_path_under} (ev_path_under : s.path.under = v_path_under) {v_msgs_flight}
    (ev_msgs_flight : s.msgs.flight = v_msgs_flight) {v_msgs_deposit} (ev_msgs_deposit : s.msgs.deposit = v_msgs_deposit) {v_msgs_outbound}
    (ev_msgs_outbound : s.msgs.outbound = v_msgs_outbound) {v_msgs_inbound} (ev_msgs_inbound : s.msgs.inbound = v_msgs_inbound)
    {v_msgs_triplog} (ev_msgs_triplog : s.msgs.triplog = v_msgs_triplog) {v_power_startUp}
    (ev_power_startUp : s.power.startUp = v_power_startUp) {v_emerg_owed} (ev_emerg_owed : s.emerg.owed = v_emerg_owed)
    (hl : QueueOk s.path.queue s.path.under s.msgs.flight s.msgs.deposit s.msgs.outbound s.msgs.inbound s.msgs.triplog s.trips.deposit s.power.startUp s.emerg.owed) :
    QueueOk (State.forceClose s).path.queue v_path_under v_msgs_flight v_msgs_deposit v_msgs_outbound v_msgs_inbound v_msgs_triplog
          (State.forceClose s).trips.deposit v_power_startUp v_emerg_owed := by
  subst ev_path_under; subst ev_msgs_flight; subst ev_msgs_deposit; subst ev_msgs_outbound; subst ev_msgs_inbound; subst ev_msgs_triplog; subst ev_power_startUp; subst ev_emerg_owed;
  unfold State.forceClose; (repeat' split) <;> simp (maxDischargeDepth := 12) [hl]

@[simp] theorem State.lookForRecord_queueOk {s : State} {v_path_under} (ev_path_under : s.path.under = v_path_under) {v_msgs_deposit}
    (ev_msgs_deposit : s.msgs.deposit = v_msgs_deposit) {v_msgs_outbound} (ev_msgs_outbound : s.msgs.outbound = v_msgs_outbound)
    {v_msgs_inbound} (ev_msgs_inbound : s.msgs.inbound = v_msgs_inbound) {v_msgs_triplog}
    (ev_msgs_triplog : s.msgs.triplog = v_msgs_triplog) {v_trips_deposit} (ev_trips_deposit : s.trips.deposit = v_trips_deposit)
    {v_power_startUp} (ev_power_startUp : s.power.startUp = v_power_startUp) {v_emerg_owed} (ev_emerg_owed : s.emerg.owed = v_emerg_owed)
    (hl : QueueOk s.path.queue s.path.under s.msgs.flight s.msgs.deposit s.msgs.outbound s.msgs.inbound s.msgs.triplog s.trips.deposit s.power.startUp s.emerg.owed) :
    QueueOk (State.lookForRecord s).path.queue v_path_under
          (State.lookForRecord s).msgs.flight v_msgs_deposit v_msgs_outbound v_msgs_inbound v_msgs_triplog v_trips_deposit v_power_startUp v_emerg_owed := by
  subst ev_path_under; subst ev_msgs_deposit; subst ev_msgs_outbound; subst ev_msgs_inbound; subst ev_msgs_triplog; subst ev_trips_deposit; subst ev_power_startUp; subst ev_emerg_owed;
  unfold State.lookForRecord; split
  · rename_i h
    simp only [Bool.and_eq_true, beq_iff_eq] at h
    have hf := h.1.2
    obtain ⟨h1, h2, h3, h4, h5, h6, h7, h8, h9, h10, h11, h12⟩ := hl
    have hn : OpKind.outboundFetch ∉ s.path.queue.map (·.kind) := fun k => by have := h3 k; rw [hf] at this; cases this
    have hu : ∀ u, s.path.under = some u → u.kind = .outboundFetch → u.cycles = [] := by
      intro u e1 e2; by_cases hc : u.cycles = []
      · exact hc
      · have := (h4 u e1 e2 hc).1; rw [hf] at this; cases this
    have h0 : QueueOk s.path.queue s.path.under (.fetching .reading) s.msgs.deposit s.msgs.outbound s.msgs.inbound s.msgs.triplog
        s.trips.deposit s.power.startUp s.emerg.owed := by
      refine ⟨h1, h2, fun _ => rfl, fun u e1 e2 e3 => absurd (hu u e1 e2) e3, ?_, h6, h7, h8, h9, h10, h11, h12⟩
      intro k; obtain ⟨c, hc⟩ := h5 k; rw [hf] at hc; cases hc
    exact h0.push .outboundFetch _ hn (by simp) (fun _ => ⟨rfl, hu⟩) (by simp) (by simp) (by simp) (by simp) (by simp [OpKind.once])
      (by simp) (by simp)
  · exact hl

@[simp] theorem State.closeIfClosing_queueOk {s : State} {v_path_queue} (ev_path_queue : s.path.queue = v_path_queue) {v_path_under}
    (ev_path_under : s.path.under = v_path_under) {v_msgs_flight} (ev_msgs_flight : s.msgs.flight = v_msgs_flight) {v_msgs_deposit}
    (ev_msgs_deposit : s.msgs.deposit = v_msgs_deposit) {v_trips_deposit} (ev_trips_deposit : s.trips.deposit = v_trips_deposit)
    {v_power_startUp} (ev_power_startUp : s.power.startUp = v_power_startUp) {v_emerg_owed} (ev_emerg_owed : s.emerg.owed = v_emerg_owed)
    (hl : QueueOk s.path.queue s.path.under s.msgs.flight s.msgs.deposit s.msgs.outbound s.msgs.inbound s.msgs.triplog s.trips.deposit s.power.startUp s.emerg.owed) :
    QueueOk v_path_queue v_path_under v_msgs_flight v_msgs_deposit (State.closeIfClosing s).msgs.outbound
          (State.closeIfClosing s).msgs.inbound (State.closeIfClosing s).msgs.triplog v_trips_deposit v_power_startUp v_emerg_owed := by
  subst ev_path_queue; subst ev_path_under; subst ev_msgs_flight; subst ev_msgs_deposit; subst ev_trips_deposit; subst ev_power_startUp; subst ev_emerg_owed;
  unfold State.closeIfClosing; split
  · exact State.setRing_queueOk _ _ rfl rfl rfl rfl rfl rfl rfl hl rfl
  · exact hl

@[simp] theorem State.continueFetch_queueOk (u : UnderWay) {s : State} {v_path_queue} (ev_path_queue : s.path.queue = v_path_queue)
    {v_msgs_deposit} (ev_msgs_deposit : s.msgs.deposit = v_msgs_deposit) {v_trips_deposit}
    (ev_trips_deposit : s.trips.deposit = v_trips_deposit) {v_power_startUp} (ev_power_startUp : s.power.startUp = v_power_startUp)
    {v_emerg_owed} (ev_emerg_owed : s.emerg.owed = v_emerg_owed)
    (hl : QueueOk s.path.queue s.path.under s.msgs.flight s.msgs.deposit s.msgs.outbound s.msgs.inbound s.msgs.triplog s.trips.deposit s.power.startUp s.emerg.owed) (hu : s.path.under = some u) (hk : u.kind = .outboundFetch) (hc : u.cycles = [])
    (hr : s.msgs.flight = .fetching .reading) (hq : .outboundFetch ∉ s.path.queue.map (·.kind)) :
    QueueOk v_path_queue (State.continueFetch u s).path.under (State.continueFetch u s).msgs.flight v_msgs_deposit
          (State.continueFetch u s).msgs.outbound (State.continueFetch u s).msgs.inbound
          (State.continueFetch u s).msgs.triplog v_trips_deposit v_power_startUp v_emerg_owed := by
  subst ev_path_queue; subst ev_msgs_deposit; subst ev_trips_deposit; subst ev_power_startUp; subst ev_emerg_owed;
  obtain ⟨h1, h2, h3, h4, h5, h6, h7, h8, h9, h10, h11, h12⟩ := hl
  have hi : ∀ {f : Outbound} {v : UnderWay}, v.kind = .outboundFetch →
      (f = s.msgs.flight ∨ v.cycles = []) →
      QueueOk s.path.queue (some v) f s.msgs.deposit s.msgs.outbound s.msgs.inbound s.msgs.triplog s.trips.deposit s.power.startUp
        s.emerg.owed := by
    intro f v hv hf
    have hn : OpKind.outboundCompletion ∉ s.path.queue.map (·.kind) := by
      intro h; obtain ⟨c, hc⟩ := h5 (Or.inl h); rw [hr] at hc; cases hc
    refine ⟨h1, h2, fun h => absurd h hq, ?_, ?_, ?_, ?_, ?_, ?_, h10, h11, ?_⟩
    · intro u e1 e2 e3; cases e1
      rcases hf with rfl | hf
      · exact ⟨hr, hq⟩
      · exact absurd hf e3
    · rintro (h | h)
      · exact absurd h hn
      · simp [hv] at h
    · rintro (h | h)
      · exact h6 (Or.inl h)
      · simp [hv] at h
    · rintro (h | h)
      · exact h7 (Or.inl h)
      · simp [hv] at h
    · rintro r (h | h)
      · exact h8 r (Or.inl h)
      · simp [hv] at h
    · intro k hk ho; simp [hv] at hk; subst hk; cases ho
    · intro h; have := (h12 h).1; rw [hu] at this; simp [hk] at this
  unfold State.continueFetch; dsimp only; split
  · exact hi hk (Or.inl rfl)
  · exact State.moveOwn_queueOk _ _ (s := { s with path := { s.path with under := some { u with cycles := _, got := [] } } })
      rfl rfl rfl rfl rfl rfl rfl (hi (v := { u with cycles := _, got := [] }) hk (Or.inl rfl))
  · have h0 := hi (f := .none) (v := u) hk (Or.inr hc)
    have := State.closeIfClosing_queueOk (s := { s with msgs := { s.msgs with flight := .none } }) rfl rfl rfl rfl rfl rfl rfl
          (by simpa [hu] using h0)
    simpa using this
  · have := hi (f := .fetching ‹_›) (v := u) hk (Or.inr hc)
    simpa [hu] using this

@[simp] theorem State.completeOutbound_queueOk (c : OutCompletion) {s : State} {v_path_under} (ev_path_under : s.path.under = v_path_under)
    {v_msgs_deposit} (ev_msgs_deposit : s.msgs.deposit = v_msgs_deposit) {v_msgs_outbound}
    (ev_msgs_outbound : s.msgs.outbound = v_msgs_outbound) {v_msgs_inbound} (ev_msgs_inbound : s.msgs.inbound = v_msgs_inbound)
    {v_msgs_triplog} (ev_msgs_triplog : s.msgs.triplog = v_msgs_triplog) {v_trips_deposit}
    (ev_trips_deposit : s.trips.deposit = v_trips_deposit) {v_power_startUp} (ev_power_startUp : s.power.startUp = v_power_startUp)
    {v_emerg_owed} (ev_emerg_owed : s.emerg.owed = v_emerg_owed)
    (hl : QueueOk s.path.queue s.path.under s.msgs.flight s.msgs.deposit s.msgs.outbound s.msgs.inbound s.msgs.triplog s.trips.deposit s.power.startUp s.emerg.owed) (hf : s.msgs.flight ≠ .fetching .reading) (hc : ∀ d, s.msgs.flight ≠ .completing d) :
    QueueOk (State.completeOutbound c s).path.queue v_path_under
          (State.completeOutbound c s).msgs.flight v_msgs_deposit v_msgs_outbound v_msgs_inbound v_msgs_triplog v_trips_deposit v_power_startUp v_emerg_owed := by
  subst ev_path_under; subst ev_msgs_deposit; subst ev_msgs_outbound; subst ev_msgs_inbound; subst ev_msgs_triplog; subst ev_trips_deposit; subst ev_power_startUp; subst ev_emerg_owed;
  obtain ⟨h1, h2, h3, h4, h5, h6, h7, h8, h9, h10, h11, h12⟩ := hl
  have h0 : QueueOk s.path.queue s.path.under (.completing c) s.msgs.deposit s.msgs.outbound s.msgs.inbound s.msgs.triplog
      s.trips.deposit s.power.startUp s.emerg.owed := by
    refine ⟨h1, h2, fun h => absurd (h3 h) hf, fun u e1 e2 e3 => absurd (h4 u e1 e2 e3).1 hf, fun _ => ⟨c, rfl⟩, h6, h7, h8, h9, h10, h11, h12⟩
  have := h0.push .outboundCompletion 0 (fun h => by obtain ⟨d, hd⟩ := h5 (Or.inl h); exact hc d hd) (by simp) (by simp)
    (fun _ => ⟨c, rfl⟩) (by simp) (by simp) (by simp) (fun _ h => by obtain ⟨d, hd⟩ := h5 (Or.inr h); exact hc d hd) (by simp) (by simp)
  simpa [State.completeOutbound, State.requestWrite, MemoryPath.requestWrite] using this

@[simp] theorem State.endFetch_queueOk {s : State} {v_path_under} (ev_path_under : s.path.under = v_path_under) {v_msgs_deposit}
    (ev_msgs_deposit : s.msgs.deposit = v_msgs_deposit) {v_trips_deposit} (ev_trips_deposit : s.trips.deposit = v_trips_deposit)
    {v_power_startUp} (ev_power_startUp : s.power.startUp = v_power_startUp) {v_emerg_owed} (ev_emerg_owed : s.emerg.owed = v_emerg_owed)
    (hl : QueueOk s.path.queue s.path.under s.msgs.flight s.msgs.deposit s.msgs.outbound s.msgs.inbound s.msgs.triplog s.trips.deposit s.power.startUp s.emerg.owed) :
    QueueOk (State.endFetch s).path.queue v_path_under (State.endFetch s).msgs.flight v_msgs_deposit (State.endFetch s).msgs.outbound
          (State.endFetch s).msgs.inbound (State.endFetch s).msgs.triplog v_trips_deposit v_power_startUp v_emerg_owed := by
  subst ev_path_under; subst ev_msgs_deposit; subst ev_trips_deposit; subst ev_power_startUp; subst ev_emerg_owed;
  unfold State.endFetch; split
  · rename_i hf; simpa using State.completeOutbound_queueOk _ rfl rfl rfl rfl rfl rfl rfl rfl hl (by simp [hf]) (by simp [hf])
  · rename_i m hf
    obtain ⟨h1, h2, h3, h4, h5, h6, h7, h8, h9, h10, h11, h12⟩ := hl
    have h0 : QueueOk s.path.queue s.path.under (.flight m) s.msgs.deposit s.msgs.outbound s.msgs.inbound s.msgs.triplog
        s.trips.deposit s.power.startUp s.emerg.owed := by
      refine ⟨h1, h2, fun h => absurd (h3 h) (by simp [hf]), fun u e1 e2 e3 => absurd (h4 u e1 e2 e3).1 (by simp [hf]), ?_, h6, h7, h8, h9, h10, h11, h12⟩
      intro h; obtain ⟨d, hd⟩ := h5 h; rw [hf] at hd; cases hd
    simpa using h0
  · exact hl

@[simp] theorem State.changeFlight_queueOk (f : OutMessage → OutMessage) {s : State} {v_path_queue}
    (ev_path_queue : s.path.queue = v_path_queue) {v_path_under} (ev_path_under : s.path.under = v_path_under) {v_msgs_deposit}
    (ev_msgs_deposit : s.msgs.deposit = v_msgs_deposit) {v_msgs_outbound} (ev_msgs_outbound : s.msgs.outbound = v_msgs_outbound)
    {v_msgs_inbound} (ev_msgs_inbound : s.msgs.inbound = v_msgs_inbound) {v_msgs_triplog}
    (ev_msgs_triplog : s.msgs.triplog = v_msgs_triplog) {v_trips_deposit} (ev_trips_deposit : s.trips.deposit = v_trips_deposit)
    {v_power_startUp} (ev_power_startUp : s.power.startUp = v_power_startUp) {v_emerg_owed} (ev_emerg_owed : s.emerg.owed = v_emerg_owed)
    (hl : QueueOk s.path.queue s.path.under s.msgs.flight s.msgs.deposit s.msgs.outbound s.msgs.inbound s.msgs.triplog s.trips.deposit s.power.startUp s.emerg.owed) :
    QueueOk v_path_queue v_path_under
          (State.changeFlight f s).msgs.flight v_msgs_deposit v_msgs_outbound v_msgs_inbound v_msgs_triplog v_trips_deposit v_power_startUp v_emerg_owed := by
  subst ev_path_queue; subst ev_path_under; subst ev_msgs_deposit; subst ev_msgs_outbound; subst ev_msgs_inbound; subst ev_msgs_triplog; subst ev_trips_deposit; subst ev_power_startUp; subst ev_emerg_owed;
  unfold State.changeFlight; split
  · rename_i m hf
    obtain ⟨h1, h2, h3, h4, h5, h6, h7, h8, h9, h10, h11, h12⟩ := hl
    refine ⟨h1, h2, fun h => absurd (h3 h) (by simp [hf]), fun u e1 e2 e3 => absurd (h4 u e1 e2 e3).1 (by simp [hf]), ?_, h6, h7, h8, h9, h10, h11, h12⟩
    intro h; obtain ⟨d, hd⟩ := h5 h; rw [hf] at hd; cases hd
  · exact hl

@[simp] theorem State.textSent_queueOk (t : Word) (i : Nat) {s : State} {v_path_queue} (ev_path_queue : s.path.queue = v_path_queue)
    {v_path_under} (ev_path_under : s.path.under = v_path_under) {v_msgs_deposit} (ev_msgs_deposit : s.msgs.deposit = v_msgs_deposit)
    {v_msgs_outbound} (ev_msgs_outbound : s.msgs.outbound = v_msgs_outbound) {v_msgs_inbound}
    (ev_msgs_inbound : s.msgs.inbound = v_msgs_inbound) {v_msgs_triplog} (ev_msgs_triplog : s.msgs.triplog = v_msgs_triplog)
    {v_trips_deposit} (ev_trips_deposit : s.trips.deposit = v_trips_deposit) {v_power_startUp}
    (ev_power_startUp : s.power.startUp = v_power_startUp) {v_emerg_owed} (ev_emerg_owed : s.emerg.owed = v_emerg_owed)
    (hl : QueueOk s.path.queue s.path.under s.msgs.flight s.msgs.deposit s.msgs.outbound s.msgs.inbound s.msgs.triplog s.trips.deposit s.power.startUp s.emerg.owed) :
    QueueOk v_path_queue v_path_under
          (State.textSent t i s).msgs.flight v_msgs_deposit v_msgs_outbound v_msgs_inbound v_msgs_triplog v_trips_deposit v_power_startUp v_emerg_owed := by
  subst ev_path_queue; subst ev_path_under; subst ev_msgs_deposit; subst ev_msgs_outbound; subst ev_msgs_inbound; subst ev_msgs_triplog; subst ev_trips_deposit; subst ev_power_startUp; subst ev_emerg_owed;
  unfold State.textSent; (repeat' split) <;> simp (maxDischargeDepth := 12) [hl]

@[simp] theorem State.ackText_queueOk (t : Word) {s : State} {v_path_under} (ev_path_under : s.path.under = v_path_under) {v_msgs_deposit}
    (ev_msgs_deposit : s.msgs.deposit = v_msgs_deposit) {v_msgs_outbound} (ev_msgs_outbound : s.msgs.outbound = v_msgs_outbound)
    {v_msgs_inbound} (ev_msgs_inbound : s.msgs.inbound = v_msgs_inbound) {v_msgs_triplog}
    (ev_msgs_triplog : s.msgs.triplog = v_msgs_triplog) {v_trips_deposit} (ev_trips_deposit : s.trips.deposit = v_trips_deposit)
    {v_power_startUp} (ev_power_startUp : s.power.startUp = v_power_startUp) {v_emerg_owed} (ev_emerg_owed : s.emerg.owed = v_emerg_owed)
    (hl : QueueOk s.path.queue s.path.under s.msgs.flight s.msgs.deposit s.msgs.outbound s.msgs.inbound s.msgs.triplog s.trips.deposit s.power.startUp s.emerg.owed) :
    QueueOk (State.ackText t s).path.queue v_path_under
          (State.ackText t s).msgs.flight v_msgs_deposit v_msgs_outbound v_msgs_inbound v_msgs_triplog v_trips_deposit v_power_startUp v_emerg_owed := by
  subst ev_path_under; subst ev_msgs_deposit; subst ev_msgs_outbound; subst ev_msgs_inbound; subst ev_msgs_triplog; subst ev_trips_deposit; subst ev_power_startUp; subst ev_emerg_owed;
  unfold State.ackText; split
  · rename_i m hf; split
    · exact State.completeOutbound_queueOk _ rfl rfl rfl rfl rfl rfl rfl rfl hl (by simp [hf]) (by simp [hf])
    · exact hl
  · exact hl

@[simp] theorem State.restartMessage_queueOk (f : OutMessage → OutMessage) {s : State} {v_path_queue}
    (ev_path_queue : s.path.queue = v_path_queue) {v_path_under} (ev_path_under : s.path.under = v_path_under) {v_msgs_deposit}
    (ev_msgs_deposit : s.msgs.deposit = v_msgs_deposit) {v_msgs_outbound} (ev_msgs_outbound : s.msgs.outbound = v_msgs_outbound)
    {v_msgs_inbound} (ev_msgs_inbound : s.msgs.inbound = v_msgs_inbound) {v_msgs_triplog}
    (ev_msgs_triplog : s.msgs.triplog = v_msgs_triplog) {v_trips_deposit} (ev_trips_deposit : s.trips.deposit = v_trips_deposit)
    {v_power_startUp} (ev_power_startUp : s.power.startUp = v_power_startUp) {v_emerg_owed} (ev_emerg_owed : s.emerg.owed = v_emerg_owed)
    (hl : QueueOk s.path.queue s.path.under s.msgs.flight s.msgs.deposit s.msgs.outbound s.msgs.inbound s.msgs.triplog s.trips.deposit s.power.startUp s.emerg.owed) :
    QueueOk v_path_queue v_path_under
          (State.restartMessage f s).msgs.flight v_msgs_deposit v_msgs_outbound v_msgs_inbound v_msgs_triplog v_trips_deposit v_power_startUp v_emerg_owed := by
  subst ev_path_queue; subst ev_path_under; subst ev_msgs_deposit; subst ev_msgs_outbound; subst ev_msgs_inbound; subst ev_msgs_triplog; subst ev_trips_deposit; subst ev_power_startUp; subst ev_emerg_owed;
  unfold State.restartMessage; (repeat' split) <;> simp (maxDischargeDepth := 12) [hl]

@[simp] theorem State.ackWaitEnds_queueOk {s : State} {v_path_under} (ev_path_under : s.path.under = v_path_under) {v_msgs_deposit}
    (ev_msgs_deposit : s.msgs.deposit = v_msgs_deposit) {v_msgs_outbound} (ev_msgs_outbound : s.msgs.outbound = v_msgs_outbound)
    {v_msgs_inbound} (ev_msgs_inbound : s.msgs.inbound = v_msgs_inbound) {v_msgs_triplog}
    (ev_msgs_triplog : s.msgs.triplog = v_msgs_triplog) {v_trips_deposit} (ev_trips_deposit : s.trips.deposit = v_trips_deposit)
    {v_power_startUp} (ev_power_startUp : s.power.startUp = v_power_startUp) {v_emerg_owed} (ev_emerg_owed : s.emerg.owed = v_emerg_owed)
    (hl : QueueOk s.path.queue s.path.under s.msgs.flight s.msgs.deposit s.msgs.outbound s.msgs.inbound s.msgs.triplog s.trips.deposit s.power.startUp s.emerg.owed) :
    QueueOk (State.ackWaitEnds s).path.queue v_path_under
          (State.ackWaitEnds s).msgs.flight v_msgs_deposit v_msgs_outbound v_msgs_inbound v_msgs_triplog v_trips_deposit v_power_startUp v_emerg_owed := by
  subst ev_path_under; subst ev_msgs_deposit; subst ev_msgs_outbound; subst ev_msgs_inbound; subst ev_msgs_triplog; subst ev_trips_deposit; subst ev_power_startUp; subst ev_emerg_owed;
  unfold State.ackWaitEnds; split
  · rename_i m hf; (repeat' split)
    · exact State.completeOutbound_queueOk _ rfl rfl rfl rfl rfl rfl rfl rfl hl (by simp [hf]) (by simp [hf])
    · simp [hl]
    · exact hl
  · exact hl

@[simp] theorem State.exitToMessages_queueOk {s : State} {v_path_queue} (ev_path_queue : s.path.queue = v_path_queue) {v_path_under}
    (ev_path_under : s.path.under = v_path_under) {v_msgs_deposit} (ev_msgs_deposit : s.msgs.deposit = v_msgs_deposit) {v_msgs_outbound}
    (ev_msgs_outbound : s.msgs.outbound = v_msgs_outbound) {v_msgs_inbound} (ev_msgs_inbound : s.msgs.inbound = v_msgs_inbound)
    {v_msgs_triplog} (ev_msgs_triplog : s.msgs.triplog = v_msgs_triplog) {v_trips_deposit}
    (ev_trips_deposit : s.trips.deposit = v_trips_deposit) {v_power_startUp} (ev_power_startUp : s.power.startUp = v_power_startUp)
    {v_emerg_owed} (ev_emerg_owed : s.emerg.owed = v_emerg_owed)
    (hl : QueueOk s.path.queue s.path.under s.msgs.flight s.msgs.deposit s.msgs.outbound s.msgs.inbound s.msgs.triplog s.trips.deposit s.power.startUp s.emerg.owed) :
    QueueOk v_path_queue v_path_under
          (State.exitToMessages s).msgs.flight v_msgs_deposit v_msgs_outbound v_msgs_inbound v_msgs_triplog v_trips_deposit v_power_startUp v_emerg_owed := by
  subst ev_path_queue; subst ev_path_under; subst ev_msgs_deposit; subst ev_msgs_outbound; subst ev_msgs_inbound; subst ev_msgs_triplog; subst ev_trips_deposit; subst ev_power_startUp; subst ev_emerg_owed;
  unfold State.exitToMessages; (repeat' split) <;> simp (maxDischargeDepth := 12) [hl]

@[simp] theorem State.judge_queueOk (b : BufferId) (m : InMessage) {s : State} {v_path_under} (ev_path_under : s.path.under = v_path_under)
    {v_msgs_flight} (ev_msgs_flight : s.msgs.flight = v_msgs_flight) {v_msgs_outbound}
    (ev_msgs_outbound : s.msgs.outbound = v_msgs_outbound) {v_msgs_inbound} (ev_msgs_inbound : s.msgs.inbound = v_msgs_inbound)
    {v_msgs_triplog} (ev_msgs_triplog : s.msgs.triplog = v_msgs_triplog) {v_trips_deposit}
    (ev_trips_deposit : s.trips.deposit = v_trips_deposit) {v_power_startUp} (ev_power_startUp : s.power.startUp = v_power_startUp)
    {v_emerg_owed} (ev_emerg_owed : s.emerg.owed = v_emerg_owed)
    (hl : QueueOk s.path.queue s.path.under s.msgs.flight s.msgs.deposit s.msgs.outbound s.msgs.inbound s.msgs.triplog s.trips.deposit s.power.startUp s.emerg.owed) (hd : s.msgs.deposit = none) :
    QueueOk (State.judge b m s).path.queue v_path_under v_msgs_flight
          (State.judge b m s).msgs.deposit v_msgs_outbound v_msgs_inbound v_msgs_triplog v_trips_deposit v_power_startUp v_emerg_owed := by
  subst ev_path_under; subst ev_msgs_flight; subst ev_msgs_outbound; subst ev_msgs_inbound; subst ev_msgs_triplog; subst ev_trips_deposit; subst ev_power_startUp; subst ev_emerg_owed;
  unfold State.judge; dsimp only; split
  · simp [hl]
  · split
    · rename_i plan _
      obtain ⟨h1, h2, h3, h4, h5, h6, h7, h8, h9, h10, h11, h12⟩ := hl
      have h0 : QueueOk s.path.queue s.path.under s.msgs.flight (some ⟨m, plan⟩) s.msgs.outbound s.msgs.inbound s.msgs.triplog
          s.trips.deposit s.power.startUp s.emerg.owed := ⟨h1, h2, h3, h4, h5, by simp, h7, h8, h9, h10, h11, h12⟩
      have := h0.push .inboundDeposit 0 (fun h => h6 (Or.inl h) hd) (by simp) (by simp) (by simp) (by simp) (by simp) (by simp)
        (fun _ h => h6 (Or.inr h) hd) (by simp) (by simp)
      simpa [State.requestWrite, MemoryPath.requestWrite] using this
    · simp [hl]

@[simp] theorem State.judgeNext_queueOk {s : State} {v_path_under} (ev_path_under : s.path.under = v_path_under) {v_msgs_flight}
    (ev_msgs_flight : s.msgs.flight = v_msgs_flight) {v_msgs_outbound} (ev_msgs_outbound : s.msgs.outbound = v_msgs_outbound)
    {v_msgs_inbound} (ev_msgs_inbound : s.msgs.inbound = v_msgs_inbound) {v_msgs_triplog}
    (ev_msgs_triplog : s.msgs.triplog = v_msgs_triplog) {v_trips_deposit} (ev_trips_deposit : s.trips.deposit = v_trips_deposit)
    {v_power_startUp} (ev_power_startUp : s.power.startUp = v_power_startUp) {v_emerg_owed} (ev_emerg_owed : s.emerg.owed = v_emerg_owed)
    (hl : QueueOk s.path.queue s.path.under s.msgs.flight s.msgs.deposit s.msgs.outbound s.msgs.inbound s.msgs.triplog s.trips.deposit s.power.startUp s.emerg.owed) :
    QueueOk (State.judgeNext s).path.queue v_path_under v_msgs_flight
          (State.judgeNext s).msgs.deposit v_msgs_outbound v_msgs_inbound v_msgs_triplog v_trips_deposit v_power_startUp v_emerg_owed := by
  subst ev_path_under; subst ev_msgs_flight; subst ev_msgs_outbound; subst ev_msgs_inbound; subst ev_msgs_triplog; subst ev_trips_deposit; subst ev_power_startUp; subst ev_emerg_owed;
  unfold State.judgeNext; split
  · rename_i hd _; exact State.judge_queueOk _ _ rfl rfl rfl rfl rfl rfl rfl rfl hl hd
  · exact hl

@[simp] theorem State.judgeAll_queueOk {s : State} {v_path_under} (ev_path_under : s.path.under = v_path_under) {v_msgs_flight}
    (ev_msgs_flight : s.msgs.flight = v_msgs_flight) {v_msgs_outbound} (ev_msgs_outbound : s.msgs.outbound = v_msgs_outbound)
    {v_msgs_inbound} (ev_msgs_inbound : s.msgs.inbound = v_msgs_inbound) {v_msgs_triplog}
    (ev_msgs_triplog : s.msgs.triplog = v_msgs_triplog) {v_trips_deposit} (ev_trips_deposit : s.trips.deposit = v_trips_deposit)
    {v_power_startUp} (ev_power_startUp : s.power.startUp = v_power_startUp) {v_emerg_owed} (ev_emerg_owed : s.emerg.owed = v_emerg_owed)
    (hl : QueueOk s.path.queue s.path.under s.msgs.flight s.msgs.deposit s.msgs.outbound s.msgs.inbound s.msgs.triplog s.trips.deposit s.power.startUp s.emerg.owed) :
    QueueOk (State.judgeAll s).path.queue v_path_under v_msgs_flight
          (State.judgeAll s).msgs.deposit v_msgs_outbound v_msgs_inbound v_msgs_triplog v_trips_deposit v_power_startUp v_emerg_owed := by
  subst ev_path_under; subst ev_msgs_flight; subst ev_msgs_outbound; subst ev_msgs_inbound; subst ev_msgs_triplog; subst ev_trips_deposit; subst ev_power_startUp; subst ev_emerg_owed;
  unfold State.judgeAll; (repeat' split) <;> simp (maxDischargeDepth := 12) [hl]

@[simp] theorem State.assemble_queueOk (b : BufferId) (a : Assembly) {s : State} {v_path_under}
    (ev_path_under : s.path.under = v_path_under) {v_msgs_flight} (ev_msgs_flight : s.msgs.flight = v_msgs_flight) {v_msgs_outbound}
    (ev_msgs_outbound : s.msgs.outbound = v_msgs_outbound) {v_msgs_inbound} (ev_msgs_inbound : s.msgs.inbound = v_msgs_inbound)
    {v_msgs_triplog} (ev_msgs_triplog : s.msgs.triplog = v_msgs_triplog) {v_trips_deposit}
    (ev_trips_deposit : s.trips.deposit = v_trips_deposit) {v_power_startUp} (ev_power_startUp : s.power.startUp = v_power_startUp)
    {v_emerg_owed} (ev_emerg_owed : s.emerg.owed = v_emerg_owed)
    (hl : QueueOk s.path.queue s.path.under s.msgs.flight s.msgs.deposit s.msgs.outbound s.msgs.inbound s.msgs.triplog s.trips.deposit s.power.startUp s.emerg.owed) :
    QueueOk (State.assemble b a s).path.queue v_path_under v_msgs_flight
          (State.assemble b a s).msgs.deposit v_msgs_outbound v_msgs_inbound v_msgs_triplog v_trips_deposit v_power_startUp v_emerg_owed := by
  subst ev_path_under; subst ev_msgs_flight; subst ev_msgs_outbound; subst ev_msgs_inbound; subst ev_msgs_triplog; subst ev_trips_deposit; subst ev_power_startUp; subst ev_emerg_owed;
  unfold State.assemble; (repeat' split) <;> simp (maxDischargeDepth := 12) [hl]

@[simp] theorem State.truncateFor_queueOk (b : BufferId) (a : Assembly) {s : State} {v_path_under}
    (ev_path_under : s.path.under = v_path_under) {v_msgs_flight} (ev_msgs_flight : s.msgs.flight = v_msgs_flight) {v_msgs_outbound}
    (ev_msgs_outbound : s.msgs.outbound = v_msgs_outbound) {v_msgs_inbound} (ev_msgs_inbound : s.msgs.inbound = v_msgs_inbound)
    {v_msgs_triplog} (ev_msgs_triplog : s.msgs.triplog = v_msgs_triplog) {v_trips_deposit}
    (ev_trips_deposit : s.trips.deposit = v_trips_deposit) {v_power_startUp} (ev_power_startUp : s.power.startUp = v_power_startUp)
    {v_emerg_owed} (ev_emerg_owed : s.emerg.owed = v_emerg_owed)
    (hl : QueueOk s.path.queue s.path.under s.msgs.flight s.msgs.deposit s.msgs.outbound s.msgs.inbound s.msgs.triplog s.trips.deposit s.power.startUp s.emerg.owed) :
    QueueOk (State.truncateFor b a s).path.queue v_path_under v_msgs_flight
          (State.truncateFor b a s).msgs.deposit v_msgs_outbound v_msgs_inbound v_msgs_triplog v_trips_deposit v_power_startUp v_emerg_owed := by
  subst ev_path_under; subst ev_msgs_flight; subst ev_msgs_outbound; subst ev_msgs_inbound; subst ev_msgs_triplog; subst ev_trips_deposit; subst ev_power_startUp; subst ev_emerg_owed;
  unfold State.truncateFor; dsimp only; (repeat' split) <;> simp (maxDischargeDepth := 12) [hl]

@[simp] theorem State.takeText_queueOk (b : TextBody) {s : State} {v_path_under} (ev_path_under : s.path.under = v_path_under)
    {v_msgs_flight} (ev_msgs_flight : s.msgs.flight = v_msgs_flight) {v_msgs_outbound}
    (ev_msgs_outbound : s.msgs.outbound = v_msgs_outbound) {v_msgs_inbound} (ev_msgs_inbound : s.msgs.inbound = v_msgs_inbound)
    {v_msgs_triplog} (ev_msgs_triplog : s.msgs.triplog = v_msgs_triplog) {v_trips_deposit}
    (ev_trips_deposit : s.trips.deposit = v_trips_deposit) {v_power_startUp} (ev_power_startUp : s.power.startUp = v_power_startUp)
    {v_emerg_owed} (ev_emerg_owed : s.emerg.owed = v_emerg_owed)
    (hl : QueueOk s.path.queue s.path.under s.msgs.flight s.msgs.deposit s.msgs.outbound s.msgs.inbound s.msgs.triplog s.trips.deposit s.power.startUp s.emerg.owed) :
    QueueOk (State.takeText b s).path.queue v_path_under v_msgs_flight
          (State.takeText b s).msgs.deposit v_msgs_outbound v_msgs_inbound v_msgs_triplog v_trips_deposit v_power_startUp v_emerg_owed := by
  subst ev_path_under; subst ev_msgs_flight; subst ev_msgs_outbound; subst ev_msgs_inbound; subst ev_msgs_triplog; subst ev_trips_deposit; subst ev_power_startUp; subst ev_emerg_owed;
  unfold State.takeText; (repeat' split) <;> simp (maxDischargeDepth := 12) [hl]

@[simp] theorem State.interFragmentEnds_queueOk (b : BufferId) {s : State} {v_path_under} (ev_path_under : s.path.under = v_path_under)
    {v_msgs_flight} (ev_msgs_flight : s.msgs.flight = v_msgs_flight) {v_msgs_outbound}
    (ev_msgs_outbound : s.msgs.outbound = v_msgs_outbound) {v_msgs_inbound} (ev_msgs_inbound : s.msgs.inbound = v_msgs_inbound)
    {v_msgs_triplog} (ev_msgs_triplog : s.msgs.triplog = v_msgs_triplog) {v_trips_deposit}
    (ev_trips_deposit : s.trips.deposit = v_trips_deposit) {v_power_startUp} (ev_power_startUp : s.power.startUp = v_power_startUp)
    {v_emerg_owed} (ev_emerg_owed : s.emerg.owed = v_emerg_owed)
    (hl : QueueOk s.path.queue s.path.under s.msgs.flight s.msgs.deposit s.msgs.outbound s.msgs.inbound s.msgs.triplog s.trips.deposit s.power.startUp s.emerg.owed) :
    QueueOk (State.interFragmentEnds b s).path.queue v_path_under v_msgs_flight
          (State.interFragmentEnds b s).msgs.deposit v_msgs_outbound v_msgs_inbound v_msgs_triplog v_trips_deposit v_power_startUp v_emerg_owed := by
  subst ev_path_under; subst ev_msgs_flight; subst ev_msgs_outbound; subst ev_msgs_inbound; subst ev_msgs_triplog; subst ev_trips_deposit; subst ev_power_startUp; subst ev_emerg_owed;
  unfold State.interFragmentEnds; (repeat' split) <;> simp (maxDischargeDepth := 12) [hl]

@[simp] theorem State.ringResult_queueOk (i : RingId) (r : Result) {s : State} {v_path_queue} (ev_path_queue : s.path.queue = v_path_queue)
    {v_path_under} (ev_path_under : s.path.under = v_path_under) {v_msgs_flight} (ev_msgs_flight : s.msgs.flight = v_msgs_flight)
    {v_msgs_deposit} (ev_msgs_deposit : s.msgs.deposit = v_msgs_deposit) {v_trips_deposit}
    (ev_trips_deposit : s.trips.deposit = v_trips_deposit) {v_power_startUp} (ev_power_startUp : s.power.startUp = v_power_startUp)
    {v_emerg_owed} (ev_emerg_owed : s.emerg.owed = v_emerg_owed)
    (hl : QueueOk s.path.queue s.path.under s.msgs.flight s.msgs.deposit s.msgs.outbound s.msgs.inbound s.msgs.triplog s.trips.deposit s.power.startUp s.emerg.owed) :
    QueueOk v_path_queue v_path_under v_msgs_flight v_msgs_deposit (State.ringResult i r s).msgs.outbound
          (State.ringResult i r s).msgs.inbound (State.ringResult i r s).msgs.triplog v_trips_deposit v_power_startUp v_emerg_owed := by
  subst ev_path_queue; subst ev_path_under; subst ev_msgs_flight; subst ev_msgs_deposit; subst ev_trips_deposit; subst ev_power_startUp; subst ev_emerg_owed;
  unfold State.ringResult; (repeat' split) <;> simp (maxDischargeDepth := 12) [hl]

@[simp] theorem State.ringNotValid_queueOk (i : RingId) (w : Word) {s : State} {v_path_queue} (ev_path_queue : s.path.queue = v_path_queue)
    {v_path_under} (ev_path_under : s.path.under = v_path_under) {v_msgs_flight} (ev_msgs_flight : s.msgs.flight = v_msgs_flight)
    {v_msgs_deposit} (ev_msgs_deposit : s.msgs.deposit = v_msgs_deposit) {v_trips_deposit}
    (ev_trips_deposit : s.trips.deposit = v_trips_deposit) {v_power_startUp} (ev_power_startUp : s.power.startUp = v_power_startUp)
    {v_emerg_owed} (ev_emerg_owed : s.emerg.owed = v_emerg_owed)
    (hl : QueueOk s.path.queue s.path.under s.msgs.flight s.msgs.deposit s.msgs.outbound s.msgs.inbound s.msgs.triplog s.trips.deposit s.power.startUp s.emerg.owed) :
    QueueOk v_path_queue v_path_under v_msgs_flight v_msgs_deposit (State.ringNotValid i w s).msgs.outbound
          (State.ringNotValid i w s).msgs.inbound (State.ringNotValid i w s).msgs.triplog v_trips_deposit v_power_startUp v_emerg_owed := by
  subst ev_path_queue; subst ev_path_under; subst ev_msgs_flight; subst ev_msgs_deposit; subst ev_trips_deposit; subst ev_power_startUp; subst ev_emerg_owed;
  unfold State.ringNotValid; (repeat' split) <;> simp (maxDischargeDepth := 12) [hl]

@[simp] theorem State.ringOpen_queueOk (i : RingId) (w : Word) {s : State} {v_path_under} (ev_path_under : s.path.under = v_path_under)
    {v_msgs_flight} (ev_msgs_flight : s.msgs.flight = v_msgs_flight) {v_msgs_deposit} (ev_msgs_deposit : s.msgs.deposit = v_msgs_deposit)
    {v_trips_deposit} (ev_trips_deposit : s.trips.deposit = v_trips_deposit) {v_power_startUp}
    (ev_power_startUp : s.power.startUp = v_power_startUp) {v_emerg_owed} (ev_emerg_owed : s.emerg.owed = v_emerg_owed)
    (hl : QueueOk s.path.queue s.path.under s.msgs.flight s.msgs.deposit s.msgs.outbound s.msgs.inbound s.msgs.triplog s.trips.deposit s.power.startUp s.emerg.owed) (hr : s.power.startUp = .ready) :
    QueueOk (State.ringOpen i w s).path.queue v_path_under v_msgs_flight v_msgs_deposit (State.ringOpen i w s).msgs.outbound
          (State.ringOpen i w s).msgs.inbound (State.ringOpen i w s).msgs.triplog v_trips_deposit v_power_startUp v_emerg_owed := by
  subst ev_path_under; subst ev_msgs_flight; subst ev_msgs_deposit; subst ev_trips_deposit; subst ev_power_startUp; subst ev_emerg_owed;
  unfold State.ringOpen; dsimp only; split
  · rename_i h
    simp only [Bool.and_eq_true, Option.isNone_iff_eq_none] at h
    have hn := h.2
    obtain ⟨h1, h2, h3, h4, h5, h6, h7, h8, h9, h10, h11, h12⟩ := hl
    have hc : (ringOf s.msgs.outbound s.msgs.inbound s.msgs.triplog i).check = none := by cases i <;> exact hn
    have h0 : ∀ r : Ring, r.check ≠ none → QueueOk s.path.queue s.path.under s.msgs.flight s.msgs.deposit (s.msgs.setRing i r).outbound
        (s.msgs.setRing i r).inbound (s.msgs.setRing i r).triplog s.trips.deposit s.power.startUp s.emerg.owed := by
      intro r hr
      refine ⟨h1, h2, h3, h4, h5, h6, h7, ?_, h9, h10, h11, h12⟩
      intro k hk
      have := h8 k hk
      cases i <;> cases k <;> simp_all [MessageEngine.setRing, ringOf]
    have := (h0 { (s.msgs.ring i) with check := some (s.msgs.ring i).copies, result := ⟨w, .pending⟩ } (by simp)).push (.headerRead i)
      s.path.buffer.length
      (fun k => h8 i (Or.inl k) hc) (by simp) (by simp) (by simp) (by simp) (by simp)
      (by rintro r ⟨⟩; exact ⟨by cases i <;> simp [MessageEngine.setRing, ringOf], hr⟩) (fun _ k => h8 i (Or.inr k) hc) (by simp) (by simp)
    simpa [State.requestRead, MemoryPath.requestRead, State.setRing] using this
  · simp [hl]

@[simp] theorem State.closeRing_queueOk (i : RingId) {s : State} {v_path_queue} (ev_path_queue : s.path.queue = v_path_queue)
    {v_path_under} (ev_path_under : s.path.under = v_path_under) {v_msgs_flight} (ev_msgs_flight : s.msgs.flight = v_msgs_flight)
    {v_msgs_deposit} (ev_msgs_deposit : s.msgs.deposit = v_msgs_deposit) {v_trips_deposit}
    (ev_trips_deposit : s.trips.deposit = v_trips_deposit) {v_power_startUp} (ev_power_startUp : s.power.startUp = v_power_startUp)
    {v_emerg_owed} (ev_emerg_owed : s.emerg.owed = v_emerg_owed)
    (hl : QueueOk s.path.queue s.path.under s.msgs.flight s.msgs.deposit s.msgs.outbound s.msgs.inbound s.msgs.triplog s.trips.deposit s.power.startUp s.emerg.owed) :
    QueueOk v_path_queue v_path_under v_msgs_flight v_msgs_deposit (State.closeRing i s).msgs.outbound (State.closeRing i s).msgs.inbound
          (State.closeRing i s).msgs.triplog v_trips_deposit v_power_startUp v_emerg_owed := by
  subst ev_path_queue; subst ev_path_under; subst ev_msgs_flight; subst ev_msgs_deposit; subst ev_trips_deposit; subst ev_power_startUp; subst ev_emerg_owed;
  cases i
  · exact State.setRing_queueOk _ _ rfl rfl rfl rfl rfl rfl rfl hl rfl
  · have h0 := State.setRing_queueOk .inbound { s.msgs.inbound with state := .closed } (s := s) rfl rfl rfl rfl rfl rfl rfl hl rfl
    unfold State.closeRing; dsimp only; split <;> simp [h0]
  · exact State.setRing_queueOk _ _ rfl rfl rfl rfl rfl rfl rfl hl rfl

@[simp] theorem State.ringClose_queueOk (i : RingId) (w : Word) {s : State} {v_path_queue} (ev_path_queue : s.path.queue = v_path_queue)
    {v_path_under} (ev_path_under : s.path.under = v_path_under) {v_msgs_flight} (ev_msgs_flight : s.msgs.flight = v_msgs_flight)
    {v_msgs_deposit} (ev_msgs_deposit : s.msgs.deposit = v_msgs_deposit) {v_trips_deposit}
    (ev_trips_deposit : s.trips.deposit = v_trips_deposit) {v_power_startUp} (ev_power_startUp : s.power.startUp = v_power_startUp)
    {v_emerg_owed} (ev_emerg_owed : s.emerg.owed = v_emerg_owed)
    (hl : QueueOk s.path.queue s.path.under s.msgs.flight s.msgs.deposit s.msgs.outbound s.msgs.inbound s.msgs.triplog s.trips.deposit s.power.startUp s.emerg.owed) :
    QueueOk v_path_queue v_path_under v_msgs_flight v_msgs_deposit (State.ringClose i w s).msgs.outbound
          (State.ringClose i w s).msgs.inbound (State.ringClose i w s).msgs.triplog v_trips_deposit v_power_startUp v_emerg_owed := by
  subst ev_path_queue; subst ev_path_under; subst ev_msgs_flight; subst ev_msgs_deposit; subst ev_trips_deposit; subst ev_power_startUp; subst ev_emerg_owed;
  unfold State.ringClose; (repeat' split) <;> simp (maxDischargeDepth := 12) [hl]

@[simp] theorem State.ringControl_queueOk (i : RingId) (l : Lanes) (d : Word) {s : State} {v_path_under}
    (ev_path_under : s.path.under = v_path_under) {v_msgs_flight} (ev_msgs_flight : s.msgs.flight = v_msgs_flight) {v_msgs_deposit}
    (ev_msgs_deposit : s.msgs.deposit = v_msgs_deposit) {v_trips_deposit} (ev_trips_deposit : s.trips.deposit = v_trips_deposit)
    {v_power_startUp} (ev_power_startUp : s.power.startUp = v_power_startUp) {v_emerg_owed} (ev_emerg_owed : s.emerg.owed = v_emerg_owed)
    (hl : QueueOk s.path.queue s.path.under s.msgs.flight s.msgs.deposit s.msgs.outbound s.msgs.inbound s.msgs.triplog s.trips.deposit s.power.startUp s.emerg.owed) (hr : s.power.startUp = .ready) :
    QueueOk (State.ringControl i l d s).path.queue v_path_under v_msgs_flight v_msgs_deposit (State.ringControl i l d s).msgs.outbound
          (State.ringControl i l d s).msgs.inbound
          (State.ringControl i l d s).msgs.triplog v_trips_deposit v_power_startUp v_emerg_owed := by
  subst ev_path_under; subst ev_msgs_flight; subst ev_msgs_deposit; subst ev_trips_deposit; subst ev_power_startUp; subst ev_emerg_owed;
  have h0 := State.setRing_queueOk i { s.msgs.ring i with controlCopy := laneCombine l (s.msgs.ring i).controlCopy d }
    (s := s) rfl rfl rfl rfl rfl rfl rfl hl rfl
  dsimp only at h0
  unfold State.ringControl; dsimp only; split
  · have := State.ringOpen_queueOk i (laneCombine l (s.msgs.ring i).controlCopy d) (s := s.setRing i { s.msgs.ring i with controlCopy := laneCombine l (s.msgs.ring i).controlCopy d }) rfl rfl rfl rfl rfl rfl (by simpa using h0) hr
    simpa using this
  · split
    · simp [h0]
    · have := State.setRing_queueOk i { (State.setRing i { s.msgs.ring i with controlCopy := laneCombine l (s.msgs.ring i).controlCopy d } s).msgs.ring i with result := ⟨laneCombine l (s.msgs.ring i).controlCopy d, .notValid⟩ } rfl rfl rfl rfl rfl rfl rfl (by simpa using h0) rfl
      simpa [State.ringNotValid, State.ringResult] using this

@[simp] theorem State.descriptorWrite_queueOk (i : RingId) (p : DescriptorWord) (l : Lanes) (d : Word) {s : State} {v_path_queue}
    (ev_path_queue : s.path.queue = v_path_queue) {v_path_under} (ev_path_under : s.path.under = v_path_under) {v_msgs_flight}
    (ev_msgs_flight : s.msgs.flight = v_msgs_flight) {v_msgs_deposit} (ev_msgs_deposit : s.msgs.deposit = v_msgs_deposit) {v_trips_deposit}
    (ev_trips_deposit : s.trips.deposit = v_trips_deposit) {v_power_startUp} (ev_power_startUp : s.power.startUp = v_power_startUp)
    {v_emerg_owed} (ev_emerg_owed : s.emerg.owed = v_emerg_owed)
    (hl : QueueOk s.path.queue s.path.under s.msgs.flight s.msgs.deposit s.msgs.outbound s.msgs.inbound s.msgs.triplog s.trips.deposit s.power.startUp s.emerg.owed) :
    QueueOk v_path_queue v_path_under v_msgs_flight v_msgs_deposit (State.descriptorWrite i p l d s).msgs.outbound
          (State.descriptorWrite i p l d s).msgs.inbound
          (State.descriptorWrite i p l d s).msgs.triplog v_trips_deposit v_power_startUp v_emerg_owed := by
  subst ev_path_queue; subst ev_path_under; subst ev_msgs_flight; subst ev_msgs_deposit; subst ev_trips_deposit; subst ev_power_startUp; subst ev_emerg_owed;
  unfold State.descriptorWrite; (repeat' split) <;> simp (maxDischargeDepth := 12) [hl]

@[simp] theorem State.pointerMoved_queueOk (i : RingId) {s : State} {v_path_under} (ev_path_under : s.path.under = v_path_under)
    {v_msgs_deposit} (ev_msgs_deposit : s.msgs.deposit = v_msgs_deposit) {v_msgs_outbound}
    (ev_msgs_outbound : s.msgs.outbound = v_msgs_outbound) {v_msgs_inbound} (ev_msgs_inbound : s.msgs.inbound = v_msgs_inbound)
    {v_msgs_triplog} (ev_msgs_triplog : s.msgs.triplog = v_msgs_triplog) {v_power_startUp}
    (ev_power_startUp : s.power.startUp = v_power_startUp) {v_emerg_owed} (ev_emerg_owed : s.emerg.owed = v_emerg_owed)
    (hl : QueueOk s.path.queue s.path.under s.msgs.flight s.msgs.deposit s.msgs.outbound s.msgs.inbound s.msgs.triplog s.trips.deposit s.power.startUp s.emerg.owed) :
    QueueOk (State.pointerMoved i s).path.queue v_path_under
          (State.pointerMoved i s).msgs.flight v_msgs_deposit v_msgs_outbound v_msgs_inbound v_msgs_triplog
          (State.pointerMoved i s).trips.deposit v_power_startUp v_emerg_owed := by
  subst ev_path_under; subst ev_msgs_deposit; subst ev_msgs_outbound; subst ev_msgs_inbound; subst ev_msgs_triplog; subst ev_power_startUp; subst ev_emerg_owed;
  unfold State.pointerMoved; (repeat' split) <;> simp (maxDischargeDepth := 12) [hl]

@[simp] theorem State.pointerWrite_queueOk (i : RingId) (l : Lanes) (d : Word) {s : State} {v_path_under}
    (ev_path_under : s.path.under = v_path_under) {v_msgs_deposit} (ev_msgs_deposit : s.msgs.deposit = v_msgs_deposit) {v_power_startUp}
    (ev_power_startUp : s.power.startUp = v_power_startUp) {v_emerg_owed} (ev_emerg_owed : s.emerg.owed = v_emerg_owed)
    (hl : QueueOk s.path.queue s.path.under s.msgs.flight s.msgs.deposit s.msgs.outbound s.msgs.inbound s.msgs.triplog s.trips.deposit s.power.startUp s.emerg.owed) :
    QueueOk (State.pointerWrite i l d s).path.queue v_path_under (State.pointerWrite i l d s).msgs.flight v_msgs_deposit
          (State.pointerWrite i l d s).msgs.outbound (State.pointerWrite i l d s).msgs.inbound (State.pointerWrite i l d s).msgs.triplog
          (State.pointerWrite i l d s).trips.deposit v_power_startUp v_emerg_owed := by
  subst ev_path_under; subst ev_msgs_deposit; subst ev_power_startUp; subst ev_emerg_owed;
  unfold State.pointerWrite; dsimp only; (repeat' split) <;> simp (maxDischargeDepth := 12) [hl]

@[simp] theorem State.exitJoined_queueOk {s : State} {v_path_queue} (ev_path_queue : s.path.queue = v_path_queue) {v_path_under}
    (ev_path_under : s.path.under = v_path_under) {v_msgs_deposit} (ev_msgs_deposit : s.msgs.deposit = v_msgs_deposit) {v_msgs_outbound}
    (ev_msgs_outbound : s.msgs.outbound = v_msgs_outbound) {v_msgs_inbound} (ev_msgs_inbound : s.msgs.inbound = v_msgs_inbound)
    {v_msgs_triplog} (ev_msgs_triplog : s.msgs.triplog = v_msgs_triplog) {v_trips_deposit}
    (ev_trips_deposit : s.trips.deposit = v_trips_deposit) {v_power_startUp} (ev_power_startUp : s.power.startUp = v_power_startUp)
    {v_emerg_owed} (ev_emerg_owed : s.emerg.owed = v_emerg_owed)
    (hl : QueueOk s.path.queue s.path.under s.msgs.flight s.msgs.deposit s.msgs.outbound s.msgs.inbound s.msgs.triplog s.trips.deposit s.power.startUp s.emerg.owed) :
    QueueOk v_path_queue v_path_under
          (State.exitJoined s).msgs.flight v_msgs_deposit v_msgs_outbound v_msgs_inbound v_msgs_triplog v_trips_deposit v_power_startUp v_emerg_owed := by
  subst ev_path_queue; subst ev_path_under; subst ev_msgs_deposit; subst ev_msgs_outbound; subst ev_msgs_inbound; subst ev_msgs_triplog; subst ev_trips_deposit; subst ev_power_startUp; subst ev_emerg_owed;
  unfold State.exitJoined; (repeat' split) <;> simp (maxDischargeDepth := 12) [hl]

@[simp] theorem State.exitLink_queueOk {s : State} {v_path_queue} (ev_path_queue : s.path.queue = v_path_queue) {v_path_under}
    (ev_path_under : s.path.under = v_path_under) {v_msgs_deposit} (ev_msgs_deposit : s.msgs.deposit = v_msgs_deposit) {v_msgs_outbound}
    (ev_msgs_outbound : s.msgs.outbound = v_msgs_outbound) {v_msgs_inbound} (ev_msgs_inbound : s.msgs.inbound = v_msgs_inbound)
    {v_msgs_triplog} (ev_msgs_triplog : s.msgs.triplog = v_msgs_triplog) {v_trips_deposit}
    (ev_trips_deposit : s.trips.deposit = v_trips_deposit) {v_power_startUp} (ev_power_startUp : s.power.startUp = v_power_startUp)
    {v_emerg_owed} (ev_emerg_owed : s.emerg.owed = v_emerg_owed)
    (hl : QueueOk s.path.queue s.path.under s.msgs.flight s.msgs.deposit s.msgs.outbound s.msgs.inbound s.msgs.triplog s.trips.deposit s.power.startUp s.emerg.owed) :
    QueueOk v_path_queue v_path_under
          (State.exitLink s).msgs.flight v_msgs_deposit v_msgs_outbound v_msgs_inbound v_msgs_triplog v_trips_deposit v_power_startUp v_emerg_owed := by
  subst ev_path_queue; subst ev_path_under; subst ev_msgs_deposit; subst ev_msgs_outbound; subst ev_msgs_inbound; subst ev_msgs_triplog; subst ev_trips_deposit; subst ev_power_startUp; subst ev_emerg_owed;
  unfold State.exitLink; (repeat' split) <;> simp (maxDischargeDepth := 12) [hl]

@[simp] theorem State.enterQuiet_queueOk (b : Bool) {s : State} {v_path_queue} (ev_path_queue : s.path.queue = v_path_queue) {v_path_under}
    (ev_path_under : s.path.under = v_path_under) {v_msgs_deposit} (ev_msgs_deposit : s.msgs.deposit = v_msgs_deposit) {v_msgs_outbound}
    (ev_msgs_outbound : s.msgs.outbound = v_msgs_outbound) {v_msgs_inbound} (ev_msgs_inbound : s.msgs.inbound = v_msgs_inbound)
    {v_msgs_triplog} (ev_msgs_triplog : s.msgs.triplog = v_msgs_triplog) {v_trips_deposit}
    (ev_trips_deposit : s.trips.deposit = v_trips_deposit) {v_power_startUp} (ev_power_startUp : s.power.startUp = v_power_startUp)
    {v_emerg_owed} (ev_emerg_owed : s.emerg.owed = v_emerg_owed)
    (hl : QueueOk s.path.queue s.path.under s.msgs.flight s.msgs.deposit s.msgs.outbound s.msgs.inbound s.msgs.triplog s.trips.deposit s.power.startUp s.emerg.owed) :
    QueueOk v_path_queue v_path_under
          (State.enterQuiet b s).msgs.flight v_msgs_deposit v_msgs_outbound v_msgs_inbound v_msgs_triplog v_trips_deposit v_power_startUp v_emerg_owed := by
  subst ev_path_queue; subst ev_path_under; subst ev_msgs_deposit; subst ev_msgs_outbound; subst ev_msgs_inbound; subst ev_msgs_triplog; subst ev_trips_deposit; subst ev_power_startUp; subst ev_emerg_owed;
  unfold State.enterQuiet; dsimp only; (repeat' split) <;> simp (maxDischargeDepth := 12) [hl]

@[simp] theorem State.enterOff_queueOk {s : State} {v_path_queue} (ev_path_queue : s.path.queue = v_path_queue) {v_path_under}
    (ev_path_under : s.path.under = v_path_under) {v_msgs_deposit} (ev_msgs_deposit : s.msgs.deposit = v_msgs_deposit) {v_msgs_outbound}
    (ev_msgs_outbound : s.msgs.outbound = v_msgs_outbound) {v_msgs_inbound} (ev_msgs_inbound : s.msgs.inbound = v_msgs_inbound)
    {v_msgs_triplog} (ev_msgs_triplog : s.msgs.triplog = v_msgs_triplog) {v_trips_deposit}
    (ev_trips_deposit : s.trips.deposit = v_trips_deposit) {v_power_startUp} (ev_power_startUp : s.power.startUp = v_power_startUp)
    {v_emerg_owed} (ev_emerg_owed : s.emerg.owed = v_emerg_owed)
    (hl : QueueOk s.path.queue s.path.under s.msgs.flight s.msgs.deposit s.msgs.outbound s.msgs.inbound s.msgs.triplog s.trips.deposit s.power.startUp s.emerg.owed) :
    QueueOk v_path_queue v_path_under
          (State.enterOff s).msgs.flight v_msgs_deposit v_msgs_outbound v_msgs_inbound v_msgs_triplog v_trips_deposit v_power_startUp v_emerg_owed := by
  subst ev_path_queue; subst ev_path_under; subst ev_msgs_deposit; subst ev_msgs_outbound; subst ev_msgs_inbound; subst ev_msgs_triplog; subst ev_trips_deposit; subst ev_power_startUp; subst ev_emerg_owed;
  unfold State.enterOff; (repeat' split) <;> simp (maxDischargeDepth := 12) [hl]

@[simp] theorem State.endPass_queueOk {s : State} {v_path_queue} (ev_path_queue : s.path.queue = v_path_queue) {v_path_under}
    (ev_path_under : s.path.under = v_path_under) {v_msgs_deposit} (ev_msgs_deposit : s.msgs.deposit = v_msgs_deposit) {v_msgs_outbound}
    (ev_msgs_outbound : s.msgs.outbound = v_msgs_outbound) {v_msgs_inbound} (ev_msgs_inbound : s.msgs.inbound = v_msgs_inbound)
    {v_msgs_triplog} (ev_msgs_triplog : s.msgs.triplog = v_msgs_triplog) {v_trips_deposit}
    (ev_trips_deposit : s.trips.deposit = v_trips_deposit) {v_power_startUp} (ev_power_startUp : s.power.startUp = v_power_startUp)
    {v_emerg_owed} (ev_emerg_owed : s.emerg.owed = v_emerg_owed)
    (hl : QueueOk s.path.queue s.path.under s.msgs.flight s.msgs.deposit s.msgs.outbound s.msgs.inbound s.msgs.triplog s.trips.deposit s.power.startUp s.emerg.owed) :
    QueueOk v_path_queue v_path_under
          (State.endPass s).msgs.flight v_msgs_deposit v_msgs_outbound v_msgs_inbound v_msgs_triplog v_trips_deposit v_power_startUp v_emerg_owed := by
  subst ev_path_queue; subst ev_path_under; subst ev_msgs_deposit; subst ev_msgs_outbound; subst ev_msgs_inbound; subst ev_msgs_triplog; subst ev_trips_deposit; subst ev_power_startUp; subst ev_emerg_owed;
  unfold State.endPass; (repeat' split) <;> simp (maxDischargeDepth := 12) [hl]

@[simp] theorem State.candidateFails_queueOk {s : State} {v_path_queue} (ev_path_queue : s.path.queue = v_path_queue) {v_path_under}
    (ev_path_under : s.path.under = v_path_under) {v_msgs_deposit} (ev_msgs_deposit : s.msgs.deposit = v_msgs_deposit) {v_msgs_outbound}
    (ev_msgs_outbound : s.msgs.outbound = v_msgs_outbound) {v_msgs_inbound} (ev_msgs_inbound : s.msgs.inbound = v_msgs_inbound)
    {v_msgs_triplog} (ev_msgs_triplog : s.msgs.triplog = v_msgs_triplog) {v_trips_deposit}
    (ev_trips_deposit : s.trips.deposit = v_trips_deposit) {v_power_startUp} (ev_power_startUp : s.power.startUp = v_power_startUp)
    {v_emerg_owed} (ev_emerg_owed : s.emerg.owed = v_emerg_owed)
    (hl : QueueOk s.path.queue s.path.under s.msgs.flight s.msgs.deposit s.msgs.outbound s.msgs.inbound s.msgs.triplog s.trips.deposit s.power.startUp s.emerg.owed) :
    QueueOk v_path_queue v_path_under
          (State.candidateFails s).msgs.flight v_msgs_deposit v_msgs_outbound v_msgs_inbound v_msgs_triplog v_trips_deposit v_power_startUp v_emerg_owed := by
  subst ev_path_queue; subst ev_path_under; subst ev_msgs_deposit; subst ev_msgs_outbound; subst ev_msgs_inbound; subst ev_msgs_triplog; subst ev_trips_deposit; subst ev_power_startUp; subst ev_emerg_owed;
  unfold State.candidateFails; dsimp only; (repeat' split) <;> simp (maxDischargeDepth := 12) [hl]

@[simp] theorem State.nextChannel_queueOk {s : State} {v_path_queue} (ev_path_queue : s.path.queue = v_path_queue) {v_path_under}
    (ev_path_under : s.path.under = v_path_under) {v_msgs_deposit} (ev_msgs_deposit : s.msgs.deposit = v_msgs_deposit) {v_msgs_outbound}
    (ev_msgs_outbound : s.msgs.outbound = v_msgs_outbound) {v_msgs_inbound} (ev_msgs_inbound : s.msgs.inbound = v_msgs_inbound)
    {v_msgs_triplog} (ev_msgs_triplog : s.msgs.triplog = v_msgs_triplog) {v_trips_deposit}
    (ev_trips_deposit : s.trips.deposit = v_trips_deposit) {v_power_startUp} (ev_power_startUp : s.power.startUp = v_power_startUp)
    {v_emerg_owed} (ev_emerg_owed : s.emerg.owed = v_emerg_owed)
    (hl : QueueOk s.path.queue s.path.under s.msgs.flight s.msgs.deposit s.msgs.outbound s.msgs.inbound s.msgs.triplog s.trips.deposit s.power.startUp s.emerg.owed) :
    QueueOk v_path_queue v_path_under
          (State.nextChannel s).msgs.flight v_msgs_deposit v_msgs_outbound v_msgs_inbound v_msgs_triplog v_trips_deposit v_power_startUp v_emerg_owed := by
  subst ev_path_queue; subst ev_path_under; subst ev_msgs_deposit; subst ev_msgs_outbound; subst ev_msgs_inbound; subst ev_msgs_triplog; subst ev_trips_deposit; subst ev_power_startUp; subst ev_emerg_owed;
  unfold State.nextChannel; (repeat' split) <;> simp (maxDischargeDepth := 12) [hl]

@[simp] theorem State.huntBeacon_queueOk (g : Bool) (n : Word) (a : Byte) {s : State} {v_path_queue}
    (ev_path_queue : s.path.queue = v_path_queue) {v_path_under} (ev_path_under : s.path.under = v_path_under) {v_msgs_deposit}
    (ev_msgs_deposit : s.msgs.deposit = v_msgs_deposit) {v_msgs_outbound} (ev_msgs_outbound : s.msgs.outbound = v_msgs_outbound)
    {v_msgs_inbound} (ev_msgs_inbound : s.msgs.inbound = v_msgs_inbound) {v_msgs_triplog}
    (ev_msgs_triplog : s.msgs.triplog = v_msgs_triplog) {v_trips_deposit} (ev_trips_deposit : s.trips.deposit = v_trips_deposit)
    {v_power_startUp} (ev_power_startUp : s.power.startUp = v_power_startUp) {v_emerg_owed} (ev_emerg_owed : s.emerg.owed = v_emerg_owed)
    (hl : QueueOk s.path.queue s.path.under s.msgs.flight s.msgs.deposit s.msgs.outbound s.msgs.inbound s.msgs.triplog s.trips.deposit s.power.startUp s.emerg.owed) :
    QueueOk v_path_queue v_path_under
          (State.huntBeacon g n a s).msgs.flight v_msgs_deposit v_msgs_outbound v_msgs_inbound v_msgs_triplog v_trips_deposit v_power_startUp v_emerg_owed := by
  subst ev_path_queue; subst ev_path_under; subst ev_msgs_deposit; subst ev_msgs_outbound; subst ev_msgs_inbound; subst ev_msgs_triplog; subst ev_trips_deposit; subst ev_power_startUp; subst ev_emerg_owed;
  unfold State.huntBeacon; dsimp only; (repeat' split) <;> simp (maxDischargeDepth := 12) [hl]

@[simp] theorem State.joinFails_queueOk {s : State} {v_path_queue} (ev_path_queue : s.path.queue = v_path_queue) {v_path_under}
    (ev_path_under : s.path.under = v_path_under) {v_msgs_deposit} (ev_msgs_deposit : s.msgs.deposit = v_msgs_deposit) {v_msgs_outbound}
    (ev_msgs_outbound : s.msgs.outbound = v_msgs_outbound) {v_msgs_inbound} (ev_msgs_inbound : s.msgs.inbound = v_msgs_inbound)
    {v_msgs_triplog} (ev_msgs_triplog : s.msgs.triplog = v_msgs_triplog) {v_trips_deposit}
    (ev_trips_deposit : s.trips.deposit = v_trips_deposit) {v_power_startUp} (ev_power_startUp : s.power.startUp = v_power_startUp)
    {v_emerg_owed} (ev_emerg_owed : s.emerg.owed = v_emerg_owed)
    (hl : QueueOk s.path.queue s.path.under s.msgs.flight s.msgs.deposit s.msgs.outbound s.msgs.inbound s.msgs.triplog s.trips.deposit s.power.startUp s.emerg.owed) :
    QueueOk v_path_queue v_path_under
          (State.joinFails s).msgs.flight v_msgs_deposit v_msgs_outbound v_msgs_inbound v_msgs_triplog v_trips_deposit v_power_startUp v_emerg_owed := by
  subst ev_path_queue; subst ev_path_under; subst ev_msgs_deposit; subst ev_msgs_outbound; subst ev_msgs_inbound; subst ev_msgs_triplog; subst ev_trips_deposit; subst ev_power_startUp; subst ev_emerg_owed;
  unfold State.joinFails; (repeat' split) <;> simp (maxDischargeDepth := 12) [hl]

@[simp] theorem State.contenderFails_queueOk (c : Contender) {s : State} {v_path_queue} (ev_path_queue : s.path.queue = v_path_queue)
    {v_path_under} (ev_path_under : s.path.under = v_path_under) {v_msgs_deposit} (ev_msgs_deposit : s.msgs.deposit = v_msgs_deposit)
    {v_msgs_outbound} (ev_msgs_outbound : s.msgs.outbound = v_msgs_outbound) {v_msgs_inbound}
    (ev_msgs_inbound : s.msgs.inbound = v_msgs_inbound) {v_msgs_triplog} (ev_msgs_triplog : s.msgs.triplog = v_msgs_triplog)
    {v_trips_deposit} (ev_trips_deposit : s.trips.deposit = v_trips_deposit) {v_power_startUp}
    (ev_power_startUp : s.power.startUp = v_power_startUp) {v_emerg_owed} (ev_emerg_owed : s.emerg.owed = v_emerg_owed)
    (hl : QueueOk s.path.queue s.path.under s.msgs.flight s.msgs.deposit s.msgs.outbound s.msgs.inbound s.msgs.triplog s.trips.deposit s.power.startUp s.emerg.owed) :
    QueueOk v_path_queue v_path_under
          (State.contenderFails c s).msgs.flight v_msgs_deposit v_msgs_outbound v_msgs_inbound v_msgs_triplog v_trips_deposit v_power_startUp v_emerg_owed := by
  subst ev_path_queue; subst ev_path_under; subst ev_msgs_deposit; subst ev_msgs_outbound; subst ev_msgs_inbound; subst ev_msgs_triplog; subst ev_trips_deposit; subst ev_power_startUp; subst ev_emerg_owed;
  unfold State.contenderFails; (repeat' split) <;> simp (maxDischargeDepth := 12) [hl]

@[simp] theorem State.contentionOutcome_queueOk (b : Bool) {s : State} {v_path_queue} (ev_path_queue : s.path.queue = v_path_queue)
    {v_path_under} (ev_path_under : s.path.under = v_path_under) {v_msgs_deposit} (ev_msgs_deposit : s.msgs.deposit = v_msgs_deposit)
    {v_msgs_outbound} (ev_msgs_outbound : s.msgs.outbound = v_msgs_outbound) {v_msgs_inbound}
    (ev_msgs_inbound : s.msgs.inbound = v_msgs_inbound) {v_msgs_triplog} (ev_msgs_triplog : s.msgs.triplog = v_msgs_triplog)
    {v_trips_deposit} (ev_trips_deposit : s.trips.deposit = v_trips_deposit) {v_power_startUp}
    (ev_power_startUp : s.power.startUp = v_power_startUp) {v_emerg_owed} (ev_emerg_owed : s.emerg.owed = v_emerg_owed)
    (hl : QueueOk s.path.queue s.path.under s.msgs.flight s.msgs.deposit s.msgs.outbound s.msgs.inbound s.msgs.triplog s.trips.deposit s.power.startUp s.emerg.owed) :
    QueueOk v_path_queue v_path_under
          (State.contentionOutcome b s).msgs.flight v_msgs_deposit v_msgs_outbound v_msgs_inbound v_msgs_triplog v_trips_deposit v_power_startUp v_emerg_owed := by
  subst ev_path_queue; subst ev_path_under; subst ev_msgs_deposit; subst ev_msgs_outbound; subst ev_msgs_inbound; subst ev_msgs_triplog; subst ev_trips_deposit; subst ev_power_startUp; subst ev_emerg_owed;
  unfold State.contentionOutcome; (repeat' split) <;> simp (maxDischargeDepth := 12) [hl]

@[simp] theorem State.missBeacon_queueOk {s : State} {v_path_queue} (ev_path_queue : s.path.queue = v_path_queue) {v_path_under}
    (ev_path_under : s.path.under = v_path_under) {v_msgs_deposit} (ev_msgs_deposit : s.msgs.deposit = v_msgs_deposit) {v_msgs_outbound}
    (ev_msgs_outbound : s.msgs.outbound = v_msgs_outbound) {v_msgs_inbound} (ev_msgs_inbound : s.msgs.inbound = v_msgs_inbound)
    {v_msgs_triplog} (ev_msgs_triplog : s.msgs.triplog = v_msgs_triplog) {v_trips_deposit}
    (ev_trips_deposit : s.trips.deposit = v_trips_deposit) {v_power_startUp} (ev_power_startUp : s.power.startUp = v_power_startUp)
    {v_emerg_owed} (ev_emerg_owed : s.emerg.owed = v_emerg_owed)
    (hl : QueueOk s.path.queue s.path.under s.msgs.flight s.msgs.deposit s.msgs.outbound s.msgs.inbound s.msgs.triplog s.trips.deposit s.power.startUp s.emerg.owed) :
    QueueOk v_path_queue v_path_under
          (State.missBeacon s).msgs.flight v_msgs_deposit v_msgs_outbound v_msgs_inbound v_msgs_triplog v_trips_deposit v_power_startUp v_emerg_owed := by
  subst ev_path_queue; subst ev_path_under; subst ev_msgs_deposit; subst ev_msgs_outbound; subst ev_msgs_inbound; subst ev_msgs_triplog; subst ev_trips_deposit; subst ev_power_startUp; subst ev_emerg_owed;
  unfold State.missBeacon; dsimp only; (repeat' split) <;> simp (maxDischargeDepth := 12) [hl]

@[simp] theorem State.closeWindow_queueOk {s : State} {v_path_queue} (ev_path_queue : s.path.queue = v_path_queue) {v_path_under}
    (ev_path_under : s.path.under = v_path_under) {v_msgs_deposit} (ev_msgs_deposit : s.msgs.deposit = v_msgs_deposit) {v_msgs_outbound}
    (ev_msgs_outbound : s.msgs.outbound = v_msgs_outbound) {v_msgs_inbound} (ev_msgs_inbound : s.msgs.inbound = v_msgs_inbound)
    {v_msgs_triplog} (ev_msgs_triplog : s.msgs.triplog = v_msgs_triplog) {v_trips_deposit}
    (ev_trips_deposit : s.trips.deposit = v_trips_deposit) {v_power_startUp} (ev_power_startUp : s.power.startUp = v_power_startUp)
    {v_emerg_owed} (ev_emerg_owed : s.emerg.owed = v_emerg_owed)
    (hl : QueueOk s.path.queue s.path.under s.msgs.flight s.msgs.deposit s.msgs.outbound s.msgs.inbound s.msgs.triplog s.trips.deposit s.power.startUp s.emerg.owed) :
    QueueOk v_path_queue v_path_under
          (State.closeWindow s).msgs.flight v_msgs_deposit v_msgs_outbound v_msgs_inbound v_msgs_triplog v_trips_deposit v_power_startUp v_emerg_owed := by
  subst ev_path_queue; subst ev_path_under; subst ev_msgs_deposit; subst ev_msgs_outbound; subst ev_msgs_inbound; subst ev_msgs_triplog; subst ev_trips_deposit; subst ev_power_startUp; subst ev_emerg_owed;
  unfold State.closeWindow; (repeat' split) <;> simp (maxDischargeDepth := 12) [hl]

@[simp] theorem State.startCycle_queueOk {s : State} {v_path_queue} (ev_path_queue : s.path.queue = v_path_queue) {v_path_under}
    (ev_path_under : s.path.under = v_path_under) {v_msgs_deposit} (ev_msgs_deposit : s.msgs.deposit = v_msgs_deposit) {v_msgs_outbound}
    (ev_msgs_outbound : s.msgs.outbound = v_msgs_outbound) {v_msgs_inbound} (ev_msgs_inbound : s.msgs.inbound = v_msgs_inbound)
    {v_msgs_triplog} (ev_msgs_triplog : s.msgs.triplog = v_msgs_triplog) {v_trips_deposit}
    (ev_trips_deposit : s.trips.deposit = v_trips_deposit) {v_power_startUp} (ev_power_startUp : s.power.startUp = v_power_startUp)
    {v_emerg_owed} (ev_emerg_owed : s.emerg.owed = v_emerg_owed)
    (hl : QueueOk s.path.queue s.path.under s.msgs.flight s.msgs.deposit s.msgs.outbound s.msgs.inbound s.msgs.triplog s.trips.deposit s.power.startUp s.emerg.owed) :
    QueueOk v_path_queue v_path_under
          (State.startCycle s).msgs.flight v_msgs_deposit v_msgs_outbound v_msgs_inbound v_msgs_triplog v_trips_deposit v_power_startUp v_emerg_owed := by
  subst ev_path_queue; subst ev_path_under; subst ev_msgs_deposit; subst ev_msgs_outbound; subst ev_msgs_inbound; subst ev_msgs_triplog; subst ev_trips_deposit; subst ev_power_startUp; subst ev_emerg_owed;
  unfold State.startCycle; (repeat' split) <;> simp (maxDischargeDepth := 12) [hl]

@[simp] theorem State.takeBeacon_queueOk (n : Word) (b : BeaconBody) {s : State} {v_path_queue}
    (ev_path_queue : s.path.queue = v_path_queue) {v_path_under} (ev_path_under : s.path.under = v_path_under) {v_msgs_deposit}
    (ev_msgs_deposit : s.msgs.deposit = v_msgs_deposit) {v_msgs_outbound} (ev_msgs_outbound : s.msgs.outbound = v_msgs_outbound)
    {v_msgs_inbound} (ev_msgs_inbound : s.msgs.inbound = v_msgs_inbound) {v_msgs_triplog}
    (ev_msgs_triplog : s.msgs.triplog = v_msgs_triplog) {v_trips_deposit} (ev_trips_deposit : s.trips.deposit = v_trips_deposit)
    {v_power_startUp} (ev_power_startUp : s.power.startUp = v_power_startUp) {v_emerg_owed} (ev_emerg_owed : s.emerg.owed = v_emerg_owed)
    (hl : QueueOk s.path.queue s.path.under s.msgs.flight s.msgs.deposit s.msgs.outbound s.msgs.inbound s.msgs.triplog s.trips.deposit s.power.startUp s.emerg.owed) :
    QueueOk v_path_queue v_path_under
          (State.takeBeacon n b s).msgs.flight v_msgs_deposit v_msgs_outbound v_msgs_inbound v_msgs_triplog v_trips_deposit v_power_startUp v_emerg_owed := by
  subst ev_path_queue; subst ev_path_under; subst ev_msgs_deposit; subst ev_msgs_outbound; subst ev_msgs_inbound; subst ev_msgs_triplog; subst ev_trips_deposit; subst ev_power_startUp; subst ev_emerg_owed;
  unfold State.takeBeacon; dsimp only; (repeat' split) <;> simp (maxDischargeDepth := 12) [hl]

@[simp] theorem State.joinGrantWaitEnds_queueOk {s : State} {v_path_queue} (ev_path_queue : s.path.queue = v_path_queue) {v_path_under}
    (ev_path_under : s.path.under = v_path_under) {v_msgs_deposit} (ev_msgs_deposit : s.msgs.deposit = v_msgs_deposit) {v_msgs_outbound}
    (ev_msgs_outbound : s.msgs.outbound = v_msgs_outbound) {v_msgs_inbound} (ev_msgs_inbound : s.msgs.inbound = v_msgs_inbound)
    {v_msgs_triplog} (ev_msgs_triplog : s.msgs.triplog = v_msgs_triplog) {v_trips_deposit}
    (ev_trips_deposit : s.trips.deposit = v_trips_deposit) {v_power_startUp} (ev_power_startUp : s.power.startUp = v_power_startUp)
    {v_emerg_owed} (ev_emerg_owed : s.emerg.owed = v_emerg_owed)
    (hl : QueueOk s.path.queue s.path.under s.msgs.flight s.msgs.deposit s.msgs.outbound s.msgs.inbound s.msgs.triplog s.trips.deposit s.power.startUp s.emerg.owed) :
    QueueOk v_path_queue v_path_under
          (State.joinGrantWaitEnds s).msgs.flight v_msgs_deposit v_msgs_outbound v_msgs_inbound v_msgs_triplog v_trips_deposit v_power_startUp v_emerg_owed := by
  subst ev_path_queue; subst ev_path_under; subst ev_msgs_deposit; subst ev_msgs_outbound; subst ev_msgs_inbound; subst ev_msgs_triplog; subst ev_trips_deposit; subst ev_power_startUp; subst ev_emerg_owed;
  unfold State.joinGrantWaitEnds; (repeat' split) <;> simp (maxDischargeDepth := 12) [hl]

@[simp] theorem State.enterActive_queueOk {s : State} {v_path_queue} (ev_path_queue : s.path.queue = v_path_queue) {v_path_under}
    (ev_path_under : s.path.under = v_path_under) {v_msgs_deposit} (ev_msgs_deposit : s.msgs.deposit = v_msgs_deposit) {v_msgs_outbound}
    (ev_msgs_outbound : s.msgs.outbound = v_msgs_outbound) {v_msgs_inbound} (ev_msgs_inbound : s.msgs.inbound = v_msgs_inbound)
    {v_msgs_triplog} (ev_msgs_triplog : s.msgs.triplog = v_msgs_triplog) {v_trips_deposit}
    (ev_trips_deposit : s.trips.deposit = v_trips_deposit) {v_power_startUp} (ev_power_startUp : s.power.startUp = v_power_startUp)
    {v_emerg_owed} (ev_emerg_owed : s.emerg.owed = v_emerg_owed)
    (hl : QueueOk s.path.queue s.path.under s.msgs.flight s.msgs.deposit s.msgs.outbound s.msgs.inbound s.msgs.triplog s.trips.deposit s.power.startUp s.emerg.owed) :
    QueueOk v_path_queue v_path_under
          (State.enterActive s).msgs.flight v_msgs_deposit v_msgs_outbound v_msgs_inbound v_msgs_triplog v_trips_deposit v_power_startUp v_emerg_owed := by
  subst ev_path_queue; subst ev_path_under; subst ev_msgs_deposit; subst ev_msgs_outbound; subst ev_msgs_inbound; subst ev_msgs_triplog; subst ev_trips_deposit; subst ev_power_startUp; subst ev_emerg_owed;
  unfold State.enterActive; (repeat' split) <;> simp (maxDischargeDepth := 12) [hl]

@[simp] theorem State.wakeEvent_queueOk (w : WakeSource) {s : State} {v_path_queue} (ev_path_queue : s.path.queue = v_path_queue)
    {v_path_under} (ev_path_under : s.path.under = v_path_under) {v_msgs_deposit} (ev_msgs_deposit : s.msgs.deposit = v_msgs_deposit)
    {v_msgs_outbound} (ev_msgs_outbound : s.msgs.outbound = v_msgs_outbound) {v_msgs_inbound}
    (ev_msgs_inbound : s.msgs.inbound = v_msgs_inbound) {v_msgs_triplog} (ev_msgs_triplog : s.msgs.triplog = v_msgs_triplog)
    {v_trips_deposit} (ev_trips_deposit : s.trips.deposit = v_trips_deposit) {v_power_startUp}
    (ev_power_startUp : s.power.startUp = v_power_startUp) {v_emerg_owed} (ev_emerg_owed : s.emerg.owed = v_emerg_owed)
    (hl : QueueOk s.path.queue s.path.under s.msgs.flight s.msgs.deposit s.msgs.outbound s.msgs.inbound s.msgs.triplog s.trips.deposit s.power.startUp s.emerg.owed) :
    QueueOk v_path_queue v_path_under
          (State.wakeEvent w s).msgs.flight v_msgs_deposit v_msgs_outbound v_msgs_inbound v_msgs_triplog v_trips_deposit v_power_startUp v_emerg_owed := by
  subst ev_path_queue; subst ev_path_under; subst ev_msgs_deposit; subst ev_msgs_outbound; subst ev_msgs_inbound; subst ev_msgs_triplog; subst ev_trips_deposit; subst ev_power_startUp; subst ev_emerg_owed;
  unfold State.wakeEvent; (repeat' split) <;> simp (maxDischargeDepth := 12) [hl]

@[simp] theorem State.enterSleep_queueOk {s : State} {v_path_queue} (ev_path_queue : s.path.queue = v_path_queue) {v_path_under}
    (ev_path_under : s.path.under = v_path_under) {v_msgs_deposit} (ev_msgs_deposit : s.msgs.deposit = v_msgs_deposit) {v_msgs_outbound}
    (ev_msgs_outbound : s.msgs.outbound = v_msgs_outbound) {v_msgs_inbound} (ev_msgs_inbound : s.msgs.inbound = v_msgs_inbound)
    {v_msgs_triplog} (ev_msgs_triplog : s.msgs.triplog = v_msgs_triplog) {v_trips_deposit}
    (ev_trips_deposit : s.trips.deposit = v_trips_deposit) {v_power_startUp} (ev_power_startUp : s.power.startUp = v_power_startUp)
    {v_emerg_owed} (ev_emerg_owed : s.emerg.owed = v_emerg_owed)
    (hl : QueueOk s.path.queue s.path.under s.msgs.flight s.msgs.deposit s.msgs.outbound s.msgs.inbound s.msgs.triplog s.trips.deposit s.power.startUp s.emerg.owed) :
    QueueOk v_path_queue v_path_under
          (State.enterSleep s).msgs.flight v_msgs_deposit v_msgs_outbound v_msgs_inbound v_msgs_triplog v_trips_deposit v_power_startUp v_emerg_owed := by
  subst ev_path_queue; subst ev_path_under; subst ev_msgs_deposit; subst ev_msgs_outbound; subst ev_msgs_inbound; subst ev_msgs_triplog; subst ev_trips_deposit; subst ev_power_startUp; subst ev_emerg_owed;
  unfold State.enterSleep; (repeat' split) <;> simp (maxDischargeDepth := 12) [hl]

@[simp] theorem State.endParking_queueOk {s : State} {v_path_queue} (ev_path_queue : s.path.queue = v_path_queue) {v_path_under}
    (ev_path_under : s.path.under = v_path_under) {v_msgs_deposit} (ev_msgs_deposit : s.msgs.deposit = v_msgs_deposit) {v_msgs_outbound}
    (ev_msgs_outbound : s.msgs.outbound = v_msgs_outbound) {v_msgs_inbound} (ev_msgs_inbound : s.msgs.inbound = v_msgs_inbound)
    {v_msgs_triplog} (ev_msgs_triplog : s.msgs.triplog = v_msgs_triplog) {v_trips_deposit}
    (ev_trips_deposit : s.trips.deposit = v_trips_deposit) {v_power_startUp} (ev_power_startUp : s.power.startUp = v_power_startUp)
    {v_emerg_owed} (ev_emerg_owed : s.emerg.owed = v_emerg_owed)
    (hl : QueueOk s.path.queue s.path.under s.msgs.flight s.msgs.deposit s.msgs.outbound s.msgs.inbound s.msgs.triplog s.trips.deposit s.power.startUp s.emerg.owed) :
    QueueOk v_path_queue v_path_under
          (State.endParking s).msgs.flight v_msgs_deposit v_msgs_outbound v_msgs_inbound v_msgs_triplog v_trips_deposit v_power_startUp v_emerg_owed := by
  subst ev_path_queue; subst ev_path_under; subst ev_msgs_deposit; subst ev_msgs_outbound; subst ev_msgs_inbound; subst ev_msgs_triplog; subst ev_trips_deposit; subst ev_power_startUp; subst ev_emerg_owed;
  unfold State.endParking; (repeat' split) <;> simp (maxDischargeDepth := 12) [hl]

@[simp] theorem State.statusSent_queueOk (b : Bool) {s : State} {v_path_queue} (ev_path_queue : s.path.queue = v_path_queue) {v_path_under}
    (ev_path_under : s.path.under = v_path_under) {v_msgs_deposit} (ev_msgs_deposit : s.msgs.deposit = v_msgs_deposit) {v_msgs_outbound}
    (ev_msgs_outbound : s.msgs.outbound = v_msgs_outbound) {v_msgs_inbound} (ev_msgs_inbound : s.msgs.inbound = v_msgs_inbound)
    {v_msgs_triplog} (ev_msgs_triplog : s.msgs.triplog = v_msgs_triplog) {v_trips_deposit}
    (ev_trips_deposit : s.trips.deposit = v_trips_deposit) {v_power_startUp} (ev_power_startUp : s.power.startUp = v_power_startUp)
    {v_emerg_owed} (ev_emerg_owed : s.emerg.owed = v_emerg_owed)
    (hl : QueueOk s.path.queue s.path.under s.msgs.flight s.msgs.deposit s.msgs.outbound s.msgs.inbound s.msgs.triplog s.trips.deposit s.power.startUp s.emerg.owed) :
    QueueOk v_path_queue v_path_under
          (State.statusSent b s).msgs.flight v_msgs_deposit v_msgs_outbound v_msgs_inbound v_msgs_triplog v_trips_deposit v_power_startUp v_emerg_owed := by
  subst ev_path_queue; subst ev_path_under; subst ev_msgs_deposit; subst ev_msgs_outbound; subst ev_msgs_inbound; subst ev_msgs_triplog; subst ev_trips_deposit; subst ev_power_startUp; subst ev_emerg_owed;
  unfold State.statusSent; (repeat' split) <;> simp (maxDischargeDepth := 12) [hl]

@[simp] theorem State.powerChange_queueOk (w : Word) {s : State} {v_path_queue} (ev_path_queue : s.path.queue = v_path_queue)
    {v_path_under} (ev_path_under : s.path.under = v_path_under) {v_msgs_deposit} (ev_msgs_deposit : s.msgs.deposit = v_msgs_deposit)
    {v_msgs_outbound} (ev_msgs_outbound : s.msgs.outbound = v_msgs_outbound) {v_msgs_inbound}
    (ev_msgs_inbound : s.msgs.inbound = v_msgs_inbound) {v_msgs_triplog} (ev_msgs_triplog : s.msgs.triplog = v_msgs_triplog)
    {v_trips_deposit} (ev_trips_deposit : s.trips.deposit = v_trips_deposit) {v_power_startUp}
    (ev_power_startUp : s.power.startUp = v_power_startUp) {v_emerg_owed} (ev_emerg_owed : s.emerg.owed = v_emerg_owed)
    (hl : QueueOk s.path.queue s.path.under s.msgs.flight s.msgs.deposit s.msgs.outbound s.msgs.inbound s.msgs.triplog s.trips.deposit s.power.startUp s.emerg.owed) :
    QueueOk v_path_queue v_path_under
          (State.powerChange w s).msgs.flight v_msgs_deposit v_msgs_outbound v_msgs_inbound v_msgs_triplog v_trips_deposit v_power_startUp v_emerg_owed := by
  subst ev_path_queue; subst ev_path_under; subst ev_msgs_deposit; subst ev_msgs_outbound; subst ev_msgs_inbound; subst ev_msgs_triplog; subst ev_trips_deposit; subst ev_power_startUp; subst ev_emerg_owed;
  unfold State.powerChange; (repeat' split) <;> simp (maxDischargeDepth := 12) [hl]

@[simp] theorem State.powerRequest_queueOk (l : Lanes) (d : Word) {s : State} {v_path_queue} (ev_path_queue : s.path.queue = v_path_queue)
    {v_path_under} (ev_path_under : s.path.under = v_path_under) {v_msgs_deposit} (ev_msgs_deposit : s.msgs.deposit = v_msgs_deposit)
    {v_msgs_outbound} (ev_msgs_outbound : s.msgs.outbound = v_msgs_outbound) {v_msgs_inbound}
    (ev_msgs_inbound : s.msgs.inbound = v_msgs_inbound) {v_msgs_triplog} (ev_msgs_triplog : s.msgs.triplog = v_msgs_triplog)
    {v_trips_deposit} (ev_trips_deposit : s.trips.deposit = v_trips_deposit) {v_power_startUp}
    (ev_power_startUp : s.power.startUp = v_power_startUp) {v_emerg_owed} (ev_emerg_owed : s.emerg.owed = v_emerg_owed)
    (hl : QueueOk s.path.queue s.path.under s.msgs.flight s.msgs.deposit s.msgs.outbound s.msgs.inbound s.msgs.triplog s.trips.deposit s.power.startUp s.emerg.owed) :
    QueueOk v_path_queue v_path_under
          (State.powerRequest l d s).msgs.flight v_msgs_deposit v_msgs_outbound v_msgs_inbound v_msgs_triplog v_trips_deposit v_power_startUp v_emerg_owed := by
  subst ev_path_queue; subst ev_path_under; subst ev_msgs_deposit; subst ev_msgs_outbound; subst ev_msgs_inbound; subst ev_msgs_triplog; subst ev_trips_deposit; subst ev_power_startUp; subst ev_emerg_owed;
  unfold State.powerRequest; dsimp only; (repeat' split) <;> simp (maxDischargeDepth := 12) [hl]

@[simp] theorem State.rewriteRecord_queueOk {s : State} {v_path_under} (ev_path_under : s.path.under = v_path_under) {v_msgs_flight}
    (ev_msgs_flight : s.msgs.flight = v_msgs_flight) {v_msgs_deposit} (ev_msgs_deposit : s.msgs.deposit = v_msgs_deposit) {v_msgs_outbound}
    (ev_msgs_outbound : s.msgs.outbound = v_msgs_outbound) {v_msgs_inbound} (ev_msgs_inbound : s.msgs.inbound = v_msgs_inbound)
    {v_msgs_triplog} (ev_msgs_triplog : s.msgs.triplog = v_msgs_triplog) {v_trips_deposit}
    (ev_trips_deposit : s.trips.deposit = v_trips_deposit) {v_power_startUp} (ev_power_startUp : s.power.startUp = v_power_startUp)
    (hl : QueueOk s.path.queue s.path.under s.msgs.flight s.msgs.deposit s.msgs.outbound s.msgs.inbound s.msgs.triplog s.trips.deposit s.power.startUp s.emerg.owed) :
    QueueOk (State.rewriteRecord s).path.queue v_path_under v_msgs_flight v_msgs_deposit v_msgs_outbound v_msgs_inbound v_msgs_triplog v_trips_deposit v_power_startUp (State.rewriteRecord s).emerg.owed := by
  subst ev_path_under; subst ev_msgs_flight; subst ev_msgs_deposit; subst ev_msgs_outbound; subst ev_msgs_inbound; subst ev_msgs_triplog; subst ev_trips_deposit; subst ev_power_startUp;
  unfold State.rewriteRecord; split
  · exact hl
  · rename_i hq
    have hq : OpKind.emergencyRewrite ∉ s.path.queue.map (·.kind) := fun h => hq ((MemoryPath.queued_iff ..).2 h)
    split
    · rename_i hu
      obtain ⟨h1, h2, h3, h4, h5, h6, h7, h8, h9, h10, h11, h12⟩ := hl
      exact ⟨h1, h2, h3, h4, h5, h6, h7, h8, h9, h10, h11, fun _ => ⟨(MemoryPath.underWay_iff ..).1 hu, hq⟩⟩
    · rename_i hu
      have ho : s.emerg.owed = false := by
        cases h : s.emerg.owed
        · rfl
        · exact absurd ((MemoryPath.underWay_iff ..).2 (hl.2.2.2.2.2.2.2.2.2.2.2 h).1) hu
      exact hl.push .emergencyRewrite 0 hq (by simp) (by simp) (by simp) (by simp) (by simp) (by simp) (by simp [OpKind.once]) (by simp)
        (fun _ => ho)

@[simp] theorem State.rewriteWithCause_queueOk {s : State} {v_path_under} (ev_path_under : s.path.under = v_path_under) {v_msgs_flight}
    (ev_msgs_flight : s.msgs.flight = v_msgs_flight) {v_msgs_deposit} (ev_msgs_deposit : s.msgs.deposit = v_msgs_deposit) {v_msgs_outbound}
    (ev_msgs_outbound : s.msgs.outbound = v_msgs_outbound) {v_msgs_inbound} (ev_msgs_inbound : s.msgs.inbound = v_msgs_inbound)
    {v_msgs_triplog} (ev_msgs_triplog : s.msgs.triplog = v_msgs_triplog) {v_trips_deposit}
    (ev_trips_deposit : s.trips.deposit = v_trips_deposit) {v_power_startUp} (ev_power_startUp : s.power.startUp = v_power_startUp)
    (hl : QueueOk s.path.queue s.path.under s.msgs.flight s.msgs.deposit s.msgs.outbound s.msgs.inbound s.msgs.triplog s.trips.deposit s.power.startUp s.emerg.owed) :
    QueueOk (State.rewriteWithCause s).path.queue v_path_under v_msgs_flight v_msgs_deposit v_msgs_outbound v_msgs_inbound v_msgs_triplog v_trips_deposit v_power_startUp (State.rewriteWithCause s).emerg.owed := by
  subst ev_path_under; subst ev_msgs_flight; subst ev_msgs_deposit; subst ev_msgs_outbound; subst ev_msgs_inbound; subst ev_msgs_triplog; subst ev_trips_deposit; subst ev_power_startUp;
  unfold State.rewriteWithCause; (repeat' split) <;> simp (maxDischargeDepth := 12) [hl]

@[simp] theorem State.alertingHandOn_queueOk {s : State} {v_path_under} (ev_path_under : s.path.under = v_path_under) {v_msgs_flight}
    (ev_msgs_flight : s.msgs.flight = v_msgs_flight) {v_msgs_deposit} (ev_msgs_deposit : s.msgs.deposit = v_msgs_deposit) {v_msgs_outbound}
    (ev_msgs_outbound : s.msgs.outbound = v_msgs_outbound) {v_msgs_inbound} (ev_msgs_inbound : s.msgs.inbound = v_msgs_inbound)
    {v_msgs_triplog} (ev_msgs_triplog : s.msgs.triplog = v_msgs_triplog) {v_trips_deposit}
    (ev_trips_deposit : s.trips.deposit = v_trips_deposit) {v_power_startUp} (ev_power_startUp : s.power.startUp = v_power_startUp)
    {v_emerg_owed} (ev_emerg_owed : s.emerg.owed = v_emerg_owed)
    (hl : QueueOk s.path.queue s.path.under s.msgs.flight s.msgs.deposit s.msgs.outbound s.msgs.inbound s.msgs.triplog s.trips.deposit s.power.startUp s.emerg.owed) :
    QueueOk (State.alertingHandOn s).path.queue v_path_under v_msgs_flight v_msgs_deposit v_msgs_outbound v_msgs_inbound v_msgs_triplog v_trips_deposit v_power_startUp v_emerg_owed := by
  subst ev_path_under; subst ev_msgs_flight; subst ev_msgs_deposit; subst ev_msgs_outbound; subst ev_msgs_inbound; subst ev_msgs_triplog; subst ev_trips_deposit; subst ev_power_startUp; subst ev_emerg_owed;
  unfold State.alertingHandOn; (repeat' split) <;> simp (maxDischargeDepth := 12) [hl]

@[simp] theorem State.enterAlerting_queueOk (x : Source) {s : State} {v_path_under} (ev_path_under : s.path.under = v_path_under)
    {v_msgs_flight} (ev_msgs_flight : s.msgs.flight = v_msgs_flight) {v_msgs_deposit} (ev_msgs_deposit : s.msgs.deposit = v_msgs_deposit)
    {v_msgs_outbound} (ev_msgs_outbound : s.msgs.outbound = v_msgs_outbound) {v_msgs_inbound}
    (ev_msgs_inbound : s.msgs.inbound = v_msgs_inbound) {v_msgs_triplog} (ev_msgs_triplog : s.msgs.triplog = v_msgs_triplog)
    {v_trips_deposit} (ev_trips_deposit : s.trips.deposit = v_trips_deposit) {v_power_startUp}
    (ev_power_startUp : s.power.startUp = v_power_startUp)
    (hl : QueueOk s.path.queue s.path.under s.msgs.flight s.msgs.deposit s.msgs.outbound s.msgs.inbound s.msgs.triplog s.trips.deposit s.power.startUp s.emerg.owed) :
    QueueOk (State.enterAlerting x s).path.queue v_path_under v_msgs_flight v_msgs_deposit v_msgs_outbound v_msgs_inbound v_msgs_triplog v_trips_deposit v_power_startUp (State.enterAlerting x s).emerg.owed := by
  subst ev_path_under; subst ev_msgs_flight; subst ev_msgs_deposit; subst ev_msgs_outbound; subst ev_msgs_inbound; subst ev_msgs_triplog; subst ev_trips_deposit; subst ev_power_startUp;
  unfold State.enterAlerting; (repeat' split) <;> simp (maxDischargeDepth := 12) [hl]

@[simp] theorem State.takeClosing_queueOk {s : State} {v_path_queue} (ev_path_queue : s.path.queue = v_path_queue) {v_path_under}
    (ev_path_under : s.path.under = v_path_under) {v_msgs_deposit} (ev_msgs_deposit : s.msgs.deposit = v_msgs_deposit) {v_msgs_outbound}
    (ev_msgs_outbound : s.msgs.outbound = v_msgs_outbound) {v_msgs_inbound} (ev_msgs_inbound : s.msgs.inbound = v_msgs_inbound)
    {v_msgs_triplog} (ev_msgs_triplog : s.msgs.triplog = v_msgs_triplog) {v_trips_deposit}
    (ev_trips_deposit : s.trips.deposit = v_trips_deposit) {v_power_startUp} (ev_power_startUp : s.power.startUp = v_power_startUp)
    {v_emerg_owed} (ev_emerg_owed : s.emerg.owed = v_emerg_owed)
    (hl : QueueOk s.path.queue s.path.under s.msgs.flight s.msgs.deposit s.msgs.outbound s.msgs.inbound s.msgs.triplog s.trips.deposit s.power.startUp s.emerg.owed) :
    QueueOk v_path_queue v_path_under
          (State.takeClosing s).msgs.flight v_msgs_deposit v_msgs_outbound v_msgs_inbound v_msgs_triplog v_trips_deposit v_power_startUp v_emerg_owed := by
  subst ev_path_queue; subst ev_path_under; subst ev_msgs_deposit; subst ev_msgs_outbound; subst ev_msgs_inbound; subst ev_msgs_triplog; subst ev_trips_deposit; subst ev_power_startUp; subst ev_emerg_owed;
  unfold State.takeClosing; dsimp only; (repeat' split) <;> simp (maxDischargeDepth := 12) [hl]

@[simp] theorem State.holdEnds_queueOk {s : State} {v_path_under} (ev_path_under : s.path.under = v_path_under) {v_msgs_flight}
    (ev_msgs_flight : s.msgs.flight = v_msgs_flight) {v_msgs_deposit} (ev_msgs_deposit : s.msgs.deposit = v_msgs_deposit) {v_msgs_outbound}
    (ev_msgs_outbound : s.msgs.outbound = v_msgs_outbound) {v_msgs_inbound} (ev_msgs_inbound : s.msgs.inbound = v_msgs_inbound)
    {v_msgs_triplog} (ev_msgs_triplog : s.msgs.triplog = v_msgs_triplog) {v_trips_deposit}
    (ev_trips_deposit : s.trips.deposit = v_trips_deposit) {v_power_startUp} (ev_power_startUp : s.power.startUp = v_power_startUp)
    (hl : QueueOk s.path.queue s.path.under s.msgs.flight s.msgs.deposit s.msgs.outbound s.msgs.inbound s.msgs.triplog s.trips.deposit s.power.startUp s.emerg.owed) :
    QueueOk (State.holdEnds s).path.queue v_path_under v_msgs_flight v_msgs_deposit v_msgs_outbound v_msgs_inbound v_msgs_triplog v_trips_deposit v_power_startUp (State.holdEnds s).emerg.owed := by
  subst ev_path_under; subst ev_msgs_flight; subst ev_msgs_deposit; subst ev_msgs_outbound; subst ev_msgs_inbound; subst ev_msgs_triplog; subst ev_trips_deposit; subst ev_power_startUp;
  unfold State.holdEnds; (repeat' split) <;> simp (maxDischargeDepth := 12) [hl]

@[simp] theorem State.emergencyRaiseWrite_queueOk (l : Lanes) (d : Word) {s : State} {v_path_under}
    (ev_path_under : s.path.under = v_path_under) {v_msgs_flight} (ev_msgs_flight : s.msgs.flight = v_msgs_flight) {v_msgs_deposit}
    (ev_msgs_deposit : s.msgs.deposit = v_msgs_deposit) {v_msgs_outbound} (ev_msgs_outbound : s.msgs.outbound = v_msgs_outbound)
    {v_msgs_inbound} (ev_msgs_inbound : s.msgs.inbound = v_msgs_inbound) {v_msgs_triplog}
    (ev_msgs_triplog : s.msgs.triplog = v_msgs_triplog) {v_trips_deposit} (ev_trips_deposit : s.trips.deposit = v_trips_deposit)
    {v_power_startUp} (ev_power_startUp : s.power.startUp = v_power_startUp)
    (hl : QueueOk s.path.queue s.path.under s.msgs.flight s.msgs.deposit s.msgs.outbound s.msgs.inbound s.msgs.triplog s.trips.deposit s.power.startUp s.emerg.owed) :
    QueueOk (State.emergencyRaiseWrite l d s).path.queue v_path_under v_msgs_flight v_msgs_deposit v_msgs_outbound v_msgs_inbound v_msgs_triplog v_trips_deposit v_power_startUp (State.emergencyRaiseWrite l d s).emerg.owed := by
  subst ev_path_under; subst ev_msgs_flight; subst ev_msgs_deposit; subst ev_msgs_outbound; subst ev_msgs_inbound; subst ev_msgs_triplog; subst ev_trips_deposit; subst ev_power_startUp;
  unfold State.emergencyRaiseWrite; dsimp only; (repeat' split) <;> simp (maxDischargeDepth := 12) [hl]

@[simp] theorem State.alertSent_queueOk (n : Word) {s : State} {v_path_under} (ev_path_under : s.path.under = v_path_under) {v_msgs_flight}
    (ev_msgs_flight : s.msgs.flight = v_msgs_flight) {v_msgs_deposit} (ev_msgs_deposit : s.msgs.deposit = v_msgs_deposit) {v_msgs_outbound}
    (ev_msgs_outbound : s.msgs.outbound = v_msgs_outbound) {v_msgs_inbound} (ev_msgs_inbound : s.msgs.inbound = v_msgs_inbound)
    {v_msgs_triplog} (ev_msgs_triplog : s.msgs.triplog = v_msgs_triplog) {v_trips_deposit}
    (ev_trips_deposit : s.trips.deposit = v_trips_deposit) {v_power_startUp} (ev_power_startUp : s.power.startUp = v_power_startUp)
    (hl : QueueOk s.path.queue s.path.under s.msgs.flight s.msgs.deposit s.msgs.outbound s.msgs.inbound s.msgs.triplog s.trips.deposit s.power.startUp s.emerg.owed) :
    QueueOk (State.alertSent n s).path.queue v_path_under v_msgs_flight v_msgs_deposit v_msgs_outbound v_msgs_inbound v_msgs_triplog v_trips_deposit v_power_startUp (State.alertSent n s).emerg.owed := by
  subst ev_path_under; subst ev_msgs_flight; subst ev_msgs_deposit; subst ev_msgs_outbound; subst ev_msgs_inbound; subst ev_msgs_triplog; subst ev_trips_deposit; subst ev_power_startUp;
  unfold State.alertSent; (repeat' split) <;> simp (maxDischargeDepth := 12) [hl]

@[simp] theorem State.takeAlertAck_queueOk (n : Word) {s : State} {v_path_under} (ev_path_under : s.path.under = v_path_under)
    {v_msgs_flight} (ev_msgs_flight : s.msgs.flight = v_msgs_flight) {v_msgs_deposit} (ev_msgs_deposit : s.msgs.deposit = v_msgs_deposit)
    {v_msgs_outbound} (ev_msgs_outbound : s.msgs.outbound = v_msgs_outbound) {v_msgs_inbound}
    (ev_msgs_inbound : s.msgs.inbound = v_msgs_inbound) {v_msgs_triplog} (ev_msgs_triplog : s.msgs.triplog = v_msgs_triplog)
    {v_trips_deposit} (ev_trips_deposit : s.trips.deposit = v_trips_deposit) {v_power_startUp}
    (ev_power_startUp : s.power.startUp = v_power_startUp)
    (hl : QueueOk s.path.queue s.path.under s.msgs.flight s.msgs.deposit s.msgs.outbound s.msgs.inbound s.msgs.triplog s.trips.deposit s.power.startUp s.emerg.owed) :
    QueueOk (State.takeAlertAck n s).path.queue v_path_under v_msgs_flight v_msgs_deposit v_msgs_outbound v_msgs_inbound v_msgs_triplog v_trips_deposit v_power_startUp (State.takeAlertAck n s).emerg.owed := by
  subst ev_path_under; subst ev_msgs_flight; subst ev_msgs_deposit; subst ev_msgs_outbound; subst ev_msgs_inbound; subst ev_msgs_triplog; subst ev_trips_deposit; subst ev_power_startUp;
  unfold State.takeAlertAck; (repeat' split) <;> simp (maxDischargeDepth := 12) [hl]

@[simp] theorem State.takeAlertCancel_queueOk (n : Word) {s : State} {v_path_under} (ev_path_under : s.path.under = v_path_under)
    {v_msgs_flight} (ev_msgs_flight : s.msgs.flight = v_msgs_flight) {v_msgs_deposit} (ev_msgs_deposit : s.msgs.deposit = v_msgs_deposit)
    {v_msgs_outbound} (ev_msgs_outbound : s.msgs.outbound = v_msgs_outbound) {v_msgs_inbound}
    (ev_msgs_inbound : s.msgs.inbound = v_msgs_inbound) {v_msgs_triplog} (ev_msgs_triplog : s.msgs.triplog = v_msgs_triplog)
    {v_trips_deposit} (ev_trips_deposit : s.trips.deposit = v_trips_deposit) {v_power_startUp}
    (ev_power_startUp : s.power.startUp = v_power_startUp)
    (hl : QueueOk s.path.queue s.path.under s.msgs.flight s.msgs.deposit s.msgs.outbound s.msgs.inbound s.msgs.triplog s.trips.deposit s.power.startUp s.emerg.owed) :
    QueueOk (State.takeAlertCancel n s).path.queue v_path_under v_msgs_flight v_msgs_deposit v_msgs_outbound v_msgs_inbound v_msgs_triplog v_trips_deposit v_power_startUp (State.takeAlertCancel n s).emerg.owed := by
  subst ev_path_under; subst ev_msgs_flight; subst ev_msgs_deposit; subst ev_msgs_outbound; subst ev_msgs_inbound; subst ev_msgs_triplog; subst ev_trips_deposit; subst ev_power_startUp;
  unfold State.takeAlertCancel; (repeat' split) <;> simp (maxDischargeDepth := 12) [hl]

@[simp] theorem State.recover_queueOk (j : RecordJudgment) {s : State} {v_path_under} (ev_path_under : s.path.under = v_path_under)
    {v_msgs_flight} (ev_msgs_flight : s.msgs.flight = v_msgs_flight) {v_msgs_deposit} (ev_msgs_deposit : s.msgs.deposit = v_msgs_deposit)
    {v_msgs_outbound} (ev_msgs_outbound : s.msgs.outbound = v_msgs_outbound) {v_msgs_inbound}
    (ev_msgs_inbound : s.msgs.inbound = v_msgs_inbound) {v_msgs_triplog} (ev_msgs_triplog : s.msgs.triplog = v_msgs_triplog)
    {v_trips_deposit} (ev_trips_deposit : s.trips.deposit = v_trips_deposit) {v_power_startUp}
    (ev_power_startUp : s.power.startUp = v_power_startUp)
    (hl : QueueOk s.path.queue s.path.under s.msgs.flight s.msgs.deposit s.msgs.outbound s.msgs.inbound s.msgs.triplog s.trips.deposit s.power.startUp s.emerg.owed) :
    QueueOk (State.recover j s).path.queue v_path_under v_msgs_flight v_msgs_deposit v_msgs_outbound v_msgs_inbound v_msgs_triplog v_trips_deposit v_power_startUp (State.recover j s).emerg.owed := by
  subst ev_path_under; subst ev_msgs_flight; subst ev_msgs_deposit; subst ev_msgs_outbound; subst ev_msgs_inbound; subst ev_msgs_triplog; subst ev_trips_deposit; subst ev_power_startUp;
  unfold State.recover; (repeat' split) <;> simp (maxDischargeDepth := 12) [hl]

@[simp] theorem State.closeShift_queueOk {s : State} {v_path_under} (ev_path_under : s.path.under = v_path_under) {v_msgs_flight}
    (ev_msgs_flight : s.msgs.flight = v_msgs_flight) {v_msgs_deposit} (ev_msgs_deposit : s.msgs.deposit = v_msgs_deposit) {v_msgs_outbound}
    (ev_msgs_outbound : s.msgs.outbound = v_msgs_outbound) {v_msgs_inbound} (ev_msgs_inbound : s.msgs.inbound = v_msgs_inbound)
    {v_msgs_triplog} (ev_msgs_triplog : s.msgs.triplog = v_msgs_triplog) {v_trips_deposit}
    (ev_trips_deposit : s.trips.deposit = v_trips_deposit) {v_power_startUp} (ev_power_startUp : s.power.startUp = v_power_startUp)
    {v_emerg_owed} (ev_emerg_owed : s.emerg.owed = v_emerg_owed)
    (hl : QueueOk s.path.queue s.path.under s.msgs.flight s.msgs.deposit s.msgs.outbound s.msgs.inbound s.msgs.triplog s.trips.deposit s.power.startUp s.emerg.owed) :
    QueueOk (State.closeShift s).path.queue v_path_under v_msgs_flight v_msgs_deposit v_msgs_outbound v_msgs_inbound v_msgs_triplog v_trips_deposit v_power_startUp v_emerg_owed := by
  subst ev_path_under; subst ev_msgs_flight; subst ev_msgs_deposit; subst ev_msgs_outbound; subst ev_msgs_inbound; subst ev_msgs_triplog; subst ev_trips_deposit; subst ev_power_startUp; subst ev_emerg_owed;
  unfold State.closeShift; (repeat' split) <;> simp (maxDischargeDepth := 12) [hl]

@[simp] theorem State.shiftControl_queueOk (l : Lanes) (d : Word) {s : State} {v_path_under} (ev_path_under : s.path.under = v_path_under)
    {v_msgs_flight} (ev_msgs_flight : s.msgs.flight = v_msgs_flight) {v_msgs_deposit} (ev_msgs_deposit : s.msgs.deposit = v_msgs_deposit)
    {v_msgs_outbound} (ev_msgs_outbound : s.msgs.outbound = v_msgs_outbound) {v_msgs_inbound}
    (ev_msgs_inbound : s.msgs.inbound = v_msgs_inbound) {v_msgs_triplog} (ev_msgs_triplog : s.msgs.triplog = v_msgs_triplog)
    {v_power_startUp} (ev_power_startUp : s.power.startUp = v_power_startUp) {v_emerg_owed} (ev_emerg_owed : s.emerg.owed = v_emerg_owed)
    (hl : QueueOk s.path.queue s.path.under s.msgs.flight s.msgs.deposit s.msgs.outbound s.msgs.inbound s.msgs.triplog s.trips.deposit s.power.startUp s.emerg.owed) :
    QueueOk (State.shiftControl l d s).path.queue v_path_under v_msgs_flight v_msgs_deposit v_msgs_outbound v_msgs_inbound v_msgs_triplog
          (State.shiftControl l d s).trips.deposit v_power_startUp v_emerg_owed := by
  subst ev_path_under; subst ev_msgs_flight; subst ev_msgs_deposit; subst ev_msgs_outbound; subst ev_msgs_inbound; subst ev_msgs_triplog; subst ev_power_startUp; subst ev_emerg_owed;
  unfold State.shiftControl; dsimp only; (repeat' split) <;> simp (maxDischargeDepth := 12) [hl]

@[simp] theorem State.takeWatched_queueOk (f : Field) (l : Lanes) (d : Word) {s : State}
    (hl : QueueOk s.path.queue s.path.under s.msgs.flight s.msgs.deposit s.msgs.outbound s.msgs.inbound s.msgs.triplog s.trips.deposit s.power.startUp s.emerg.owed) (hr : s.power.startUp = .ready) :
    QueueOk (State.takeWatched f l d s).path.queue (State.takeWatched f l d s).path.under (State.takeWatched f l d s).msgs.flight
          (State.takeWatched f l d s).msgs.deposit (State.takeWatched f l d s).msgs.outbound (State.takeWatched f l d s).msgs.inbound
          (State.takeWatched f l d s).msgs.triplog (State.takeWatched f l d s).trips.deposit (State.takeWatched f l d s).power.startUp
          (State.takeWatched f l d s).emerg.owed := by
  unfold State.takeWatched; rw [hr] at hl; split <;> (try split) <;> (try split) <;> simp (maxDischargeDepth := 12) [hl, hr]

@[simp] theorem State.acceptWrite_queueOk (a : BitVec 19) (l : Lanes) (d : Word) (p : MemoryPath) {s : State}
    (hp : QueueOk p.queue p.under s.msgs.flight s.msgs.deposit s.msgs.outbound s.msgs.inbound s.msgs.triplog s.trips.deposit
      s.power.startUp s.emerg.owed) :
    QueueOk (State.acceptWrite a l d p s).path.queue (State.acceptWrite a l d p s).path.under (State.acceptWrite a l d p s).msgs.flight
          (State.acceptWrite a l d p s).msgs.deposit (State.acceptWrite a l d p s).msgs.outbound (State.acceptWrite a l d p s).msgs.inbound
          (State.acceptWrite a l d p s).msgs.triplog (State.acceptWrite a l d p s).trips.deposit
          (State.acceptWrite a l d p s).power.startUp (State.acceptWrite a l d p s).emerg.owed := by
  have hw : ∀ f, s.fieldOf a = some f → laneAny (s.lanesOf .watched a l) = true → s.power.startUp = .ready := by
    intro f hf hw
    by_cases h : s.power.startUp = .ready
    · exact h
    · exfalso
      have ht : ∀ hi, s.laneTreatment a hi ≠ .watched := by
        intro hi; unfold State.laneTreatment; split
        · unfold State.treatment; rw [if_neg (by simpa using h)]; split <;> (try split) <;> simp
        · simp
      simp [State.lanesOf, laneAny, ht] at hw
  unfold State.acceptWrite; dsimp only; split
  · split
    · rename_i f hf hh
      split
      · exact State.takeWatched_queueOk _ _ _ (by simp [hp]) (by simp [hw _ hf hh])
      · exact State.takeWatched_queueOk _ _ _ hp (by simp [hw _ hf hh])
    · split <;> simp [hp]
  · split <;> simp [hp]

@[simp] theorem State.answerRead_queueOk (a : BitVec 19) (l : Lanes) {s : State} {v_msgs_flight}
    (ev_msgs_flight : s.msgs.flight = v_msgs_flight) {v_msgs_deposit} (ev_msgs_deposit : s.msgs.deposit = v_msgs_deposit) {v_msgs_outbound}
    (ev_msgs_outbound : s.msgs.outbound = v_msgs_outbound) {v_msgs_inbound} (ev_msgs_inbound : s.msgs.inbound = v_msgs_inbound)
    {v_msgs_triplog} (ev_msgs_triplog : s.msgs.triplog = v_msgs_triplog) {v_emerg_owed} (ev_emerg_owed : s.emerg.owed = v_emerg_owed)
    (hl : QueueOk s.path.queue s.path.under s.msgs.flight s.msgs.deposit s.msgs.outbound s.msgs.inbound s.msgs.triplog s.trips.deposit s.power.startUp s.emerg.owed) :
    QueueOk (State.answerRead a l s).path.queue
          (State.answerRead a l s).path.under v_msgs_flight v_msgs_deposit v_msgs_outbound v_msgs_inbound v_msgs_triplog
          (State.answerRead a l s).trips.deposit (State.answerRead a l s).power.startUp v_emerg_owed := by
  subst ev_msgs_flight; subst ev_msgs_deposit; subst ev_msgs_outbound; subst ev_msgs_inbound; subst ev_msgs_triplog; subst ev_emerg_owed;
  unfold State.answerRead; dsimp only; (repeat' split) <;> simp (maxDischargeDepth := 12) [hl]

@[simp] theorem State.hold_queueOk (h : HeldCycle) {s : State} {v_msgs_flight} (ev_msgs_flight : s.msgs.flight = v_msgs_flight)
    {v_msgs_deposit} (ev_msgs_deposit : s.msgs.deposit = v_msgs_deposit) {v_msgs_outbound}
    (ev_msgs_outbound : s.msgs.outbound = v_msgs_outbound) {v_msgs_inbound} (ev_msgs_inbound : s.msgs.inbound = v_msgs_inbound)
    {v_msgs_triplog} (ev_msgs_triplog : s.msgs.triplog = v_msgs_triplog) {v_trips_deposit}
    (ev_trips_deposit : s.trips.deposit = v_trips_deposit) {v_power_startUp} (ev_power_startUp : s.power.startUp = v_power_startUp)
    {v_emerg_owed} (ev_emerg_owed : s.emerg.owed = v_emerg_owed)
    (hl : QueueOk s.path.queue s.path.under s.msgs.flight s.msgs.deposit s.msgs.outbound s.msgs.inbound s.msgs.triplog s.trips.deposit s.power.startUp s.emerg.owed) :
    QueueOk (State.hold h s).path.queue
          (State.hold h s).path.under v_msgs_flight v_msgs_deposit v_msgs_outbound v_msgs_inbound v_msgs_triplog v_trips_deposit v_power_startUp v_emerg_owed := by
  subst ev_msgs_flight; subst ev_msgs_deposit; subst ev_msgs_outbound; subst ev_msgs_inbound; subst ev_msgs_triplog; subst ev_trips_deposit; subst ev_power_startUp; subst ev_emerg_owed;
  unfold State.hold; (repeat' split) <;> simp (maxDischargeDepth := 12) [hl]

theorem State.processorWrite?_queueOk {a : BitVec 19} {l : Lanes} {d : Word} {s t : State}
    (h : s.processorWrite? a l d = some t)
          (hl : QueueOk s.path.queue s.path.under s.msgs.flight s.msgs.deposit s.msgs.outbound s.msgs.inbound s.msgs.triplog s.trips.deposit s.power.startUp s.emerg.owed) : QueueOk t.path.queue t.path.under t.msgs.flight t.msgs.deposit t.msgs.outbound t.msgs.inbound t.msgs.triplog t.trips.deposit t.power.startUp t.emerg.owed := by
  unfold State.processorWrite? at h; dsimp only at h; split at h
  · simp only [Option.map_eq_some_iff] at h
    obtain ⟨p, hp, rfl⟩ := h
    have := (MemoryPath.post_eq hp).1
    rw [this]
    exact State.acceptWrite_queueOk _ _ _ _ hl
  · cases h
    exact State.acceptWrite_queueOk _ _ _ _ hl

theorem State.attempt_queueOk {h : HeldCycle} {s t : State} (e : s.attempt h = .done t)
    (hl : QueueOk s.path.queue s.path.under s.msgs.flight s.msgs.deposit s.msgs.outbound s.msgs.inbound s.msgs.triplog s.trips.deposit s.power.startUp s.emerg.owed) : QueueOk t.path.queue t.path.under t.msgs.flight t.msgs.deposit t.msgs.outbound t.msgs.inbound t.msgs.triplog t.trips.deposit t.power.startUp t.emerg.owed := by
  unfold State.attempt at e
  split at e
  · split at e
    · rename_i w; cases e; exact State.processorWrite?_queueOk w hl
    · cases e
  · split at e
    · cases e
    · split at e
      · cases e
      · cases e; simp (maxDischargeDepth := 12) [hl]

@[simp] theorem State.processorCycle_queueOk (c : BusCycle) {s : State}
    (hl : QueueOk s.path.queue s.path.under s.msgs.flight s.msgs.deposit s.msgs.outbound s.msgs.inbound s.msgs.triplog s.trips.deposit s.power.startUp s.emerg.owed) :
    QueueOk (State.processorCycle c s).path.queue (State.processorCycle c s).path.under (State.processorCycle c s).msgs.flight
          (State.processorCycle c s).msgs.deposit (State.processorCycle c s).msgs.outbound (State.processorCycle c s).msgs.inbound
          (State.processorCycle c s).msgs.triplog (State.processorCycle c s).trips.deposit (State.processorCycle c s).power.startUp
          (State.processorCycle c s).emerg.owed := by
  unfold State.processorCycle; split
  · simp (maxDischargeDepth := 12) [hl]
  · split
    · rename_i e; exact State.attempt_queueOk e hl
    · simp (maxDischargeDepth := 12) [hl]

@[simp] theorem State.serviceList_queueOk (hs : List HeldCycle) {s : State}
    (hl : QueueOk s.path.queue s.path.under s.msgs.flight s.msgs.deposit s.msgs.outbound s.msgs.inbound s.msgs.triplog s.trips.deposit s.power.startUp s.emerg.owed) :
    QueueOk (State.serviceList hs s).path.queue (State.serviceList hs s).path.under (State.serviceList hs s).msgs.flight
          (State.serviceList hs s).msgs.deposit (State.serviceList hs s).msgs.outbound (State.serviceList hs s).msgs.inbound
          (State.serviceList hs s).msgs.triplog (State.serviceList hs s).trips.deposit (State.serviceList hs s).power.startUp
          (State.serviceList hs s).emerg.owed := by
  induction hs generalizing s with
  | nil => unfold State.serviceList; simp (maxDischargeDepth := 12) [hl]
  | cons h rest ih =>
    unfold State.serviceList; split
    · simp (maxDischargeDepth := 12) [hl]
    · split
      · rename_i t e; exact ih (State.attempt_queueOk e hl)
      · simp (maxDischargeDepth := 12) [hl]

@[simp] theorem State.service_queueOk {s : State}
    (hl : QueueOk s.path.queue s.path.under s.msgs.flight s.msgs.deposit s.msgs.outbound s.msgs.inbound s.msgs.triplog s.trips.deposit s.power.startUp s.emerg.owed) :
    QueueOk (State.service s).path.queue (State.service s).path.under (State.service s).msgs.flight (State.service s).msgs.deposit
          (State.service s).msgs.outbound (State.service s).msgs.inbound (State.service s).msgs.triplog (State.service s).trips.deposit
          (State.service s).power.startUp (State.service s).emerg.owed := by
  unfold State.service; (repeat' split) <;> simp (maxDischargeDepth := 12) [hl]

@[simp] theorem State.startDrain_queueOk {s : State} {v_msgs_flight} (ev_msgs_flight : s.msgs.flight = v_msgs_flight) {v_msgs_deposit}
    (ev_msgs_deposit : s.msgs.deposit = v_msgs_deposit) {v_msgs_outbound} (ev_msgs_outbound : s.msgs.outbound = v_msgs_outbound)
    {v_msgs_inbound} (ev_msgs_inbound : s.msgs.inbound = v_msgs_inbound) {v_msgs_triplog}
    (ev_msgs_triplog : s.msgs.triplog = v_msgs_triplog) {v_trips_deposit} (ev_trips_deposit : s.trips.deposit = v_trips_deposit)
    {v_power_startUp} (ev_power_startUp : s.power.startUp = v_power_startUp) {v_emerg_owed} (ev_emerg_owed : s.emerg.owed = v_emerg_owed)
    (hl : QueueOk s.path.queue s.path.under s.msgs.flight s.msgs.deposit s.msgs.outbound s.msgs.inbound s.msgs.triplog s.trips.deposit s.power.startUp s.emerg.owed) :
    QueueOk (State.startDrain s).path.queue
          (State.startDrain s).path.under v_msgs_flight v_msgs_deposit v_msgs_outbound v_msgs_inbound v_msgs_triplog v_trips_deposit v_power_startUp v_emerg_owed := by
  subst ev_msgs_flight; subst ev_msgs_deposit; subst ev_msgs_outbound; subst ev_msgs_inbound; subst ev_msgs_triplog; subst ev_trips_deposit; subst ev_power_startUp; subst ev_emerg_owed;
  unfold State.startDrain; (repeat' split) <;> simp (maxDischargeDepth := 12) [hl]

@[simp] theorem State.completeDrain_queueOk {s : State}
    (hl : QueueOk s.path.queue s.path.under s.msgs.flight s.msgs.deposit s.msgs.outbound s.msgs.inbound s.msgs.triplog s.trips.deposit s.power.startUp s.emerg.owed) :
    QueueOk (State.completeDrain s).path.queue (State.completeDrain s).path.under (State.completeDrain s).msgs.flight
          (State.completeDrain s).msgs.deposit (State.completeDrain s).msgs.outbound (State.completeDrain s).msgs.inbound
          (State.completeDrain s).msgs.triplog (State.completeDrain s).trips.deposit (State.completeDrain s).power.startUp
          (State.completeDrain s).emerg.owed := by
  have hd : QueueOk s.path.drained.queue s.path.drained.under s.msgs.flight s.msgs.deposit s.msgs.outbound s.msgs.inbound s.msgs.triplog
      s.trips.deposit s.power.startUp s.emerg.owed := by
    have e1 : s.path.drained.queue.map (·.kind) = s.path.queue.map (·.kind) := by simp [MemoryPath.drained, unmark]
    have e2 : s.path.drained.under.map (·.kind) = s.path.under.map (·.kind) := by
      cases h : s.path.under <;> simp [MemoryPath.drained, h]
    obtain ⟨h1, h2, h3, h4, h5, h6, h7, h8, h9, h10, h11, h12⟩ := hl
    unfold QueueOk
    rw [e1, e2]
    refine ⟨h1, h2, h3, ?_, h5, h6, h7, h8, h9, h10, h11, h12⟩
    intro u hu
    simp only [MemoryPath.drained, Option.map_eq_some_iff] at hu
    obtain ⟨v, hv, rfl⟩ := hu
    exact h4 v hv
  unfold State.completeDrain; split
  · exact State.service_queueOk (by simpa using hd)
  · exact State.service_queueOk (by simpa using hd)
  · exact hl

@[simp] theorem State.handOver_queueOk (k : OpKind) {s : State} {v_path_queue} (ev_path_queue : s.path.queue = v_path_queue) {v_path_under}
    (ev_path_under : s.path.under = v_path_under) {v_msgs_flight} (ev_msgs_flight : s.msgs.flight = v_msgs_flight) {v_msgs_deposit}
    (ev_msgs_deposit : s.msgs.deposit = v_msgs_deposit) {v_msgs_outbound} (ev_msgs_outbound : s.msgs.outbound = v_msgs_outbound)
    {v_msgs_inbound} (ev_msgs_inbound : s.msgs.inbound = v_msgs_inbound) {v_msgs_triplog}
    (ev_msgs_triplog : s.msgs.triplog = v_msgs_triplog) {v_trips_deposit} (ev_trips_deposit : s.trips.deposit = v_trips_deposit)
    {v_power_startUp} (ev_power_startUp : s.power.startUp = v_power_startUp)
    (hl : QueueOk s.path.queue s.path.under s.msgs.flight s.msgs.deposit s.msgs.outbound s.msgs.inbound s.msgs.triplog s.trips.deposit s.power.startUp s.emerg.owed) :
    QueueOk v_path_queue v_path_under v_msgs_flight v_msgs_deposit v_msgs_outbound v_msgs_inbound v_msgs_triplog v_trips_deposit v_power_startUp (State.handOver k s).emerg.owed := by
  subst ev_path_queue; subst ev_path_under; subst ev_msgs_flight; subst ev_msgs_deposit; subst ev_msgs_outbound; subst ev_msgs_inbound; subst ev_msgs_triplog; subst ev_trips_deposit; subst ev_power_startUp;
  unfold State.handOver; (repeat' split) <;> simp (maxDischargeDepth := 12) [hl]

@[simp] theorem State.startOperation_queueOk {s : State} {v_msgs_flight} (ev_msgs_flight : s.msgs.flight = v_msgs_flight) {v_msgs_deposit}
    (ev_msgs_deposit : s.msgs.deposit = v_msgs_deposit) {v_msgs_outbound} (ev_msgs_outbound : s.msgs.outbound = v_msgs_outbound)
    {v_msgs_inbound} (ev_msgs_inbound : s.msgs.inbound = v_msgs_inbound) {v_msgs_triplog}
    (ev_msgs_triplog : s.msgs.triplog = v_msgs_triplog) {v_trips_deposit} (ev_trips_deposit : s.trips.deposit = v_trips_deposit)
    {v_power_startUp} (ev_power_startUp : s.power.startUp = v_power_startUp)
    (hl : QueueOk s.path.queue s.path.under s.msgs.flight s.msgs.deposit s.msgs.outbound s.msgs.inbound s.msgs.triplog s.trips.deposit s.power.startUp s.emerg.owed) :
    QueueOk (State.startOperation s).path.queue
          (State.startOperation s).path.under v_msgs_flight v_msgs_deposit v_msgs_outbound v_msgs_inbound v_msgs_triplog v_trips_deposit v_power_startUp (State.startOperation s).emerg.owed := by
  subst ev_msgs_flight; subst ev_msgs_deposit; subst ev_msgs_outbound; subst ev_msgs_inbound; subst ev_msgs_triplog; subst ev_trips_deposit; subst ev_power_startUp;
  unfold State.startOperation; split
  · rename_i o rest hu hq
    split
    · have hk : s.path.queue.map (·.kind) = o.kind :: rest.map (·.kind) := by rw [hq]; rfl
      obtain ⟨h1, h2, h3, h4, h5, h6, h7, h8, h9, h10, h11, h12⟩ := hl
      rw [hk] at h1 h2 h3 h5 h6 h7 h10
      rw [List.nodup_cons] at h1
      have hm : ∀ {k}, k ∈ rest.map (·.kind) → k ∈ o.kind :: rest.map (·.kind) := fun h => List.mem_cons_of_mem _ h
      have h0 : ∀ u : UnderWay, u.kind = o.kind → QueueOk rest
            (some u) s.msgs.flight s.msgs.deposit s.msgs.outbound s.msgs.inbound s.msgs.triplog
          s.trips.deposit s.power.startUp s.emerg.owed := by
        intro u hk2
        refine ⟨h1.2, fun h => h2 (hm h), fun h => h3 (hm h), ?_, ?_, ?_, ?_, ?_, ?_, fun h => h10 (hm h), ?_, ?_⟩
        · intro v e1 e2 _; cases e1
          exact ⟨h3 (by simp [← hk2, e2]), fun h => h1.1 (by rw [← hk2, e2]; exact h)⟩
        · rintro (h | h)
          · exact h5 (Or.inl (hm h))
          · exact h5 (Or.inl (by simp at h; simp [← hk2, h]))
        · rintro (h | h)
          · exact h6 (Or.inl (hm h))
          · exact h6 (Or.inl (by simp at h; simp [← hk2, h]))
        · rintro (h | h)
          · exact h7 (Or.inl (hm h))
          · exact h7 (Or.inl (by simp at h; simp [← hk2, h]))
        · rintro r (h | h)
          · exact h8 r (Or.inl (by rw [hk]; exact hm h))
          · exact h8 r (Or.inl (by rw [hk]; simp at h; simp [← hk2, h]))
        · intro k e1 _ h; simp at e1; subst e1; rw [hk2] at h; exact h1.1 h
        · intro r h; exact h11 r (by rw [hk]; exact hm h)
        · intro h; have := (h12 h).1; rw [hu] at this; cases this
      have := h0 ⟨o.kind, (s.content o.kind).cycles, [], (s.content o.kind).causes, (s.content o.kind).carriesClear, o.mark⟩ rfl
      dsimp only
      have ho : ∀ (k : OpKind) (s : State), (State.handOver k s).emerg.owed = s.emerg.owed := by intro k s; cases k <;> rfl
      simpa [State.arbitrate, ho] using this
    · exact hl
  · exact hl

@[simp] theorem State.afterCycle_queueOk {s : State} {v_msgs_deposit} (ev_msgs_deposit : s.msgs.deposit = v_msgs_deposit) {v_trips_deposit}
    (ev_trips_deposit : s.trips.deposit = v_trips_deposit) {v_power_startUp} (ev_power_startUp : s.power.startUp = v_power_startUp)
    {v_emerg_owed} (ev_emerg_owed : s.emerg.owed = v_emerg_owed)
    (hl : QueueOk s.path.queue s.path.under s.msgs.flight s.msgs.deposit s.msgs.outbound s.msgs.inbound s.msgs.triplog s.trips.deposit s.power.startUp s.emerg.owed) (hf : ∀ u, s.path.under = some u → u.kind = .outboundFetch →
      s.msgs.flight = .fetching .reading ∧ .outboundFetch ∉ s.path.queue.map (·.kind)) :
    QueueOk (State.afterCycle s).path.queue (State.afterCycle s).path.under (State.afterCycle s).msgs.flight v_msgs_deposit
          (State.afterCycle s).msgs.outbound (State.afterCycle s).msgs.inbound
          (State.afterCycle s).msgs.triplog v_trips_deposit v_power_startUp v_emerg_owed := by
  subst ev_msgs_deposit; subst ev_trips_deposit; subst ev_power_startUp; subst ev_emerg_owed;
  unfold State.afterCycle; split
  · rename_i u hu
    split
    · rename_i hk
      simp only [beq_iff_eq] at hk
      obtain ⟨h1, h2, h3, h4, h5, h6, h7, h8, h9, h10, h11, h12⟩ := hl
      refine ⟨h1, h2, h3, by simp [State.endOperation], ?_, ?_, ?_, ?_, by simp [State.endOperation], h10, h11, ?_⟩
      · rintro (h | h)
        · exact h5 (Or.inl h)
        · simp [State.endOperation] at h
      · rintro (h | h)
        · exact h6 (Or.inl h)
        · simp [State.endOperation] at h
      · rintro (h | h)
        · exact h7 (Or.inl h)
        · simp [State.endOperation] at h
      · rintro r (h | h)
        · exact h8 r (Or.inl h)
        · simp [State.endOperation] at h
      · intro h; have := (h12 h).1; rw [hu] at this; simp [hk] at this
    · split
      · rename_i hk
        simp only [Bool.and_eq_true, beq_iff_eq, List.isEmpty_iff] at hk
        obtain ⟨hr, hq⟩ := hf u hu hk.1
        simpa using State.continueFetch_queueOk _ rfl rfl rfl rfl rfl hl hu hk.1 hk.2 hr hq
      · exact hl
  · exact hl

@[simp] theorem State.internalCycle_queueOk {s : State}
    (hl : QueueOk s.path.queue s.path.under s.msgs.flight s.msgs.deposit s.msgs.outbound s.msgs.inbound s.msgs.triplog s.trips.deposit s.power.startUp s.emerg.owed) :
    QueueOk (State.internalCycle s).path.queue (State.internalCycle s).path.under (State.internalCycle s).msgs.flight
          (State.internalCycle s).msgs.deposit (State.internalCycle s).msgs.outbound (State.internalCycle s).msgs.inbound
          (State.internalCycle s).msgs.triplog (State.internalCycle s).trips.deposit (State.internalCycle s).power.startUp
          (State.internalCycle s).emerg.owed := by
  unfold State.internalCycle; split
  · split
    · rename_i u hu
      split
      · rename_i c rest hc
        have hf : ∀ v : UnderWay, v.kind = u.kind → v.kind = .outboundFetch →
            s.msgs.flight = .fetching .reading ∧ .outboundFetch ∉ s.path.queue.map (·.kind) :=
          fun v e1 e2 => hl.2.2.2.1 u hu (by rw [← e1, e2]) (by simp [hc])
        have hr : ∀ v : UnderWay, v.kind = u.kind → QueueOk s.path.queue
              (some v) s.msgs.flight s.msgs.deposit s.msgs.outbound s.msgs.inbound
            s.msgs.triplog s.trips.deposit s.power.startUp s.emerg.owed := by
          intro v hv
          obtain ⟨h1, h2, h3, h4, h5, h6, h7, h8, h9, h10, h11, h12⟩ := hl
          rw [hu] at h4 h5 h6 h7 h8 h9 h12
          refine ⟨h1, h2, h3, ?_, by simpa [hv] using h5, by simpa [hv] using h6, by simpa [hv] using h7, by simpa [hv] using h8,
            by simpa [hv] using h9, h10, h11, by simpa [hv] using h12⟩
          intro w e1 e2 _; cases e1; exact hf v hv e2
        have h6 : QueueOk (s.runCycle u c rest).path.queue (s.runCycle u c rest).path.under (s.runCycle u c rest).msgs.flight
              (s.runCycle u c rest).msgs.deposit (s.runCycle u c rest).msgs.outbound (s.runCycle u c rest).msgs.inbound
              (s.runCycle u c rest).msgs.triplog (s.runCycle u c rest).trips.deposit (s.runCycle u c rest).power.startUp
              (s.runCycle u c rest).emerg.owed := by cases c <;> exact hr _ rfl
        have h7 := State.afterCycle_queueOk rfl rfl rfl rfl h6
          (by intro v hv hk; cases c <;> (simp only [State.runCycle, Option.some.injEq] at hv; subst hv; exact hf _ rfl hk))
        refine State.service_queueOk ?_
        simpa using h7
      · exact hl
    · exact hl
  · exact hl

@[simp] theorem State.startSlot_queueOk {s : State} {v_path_queue} (ev_path_queue : s.path.queue = v_path_queue) {v_path_under}
    (ev_path_under : s.path.under = v_path_under) {v_msgs_deposit} (ev_msgs_deposit : s.msgs.deposit = v_msgs_deposit) {v_msgs_outbound}
    (ev_msgs_outbound : s.msgs.outbound = v_msgs_outbound) {v_msgs_inbound} (ev_msgs_inbound : s.msgs.inbound = v_msgs_inbound)
    {v_msgs_triplog} (ev_msgs_triplog : s.msgs.triplog = v_msgs_triplog) {v_trips_deposit}
    (ev_trips_deposit : s.trips.deposit = v_trips_deposit) {v_power_startUp} (ev_power_startUp : s.power.startUp = v_power_startUp)
    {v_emerg_owed} (ev_emerg_owed : s.emerg.owed = v_emerg_owed)
    (hl : QueueOk s.path.queue s.path.under s.msgs.flight s.msgs.deposit s.msgs.outbound s.msgs.inbound s.msgs.triplog s.trips.deposit s.power.startUp s.emerg.owed) :
    QueueOk v_path_queue v_path_under
          (State.startSlot s).msgs.flight v_msgs_deposit v_msgs_outbound v_msgs_inbound v_msgs_triplog v_trips_deposit v_power_startUp v_emerg_owed := by
  subst ev_path_queue; subst ev_path_under; subst ev_msgs_deposit; subst ev_msgs_outbound; subst ev_msgs_inbound; subst ev_msgs_triplog; subst ev_trips_deposit; subst ev_power_startUp; subst ev_emerg_owed;
  unfold State.startSlot; dsimp only; (repeat' split) <;> simp (maxDischargeDepth := 12) [hl]

@[simp] theorem State.alertDelivered_queueOk (n : Word) {s : State} {v_path_under} (ev_path_under : s.path.under = v_path_under)
    {v_msgs_flight} (ev_msgs_flight : s.msgs.flight = v_msgs_flight) {v_msgs_deposit} (ev_msgs_deposit : s.msgs.deposit = v_msgs_deposit)
    {v_msgs_outbound} (ev_msgs_outbound : s.msgs.outbound = v_msgs_outbound) {v_msgs_inbound}
    (ev_msgs_inbound : s.msgs.inbound = v_msgs_inbound) {v_msgs_triplog} (ev_msgs_triplog : s.msgs.triplog = v_msgs_triplog)
    {v_trips_deposit} (ev_trips_deposit : s.trips.deposit = v_trips_deposit) {v_power_startUp}
    (ev_power_startUp : s.power.startUp = v_power_startUp)
    (hl : QueueOk s.path.queue s.path.under s.msgs.flight s.msgs.deposit s.msgs.outbound s.msgs.inbound s.msgs.triplog s.trips.deposit s.power.startUp s.emerg.owed) :
    QueueOk (State.alertDelivered n s).path.queue v_path_under v_msgs_flight v_msgs_deposit v_msgs_outbound v_msgs_inbound v_msgs_triplog v_trips_deposit v_power_startUp (State.alertDelivered n s).emerg.owed := by
  subst ev_path_under; subst ev_msgs_flight; subst ev_msgs_deposit; subst ev_msgs_outbound; subst ev_msgs_inbound; subst ev_msgs_triplog; subst ev_trips_deposit; subst ev_power_startUp;
  unfold State.alertDelivered; (repeat' split) <;> simp (maxDischargeDepth := 12) [hl]

@[simp] theorem State.deliver_queueOk (f : Sending) {s : State} {v_path_under} (ev_path_under : s.path.under = v_path_under)
    {v_msgs_deposit} (ev_msgs_deposit : s.msgs.deposit = v_msgs_deposit) {v_msgs_outbound}
    (ev_msgs_outbound : s.msgs.outbound = v_msgs_outbound) {v_msgs_inbound} (ev_msgs_inbound : s.msgs.inbound = v_msgs_inbound)
    {v_msgs_triplog} (ev_msgs_triplog : s.msgs.triplog = v_msgs_triplog) {v_trips_deposit}
    (ev_trips_deposit : s.trips.deposit = v_trips_deposit) {v_power_startUp} (ev_power_startUp : s.power.startUp = v_power_startUp)
    (hl : QueueOk s.path.queue s.path.under s.msgs.flight s.msgs.deposit s.msgs.outbound s.msgs.inbound s.msgs.triplog s.trips.deposit s.power.startUp s.emerg.owed) :
    QueueOk (State.deliver f s).path.queue v_path_under
          (State.deliver f s).msgs.flight v_msgs_deposit v_msgs_outbound v_msgs_inbound v_msgs_triplog v_trips_deposit v_power_startUp
          (State.deliver f s).emerg.owed := by
  subst ev_path_under; subst ev_msgs_deposit; subst ev_msgs_outbound; subst ev_msgs_inbound; subst ev_msgs_triplog; subst ev_trips_deposit; subst ev_power_startUp;
  unfold State.deliver; (repeat' split) <;> simp (maxDischargeDepth := 12) [hl]

@[simp] theorem State.transmitted_queueOk (f : Sending) {s : State} {v_path_under} (ev_path_under : s.path.under = v_path_under)
    {v_msgs_flight} (ev_msgs_flight : s.msgs.flight = v_msgs_flight) {v_msgs_deposit} (ev_msgs_deposit : s.msgs.deposit = v_msgs_deposit)
    {v_msgs_outbound} (ev_msgs_outbound : s.msgs.outbound = v_msgs_outbound) {v_msgs_inbound}
    (ev_msgs_inbound : s.msgs.inbound = v_msgs_inbound) {v_msgs_triplog} (ev_msgs_triplog : s.msgs.triplog = v_msgs_triplog)
    {v_trips_deposit} (ev_trips_deposit : s.trips.deposit = v_trips_deposit) {v_power_startUp}
    (ev_power_startUp : s.power.startUp = v_power_startUp)
    (hl : QueueOk s.path.queue s.path.under s.msgs.flight s.msgs.deposit s.msgs.outbound s.msgs.inbound s.msgs.triplog s.trips.deposit s.power.startUp s.emerg.owed) :
    QueueOk (State.transmitted f s).path.queue v_path_under v_msgs_flight v_msgs_deposit v_msgs_outbound v_msgs_inbound v_msgs_triplog v_trips_deposit v_power_startUp (State.transmitted f s).emerg.owed := by
  subst ev_path_under; subst ev_msgs_flight; subst ev_msgs_deposit; subst ev_msgs_outbound; subst ev_msgs_inbound; subst ev_msgs_triplog; subst ev_trips_deposit; subst ev_power_startUp;
  unfold State.transmitted; (repeat' split) <;> simp (maxDischargeDepth := 12) [hl]

@[simp] theorem State.shortSent_queueOk {s : State} {v_path_under} (ev_path_under : s.path.under = v_path_under) {v_msgs_deposit}
    (ev_msgs_deposit : s.msgs.deposit = v_msgs_deposit) {v_msgs_outbound} (ev_msgs_outbound : s.msgs.outbound = v_msgs_outbound)
    {v_msgs_inbound} (ev_msgs_inbound : s.msgs.inbound = v_msgs_inbound) {v_msgs_triplog}
    (ev_msgs_triplog : s.msgs.triplog = v_msgs_triplog) {v_trips_deposit} (ev_trips_deposit : s.trips.deposit = v_trips_deposit)
    {v_power_startUp} (ev_power_startUp : s.power.startUp = v_power_startUp)
    (hl : QueueOk s.path.queue s.path.under s.msgs.flight s.msgs.deposit s.msgs.outbound s.msgs.inbound s.msgs.triplog s.trips.deposit s.power.startUp s.emerg.owed) :
    QueueOk (State.shortSent s).path.queue v_path_under
          (State.shortSent s).msgs.flight v_msgs_deposit v_msgs_outbound v_msgs_inbound v_msgs_triplog v_trips_deposit v_power_startUp
          (State.shortSent s).emerg.owed := by
  subst ev_path_under; subst ev_msgs_deposit; subst ev_msgs_outbound; subst ev_msgs_inbound; subst ev_msgs_triplog; subst ev_trips_deposit; subst ev_power_startUp;
  unfold State.shortSent; (repeat' split) <;> simp (maxDischargeDepth := 12) [hl]

@[simp] theorem State.longDelivered_queueOk (f : Sending) {s : State} {v_path_queue} (ev_path_queue : s.path.queue = v_path_queue)
    {v_path_under} (ev_path_under : s.path.under = v_path_under) {v_msgs_deposit} (ev_msgs_deposit : s.msgs.deposit = v_msgs_deposit)
    {v_msgs_outbound} (ev_msgs_outbound : s.msgs.outbound = v_msgs_outbound) {v_msgs_inbound}
    (ev_msgs_inbound : s.msgs.inbound = v_msgs_inbound) {v_msgs_triplog} (ev_msgs_triplog : s.msgs.triplog = v_msgs_triplog)
    {v_trips_deposit} (ev_trips_deposit : s.trips.deposit = v_trips_deposit) {v_power_startUp}
    (ev_power_startUp : s.power.startUp = v_power_startUp) {v_emerg_owed} (ev_emerg_owed : s.emerg.owed = v_emerg_owed)
    (hl : QueueOk s.path.queue s.path.under s.msgs.flight s.msgs.deposit s.msgs.outbound s.msgs.inbound s.msgs.triplog s.trips.deposit s.power.startUp s.emerg.owed) :
    QueueOk v_path_queue v_path_under
          (State.longDelivered f s).msgs.flight v_msgs_deposit v_msgs_outbound v_msgs_inbound v_msgs_triplog v_trips_deposit v_power_startUp v_emerg_owed := by
  subst ev_path_queue; subst ev_path_under; subst ev_msgs_deposit; subst ev_msgs_outbound; subst ev_msgs_inbound; subst ev_msgs_triplog; subst ev_trips_deposit; subst ev_power_startUp; subst ev_emerg_owed;
  unfold State.longDelivered; (repeat' split) <;> simp (maxDischargeDepth := 12) [hl]

@[simp] theorem State.longSent_queueOk {s : State} {v_path_queue} (ev_path_queue : s.path.queue = v_path_queue) {v_path_under}
    (ev_path_under : s.path.under = v_path_under) {v_msgs_deposit} (ev_msgs_deposit : s.msgs.deposit = v_msgs_deposit) {v_msgs_outbound}
    (ev_msgs_outbound : s.msgs.outbound = v_msgs_outbound) {v_msgs_inbound} (ev_msgs_inbound : s.msgs.inbound = v_msgs_inbound)
    {v_msgs_triplog} (ev_msgs_triplog : s.msgs.triplog = v_msgs_triplog) {v_trips_deposit}
    (ev_trips_deposit : s.trips.deposit = v_trips_deposit) {v_power_startUp} (ev_power_startUp : s.power.startUp = v_power_startUp)
    {v_emerg_owed} (ev_emerg_owed : s.emerg.owed = v_emerg_owed)
    (hl : QueueOk s.path.queue s.path.under s.msgs.flight s.msgs.deposit s.msgs.outbound s.msgs.inbound s.msgs.triplog s.trips.deposit s.power.startUp s.emerg.owed) :
    QueueOk v_path_queue v_path_under
          (State.longSent s).msgs.flight v_msgs_deposit v_msgs_outbound v_msgs_inbound v_msgs_triplog v_trips_deposit v_power_startUp v_emerg_owed := by
  subst ev_path_queue; subst ev_path_under; subst ev_msgs_deposit; subst ev_msgs_outbound; subst ev_msgs_inbound; subst ev_msgs_triplog; subst ev_trips_deposit; subst ev_power_startUp; subst ev_emerg_owed;
  unfold State.longSent; (repeat' split) <;> simp (maxDischargeDepth := 12) [hl]

@[simp] theorem State.configFault_queueOk (r : FaultReason) (i : Byte) {s : State} {v_path_queue}
    (ev_path_queue : s.path.queue = v_path_queue) {v_path_under} (ev_path_under : s.path.under = v_path_under) {v_msgs_flight}
    (ev_msgs_flight : s.msgs.flight = v_msgs_flight) {v_msgs_deposit} (ev_msgs_deposit : s.msgs.deposit = v_msgs_deposit) {v_msgs_outbound}
    (ev_msgs_outbound : s.msgs.outbound = v_msgs_outbound) {v_msgs_inbound} (ev_msgs_inbound : s.msgs.inbound = v_msgs_inbound)
    {v_msgs_triplog} (ev_msgs_triplog : s.msgs.triplog = v_msgs_triplog) {v_trips_deposit}
    (ev_trips_deposit : s.trips.deposit = v_trips_deposit) {v_emerg_owed} (ev_emerg_owed : s.emerg.owed = v_emerg_owed)
    (hl : QueueOk s.path.queue s.path.under s.msgs.flight s.msgs.deposit s.msgs.outbound s.msgs.inbound s.msgs.triplog s.trips.deposit s.power.startUp s.emerg.owed) (hs : s.power.startUp = .loading) :
    QueueOk v_path_queue v_path_under v_msgs_flight v_msgs_deposit v_msgs_outbound v_msgs_inbound v_msgs_triplog v_trips_deposit
          (State.configFault r i s).power.startUp v_emerg_owed := by
  subst ev_path_queue; subst ev_path_under; subst ev_msgs_flight; subst ev_msgs_deposit; subst ev_msgs_outbound; subst ev_msgs_inbound; subst ev_msgs_triplog; subst ev_trips_deposit; subst ev_emerg_owed;
  obtain ⟨h1, h2, h3, h4, h5, h6, h7, h8, h9, h10, h11, h12⟩ := hl
  refine ⟨h1, h2, h3, h4, h5, h6, h7, h8, h9, fun h => ?_, fun r h => ?_, h12⟩
  · have := h10 h; rw [hs] at this; cases this
  · have := h11 r h; rw [hs] at this; cases this

@[simp] theorem State.attemptFails_queueOk {s : State} {v_path_queue} (ev_path_queue : s.path.queue = v_path_queue) {v_path_under}
    (ev_path_under : s.path.under = v_path_under) {v_msgs_flight} (ev_msgs_flight : s.msgs.flight = v_msgs_flight) {v_msgs_deposit}
    (ev_msgs_deposit : s.msgs.deposit = v_msgs_deposit) {v_msgs_outbound} (ev_msgs_outbound : s.msgs.outbound = v_msgs_outbound)
    {v_msgs_inbound} (ev_msgs_inbound : s.msgs.inbound = v_msgs_inbound) {v_msgs_triplog}
    (ev_msgs_triplog : s.msgs.triplog = v_msgs_triplog) {v_trips_deposit} (ev_trips_deposit : s.trips.deposit = v_trips_deposit)
    {v_emerg_owed} (ev_emerg_owed : s.emerg.owed = v_emerg_owed)
    (hl : QueueOk s.path.queue s.path.under s.msgs.flight s.msgs.deposit s.msgs.outbound s.msgs.inbound s.msgs.triplog s.trips.deposit s.power.startUp s.emerg.owed) (hs : s.power.startUp = .loading) :
    QueueOk v_path_queue v_path_under v_msgs_flight v_msgs_deposit v_msgs_outbound v_msgs_inbound v_msgs_triplog v_trips_deposit
          (State.attemptFails s).power.startUp v_emerg_owed := by
  subst ev_path_queue; subst ev_path_under; subst ev_msgs_flight; subst ev_msgs_deposit; subst ev_msgs_outbound; subst ev_msgs_inbound; subst ev_msgs_triplog; subst ev_trips_deposit; subst ev_emerg_owed;
  unfold State.attemptFails; split
  · exact hl
  · exact State.configFault_queueOk _ _ rfl rfl rfl rfl rfl rfl rfl rfl rfl hl hs

@[simp] theorem State.takeImage_queueOk (b : List Byte) {s : State} {v_path_under} (ev_path_under : s.path.under = v_path_under)
    {v_msgs_flight} (ev_msgs_flight : s.msgs.flight = v_msgs_flight) {v_msgs_deposit} (ev_msgs_deposit : s.msgs.deposit = v_msgs_deposit)
    {v_msgs_outbound} (ev_msgs_outbound : s.msgs.outbound = v_msgs_outbound) {v_msgs_inbound}
    (ev_msgs_inbound : s.msgs.inbound = v_msgs_inbound) {v_msgs_triplog} (ev_msgs_triplog : s.msgs.triplog = v_msgs_triplog)
    {v_trips_deposit} (ev_trips_deposit : s.trips.deposit = v_trips_deposit) {v_emerg_owed} (ev_emerg_owed : s.emerg.owed = v_emerg_owed)
    (hl : QueueOk s.path.queue s.path.under s.msgs.flight s.msgs.deposit s.msgs.outbound s.msgs.inbound s.msgs.triplog s.trips.deposit s.power.startUp s.emerg.owed) (hs : s.power.startUp = .loading) :
    QueueOk (State.takeImage b s).path.queue v_path_under v_msgs_flight v_msgs_deposit v_msgs_outbound v_msgs_inbound v_msgs_triplog v_trips_deposit (State.takeImage b s).power.startUp v_emerg_owed := by
  subst ev_path_under; subst ev_msgs_flight; subst ev_msgs_deposit; subst ev_msgs_outbound; subst ev_msgs_inbound; subst ev_msgs_triplog; subst ev_trips_deposit; subst ev_emerg_owed;
  unfold State.takeImage; split
  · simpa using State.configFault_queueOk .check 0#8 rfl rfl rfl rfl rfl rfl rfl rfl rfl hl hs
  · simpa using State.configFault_queueOk .range _ rfl rfl rfl rfl rfl rfl rfl rfl rfl hl hs
  · obtain ⟨h1, h2, h3, h4, h5, h6, h7, h8, h9, h10, h11, h12⟩ := hl
    have hk : (recoveryQueue s.path.buffer.length).map (·.kind) = .recoveryRead :: allEntries.map OpKind.offerRewrite := by
      simp [recoveryQueue, Function.comp_def]
    have hm : ∀ k : OpKind, k ∈ (recoveryQueue s.path.buffer.length).map (·.kind) → k = .recoveryRead ∨ ∃ n, k = .offerRewrite n := by
      intro k h; rw [hk] at h; simp at h; rcases h with h | ⟨n, -, h⟩
      · exact Or.inl h
      · exact Or.inr ⟨n, h.symm⟩
    have hn : ∀ k : OpKind, k ≠ .recoveryRead → (∀ n, k ≠ .offerRewrite n) → k ∉ (recoveryQueue s.path.buffer.length).map (·.kind) := by
      intro k a b h; rcases hm k h with h | ⟨n, h⟩
      · exact a h
      · exact b n h
    refine ⟨by rw [hk]; decide, hn _ (by simp) (by simp), fun h => absurd h (hn _ (by simp) (by simp)),
      fun u e1 e2 e3 => ⟨(h4 u e1 e2 e3).1, hn _ (by simp) (by simp)⟩,
      fun h => h5 (h.imp (fun h => absurd h (hn _ (by simp) (by simp))) id), fun h => h6
            (h.imp (fun h => absurd h (hn _ (by simp) (by simp))) id),
      fun h => h7 (h.imp (fun h => absurd h (hn _ (by simp) (by simp))) id),
      fun r h => h8 r (h.imp (fun h => absurd h (hn _ (by simp) (by simp))) id), ?_, fun _ => rfl,
      fun r h => absurd h (hn _ (by simp) (by simp)), fun h => ⟨(h12 h).1, hn _ (by simp) (by simp)⟩⟩
    intro k _ ho; cases k <;> first | (simp [OpKind.once] at ho; done) | exact hn _ (by simp) (by simp)

@[simp] theorem State.powerOn_queueOk (a : BitVec 4) {s : State} :
    QueueOk (State.powerOn a s).path.queue (State.powerOn a s).path.under (State.powerOn a s).msgs.flight (State.powerOn a s).msgs.deposit
          (State.powerOn a s).msgs.outbound (State.powerOn a s).msgs.inbound (State.powerOn a s).msgs.triplog
          (State.powerOn a s).trips.deposit (State.powerOn a s).power.startUp (State.powerOn a s).emerg.owed := by
  refine State.service_queueOk ?_
  simp [QueueOk, State.reset, MemoryPath.reset, MessageEngine.reset, TripEngine.reset, EmergencyUnit.reset, PowerUnit.reset]

@[simp] theorem State.tickTimers_queueOk {s : State} {v_path_queue} (ev_path_queue : s.path.queue = v_path_queue) {v_path_under}
    (ev_path_under : s.path.under = v_path_under) {v_msgs_deposit} (ev_msgs_deposit : s.msgs.deposit = v_msgs_deposit) {v_msgs_outbound}
    (ev_msgs_outbound : s.msgs.outbound = v_msgs_outbound) {v_msgs_inbound} (ev_msgs_inbound : s.msgs.inbound = v_msgs_inbound)
    {v_msgs_triplog} (ev_msgs_triplog : s.msgs.triplog = v_msgs_triplog) {v_trips_deposit}
    (ev_trips_deposit : s.trips.deposit = v_trips_deposit) {v_power_startUp} (ev_power_startUp : s.power.startUp = v_power_startUp)
    {v_emerg_owed} (ev_emerg_owed : s.emerg.owed = v_emerg_owed)
    (hl : QueueOk s.path.queue s.path.under s.msgs.flight s.msgs.deposit s.msgs.outbound s.msgs.inbound s.msgs.triplog s.trips.deposit s.power.startUp s.emerg.owed) :
    QueueOk v_path_queue v_path_under
          (State.tickTimers s).msgs.flight v_msgs_deposit v_msgs_outbound v_msgs_inbound v_msgs_triplog v_trips_deposit v_power_startUp v_emerg_owed := by
  subst ev_path_queue; subst ev_path_under; subst ev_msgs_deposit; subst ev_msgs_outbound; subst ev_msgs_inbound; subst ev_msgs_triplog; subst ev_trips_deposit; subst ev_power_startUp; subst ev_emerg_owed;
  have hf : ∀ {q u md ob ib tl td st ow} {f : Outbound}, QueueOk q u f md ob ib tl td st ow → QueueOk q u f.tick md ob ib tl td st ow := by
    rintro q u md ob ib tl td st ow f ⟨h1, h2, h3, h4, h5, h6, h7, h8, h9, h10, h11, h12⟩
    cases f <;> exact ⟨h1, h2, by simpa [Outbound.tick] using h3, by simpa [Outbound.tick] using h4, by simpa [Outbound.tick] using h5, h6, h7, h8, h9, h10, h11, h12⟩
  exact hf hl

@[simp] theorem State.second_queueOk {s : State} {v_path_queue} (ev_path_queue : s.path.queue = v_path_queue) {v_path_under}
    (ev_path_under : s.path.under = v_path_under) {v_msgs_deposit} (ev_msgs_deposit : s.msgs.deposit = v_msgs_deposit) {v_msgs_outbound}
    (ev_msgs_outbound : s.msgs.outbound = v_msgs_outbound) {v_msgs_inbound} (ev_msgs_inbound : s.msgs.inbound = v_msgs_inbound)
    {v_msgs_triplog} (ev_msgs_triplog : s.msgs.triplog = v_msgs_triplog) {v_trips_deposit}
    (ev_trips_deposit : s.trips.deposit = v_trips_deposit) {v_power_startUp} (ev_power_startUp : s.power.startUp = v_power_startUp)
    {v_emerg_owed} (ev_emerg_owed : s.emerg.owed = v_emerg_owed)
    (hl : QueueOk s.path.queue s.path.under s.msgs.flight s.msgs.deposit s.msgs.outbound s.msgs.inbound s.msgs.triplog s.trips.deposit s.power.startUp s.emerg.owed) :
    QueueOk v_path_queue v_path_under
          (State.second s).msgs.flight v_msgs_deposit v_msgs_outbound v_msgs_inbound v_msgs_triplog v_trips_deposit v_power_startUp v_emerg_owed := by
  subst ev_path_queue; subst ev_path_under; subst ev_msgs_deposit; subst ev_msgs_outbound; subst ev_msgs_inbound; subst ev_msgs_triplog; subst ev_trips_deposit; subst ev_power_startUp; subst ev_emerg_owed;
  unfold State.second; (repeat' split) <;> simp (maxDischargeDepth := 12) [hl]

@[simp] theorem State.meterMessage_queueOk (m : MeterMessage) {s : State} {v_path_under} (ev_path_under : s.path.under = v_path_under)
    {v_msgs_deposit} (ev_msgs_deposit : s.msgs.deposit = v_msgs_deposit) {v_msgs_outbound}
    (ev_msgs_outbound : s.msgs.outbound = v_msgs_outbound) {v_msgs_inbound} (ev_msgs_inbound : s.msgs.inbound = v_msgs_inbound)
    {v_msgs_triplog} (ev_msgs_triplog : s.msgs.triplog = v_msgs_triplog) {v_power_startUp}
    (ev_power_startUp : s.power.startUp = v_power_startUp) {v_emerg_owed} (ev_emerg_owed : s.emerg.owed = v_emerg_owed)
    (hl : QueueOk s.path.queue s.path.under s.msgs.flight s.msgs.deposit s.msgs.outbound s.msgs.inbound s.msgs.triplog s.trips.deposit s.power.startUp s.emerg.owed) :
    QueueOk (State.meterMessage m s).path.queue v_path_under
          (State.meterMessage m s).msgs.flight v_msgs_deposit v_msgs_outbound v_msgs_inbound v_msgs_triplog
          (State.meterMessage m s).trips.deposit v_power_startUp v_emerg_owed := by
  subst ev_path_under; subst ev_msgs_deposit; subst ev_msgs_outbound; subst ev_msgs_inbound; subst ev_msgs_triplog; subst ev_power_startUp; subst ev_emerg_owed;
  unfold State.meterMessage; (repeat' split) <;> simp (maxDischargeDepth := 12) [hl]

@[simp] theorem State.takeMeter_queueOk (m : MeterMessage) {s : State} {v_path_under} (ev_path_under : s.path.under = v_path_under)
    {v_msgs_deposit} (ev_msgs_deposit : s.msgs.deposit = v_msgs_deposit) {v_msgs_outbound}
    (ev_msgs_outbound : s.msgs.outbound = v_msgs_outbound) {v_msgs_inbound} (ev_msgs_inbound : s.msgs.inbound = v_msgs_inbound)
    {v_msgs_triplog} (ev_msgs_triplog : s.msgs.triplog = v_msgs_triplog) {v_power_startUp}
    (ev_power_startUp : s.power.startUp = v_power_startUp) {v_emerg_owed} (ev_emerg_owed : s.emerg.owed = v_emerg_owed)
    (hl : QueueOk s.path.queue s.path.under s.msgs.flight s.msgs.deposit s.msgs.outbound s.msgs.inbound s.msgs.triplog s.trips.deposit s.power.startUp s.emerg.owed) :
    QueueOk (State.takeMeter m s).path.queue v_path_under
          (State.takeMeter m s).msgs.flight v_msgs_deposit v_msgs_outbound v_msgs_inbound v_msgs_triplog
          (State.takeMeter m s).trips.deposit v_power_startUp v_emerg_owed := by
  subst ev_path_under; subst ev_msgs_deposit; subst ev_msgs_outbound; subst ev_msgs_inbound; subst ev_msgs_triplog; subst ev_power_startUp; subst ev_emerg_owed;
  unfold State.takeMeter; (repeat' split) <;> simp (maxDischargeDepth := 12) [hl]

@[simp] theorem State.takeWake_queueOk (c : List Word) {s : State} {v_path_queue} (ev_path_queue : s.path.queue = v_path_queue)
    {v_path_under} (ev_path_under : s.path.under = v_path_under) {v_msgs_deposit} (ev_msgs_deposit : s.msgs.deposit = v_msgs_deposit)
    {v_msgs_outbound} (ev_msgs_outbound : s.msgs.outbound = v_msgs_outbound) {v_msgs_inbound}
    (ev_msgs_inbound : s.msgs.inbound = v_msgs_inbound) {v_msgs_triplog} (ev_msgs_triplog : s.msgs.triplog = v_msgs_triplog)
    {v_trips_deposit} (ev_trips_deposit : s.trips.deposit = v_trips_deposit) {v_power_startUp}
    (ev_power_startUp : s.power.startUp = v_power_startUp) {v_emerg_owed} (ev_emerg_owed : s.emerg.owed = v_emerg_owed)
    (hl : QueueOk s.path.queue s.path.under s.msgs.flight s.msgs.deposit s.msgs.outbound s.msgs.inbound s.msgs.triplog s.trips.deposit s.power.startUp s.emerg.owed) :
    QueueOk v_path_queue v_path_under
          (State.takeWake c s).msgs.flight v_msgs_deposit v_msgs_outbound v_msgs_inbound v_msgs_triplog v_trips_deposit v_power_startUp v_emerg_owed := by
  subst ev_path_queue; subst ev_path_under; subst ev_msgs_deposit; subst ev_msgs_outbound; subst ev_msgs_inbound; subst ev_msgs_triplog; subst ev_trips_deposit; subst ev_power_startUp; subst ev_emerg_owed;
  unfold State.takeWake; (repeat' split) <;> simp (maxDischargeDepth := 12) [hl]

@[simp] theorem State.route_queueOk (d : DownHeader) (b : DownBody) {s : State}
    (hl : QueueOk s.path.queue s.path.under s.msgs.flight s.msgs.deposit s.msgs.outbound s.msgs.inbound s.msgs.triplog s.trips.deposit s.power.startUp s.emerg.owed) :
    QueueOk (State.route d b s).path.queue (State.route d b s).path.under (State.route d b s).msgs.flight (State.route d b s).msgs.deposit
          (State.route d b s).msgs.outbound (State.route d b s).msgs.inbound (State.route d b s).msgs.triplog
          (State.route d b s).trips.deposit (State.route d b s).power.startUp (State.route d b s).emerg.owed := by
  unfold State.route; (repeat' split) <;> simp (maxDischargeDepth := 12) [hl]

@[simp] theorem State.receive_queueOk (d : DownHeader) (b : DownBody) {s : State}
    (hl : QueueOk s.path.queue s.path.under s.msgs.flight s.msgs.deposit s.msgs.outbound s.msgs.inbound s.msgs.triplog s.trips.deposit s.power.startUp s.emerg.owed) :
    QueueOk (State.receive d b s).path.queue (State.receive d b s).path.under (State.receive d b s).msgs.flight
          (State.receive d b s).msgs.deposit (State.receive d b s).msgs.outbound (State.receive d b s).msgs.inbound
          (State.receive d b s).msgs.triplog (State.receive d b s).trips.deposit (State.receive d b s).power.startUp
          (State.receive d b s).emerg.owed := by
  unfold State.receive; (repeat' split) <;> simp (maxDischargeDepth := 12) [hl]

@[simp] theorem State.writeAt_queueOk (o : Nat) (l : Lanes) (d : Word) {s : State}
    (hl : QueueOk s.path.queue s.path.under s.msgs.flight s.msgs.deposit s.msgs.outbound s.msgs.inbound s.msgs.triplog s.trips.deposit s.power.startUp s.emerg.owed) :
    QueueOk (State.writeAt o l d s).path.queue (State.writeAt o l d s).path.under (State.writeAt o l d s).msgs.flight
          (State.writeAt o l d s).msgs.deposit (State.writeAt o l d s).msgs.outbound (State.writeAt o l d s).msgs.inbound
          (State.writeAt o l d s).msgs.triplog (State.writeAt o l d s).trips.deposit (State.writeAt o l d s).power.startUp
          (State.writeAt o l d s).emerg.owed := by
  unfold State.writeAt; (repeat' split) <;> simp (maxDischargeDepth := 12) [hl]

@[simp] theorem State.readAt_queueOk (o : Nat) (l : Lanes) {s : State}
    (hl : QueueOk s.path.queue s.path.under s.msgs.flight s.msgs.deposit s.msgs.outbound s.msgs.inbound s.msgs.triplog s.trips.deposit s.power.startUp s.emerg.owed) :
    QueueOk (State.readAt o l s).path.queue (State.readAt o l s).path.under (State.readAt o l s).msgs.flight
          (State.readAt o l s).msgs.deposit (State.readAt o l s).msgs.outbound (State.readAt o l s).msgs.inbound
          (State.readAt o l s).msgs.triplog (State.readAt o l s).trips.deposit (State.readAt o l s).power.startUp
          (State.readAt o l s).emerg.owed := by
  unfold State.readAt; (repeat' split) <;> simp (maxDischargeDepth := 12) [hl]

/-- What the end of an operation leaves: nothing is under way, and of a kind of which there is one at a time none waits. -/
theorem QueueOk.finish {q : List Operation} {u : UnderWay} {flight : Outbound} {md : Option InDeposit} {ob ib tl : Ring}
    {td : Option TripDeposit} {st : StartUp} {owed : Bool} (hl : QueueOk q (some u) flight md ob ib tl td st owed)
    (hk : u.kind ≠ .emergencyRewrite) : QueueOk q none flight md ob ib tl td st owed := by
  obtain ⟨h1, h2, h3, h4, h5, h6, h7, h8, h9, h10, h11, h12⟩ := hl
  refine ⟨h1, h2, h3, by simp, fun h => h5 (Or.inl (by simpa using h)), fun h => h6 (Or.inl (by simpa using h)),
    fun h => h7 (Or.inl (by simpa using h)), fun r h => h8 r (Or.inl (by simpa using h)), by simp, h10, h11, ?_⟩
  intro h; have := (h12 h).1; simp at this; exact absurd this hk

theorem State.endTripDeposit_queueOk {s : State}
    (hl : QueueOk s.path.queue s.path.under s.msgs.flight s.msgs.deposit s.msgs.outbound s.msgs.inbound s.msgs.triplog s.trips.deposit s.power.startUp s.emerg.owed) (hu : s.path.under = none)
    (hq : .tripDeposit ∉ s.path.queue.map (·.kind)) :
    QueueOk (State.endTripDeposit s).path.queue (State.endTripDeposit s).path.under (State.endTripDeposit s).msgs.flight
          (State.endTripDeposit s).msgs.deposit (State.endTripDeposit s).msgs.outbound (State.endTripDeposit s).msgs.inbound
          (State.endTripDeposit s).msgs.triplog (State.endTripDeposit s).trips.deposit (State.endTripDeposit s).power.startUp
          (State.endTripDeposit s).emerg.owed := by
  unfold State.endTripDeposit; split
  · rename_i d hd
    obtain ⟨h1, h2, h3, h4, h5, h6, h7, h8, h9, h10, h11, h12⟩ := hl
    have h0 : QueueOk s.path.queue s.path.under s.msgs.flight s.msgs.deposit s.msgs.outbound s.msgs.inbound s.msgs.triplog
        none s.power.startUp s.emerg.owed := by
      refine ⟨h1, h2, h3, h4, h5, h6, ?_, h8, h9, h10, h11, h12⟩
      rintro (h | h)
      · exact absurd h hq
      · simp [hu] at h
    have := State.servePending_queueOk
          (s := State.raise .tripClosed (State.moveOwn .triplog d.plan.newPtr { s with trips := { s.trips with deposit := none } })) rfl rfl rfl rfl rfl rfl rfl rfl (by simp [h0])
    simpa using this
  · exact hl

theorem State.endInboundDeposit_queueOk {s : State}
    (hl : QueueOk s.path.queue s.path.under s.msgs.flight s.msgs.deposit s.msgs.outbound s.msgs.inbound s.msgs.triplog s.trips.deposit s.power.startUp s.emerg.owed) (hu : s.path.under = none)
    (hq : .inboundDeposit ∉ s.path.queue.map (·.kind)) :
    QueueOk (State.endInboundDeposit s).path.queue (State.endInboundDeposit s).path.under (State.endInboundDeposit s).msgs.flight
          (State.endInboundDeposit s).msgs.deposit (State.endInboundDeposit s).msgs.outbound (State.endInboundDeposit s).msgs.inbound
          (State.endInboundDeposit s).msgs.triplog (State.endInboundDeposit s).trips.deposit (State.endInboundDeposit s).power.startUp
          (State.endInboundDeposit s).emerg.owed := by
  unfold State.endInboundDeposit; split
  · rename_i d hd
    obtain ⟨h1, h2, h3, h4, h5, h6, h7, h8, h9, h10, h11, h12⟩ := hl
    have h0 : QueueOk s.path.queue s.path.under s.msgs.flight none s.msgs.outbound s.msgs.inbound s.msgs.triplog
        s.trips.deposit s.power.startUp s.emerg.owed := by
      refine ⟨h1, h2, h3, h4, h5, ?_, h7, h8, h9, h10, h11, h12⟩
      rintro (h | h)
      · exact absurd h hq
      · simp [hu] at h
    have h1 := State.moveOwn_queueOk .inbound d.plan.newPtr
          (s := { s with msgs := { s.msgs with deposit := none } }) rfl rfl rfl rfl rfl rfl rfl h0
    dsimp only
    simp at h1 ⊢
    simp [h1]
  · exact hl

theorem State.endCompletion_queueOk {s : State}
    (hl : QueueOk s.path.queue s.path.under s.msgs.flight s.msgs.deposit s.msgs.outbound s.msgs.inbound s.msgs.triplog s.trips.deposit s.power.startUp s.emerg.owed) (hu : s.path.under = none)
    (hq : .outboundCompletion ∉ s.path.queue.map (·.kind)) :
    QueueOk (State.endCompletion s).path.queue (State.endCompletion s).path.under (State.endCompletion s).msgs.flight
          (State.endCompletion s).msgs.deposit (State.endCompletion s).msgs.outbound (State.endCompletion s).msgs.inbound
          (State.endCompletion s).msgs.triplog (State.endCompletion s).trips.deposit (State.endCompletion s).power.startUp
          (State.endCompletion s).emerg.owed := by
  unfold State.endCompletion; split
  · rename_i c hf
    obtain ⟨h1, h2, h3, h4, h5, h6, h7, h8, h9, h10, h11, h12⟩ := hl
    have h0 : QueueOk s.path.queue s.path.under .none s.msgs.deposit s.msgs.outbound s.msgs.inbound s.msgs.triplog
        s.trips.deposit s.power.startUp s.emerg.owed := by
      refine ⟨h1, h2, fun h => absurd (h3 h) (by simp [hf]), by simp [hu], ?_, h6, h7, h8, h9, h10, h11, h12⟩
      rintro (h | h)
      · exact absurd h hq
      · simp [hu] at h
    have h1 := State.moveOwn_queueOk .outbound c.after
          (s := { s with msgs := { s.msgs with flight := .none, lastOut := ⟨c.outcome, c.tag⟩ } }) rfl rfl rfl rfl rfl rfl rfl h0
    dsimp only
    simp at h1 ⊢
    simp [h1]
  · exact hl

theorem State.endOpenCheck_queueOk (r : RingId) (w : HeaderWords) {s : State}
    (hl : QueueOk s.path.queue s.path.under s.msgs.flight s.msgs.deposit s.msgs.outbound s.msgs.inbound s.msgs.triplog s.trips.deposit s.power.startUp s.emerg.owed) (hu : s.path.under = none)
    (hq : .headerRead r ∉ s.path.queue.map (·.kind)) :
    QueueOk (State.endOpenCheck r w s).path.queue (State.endOpenCheck r w s).path.under (State.endOpenCheck r w s).msgs.flight
          (State.endOpenCheck r w s).msgs.deposit (State.endOpenCheck r w s).msgs.outbound (State.endOpenCheck r w s).msgs.inbound
          (State.endOpenCheck r w s).msgs.triplog (State.endOpenCheck r w s).trips.deposit (State.endOpenCheck r w s).power.startUp
          (State.endOpenCheck r w s).emerg.owed := by
  have h0 : ∀ g : Ring, QueueOk s.path.queue s.path.under s.msgs.flight s.msgs.deposit (s.setRing r g).msgs.outbound
    (s.setRing r g).msgs.inbound
      (s.setRing r g).msgs.triplog s.trips.deposit s.power.startUp s.emerg.owed := by
    intro g
    obtain ⟨h1, h2, h3, h4, h5, h6, h7, h8, h9, h10, h11, h12⟩ := hl
    refine ⟨h1, h2, h3, by simp [hu], h5, h6, h7, ?_, h9, h10, h11, h12⟩
    intro i hi
    by_cases e : i = r
    · subst e; rcases hi with h | h
      · exact absurd h hq
      · simp [hu] at h
    · have := h8 i hi
      cases i <;> cases r <;> simp_all [State.setRing, MessageEngine.setRing, MessageEngine.ring, ringOf]
  unfold State.endOpenCheck; split
  · rename_i d hd
    dsimp only; split
    · have := State.pointerMoved_queueOk r (s := s.setRing r ((s.msgs.ring r).opened r d w)) rfl rfl rfl rfl rfl rfl rfl (by simpa using h0 _)
      simpa using this
    · simpa using h0 _
  · exact hl

theorem State.endRecordRewrite_queueOk (b : Bool) {u : UnderWay} {s : State}
    (hl : QueueOk s.path.queue (some u) s.msgs.flight s.msgs.deposit s.msgs.outbound s.msgs.inbound s.msgs.triplog s.trips.deposit
      s.power.startUp s.emerg.owed) (hu : s.path.under = none) (hk : u.kind = .emergencyRewrite) :
    QueueOk (State.endRecordRewrite b s).path.queue (State.endRecordRewrite b s).path.under (State.endRecordRewrite b s).msgs.flight
          (State.endRecordRewrite b s).msgs.deposit (State.endRecordRewrite b s).msgs.outbound (State.endRecordRewrite b s).msgs.inbound
          (State.endRecordRewrite b s).msgs.triplog (State.endRecordRewrite b s).trips.deposit (State.endRecordRewrite b s).power.startUp
          (State.endRecordRewrite b s).emerg.owed := by
  have h0 : QueueOk s.path.queue none s.msgs.flight s.msgs.deposit s.msgs.outbound s.msgs.inbound s.msgs.triplog s.trips.deposit
      s.power.startUp false := by
    obtain ⟨h1, h2, h3, h4, h5, h6, h7, h8, h9, h10, h11, h12⟩ := hl
    exact ⟨h1, h2, h3, by simp, fun h => h5 (Or.inl (by simpa using h)), fun h => h6 (Or.inl (by simpa using h)),
      fun h => h7 (Or.inl (by simpa using h)), fun r h => h8 r (Or.inl (by simpa using h)), by simp, h10, h11, by simp⟩
  have h1 : s.emerg.owed = true → OpKind.emergencyRewrite ∉ s.path.queue.map (·.kind) := fun h => (hl.2.2.2.2.2.2.2.2.2.2.2 h).2
  have h2 : ∀ {o}, s.emerg.owed = o → o = true → QueueOk
    (s.path.queue ++ [⟨.emergencyRewrite, 0⟩]) none s.msgs.flight s.msgs.deposit s.msgs.outbound s.msgs.inbound
      s.msgs.triplog s.trips.deposit s.power.startUp false := by
    intro o ho h
    exact h0.push .emergencyRewrite 0 (h1 (ho.trans h)) (by simp) (by simp) (by simp) (by simp) (by simp) (by simp) (by simp [OpKind.once]) (by simp) (by simp)
  unfold State.endRecordRewrite; dsimp only
  cases ho : s.emerg.owed
  · split <;> simp [ho, hu, h0]
  · have := h2 ho rfl
    split <;> simp [ho, hu, State.requestWrite, MemoryPath.requestWrite, this]

/-- A queue of kept kinds asks for no owner. -/
theorem QueueOk.of_kept {q : List Operation} {under : Option UnderWay} {owed : Bool} (hn : (q.map (·.kind)).Nodup)
    (hq : ∀ k ∈ q.map (·.kind), k.kept = true) (hu : ∀ k, under.map (·.kind) = some k → k.kept = true ∨ k = .abandoned)
    (ho : owed = true → under.map (·.kind) = some .emergencyRewrite ∧ .emergencyRewrite ∉ q.map (·.kind))
    (flight : Outbound) (md : Option InDeposit) (ob ib tl : Ring) (td : Option TripDeposit) (st : StartUp) :
    QueueOk q under flight md ob ib tl td st owed := by
  have hq2 : ∀ {k}, k ∈ q.map (·.kind) → k.kept = false → False := fun h e => by rw [hq _ h] at e; cases e
  have hu2 : ∀ {k}, under.map (·.kind) = some k → k.kept = false → k ≠ .abandoned → False := fun h e f => by
    rcases hu _ h with g | g
    · rw [g] at e; cases e
    · exact f g
  refine ⟨hn, fun h => hq2 h rfl, fun h => (hq2 h rfl).elim, ?_, ?_, ?_, ?_, ?_, ?_, fun h => (hq2 h rfl).elim,
    fun r h => (hq2 h rfl).elim, ho⟩
  · intro u e1 e2 _; exact (hu2 (by rw [e1, Option.map_some, e2]) rfl (by simp)).elim
  · rintro (h | h)
    · exact (hq2 h rfl).elim
    · exact (hu2 h rfl (by simp)).elim
  · rintro (h | h)
    · exact (hq2 h rfl).elim
    · exact (hu2 h rfl (by simp)).elim
  · rintro (h | h)
    · exact (hq2 h rfl).elim
    · exact (hu2 h rfl (by simp)).elim
  · rintro r (h | h)
    · exact (hq2 h rfl).elim
    · exact (hu2 h rfl (by simp)).elim
  · intro k h ho2 _
    have hk : k ≠ .abandoned := by rintro rfl; cases ho2
    cases hkk : k.kept
    · exact hu2 h hkk hk
    · cases k <;> first | (cases hkk; done) | (cases ho2; done)

theorem State.softResetOffers_kept {s : State} (h : ∀ k ∈ s.path.queue.map (·.kind), k.kept = true) :
    ∀ k ∈ (State.softResetOffers s).path.queue.map (·.kind), k.kept = true := by
  simp only [List.mem_map, forall_exists_index, and_imp, forall_apply_eq_imp_iff₂] at h ⊢
  exact State.softResetOffers_queue h

theorem MemoryPath.softReset_queueOk {p : MemoryPath} {flight : Outbound} {md : Option InDeposit} {ob ib tl : Ring}
    {td : Option TripDeposit} {st : StartUp} {owed : Bool} (hl : QueueOk p.queue p.under flight md ob ib tl td st owed)
    (flight' : Outbound) (md' : Option InDeposit) (ob' ib' tl' : Ring) (td' : Option TripDeposit) (st' : StartUp) :
    QueueOk p.softReset.queue p.softReset.under flight' md' ob' ib' tl' td' st' owed ∧
      (∀ k ∈ p.softReset.queue.map (·.kind), k.kept = true) ∧
      ∀ k, p.softReset.under.map (·.kind) = some k → k.kept = true ∨ k = .abandoned := by
  have hs : ∀ k, k ∈ p.softReset.queue.map (·.kind) → k ∈ p.queue.map (·.kind) ∧ k.kept = true := by
    intro k h
    simp only [MemoryPath.softReset, List.mem_map, List.mem_filter] at h ⊢
    obtain ⟨o, ⟨h1, h2⟩, rfl⟩ := h
    exact ⟨⟨o, h1, rfl⟩, h2⟩
  have hu : ∀ k, p.softReset.under.map (·.kind) = some k → k.kept = true ∨ k = .abandoned := by
    intro k h
    simp only [MemoryPath.softReset, MemoryPath.underAfterReset] at h
    split at h
    · split at h
      · simp at h; subst h; exact Or.inl ‹_›
      · split at h
        · simp at h; exact Or.inr h.symm
        · simp at h
    · simp at h
  refine ⟨QueueOk.of_kept ?_ (fun k h => (hs k h).2) hu ?_ _ _ _ _ _ _ _, fun k h => (hs k h).2, hu⟩
  · exact hl.1.sublist ((List.filter_sublist).map _)
  · intro h
    have h12 := hl.2.2.2.2.2.2.2.2.2.2.2 h
    refine ⟨?_, fun k => h12.2 (hs _ k).1⟩
    obtain ⟨u, hu, hk⟩ := Option.map_eq_some_iff.1 h12.1
    simp [MemoryPath.softReset, MemoryPath.underAfterReset, hu, hk, OpKind.kept]

theorem State.softReset_queueOk {s : State}
    (hl : QueueOk s.path.queue s.path.under s.msgs.flight s.msgs.deposit s.msgs.outbound s.msgs.inbound s.msgs.triplog s.trips.deposit s.power.startUp s.emerg.owed) : QueueOk (State.softReset s).path.queue (State.softReset s).path.under (State.softReset s).msgs.flight (State.softReset s).msgs.deposit (State.softReset s).msgs.outbound (State.softReset s).msgs.inbound (State.softReset s).msgs.triplog (State.softReset s).trips.deposit (State.softReset s).power.startUp (State.softReset s).emerg.owed := by
  unfold State.softReset
  refine State.service_queueOk ?_
  have h0 := State.enterQuiet_queueOk false (s := s) rfl rfl rfl rfl rfl rfl rfl rfl rfl hl
  obtain ⟨h1, h2, h3⟩ := MemoryPath.softReset_queueOk (p := s.path) (by simpa using hl)
    (s.enterQuiet false).msgs.flight s.msgs.deposit s.msgs.outbound s.msgs.inbound s.msgs.triplog
    (s.enterQuiet false).returnDeposit.trips.deposit s.power.startUp
  generalize hg : ({ (s.enterQuiet false) with
    sched := (s.enterQuiet false).sched.softReset, radio := (s.enterQuiet false).radio.forgetShort, path :=
          (s.enterQuiet false).path.softReset, trips := (s.enterQuiet false).returnDeposit.trips,
    emerg := (s.enterQuiet false).emerg.softReset,
    link := { (s.enterQuiet false).link with clockUpper := 0#16 } } : State) = g
  have g0 : QueueOk g.path.queue g.path.under g.msgs.flight g.msgs.deposit g.msgs.outbound g.msgs.inbound g.msgs.triplog g.trips.deposit g.power.startUp g.emerg.owed ∧ (∀ k ∈ g.path.queue.map (·.kind), k.kept = true) ∧
      ∀ k, g.path.under.map (·.kind) = some k → k.kept = true ∨ k = .abandoned := by
    subst hg
    simp
    exact ⟨by simpa [EmergencyUnit.softReset] using h1, by simpa using h2, by simpa using h3⟩
  have g1 := State.softResetOffers_queueOk (s := g) rfl rfl rfl rfl rfl rfl rfl rfl rfl g0.1
  have g2 := State.softResetOffers_kept g0.2.1
  have g3 := QueueOk.of_kept g1.1 g2 (by simpa using g0.2.2) g1.2.2.2.2.2.2.2.2.2.2.2
  have hp : ∀ x : State, (State.softResetTrips x).path = x.path := by
    intro x; simp
  have hm : ∀ x : State, (State.softResetTrips x).emerg = x.emerg := by
    intro x; simp
  have he : ∀ x : State, (State.softResetPage (State.handOn (State.softResetStatus x.softResetMessages))).emerg.owed = x.emerg.owed ∧
     (State.softResetPage (State.handOn (State.softResetStatus x.softResetMessages))).path = x.path := by
    intro x; simp [State.softResetPage, State.softResetStatus, State.softResetMessages]
  rw [(he _).1, (he _).2, hp, hm]
  simpa using g3 ..

theorem State.becomeReady_queueOk {s : State}
    (hl : QueueOk s.path.queue s.path.under s.msgs.flight s.msgs.deposit s.msgs.outbound s.msgs.inbound s.msgs.triplog s.trips.deposit s.power.startUp s.emerg.owed) (hq : s.path.queue = []) (hu : s.path.under = none) :
    QueueOk (State.becomeReady s).path.queue (State.becomeReady s).path.under (State.becomeReady s).msgs.flight
          (State.becomeReady s).msgs.deposit (State.becomeReady s).msgs.outbound (State.becomeReady s).msgs.inbound
          (State.becomeReady s).msgs.triplog (State.becomeReady s).trips.deposit (State.becomeReady s).power.startUp
          (State.becomeReady s).emerg.owed := by
  unfold State.becomeReady; split
  · rename_i image _
    have hk : ∀ (s : State), QueueOk s.path.queue s.path.under s.msgs.flight s.msgs.deposit s.msgs.outbound s.msgs.inbound s.msgs.triplog s.trips.deposit s.power.startUp s.emerg.owed → QueueOk (let s := s; if s.pins.emswClosed && s.emerg.state == .clear then s.takeClosing else s).path.queue (let s := s; if s.pins.emswClosed && s.emerg.state == .clear then s.takeClosing else s).path.under (let s := s; if s.pins.emswClosed && s.emerg.state == .clear then s.takeClosing else s).msgs.flight (let s := s; if s.pins.emswClosed && s.emerg.state == .clear then s.takeClosing else s).msgs.deposit (let s := s; if s.pins.emswClosed && s.emerg.state == .clear then s.takeClosing else s).msgs.outbound (let s := s; if s.pins.emswClosed && s.emerg.state == .clear then s.takeClosing else s).msgs.inbound (let s := s; if s.pins.emswClosed && s.emerg.state == .clear then s.takeClosing else s).msgs.triplog (let s := s; if s.pins.emswClosed && s.emerg.state == .clear then s.takeClosing else s).trips.deposit (let s := s; if s.pins.emswClosed && s.emerg.state == .clear then s.takeClosing else s).power.startUp (let s := s; if s.pins.emswClosed && s.emerg.state == .clear then s.takeClosing else s).emerg.owed := by
      intro s h; dsimp only; split
      · simp [h]
      · exact h
    refine hk _ ?_
    have ho : s.emerg.owed = false := by
      cases h : s.emerg.owed
      · rfl
      · have := (hl.2.2.2.2.2.2.2.2.2.2.2 h).1; simp [hu] at this
    refine QueueOk.of_kept ?_ ?_ ?_ ?_ .. <;> simp [State.applyImage, hq, hu, ho]
  · exact hl

theorem State.queueLaw_iff
    (s : State) : s.queueLaw ↔ QueueOk s.path.queue s.path.under s.msgs.flight s.msgs.deposit s.msgs.outbound s.msgs.inbound s.msgs.triplog s.trips.deposit s.power.startUp s.emerg.owed := by
  have h : ∀ r, s.msgs.ring r = ringOf s.msgs.outbound s.msgs.inbound s.msgs.triplog r := by intro r; cases r <;> rfl
  unfold State.queueLaw QueueOk; simp only [h]

/-- The end of an operation keeps the law, if its owner does with nothing under way. -/
theorem State.complete_queueOk (k : OpKind) {owner : UnderWay → State → State} {s : State}
    (hl : QueueOk s.path.queue s.path.under s.msgs.flight s.msgs.deposit s.msgs.outbound s.msgs.inbound s.msgs.triplog s.trips.deposit s.power.startUp s.emerg.owed)
   (ho : ∀ u (t : State), s.path.under = some u → u.kind = k →
      QueueOk t.path.queue
            (some u) t.msgs.flight t.msgs.deposit t.msgs.outbound t.msgs.inbound t.msgs.triplog t.trips.deposit t.power.startUp t.emerg.owed → t.path.under = none →
      QueueOk (owner u t).path.queue (owner u t).path.under (owner u t).msgs.flight (owner u t).msgs.deposit (owner u t).msgs.outbound
            (owner u t).msgs.inbound (owner u t).msgs.triplog (owner u t).trips.deposit (owner u t).power.startUp (owner u t).emerg.owed) :
   QueueOk (State.complete k owner s).path.queue (State.complete k owner s).path.under (State.complete k owner s).msgs.flight
    (State.complete k owner s).msgs.deposit (State.complete k owner s).msgs.outbound (State.complete k owner s).msgs.inbound
    (State.complete k owner s).msgs.triplog (State.complete k owner s).trips.deposit (State.complete k owner s).power.startUp
    (State.complete k owner s).emerg.owed := by
  unfold State.complete; split
  · rename_i u hu
    unfold State.finished at hu
    split at hu
    · rename_i v hv
      split at hu
      · cases hu
        rename_i hk
        simp only [Bool.and_eq_true, beq_iff_eq] at hk
        refine State.service_queueOk (ho u _ hv hk.1.2 ?_ ?_)
        · rw [hv] at hl; simpa [State.endOperation] using hl
        · simp [State.endOperation]
      · cases hu
    · cases hu
  · exact hl


end Sys2Proof.Machine
end

