-- ==== Sys2Proof/Laws/Tariffs.lean ====
section
/-! SUPPORT. The size law of the trip is kept by the operations that a command is made of. -/

namespace Sys2Proof.Machine

/-- The size law of the trip on the values it speaks of. -/
def TariffsOk (trip : Option OpenTrip) : Prop :=
  ∀ o, trip = some o → o.tariffs.length ≤ 4

/-- A change of the open trip that keeps its list of tariffs within four keeps the law. -/
theorem State.changeTrip_tariffs {f : OpenTrip → OpenTrip} {s : State} (hf : ∀ o, o.tariffs.length ≤ 4 → (f o).tariffs.length ≤ 4)
    (hl : TariffsOk s.trips.trip) : TariffsOk (s.changeTrip f).trips.trip := by
  intro o ho
  obtain ⟨p, hp, rfl⟩ := Option.map_eq_some_iff.1 (show s.trips.trip.map f = some o from ho)
  exact hf p (hl p hp)

theorem OpenTrip.changeTariff_length (k : Byte) (c : DWord) {o : OpenTrip} (h : o.tariffs.length ≤ 4) :
    (o.changeTariff k c).tariffs.length ≤ 4 := by
  unfold OpenTrip.changeTariff; (repeat' split)
  · exact h
  · simp <;> omega
  · simp <;> omega


@[simp] theorem State.markTripEmergency_tariffs {s : State} (hl : TariffsOk s.trips.trip) :
    TariffsOk (State.markTripEmergency s).trips.trip := by
  exact State.changeTrip_tariffs (fun o h => h) hl

@[simp] theorem State.openTrip_tariffs (t : Byte) {s : State} (hl : TariffsOk s.trips.trip) :
    TariffsOk (State.openTrip t s).trips.trip := by
  unfold State.openTrip; (repeat' split) <;> simp_all (maxDischargeDepth := 12) [TariffsOk]

@[simp] theorem State.closeTrip_tariffs (e : TripEnd) {s : State} (hl : TariffsOk s.trips.trip) :
    TariffsOk (State.closeTrip e s).trips.trip := by
  unfold State.closeTrip; (repeat' split) <;> simp_all (maxDischargeDepth := 12) [TariffsOk]

@[simp] theorem State.takeHire_tariffs (t : Byte) {s : State} (hl : TariffsOk s.trips.trip) :
    TariffsOk (State.takeHire t s).trips.trip := by
  unfold State.takeHire; (repeat' split) <;> simp (maxDischargeDepth := 12) [hl]

@[simp] theorem State.takeStep_tariffs (c : Byte) (a : Word) {s : State} (hl : TariffsOk s.trips.trip) :
    TariffsOk (State.takeStep c a s).trips.trip := by
  have := State.changeTrip_tariffs (f := OpenTrip.step (s.trips.groupOf c) (a.setWidth 32)) (fun o h => by
    unfold OpenTrip.step; (repeat' split) <;> exact h) hl
  unfold State.takeStep State.restartSilence; split <;> simpa using this

@[simp] theorem State.takeTariff_tariffs (t : Byte) {s : State} (hl : TariffsOk s.trips.trip) :
    TariffsOk (State.takeTariff t s).trips.trip := by
  have := State.changeTrip_tariffs (f := OpenTrip.changeTariff t s.link.clock) (fun o h => OpenTrip.changeTariff_length _ _ h) hl
  unfold State.takeTariff State.restartSilence; split <;> simpa using this

@[simp] theorem State.takeStop_tariffs (f : DWord) {s : State} (hl : TariffsOk s.trips.trip) :
    TariffsOk (State.takeStop f s).trips.trip := by
  unfold State.takeStop; (repeat' split) <;> simp (maxDischargeDepth := 12) [hl]

@[simp] theorem State.takeFault_tariffs (c : Byte) {s : State} (hl : TariffsOk s.trips.trip) :
    TariffsOk (State.takeFault c s).trips.trip := by
  have := State.changeTrip_tariffs (f := OpenTrip.fault) (fun o h => h) hl
  unfold State.takeFault State.restartSilence; dsimp only; split <;> simpa using this

@[simp] theorem State.silenceEnds_tariffs {s : State} (hl : TariffsOk s.trips.trip) :
    TariffsOk (State.silenceEnds s).trips.trip := by
  have := State.changeTrip_tariffs (f := OpenTrip.fault) (fun o h => h) hl
  unfold State.silenceEnds; dsimp only; split <;> first | exact hl | simpa using this

@[simp] theorem State.forceClose_tariffs {s : State} (hl : TariffsOk s.trips.trip) :
    TariffsOk (State.forceClose s).trips.trip := by
  unfold State.forceClose; (repeat' split) <;> simp (maxDischargeDepth := 12) [hl]

@[simp] theorem State.enterAlerting_tariffs (x : Source) {s : State} (hl : TariffsOk s.trips.trip) :
    TariffsOk (State.enterAlerting x s).trips.trip := by
  unfold State.enterAlerting; (repeat' split) <;> simp (maxDischargeDepth := 12) [hl]

@[simp] theorem State.takeClosing_tariffs {s : State} (hl : TariffsOk s.trips.trip) :
    TariffsOk (State.takeClosing s).trips.trip := by
  unfold State.takeClosing; dsimp only; (repeat' split) <;> simp (maxDischargeDepth := 12) [hl]

@[simp] theorem State.holdEnds_tariffs {s : State} (hl : TariffsOk s.trips.trip) :
    TariffsOk (State.holdEnds s).trips.trip := by
  unfold State.holdEnds; (repeat' split) <;> simp (maxDischargeDepth := 12) [hl]

@[simp] theorem State.emergencyRaiseWrite_tariffs (l : Lanes) (d : Word) {s : State} (hl : TariffsOk s.trips.trip) :
    TariffsOk (State.emergencyRaiseWrite l d s).trips.trip := by
  unfold State.emergencyRaiseWrite; dsimp only; (repeat' split) <;> simp (maxDischargeDepth := 12) [hl]

@[simp] theorem State.shiftControl_tariffs (l : Lanes) (d : Word) {s : State} (hl : TariffsOk s.trips.trip) :
    TariffsOk (State.shiftControl l d s).trips.trip := by
  unfold State.shiftControl; dsimp only; (repeat' split) <;> simp (maxDischargeDepth := 12) [hl]

@[simp] theorem State.takeWatched_tariffs (f : Field) (l : Lanes) (d : Word) {s : State} (hl : TariffsOk s.trips.trip) :
    TariffsOk (State.takeWatched f l d s).trips.trip := by
  unfold State.takeWatched; (repeat' split) <;> simp (maxDischargeDepth := 12) [hl]

@[simp] theorem State.acceptWrite_tariffs (a : BitVec 19) (l : Lanes) (d : Word) (p : MemoryPath) {s : State}
    (hl : TariffsOk s.trips.trip) :
    TariffsOk (State.acceptWrite a l d p s).trips.trip := by
  unfold State.acceptWrite; dsimp only; (repeat' split) <;> simp (maxDischargeDepth := 12) [hl]

@[simp] theorem State.answerRead_tariffs (a : BitVec 19) (l : Lanes) {s : State} (hl : TariffsOk s.trips.trip) :
    TariffsOk (State.answerRead a l s).trips.trip := by
  unfold State.answerRead; dsimp only; (repeat' split) <;> simp (maxDischargeDepth := 12) [hl]

theorem State.processorWrite?_tariffs {a : BitVec 19} {l : Lanes} {d : Word} {s t : State}
    (h : s.processorWrite? a l d = some t) (hl : TariffsOk s.trips.trip) : TariffsOk t.trips.trip := by
  unfold State.processorWrite? at h; dsimp only at h; split at h
  · simp only [Option.map_eq_some_iff] at h
    obtain ⟨p, -, rfl⟩ := h
    simp (maxDischargeDepth := 12) [hl]
  · cases h; simp (maxDischargeDepth := 12) [hl]

theorem State.attempt_tariffs {h : HeldCycle} {s t : State} (e : s.attempt h = .done t)
    (hl : TariffsOk s.trips.trip) : TariffsOk t.trips.trip := by
  unfold State.attempt at e
  split at e
  · split at e
    · rename_i w; cases e; exact State.processorWrite?_tariffs w hl
    · cases e
  · split at e
    · cases e
    · split at e
      · cases e
      · cases e; simp (maxDischargeDepth := 12) [hl]

@[simp] theorem State.processorCycle_tariffs (c : BusCycle) {s : State} (hl : TariffsOk s.trips.trip) :
    TariffsOk (State.processorCycle c s).trips.trip := by
  unfold State.processorCycle; split
  · simp (maxDischargeDepth := 12) [hl]
  · split
    · rename_i e; exact State.attempt_tariffs e hl
    · simp (maxDischargeDepth := 12) [hl]

@[simp] theorem State.serviceList_tariffs (hs : List HeldCycle) {s : State} (hl : TariffsOk s.trips.trip) :
    TariffsOk (State.serviceList hs s).trips.trip := by
  induction hs generalizing s with
  | nil => unfold State.serviceList; simp (maxDischargeDepth := 12) [hl]
  | cons h rest ih =>
    unfold State.serviceList; split
    · simp (maxDischargeDepth := 12) [hl]
    · split
      · rename_i t e; exact ih (State.attempt_tariffs e hl)
      · simp (maxDischargeDepth := 12) [hl]

@[simp] theorem State.service_tariffs {s : State} (hl : TariffsOk s.trips.trip) :
    TariffsOk (State.service s).trips.trip := by
  unfold State.service; (repeat' split) <;> simp (maxDischargeDepth := 12) [hl]

@[simp] theorem State.completeDrain_tariffs {s : State} (hl : TariffsOk s.trips.trip) :
    TariffsOk (State.completeDrain s).trips.trip := by
  unfold State.completeDrain; (repeat' split) <;> simp (maxDischargeDepth := 12) [hl]

@[simp] theorem State.internalCycle_tariffs {s : State} (hl : TariffsOk s.trips.trip) :
    TariffsOk (State.internalCycle s).trips.trip := by
  unfold State.internalCycle; split
  · split
    · split
      · rename_i c rest _; cases c <;> simp (maxDischargeDepth := 12) [State.runCycle, hl]
      · exact hl
    · exact hl
  · exact hl

@[simp] theorem State.becomeReady_tariffs {s : State} (hl : TariffsOk s.trips.trip) :
    TariffsOk (State.becomeReady s).trips.trip := by
  unfold State.becomeReady; dsimp only; (repeat' split) <;> simp (maxDischargeDepth := 12) [hl]

@[simp] theorem State.softReset_tariffs {s : State} (hl : TariffsOk s.trips.trip) :
    TariffsOk (State.softReset s).trips.trip := by
  unfold State.softReset; (repeat' split) <;> simp (maxDischargeDepth := 12) [hl]

@[simp] theorem State.powerOn_tariffs (a : BitVec 4) {s : State} :
    TariffsOk (State.powerOn a s).trips.trip := by
  refine State.service_tariffs ?_
  simp [TariffsOk, State.reset, TripEngine.reset]

@[simp] theorem State.meterMessage_tariffs (m : MeterMessage) {s : State} (hl : TariffsOk s.trips.trip) :
    TariffsOk (State.meterMessage m s).trips.trip := by
  unfold State.meterMessage; (repeat' split) <;> simp (maxDischargeDepth := 12) [hl]

@[simp] theorem State.takeMeter_tariffs (m : MeterMessage) {s : State} (hl : TariffsOk s.trips.trip) :
    TariffsOk (State.takeMeter m s).trips.trip := by
  unfold State.takeMeter; (repeat' split) <;> simp (maxDischargeDepth := 12) [hl]

@[simp] theorem State.route_tariffs (d : DownHeader) (b : DownBody) {s : State} (hl : TariffsOk s.trips.trip) :
    TariffsOk (State.route d b s).trips.trip := by
  unfold State.route; (repeat' split) <;> simp (maxDischargeDepth := 12) [hl]

@[simp] theorem State.receive_tariffs (d : DownHeader) (b : DownBody) {s : State} (hl : TariffsOk s.trips.trip) :
    TariffsOk (State.receive d b s).trips.trip := by
  unfold State.receive; (repeat' split) <;> simp (maxDischargeDepth := 12) [hl]

@[simp] theorem State.writeAt_tariffs (o : Nat) (l : Lanes) (d : Word) {s : State} (hl : TariffsOk s.trips.trip) :
    TariffsOk (State.writeAt o l d s).trips.trip := by
  unfold State.writeAt; (repeat' split) <;> simp (maxDischargeDepth := 12) [hl]

@[simp] theorem State.readAt_tariffs (o : Nat) (l : Lanes) {s : State} (hl : TariffsOk s.trips.trip) :
    TariffsOk (State.readAt o l s).trips.trip := by
  unfold State.readAt; (repeat' split) <;> simp (maxDischargeDepth := 12) [hl]

@[simp] theorem State.complete_tariffs (k : OpKind) {owner : UnderWay → State → State} {s : State}
    (ho : ∀ u t, TariffsOk t.trips.trip → TariffsOk (owner u t).trips.trip)
    (hl : TariffsOk s.trips.trip) :
    TariffsOk (State.complete k owner s).trips.trip := by
  unfold State.complete; split
  · exact State.service_tariffs (ho _ _ (by simp (maxDischargeDepth := 12) [hl]))
  · exact hl

/-- The size law is that of the hunt, that of the trip, and that of the other lists. -/
theorem State.sizeLaw_iff (s : State) : s.sizeLaw ↔
    SizeOk s.path.buffer s.sched.acks s.sched.bids s.trips.pendingLog s.trips.reports s.trips.abandoned s.msgs.delivered ∧
      CandidatesOk s.link.channels s.link.candidates s.link.hunt ∧ TariffsOk s.trips.trip := by
  simp only [State.sizeLaw, SizeOk, CandidatesOk, TariffsOk, and_assoc]

end Sys2Proof.Machine
end

