-- ==== Sys2Proof/Tests/Slice0.lean ====
section
/-! SUPPORT. The model's own tests: the refusals of the well-formedness check, a state that meets the hypotheses of each statement that has
any, and single steps with the values of the manual's worked examples. -/

namespace Sys2Proof.Tests

open Sys2Proof Sys2Proof.Machine

-- One test at a time: side by side, their threads' stacks together pass the memory limit of a compile as one text.
set_option Elab.async false

/-! ## Small states -/

/-- Cab 4711 of fleet 7, three channels, code 0 in group 0 and code 2 in group 1. -/
def image : ConfigImage :=
  { cab := 4711#16, fleet := 7#8, classFlags := 3#8, channels := [112#16, 305#16, 118#16],
    components := [some 0, some 0, some 1] ++ List.replicate 13 none, lampMap := LampMap.default, alarmFlash := true,
    pauseAt := 512, resumeAt := 1024 }

/-- The bytes of such an image without its check word, and with it. -/
def imageBody : List Byte :=
  [0x67#8, 0x12#8, 7#8, 3#8, 3#8, 1#8, 112#8, 0#8, 49#8, 1#8, 118#8, 0#8] ++ List.replicate 10 0#8 ++ [0#8, 0#8, 1#8] ++
    List.replicate 13 0x0F#8 ++ [0#8, 0#8, 1#8, 0#8, 0#8, 1#8] ++ List.replicate 18 0#8
def goodImage : List Byte := imageBody ++ le16 (wordSum (toWords imageBody))

/-- READY, ACTIVE, QUIET. -/
def ready : State :=
  { State.reset with
    power := { PowerUnit.reset with startUp := .ready, image := some image },
    link := { LinkController.reset with state := .quiet, channels := image.channels } }

/-- JOINED to site 33 with reserved slot 5 of every cycle. -/
def joined : State :=
  { ready with link := { ready.link with
      state := .joined, site := some ⟨112#16, 33#16, 7#8, 5#8, 1#8, 0#8⟩, cycle := 408#16, nextSlot := 5, contention := 4, clock := 8000#32,
      seconds := 100 } }

/-- In HUNT on the first channel, with two beacons of site 33 counted. -/
def hunting : State :=
  { ready with link := { ready.link with state := .hunt, hunt := some ⟨112#16, [305#16, 118#16], some ⟨33#16, 2, 7#8⟩⟩ } }

def candidate : Candidate := ⟨112#16, 33#16, 7#8⟩

/-- In JOIN with the only candidate. -/
def joining : State := { ready with link := { ready.link with state := .join, joining := some candidate, candidates := [candidate] } }

/-- JOINED and FREE in shift 3 of driver 4172, in zone 9. -/
def onDuty : State :=
  { joined with
    status := { joined.status with status := .free, shiftOpen := true, shiftNumber := 3#16, driverId := 4172#16, zone := 9#8 },
    trips := { joined.trips with totals := { Totals.zero with shiftNumber := 3#16, driverId := 4172#16 } } }

def trip : OpenTrip :=
  { ref := ⟨3#16, 12#16⟩, job := some 7302#32, forced := false, startTime := 8060#32, startMark := 60,
    tariffs := [⟨1#8, 8060#32⟩], groups := Groups.zero, ungrouped := 0#32, stepSum := 1030#32, stepCount := 5#16,
    flags := ⟨false, false, false, false, false, false⟩ }

def withTrip (o : OpenTrip) (s : State) : State :=
  { s with
    trips := { s.trips with trip := some o, silence := some 15, counter := 13#16, components := image.components },
    status := { s.status with status := .hired } }
def hired : State := withTrip trip onDuty
def faulty : State := withTrip { trip with flags := { trip.flags with meterFault := true } } onDuty

def entry (state : OfferState) (job : DWord) (timer : Timer) : OfferEntry := { OfferEntry.reset with state, job, timer, dest := 1#8 }
def withEntry (n : Fin 16) (e : OfferEntry) (s : State) : State :=
  { s with offers := { (s.offers.setEntry n e) with order := s.offers.order ++ [n] } }

/-- RESETn high and `u` under way. -/
def underWay (kind : OpKind) (cycles : List MemCycle) (s : State) : State :=
  { s with path := { s.path with under := some ⟨kind, cycles, [], [], false, 0⟩ } }

def closedTrip : TripRecord :=
  { ref := trip.ref, driverId := 4172#16, meterOpened := false, job := trip.job, forced := false, startTime := 8060#32,
    closeTime := 8390#32, duration := 330#32, tariffs := trip.tariffs, groups := trip.groups, ungrouped := 0#32, stepSum := 1030#32,
    stepCount := 5#16, fare := 1130#32, extras := 100#32, flags := { trip.flags with mismatch := true }, faultCode := 0#8 }

def openRing (base : Word) : Ring := { Ring.reset with state := .open, copies := ⟨base, 512#16⟩, desc := ⟨base, 512#16⟩ }
def outMessage : OutMessage := ⟨5#16, 1#8, false, List.replicate 45 65#8, 2, 0, 1, some 0, 0, 60⟩
def withFlight (f : Outbound) (s : State) : State := { s with msgs := { s.msgs with flight := f, outbound := openRing 0x1400#16 } }
def header (dest : Byte) (value : Word) : DownHeader := ⟨7#8, 33#16, dest, 0#8, value⟩
def beaconBody (heard : List Word) : BeaconBody := ⟨410#16, 8001#32, 7#8, 4#8, heard⟩
def assembly : Assembly := ⟨77#16, 3, false, true, [some [65#8], none, none], some 0, 0⟩
def holding (l : List HeldCycle) (s : State) : State := { s with path := { s.path with held := l } }
def heldRead (a : BitVec 19) (passed : Bool) : HeldCycle := ⟨.read a Lanes.both, passed⟩
def bidding : State := withEntry 6 (entry .bidding 7302#32 (some 3)) onDuty
def raised (state : EmergencyState) (s : State) : State := { s with emerg := { s.emerg with state, number := 9#16 } }

/-- Two results of a step are the same when the block after it is. -/
def after (c : Instr) (s : State) : State :=
  match exec c s with
  | .next t => t
  | .fault _ => s
  | .refused _ => s

/-! ## The well-formedness check refuses -/

theorem test_refuses_image_of_63_bytes : (Instr.imageReadComplete (List.replicate 63 0#8)).wellFormed = false := by decide
theorem test_refuses_write_without_lanes : (Instr.processorWrite 0x04#19 ⟨false, false⟩ 0#16).wellFormed = false := by decide
theorem test_refuses_read_without_lanes : (Instr.processorRead 0x04#19 ⟨false, false⟩).wellFormed = false := by decide
theorem test_refuses_field_cycles_without_lanes :
    let l : Lanes := ⟨false, false⟩
    ([.logon l 1#16, .statusRequestFree l, .statusRequestBreak l, .statusRequestOtherValue l 5#16, .close l, .closeTrip l,
      .shiftControlOtherValue l 5#16, .zoneWrite l 9#16, .positionLowerWordWrite .first l 0#16, .firstCoordinateWrite l 0#16,
      .secondCoordinateWrite l 0#16, .powerRequestActive l, .powerRequestStandby l, .powerRequestSleep l,
      .powerRequestOtherValue l 7#16, .ringDescriptorWrite .inbound .base l 0#16, .ringControlOpen .inbound l,
      .ringControlClose .inbound l, .ringControlOtherValue .inbound l 9#16, .ringPointerWrite .inbound l 0#16, .emergencyRaise l 1#16,
      .attentionClear l 0#16, .attentionEnable l 0#16, .attentionDone l 0#16, .responseAccept 6 l 41#8, .responseDecline 6 l 41#8,
      .responseRelease 6 l 41#8, .responseOtherCode 6 l 9#16, .counterRead .guardHits l, .wakeReasonRead l, .linkStatusRead 0 l,
      .cabClockLowerWordRead l, .meterFirstWordRead l, .totalsFirstWordRead l] : List Instr).all (fun c => !c.wellFormed) = true := by
  decide
theorem test_refuses_tariff_0_and_9 :
    (Instr.hire 0#8).wellFormed = false ∧ (Instr.hire 9#8).wellFormed = false ∧ (Instr.tariff 0#8).wellFormed = false ∧
      (Instr.tariff 9#8).wellFormed = false := by decide
theorem test_refuses_component_16_and_amount_0 :
    (Instr.step 16#8 10#16).wellFormed = false ∧ (Instr.step 0#8 0#16).wellFormed = false := by decide
theorem test_refuses_fault_code_0 : (Instr.fault 0#8).wellFormed = false := by decide
theorem test_refuses_sound_message_as_malformed :
    (Instr.malformedMeterMessage [0xA5#8, 1#8, 6#8, 0x54#8] false).wellFormed = false := by decide
theorem test_refuses_sound_frame_as_damaged :
    (Instr.damagedFrame
      ([4#8, 7#8, 0#8, 33#8, 1#8, 0#8, 0x12#8, 0x67#8, 0#8, 0#8] ++
        be16 (crc [4#8, 7#8, 0#8, 33#8, 1#8, 0#8, 0x12#8, 0x67#8, 0#8, 0#8]))).wellFormed = false := by decide +kernel
theorem test_refuses_heard_list_of_256 :
    (Instr.beacon (header 4#8 0#16) (beaconBody (List.replicate 256 1#16))).wellFormed = false := by decide +kernel
theorem test_refuses_texts_of_256 :
    let t := List.replicate 256 65#8
    (Instr.offer (header 1#8 4711#16) ⟨1#32, 30#8, 9#8, 0#8, 0#32, t⟩).wellFormed = false ∧
      (Instr.award (header 1#8 4711#16) ⟨1#32, 30#8, 9#8, 0#8, 0#32, t⟩).wellFormed = false ∧
      (Instr.text (header 1#8 4711#16) ⟨1#16, 0#8, 1#8, 0#8, t⟩).wellFormed = false := by decide +kernel
theorem test_refuses_wake_with_5_numbers : (Instr.wake (header 1#8 4711#16) (List.replicate 5 4711#16)).wellFormed = false := by decide

/-! ## States that meet the hypotheses of the statements -/

theorem test_witness_StepRunsTheFrontCommand :
    ({ ready with pending := [.alive] } : State).pending = .alive :: [] ∧ ready.pending = [] := by decide
theorem test_witness_OnlyPortCyclesChangeTheRam :
    (∃ t, exec .alive ready = .next t) ∧ Instr.alive ≠ .drainStart ∧ Instr.alive ≠ .internalMemoryCycleComplete :=
  ⟨⟨_, rfl⟩, by decide, by decide⟩

/-! The laws, in states with a command waiting. -/

def asserted : State :=
  { hired with pending := [.alive], page := { hired.page with causes := 1#13, enables := 1#13, busy := true },
               pins := { hired.pins with attn := true }, mem := [⟨2, 65#8⟩] }

theorem test_witness_EveryStepKeepsTheAttentionLaw : asserted.attentionLaw ∧ ∃ t, step asserted = .next t :=
  ⟨by unfold State.attentionLaw; decide, _, rfl⟩
theorem test_witness_EveryStepKeepsTheMemoryForm : asserted.memoryLaw ∧ ∃ t, step asserted = .next t :=
  ⟨by unfold State.memoryLaw; decide, _, rfl⟩
theorem test_witness_EveryStepKeepsTheStatusLaws_shift : asserted.shiftLaw ∧ ∃ t, step asserted = .next t :=
  ⟨by unfold State.shiftLaw; decide, _, rfl⟩
theorem test_witness_EveryStepKeepsTheStatusLaws_assigned :
    let s := withEntry 6 (entry .awarded 7302#32 none) { onDuty with pending := [.alive], status := { onDuty.status with status := .assigned } }
    s.assignedLaw ∧ s.status.status = .assigned ∧ ∃ t, step s = .next t :=
  ⟨by unfold State.assignedLaw; decide, by decide, _, rfl⟩
theorem test_witness_EveryStepKeepsTheOfferTableLaw :
    let s := withEntry 6 (entry .awarded 7302#32 none) { onDuty with pending := [.alive] }
    s.offerLaw ∧ ∃ t, step s = .next t := ⟨by unfold State.offerLaw; decide +kernel, _, rfl⟩
theorem test_witness_EveryStepKeepsTheReportCurrent :
    let s := { onDuty with pending := [.alive], sched := { onDuty.sched with statusPlace := some onDuty.statusReport } }
    s.reportLaw ∧ s.power.startUp = .ready ∧ ∃ t, step s = .next t := ⟨by unfold State.reportLaw; decide, by decide, _, rfl⟩
theorem test_witness_EveryStepKeepsTheLampsDriven :
    let s := { onDuty with pending := [.alive], pins := { onDuty.pins with lampHire := true } }
    s.lampLaw ∧ ∃ t, step s = .next t := ⟨by unfold State.lampLaw; decide, _, rfl⟩
theorem test_witness_EveryStepKeepsTheLinkLaw : asserted.linkLaw ∧ ∃ t, step asserted = .next t :=
  ⟨by unfold State.linkLaw; decide, _, rfl⟩
theorem test_witness_EveryStepKeepsTheListSizes : asserted.sizeLaw ∧ ∃ t, step asserted = .next t :=
  ⟨⟨by decide, by decide, by decide, by decide, by decide, by decide, by decide, by decide, by decide,
    fun h e => (by cases (show (none : Option Hunt) = some h from e)),
    fun o e => (by obtain rfl : trip = o := Option.some.inj e
                   decide)⟩, _, rfl⟩
theorem test_witness_EveryStepKeepsTheListSizes_queue :
    let s : State := { asserted with path := { asserted.path with queue := [⟨.offerRewrite 3, 0⟩, ⟨.emergencyRewrite, 1⟩] } }
    s.queueLaw ∧ ∃ t, step s = .next t := by
  refine ⟨?_, _, rfl⟩
  unfold State.queueLaw
  simp [asserted, hired, withTrip, onDuty, joined, ready, State.reset, MemoryPath.reset, EmergencyUnit.reset]

/-! Reset and start-up. -/

theorem test_witness_PowerOnResetGivesThePowerOnValues :
    hired.path.held = [] ∧ (∀ h ∈ (holding [heldRead 1#19 false, heldRead 2#19 false] hired).path.held, h.passed = false) := by decide
theorem test_witness_LowResetEmptiesTheBufferAndHoldsCycles :
    ({ ready with path := { ready.path with inReset := true } } : State).path.inReset = true := by decide
theorem test_witness_FailedImageReadsAreRetriedTwice :
    let s := fun n : Nat => { State.reset with power := { PowerUnit.reset with attempt := n } }
    (s 2).running = true ∧ (s 2).power.startUp = .loading ∧ (s 2).power.attempt < 3 ∧ (s 3).running = true ∧
      (s 3).power.startUp = .loading ∧ 3 ≤ (s 3).power.attempt := by decide
/-- The image with its byte `k` changed, and its check word made anew. -/
def imageWith (k : Nat) (b : Byte) : List Byte := let l := imageBody.set k b; l ++ le16 (wordSum (toWords l))
theorem test_witness_CompleteImageIsJudged :
    State.reset.running = true ∧ State.reset.power.startUp = .loading ∧ goodImage.length = 64 ∧ (goodImage.set 0x3E 0#8).length = 64 ∧
      imageWord (goodImage.set 0x3E 0#8) 0x3E ≠ wordSum ((toWords (goodImage.set 0x3E 0#8)).take 31) ∧
      (List.replicate 64 0#8).length = 64 ∧ judgeImage (List.replicate 64 0#8) = .outOfRange 1#8 ∧
      judgeImage goodImage = .good image := by decide +kernel
theorem test_witness_GoodImageIsInRange :
    judgeImage goodImage = .good image ∧ imageWord goodImage 0x30 = 0#16 ∧ imageWord goodImage 0x32 = 0#16 ∧
      judgeImage (goodImage.set 0x3E 0#8) = .checkFails ∧
      ([(1, 0xFF#8, none), (2, 0#8, some 2#8), (2, 0xFF#8, some 2#8), (4, 0#8, some 4#8), (4, 9#8, some 4#8), (7, 4#8, some 5#8),
        (0x16, 4#8, some 6#8), (0x25, 0x0E#8, some 6#8), (0x2F, 3#8, some 7#8), (5, 2#8, some 8#8), (0x30, 5#8, some 9#8),
        (0x32, 1#8, none)] : List (Nat × Byte × Option Byte)).all (fun x =>
          (imageWith x.1 x.2.1).length == 64 && match judgeImage (imageWith x.1 x.2.1) with
            | .outOfRange item => x.2.2 == some item
            | .good i => x.2.2 == none && i.cab != 0xFFFF#16
            | .checkFails => false) = true ∧
      judgeImage (let l := (imageBody.set 0 0#8).set 1 0#8; l ++ le16 (wordSum (toWords l))) = .outOfRange 1#8 := by decide +kernel

def recovering : State := underWay .recoveryRead [] { State.reset with power := { PowerUnit.reset with startUp := .recovering } }
/-- A record of the emergency with the given state, number and source code, as it stands in memory. -/
def record (state number : Word) (source : Word := 1#16) : List Word :=
  let ws := [emergencyMarker, state, number, source] ++ List.replicate 59 0#16
  ws ++ [wordSum ws]
def recoveringWith (ws : List Word) : State :=
  { recovering with path := { recovering.path with under := some ⟨.recoveryRead, [], ws, [], false, 0⟩ } }

theorem test_witness_RecoveryReadRestoresTheEmergency :
    (∀ s ∈ [recovering, recoveringWith (record 0#16 9#16), recoveringWith (record 2#16 9#16)],
      s.running = true ∧ s.path.held = [] ∧ ∃ u ∈ s.path.under.toList, s.path.under = some u ∧ u.kind = .recoveryRead ∧ u.cycles = [] ∧
        u.causes = []) ∧
      (∀ ws ∈ [record 3#16 9#16, record 1#16 0#16, (record 0#16 9#16).set 0 0#16, (record 0#16 9#16).set 63 0#16],
        ws.length = 64 ∧ judgeRecord ws = .notValid) ∧
      judgeRecord (record 0#16 9#16) = .clear 9#16 .switch ∧ judgeRecord (record 0#16 9#16 2#16) = .clear 9#16 .terminal ∧
      judgeRecord (record 0#16 9#16 3#16) = .clear 9#16 .recovered ∧
      (match judgeRecord (record 0#16 9#16 4#16) with
        | .clear n _ => n == 9#16
        | _ => false) = true ∧
      judgeRecord (record 1#16 9#16) = .resumed 9#16 0#32 0#16 ∧ judgeRecord (record 2#16 9#16) = .resumed 9#16 0#32 0#16 := by
  decide +kernel
theorem test_witness_StartUpReadyStartsTheWork :
    let start : State := { State.reset with
      power := { PowerUnit.reset with startUp := .recovering, recovery := .notValid, image := some image },
      link := { LinkController.reset with channels := image.channels } }
    let closed := fun s : State => { s with pins := { s.pins with emswClosed := true } }
    (∀ s ∈ [start, closed start, closed (raised .alerting start)],
      s.recovered = true ∧ s.power.image = some image ∧ s.link.state = .off ∧ s.radio.sending = none ∧
        (s.power.power = .active ∨ s.pins.emswClosed = false)) ∧
      start.pins.emswClosed = false ∧ (closed start).emerg.state = .clear ∧ (closed (raised .alerting start)).emerg.state ≠ .clear := by
  decide
theorem test_witness_ResetWordWriteAsksForASoftReset :
    onDuty.writesFree = true ∧ ({ onDuty with path := { onDuty.path with resetDrain := true } } : State).path.resetDrain = true := by decide
def queued (k : OpKind) (s : State) : State := { s with path := { s.path with queue := [⟨k, 0⟩] } }
def depositing (waiting : List TripRecord) (r : TripRecord) (s : State) : State :=
  { s with trips := { s.trips with deposit := some ⟨r, ⟨⟨0x1200#16, 512#16⟩, 0, false, [], 100⟩⟩, pendingLog := waiting } }
theorem test_witness_SoftResetAppliesEveryBlocksRule :
    let s := fun t : State => { t with path := { t.path with resetDrain := true } }
    let assigned := withEntry 6 (entry .awarded 7302#32 none) onDuty
    let live := withEntry 6 (entry .live 7302#32 (some 9)) onDuty
    let onPort := fun t : State => { t with path := { t.path with internal := true } }
    let abandons := underWay .outboundFetch [.read 0x1400] onDuty
    let old := { closedTrip with ref := ⟨2#16, 12#16⟩ }
    let ended := underWay .tripDeposit [] (depositing [closedTrip] closedTrip hired)
    let writes := underWay .tripDeposit [.write 0x1200 100#16] (depositing [closedTrip, closedTrip] closedTrip hired)
    (∀ t ∈ [joined, hired, assigned, onDuty, live, depositing [closedTrip] closedTrip hired, depositing [closedTrip, closedTrip] closedTrip hired,
        depositing [old, closedTrip] closedTrip hired, underWay (.offerRewrite 6) [.write 0x400 0#16] onDuty, abandons, onPort abandons,
        queued .emergencyRewrite onDuty, queued .outboundFetch onDuty, ended, onPort writes], (s t).softResetDue = true ∧ (s t).path.held = []) ∧
      (s (holding [heldRead 1#19 true, heldRead 2#19 false] onDuty)).softResetDue = true ∧
      joined.status.shiftOpen = false ∧
      (hired.status.shiftOpen = true ∧ hired.trips.trip.isSome = true) ∧
      (assigned.status.shiftOpen = true ∧ assigned.trips.trip = none ∧ ∃ n, assigned.offers.stateOf n = .awarded) ∧
      (onDuty.status.shiftOpen = true ∧ onDuty.trips.trip = none ∧ (∀ n, onDuty.offers.stateOf n ≠ .awarded) ∧
        onDuty.trips.deposit = none ∧ onDuty.path.under = none) ∧
      live.offers.stateOf 6 = .live ∧ live.offers.stateOf 5 = .empty ∧
      closedTrip.ref.shift = hired.status.shiftNumber ∧ old.ref.shift ≠ hired.status.shiftNumber ∧
      abandons.path.internal = false ∧ (onPort abandons).path.internal = true ∧
      ended.depositWritten .tripDeposit = true ∧ writes.depositWritten .tripDeposit = false := by decide +kernel
theorem test_soft_reset_returns_a_deposit_until_its_pointer_is_written :
    let s := fun (cycles : List MemCycle) =>
      let t := underWay .tripDeposit cycles (depositing [] closedTrip onDuty)
      after .softReset { t with path := { t.path with resetDrain := true, internal := !cycles.isEmpty } }
    ((s [.write 0x1200 100#16]).trips.pendingLog = [closedTrip] ∧ (s [.write 0x1200 100#16]).trips.deposit = none) ∧
      (s []).trips.pendingLog = [] ∧ (s []).trips.deposit = none := by decide +kernel

/-! The Memory Path. -/

def post (address : BitVec 19) : PostEntry := ⟨address, some 1#8, some 2#8⟩
def withBuffer (es : List PostEntry) (d : Drain) (s : State) : State := { s with path := { s.path with buffer := es, drain := d } }

theorem test_witness_AcceptedWritePostsItsLanes :
    let full := withBuffer [post 1#19, post 2#19, post 3#19, post 4#19] .idle
    (∀ s ∈ [withBuffer [post 1#19, post 2#19, post 3#19] .idle onDuty, full onDuty, full State.reset, withBuffer [post 4#19] .writing onDuty],
      s.running = true ∧ s.path.resetDrain = false ∧ s.path.held = [] ∧ s.laneTreatment 4#19 false ≠ .guarded) ∧
      (full onDuty).path.buffer.getLast? = some (post 4#19) ∧ (full onDuty).path.drain = .idle ∧
      State.reset.power.startUp ≠ .ready := by decide +kernel
theorem test_witness_GuardedWriteIsDropped :
    let at_ := pageAddress 0#4 0x900
    let full := withBuffer [post 1#19, post 2#19, post 3#19, post 4#19] .idle (raised .alerting onDuty)
    (∀ s ∈ [raised .alerting onDuty, full, State.reset, recovering], s.running = true ∧ s.path.resetDrain = false ∧ s.path.held = [] ∧
      s.laneTreatment at_ false = .guarded ∧ s.laneTreatment (pageAddress 0#4 0x97E) true = .guarded) ∧
      laneAny Lanes.both = true ∧ laneAny ⟨true, false⟩ = true ∧ full.path.buffer.length = 4 ∧
      (raised .alerting onDuty).path.buffer.length < 4 ∧ State.reset.power.startUp = .loading ∧
      recovering.power.startUp = .recovering ∧ onDuty.power.startUp = .ready ∧ onDuty.emerg.state = .clear ∧
      onDuty.laneTreatment at_ false ≠ .guarded ∧
      (let s : State := { onDuty with emerg := { onDuty.emerg with guardHeld := true } }
       s.emerg.guardHeld = true ∧ s.laneTreatment at_ true = .guarded) ∧
      ({ State.reset with power := { PowerUnit.reset with startUp := .configFault } } : State).laneTreatment at_ false ≠ .guarded := by
  decide +kernel
def logWaits : State :=
  { onDuty with
    msgs := { onDuty.msgs with triplog := openRing 0x1200#16, outbound := openRing 0x1400#16, inbound := openRing 0x2000#16 },
    trips := { onDuty.trips with pendingLog := [closedTrip] } }
def treats (s : State) (t : Treatment) (os : List Nat) : Bool :=
  os.all (fun o => [false, true].all (fun k => s.laneTreatment (pageAddress s.path.asel o) k == t))
/-- The words of each kind in READY, at the ends of their ranges. -/
theorem test_guarded_words_in_ready :
    let met := { onDuty with status := { onDuty.status with driverId := 0#16, meterOpened := true } }
    let closing := { openRing 0x1400#16 with state := .closing }
    let logs := depositing [] closedTrip onDuty
    (treats onDuty .guarded [0x36] = true ∧ treats met .watched [0x36] = true ∧ treats joined .watched [0x36] = true) ∧
      (treats onDuty .guarded [0x100, 0x116, 0x11A, 0x17E, 0x180, 0x8FE] = true ∧ treats onDuty .watched [0x118, 0x898] = true) ∧
      (treats onDuty .watched [0x80, 0x82, 0x90, 0x92, 0xA0, 0xA2] = true ∧ treats logWaits .guarded [0x80, 0x82, 0x90, 0x92, 0xA0, 0xA2] = true) ∧
      (treats logWaits .guarded [0x1200, 0x1402, 0x2000] = true ∧ treats logWaits .watched [0x1202, 0x1400, 0x2002] = true) ∧
      treats { onDuty with msgs := { onDuty.msgs with outbound := closing } } .guarded [0x80, 0x1402] = true ∧
      (treats logs .guarded [0x1200] = true ∧ treats (underWay .tripDeposit [.write 0x1200 100#16] logs) .guarded [0x1200] = true ∧
        treats (underWay .tripDeposit [] logs) .plain [0x1200] = true ∧ treats logs .plain [0x1202] = true) ∧
      treats onDuty .plain [0x900, 0x97E, 0xA00, 0x1200, 0x3FFE] = true := by decide +kernel
/-- Before READY and in CONFIG_FAULT. -/
theorem test_treatments_before_ready :
    let fault := ({ State.reset with power := { PowerUnit.reset with startUp := .configFault } } : State)
    (∀ s ∈ [State.reset, recovering], treats s .shadowed [0, 2] = true ∧ treats s .guarded [0x900, 0x97E] = true ∧
      treats s .plain [4, 0x1C, 0x36, 0x80, 0x100, 0x8FE, 0x980, 0xA00, 0x3FFE] = true) ∧
      treats fault .shadowed [0, 2] = true ∧ treats fault .plain [4, 0x1C, 0x36, 0x80, 0x100, 0x8FE, 0x900, 0x97E, 0x980, 0x3FFE] = true := by
  decide +kernel
theorem test_witness_CyclesWaitWithReadyHeld_full :
    let s := withBuffer [post 1#19, post 2#19, post 3#19, post 4#19] .idle onDuty
    s.cyclesFree = true ∧ 4 ≤ s.path.buffer.length ∧ (∀ e ∈ s.path.buffer.getLast?.toList, e.address ≠ 0x20000#19) ∧
      laneAny (s.postedLanes 0x20000#19 Lanes.both) = true := by decide +kernel
theorem test_witness_CyclesWaitWithReadyHeld_stalled :
    let s := underWay (.offerRewrite 6) [] onDuty
    s.cyclesFree = true ∧ s.stalled (pageAddress 0#4 0x400) = true := by decide +kernel
theorem test_witness_CyclesWaitWithReadyHeld_busy :
    let onPort := fun s : State => { s with path := { s.path with internal := true } }
    let fetch := underWay .outboundFetch [.read 0x1400] onDuty
    let full := withBuffer [post 1#19, post 2#19, post 3#19, post 4#19] .idle onDuty
    let turn := { fetch with path := { fetch.path with fairness := 16 } }
    (∀ s ∈ [withBuffer [post 1#19] .writing onDuty, onPort fetch, full, turn],
      s.cyclesFree = true ∧ s.stalled 0x20000#19 = false ∧ s.needsMemory 0x20000#19 Lanes.both = true) ∧
      full.path.drain = .idle ∧ 4 ≤ full.path.buffer.length ∧ turn.path.internalTurn = true := by decide +kernel
theorem test_witness_CyclesWaitWithReadyHeld_behind :
    let s := fun (held : List HeldCycle) (low waits : Bool) =>
      ({ onDuty with path := { onDuty.path with held := held, inReset := low, resetDrain := waits } } : State)
    (s [⟨.read 1#19 Lanes.both, false⟩] false false).path.held ≠ [] ∧ (s [] true false).path.inReset = true ∧
      (s [] false true).path.resetDrain = true := by decide
theorem test_witness_ReadIsAnsweredLaneByLane_memory :
    let waiting := fun (n : Nat) =>
      let s := withBuffer [post 1#19] .idle (underWay .outboundFetch [.read 0x1400] onDuty)
      ({ s with path := { s.path with fairness := n } } : State)
    (∀ s ∈ [onDuty, waiting 0, waiting 14, waiting 15], s.cyclesFree = true ∧ s.stalled 0x20000#19 = false ∧
      s.needsMemory 0x20000#19 Lanes.both = true ∧ s.path.portForRead = true ∧ s.laneTreatment 0x20000#19 false ≠ .shadowed ∧
      laneAny (s.lanesOf .shadowed 0x20000#19 Lanes.both) = false) ∧
      onDuty.path.under = none ∧ (waiting 15).path.under.any (fun u => u.mark == 0 && !u.cycles.isEmpty) = true := by decide +kernel
theorem test_witness_ReadIsAnsweredLaneByLane_shadowed :
    let a := pageAddress 0#4 0x1C
    onDuty.cyclesFree = true ∧ onDuty.stalled a = false ∧ onDuty.needsMemory a Lanes.both = false ∧ cabOffset 0#4 a = some 0x1C ∧
      onDuty.treatment (fieldAt 0x1C) false = .shadowed ∧ onDuty.treatment (fieldAt 0x1C) true = .shadowed := by decide +kernel
theorem test_witness_ReadIsAnsweredLaneByLane_before_ready :
    let fault := ({ State.reset with power := { PowerUnit.reset with startUp := .configFault } } : State)
    (∀ s ∈ [State.reset, recovering, fault], s.running = true ∧ s.path.resetDrain = false ∧ s.path.held = [] ∧
      s.power.startUp ≠ .ready ∧ s.stalled 0#19 = false ∧ s.needsMemory 0#19 Lanes.both = false ∧ s.stalled 2#19 = false ∧
      s.needsMemory 2#19 Lanes.both = true ∧ s.path.portForRead = true) ∧
      cabOffset 0#4 0#19 = some 0 ∧ cabOffset 0#4 1#19 = some 2 ∧ cabOffset 0#4 2#19 = some 4 := by decide +kernel
theorem test_read_before_ready_answers_the_start_up_state_and_memory :
    let s := { State.reset with mem := [⟨0x1C, 5#8⟩] }
    (after (.processorRead 0#19 Lanes.both) s).path.answer = some ⟨0#19, some 0#8, some 0#8⟩ ∧
      (after (.processorRead 0x0E#19 Lanes.both) s).path.answer = some ⟨0x0E#19, some 5#8, some 0#8⟩ := by decide +kernel
theorem test_witness_DrainWritesTheOldestEntry_start :
    let waiting := withBuffer [post 1#19] .idle (underWay .outboundFetch [.read 0x1400] onDuty)
    let record := withBuffer [post (pageAddress 0#4 0x900)] .idle (raised .alerting onDuty)
    (∀ s ∈ [withBuffer [post 1#19] .idle onDuty, waiting, record], s.running = true ∧ s.path.drain = .idle ∧ s.path.internal = false ∧
      s.path.internalTurn = false ∧ Memory.wf s.mem = true) ∧ waiting.path.buffer = [post 1#19] ∧ waiting.path.internalReady = true ∧
      record.fieldOf (pageAddress 0#4 0x900) = some .emergencyRecord ∧ record.recordGuarded = true := by decide +kernel
/-- A drain with a fetch under way behind it. -/
def marked (mark fairness : Nat) (rest : List PostEntry) : State :=
  let s := withBuffer (post 0x7FFFF#19 :: rest) .writing onDuty
  { s with path := { s.path with under := some ⟨.outboundFetch, [.read 0x1400], [], [], false, mark⟩, fairness := fairness } }
theorem test_witness_DrainWritesTheOldestEntry_writes :
    (∀ s ∈ [withBuffer [post 0x7FFFF#19] .writing onDuty, marked 0 3 [], marked 1 3 [], marked 2 3 [], marked 1 15 [post 1#19],
        marked 1 16 [post 1#19]],
      s.path.buffer.head? = some (post 0x7FFFF#19) ∧ s.running = true ∧ s.path.drain = .writing ∧ s.path.held = [] ∧
      s.path.internal = false) ∧ onDuty.path.under = none := by decide +kernel
theorem test_witness_DrainWritesTheOldestEntry_serves :
    let s := holding [heldRead 0x20000#19 true] (withBuffer [post 0x7FFFF#19, post 1#19] .writing onDuty)
    let waits := holding [heldRead 0x20000#19 true, heldRead 1#19 false] (withBuffer [post 0x7FFFF#19] .writing onDuty)
    (∀ x ∈ [s, waits], x.running = true ∧ x.path.drain = .writing ∧ x.stalled 0x20000#19 = false ∧
      x.path.inReset = false ∧ x.path.resetDrain = false ∧ (x.path.held.tail.all (fun h => !h.passed)) = true) ∧
      s.path.internal = false ∧ s.path.fairness < 16 ∧ s.laneTreatment 0x20000#19 false ≠ .shadowed ∧
      s.laneTreatment 0x20000#19 true ≠ .shadowed := by decide +kernel
theorem test_witness_DrainWritesTheOldestEntry_drops :
    let s := withBuffer [post 1#19] .dropping onDuty
    s.path.buffer = [post 1#19] ∧ s.running = true ∧ s.path.drain = .dropping ∧ s.path.held = [] := by decide +kernel
/-- A drain for the record begun in CLEAR has written its word when a call is raised during its cycle; one begun in the call writes nothing. -/
theorem test_drain_of_the_record_writes_only_before_the_call :
    let s := withBuffer [post (pageAddress 0#4 0x900)] .idle onDuty
    let overtaken := after .drainComplete (raised .alerting (after .drainStart s))
    let guarded := after .drainComplete (after .drainStart (raised .alerting s))
    (overtaken.mem = [⟨0x900, 1#8⟩, ⟨0x901, 2#8⟩] ∧ overtaken.page.counters.guardHits = 0#16 ∧ overtaken.path.buffer = []) ∧
      guarded.mem = [] ∧ guarded.page.counters.guardHits = 1#16 ∧ guarded.path.buffer = [] := by decide +kernel

def plan : Deposit := ⟨⟨0x1200#16, 512#16⟩, 0, false, List.replicate 100 1#8, 100⟩
def inMessage : InMessage := ⟨77#16, false, true, false, [some [65#8]], 8000#32, 3⟩

theorem test_witness_OperationBeginsWithItsOwnersContent :
    (∀ k ∈ ([.offerRewrite 15, .emergencyRewrite, .totalsSnapshot, .outboundCompletion, .inboundDeposit, .tripDeposit, .outboundFetch,
        .headerRead .triplog, .recoveryRead] : List OpKind), ∀ b ∈ [[], [post 1#19]], ∀ f ∈ [0, 16], ∀ m ∈ [0, 1],
      let s : State := withBuffer b .idle { onDuty with path := { onDuty.path with queue := [⟨k, m⟩], fairness := f } }
      s.running = true ∧ s.path.under = none ∧ s.path.queue = [⟨k, m⟩] ∧ s.path.internal = false ∧ s.path.drain = .idle) ∧
    OfferEntry.reset.text.length ≤ 64 ∧
    (∃ s : State, ∃ c, s.trips.captured = some c) ∧ (∃ s : State, ∃ c, s.msgs.flight = .completing c) ∧
    (∃ s : State, ∃ d, s.msgs.deposit = some d) ∧ (∃ s : State, ∃ d, s.trips.deposit = some d) ∧
    ∃ s : State, ∃ d, (s.msgs.ring .triplog).check = some d :=
  ⟨by decide +kernel, by decide,
    ⟨{ onDuty with trips := { onDuty.trips with captured := some ⟨Totals.zero, 1#32⟩ } }, _, rfl⟩,
    ⟨withFlight (.completing ⟨.failed, 5#16, 0, true, 60⟩) onDuty, _, rfl⟩,
    ⟨{ onDuty with msgs := { onDuty.msgs with deposit := some ⟨inMessage, plan⟩ } }, _, rfl⟩,
    ⟨{ onDuty with trips := { onDuty.trips with deposit := some ⟨closedTrip, plan⟩ } }, _, rfl⟩,
    ⟨{ onDuty with msgs := { onDuty.msgs with triplog := { Ring.reset with check := some ⟨0x1200#16, 512#16⟩ } } }, _, rfl⟩⟩
/-- A cycle of the operation under way is on the port. -/
def onPort (s : State) : State := { s with path := { s.path with internal := true } }
theorem test_witness_InternalCycleReadsOrWritesOneWord :
    ∀ c ∈ ([.write 0x400 0x1234#16, .read 0x3FFE] : List MemCycle), ∀ rest ∈ ([[], [.read 0x402]] : List (List MemCycle)),
      ∀ k ∈ ([.headerRead .triplog, .outboundFetch, .abandoned] : List OpKind), let s := onPort (underWay k (c :: rest) onDuty)
      s.running = true ∧ s.path.internal = true ∧ s.path.under = some ⟨k, c :: rest, [], [], false, 0⟩ ∧
      s.path.held = [] ∧ Memory.wf s.mem = true := by decide +kernel

/-- An outbound fetch at its last ordered read, at offset 1402h, with the words read so far and the two pointers; memory holds FFFFh there
or nothing. -/
def fetching (own theirs : Word) (got : List Word) (wrap : Bool) : State :=
  let s := onPort (withFlight (.fetching .reading) onDuty)
  { s with
    msgs := { s.msgs with outbound := { s.msgs.outbound with own := own, theirs := theirs } },
    path := { s.path with under := some ⟨.outboundFetch, [.read 0x1402], got, [], false, 0⟩ },
    mem := if wrap then [⟨0x1402, 0xFF#8⟩, ⟨0x1403, 0xFF#8⟩] else [] }
/-- Which clause of the fetch's judging a state falls under, in the order of the statement. -/
def fetchClause (s : State) (u : UnderWay) : Nat :=
  let got := u.got ++ [Memory.readWord s.mem (pageAddress s.path.asel 0x1402)]
  let size := s.msgs.outbound.desc.size.toNat - 4
  let out := s.msgs.outbound.own.toNat
  let filled := (s.msgs.outbound.theirs.toNat + size - out) % size
  let length := (got.getD 2 0#16).toNat
  let n := 8 + (length + 3) / 4 * 4
  if got.length = 2 then
    (if got = [0xFFFF#16, 0xFFFF#16] ∧ 4 ≤ filled then 0 else if filled < 8 then 1 else if size < out + 8 then 2 else 3)
  else if got.length = 4 then
    (if (Word.lower (got.getD 0 0#16) ≠ 1#8 ∧ Word.lower (got.getD 0 0#16) ≠ 2#8) ∨ 200 < length then
      (if n ≤ filled ∧ out + n ≤ size then 4 else 5)
     else if filled < n then 6 else if size < out + n then 7 else if length = 0 then 8 else 9)
  else 10
theorem test_witness_InternalCycleReadsOrWritesOneWord_fetch :
    ([fetching 0#16 4#16 [0xFFFF#16] true, fetching 0#16 4#16 [1#16] false, fetching 504#16 4#16 [1#16] false,
      fetching 0#16 12#16 [1#16] false, fetching 0#16 8#16 [3#16, 5#16, 0#16] false, fetching 0#16 100#16 [2#16, 5#16, 201#16] false,
      fetching 0#16 12#16 [1#16, 5#16, 40#16] false, fetching 484#16 24#16 [1#16, 5#16, 40#16] false,
      fetching 0#16 8#16 [2#16, 5#16, 0#16] false, fetching 0#16 208#16 [1#16, 5#16, 200#16] false,
      fetching 0#16 12#16 [1#16, 5#16, 1#16, 0#16] false].map (fun s =>
        if s.running = true ∧ s.path.internal = true ∧ s.path.held = [] then (s.path.under.map (fetchClause s)) else none)) =
      (List.range 11).map some := by decide +kernel
theorem test_witness_RecordRewriteCompletes :
    ∀ k ∈ ([.offerRewrite 6, .totalsSnapshot, .emergencyRewrite] : List OpKind),
      ∀ l ∈ [[], [heldRead (pageAddress 0#4 0x700) false, heldRead 1#19 false]], let s := holding l (underWay k [] onDuty)
      s.running = true ∧ s.path.under = some ⟨k, [], [], [], false, 0⟩ ∧ s.attentionLaw ∧ (∀ h ∈ s.path.held, h.passed = false) := by
  unfold State.attentionLaw; decide +kernel

def tripDepositing (waiting : List TripRecord) : State :=
  underWay .tripDeposit [] { onDuty with
    trips := { onDuty.trips with deposit := some ⟨closedTrip, plan⟩, pendingLog := waiting },
    msgs := { onDuty.msgs with triplog := openRing 0x1200#16 } }

theorem test_witness_DepositCompletes_log :
    let s := tripDepositing []
    s.running = true ∧ s.path.held = [] ∧ s.path.under = some ⟨.tripDeposit, [], [], [], false, 0⟩ ∧
      s.trips.deposit = some ⟨closedTrip, plan⟩ ∧ s.trips.pendingLog = [] := by decide
theorem test_witness_DepositCompletes_log_goes_on :
    let s := tripDepositing [closedTrip]
    s.running = true ∧ s.path.held = [] ∧ s.path.under = some ⟨.tripDeposit, [], [], [], false, 0⟩ ∧
      s.trips.deposit = some ⟨closedTrip, plan⟩ ∧ s.trips.pendingLog = [closedTrip] ∧
      (({ s.msgs.triplog with own := BitVec.ofNat 16 plan.newPtr } : Ring).plan closedTrip.bytes).isSome = true := by decide +kernel
theorem test_witness_DepositCompletes_log_waits :
    let s := tripDepositing [closedTrip]
    let t := { s with msgs := { s.msgs with triplog := { s.msgs.triplog with state := .closed } } }
    t.running = true ∧ t.path.held = [] ∧ t.path.under = some ⟨.tripDeposit, [], [], [], false, 0⟩ ∧
      t.trips.deposit = some ⟨closedTrip, plan⟩ ∧ t.trips.pendingLog = [closedTrip] ∧
      ({ t.msgs.triplog with own := BitVec.ofNat 16 plan.newPtr } : Ring).plan closedTrip.bytes = none := by decide +kernel
/-- A deposit into INBOUND that ends, with the flow state and the two buffers as given. -/
def inDepositing (paused : Bool) (pauseAt resumeAt : Nat) (x y : Buffer) (ring : Ring) : State :=
  underWay .inboundDeposit [] { onDuty with msgs := { onDuty.msgs with
    deposit := some ⟨inMessage, plan⟩, inbound := ring, paused := paused, pauseAt := pauseAt, resumeAt := resumeAt, buffer0 := x, buffer1 := y } }
theorem test_witness_DepositCompletes_inbound :
    (∀ paused ∈ [true, false], ∀ pauseAt ∈ [404, 405], ∀ resumeAt ∈ [404, 405], ∀ x ∈ [Buffer.empty, .assembling assembly],
      ∀ ring ∈ [openRing 0x2000#16, Ring.reset],
      let s := inDepositing paused pauseAt resumeAt x .empty ring
      s.running = true ∧ s.path.held = [] ∧ s.path.under = some ⟨.inboundDeposit, [], [], [], false, 0⟩ ∧
        s.msgs.deposit = some ⟨inMessage, plan⟩ ∧ s.msgs.buffer0.message? = none ∧ s.msgs.buffer1.message? = none) ∧
      (0 + 2 * 508 - plan.newPtr - 4) % 508 = 404 ∧ inMessage.ackRequired = true ∧ inMessage.truncated = false := by decide +kernel
/-- One message waits, or two; the first repeats the message deposited, begins a deposit, or finds no room. -/
theorem test_witness_DepositCompletes_inbound_goes_on :
    let second : InMessage := { inMessage with tag := 78#16 }
    let late : InMessage := { inMessage with tag := 79#16, closedAt := 4 }
    (∀ m ∈ [inMessage, second], ∀ y ∈ [Buffer.empty, .assembling assembly, .closed late], ∀ ring ∈ [openRing 0x2000#16, Ring.reset],
      let s := inDepositing false 512 1024 (.closed m) y ring
      s.running = true ∧ s.path.held = [] ∧ s.path.under = some ⟨.inboundDeposit, [], [], [], false, 0⟩ ∧
        s.msgs.deposit = some ⟨inMessage, plan⟩ ∧ s.msgs.buffer0 = .closed m) ∧
      second.closedAt < late.closedAt ∧ inMessage.closedAt < late.closedAt ∧ inMessage.tag ∉ ([] : List Word) := by decide +kernel
/-- Of two messages that wait for the deposit the first is deposited next, and the second waits on. -/
theorem test_message_that_waits_is_deposited_next :
    let late : InMessage := { inMessage with tag := 79#16, closedAt := 4 }
    let t := after .inboundDepositComplete
      (inDepositing false 512 1024 (.closed late) (.closed { inMessage with tag := 78#16 }) (openRing 0x2000#16))
    t.msgs.deposit.map (·.message.tag) = some 78#16 ∧ t.msgs.buffer1 = .empty ∧ t.msgs.buffer0 = .closed late ∧ t.msgs.delivered = [77#16] ∧
      t.msgs.paused = true := by decide +kernel
theorem test_witness_DepositCompletes_bytes : closedTrip.tariffs.length ≤ 4 ∧ inMessage.parts.length ≤ 5 := by decide
theorem test_witness_FetchAndCompletionEnd_fetch :
    ∀ v ∈ ([.rejected ⟨.rejected, 5#16, 0, true, 60⟩, .passed outMessage] : List FetchVerdict),
      let s := underWay .outboundFetch [] (withFlight (.fetching v) onDuty)
      s.running = true ∧ s.path.held = [] ∧ s.path.under = some ⟨.outboundFetch, [], [], [], false, 0⟩ ∧ s.msgs.flight = .fetching v ∧
        v ≠ .reading := by decide
theorem test_witness_FetchAndCompletionEnd_incomplete :
    let s := underWay .outboundFetch [] (withFlight .none onDuty)
    s.running = true ∧ s.path.held = [] ∧ s.path.under = some ⟨.outboundFetch, [], [], [], false, 0⟩ ∧ s.msgs.flight = .none := by decide
theorem test_witness_FetchAndCompletionEnd_completion :
    let s := underWay .outboundCompletion [] (withFlight (.completing ⟨.failed, 5#16, 0, true, 60⟩) onDuty)
    s.running = true ∧ s.path.held = [] ∧ s.path.under = some ⟨.outboundCompletion, [], [], [], false, 0⟩ ∧
      s.msgs.flight = .completing ⟨.failed, 5#16, 0, true, 60⟩ := by decide

/-- An OPEN check of TRIPLOG beside an OPEN INBOUND at 2000h, its header read. -/
def checking (d : Descriptor) (got : List Word) : State :=
  { onDuty with
    msgs := { onDuty.msgs with triplog := { Ring.reset with check := some d }, inbound := openRing 0x2000#16 },
    path := { onDuty.path with under := some ⟨.headerRead .triplog, [], got, [], false, 0⟩ } }

/-- One descriptor for each outcome, at the bounds of R128: sizes 240 and 8208, a base off 16 bytes, a ring below 0A00h and one past
4000h, one sharing its last byte, pointers at D and unequal, and two good rings. -/
theorem test_witness_OpenCheckJudgesTheRing :
    (∀ x ∈ ([(⟨0x1200#16, 240#16⟩, [0#16, 0#16], .size), (⟨0x0A00#16, 8208#16⟩, [0#16, 0#16], .size),
        (⟨0x1208#16, 256#16⟩, [0#16, 0#16], .align), (⟨0x09F0#16, 256#16⟩, [0#16, 0#16], .outside),
        (⟨0x3F10#16, 256#16⟩, [0#16, 0#16], .outside), (⟨0x1F10#16, 256#16⟩, [0#16, 0#16], .overlap),
        (⟨0x1F00#16, 256#16⟩, [252#16, 252#16], .pointers), (⟨0x1F00#16, 256#16⟩, [4#16, 0#16], .pointers),
        (⟨0x1F00#16, 256#16⟩, [248#16, 248#16], .taken), (⟨0x2200#16, 256#16⟩, [0#16, 0#16], .taken)] :
        List (Descriptor × List Word × Outcome)),
      let s := checking x.1 x.2.1
      s.running = true ∧ s.path.held = [] ∧ s.path.under = some ⟨.headerRead .triplog, [], x.2.1, [], false, 0⟩ ∧
        (s.msgs.ring .triplog).check = some x.1 ∧ (s.msgs.ring .triplog).state = .closed ∧
        s.openOutcome .triplog x.1 ⟨x.2.1.getD 0 0#16, x.2.1.getD 1 0#16⟩ = x.2.2) := by decide +kernel

/-- What each ring's OPEN starts: the flow state at its two bounds, a fetch with and without a record and with a message in flight, and a record
that waits for the trip log. -/
theorem test_witness_OpenCheckJudgesTheRing_taken :
    let d : Descriptor := ⟨0x1F00#16, 256#16⟩
    let opens := fun (id : RingId) (got : List Word) (m : MessageEngine) => ({ onDuty with
      msgs := m.setRing id { Ring.reset with check := some d }
      path := { onDuty.path with under := some ⟨.headerRead id, [], got, [], false, 0⟩ } } : State)
    let held := fun (id : RingId) (got : List Word) (s : State) => s.running = true ∧ s.path.held = [] ∧
      s.path.under = some ⟨.headerRead id, [], got, [], false, 0⟩ ∧ (s.msgs.ring id).check = some d ∧ (s.msgs.ring id).state = .closed ∧
      s.openOutcome id d ⟨got.getD 0 0#16, got.getD 1 0#16⟩ = .taken
    (∀ paused ∈ [true, false], ∀ at_ ∈ [248, 249],
      held .inbound [0#16, 0#16] (opens .inbound [0#16, 0#16] { onDuty.msgs with paused := paused, pauseAt := at_, resumeAt := at_ })) ∧
      (∀ got ∈ [[0#16, 0#16], [60#16, 0#16]], ∀ f ∈ [Outbound.none, .flight outMessage],
        held .outbound got (opens .outbound got { onDuty.msgs with flight := f })) ∧
      (∀ x ∈ [none, some ⟨closedTrip, plan⟩], ∀ l ∈ [[], [closedTrip]], let s := opens .triplog [0#16, 0#16] onDuty.msgs
        held .triplog [0#16, 0#16] { s with trips := { s.trips with deposit := x, pendingLog := l } }) ∧
      (((Ring.reset.opened .triplog d ⟨0#16, 0#16⟩).plan closedTrip.bytes).isSome = true) := by decide +kernel

/-! Fields that the processor writes and reads: each judged request with a state and a value for each outcome. -/

theorem test_witness_LogonOpensOrJoinsTheShift :
    let met := { onDuty with status := { onDuty.status with driverId := 0#16, meterOpened := true } }
    (joined.writesFree = true ∧ joined.status.shiftOpen = false ∧ laneCombine Lanes.both joined.status.driverCopy 4172#16 ≠ 0#16) ∧
      (met.writesFree = true ∧ met.status.shiftOpen = true ∧ met.status.driverId = 0#16) ∧
      laneCombine Lanes.both joined.status.driverCopy 0#16 = 0#16 ∧ laneAny Lanes.both = true ∧
      (onDuty.cyclesFree = true ∧ onDuty.status.shiftOpen = true ∧ onDuty.status.driverId ≠ 0#16) := by decide
/-- A second logon, and a write of 0, are dropped (the worked sequence of chapter 1, step 4). -/
theorem test_logon_with_a_driver_logged_on_is_dropped :
    [5023#16, 0#16].all (fun d => let t := after (.logon Lanes.both d) onDuty
      t.page.counters.guardHits == 1#16 && t.status == onDuty.status && t.path == onDuty.path) = true := by decide +kernel
theorem test_witness_StatusRequestIsJudged :
    let onBreak := { onDuty with status := { onDuty.status with status := .onBreak } }
    (∀ s ∈ [joined, hired, raised .pressed onDuty, withEntry 6 (entry .bidding 7302#32 (some 8)) onDuty, onBreak, onDuty],
      s.writesFree = true ∧ laneCombine Lanes.both s.page.statusCopy 2#16 = 2#16 ∧ laneCombine Lanes.both s.page.statusCopy 1#16 = 1#16 ∧
        laneCombine Lanes.both s.page.statusCopy 3#16 = 3#16) ∧
      joined.status.shiftOpen = false ∧ hired.status.status ≠ .free ∧ (raised .pressed onDuty).emerg.state ≠ .clear ∧
      (withEntry 6 (entry .bidding 7302#32 (some 8)) onDuty).offers.bidding.isSome = true ∧ onBreak.status.status = .onBreak ∧
      (onDuty.status.status = .free ∧ onDuty.emerg.state = .clear ∧ onDuty.offers.bidding.isSome = false) := by decide +kernel
theorem test_witness_StatusRequestIsJudged_beside_other_events :
    let onBreak := { onDuty with status := { onDuty.status with status := .onBreak } }
    let held := { raised .pressed onBreak with emerg := { (raised .pressed onBreak).emerg with hold := some 0 } }
    let bidding := withEntry 6 (entry .bidding 7302#32 (some 8)) onDuty
    (onBreak.writesFree = true ∧ onBreak.offerLaw ∧ onBreak.status.status = .onBreak) ∧
      (held.ready = true ∧ held.emerg.state = .pressed ∧ held.emerg.hold = some 0 ∧ held.offerLaw ∧ held.status.status = .onBreak) ∧
      (onBreak.ready = true ∧ onBreak.status.shiftOpen = true ∧ onBreak.trips.trip = none ∧ onDuty.status.status = .free) ∧
      (bidding.hears (header 1#8 4711#16) (.award ⟨7302#32, 0#8, 0#8, 0#8, 0#32, []⟩) = true ∧ bidding.offers.find 7302#32 = some 6 ∧
        bidding.offers.stateOf 6 = .bidding ∧ bidding.status.status = .free) := by
  unfold State.offerLaw; decide +kernel
theorem test_witness_ShiftControlIsJudgedAndCloseEndsTheShift :
    (∀ s ∈ [joined, raised .acked onDuty, hired, faulty, onDuty], s.writesFree = true ∧
      laneCombine Lanes.both s.page.shiftCopy 1#16 = 1#16 ∧ laneCombine Lanes.both s.page.shiftCopy 2#16 = 2#16) ∧
      joined.status.shiftOpen = false ∧ (raised .acked onDuty).emerg.state ≠ .clear ∧ hired.trips.trip.isSome = true ∧
      (faulty.trips.trip.any (fun t => t.flags.meterFault)) = true ∧
      (onDuty.status.shiftOpen = true ∧ onDuty.emerg.state = .clear ∧ onDuty.trips.trip.isSome = false) := by decide +kernel
theorem test_witness_ShiftControlIsJudgedAndCloseEndsTheShift_offers :
    let assigned := withEntry 6 (entry .awarded 7302#32 none) onDuty
    (∀ s ∈ [bidding, assigned], s.writesFree = true ∧ s.status.shiftOpen = true ∧ s.emerg.state = .clear ∧ s.trips.trip.isSome = false ∧
      s.offers.stateOf 6 ≠ .empty ∧ s.offers.stateOf 5 = .empty) ∧
      (bidding.offers.awarded = none ∧ bidding.offers.bidding = some 6) ∧ assigned.offers.awarded = some 6 := by decide +kernel
theorem test_witness_ZoneAndPositionTakeEffect :
    onDuty.writesFree = true ∧ laneAny ⟨true, false⟩ = true ∧ laneAny ⟨false, true⟩ = true := by decide
theorem test_witness_PowerRequestIsJudged :
    let power := fun p => { onDuty with power := { onDuty.power with power := p } }
    let asleep := { power .sleep with link := { onDuty.link with state := .off, site := none } }
    (∀ s ∈ [hired, raised .acked onDuty, power .standby, asleep, onDuty], s.writesFree = true ∧
      laneCombine Lanes.both s.page.powerCopy 2#16 = 2#16 ∧ laneCombine Lanes.both s.page.powerCopy 1#16 = 1#16) ∧
      hired.trips.trip.isSome = true ∧ (raised .acked onDuty).emerg.state ≠ .clear ∧ (power .standby).power.power ≠ .active ∧
      (asleep.power.power = .sleep ∧ asleep.link.state = .off ∧ asleep.radio.sending = none) ∧
      (onDuty.power.power = .active ∧ onDuty.power.power ≠ .sleep ∧ onDuty.link.state = .joined) := by decide +kernel

/-- SLEEP taken from JOINED, with a message in flight and without one, from JOIN and from QUIET. -/
theorem test_witness_PowerRequestIsJudged_sleep :
    let sent := withFlight (.flight { outMessage with next := 1 }) onDuty
    (∀ s ∈ [sent, onDuty, joining, ready], s.writesFree = true ∧ laneCombine Lanes.both s.page.powerCopy 3#16 = 3#16 ∧
      s.trips.trip.isSome = false ∧ s.emerg.state = .clear ∧ s.power.power ≠ .sleep) ∧
      (sent.link.state = .joined ∧ joining.link.state = .join ∧ ready.link.state = .quiet) ∧
      (after (.powerRequestSleep Lanes.both) sent).msgs.flight = .flight outMessage := by decide +kernel

def withRing (r : Ring) (s : State) : State := { s with msgs := { s.msgs with outbound := r, inbound := r, triplog := r } }

theorem test_witness_RingRequestsAreJudged :
    let check : Ring := { Ring.reset with check := some ⟨0x1200#16, 512#16⟩ }
    let closing : Ring := { openRing 0x1200#16 with state := .closing }
    (∀ r ∈ [Ring.reset, check, closing, openRing 0x1200#16], (withRing r onDuty).writesFree = true ∧
      [1#16, 2#16, 9#16].all (fun w => laneCombine Lanes.both r.controlCopy w == w) = true) ∧
      (Ring.reset.state = .closed ∧ Ring.reset.check = none) ∧ ¬(check.state = .closed ∧ check.check = none) ∧
      closing.state = .closing ∧ (openRing 0x1200#16).state = .open := by decide +kernel

theorem test_witness_PointerWriteIsTakenOrRefused :
    (∀ id ∈ allRings, let s := logWaits
      s.writesFree = true ∧ s.pointerRing (s.pointerOffset id) = some id ∧ s.ownPointerAt (s.pointerOffset id) = false ∧
        s.pointerOffset id % 2 = 0 ∧ 0x0A00 ≤ s.pointerOffset id ∧ s.pointerOffset id < 0x4000 ∧
        (let own := (s.msgs.ring id).desc.base.toNat + (if id = .outbound then 2 else 0)
         s.cyclesFree = true ∧ (s.msgs.ring id).state ≠ .closed ∧ own % 2 = 0 ∧ 0x0A00 ≤ own ∧ own < 0x4000) ∧
        (let fits := fun w => let v := (laneCombine Lanes.both (s.msgs.ring id).theirs w).toNat
          v % 4 = 0 ∧ v < (s.msgs.ring id).desc.size.toNat - 4
         ¬fits 6#16 ∧ ¬fits 508#16 ∧ fits 0#16 ∧ fits 504#16) ∧ (s.msgs.ring id).state = .open) ∧
      logWaits.trips.deposit = none ∧ logWaits.trips.pendingLog = [closedTrip] ∧
      (({ logWaits.msgs.triplog with theirs := 0#16 } : Ring).plan closedTrip.bytes).isSome = true := by decide +kernel
theorem test_witness_EmergencyRaiseEntersAlerting :
    (∀ s ∈ [onDuty, bidding, raised .pressed onDuty, raised .alerting onDuty, raised .acked onDuty], s.writesFree = true ∧ s.offerLaw) ∧
      bidding.emerg.state = .clear ∧ bidding.offers.stateOf 6 = .bidding ∧ bidding.offers.stateOf 5 ≠ .bidding ∧
      laneMasked Lanes.both 0#16 = 0#16 ∧ laneMasked ⟨false, true⟩ 0x0100#16 ≠ 0#16 ∧ laneAny ⟨false, true⟩ = true := by
  unfold State.offerLaw; decide +kernel
theorem test_witness_AttentionFieldsActAsDescribed :
    (asserted.writesFree = true ∧ asserted.page.busy = true ∧ asserted.attentionLaw) ∧
      (onDuty.writesFree = true ∧ onDuty.page.busy = false ∧ onDuty.attentionLaw) ∧ laneAny ⟨true, false⟩ = true := by
  unfold State.attentionLaw; decide
theorem test_witness_ResponseIsJudgedByItsEntry :
    (∀ st ∈ ([.empty, .live, .bidding, .awarded, .declined, .lapsed, .lost, .withdrawn, .noAward] : List OfferState),
      let s := withEntry 15 (entry st 7302#32 none) onDuty
      s.writesFree = true ∧ s.offers.stateOf 15 = st ∧
        [1#8, 2#8, 3#8, 4#8].all (fun code =>
          Word.lower (laneCombine Lanes.both (s.offers.entry 15).response (Word.ofBytes 41#8 code)) == code) = true) ∧
      (let s := withEntry 0 (entry .bidding 7310#32 none) (withEntry 15 (entry .live 7302#32 none) onDuty)
       s.writesFree = true ∧ s.offers.otherClaims 15 = true) ∧
      (withEntry 15 (entry .live 7302#32 none) onDuty).offers.otherClaims 15 = false := by decide +kernel
theorem test_witness_ReadsHaveTheirEffects :
    onDuty.cyclesFree = true ∧ laneAny ⟨false, true⟩ = true ∧ onDuty.path.under = none ∧ onDuty.status.shiftOpen = true := by decide

/-! Meter and trips. -/

def fullTrip : OpenTrip :=
  { trip with tariffs := [⟨1#8, 8060#32⟩, ⟨2#8, 8070#32⟩, ⟨1#8, 8080#32⟩, ⟨2#8, 8090#32⟩] }

theorem test_witness_MeterMessagesActOnTheOpenTrip :
    hired.ready = true ∧ onDuty.ready = true ∧ onDuty.trips.trip = none ∧ hired.trips.trip = some trip ∧
      decodeMeter [0xA5#8, 1#8, 9#8, 0x51#8] = none ∧ (15#8).toNat ≤ 15 ∧ 1 ≤ (1#16).toNat ∧
      hired.trips.components.getD (15#8).toNat none = none ∧ hired.trips.components.getD (2#8).toNat none = some 1 ∧
      1 ≤ (8#8).toNat ∧ (8#8).toNat ≤ 8 ∧ trip.tariffs.getLast?.map (·.tariff) = some 1#8 ∧
      (trip.tariffs.getLast?.map (·.tariff) ≠ some 8#8 ∧ trip.tariffs.length < 4) ∧
      (fullTrip.tariffs.getLast?.map (·.tariff) ≠ some 1#8 ∧ 4 ≤ fullTrip.tariffs.length ∧
        (withTrip fullTrip onDuty).trips.trip = some fullTrip ∧ (withTrip fullTrip onDuty).ready = true) ∧
      (let s := { hired with trips := { hired.trips with silence := some 0 } }
       s.ready = true ∧ s.trips.trip ≠ none ∧ s.trips.silence = some 0) := by decide +kernel
theorem test_witness_HireOpensATrip :
    let standby := { joined with power := { joined.power with power := .standby } }
    let awarded := withEntry 6 (entry .awarded 7302#32 none) onDuty
    (onDuty.ready = true ∧ onDuty.trips.trip = none ∧ onDuty.status.shiftOpen = true ∧ onDuty.power.power = .active) ∧
      (joined.ready = true ∧ joined.trips.trip = none ∧ joined.status.shiftOpen = false) ∧
      (hired.ready = true ∧ hired.trips.trip = some trip) ∧ (standby.ready = true ∧ standby.power.power ≠ .active) ∧
      (awarded.ready = true ∧ awarded.offers.awarded = some 6) ∧ 1 ≤ (1#8).toNat ∧ (1#8).toNat ≤ 8 := by decide +kernel
theorem test_witness_TripClosesWithItsRecord :
    (hired.trips.trip = some trip ∧ hired.ready = true ∧ hired.trips.reports.length < 8 ∧
      (∀ e ∈ hired.trips.reports, e.record.ref ≠ trip.ref) ∧ hired.status.shiftOpen = true ∧ trip.ref.shift = hired.status.shiftNumber) ∧
      faulty.writesFree = true ∧ laneCombine Lanes.both faulty.page.shiftCopy 2#16 = 2#16 ∧ faulty.status.shiftOpen = true ∧
      (faulty.trips.trip.any (fun o => o.flags.meterFault)) = true ∧ onDuty.ready = true ∧ onDuty.trips.trip = none := by decide

def report (sends : Nat) : FareReport := ⟨closedTrip, sends, 100, false⟩
def shiftReport (sends : Nat) : ShiftReport := ⟨⟨{ Totals.zero with shiftNumber := 3#16 }, 8000#32⟩, sends, 100, false⟩
def reporting (sends : Nat) (abandoned : List TripRef) : State :=
  { onDuty with trips := { onDuty.trips with reports := [report sends], shiftReport := some (shiftReport sends), abandoned } }

theorem test_witness_ReportsAreRepeatedAndEnded :
    (∀ n ∈ [1, 4, 5], let s := reporting n []
      s.ready = true ∧ s.trips.reports.find? (fun x => x.record.ref == (report n).record.ref) = some (report n) ∧
        s.trips.shiftReport = some (shiftReport n) ∧ 1 ≤ (report n).sends ∧ (report n).come = false ∧
        (report n).retransmit ≤ s.link.seconds) ∧
      (let s := reporting 1 [⟨3#16, 11#16⟩]
       (∀ r ∈ [⟨3#16, 12#16⟩, ⟨3#16, 11#16⟩, ⟨3#16, 10#16⟩], s.hears (header 1#8 4711#16) (.ackOfFare r) = true) ∧
         s.hears (header 1#8 4711#16) (.ackOfShift 3#16) = true ∧ s.hears (header 1#8 4711#16) (.ackOfShift 2#16) = true ∧
         (∃ e ∈ s.trips.reports, e.record.ref = ⟨3#16, 12#16⟩) ∧ (∀ e ∈ s.trips.reports, e.record.ref ≠ ⟨3#16, 11#16⟩) ∧
         ⟨3#16, 11#16⟩ ∈ s.trips.abandoned ∧ (∀ e ∈ s.trips.reports, e.record.ref ≠ ⟨3#16, 10#16⟩) ∧
         ⟨3#16, 10#16⟩ ∉ s.trips.abandoned) := by decide +kernel

/-! Inputs and timers. -/

theorem test_witness_SwitchAndEmergencyTimersAct :
    let closed := fun s : State => { s with pins := { s.pins with emswClosed := true } }
    let standby := { joined with power := { joined.power with power := .standby } }
    let held := { raised .pressed bidding with emerg := { (raised .pressed bidding).emerg with hold := some 0 } }
    let acked := { raised .acked onDuty with emerg := { (raised .acked onDuty).emerg with repeatLeft := some 0 } }
    (onDuty.pins.emswClosed = false ∧ onDuty.ready = true ∧ onDuty.emerg.state = .clear ∧ onDuty.power.power = .active) ∧
      (standby.ready = true ∧ standby.pins.emswClosed = false ∧ standby.power.power ≠ .active) ∧
      ((closed onDuty).pins.emswClosed = true ∧ (closed onDuty).ready = true) ∧
      (held.ready = true ∧ held.emerg.state = .pressed ∧ held.emerg.hold = some 0 ∧ held.offerLaw ∧ held.offers.stateOf 6 = .bidding) ∧
      (acked.ready = true ∧ acked.emerg.state = .acked ∧ acked.emerg.repeatLeft = some 0) := by
  unfold State.offerLaw; decide +kernel
theorem test_witness_IgnitionAndSecondsAct :
    let on := { onDuty with pins := { onDuty.pins with ign := true } }
    let standby := { joined with power := { joined.power with power := .standby } }
    (on.pins.ign = true ∧ on.ready = true) ∧ (onDuty.pins.ign = false ∧ onDuty.ready = true ∧ onDuty.power.power = .active) ∧
      (standby.pins.ign = false ∧ standby.ready = true ∧ standby.power.power ≠ .active) ∧ onDuty.running = true ∧
      ((raised .acked onDuty).ready = true ∧ (raised .acked onDuty).emerg.state = .acked) := by decide

def withBuffers (d : Option InDeposit) (delivered : List Word) (inbound : Ring) : State :=
  { onDuty with msgs := { onDuty.msgs with buffer1 := .assembling assembly, deposit := d, delivered, inbound } }

theorem test_witness_OfferAndMessageTimersAct :
    (let s := withEntry 15 (entry .live 7302#32 (some 0)) onDuty
     s.ready = true ∧ s.offers.stateOf 15 = .live ∧ (s.offers.entry 15).timer = some 0) ∧
      (let s := withEntry 0 (entry .bidding 7302#32 (some 0)) onDuty
       s.ready = true ∧ s.offers.stateOf 0 = .bidding ∧ (s.offers.entry 0).timer = some 0) ∧
      (∀ n ∈ [2, 3], let s := withFlight (.flight { outMessage with sends := n }) onDuty
        s.ready = true ∧ s.msgs.flight = .flight { outMessage with sends := n } ∧ outMessage.ackWait = some 0) ∧
      (∀ s ∈ [withBuffers (some ⟨inMessage, plan⟩) [] Ring.reset, withBuffers none [77#16] Ring.reset,
          withBuffers none [] (openRing 0x2000#16), withBuffers none [] Ring.reset],
        s.ready = true ∧ s.msgs.buffer .buffer1 = .assembling assembly ∧ assembly.timer = some 0 ∧
          (s.msgs.buffer .buffer0).message? = none) ∧
      (let m : InMessage := ⟨77#16, false, true, true, assembly.parts, 8000#32, 0⟩
       ((openRing 0x2000#16).plan m.bytes).isSome = true ∧ Ring.reset.plan m.bytes = none) := by decide +kernel

/-! Cycles, hunt and slots. -/

def window (s : State) : State := { s with link := { s.link with window := true } }
def long (l : LongState) (requests : Nat) (s : State) : State := { s with sched := { s.sched with long := l, requests } }
def contends (c : Contention) (s : State) : State := { s with sched := { s.sched with contention := c } }
def granted (since : Nat) (s : State) : State := { s with sched := { s.sched with grant := some ⟨400#16, 5, 2, since, false⟩ } }

theorem test_witness_CycleStartsAndCycleWaitsAct :
    (onDuty.ready = true ∧ onDuty.link.window = false ∧ onDuty.sched.grant = none ∧ onDuty.link.state = .joined) ∧
      ((window ready).ready = true ∧ (window ready).link.window = true ∧ (window ready).link.state = .quiet) ∧
      ((window hunting).ready = true ∧ (window hunting).link.window = true ∧ (window hunting).link.state = .hunt) ∧
      (∀ c ∈ ([.idle, .outstanding none, .outstanding (some .alert), .outstanding (some (.bid 7302#32)), .outstanding (some .slotRequest)] :
          List Contention), ∀ n ∈ [0, 3, 4],
        let s := contends c { window onDuty with link := { (window onDuty).link with loss := n } }
        s.ready = true ∧ s.link.window = true ∧ s.link.state = .joined ∧ s.sched.contention ≠ .outstanding (some .join)) ∧
      (∀ n ∈ [2, 3], let s := long (.wait 0) n (withFlight (.flight outMessage) onDuty)
        s.ready = true ∧ s.sched.long = .wait 0 ∧ 0 < s.sendable) ∧
      ((long (.rest 0) 0 onDuty).sched.long = .rest 0 ∧ onDuty.sendable = 0) ∧
      ((granted 4 onDuty).ready = true ∧ (granted 4 onDuty).link.cycle ≠ 400#16) ∧
      (let s := { onDuty with power := { onDuty.power with power := .parking } }
       s.ready = true ∧ s.power.power = .parking ∧ s.power.parking = 0 ∧ s.emerg.state = .clear ∧
         (raised .pressed s).emerg.state ≠ .clear) := by decide +kernel
theorem test_witness_CycleStartsAndCycleWaitsAct_window :
    let second := fun s : State => { window s with link := { (window s).link with beaconIn := true } }
    (∀ s ∈ [second onDuty, second joining, second hunting, window ready], s.ready = true ∧ s.link.window = true ∧
      (s.link.beaconIn = true ∨ s.link.state = .quiet)) ∧
      (second onDuty).sched.grant = none ∧ (window hunting).link.beaconIn = false ∧
      (let s := long (.wait 0) 3 onDuty
       s.sched.long = .wait 0 ∧ s.sendable = 0 ∧ s.sched.requests = 3) := by decide +kernel
/-- A grant whose slots have passed, in JOINED and not, with a frame to send and without; a window open in OFF. -/
theorem test_witness_CycleStartsAndCycleWaitsAct_grant :
    let seen := fun (stop : Nat) (s : State) => ({ s with
      sched := { s.sched with grant := some ⟨408#16, stop - 6, 2, 0, true⟩, long := .held }, link := { s.link with nextSlot := 12 } } : State)
    let off : State := { window ready with link := { (window ready).link with state := .off } }
    (∀ s ∈ [seen 12 onDuty, seen 12 (withFlight (.flight outMessage) onDuty), seen 12 ready, seen 13 onDuty, window (seen 12 onDuty)],
      s.ready = true ∧ ∃ g, s.sched.grant = some g ∧ g.seen = true) ∧
      (12 - 6 + 3 * 2 ≤ 12 ∧ ¬(13 - 6 + 3 * 2 ≤ 12)) ∧ 0 < (seen 12 (withFlight (.flight outMessage) onDuty)).sendable ∧
      (seen 12 onDuty).sendable = 0 ∧ (off.ready = true ∧ off.link.window = true ∧ off.link.state = .off) :=
  ⟨by intro s hs
      simp only [List.mem_cons, List.not_mem_nil, or_false] at hs
      rcases hs with rfl | rfl | rfl | rfl | rfl <;> exact ⟨by decide, _, rfl, rfl⟩, by decide, by decide, by decide, by decide⟩
theorem test_fifth_miss_counts_the_outstanding_transmission :
    let t := after .cycleStart (contends (.outstanding none) { window onDuty with link := { (window onDuty).link with loss := 4 } })
    t.link.state = .quiet ∧ t.page.counters.contentionFails = 1#16 ∧ t.link.window = true ∧ t.link.quiet = 1 := by decide +kernel
theorem test_witness_CycleStartsAndCycleWaitsAct_join :
    let other : Candidate := ⟨305#16, 40#16, 2#8⟩
    let missed := fun (c : Contention) (loss attempts : Nat) (l : List Candidate) =>
      contends c { window joining with link := { (window joining).link with loss := loss, attempts := attempts, candidates := l } }
    (∀ c ∈ ([.idle, .outstanding none, .outstanding (some .join)] : List Contention), ∀ loss ∈ [0, 4], ∀ attempts ∈ [3, 4],
      ∀ l ∈ [[candidate], [candidate, other]], let s := missed c loss attempts l
      s.ready = true ∧ s.link.window = true ∧ s.link.beaconIn = false ∧ s.link.state = .join ∧ s.link.joining = some candidate) ∧
      [candidate].erase candidate = [] ∧ [candidate, other].erase candidate = [other] := by decide +kernel
theorem test_witness_HuntAndJoinProceed :
    let quiet := { ready with link := { ready.link with quiet := 2 } }
    let listen := fun (rest : List Word) (run : Option Run) (l : List Candidate) (e : EmergencyState) =>
      raised e { hunting with link := { hunting.link with hunt := some ⟨112#16, rest, run⟩, candidates := l } }
    let waits := fun (n : Nat) (l : List Candidate) =>
      { joining with link := { joining.link with grantWait := some 0, attempts := n, candidates := l } }
    (quiet.ready = true ∧ quiet.link.state = .quiet ∧ 2 ≤ quiet.link.quiet ∧ quiet.link.channels = 112#16 :: [305#16, 118#16]) ∧
      (∀ s ∈ [listen [305#16] none [] .clear, listen [305#16] none [] .acked, listen [305#16] (some ⟨33#16, 1, 7#8⟩) [] .acked,
          listen [] none [] .clear, listen [] none [candidate] .clear, listen [305#16] none [candidate] .acked,
          listen [] (some ⟨33#16, 1, 7#8⟩) [] .acked, listen [] none [] .acked],
        s.ready = true ∧ s.link.state = .hunt ∧ s.link.hunt.isSome = true ∧ s.radio.sending = none) ∧
      (∀ s ∈ [waits 3 [candidate], waits 4 [candidate], waits 4 [candidate, ⟨305#16, 40#16, 2#8⟩]],
        s.ready = true ∧ s.link.state = .join ∧ s.link.grantWait = some 0 ∧ s.link.joining = some candidate) ∧
      (waits 4 [candidate]).link.candidates.erase candidate = [] ∧
      (waits 4 [candidate, ⟨305#16, 40#16, 2#8⟩]).link.candidates.erase candidate ≠ [] := by decide +kernel
/-- A channel list with repeats: each channel is listened to once, in the order of the list. -/
theorem test_witness_HuntAndJoinProceed_order :
    let s := { ready with link := { ready.link with quiet := 2, channels := [305#16, 118#16, 305#16, 112#16, 118#16] } }
    (s.ready = true ∧ s.link.state = .quiet ∧ 2 ≤ s.link.quiet) ∧
      (after .quietWaitEnd s).link.hunt = some ⟨305#16, [118#16, 112#16], none⟩ := by decide +kernel
theorem test_witness_HuntAndJoinProceed_ties :
    let first : Candidate := ⟨112#16, 33#16, 2#8⟩
    let second : Candidate := ⟨305#16, 40#16, 2#8⟩
    let s : State := { hunting with link := { hunting.link with hunt := some ⟨118#16, [], none⟩, candidates := [first, second] } }
    s.ready = true ∧ s.link.state = .hunt ∧ s.link.hunt = some ⟨118#16, [], none⟩ ∧ s.link.candidates = [] ++ first :: [second] ∧
      abilityRank first.abilities = abilityRank second.abilities := by decide +kernel

/-- The grant of the present cycle: slots 5 to 10 for two long frames. -/
def inGrant (s : State) : State := { s with sched := { s.sched with grant := some ⟨408#16, 5, 2, 1, true⟩ } }
def atSlot (k : Nat) (s : State) : State := { s with link := { s.link with nextSlot := k } }

/-- The contenders, each with its place or list filled in a link state that may send it. -/
def contenders : List (Contender × State) :=
  let bidding := { onDuty with sched := { onDuty.sched with bids := [⟨7302#32, .accept, 2⟩] } }
  [(.alert, { bidding with sched := { bidding.sched with alertPlace := some ⟨9#16, .switch⟩ } }), (.bid 7302#32, bidding),
    (.slotRequest, { onDuty with sched := { onDuty.sched with slotRequest := some ⟨1, false⟩ } }),
    (.join, { joining with sched := { joining.sched with joinPlace := true } })]

/-- The first contender at slot 0 and its attempts, as R53 orders them. -/
def firstContender (s : State) : Option Contender :=
  if s.sched.joinPlace = true ∧ s.link.state = .join then some .join
  else if s.link.state ≠ .joined then none
  else if s.sched.alertPlace ≠ none then some .alert
  else match s.sched.bids with
    | b :: _ => some (.bid b.job)
    | [] => if s.sched.slotRequest.any (fun r => !r.fellBack) then some .slotRequest else none

theorem test_witness_SlotCarriesTheFirstUse_grants :
    let passed := { onDuty with sched := { onDuty.sched with grant := some ⟨408#16, 5, 2, 1, true⟩ } }
    let other := { onDuty with sched := { onDuty.sched with grant := some ⟨407#16, 5, 2, 2, true⟩ } }
    (∀ s ∈ [window onDuty, window (atSlot 0 hunting), window (atSlot 0 joining), atSlot 11 passed, other, withFlight (.flight outMessage) other],
      s.ready = true ∧ s.link.nextSlot < 24) ∧
      (window onDuty).link.window = true ∧ other.link.window = false ∧ 5 + 3 * 2 ≤ 11 ∧ other.link.cycle ≠ 407#16 ∧
      other.sendable = 0 ∧ 0 < (withFlight (.flight outMessage) other).sendable := by decide +kernel
theorem test_witness_SlotCarriesTheFirstUse_longSlots :
    let shift := { reporting 0 [] with trips := { (reporting 0 []).trips with reports := [] } }
    let text := withFlight (.flight outMessage) onDuty
    let busy := { onDuty with radio := { onDuty.radio with sending := some ⟨.flow, .reserved, true⟩ } }
    (∀ s ∈ [busy, inGrant onDuty, inGrant (reporting 0 []), inGrant shift, inGrant text],
      s.ready = true ∧ s.link.nextSlot = 5 ∧ s.link.window = false ∧ s.link.state = .joined ∧ s.power.power = .active ∧
        (∀ g ∈ s.sched.grant.toList, g.cycle = s.link.cycle ∧ s.link.nextSlot < g.start + 3 * g.count)) ∧
      (reporting 0 []).siteHasFare = true ∧ (reporting 0 []).trips.reports.find? FareReport.due = some (report 0) ∧
      shift.trips.reports.find? FareReport.due = none ∧ shift.trips.shiftReport = some (shiftReport 0) ∧
      reportDue (shiftReport 0).sends (shiftReport 0).come = true ∧
      (text.siteHasText = true ∧ text.siteHasFare = true ∧ text.trips.reports = [] ∧ text.trips.shiftReport = none ∧
        text.msgs.flight = .flight outMessage ∧ outMessage.next < outMessage.fragments) ∧
      (inGrant onDuty).sendable = 0 := by decide +kernel
theorem test_witness_SlotCarriesTheFirstUse_reserved :
    let alert := { onDuty with sched := { onDuty.sched with alertPlace := some ⟨9#16, .switch⟩ } }
    let ack := { onDuty with sched := { onDuty.sched with acks := [77#16] } }
    let bid := { onDuty with sched := { onDuty.sched with bids := [⟨7302#32, .accept, 0⟩] } }
    let flow := { onDuty with sched := { onDuty.sched with flowPlace := some .pause } }
    let request := { onDuty with sched := { onDuty.sched with slotRequest := some ⟨0, true⟩ } }
    let status := { onDuty with sched := { onDuty.sched with statusPlace := some onDuty.statusReport } }
    (∀ s ∈ [alert, ack, bid, flow, request, status, onDuty, inGrant status], s.ready = true ∧ s.radio.sending = none ∧
      s.link.window = false ∧ s.link.nextSlot = 5 ∧
      (∃ r ∈ s.link.site.toList, s.link.cycle.toNat % r.period.toNat = r.phase.toNat ∧ r.slot.toNat = 5)) ∧
      onDuty.sched.statusPlace = none ∧ (onDuty.sched.alertPlace = none ∧ onDuty.sched.acks = [] ∧ onDuty.sched.bids = [] ∧
        onDuty.sched.flowPlace = none ∧ onDuty.sched.slotRequest = none) := by decide +kernel
theorem test_witness_SlotCarriesTheFirstUse_slotZero :
    (∀ x ∈ contenders, ∀ c ∈ ([.idle, .slotted x.1 20, .slotted .alert 20, .waiting x.1 2, .waiting .join 0] : List Contention),
      let s := contends c (atSlot 0 x.2)
      s.ready = true ∧ s.link.nextSlot = 0 ∧ s.link.window = false ∧ s.sched.grant = none ∧ s.power.power = .active ∧
        firstContender s = some x.1) ∧
      firstContender onDuty = none ∧ firstContender joining = none := by decide +kernel
theorem test_witness_SlotCarriesTheFirstUse_drawnSlot :
    let gone : List State := [onDuty, onDuty, onDuty, joining]
    (∀ x ∈ contenders.zip gone, ∀ s ∈ [x.1.2, x.2], let s := contends (.slotted x.1.1 20) (atSlot 20 s)
      s.ready = true ∧ s.link.nextSlot = 20 ∧ s.link.window = false ∧ s.sched.grant = none ∧ s.radio.sending = none ∧
        s.reservedSlot ≠ some 20 ∧ s.sched.contention = .slotted x.1.1 20) ∧
      onDuty.sched.alertPlace = none ∧ onDuty.sched.bids = [] ∧ onDuty.sched.slotRequest = none ∧ joining.sched.joinPlace = false ∧
      onDuty.power.image = some image := by decide +kernel
theorem test_witness_BackoffDrawsAContentionSlot :
    let s := atSlot 1 (contends (.waiting .alert 0) onDuty)
    let full := atSlot 1 (contends (.waiting .alert 0) { onDuty with link := { onDuty.link with contention := 0 } })
    (∀ t ∈ [s, full], t.ready = true ∧ t.link.nextSlot = 1 ∧ t.sched.contention = .waiting .alert 0 ∧ t.link.state = .joined ∧
      t.power.power = .active) ∧
      (∃ d, d < 24 ∧ 24 - s.link.contention ≤ d ∧ s.reservedSlot ≠ some d ∧ s.inGrant d = false) ∧
      ∀ d, d < 24 → ¬(24 - full.link.contention ≤ d) := ⟨by decide +kernel, ⟨20, by decide +kernel⟩, by decide +kernel⟩
theorem test_witness_SentFramesAreReported :
    let sending := fun (name : FrameName) (via : Via) (live : Bool) (s : State) =>
      { s with radio := { s.radio with sending := some ⟨name, via, live⟩ } }
    let parking := { onDuty with power := { onDuty.power with power := .parking } }
    (∀ s ∈ [sending (.ack 77#16) .reserved true onDuty, sending (.bid 7302#32) .reserved true onDuty, sending .flow .reserved true onDuty,
        sending .slotRequest .reserved true onDuty, sending .flow .reserved false onDuty, sending (.status false) .reserved true onDuty,
        sending (.status true) .reserved true parking, sending (.alert 9#16) .reserved true (raised .alerting onDuty),
        sending (.alert 9#16) .contention true (raised .acked onDuty), sending .join .contention true joining,
        sending (.bid 7302#32) .contention true onDuty, sending (.fare ⟨3#16, 12#16⟩) .long true (reporting 0 []),
        sending (.shift 3#16) .long true (reporting 0 []), sending (.text 5#16 0) .long true (withFlight (.flight outMessage) onDuty),
        sending (.text 5#16 0) .long false onDuty],
      s.ready = true ∧ s.radio.sending.isSome = true ∧ s.radio.deferred = []) ∧
      parking.power.power = .parking ∧ joining.link.state = .join ∧ (raised .acked onDuty).emerg.number = 9#16 ∧
      (reporting 0 []).trips.shiftReport = some (shiftReport 0) := by decide +kernel
theorem test_witness_SentFramesAreReported_restarted :
    let sending := fun (via : Via) (name : FrameName) (live : Bool) (s : State) =>
      { s with radio := { s.radio with sending := some ⟨name, via, live⟩ } }
    let again := sending .long (.text 5#16 1) true (withFlight (.flight outMessage) onDuty)
    let raisedParking := raised .acked { onDuty with power := { onDuty.power with power := .parking } }
    (∀ s ∈ [again, sending .long (.text 6#16 0) true (withFlight (.flight outMessage) onDuty),
        sending .long (.text 5#16 1) true (withFlight (.flight { outMessage with next := 1, ackWait := none }) onDuty),
        sending .reserved (.status true) true onDuty, sending .reserved (.status true) true raisedParking],
      s.ready = true ∧ s.radio.sending.isSome = true ∧ s.radio.deferred = []) ∧
      outMessage.next ≠ 1 ∧ outMessage.tag ≠ 6#16 ∧ 1 + 1 = outMessage.fragments ∧ onDuty.power.power ≠ .parking ∧
      raisedParking.emerg.state ≠ .clear ∧ raisedParking.power.power = .parking := by decide +kernel

/-! Downlink frames. -/

theorem test_witness_FramesAreCheckedAndFiltered :
    decodeFrame (List.replicate 11 0#8) = .damaged ∧ onDuty.ready = true ∧ onDuty.link.state ≠ .off ∧ State.reset.link.state = .off ∧
      (∀ b ∈ ([.beacon (beaconBody []), .grantJoin 5#8 1#8 0#8, .deny 1#8, .rejoin, .grantLong 409#16 5#8 2#8,
          .offer ⟨1#32, 30#8, 9#8, 0#8, 0#32, []⟩, .award ⟨1#32, 30#8, 9#8, 0#8, 0#32, []⟩, .lost 1#32, .withdraw 1#32,
          .text ⟨1#16, 0#8, 1#8, 0#8, []⟩, .ackOfText 1#16, .ackOfFare ⟨3#16, 12#16⟩, .ackOfShift 3#16, .alertAck 9#16, .alertCancel 9#16,
          .wake (List.replicate 6 4711#16)] : List DownBody), onDuty.hears { header 1#8 4711#16 with fleet := 8#8 } b = false) ∧
      onDuty.hears (header 1#8 4711#16) .rejoin = true ∧ onDuty.hears (header 1#8 0xFFFF#16) .rejoin = true ∧
      onDuty.hears { header 2#8 9#16 with mask := 3#8 } .rejoin = true ∧ onDuty.hears { header 3#8 0#16 with mask := 2#8 } .rejoin = true ∧
      (let s := { onDuty with power := { onDuty.power with power := .standby } }
       s.hears (header 4#8 0#16) (.beacon (beaconBody [])) = true ∧ s.power.power = .standby) := by decide +kernel
theorem test_witness_FramesAreCheckedAndFiltered_unknown :
    let b := [0x7F#8, 7#8, 0#8, 33#8, 1#8, 0#8, 0x12#8, 0x67#8, 0#8, 0#8]
    decodeFrame (b ++ be16 (crc b)) = .unknown := by decide +kernel
theorem test_witness_FramesAreCheckedAndFiltered_passes :
    let offer : DownBody := .offer ⟨1#32, 30#8, 9#8, 0#8, 0#32, []⟩
    let text : DownBody := .text ⟨1#16, 0#8, 1#8, 0#8, []⟩
    (∀ b ∈ [offer, text, .lost 1#32, .withdraw 1#32, .rejoin], ∀ h ∈ [header 1#8 4711#16, header 1#8 0xFFFF#16,
        { header 2#8 9#16 with mask := 3#8 }, header 3#8 0#16], onDuty.hears h b = true) ∧
      (∀ b ∈ ([.deny 1#8, .grantJoin 5#8 1#8 0#8] : List DownBody), joining.hears (header 1#8 4711#16) b = true ∧
        joining.hears (header 1#8 0xFFFF#16) b = false ∧ joining.hears { header 1#8 4711#16 with site := 34#16 } b = false) ∧
      (∀ s ∈ [onDuty, joining], s.hears { header 4#8 0#16 with site := 34#16 } (.beacon (beaconBody [])) = false) ∧
      (∀ s ∈ [ready, hunting], s.hears { header 4#8 0#16 with site := 34#16 } (.beacon (beaconBody [])) = true) ∧
      onDuty.hears (header 1#8 0xFFFF#16) (.alertAck 9#16) = false ∧ onDuty.hears (header 3#8 0#16) (.ackOfShift 3#16) = false := by
  decide +kernel
theorem test_witness_BeaconsAndMembershipFramesAct :
    let hear := fun (s : State) (heard : List Word) => s.hears (header 4#8 0#16) (.beacon (beaconBody heard))
    let cab := header 1#8 4711#16
    (∀ s ∈ [onDuty, contends (.outstanding (some .alert)) onDuty, contends (.outstanding (some (.bid 7302#32))) onDuty, hunting,
        raised .acked hunting, { hunting with link := { hunting.link with hunt := some ⟨112#16, [305#16], some ⟨33#16, 1, 7#8⟩⟩ } }],
      hear s [] = true ∧ hear s [4711#16] = true) ∧
      (onDuty.link.state = .joined ∧ onDuty.sched.contention ≠ .outstanding (some .join)) ∧
      (hunting.link.state = .hunt ∧ hunting.emerg.state = .clear) ∧
      ((raised .acked hunting).emerg.state ≠ .clear ∧ (raised .acked hunting).link.candidates = []) ∧
      ([(23#8, 8#8, 7#8), (24#8, 1#8, 0#8), (5#8, 0#8, 0#8), (5#8, 9#8, 0#8), (5#8, 2#8, 2#8)].all
        (fun x => joining.hears cab (.grantJoin x.1 x.2.1 x.2.2)) = true) ∧ joining.link.joining = some candidate ∧
      joining.hears cab (.deny 1#8) = true ∧ joining.link.candidates.erase candidate = [] ∧ onDuty.hears cab .rejoin = true ∧
      ([(409#16, 21#8, 1#8), (412#16, 12#8, 4#8), (408#16, 5#8, 1#8), (413#16, 5#8, 1#8), (409#16, 22#8, 1#8), (409#16, 5#8, 0#8),
          (409#16, 5#8, 5#8)].all (fun x => (long (.wait 3) 1 onDuty).hears cab (.grantLong x.1 x.2.1 x.2.2)) = true) ∧
      (long (.wait 3) 1 onDuty).sched.long ≠ .none ∧ (long (.wait 3) 1 onDuty).sched.long ≠ .held := by decide +kernel
theorem test_witness_BeaconsAndMembershipFramesAct_outcome :
    let bids : List Bid := [⟨7301#32, .accept, 7⟩, ⟨7302#32, .accept, 6⟩]
    let s := fun (c : Contention) (r : Option SlotRequest) (m : State) =>
      ({ m with sched := { m.sched with contention := c, bids := bids, slotRequest := r, long := if r = none then .none else .request } } : State)
    let message := withFlight (.flight outMessage) onDuty
    (∀ c ∈ ([.idle, .waiting .slotRequest 2, .outstanding none, .outstanding (some .alert), .outstanding (some (.bid 7301#32)),
        .outstanding (some (.bid 7302#32)), .outstanding (some .slotRequest)] : List Contention), ∀ r ∈ [none, some ⟨7, false⟩],
      ∀ m ∈ [onDuty, message, window message], ∀ heard ∈ [[], [4711#16]],
      (s c r m).hears (header 4#8 0#16) (.beacon (beaconBody heard)) = true ∧ (s c r m).link.state = .joined ∧
        (s c r m).sched.contention ≠ .outstanding (some .join) ∧ (s c r m).sched.grant = none) ∧
      onDuty.sendable = 0 ∧ message.sendable = 2 := by decide +kernel
theorem test_bid_unheard_for_the_eighth_time_leaves_the_list :
    let s := fun (attempts : Nat) => contends (.outstanding (some (.bid 7302#32)))
      { onDuty with sched := { onDuty.sched with bids := [⟨7302#32, .accept, attempts⟩] } }
    let t := fun (attempts : Nat) => after (.beacon (header 4#8 0#16) (beaconBody [])) (s attempts)
    (t 7).sched.bids = [] ∧ (t 6).sched.bids = [⟨7302#32, .accept, 7⟩] ∧ (t 7).page.counters.contentionFails = 1#16 := by decide +kernel
theorem test_witness_BeaconsAndMembershipFramesAct_join :
    let other : Candidate := ⟨305#16, 40#16, 2#8⟩
    let asked := fun (c : Contention) (attempts : Nat) (l : List Candidate) =>
      contends c { joining with link := { joining.link with attempts := attempts, candidates := l } }
    (∀ c ∈ ([.idle, .waiting .join 0, .outstanding (some .join)] : List Contention), ∀ attempts ∈ [3, 4],
      ∀ l ∈ [[candidate], [candidate, other]], ∀ heard ∈ [[], [4711#16]], let s := asked c attempts l
      s.hears (header 4#8 0#16) (.beacon (beaconBody heard)) = true ∧ (window s).hears (header 4#8 0#16) (.beacon (beaconBody heard)) = true ∧
        s.link.state = .join ∧ s.link.joining = some candidate) ∧
      joining.power.image.map (·.cab) = some 4711#16 := by decide +kernel
theorem test_witness_BeaconsAndMembershipFramesAct_hunt :
    let other : Candidate := ⟨305#16, 40#16, 2#8⟩
    let listen := fun (rest : List Word) (run : Option Run) (l : List Candidate) (e : EmergencyState) =>
      raised e { hunting with link := { hunting.link with hunt := some ⟨112#16, rest, run⟩, candidates := l } }
    let again := fun s : State => { window s with link := { (window s).link with beaconIn := true } }
    (∀ rest ∈ [[], [305#16]], ∀ run ∈ [none, some ⟨34#16, 2, 7#8⟩, some ⟨33#16, 1, 7#8⟩, some ⟨33#16, 2, 7#8⟩], ∀ l ∈ [[], [other]],
      ∀ e ∈ [EmergencyState.clear, .acked], ∀ s ∈ [listen rest run l e, again (listen rest run l e)],
      s.hears (header 4#8 0#16) (.beacon (beaconBody [])) = true ∧ s.link.state = .hunt ∧ s.link.hunt = some ⟨112#16, rest, run⟩) ∧
      (again hunting).link.window = true ∧ (again hunting).link.beaconIn = true ∧
      ready.hears (header 4#8 0#16) (.beacon (beaconBody [])) = true ∧ ready.link.state = .quiet ∧ (window ready).link.state = .quiet := by
  decide +kernel
theorem test_witness_OffersAndVerdictsChangeTheTable :
    let cab := header 1#8 4711#16
    let body := fun (job : DWord) (life : Byte) => (⟨job, life, 9#8, 1#8, 550#32, [65#8]⟩ : OfferBody)
    let full := (List.finRange 16).foldl (fun s n => withEntry n (entry .live (BitVec.ofNat 32 (n.val + 1)) (some 9)) s) onDuty
    let terminal := { full with offers := full.offers.setEntry 15 (entry .lapsed 16#32 none) }
    ([(7302#32, 5#8), (7302#32, 120#8), (7302#32, 4#8), (7302#32, 121#8), (0#32, 30#8)].all (fun x =>
      onDuty.hears cab (.offer (body x.1 x.2))) = true) ∧
      (onDuty.power.power = .active ∧ onDuty.emerg.state = .clear ∧ onDuty.status.status = .free ∧ onDuty.offers.find 7302#32 = none) ∧
      (onDuty.offers.room = some 0 ∧ full.offers.room = none ∧ terminal.offers.room = some 15 ∧ full.hears cab (.offer (body 7302#32 30#8)) = true) ∧
      (∀ st ∈ ([.live, .bidding, .awarded, .declined, .lapsed, .lost, .withdrawn, .noAward] : List OfferState),
        let s := withEntry 6 (entry st 7302#32 none) onDuty
        s.offers.find 7302#32 = some 6 ∧ s.hears cab (.award (body 7302#32 30#8)) = true ∧ s.hears cab (.lost 7302#32) = true ∧
          s.hears cab (.withdraw 7302#32) = true) ∧
      ((raised .acked onDuty).hears cab (.award (body 7302#32 30#8)) = true ∧ (raised .acked onDuty).emerg.state ≠ .clear) := by
  decide +kernel
theorem test_witness_MessagesAlertsAndWakeFramesAct :
    let cab := header 1#8 4711#16
    let text := fun (i n : Byte) => DownBody.text ⟨77#16, i, n, 2#8, [65#8]⟩
    let opened := { onDuty with msgs := { onDuty.msgs with inbound := openRing 0x2000#16 } }
    let assembling := { onDuty with msgs := { onDuty.msgs with buffer0 := .assembling assembly } }
    (∀ s ∈ [onDuty, opened, assembling, { opened with msgs := { opened.msgs with delivered := [77#16] } }],
      [(0#8, 1#8), (1#8, 1#8), (0#8, 2#8), (4#8, 5#8), (0#8, 6#8), (1#8, 3#8), (0#8, 0#8)].all (fun x => s.hears cab (text x.1 x.2)) = true) ∧
      (onDuty.msgs.buffer0 = .empty ∧ onDuty.msgs.buffer1.message? = none ∧ onDuty.msgs.deposit = none) ∧
      (∀ x ∈ [Buffer.empty, .empty], x.message? = none) ∧ assembling.msgs.buffer0 = .assembling assembly ∧
      ((assembly.parts.set 1 (some [66#8])).all Option.isSome = false) ∧
      (let m : InMessage := ⟨77#16, false, true, false, [some [65#8]], 8000#32, 1⟩
       ((openRing 0x2000#16).plan m.bytes).isSome = true ∧ Ring.reset.plan m.bytes = none) ∧
      (let s := withFlight (.flight outMessage) onDuty
       s.hears cab (.ackOfText 5#16) = true ∧ s.msgs.flight = .flight outMessage ∧ outMessage.tag = 5#16) ∧
      (∀ st ∈ ([.clear, .pressed, .alerting, .acked] : List EmergencyState),
        (raised st onDuty).hears cab (.alertAck 9#16) = true ∧ (raised st onDuty).hears cab (.alertCancel 9#16) = true ∧
          (raised st onDuty).emerg.number = 9#16) ∧
      (let s := { onDuty with power := { onDuty.power with power := .standby } }
       s.hears cab (.wake (List.replicate 6 4711#16)) = true ∧ s.power.power = .standby ∧ (List.replicate 6 4711#16).length = 6 ∧
         (List.replicate 6 4711#16).all (fun c => s.power.image.map (·.cab) == some c) = true) := by decide +kernel
theorem test_witness_MessagesAlertsAndWakeFramesAct_buffers :
    let hear := fun (s : State) (i : Byte) => s.hears (header 1#8 4711#16) (.text ⟨77#16, i, 3#8, 2#8, [65#8]⟩)
    let other : Assembly := { assembly with tag := 78#16 }
    let last : Assembly := { assembly with parts := [some [65#8], some [66#8], none] }
    let with_ := fun (x y : Buffer) (d : Option InDeposit) => ({ onDuty with msgs := { onDuty.msgs with
      buffer0 := x, buffer1 := y, deposit := d } } : State)
    let two := with_ (.assembling { other with begun := 1 }) (.assembling other) none
    let owed := with_ (.closed inMessage) (.assembling other) (some ⟨inMessage, plan⟩)
    (∀ s ∈ [with_ (.assembling other) .empty none, with_ .empty (.assembling last) none,
        with_ (.closed inMessage) (.assembling last) (some ⟨inMessage, plan⟩), with_ (.assembling last) (.assembling other) none,
        with_ (.closed inMessage) (.closed inMessage) (some ⟨inMessage, plan⟩), two, owed],
      hear s 2#8 = true) ∧ last.tag = 77#16 ∧ other.tag ≠ 77#16 ∧ last.count = 3 ∧
      (last.parts.getD 2 none).isSome = false ∧ ((last.parts.set 2 (some [65#8])).all Option.isSome) = true ∧
      (other.begun < 1 ∧ (Buffer.closed inMessage).message? ≠ none) := by decide +kernel
theorem test_witness_MessagesAlertsAndWakeFramesAct_one_fragment :
    let with_ := fun (x y : Buffer) (d : Option InDeposit) => ({ onDuty with msgs := { onDuty.msgs with
      buffer0 := x, buffer1 := y, deposit := d } } : State)
    let other : Assembly := { assembly with tag := 78#16 }
    let early : Assembly := { other with tag := 79#16, begun := 0 }
    let late : Assembly := { other with begun := 1 }
    let d : InDeposit := ⟨inMessage, plan⟩
    (∀ s ∈ [with_ .empty .empty none, with_ .empty (.assembling other) none, with_ (.assembling other) .empty none,
        with_ .empty (.closed inMessage) (some d), with_ (.closed inMessage) .empty (some d), with_ (.assembling other) .empty (some d),
        with_ (.assembling other) (.closed inMessage) (some d), with_ (.closed inMessage) (.assembling other) (some d),
        with_ (.assembling early) (.assembling late) none, with_ (.assembling late) (.assembling early) (some d)],
      s.hears (header 1#8 4711#16) (.text ⟨77#16, 0#8, 1#8, 2#8, [65#8]⟩) = true) ∧
      (early.begun < late.begun ∧ (Buffer.closed inMessage).message? ≠ none ∧ other.tag ≠ 77#16 ∧ early.tag ≠ 77#16) := by decide +kernel
/-- A message of one fragment behind a deposit is left CLOSED, in the buffer that is empty. -/
theorem test_one_fragment_waits_for_the_deposit :
    let s := { onDuty with msgs := { onDuty.msgs with buffer0 := .closed inMessage, deposit := some ⟨inMessage, plan⟩ } }
    (after (.text (header 1#8 4711#16) ⟨77#16, 0#8, 1#8, 2#8, [65#8]⟩) s).msgs.buffer1 =
      .closed ⟨77#16, false, true, false, [some [65#8]], 8000#32, s.msgs.stamp + 1⟩ := by decide +kernel

/-! ## Single steps, with the values of the manual's tables and worked examples -/

/-- The check of R215 over the nine digits. -/
theorem test_crc_of_digits : crc ([49, 50, 51, 52, 53, 54, 55, 56, 57].map (BitVec.ofNat 8)) = 0x29B1#16 := by decide +kernel
/-- R225, R227: the order that sends the STATUS frame in slot 5. -/
theorem test_status_frame_bytes :
    (Order.send 5#8 (onDuty.statusFrame onDuty.statusReport)).bytes.take 19 =
      [4, 5, 0, 17, 0x27, 7, 0, 33, 0x12, 0x67, 0, 7, 1, 8, 0, 3, 0x10, 0x4C, 9].map (BitVec.ofNat 8) := by decide +kernel
/-- R225: the bytes of an ALERT_ACK for call 9. -/
theorem test_alert_ack_frame_decodes :
    let b := [0x0B, 7, 0, 33, 1, 0, 0x12, 0x67, 0, 2, 0, 9].map (BitVec.ofNat 8)
    decodeFrame (b ++ be16 (crc b)) = .frame (header 1#8 4711#16) (.alertAck 9#16) := by decide +kernel
/-- R226: STEP of component 2 by 80. -/
theorem test_step_message_decodes : decodeMeter [0xA5#8, 2#8, 2#8, 0#8, 80#8, 7#8] = some (.step 2#8 80#16) := by decide +kernel
theorem test_power_on_reset_samples_asel : (after (.powerOnReset 3#4) hired).path.asel = 3#4 := by decide +kernel
theorem test_good_image_begins_recovering :
    (after (.imageReadComplete goodImage) State.reset).power.startUp = .recovering ∧
      (after (.imageReadComplete goodImage) State.reset).path.queue.length = 17 := by decide +kernel
/-- R54: loading the image starts the random source anew. -/
theorem test_good_image_starts_the_random_source :
    let s : State := { State.reset with sched := { State.reset.sched with draws := 7, seed := 9#16 } }
    (after (.imageReadComplete goodImage) s).sched.draws = 0 ∧ (after (.imageReadComplete goodImage) s).sched.seed = 4711#16 := by
  decide +kernel
theorem test_recovered_call_resumes :
    (after .recoveryReadComplete (recoveringWith (record 2#16 7#16))).emerg.state = .alerting ∧
      (after .recoveryReadComplete (recoveringWith (record 2#16 7#16))).emerg.source = .recovered := by decide +kernel
theorem test_write_merges_into_newest_entry :
    (after (.processorWrite 3#19 ⟨false, true⟩ 0xAB00#16)
      (withBuffer [⟨3#19, some 1#8, none⟩] .idle onDuty)).path.buffer = [⟨3#19, some 1#8, some 0xAB#8⟩] := by decide +kernel
theorem test_drain_writes_lower_byte_at_even_address :
    (after .drainStart (withBuffer [post 3#19] .idle onDuty)).mem = [⟨6, 1#8⟩, ⟨7, 2#8⟩] := by decide +kernel
theorem test_guarded_write_is_counted :
    (after (.processorWrite (pageAddress 0#4 0x910) Lanes.both 5#16) (raised .alerting onDuty)).page.counters.guardHits = 1#16 := by
  decide +kernel
theorem test_logon_opens_shift_4 :
    let t := after (.logon Lanes.both 4172#16) { joined with status := { joined.status with shiftNumber := 3#16 } }
    t.status.status = .free ∧ t.status.shiftNumber = 4#16 ∧ t.trips.totals.driverId = 4172#16 := by decide +kernel
theorem test_close_with_open_trip_is_refused :
    (after (.close Lanes.both) hired).status.shiftResult = ⟨1#16, .openTrip⟩ ∧ (after (.close Lanes.both) hired).page.causes = 0x200#13 := by
  decide +kernel
theorem test_sleep_while_hired_is_refused : (after (.powerRequestSleep Lanes.both) hired).power.result = ⟨3#16, .hired⟩ := by decide +kernel
theorem test_counter_read_clears :
    let t := after (.counterRead .guardHits Lanes.both)
      { onDuty with page := { onDuty.page with counters := { Counters.reset with guardHits := 0x0102#16 } } }
    t.page.counters.guardHits = 0#16 ∧ t.path.answer = some ⟨pageAddress 0#4 0x1A, some 2#8, some 1#8⟩ := by decide +kernel
/-- Chapter 4's example: ACCEPT with token 41 at 4.0. -/
theorem test_accept_bids :
    let t := after (.responseAccept 6 Lanes.both 41#8) (withEntry 6 { entry .live 7302#32 (some 26) with seq := 30#8 } onDuty)
    (t.offers.entry 6).state = .bidding ∧ (t.offers.entry 6).seq = 31#8 ∧ (t.offers.entry 6).result = ⟨1#8, 41#8, .taken⟩ ∧
      (t.offers.entry 6).timer = some 8 ∧ t.sched.bids = [⟨7302#32, .accept, 0⟩] := by decide +kernel
/-- Chapter 4's example: the award wait runs out at 12.0. -/
theorem test_award_wait_ends :
    let t := after (.awardWaitExpiry 6) (withEntry 6 { entry .bidding 7302#32 (some 0) with seq := 31#8 } onDuty)
    (t.offers.entry 6).state = .noAward ∧ (t.offers.entry 6).seq = 32#8 := by decide +kernel
/-- Chapter 4's example: the late AWARD at 15.3. -/
theorem test_late_award :
    let t := after (.award (header 1#8 4711#16) ⟨7302#32, 0#8, 0#8, 0#8, 0#32, []⟩)
      (withEntry 6 { entry .noAward 7302#32 none with seq := 32#8 } onDuty)
    (t.offers.entry 6).state = .awarded ∧ (t.offers.entry 6).late = true ∧ (t.offers.entry 6).seq = 33#8 ∧ t.status.status = .assigned := by
  decide +kernel
/-- R18: a second good beacon before slot 0 aligns the same cycle again and counts no further cycle start. -/
theorem test_second_beacon_counts_no_cycle :
    let hear := after (.beacon (header 4#8 0#16) (beaconBody []))
    (hear ready).link.quiet = 1 ∧ (hear (hear ready)).link.quiet = 1 ∧ (hear (hear ready)).link.cycle = 410#16 ∧
      (hear (after .cycleStart (hear ready))).link.quiet = 2 := by decide +kernel
/-- The wake of the worked sequence of chapter 8: the ignition ends PARKING with the count stopped at 10. -/
theorem test_wake_leaves_the_parking_count :
    let t := after .ignitionOn { onDuty with power := { onDuty.power with power := .parking, park := true, parking := 10 } }
    t.power.power = .active ∧ t.power.park = false ∧ t.power.parking = 10 := by decide +kernel
/-- R172: the parking count is 0 in STANDBY. -/
theorem test_park_report_stops_the_parking_count :
    let s : State := { onDuty with
      power := { onDuty.power with power := .parking, park := true, parking := 9 },
      radio := { onDuty.radio with sending := some ⟨.status true, .reserved, true⟩ } }
    (after .shortFrameSent s).power.power = .standby ∧ (after .shortFrameSent s).power.parking = 0 := by decide +kernel
/-- Chapter 5's example: HIRE at 8060 with entry 6 AWARDED. -/
theorem test_hire_takes_the_job :
    let t := after (.hire 1#8) (withEntry 6 (entry .awarded 7302#32 none) onDuty)
    t.trips.trip.map (·.job) = some (some 7302#32) ∧ t.offers.stateOf 6 = .empty ∧ t.status.status = .hired := by decide +kernel
theorem test_step_adds_to_its_group :
    (after (.step 2#8 80#16) hired).trips.trip.map (fun o => (o.groups.g1, o.stepSum, o.stepCount)) = some (80#32, 1110#32, 6#16) := by
  decide +kernel
/-- Chapter 5's example: STOP at 8390 with fare 1130. -/
theorem test_stop_closes_the_trip :
    let t := after (.stop 1130#32) { hired with
      link := { hired.link with clock := 8390#32, seconds := 390 },
      trips := { hired.trips with totals := { hired.trips.totals with
        tripsClosed := 11#16, tripsWithJob := 6#16, fareTotal := 21890#32, extrasTotal := 400#32, hiredSeconds := 3960#32 } } }
    t.trips.reports.map (·.record) = [closedTrip] ∧ t.status.status = .free ∧ t.trips.totals.tripsClosed = 12#16 ∧
      t.trips.totals.tripsWithJob = 7#16 ∧ t.trips.totals.fareTotal = 23020#32 ∧ t.trips.totals.extrasTotal = 500#32 ∧
      t.trips.totals.hiredSeconds = 4290#32 ∧ t.trips.totals.mismatches = 1#16 := by decide +kernel
theorem test_closing_switch_presses : (after .emswClosing onDuty).emerg.state = .pressed ∧ (after .emswClosing onDuty).emerg.hold = some 2 := by
  decide +kernel
theorem test_hold_expiry_raises_call_7 :
    let t := after .holdTimerExpiry { onDuty with emerg := { onDuty.emerg with state := .pressed, hold := some 0, number := 6#16 } }
    t.emerg.state = .alerting ∧ t.emerg.number = 7#16 ∧ t.emerg.source = .switch ∧ t.pins.lampAlarm = false := by decide +kernel
theorem test_alert_ack_is_taken :
    (after (.alertAck (header 1#8 4711#16) 9#16) (raised .alerting onDuty)).emerg.state = .acked ∧
      (after (.alertAck (header 1#8 4711#16) 9#16) (raised .alerting onDuty)).emerg.repeatLeft = some 10 := by decide +kernel
theorem test_fifth_missed_beacon_leaves_joined :
    (after .beaconWindowClose { window onDuty with link := { (window onDuty).link with loss := 4 } }).link.state = .quiet := by
  decide +kernel
theorem test_third_beacon_makes_a_candidate :
    (after (.beacon (header 4#8 0#16) (beaconBody [])) hunting).link.candidates = [candidate] := by decide +kernel
theorem test_grant_join_joins :
    (after (.grantJoin (header 1#8 4711#16) 5#8 2#8 0#8) joining).link.site = some ⟨112#16, 33#16, 7#8, 5#8, 2#8, 0#8⟩ := by decide +kernel
theorem test_reserved_slot_carries_the_ack :
    (after .slotStart { onDuty with sched := { onDuty.sched with acks := [77#16] } }).radio.sending = some ⟨.ack 77#16, .reserved, true⟩ := by
  decide +kernel
/-- Chapter 6's example: the truncated record of 2051 takes 76 bytes. -/
theorem test_truncated_message_is_planned :
    (InMessage.mk 2051#16 false true true [some (List.replicate 40 65#8), none, some (List.replicate 17 65#8)] 110#32 0).bytes.length = 76 := by
  decide +kernel
theorem test_no_word_spells_a_command : decodeTableWord 16 7 = none ∧ onDuty.withFetchWord 16 7 = onDuty := ⟨rfl, rfl⟩

end Sys2Proof.Tests
end

section
/-! PROOFS. Status requests (R6): how one is judged and carried out, and what the events beside it make of the status. -/

namespace Sys2Proof.Machine

/-! ## A status request at the Status Unit -/

/-- The order in which R6 has a request checked. -/
theorem State.statusOutcome_eq (w : Word) (s : State) :
    s.statusOutcome w =
      if w = 2#16 then
        (if s.status.shiftOpen = false then .noShift else if s.status.status ≠ .free then .notAllowed
         else if s.emerg.state ≠ .clear then .emergency else if s.offers.bidding.isSome then .notAllowed else .taken)
      else if w = 1#16 then
        (if s.status.shiftOpen = false then .noShift else if s.status.status ≠ .onBreak then .notAllowed else .taken)
      else .notValid := by
  simp only [State.statusOutcome, codeBreak, codeFree, bne_iff_ne, Bool.not_eq_true']

/-- A change of the status is handed on (R1). -/
theorem State.setStatus_handsOn (c : CabStatus) (s : State) : s.handsOn (s.setStatus c) := by
  rw [State.setStatus, State.handOn_eq]
  exact ⟨rfl, rfl, rfl, rfl⟩

@[simp] theorem State.setStatus_status (c : CabStatus) (s : State) : (s.setStatus c).status = { s.status with status := c } := by
  simp [State.setStatus]

/-- A request that passes every check changes the status, and the change is handed on (R6). -/
theorem State.statusRequest_taken {l : Lanes} {d : Word} {s : State} (h : s.statusOutcome (laneCombine l s.page.statusCopy d) = .taken) :
    let w := laneCombine l s.page.statusCopy d
    let t := s.statusRequest l d
    t.status = { s.status with status := if w = 2#16 then .onBreak else .free, statusResult := ⟨w, .taken⟩ } ∧
      t.page = { s.page with statusCopy := w } ∧ s.linesStay t ∧ s.handsOn t := by
  simp only [State.statusRequest, h, if_true]
  refine ⟨State.setStatus_status _ _, ?_, ?_, State.setStatus_handsOn _ _⟩
  · simp
  · simp [State.linesStay]

/-- A request that fails a check leaves its outcome and raises REFUSED (R6, R202, R203). -/
theorem State.statusRequest_refused {l : Lanes} {d : Word} {s : State} (h : s.statusOutcome (laneCombine l s.page.statusCopy d) ≠ .taken) :
    let w := laneCombine l s.page.statusCopy d
    let t := s.statusRequest l d
    t.status = { s.status with statusResult := ⟨w, s.statusOutcome w⟩ } ∧ t.sched = s.sched ∧
      State.raises { s with page := { s.page with statusCopy := w } } t 0x200#13 ∧ s.lampsStay t ∧ t.pins.wake = s.pins.wake := by
  simp only [State.statusRequest, h, if_false]
  refine ⟨?_, ?_, State.raise_raises .refused _, ?_, ?_⟩
  · simp
  · simp
  · rw [State.raise_eq]; exact ⟨rfl, rfl, rfl, rfl, rfl⟩
  · rw [State.raise_eq]

/-! ## The write of the field -/

/-- The three rows of the table that write the status request field. -/
theorem exec_statusRequest {l : Lanes} {d : Word} {c : Instr}
    (hc : (c = .statusRequestFree l ∧ d = 1#16) ∨ (c = .statusRequestBreak l ∧ d = 2#16) ∨ c = .statusRequestOtherValue l d) (s : State) :
    exec c s = .next (s.writeAt 0x38 l d) := by
  rcases hc with ⟨rfl, rfl⟩ | ⟨rfl, rfl⟩ | rfl <;> rfl

/-- From READY on a lane has the treatment of its field (R217). -/
theorem State.treatment_ready {s : State} (h : s.power.startUp = .ready) (f : Field) (hi : Bool) : s.treatment f hi = s.readyTreatment f hi := by
  simp [State.treatment, h]

/-- A write of the status request field that is taken at once is posted and judged. -/
theorem State.writeAt_statusRequest {s : State} {l : Lanes} (d : Word) (hs : s.writesFree = true) (hl : laneAny l = true) :
    ∃ b, s.path.post (pageAddress s.path.asel 0x38) l d = some { s.path with buffer := b } ∧
      s.writeAt 0x38 l d = State.statusRequest l d { s with path := { s.path with buffer := b } } := by
  have ht : ∀ hi, s.treatment (fieldAt 0x38) hi = .watched := State.treatment_ready (State.writesFree_ready hs) .statusRequest
  exact State.writeAt_watched hs rfl (by decide) hl (fun _ => ht _) (fun _ => ht _)

/-- A write of the emergency raise field that is taken at once is posted and judged. -/
theorem State.writeAt_emergencyRaise {s : State} {l : Lanes} (d : Word) (hs : s.writesFree = true) (hl : laneAny l = true) :
    ∃ b, s.path.post (pageAddress s.path.asel 0x50) l d = some { s.path with buffer := b } ∧
      s.writeAt 0x50 l d = State.emergencyRaiseWrite l d { s with path := { s.path with buffer := b } } := by
  have ht : ∀ hi, s.treatment (fieldAt 0x50) hi = .watched := State.treatment_ready (State.writesFree_ready hs) .emergencyRaise
  exact State.writeAt_watched hs rfl (by decide) hl (fun _ => ht _) (fun _ => ht _)

/-! ## The events beside a request -/

/-- A raise leaves the cab status as it is (R6). -/
theorem exec_emergencyRaise_status {s : State} {l : Lanes} (d : Word) (hs : s.writesFree = true) (hl : laneAny l = true) :
    ∃ t, exec (.emergencyRaise l d) s = .next t ∧ t.status.status = s.status.status := by
  obtain ⟨b, -, hw⟩ := State.writeAt_emergencyRaise d hs hl
  exact ⟨_, congrArg Host.Outcome.next hw, by simp⟩

/-- The end of the hold time calls, and leaves the cab status as it is (R6, R150). -/
theorem exec_holdTimerExpiry_alerts {s : State} (hr : s.ready = true) (hp : s.emerg.state = .pressed) (hh : s.emerg.hold = some 0)
    (hOff : s.offerLaw) :
    ∃ t, exec .holdTimerExpiry s = .next t ∧ t.emerg.state = .alerting ∧ t.status.status = s.status.status := by
  have he : s.holdEnds = s.enterAlerting .switch := by simp [State.holdEnds, hp, hh, Timer.due]
  obtain ⟨hem, -⟩ := State.enterAlerting_spec .switch ((State.ready_iff s).1 hr).2 hOff rfl
  refine ⟨s.enterAlerting .switch, ?_, ?_, by simp⟩
  · show Host.Outcome.next (if s.ready then s.holdEnds else s) = _
    rw [if_pos hr, he]
  · rw [hem]

/-- A HIRE with no trip open makes the cab HIRED, whatever its status (R98). -/
theorem exec_hire_hired {s : State} {k : Byte} (hr : s.ready = true) (h1 : 1 ≤ k.toNat) (h8 : k.toNat ≤ 8) (htrip : s.trips.trip = none) :
    ∃ t, exec (.hire k) s = .next t ∧ t.status.status = .hired := by
  refine ⟨State.takeHire k (s.wakeEvent .meter), ?_, ?_⟩
  · show Host.Outcome.next (if s.ready && (MeterMessage.hire k).inRange then s.meterMessage (.hire k) else s) = _
    rw [if_pos (by simp [hr, MeterMessage.inRange, h1, h8])]; rfl
  · simp [State.takeHire, htrip, State.openTrip]

/-- An AWARD for a BIDDING entry makes a FREE cab ASSIGNED (R5, R78). -/
theorem exec_award_assigned {s : State} {h : DownHeader} {b : OfferBody} {n : Fin 16} (hh : s.hears h (.award b) = true) (hj : b.job ≠ 0#32)
    (ht : b.text.length ≤ 64) (hf : s.offers.find b.job = some n) (hb : s.offers.stateOf n = .bidding) (hs : s.status.status = .free) :
    ∃ t, exec (.award h b) s = .next t ∧ t.status.status = .assigned := by
  have hg : ¬(b.job = 0#32 ∨ 64 < b.text.length) := by simp [hj, ht]
  refine ⟨_, congrArg Host.Outcome.next (State.receive_heard hh), ?_⟩
  show (s.takeAward b).status.status = .assigned
  simp [State.takeAward, hg, hf, hb, State.becameAwarded, hs]

/-! ## The statement -/

/-- Settles O35: the write is posted and judged; the events beside it act as their own rules say. -/
theorem statusRequestIsJudged : Obligations.StatusRequestIsJudged := by
  refine ⟨?_, ?_, ?_, ?_, ?_⟩
  · intro s l d c hc hs hl w o
    obtain ⟨b, hp, hw⟩ := State.writeAt_statusRequest d hs hl
    have ho : o = State.statusOutcome w { s with path := { s.path with buffer := b } } := (State.statusOutcome_eq w _).symm
    obtain ⟨fpending, fmem, fpath, flink, fradio, foffers, ftrips, fmsgs, femerg, fpower⟩ :=
      State.statusRequest_frame l d { s with path := { s.path with buffer := b } }
    refine ⟨_, (exec_statusRequest hc s).trans (congrArg Host.Outcome.next hw), State.posts_of hp fpath, fpending, fmem, flink, fradio,
      foffers, ftrips, fmsgs, femerg, fpower, fun h => ?_, fun h => ?_⟩
    · rw [h]
      exact State.statusRequest_taken (ho.symm.trans h)
    · rw [ho] at h ⊢
      exact State.statusRequest_refused h
  · intro s l d hs hl _ hb
    rw [← hb]
    exact exec_emergencyRaise_status d hs hl
  · intro s hr hp hh hOff hb
    rw [← hb]
    exact exec_holdTimerExpiry_alerts hr hp hh hOff
  · intro s k hr h1 h8 _ _ htrip
    exact exec_hire_hired hr h1 h8 htrip
  · intro s h b n hh hj ht hf hb hs
    exact exec_award_assigned hh hj ht hf hb hs

end Sys2Proof.Machine
end

section
/-! PROOFS. The messages of the meter link that act on the open trip (R93 to R95, R99, R100). -/

namespace Sys2Proof.Machine

/-! ## The open trip and the silence timer -/

/-- With no trip open there is no trip record to change. -/
theorem State.changeTrip_of_none (f : OpenTrip → OpenTrip) {s : State} (h : s.trips.trip = none) : s.changeTrip f = s := by
  rw [State.changeTrip, h, Option.map_none, ← h]

/-- With no trip open the silence timer does not run (R94). -/
theorem State.restartSilence_of_none {s : State} (h : s.trips.trip = none) : s.restartSilence = s := by
  simp [State.restartSilence, h]

/-- With a trip open the silence timer runs for 15 seconds again (R94). -/
theorem State.restartSilence_of_open {s : State} (h : s.trips.trip ≠ none) :
    s.restartSilence = { s with trips := { s.trips with silence := some 15 } } := by
  simp [State.restartSilence, Option.isSome_iff_ne_none, h, silenceTime]

/-- A message that acts on the trip record does nothing when no trip is open. -/
theorem State.changeTrip_restartSilence_of_none (f : OpenTrip → OpenTrip) {s : State} (h : s.trips.trip = none) :
    (s.changeTrip f).restartSilence = s := by
  rw [State.changeTrip_of_none f h, State.restartSilence_of_none h]

/-- A message that acts on the open trip changes its record and restarts the silence timer, and nothing else. -/
theorem State.changeTrip_restartSilence_of_some (f : OpenTrip → OpenTrip) {s : State} {o : OpenTrip} (h : s.trips.trip = some o) :
    (s.changeTrip f).restartSilence = { s with trips := { s.trips with trip := some (f o), silence := some 15 } } := by
  have hc : s.changeTrip f = { s with trips := { s.trips with trip := some (f o) } } := by
    rw [State.changeTrip, h, Option.map_some]
  rw [hc]
  exact State.restartSilence_of_open (Option.some_ne_none _)

/-! ## What a message makes of the record -/

/-- An amount is added to the group named, and to no other. -/
theorem Groups.add_eq (g : Groups) (k : Fin 4) (a : DWord) :
    g.add k a =
      ⟨if k = 0 then satAdd g.g0 a else g.g0, if k = 1 then satAdd g.g1 a else g.g1,
        if k = 2 then satAdd g.g2 a else g.g2, if k = 3 then satAdd g.g3 a else g.g3⟩ := by
  match k with
  | 0 | 1 | 2 | 3 => rfl

/-- A STEP adds to the step sum and the step count, whatever its component (R99). -/
theorem OpenTrip.step_eq (group : Option (Fin 4)) (a : DWord) (o : OpenTrip) :
    o.step group a =
      { o with
        stepSum := satAdd o.stepSum a, stepCount := satAdd o.stepCount 1#16,
        groups := (o.step group a).groups, ungrouped := (o.step group a).ungrouped } := by
  cases group <;> rfl

/-- The amount of a component in no group is ungrouped (R99). -/
theorem OpenTrip.step_ungrouped (a : DWord) (o : OpenTrip) :
    (o.step none a).groups = o.groups ∧ (o.step none a).ungrouped = satAdd o.ungrouped a := ⟨rfl, rfl⟩

/-- The amount of a component in a group goes to that group (R99). -/
theorem OpenTrip.step_grouped (g : Fin 4) (a : DWord) (o : OpenTrip) :
    (o.step (some g) a).groups = o.groups.add g a ∧ (o.step (some g) a).ungrouped = o.ungrouped := ⟨rfl, rfl⟩

/-- A TARIFF that is the last entry's changes nothing of the record (R100). -/
theorem OpenTrip.changeTariff_same {k : Byte} {o : OpenTrip} (now : DWord) (h : o.tariffs.getLast?.map (·.tariff) = some k) :
    o.changeTariff k now = o := if_pos h

/-- Another TARIFF joins a list of fewer than 4 entries (R100). -/
theorem OpenTrip.changeTariff_joins {k : Byte} {o : OpenTrip} (now : DWord) (h : o.tariffs.getLast?.map (·.tariff) ≠ some k)
    (hl : o.tariffs.length < 4) : o.changeTariff k now = { o with tariffs := o.tariffs ++ [⟨k, now⟩] } :=
  (if_neg h).trans (if_pos hl)

/-- Another TARIFF overwrites the fourth entry of a full list and sets the overflow flag (R100). -/
theorem OpenTrip.changeTariff_overwrites {k : Byte} {o : OpenTrip} (now : DWord) (h : o.tariffs.getLast?.map (·.tariff) ≠ some k)
    (hl : 4 ≤ o.tariffs.length) :
    o.changeTariff k now =
      { o with tariffs := o.tariffs.take 3 ++ [⟨k, now⟩], flags := { o.flags with overflow := true } } :=
  (if_neg h).trans (if_neg (Nat.not_lt.2 hl))

/-! ## Raising METER -/

/-- METER is raised over a change of the Trip Engine: that change and the raise are all that happens (R208, R211). -/
theorem State.raise_meter_spec (s : State) (e : TripEngine) :
    let t := State.raise .meter { s with trips := e }
    (s.blocksStay { t with trips := s.trips } ∧ t.path = s.path) ∧ s.raises t 0x1000#13 ∧ s.lampsStay t ∧
      t.pins.wake = s.pins.wake ∧ t.trips = e := by
  refine ⟨?_, State.raise_raises .meter { s with trips := e }, ?_⟩
  · rw [State.raise_eq]; exact ⟨⟨rfl, rfl, rfl, rfl, rfl, rfl, rfl, rfl, rfl, rfl, rfl⟩, rfl⟩
  · rw [State.raise_eq]; exact ⟨⟨rfl, rfl, rfl, rfl, rfl⟩, rfl, rfl⟩

/-- A FAULT marks the open trip, keeps its code whether a trip is open or not, and raises METER (R94, R95). -/
theorem State.takeFault_eq (code : Byte) (s : State) :
    s.takeFault code =
      State.raise .meter { s with trips := { s.trips with
        trip := s.trips.trip.map OpenTrip.fault, lastFault := code,
        silence := if s.trips.trip = none then s.trips.silence else some 15 } } := by
  unfold State.takeFault
  cases h : s.trips.trip with
  | none =>
    rw [State.changeTrip_restartSilence_of_none _ h, if_pos rfl, Option.map_none, ← h]
  | some o =>
    rw [State.changeTrip_restartSilence_of_some _ h, if_neg (Option.some_ne_none o), Option.map_some]

/-- The silence timer of an open trip runs out: the trip is marked, the fault code is 0 and METER is raised (R94). -/
theorem State.silenceEnds_due {s : State} (ht : s.trips.trip ≠ none) (hs : s.trips.silence = some 0) :
    s.silenceEnds =
      State.raise .meter { s with trips := { s.trips with
        trip := s.trips.trip.map OpenTrip.fault, lastFault := 0#8, silence := none } } := by
  have hdue : (s.trips.trip.isSome && s.trips.silence.due) = true := by
    simp [Option.isSome_iff_ne_none, ht, hs, Timer.due]
  exact if_pos hdue

/-! ## The messages -/

/-- From READY on a message in range is taken (R93). -/
theorem State.takeMeter_ready {s : State} {m : MeterMessage} (hr : s.ready = true) (hm : m.inRange = true) :
    s.takeMeter m = s.meterMessage m := if_pos (by rw [hr, hm]; rfl)

/-- A malformed message is discarded (R93). -/
theorem exec_malformedMeterMessage {bytes : List Byte} {gap : Bool} (h : gap = true ∨ decodeMeter bytes = none) (s : State) :
    exec (.malformedMeterMessage bytes gap) s = .next s := by
  have hn : (if gap then none else decodeMeter bytes) = none := by
    rcases h with rfl | h
    · rfl
    · rw [h, ite_self]
  show execMalformedMeterMessage bytes gap s = .next s
  rw [execMalformedMeterMessage, hn]

/-- A STEP in range acts on the trip record with its component's group (R99). -/
theorem exec_step {s : State} {c : Byte} {a : Word} (hr : s.ready = true) (hc : c.toNat ≤ 15) (ha : 1 ≤ a.toNat) :
    exec (.step c a) s = .next (s.changeTrip (OpenTrip.step (s.trips.groupOf c) (a.setWidth 32))).restartSilence :=
  congrArg Host.Outcome.next (State.takeMeter_ready hr (by simp [MeterMessage.inRange, hc, ha]))

/-- A TARIFF in range acts on the trip record with the cab clock's time (R100). -/
theorem exec_tariff {s : State} {k : Byte} (hr : s.ready = true) (h1 : 1 ≤ k.toNat) (h8 : k.toNat ≤ 8) :
    exec (.tariff k) s = .next (s.changeTrip (OpenTrip.changeTariff k s.link.clock)).restartSilence :=
  congrArg Host.Outcome.next (State.takeMeter_ready hr (by simp [MeterMessage.inRange, h1, h8]))

/-- ALIVE restarts the silence timer (R94). -/
theorem exec_alive {s : State} (hr : s.ready = true) : exec .alive s = .next s.restartSilence :=
  congrArg Host.Outcome.next (State.takeMeter_ready hr rfl)

/-- A FAULT in range is taken (R95). -/
theorem exec_fault {s : State} {code : Byte} (hr : s.ready = true) (hc : 1 ≤ code.toNat) :
    exec (.fault code) s = .next (s.takeFault code) :=
  congrArg Host.Outcome.next (State.takeMeter_ready hr (by simp [MeterMessage.inRange, hc]))

/-- The expiry of the silence timer is acted on from READY on (R94). -/
theorem exec_silenceTimerExpiry {s : State} (hr : s.ready = true) : exec .silenceTimerExpiry s = .next s.silenceEnds :=
  congrArg Host.Outcome.next (if_pos hr)

/-! ## The statement -/

/-- Settles O45: each message is its change of the open trip with the silence timer restarted; FAULT and the timer's expiry raise METER
over theirs. -/
theorem meterMessagesActOnTheOpenTrip : Obligations.MeterMessagesActOnTheOpenTrip := by
  intro s hr only
  refine ⟨?_, ?_, ?_, ?_, ?_, ?_, ?_⟩
  · intro bytes gap h
    exact exec_malformedMeterMessage h s
  · intro c a hc ha
    rw [exec_step hr hc ha]
    refine ⟨fun h => by rw [State.changeTrip_restartSilence_of_none _ h], fun o h => ?_⟩
    rw [State.changeTrip_restartSilence_of_some _ h]
    refine ⟨_, rfl, OpenTrip.step_eq _ _ o, fun hg => ?_, fun g hg => ?_⟩
    · rw [TripEngine.groupOf, hg]
      exact OpenTrip.step_ungrouped _ o
    · rw [TripEngine.groupOf, hg]
      obtain ⟨hgroups, hungrouped⟩ := OpenTrip.step_grouped g (a.setWidth 32) o
      rw [hgroups, Groups.add_eq]
      exact ⟨hungrouped, rfl, rfl, rfl, rfl⟩
  · intro k h1 h8
    rw [exec_tariff hr h1 h8]
    refine ⟨fun h => by rw [State.changeTrip_restartSilence_of_none _ h], fun o h => ?_⟩
    rw [State.changeTrip_restartSilence_of_some _ h]
    exact ⟨_, rfl, OpenTrip.changeTariff_same _, OpenTrip.changeTariff_joins _, OpenTrip.changeTariff_overwrites _⟩
  · intro h
    rw [exec_alive hr, State.restartSilence_of_none h]
  · intro h
    rw [exec_alive hr, State.restartSilence_of_open h]
  · intro code hc
    exact ⟨_, (exec_fault hr hc).trans (congrArg _ (State.takeFault_eq code s)), State.raise_meter_spec s _⟩
  · intro ht hs
    exact ⟨_, (exec_silenceTimerExpiry hr).trans (congrArg _ (State.silenceEnds_due ht hs)), State.raise_meter_spec s _⟩

end Sys2Proof.Machine
end

section
/-! PROOFS. Lists read with a default value. -/

namespace Sys2Proof.Machine

theorem getD_append_of_lt {α : Type} {l r : List α} {i : Nat} (h : i < l.length) (d : α) : (l ++ r).getD i d = l.getD i d := by
  rw [List.getD_eq_getElem?_getD, List.getD_eq_getElem?_getD, List.getElem?_append_left h]

theorem getD_append_of_le {α : Type} {l r : List α} {i : Nat} (h : l.length ≤ i) (d : α) :
    (l ++ r).getD i d = r.getD (i - l.length) d := by
  rw [List.getD_eq_getElem?_getD, List.getD_eq_getElem?_getD, List.getElem?_append_right h]

theorem getD_of_length_le {α : Type} {l : List α} {i : Nat} (h : l.length ≤ i) (d : α) : l.getD i d = d := by
  rw [List.getD_eq_getElem?_getD, List.getElem?_eq_none h, Option.getD_none]

end Sys2Proof.Machine
end

section
/-! PROOFS. What a command can do (the inversion of `exec`), and the laws that every step keeps. -/

namespace Sys2Proof.Machine

/-! ## What a command can do -/

/-- The operations that a command can be, but for the two that change the static RAM: each with the guard under which `exec` runs it. -/
inductive State.Operates (s : State) : State → Prop
  | idle : Operates s s
  | powerOn (a : BitVec 4) : Operates s (s.powerOn a)
  | resetLow : Operates s s.resetLow
  | attemptFails (h : s.loading = true) : Operates s s.attemptFails
  | takeImage (b : List Byte) (h : (s.loading && b.length == 64) = true) : Operates s (s.takeImage b)
  | recover : Operates s (s.complete .recoveryRead (fun u => State.recover (judgeRecord u.got)))
  | becomeReady (h : s.recovered = true) : Operates s s.becomeReady
  | softReset (h : s.softResetDue = true) : Operates s s.softReset
  | cycle (c : BusCycle) : Operates s (s.processorCycle c)
  | completeDrain (h : s.running = true) : Operates s s.completeDrain
  | startOperation : Operates s s.startOperation
  | endOfferRewrite (n : Fin 16) : Operates s (s.complete (.offerRewrite n) (fun _ s => s))
  | endRecordRewrite : Operates s (s.complete .emergencyRewrite (fun u => State.endRecordRewrite u.carriesClear))
  | endSnapshot : Operates s (s.complete .totalsSnapshot (fun _ s => s))
  | endTripDeposit : Operates s (s.complete .tripDeposit (fun _ => State.endTripDeposit))
  | endInboundDeposit : Operates s (s.complete .inboundDeposit (fun _ => State.endInboundDeposit))
  | endFetch : Operates s (s.complete .outboundFetch (fun _ => State.endFetch))
  | endCompletion : Operates s (s.complete .outboundCompletion (fun _ => State.endCompletion))
  | endOpenCheck (r : RingId) : Operates s (s.complete (.headerRead r) (fun u => State.endOpenCheck r (headerWords u.got)))
  | meter (m : MeterMessage) : Operates s (s.takeMeter m)
  | silenceEnds (h : s.ready = true) : Operates s s.silenceEnds
  | switchMoves (closed : Bool) : Operates s { s with pins := { s.pins with emswClosed := closed } }
  | takeClosing (h : s.ready = true) : Operates s (State.takeClosing { s with pins := { s.pins with emswClosed := true } })
  | takeOpening (h : s.ready = true) : Operates s (State.takeOpening { s with pins := { s.pins with emswClosed := false } })
  | ignition (on : Bool) : Operates s (s.setIgnition on)
  | ignitionWakes (h : (s.setIgnition true).ready = true) : Operates s ((s.setIgnition true).wakeEvent .ignition)
  | holdEnds (h : s.ready = true) : Operates s s.holdEnds
  | repeatEnds (h : s.ready = true) : Operates s s.repeatEnds
  | lifetimeEnds (n : Fin 16) (h : s.ready = true) : Operates s (s.lifetimeEnds n)
  | awardWaitEnds (n : Fin 16) (h : s.ready = true) : Operates s (s.awardWaitEnds n)
  | ackWaitEnds (h : s.ready = true) : Operates s s.ackWaitEnds
  | interFragmentEnds (k : BufferId) (h : s.ready = true) : Operates s (s.interFragmentEnds k)
  | fareRetransmit (r : TripRef) (h : s.ready = true) : Operates s (s.fareRetransmit r)
  | shiftRetransmit (h : s.ready = true) : Operates s s.shiftRetransmit
  | second (h : s.running = true) : Operates s s.second
  | flash (h : s.running = true) : Operates s (State.driveLamps { s with status := { s.status with flashOn := !s.status.flashOn } })
  | alarm (h : (s.ready && s.emerg.state.raised) = true) :
      Operates s (State.driveLamps { s with status := { s.status with alarmOn := !s.status.alarmOn } })
  | startCycle (h : s.ready = true) : Operates s s.startCycle
  | closeWindow (h : s.ready = true) : Operates s s.closeWindow
  | startHunt (h : (s.ready && s.link.state == .quiet && decide (2 ≤ s.link.quiet)) = true) : Operates s s.startHunt
  | nextChannel (h : (s.ready && s.link.state == .hunt) = true) : Operates s s.nextChannel
  | joinGrantWaitEnds (h : s.ready = true) : Operates s s.joinGrantWaitEnds
  | startSlot (h : (s.ready && decide (s.link.nextSlot < 24)) = true) : Operates s s.startSlot
  | backoffEnds (h : s.ready = true) : Operates s s.backoffEnds
  | grantWaitEnds (h : (s.ready && s.sched.long == .wait 0) = true) : Operates s s.grantWaitEnds
  | restEnds (h : (s.ready && s.sched.long == .rest 0) = true) :
      Operates s (State.settleLong { s with sched := { s.sched with long := .none } })
  | endGrant (h : (s.ready && s.sched.grant.any (fun g => decide (4 ≤ g.since) && g.cycle != s.link.cycle)) = true) :
      Operates s s.endGrant
  | endParking (h : (s.ready && s.power.parking == 0) = true) : Operates s s.endParking
  | shortSent (h : s.ready = true) : Operates s s.shortSent
  | longSent (h : s.ready = true) : Operates s s.longSent
  | checkError : Operates s (s.count .checkErrors)
  | receive (h : DownHeader) (b : DownBody) : Operates s (s.receive h b)

namespace State.Operates

/-- An operation behind a guard: when the guard is closed nothing happens. -/
theorem gate {s t : State} {p : Prop} [Decidable p] (h : p → s.Operates t) : s.Operates (if p then t else s) := by
  split
  · exact h ‹p›
  · exact .idle

theorem of_damagedFrame (bytes : List Byte) (s : State) :
    s.Operates (match decodeFrame bytes with
      | .damaged => s.count .checkErrors
      | .unknown => s
      | .frame h b => s.receive h b) := by
  cases decodeFrame bytes with
  | damaged => exact .checkError
  | unknown => exact .idle
  | frame h b => exact .receive h b

theorem of_malformed (m : Option MeterMessage) (s : State) :
    s.Operates (match m with
      | some m => s.takeMeter m
      | none => s) := by
  cases m with
  | none => exact .idle
  | some m => exact .meter m

theorem of_offerRewriteEnd (n : Option (Fin 16)) (s : State) :
    s.Operates (match n with
      | some n => s.complete (.offerRewrite n) (fun _ s => s)
      | none => s) := by
  cases n with
  | none => exact .idle
  | some n => exact .endOfferRewrite n

theorem of_headerReadEnd (r : Option RingId) (s : State) :
    s.Operates (match r with
      | some r => s.complete (.headerRead r) (fun u => State.endOpenCheck r (headerWords u.got))
      | none => s) := by
  cases r with
  | none => exact .idle
  | some r => exact .endOpenCheck r

theorem of_closing (s : State) :
    s.Operates (if s.pins.emswClosed then s
      else
        let s := { s with pins := { s.pins with emswClosed := true } }
        if s.ready then s.takeClosing else s) := by
  split
  · exact .idle
  · dsimp only
    split
    · exact .takeClosing ‹_›
    · exact .switchMoves true

theorem of_opening (s : State) :
    s.Operates (if s.pins.emswClosed then
        let s := { s with pins := { s.pins with emswClosed := false } }
        if s.ready then s.takeOpening else s
      else s) := by
  refine gate fun _ => ?_
  dsimp only
  split
  · exact .takeOpening ‹_›
  · exact .switchMoves false

theorem of_ignitionOn (s : State) :
    s.Operates (if s.pins.ign then s
      else
        let s := s.setIgnition true
        if s.ready then s.wakeEvent .ignition else s) := by
  split
  · exact .idle
  · dsimp only
    split
    · exact .ignitionWakes ‹_›
    · exact .ignition true

end State.Operates

/-- The inversion of `exec`: a command is a drain start, an internal memory cycle, or one of the other operations. -/
theorem exec_cases (c : Instr) (s : State) :
    (c = .drainStart ∧ exec c s = .next s.startDrain) ∨ (c = .internalMemoryCycleComplete ∧ exec c s = .next s.internalCycle) ∨
      ∃ t, exec c s = .next t ∧ s.Operates t := by
  cases c
  case drainStart => exact .inl ⟨rfl, rfl⟩
  case internalMemoryCycleComplete => exact .inr (.inl ⟨rfl, rfl⟩)
  all_goals refine .inr (.inr ⟨_, rfl, ?_⟩)
  case powerOnReset a => exact .powerOn a
  case resetnLow => exact .resetLow
  case eepromNoAcknowledge | imageReadTimeout => exact .gate .attemptFails
  case imageReadComplete b => exact .gate (.takeImage b)
  case recoveryReadComplete => exact .recover
  case startUpReady => exact .gate .becomeReady
  case softReset => exact .gate .softReset
  case drainComplete => exact .gate .completeDrain
  case internalOperationStart => exact .startOperation
  case offerEntryRewriteComplete => exact .of_offerRewriteEnd _ s
  case emergencyRecordRewriteComplete => exact .endRecordRewrite
  case totalsSnapshotComplete => exact .endSnapshot
  case tripLogDepositComplete => exact .endTripDeposit
  case inboundDepositComplete => exact .endInboundDeposit
  case outboundFetchComplete => exact .endFetch
  case outboundCompletionComplete => exact .endCompletion
  case openCheckHeaderReadComplete => exact .of_headerReadEnd _ s
  case hire | step | tariff | stop | fault | alive => exact .meter _
  case malformedMeterMessage bytes gap => exact .of_malformed _ s
  case silenceTimerExpiry => exact .gate .silenceEnds
  case emswClosing => exact .of_closing s
  case emswOpening => exact .of_opening s
  case ignitionOn => exact .of_ignitionOn s
  case ignitionOff => exact .gate fun _ => .ignition false
  case holdTimerExpiry => exact .gate .holdEnds
  case repeatTimerExpiry => exact .gate .repeatEnds
  case lifetimeExpiry n => exact .gate (.lifetimeEnds n)
  case awardWaitExpiry n => exact .gate (.awardWaitEnds n)
  case acknowledgmentWaitExpiry => exact .gate .ackWaitEnds
  case interFragmentTimerExpiry k => exact .gate (.interFragmentEnds k)
  case fareReportRetransmitTime r => exact .gate (.fareRetransmit r)
  case shiftReportRetransmitTime => exact .gate .shiftRetransmit
  case cabClockSecond => exact .gate .second
  case flashTimerPhase => exact .gate .flash
  case alarmFlashToggle => exact .gate .alarm
  case cycleStart => exact .gate .startCycle
  case beaconWindowClose => exact .gate .closeWindow
  case quietWaitEnd => exact .gate .startHunt
  case listenEnd => exact .gate .nextChannel
  case joinGrantWaitExpiry => exact .gate .joinGrantWaitEnds
  case slotStart => exact .gate .startSlot
  case backoffExpiry => exact .gate .backoffEnds
  case grantWaitExpiry => exact .gate .grantWaitEnds
  case restExpiry => exact .gate .restEnds
  case grantExpiry => exact .gate .endGrant
  case parkingCountExpiry => exact .gate .endParking
  case shortFrameSent => exact .gate .shortSent
  case longFrameSent => exact .gate .longSent
  case damagedFrame bytes => exact .gate fun _ => .of_damagedFrame bytes s
  case beacon | grantJoin | deny | rejoin | grantLong | offer | award | lost | withdraw | text | ackOfText | ackOfFare | ackOfShift |
      alertAck | alertCancel | wake => exact .receive _ _
  all_goals exact .cycle _

/-! ## Laws that every step keeps -/

/-- A law that speaks of no waiting command is kept by every step when the two operations on the static RAM and all others keep it. -/
theorem step_keeps {P : State → Prop} (hpending : ∀ (s : State) (q : List Instr), P s → P { s with pending := q })
    (hdrain : ∀ s, P s → P s.startDrain) (hcycle : ∀ s, P s → P s.internalCycle) (hother : ∀ s t, P s → s.Operates t → P t)
    (s t : State) (hs : P s) (h : step s = .next t) : P t := by
  unfold step at h
  split at h
  · cases h; exact hs
  next c rest _ =>
    have hq := hpending s rest hs
    obtain ⟨-, he⟩ | ⟨-, he⟩ | ⟨u, he, hu⟩ := exec_cases c { s with pending := rest }
    all_goals rw [he] at h; cases h
    · exact hdrain _ hq
    · exact hcycle _ hq
    · exact hother _ _ hq hu

end Sys2Proof.Machine
end

section
/-! PROOFS. The laws of Sys2Proof/Safety.lean are kept by every step. -/

namespace Sys2Proof.Machine

/-! ## What stays in every operation -/

/-- Only drains and internal memory cycles change the static RAM (R187). -/
theorem State.Operates.mem {s t : State} (h : s.Operates t) : t.mem = s.mem := by
  cases h with
  | recover | endOfferRewrite | endRecordRewrite | endSnapshot | endTripDeposit | endInboundDeposit | endFetch | endCompletion
  | endOpenCheck => exact State.complete_mem s (fun u t => by simp)
  | _ => simp

/-- No operation of the part changes the queue of commands. -/
theorem State.Operates.pending {s t : State} (h : s.Operates t) : t.pending = s.pending := by
  cases h with
  | recover | endOfferRewrite | endRecordRewrite | endSnapshot | endTripDeposit | endInboundDeposit | endFetch | endCompletion
  | endOpenCheck => exact State.complete_pending s (fun u t => by simp)
  | _ => simp

/-- Settles O2, by the cases of `exec`. -/
theorem everyCommandAnswersANextState : Obligations.EveryCommandAnswersANextState := by
  intro c s
  obtain ⟨-, he⟩ | ⟨-, he⟩ | ⟨t, he, ht⟩ := exec_cases c s
  · exact ⟨_, he, by simp⟩
  · exact ⟨_, he, by simp⟩
  · exact ⟨t, he, ht.pending⟩

/-- Settles O3, by the cases of `exec`: the two commands on the memory port are left out. -/
theorem onlyPortCyclesChangeTheRam : Obligations.OnlyPortCyclesChangeTheRam := by
  intro c s t h hdrain hcycle
  obtain ⟨hc, -⟩ | ⟨hc, -⟩ | ⟨u, he, hu⟩ := exec_cases c s
  · exact absurd hc hdrain
  · exact absurd hc hcycle
  · rw [he] at h
    cases h
    exact hu.mem

/-! ## One law after the other -/

theorem State.Operates.keeps_attentionLaw {s t : State} (hs : s.attentionLaw) (h : s.Operates t) : t.attentionLaw := by
  rw [State.attentionLaw_iff] at hs ⊢
  cases h with
  | endTripDeposit | endInboundDeposit | endCompletion | endOpenCheck =>
    exact State.complete_attention _ (fun u t ht => by simp [ht]) hs
  | _ => simp (maxDischargeDepth := 12) [hs]

/-- Settles O4: every operation that raises, clears or enables causes evaluates attention behind it. -/
theorem everyStepKeepsTheAttentionLaw : Obligations.EveryStepKeepsTheAttentionLaw := by
  refine step_keeps (fun s q hs => hs) (fun s hs => ?_) (fun s hs => ?_) (fun s t hs h => h.keeps_attentionLaw hs)
  · rw [State.attentionLaw_iff] at hs ⊢
    simp [hs]
  · exact State.internalCycle_attention hs

/-- Settles O5: only the two operations on the memory port write memory, and a write keeps the form. -/
theorem everyStepKeepsTheMemoryForm : Obligations.EveryStepKeepsTheMemoryForm := by
  refine step_keeps (fun s q hs => hs) (fun s hs => State.startDrain_memory hs) (fun s hs => State.internalCycle_memory hs)
    (fun s t hs h => ?_)
  rw [State.memoryLaw, h.mem]
  exact hs

theorem State.Operates.keeps_shiftLaw {s t : State} (hs : s.shiftLaw) (h : s.Operates t) : t.shiftLaw := by
  rw [State.shiftLaw_iff] at hs ⊢
  cases h <;> simp (maxDischargeDepth := 12) [hs]

theorem State.Operates.keeps_assignedLaw {s t : State} (hs : s.assignedLaw) (h : s.Operates t) : t.assignedLaw := by
  rw [State.assignedLaw_iff] at hs ⊢
  cases h with
  | recover => exact State.complete_assigned _ (fun u t ht => by simp [ht]) hs
  | _ => simp (maxDischargeDepth := 12) [hs]

/-- Settles O6: both status laws are kept by every operation. -/
theorem everyStepKeepsTheStatusLaws : Obligations.EveryStepKeepsTheStatusLaws := by
  refine ⟨step_keeps (fun s q hs => hs) (fun s hs => ?_) (fun s hs => State.internalCycle_shift hs) (fun s t hs h => h.keeps_shiftLaw hs),
    step_keeps (fun s q hs => hs) (fun s hs => ?_) (fun s hs => State.internalCycle_assigned hs)
      (fun s t hs h => h.keeps_assignedLaw hs)⟩
  · rw [State.shiftLaw_iff] at hs ⊢
    simp [hs]
  · rw [State.assignedLaw_iff] at hs ⊢
    simp [hs]

theorem State.Operates.keeps_offerLaw {s t : State} (hs : s.offerLaw) (h : s.Operates t) : t.offerLaw := by
  rw [State.offerLaw_iff] at hs ⊢
  cases h with
  | recover => exact State.complete_offers _ (fun u t ht => by simp [ht]) hs
  | _ => simp (maxDischargeDepth := 12) [hs]

/-- Settles O7: every update of the table keeps the offer law. -/
theorem everyStepKeepsTheOfferTableLaw : Obligations.EveryStepKeepsTheOfferTableLaw := by
  refine step_keeps (fun s q hs => hs) (fun s hs => ?_) (fun s hs => State.internalCycle_offers hs) (fun s t hs h => h.keeps_offerLaw hs)
  rw [State.offerLaw_iff] at hs ⊢
  simp [hs]

theorem State.Operates.keeps_reportLaw {s t : State} (hs : s.reportLaw) (h : s.Operates t) : t.reportLaw := by
  rw [State.reportLaw_iff] at hs ⊢
  cases h with
  | recover | endInboundDeposit | endOpenCheck => exact State.complete_report _ (fun u t ht => by simp [ht]) hs
  | _ => simp (maxDischargeDepth := 12) [hs]

/-- Settles O8: every change of an item of the report is handed on. -/
theorem everyStepKeepsTheReportCurrent : Obligations.EveryStepKeepsTheReportCurrent := by
  refine step_keeps (fun s q hs => hs) (fun s hs => ?_) (fun s hs => State.internalCycle_report hs) (fun s t hs h => h.keeps_reportLaw hs)
  rw [State.reportLaw_iff] at hs ⊢
  simp [hs]

theorem State.Operates.keeps_lampLaw {s t : State} (hs : s.lampLaw) (h : s.Operates t) : t.lampLaw := by
  rw [State.lampLaw_iff] at hs ⊢
  cases h with
  | attemptFails hg => exact State.attemptFails_lamps hg hs
  | takeImage b hg => exact State.takeImage_lamps b (Bool.and_eq_true_iff.1 hg).1 hs
  | recover | endInboundDeposit | endOpenCheck => exact State.complete_lamps _ (fun u t ht => by simp [ht]) hs
  | _ => simp (maxDischargeDepth := 12) [hs]

/-- Settles O9: every change of what the lamps show drives them. -/
theorem everyStepKeepsTheLampsDriven : Obligations.EveryStepKeepsTheLampsDriven := by
  refine step_keeps (fun s q hs => hs) (fun s hs => ?_) (fun s hs => State.internalCycle_lamps hs) (fun s t hs h => h.keeps_lampLaw hs)
  rw [State.lampLaw_iff] at hs ⊢
  simp [hs]

theorem State.Operates.keeps_linkLaw {s t : State} (hs : s.linkLaw) (h : s.Operates t) : t.linkLaw := by
  rw [State.linkLaw_iff] at hs ⊢
  cases h with
  | startHunt hg =>
    simp only [Bool.and_eq_true, beq_iff_eq] at hg
    simpa using State.startHunt_link rfl rfl rfl rfl hs hg.1.2
  | _ => simp (maxDischargeDepth := 12) [hs]

/-- Settles O10: every change of the link state changes what goes with it. -/
theorem everyStepKeepsTheLinkLaw : Obligations.EveryStepKeepsTheLinkLaw := by
  refine step_keeps (fun s q hs => hs) (fun s hs => ?_) (fun s hs => State.internalCycle_link hs) (fun s t hs h => h.keeps_linkLaw hs)
  rw [State.linkLaw_iff] at hs ⊢
  simp [hs]

end Sys2Proof.Machine
end

section
/-! PROOFS. The law of the operation queue and the sizes of the lists are kept by every step (R195). -/

namespace Sys2Proof.Machine

/-! ## The operation queue -/

/-- An operation other than the record rewrite ends: the law holds with nothing under way, and an operation of which one exists at a time
does not wait again. -/
theorem State.ended_queueOk {u : UnderWay} {t : State}
    (h : QueueOk t.path.queue (some u) t.msgs.flight t.msgs.deposit t.msgs.outbound t.msgs.inbound t.msgs.triplog t.trips.deposit
      t.power.startUp t.emerg.owed) (hu : t.path.under = none) (hk : u.kind ≠ .emergencyRewrite) :
    t.queueLaw ∧ (u.kind.once = true → u.kind ∉ t.path.queue.map (·.kind)) := by
  obtain ⟨-, -, -, -, -, -, -, -, honce, -⟩ := id h
  rw [State.queueLaw_iff, hu]
  exact ⟨h.finish hk, honce u.kind rfl⟩

theorem State.Operates.keeps_queueLaw {s t : State} (hs : s.queueLaw) (h : s.Operates t) : t.queueLaw := by
  have hl := (State.queueLaw_iff s).1 hs
  rw [State.queueLaw_iff]
  cases h with
  | attemptFails hg =>
    simp only [State.loading, Bool.and_eq_true, beq_iff_eq] at hg
    simpa using State.attemptFails_queueOk rfl rfl rfl rfl rfl rfl rfl rfl rfl hl hg.2
  | takeImage b hg =>
    simp only [State.loading, Bool.and_eq_true, beq_iff_eq] at hg
    simpa using State.takeImage_queueOk b rfl rfl rfl rfl rfl rfl rfl rfl hl hg.1.2
  | becomeReady hg =>
    simp only [State.recovered, Bool.and_eq_true, List.isEmpty_iff, Option.isNone_iff_eq_none] at hg
    obtain ⟨⟨-, hqueue⟩, hunder⟩ := hg
    exact State.becomeReady_queueOk hl hqueue hunder
  | softReset => exact State.softReset_queueOk hl
  | endRecordRewrite => exact State.complete_queueOk _ hl (fun u t _ hk ht hn => State.endRecordRewrite_queueOk _ ht hn hk)
  | endTripDeposit =>
    refine State.complete_queueOk _ hl (fun u t _ hk ht hn => ?_)
    obtain ⟨hq, ho⟩ := State.ended_queueOk ht hn (by simp [hk])
    exact State.endTripDeposit_queueOk ((State.queueLaw_iff t).1 hq) hn (hk ▸ ho (by rw [hk]; rfl))
  | endInboundDeposit =>
    refine State.complete_queueOk _ hl (fun u t _ hk ht hn => ?_)
    obtain ⟨hq, ho⟩ := State.ended_queueOk ht hn (by simp [hk])
    exact State.endInboundDeposit_queueOk ((State.queueLaw_iff t).1 hq) hn (hk ▸ ho (by rw [hk]; rfl))
  | endCompletion =>
    refine State.complete_queueOk _ hl (fun u t _ hk ht hn => ?_)
    obtain ⟨hq, ho⟩ := State.ended_queueOk ht hn (by simp [hk])
    exact State.endCompletion_queueOk ((State.queueLaw_iff t).1 hq) hn (hk ▸ ho (by rw [hk]; rfl))
  | endOpenCheck r =>
    refine State.complete_queueOk _ hl (fun u t _ hk ht hn => ?_)
    obtain ⟨hq, ho⟩ := State.ended_queueOk ht hn (by simp [hk])
    exact State.endOpenCheck_queueOk r _ ((State.queueLaw_iff t).1 hq) hn (hk ▸ ho (by rw [hk]; rfl))
  | recover | endOfferRewrite | endSnapshot | endFetch =>
    refine State.complete_queueOk _ hl (fun u t _ hk ht hn => ?_)
    have hq := (State.queueLaw_iff t).1 (State.ended_queueOk ht hn (by simp [hk])).1
    simp [hq]
  | _ => simp (maxDischargeDepth := 12) [hl]

/-- The kinds that may wait together: no record read behind READY, no header read before it, and a fetch or a completion, not both. -/
def OpKind.together (recovering fetching : Bool) : List OpKind :=
  allEntries.map .offerRewrite ++ [.emergencyRewrite, .totalsSnapshot, .inboundDeposit, .tripDeposit] ++
    (if recovering then [.recoveryRead] else [.headerRead .outbound, .headerRead .inbound, .headerRead .triplog]) ++
    [if fetching then .outboundFetch else .outboundCompletion]

theorem OpKind.together_length (r f : Bool) : (OpKind.together r f).length ≤ 24 := by
  cases r <;> simp [OpKind.together, allEntries]

theorem State.waits_together {s : State} (hs : s.queueLaw) {k : OpKind} (hk : k ∈ s.path.queue.map (·.kind)) :
    k ∈ OpKind.together (decide (s.power.startUp = .recovering)) (decide (s.msgs.flight = .fetching .reading)) := by
  obtain ⟨-, habandoned, hfetch, -, hcompletion, -, -, -, -, hrecovery, hheader, -⟩ := hs
  cases k with
  | offerRewrite n => simp [OpKind.together, mem_allEntries]
  | emergencyRewrite | totalsSnapshot | inboundDeposit | tripDeposit => simp [OpKind.together]
  | outboundFetch => simp [OpKind.together, hfetch hk]
  | outboundCompletion =>
    obtain ⟨c, hc⟩ := hcompletion (.inl hk)
    simp [OpKind.together, hc]
  | headerRead r => cases r <;> simp [OpKind.together, hheader _ hk]
  | recoveryRead => simp [OpKind.together, hrecovery hk]
  | abandoned => exact absurd hk habandoned

/-- No kind waits twice, and at most 24 kinds may wait together (R195). -/
theorem State.queue_length_le {s : State} (hs : s.queueLaw) : s.path.queue.length ≤ 24 := by
  calc s.path.queue.length = (s.path.queue.map (·.kind)).length := (List.length_map _).symm
    _ ≤ (OpKind.together _ _).length := List.Nodup.length_le_of_subset hs.1 fun _ hk => State.waits_together hs hk
    _ ≤ 24 := OpKind.together_length _ _

/-! ## The sizes -/

theorem State.Operates.keeps_sizes {s t : State}
    (hs : SizeOk s.path.buffer s.sched.acks s.sched.bids s.trips.pendingLog s.trips.reports s.trips.abandoned s.msgs.delivered)
    (h : s.Operates t) :
    SizeOk t.path.buffer t.sched.acks t.sched.bids t.trips.pendingLog t.trips.reports t.trips.abandoned t.msgs.delivered := by
  cases h with
  | recover | endTripDeposit | endInboundDeposit | endOpenCheck => exact State.complete_sizes _ (fun u t ht => by simp [ht]) hs
  | _ => simp (maxDischargeDepth := 12) [hs]

theorem State.Operates.keeps_candidates {s t : State} (hs : CandidatesOk s.link.channels s.link.candidates s.link.hunt)
    (h : s.Operates t) : CandidatesOk t.link.channels t.link.candidates t.link.hunt := by
  cases h with
  | nextChannel =>
    obtain ⟨hchannels, hcandidates, hhunt⟩ := id hs
    simp [State.nextChannel_cands rfl ⟨hchannels, hcandidates, fun h e => Nat.le_of_lt (hhunt h e)⟩]
  | _ => simp (maxDischargeDepth := 12) [hs]

theorem State.Operates.keeps_tariffs {s t : State} (hs : TariffsOk s.trips.trip) (h : s.Operates t) : TariffsOk t.trips.trip := by
  cases h <;> simp (maxDischargeDepth := 12) [hs]

theorem State.Operates.keeps_sizeLaw {s t : State} (hs : s.sizeLaw) (h : s.Operates t) : t.sizeLaw := by
  rw [State.sizeLaw_iff] at hs ⊢
  obtain ⟨hsizes, hcandidates, htariffs⟩ := hs
  exact ⟨h.keeps_sizes hsizes, h.keeps_candidates hcandidates, h.keeps_tariffs htariffs⟩

/-- Settles O11: the sizes by their three parts, the queue by its law, and its length by the kinds that may wait together. -/
theorem everyStepKeepsTheListSizes : Obligations.EveryStepKeepsTheListSizes := by
  refine ⟨step_keeps (fun s q hs => hs) (fun s hs => ?_) (fun s hs => ?_) (fun s t hs h => h.keeps_sizeLaw hs),
    step_keeps (fun s q hs => hs) (fun s hs => ?_) (fun s hs => ?_) (fun s t hs h => h.keeps_queueLaw hs),
    fun s hs => State.queue_length_le hs⟩
  · rw [State.sizeLaw_iff] at hs ⊢
    simp [hs]
  · rw [State.sizeLaw_iff] at hs ⊢
    obtain ⟨hsizes, hcandidates, htariffs⟩ := hs
    exact ⟨State.internalCycle_sizes hsizes, State.internalCycle_cands hcandidates, State.internalCycle_tariffs htariffs⟩
  · rw [State.queueLaw_iff] at hs ⊢
    simp [hs]
  · rw [State.queueLaw_iff] at hs ⊢
    exact State.internalCycle_queueOk hs

end Sys2Proof.Machine
end

section
/-! PROOFS. Processor cycles: the step rule, field commands, held cycles; reset and start-up. -/

namespace Sys2Proof.Machine

/-! ## The step rule and the values after a reset -/

/-- Settles O1: the two branches of `step`. -/
theorem stepRunsTheFrontCommand : Obligations.StepRunsTheFrontCommand := by
  refine ⟨fun s c rest h => ?_, fun s h => ?_⟩
  · rw [step, h]
  · rw [step, h]

theorem OfferEngine.reset_stateOf (n : Fin 16) : OfferEngine.reset.stateOf n = .empty := by
  simp [OfferEngine.reset, OfferEngine.stateOf, OfferEngine.entry, OfferEntry.reset]

theorem State.reset_offerLaw : State.reset.offerLaw := by
  have hs : ∀ n, State.reset.offers.stateOf n = .empty := OfferEngine.reset_stateOf
  refine ⟨fun n k h => ?_, fun n k h => absurd (hs n) h, fun n h => absurd (hs n) h⟩
  rw [hs] at h
  cases h

/-- Settles O12: each law on the values of `State.reset`. -/
theorem theLawsHoldAfterReset : Obligations.TheLawsHoldAfterReset := by
  refine ⟨?_, rfl, ?_, ?_, State.reset_offerLaw, ?_, ⟨rfl, rfl, rfl⟩, ?_, ?_, ?_, rfl, rfl⟩
  · exact ⟨rfl, fun _ => rfl⟩
  · simp [State.shiftLaw, State.reset, StatusUnit.reset, TripEngine.reset]
  · intro h
    cases h
  · intro h
    cases h
  · simp [State.linkLaw, State.reset, LinkController.reset, Scheduler.reset]
  · simp [State.sizeLaw, State.reset, MemoryPath.reset, Scheduler.reset, TripEngine.reset, MessageEngine.reset, LinkController.reset]
  · simp [State.queueLaw, State.reset, MemoryPath.reset, EmergencyUnit.reset]

/-! ## Processor cycles that are held -/

/-- While the Memory Path holds every cycle, or one is held, a further cycle joins the held ones (R188, R200, R201). -/
theorem State.processorCycle_held (c : BusCycle) {s : State} (h : s.path.held ≠ [] ∨ s.path.inReset = true ∨ s.path.resetDrain = true) :
    s.processorCycle c = { s with path := { s.path with held := s.path.held ++ [⟨c, false⟩] } } := by
  have hb : (s.path.holdsAll || !s.path.held.isEmpty) = true := by
    obtain h | h | h := h <;> simp [MemoryPath.holdsAll, h]
  exact if_pos hb

theorem exec_processorWrite_held (a : BitVec 19) (l : Lanes) (d : Word) {s : State}
    (h : s.path.held ≠ [] ∨ s.path.inReset = true ∨ s.path.resetDrain = true) :
    exec (.processorWrite a l d) s = .next { s with path := { s.path with held := s.path.held ++ [⟨.write a l d, false⟩] } } :=
  congrArg Host.Outcome.next (State.processorCycle_held _ h)

theorem exec_processorRead_held (a : BitVec 19) (l : Lanes) {s : State}
    (h : s.path.held ≠ [] ∨ s.path.inReset = true ∨ s.path.resetDrain = true) :
    exec (.processorRead a l) s = .next { s with path := { s.path with held := s.path.held ++ [⟨.read a l, false⟩] } } :=
  congrArg Host.Outcome.next (State.processorCycle_held _ h)

/-- A cycle that may be attempted: it is done, or joins the held ones as the attempt leaves it. -/
theorem State.processorCycle_free (c : BusCycle) {s : State} (hr : s.running = true) (hd : s.path.resetDrain = false)
    (hh : s.path.held = []) :
    s.processorCycle c =
      match s.attempt ⟨c, false⟩ with
      | .done t => t
      | .waits h => { s with path := { s.path with held := [h] } } := by
  have hb : (s.path.holdsAll || !s.path.held.isEmpty) = false := by
    simp only [State.running, Bool.not_eq_true'] at hr
    simp [MemoryPath.holdsAll, hr, hd, hh]
  rw [State.processorCycle, hb]
  cases s.attempt ⟨c, false⟩ with
  | done t => rfl
  | waits h => simp [State.hold, hh]

/-- Settles O14: the post buffer at RESETn low, and a cycle while it is low. -/
theorem lowResetEmptiesTheBufferAndHoldsCycles : Obligations.LowResetEmptiesTheBufferAndHoldsCycles :=
  ⟨fun _ => rfl, fun _ a l d h => exec_processorWrite_held a l d (.inr (.inl h)),
    fun _ a l h => exec_processorRead_held a l (.inr (.inl h))⟩

/-- From READY on the reset word is WATCHED, and 00FFh with both lanes asks for a soft reset (R204). -/
theorem State.writeAt_resetWord {s : State} (hs : s.writesFree = true) :
    ∃ b, s.path.post (pageAddress s.path.asel 0x04) Lanes.both 0x00FF#16 = some { s.path with buffer := b } ∧
      s.writeAt 0x04 Lanes.both 0x00FF#16 = { s with path := { s.path with buffer := b, resetDrain := true } } := by
  have ht : ∀ hi, s.treatment (fieldAt 0x04) hi = .watched := State.treatment_ready (State.writesFree_ready hs) .resetWord
  obtain ⟨b, hp, hw⟩ := State.writeAt_watched (d := 0x00FF#16) hs rfl (by decide) (l := Lanes.both) rfl (fun _ => ht _) (fun _ => ht _)
  exact ⟨b, hp, hw⟩

/-- Settles O20: the write is taken by the reset word; a cycle behind it is held. -/
theorem resetWordWriteAsksForASoftReset : Obligations.ResetWordWriteAsksForASoftReset := by
  refine ⟨fun s hs => ?_, fun _ a l d h => exec_processorWrite_held a l d (.inr (.inr h)),
    fun _ a l h => exec_processorRead_held a l (.inr (.inr h))⟩
  obtain ⟨b, hp, hw⟩ := State.writeAt_resetWord hs
  refine ⟨_, _, congrArg Host.Outcome.next hw, hp, rfl, ?_, rfl, rfl⟩
  exact ⟨rfl, rfl, rfl, rfl, rfl, rfl, rfl, rfl, rfl, rfl, rfl⟩

/-! ## Field commands -/

/-- The response field of an entry lies at 0118h plus the entry's 80h bytes (R220). -/
theorem responseOffset_eq (n : Fin 16) : responseOffset n = 0x118 + 0x80 * n.val := by
  simp only [responseOffset, offerOffset]
  omega

/-- A command that is a write at an offset is the processor write of that word. -/
theorem exec_eq_processorWrite {c : Instr} {s : State} {o p : Nat} {l : Lanes} {d : Word} (hc : exec c s = .next (s.writeAt o l d))
    (h : o = p) : exec c s = exec (.processorWrite (pageAddress s.path.asel p) l d) s := by
  subst h
  exact hc

/-- Settles O22: every field command is by definition a cycle at its field's offset. -/
theorem fieldCommandsAreProcessorCycles : Obligations.FieldCommandsAreProcessorCycles := by
  intro s l d w r
  refine ⟨rfl, rfl, rfl, rfl, rfl, rfl, rfl, rfl, rfl, rfl, rfl, rfl, rfl, rfl, rfl, rfl, rfl, rfl, rfl, rfl, rfl, ?_, rfl, rfl, rfl, ?_,
    rfl, rfl, rfl, rfl, rfl, rfl, rfl, fun _ => rfl, rfl, rfl, rfl⟩
  · exact fun _ => ⟨rfl, rfl, rfl, rfl, rfl⟩
  · exact fun n token => ⟨exec_eq_processorWrite rfl (responseOffset_eq n), exec_eq_processorWrite rfl (responseOffset_eq n),
      exec_eq_processorWrite rfl (responseOffset_eq n), exec_eq_processorWrite rfl (responseOffset_eq n)⟩

/-! ## RESETn -/

/-- The state right after RESETn is released, with the cycles held meanwhile still to be handled. -/
def State.poweredOn (a : BitVec 4) (s : State) : State :=
  { State.reset with
    pending := s.pending
    mem := s.mem
    pins := { Pins.reset with emswClosed := s.pins.emswClosed, ign := s.pins.ign }
    path := { MemoryPath.reset with asel := a, answer := s.path.answer }
    radio := { Transceiver.reset with channel := s.radio.channel, output := s.radio.output }
    status := { StatusUnit.reset with flashOn := s.status.flashOn }
    power := { PowerUnit.reset with ignition := s.pins.ign } }

theorem State.powerOn_serves (a : BitVec 4) (s : State) : s.serves (s.poweredOn a) (s.powerOn a) :=
  State.service_serves (x := { s.poweredOn a with path := { (s.poweredOn a).path with held := s.path.held } }) rfl

theorem State.powerOn_eq {s : State} (a : BitVec 4) (h : s.path.held = []) : s.powerOn a = s.poweredOn a := by
  unfold State.powerOn State.poweredOn
  rw [h]
  exact State.service_free rfl rfl

/-- Settles O13: the power-on values, with the held cycles served behind them. -/
theorem powerOnResetGivesThePowerOnValues : Obligations.PowerOnResetGivesThePowerOnValues := by
  intro a s
  refine ⟨s.powerOn a, s.poweredOn a, rfl, State.powerOn_serves a s, State.powerOn_eq a, ?_⟩
  exact ⟨rfl, rfl, rfl, rfl, rfl, rfl, rfl, rfl, rfl, rfl, rfl, rfl, rfl, rfl, rfl, rfl, rfl⟩

/-! ## LOADING -/

theorem State.loading_iff (s : State) : s.loading = true ↔ s.running = true ∧ s.power.startUp = .loading := by
  simp [State.loading]

/-- A failed read attempt is followed by a fresh one, the third by CONFIG_FAULT (R180, R182). -/
theorem exec_attemptFails {c : Instr} {s : State} (hc : c = .eepromNoAcknowledge ∨ c = .imageReadTimeout) (hl : s.loading = true) :
    exec c s = .next s.attemptFails := by
  obtain rfl | rfl := hc <;> exact congrArg Host.Outcome.next (if_pos hl)

/-- Settles O15: the two branches on the attempt number. -/
theorem failedImageReadsAreRetriedTwice : Obligations.FailedImageReadsAreRetriedTwice := by
  intro s c hc hr hs
  refine ⟨_, exec_attemptFails hc ((State.loading_iff s).2 ⟨hr, hs⟩), fun h => ?_, fun h => ?_⟩
  · exact if_pos h
  · exact if_neg (Nat.not_lt.2 h)

/-- The check word is judged before everything else (R181). -/
theorem judgeImage_checkFails {b : List Byte} (h : imageWord b 0x3E ≠ wordSum ((toWords b).take 31)) : judgeImage b = .checkFails :=
  if_pos h

/-- Settles O16: the three judgements of an image. -/
theorem completeImageIsJudged : Obligations.CompleteImageIsJudged := by
  intro b s hr hs hb
  have hg : (s.loading && b.length == 64) = true := by simp [(State.loading_iff s).2 ⟨hr, hs⟩, hb]
  refine ⟨s.takeImage b, congrArg Host.Outcome.next (if_pos hg), fun h => ?_, fun item h => ?_, fun image h => ?_⟩
  · rw [State.takeImage, judgeImage_checkFails h]; rfl
  · rw [State.takeImage, h]; rfl
  · rw [State.takeImage, h]
    exact ⟨rfl, rfl, rfl, rfl, rfl, rfl, rfl, rfl, rfl, rfl, rfl, rfl, rfl⟩

end Sys2Proof.Machine
end

section
/-! PROOFS. The configuration image is judged item by item (R181, R224). -/

namespace Sys2Proof.Machine

/-! ## The channel list -/

theorem channelsOf_getD (b : List Byte) {n k : Nat} (h : k < n) : ∀ o, (channelsOf b o n).getD k 0#16 = imageWord b (o + 2 * k) := by
  induction n generalizing k with
  | zero => omega
  | succ n ih =>
    intro o
    cases k with
    | zero => rfl
    | succ k =>
      rw [channelsOf, List.getD_cons_succ, ih (by omega), Nat.mul_succ, Nat.add_assoc, Nat.add_comm 2]

/-- A listed channel out of range is one of the words counted (R224). -/
theorem channelsOf_any (b : List Byte) (n o : Nat) :
    (channelsOf b o n).any (fun c => decide (1023 < c.toNat)) = true ↔ ∃ k, k < n ∧ 1023 < (imageWord b (o + 2 * k)).toNat := by
  rw [List.any_eq_true]
  constructor
  · rintro ⟨c, hc, hr⟩
    obtain ⟨k, hk, rfl⟩ := List.mem_iff_getElem.1 hc
    have hn : k < n := channelsOf_length b n o ▸ hk
    refine ⟨k, hn, ?_⟩
    rw [← channelsOf_getD b hn, ← List.getElem_eq_getD (h := hk)]
    exact of_decide_eq_true hr
  · rintro ⟨k, hn, hr⟩
    have hk : k < (channelsOf b o n).length := by rw [channelsOf_length]; exact hn
    refine ⟨_, List.getElem_mem hk, ?_⟩
    rw [List.getElem_eq_getD 0#16, channelsOf_getD b hn]
    exact decide_eq_true hr

/-! ## The component map -/

/-- A component byte is out of range when it is neither a group nor NONE (R224). -/
theorem componentOf_none (x : Byte) : componentOf x = none ↔ 3 < x.toNat ∧ x ≠ 0x0F#8 := by
  revert x
  decide

theorem componentOf_group (g : Fin 4) : componentOf (BitVec.ofNat 8 g.val) = some (some g) := by
  revert g
  decide

theorem componentsOf_none (l : List Byte) : componentsOf l = none ↔ ∃ x ∈ l, componentOf x = none := by
  induction l with
  | nil => simp [componentsOf]
  | cons x rest ih =>
    rw [componentsOf]
    cases hx : componentOf x with
    | none => simp [hx]
    | some c =>
      cases hr : componentsOf rest with
      | none => simpa [hx, hr] using ih
      | some cs => simpa [hx, hr] using ih

theorem componentsOf_some {l : List Byte} {cs : List (Option (Fin 4))} (h : componentsOf l = some cs) :
    cs.length = l.length ∧ ∀ k, k < l.length → componentOf (l.getD k 0#8) = some (cs.getD k none) := by
  induction l generalizing cs with
  | nil =>
    cases h
    exact ⟨rfl, fun k hk => absurd hk (Nat.not_lt_zero k)⟩
  | cons x rest ih =>
    rw [componentsOf] at h
    split at h
    next c ds hc hds =>
      cases h
      obtain ⟨hlen, hget⟩ := ih hds
      refine ⟨congrArg Nat.succ hlen, fun k hk => ?_⟩
      cases k with
      | zero => exact hc
      | succ k => exact hget k (Nat.lt_of_succ_lt_succ hk)
    · cases h

/-- The sixteen component bytes of the image. -/
theorem componentBytes_getD (b : List Byte) {k : Nat} (hk : k < 16) : ((b.drop 0x16).take 16).getD k 0#8 = imageByte b (0x16 + k) := by
  simp [imageByte, List.getD, hk]

theorem componentBytes_length {b : List Byte} (hb : b.length = 64) : ((b.drop 0x16).take 16).length = 16 := by
  simp [hb]

theorem componentBytes_none {b : List Byte} (hb : b.length = 64) :
    componentsOf ((b.drop 0x16).take 16) = none ↔
      ∃ k, k < 16 ∧ 3 < (imageByte b (0x16 + k)).toNat ∧ imageByte b (0x16 + k) ≠ 0x0F#8 := by
  rw [componentsOf_none]
  constructor
  · rintro ⟨x, hx, hn⟩
    obtain ⟨k, hk, rfl⟩ := List.mem_iff_getElem.1 hx
    have hk16 : k < 16 := componentBytes_length hb ▸ hk
    rw [componentOf_none, List.getElem_eq_getD 0#8, componentBytes_getD b hk16] at hn
    exact ⟨k, hk16, hn⟩
  · rintro ⟨k, hk16, hn⟩
    have hk : k < ((b.drop 0x16).take 16).length := by rw [componentBytes_length hb]; exact hk16
    refine ⟨_, List.getElem_mem hk, ?_⟩
    rw [componentOf_none, List.getElem_eq_getD 0#8, componentBytes_getD b hk16]
    exact hn

/-! ## The lamp map -/

/-- The setting that a lamp byte in range names (R224). -/
def lampSetting (x : Byte) : Lamp := if x = 0#8 then .off else if x = 1#8 then .on else .flash

theorem lampOf_eq (x : Byte) : lampOf x = if 2 < x.toNat then none else some (lampSetting x) := by
  revert x
  decide

theorem lampPairOf_eq (b : List Byte) (o : Nat) :
    lampPairOf b o =
      if 2 < (imageByte b o).toNat ∨ 2 < (imageByte b (o + 1)).toNat then none
      else some ⟨lampSetting (imageByte b o), lampSetting (imageByte b (o + 1))⟩ := by
  simp only [lampPairOf, lampOf_eq]
  by_cases h : 2 < (imageByte b o).toNat <;> by_cases k : 2 < (imageByte b (o + 1)).toNat <;> simp [h, k]

/-- The lamp map that the ten lamp bytes name (R224). -/
def lampMapAt (b : List Byte) : LampMap :=
  let lamp := fun k => lampSetting (imageByte b k)
  ⟨⟨lamp 0x26, lamp 0x27⟩, ⟨lamp 0x28, lamp 0x29⟩, ⟨lamp 0x2A, lamp 0x2B⟩, ⟨lamp 0x2C, lamp 0x2D⟩, ⟨lamp 0x2E, lamp 0x2F⟩⟩

theorem lampPairOf_some {b : List Byte} {o : Nat} {p : LampPair} (h : lampPairOf b o = some p) :
    ¬2 < (imageByte b o).toNat ∧ ¬2 < (imageByte b (o + 1)).toNat := by
  rw [lampPairOf_eq] at h
  split at h
  next => cases h
  next hgood => exact not_or.1 hgood

theorem lampMapOf_of_bad {b : List Byte} (h : ∃ k, k < 10 ∧ 2 < (imageByte b (0x26 + k)).toNat) : lampMapOf b = none := by
  obtain ⟨k, hk, hbad⟩ := h
  unfold lampMapOf
  split
  next o f a h l ho hf ha hh hl =>
    obtain ⟨h0, h1⟩ := lampPairOf_some ho
    obtain ⟨h2, h3⟩ := lampPairOf_some hf
    obtain ⟨h4, h5⟩ := lampPairOf_some ha
    obtain ⟨h6, h7⟩ := lampPairOf_some hh
    obtain ⟨h8, h9⟩ := lampPairOf_some hl
    match k, hk, hbad with
    | 0, _, hbad => exact absurd hbad h0
    | 1, _, hbad => exact absurd hbad h1
    | 2, _, hbad => exact absurd hbad h2
    | 3, _, hbad => exact absurd hbad h3
    | 4, _, hbad => exact absurd hbad h4
    | 5, _, hbad => exact absurd hbad h5
    | 6, _, hbad => exact absurd hbad h6
    | 7, _, hbad => exact absurd hbad h7
    | 8, _, hbad => exact absurd hbad h8
    | 9, _, hbad => exact absurd hbad h9
    | k + 10, hk, _ => exact absurd hk (by omega)
  next => rfl

theorem lampMapOf_of_good {b : List Byte} (h : ¬∃ k, k < 10 ∧ 2 < (imageByte b (0x26 + k)).toNat) : lampMapOf b = some (lampMapAt b) := by
  have hk : ∀ k, k < 10 → ¬2 < (imageByte b (0x26 + k)).toNat := fun k hk hbad => h ⟨k, hk, hbad⟩
  have h0 := hk 0 (by decide)
  have h1 := hk 1 (by decide)
  have h2 := hk 2 (by decide)
  have h3 := hk 3 (by decide)
  have h4 := hk 4 (by decide)
  have h5 := hk 5 (by decide)
  have h6 := hk 6 (by decide)
  have h7 := hk 7 (by decide)
  have h8 := hk 8 (by decide)
  have h9 := hk 9 (by decide)
  simp only [Nat.reduceAdd, Nat.add_zero] at h0 h1 h2 h3 h4 h5 h6 h7 h8 h9
  simp [lampMapOf, lampPairOf_eq, h0, h1, h2, h3, h4, h5, h6, h7, h8, h9, lampMapAt]

/-! ## The judgment -/

/-- An image is good only as R181 says, and then each item is the value that the image holds. -/
theorem judgeImage_good {b : List Byte} {image : ConfigImage} (h : judgeImage b = .good image) :
    ∃ components lampMap, componentsOf ((b.drop 0x16).take 16) = some components ∧ lampMapOf b = some lampMap ∧
      image =
        { cab := imageWord b 0, fleet := imageByte b 2, classFlags := imageByte b 3,
          channels := channelsOf b 6 (imageByte b 4).toNat, components, lampMap, alarmFlash := imageByte b 5 == 1#8,
          pauseAt := if (imageWord b 0x30).toNat = 0 ∧ (imageWord b 0x32).toNat = 0 then 512 else (imageWord b 0x30).toNat,
          resumeAt := if (imageWord b 0x30).toNat = 0 ∧ (imageWord b 0x32).toNat = 0 then 1024 else (imageWord b 0x32).toNat } := by
  unfold judgeImage at h
  dsimp only at h
  iterate 5 (split at h; · cases h)
  split at h
  · cases h
  next components hcomponents =>
    split at h
    · cases h
    next lampMap hlampMap =>
      iterate 2 (split at h; · cases h)
      cases h
      exact ⟨components, lampMap, hcomponents, hlampMap, rfl⟩

/-- The judging of the items behind the channel list (R181). -/
def judgeTables (b : List Byte) : ImageJudgment :=
  let p := (imageWord b 0x30).toNat
  let q := (imageWord b 0x32).toNat
  match componentsOf ((b.drop 0x16).take 16) with
  | none => .outOfRange 6#8
  | some components =>
    match lampMapOf b with
    | none => .outOfRange 7#8
    | some lampMap =>
      if 1 < (imageByte b 5).toNat then .outOfRange 8#8
      else if ¬(p = 0 ∧ q = 0) ∧ ¬(p < q ∧ q ≤ 8192 ∧ p ≤ 8192) then .outOfRange 9#8
      else .good
        { cab := imageWord b 0, fleet := imageByte b 2, classFlags := imageByte b 3,
          channels := channelsOf b 6 (imageByte b 4).toNat, components, lampMap, alarmFlash := imageByte b 5 == 1#8,
          pauseAt := if p = 0 ∧ q = 0 then 512 else p, resumeAt := if p = 0 ∧ q = 0 then 1024 else q }

/-- The first checks of an image in their order (R181). -/
theorem judgeImage_eq (b : List Byte) :
    judgeImage b =
      if imageWord b 0x3E ≠ wordSum ((toWords b).take 31) then .checkFails
      else if imageWord b 0 = 0#16 ∨ imageWord b 0 = 0xFFFF#16 then .outOfRange 1#8
      else if imageByte b 2 = 0#8 ∨ imageByte b 2 = 0xFF#8 then .outOfRange 2#8
      else if (imageByte b 4).toNat < 1 ∨ 8 < (imageByte b 4).toNat then .outOfRange 4#8
      else if (channelsOf b 6 (imageByte b 4).toNat).any (fun c => decide (1023 < c.toNat)) then .outOfRange 5#8
      else judgeTables b := rfl

/-- The items behind the channel list, when their bytes are in range. -/
theorem judgeTables_eq {b : List Byte} {components : List (Option (Fin 4))}
    (hcomponents : componentsOf ((b.drop 0x16).take 16) = some components)
    (hlamps : ¬∃ k, k < 10 ∧ 2 < (imageByte b (0x26 + k)).toNat) :
    judgeTables b =
      let p := (imageWord b 0x30).toNat
      let q := (imageWord b 0x32).toNat
      if 1 < (imageByte b 5).toNat then .outOfRange 8#8
      else if ¬(p = 0 ∧ q = 0) ∧ ¬(p < q ∧ q ≤ 8192 ∧ p ≤ 8192) then .outOfRange 9#8
      else .good
        { cab := imageWord b 0, fleet := imageByte b 2, classFlags := imageByte b 3,
          channels := channelsOf b 6 (imageByte b 4).toNat, components, lampMap := lampMapAt b,
          alarmFlash := imageByte b 5 == 1#8, pauseAt := if p = 0 ∧ q = 0 then 512 else p,
          resumeAt := if p = 0 ∧ q = 0 then 1024 else q } := by
  unfold judgeTables
  rw [hcomponents, lampMapOf_of_good hlamps]

/-- Settles O17: the checks in their order, each put in terms of the image's bytes; a good image is inverted. -/
theorem goodImageIsInRange : Obligations.GoodImageIsInRange := by
  intro b hb summed cabBad fleetBad count countBad channelBad componentBad lampBad flashBad p q thresholdBad lamp
  have hchannels := channelsOf_any b count 6
  have hcomponents := componentBytes_none hb
  have hthreshold : thresholdBad ↔ ¬(p = 0 ∧ q = 0) ∧ ¬(p < q ∧ q ≤ 8192 ∧ p ≤ 8192) := by
    simp only [thresholdBad]
    omega
  have htables : summed → ¬cabBad → ¬fleetBad → ¬countBad → ¬channelBad → judgeImage b = judgeTables b := by
    intro h1 h2 h3 h4 h5
    rw [judgeImage_eq, if_neg (Classical.not_not.2 h1), if_neg h2, if_neg h3, if_neg h4, if_neg (mt hchannels.1 h5)]
  have hsome : ¬componentBad → ∃ components, componentsOf ((b.drop 0x16).take 16) = some components := fun h =>
    Option.ne_none_iff_exists'.1 (mt hcomponents.1 h)
  refine ⟨judgeImage_checkFails, ?_, ?_, ?_, ?_, ?_, ?_, ?_, ?_, ?_, ?_⟩
  · rintro ⟨h1, h2⟩
    rw [judgeImage_eq, if_neg (Classical.not_not.2 h1), if_pos h2]
  · rintro ⟨h1, h2, h3⟩
    rw [judgeImage_eq, if_neg (Classical.not_not.2 h1), if_neg h2, if_pos h3]
  · rintro ⟨h1, h2, h3, h4⟩
    rw [judgeImage_eq, if_neg (Classical.not_not.2 h1), if_neg h2, if_neg h3, if_pos h4]
  · rintro ⟨h1, h2, h3, h4, h5⟩
    rw [judgeImage_eq, if_neg (Classical.not_not.2 h1), if_neg h2, if_neg h3, if_neg h4, if_pos (hchannels.2 h5)]
  · rintro ⟨h1, h2, h3, h4, h5, h6⟩
    rw [htables h1 h2 h3 h4 h5, judgeTables, hcomponents.2 h6]
  · rintro ⟨h1, h2, h3, h4, h5, h6, h7⟩
    obtain ⟨components, hc⟩ := hsome h6
    rw [htables h1 h2 h3 h4 h5, judgeTables, hc, lampMapOf_of_bad h7]
  · rintro ⟨h1, h2, h3, h4, h5, h6, h7, h8⟩
    obtain ⟨components, hc⟩ := hsome h6
    rw [htables h1 h2 h3 h4 h5, judgeTables_eq hc h7]
    exact if_pos h8
  · rintro ⟨h1, h2, h3, h4, h5, h6, h7, h8, h9⟩
    obtain ⟨components, hc⟩ := hsome h6
    rw [htables h1 h2 h3 h4 h5, judgeTables_eq hc h7]
    exact (if_neg h8).trans (if_pos (hthreshold.1 h9))
  · rintro ⟨h1, h2, h3, h4, h5, h6, h7, h8, h9⟩
    obtain ⟨components, hc⟩ := hsome h6
    rw [htables h1 h2 h3 h4 h5, judgeTables_eq hc h7]
    exact ⟨_, (if_neg h8).trans (if_neg (mt hthreshold.2 h9))⟩
  · intro image h
    obtain ⟨components, lampMap, hc, hm, rfl⟩ := judgeImage_good h
    obtain ⟨hlen, hget⟩ := componentsOf_some hc
    have hlamps : lampMap = lampMapAt b := by
      by_cases hbad : ∃ k, k < 10 ∧ 2 < (imageByte b (0x26 + k)).toNat
      · rw [lampMapOf_of_bad hbad] at hm
        cases hm
      · rw [lampMapOf_of_good hbad] at hm
        exact (Option.some.inj hm).symm
    refine ⟨rfl, rfl, rfl, channelsOf_length b count 6, fun k hk => channelsOf_getD b hk 6, hlen.trans (componentBytes_length hb),
      fun k hk => ?_, hlamps, beq_iff_eq, fun h => ⟨if_pos h, if_pos h⟩, fun h => ⟨if_neg h, if_neg h⟩⟩
    have hk' := hget k (by rw [componentBytes_length hb]; exact hk)
    rw [componentBytes_getD b hk] at hk'
    refine ⟨fun h => ?_, fun g h => ?_⟩
    · rw [h] at hk'
      exact (Option.some.inj hk').symm
    · rw [h, componentOf_group] at hk'
      exact (Option.some.inj hk').symm

end Sys2Proof.Machine
end

section
/-! PROOFS. RECOVERING, READY and the soft reset (R166, R183, R184, R201). -/

namespace Sys2Proof.Machine

/-! ## The end of an operation -/

/-- With no cycle held, the end of an operation raises its causes and tells its owner. -/
theorem State.complete_eq {k : OpKind} {owner : UnderWay → State → State} {s : State} {u : UnderWay} (hr : s.running = true)
    (hu : s.path.under = some u) (hk : u.kind = k) (hc : u.cycles = [])
    (hheld : (owner u (State.raiseAll u.causes s.endOperation)).path.held = [])
    (hunder : (owner u (State.raiseAll u.causes s.endOperation)).path.under = none) :
    s.complete k owner = owner u (State.raiseAll u.causes s.endOperation) := by
  rw [State.complete_finished hr hu hk hc, State.service_free hheld hunder]

/-! ## The emergency record read back -/

theorem sourceOf_listed (w : Word) :
    (w = 1#16 → sourceOf w = .switch) ∧ (w = 2#16 → sourceOf w = .terminal) ∧ (w = 3#16 → sourceOf w = .recovered) := by
  refine ⟨?_, ?_, ?_⟩ <;> rintro rfl <;> rfl

/-- R166 in terms of the words of the record. -/
theorem judgeRecord_eq (ws : List Word) :
    judgeRecord ws =
      if ws.getD 0 0#16 ≠ 0xE5E5#16 ∨ ws.getD 63 0#16 ≠ wordSum (ws.take 63) then .notValid
      else if ws.getD 1 0#16 = 0#16 then .clear (ws.getD 2 0#16) (sourceOf (ws.getD 3 0#16))
      else if ws.getD 1 0#16 = 1#16 ∨ ws.getD 1 0#16 = 2#16 then
        (if ws.getD 2 0#16 = 0#16 then .notValid
         else .resumed (ws.getD 2 0#16) (DWord.ofWords (ws.getD 5 0#16) (ws.getD 4 0#16)) (ws.getD 10 0#16))
      else .notValid := rfl

/-- What the resumption of a call leaves (R166). -/
theorem State.recover_resumed (number : Word) (raisedAt : DWord) (sends : Word) (s : State) :
    let t := s.recover (.resumed number raisedAt sends)
    t.power = { s.power with recovery := .resumed } ∧ t.emerg.state = .alerting ∧ t.emerg.number = number ∧
      t.emerg.source = .recovered ∧ t.emerg.raisedAt = raisedAt ∧ t.emerg.sends = sends ∧ t.emerg.ackedAt = 0#32 ∧
      t.emerg.cancelledAt = 0#32 ∧ t.emerg.causeWaits = true ∧ t.sched.alertPlace = some ⟨number, .recovered⟩ ∧
      t.sched.alertAttempts = 0 ∧ t.status.alarmOn = true ∧ t.status.status = s.status.status := by
  simp [State.recover, State.alertingHandOn, State.rewriteWithCause_eq, State.fillAlert, State.refillAlert]

/-- The record read has completed, and its judgment is applied. -/
theorem exec_recoveryReadComplete {s : State} {u : UnderWay} (hr : s.running = true) (hh : s.path.held = []) (hu : s.path.under = some u)
    (hk : u.kind = .recoveryRead) (hc : u.cycles = []) (hca : u.causes = []) :
    exec .recoveryReadComplete s = .next (s.endOperation.recover (judgeRecord u.got)) := by
  have he : s.complete .recoveryRead (fun u => State.recover (judgeRecord u.got)) = s.endOperation.recover (judgeRecord u.got) := by
    have := State.complete_eq (owner := fun u => State.recover (judgeRecord u.got)) hr hu hk hc
      (by simpa [State.endOperation] using hh) (by simp [State.endOperation])
    rwa [hca] at this
  exact congrArg Host.Outcome.next he

/-- Settles O18: the judgment word by word, and what each judgment makes of the state. -/
theorem recoveryReadRestoresTheEmergency : Obligations.RecoveryReadRestoresTheEmergency := by
  constructor
  · intro ws _ raised valid
    refine ⟨fun h => ?_, ?_, ?_⟩
    · rw [judgeRecord_eq]
      split
      · rfl
      next hchecks =>
        simp only [not_or, ne_eq, Classical.not_not] at hchecks
        have hstate : ¬(ws.getD 1 0#16 = 0#16 ∨ (raised ∧ ws.getD 2 0#16 ≠ 0#16)) := fun hs => h ⟨hchecks.1, hchecks.2, hs⟩
        rw [if_neg (fun h0 => hstate (.inl h0))]
        split
        next hraised => exact if_pos (Classical.not_not.1 fun hn => hstate (.inr ⟨hraised, hn⟩))
        · rfl
    · rintro ⟨⟨hmarker, hsum, hstate⟩, hraised⟩
      have h0 : ws.getD 1 0#16 = 0#16 := hstate.resolve_right fun h => hraised h.1
      refine ⟨sourceOf (ws.getD 3 0#16), ?_, sourceOf_listed _⟩
      rw [judgeRecord_eq, if_neg (by simp only [hmarker, hsum, ne_eq, not_true_eq_false, or_self, not_false_eq_true]), if_pos h0]
    · rintro ⟨⟨hmarker, hsum, hstate⟩, hraised⟩
      have h0 : ws.getD 1 0#16 ≠ 0#16 := by
        obtain h | h := hraised <;> rw [h] <;> decide
      have hn : ws.getD 2 0#16 ≠ 0#16 := (hstate.resolve_left h0).2
      rw [judgeRecord_eq, if_neg (by simp only [hmarker, hsum, ne_eq, not_true_eq_false, or_self, not_false_eq_true]), if_neg h0,
        if_pos hraised, if_neg hn]
  · intro s u hr hh hu hk hc hca
    refine ⟨_, exec_recoveryReadComplete hr hh hu hk hc hca, ?_⟩
    refine ⟨by simp, by simp, by simp, by simp, by simp, by simp [State.endOperation], by simp [State.endOperation], fun h => ?_, fun number source h => ?_,
      fun number raisedAt sends h => ?_⟩
    · rw [h]; exact ⟨rfl, rfl, rfl, rfl, rfl, rfl⟩
    · rw [h]; exact ⟨rfl, rfl, rfl, rfl, rfl, rfl⟩
    · rw [h]; exact State.recover_resumed number raisedAt sends s.endOperation

/-! ## READY -/

/-- The image is applied and start-up is READY, with the link still OFF. -/
def State.started (image : ConfigImage) (s : State) : State :=
  { s.applyImage image with
    power := { s.power with startUp := .ready }, link := { s.link with nextSlot := 0, window := false, beaconIn := false } }

/-- Start-up becomes READY, before a closed switch is looked at: the link is in QUIET and what was handed on is handed on. -/
def State.readied (image : ConfigImage) (s : State) : State := State.handOn ((s.started image).enterQuiet true)

theorem State.becomeReady_eq {image : ConfigImage} {s : State} (hi : s.power.image = some image) :
    s.becomeReady =
      if (s.readied image).pins.emswClosed && (s.readied image).emerg.state == .clear then (s.readied image).takeClosing
      else s.readied image := by
  unfold State.becomeReady
  rw [hi]
  rfl

/-- What a closing makes of a CLEAR state in ACTIVE (R149). -/
theorem State.takeClosing_active {s : State} (hp : s.power.power = .active) (he : s.emerg.state = .clear) :
    s.takeClosing = { s with
      emerg := { s.emerg with state := .pressed, hold := some 2 },
      trips := { s.trips with trip := s.trips.trip.map (fun o => { o with flags := { o.flags with emergency := true } }) } } := by
  simp [State.takeClosing, State.wakeEvent_active hp, he, State.markTripEmergency, State.changeTrip, holdTime]

/-- The state at READY, block by block (R14, R22, R184). -/
theorem State.readied_eq {image : ConfigImage} {s : State} (hl : s.link.state = .off) (hs : s.radio.sending = none) :
    s.readied image = { s with
      link := { s.link with
        state := .quiet, candidates := [], joining := none, site := none, loss := 0, attempts := 0, grantWait := none, quiet := 0,
        hunt := none, nextSlot := 0, window := false, beaconIn := false }
      radio := { s.radio with
        channel := s.link.channels.headD 0#16, receiverOn := true,
        output := s.radio.output ++ [.order (.tune (s.link.channels.headD 0#16)), .order .listen] }
      status := { s.status with lampMap := image.lampMap, alarmEnabled := image.alarmFlash, alarmOn := s.emerg.state.raised }
      trips := { s.trips with components := image.components }
      msgs := { s.msgs with pauseAt := image.pauseAt, resumeAt := image.resumeAt }
      power := { s.power with startUp := .ready }
      sched := (s.readied image).sched
      pins := (s.readied image).pins } := by
  unfold State.readied
  rw [State.enterQuiet_first (s := s.started image) hl hs, State.handOn_eq]
  rfl

theorem State.readied_lines {image : ConfigImage} {s : State} (hl : s.link.state = .off) (hs : s.radio.sending = none) :
    s.linesStay (s.readied image) := by
  unfold State.readied
  rw [State.enterQuiet_first (s := s.started image) hl hs, State.handOn_eq]
  exact ⟨rfl, rfl, rfl, rfl⟩

theorem State.readied_handsOn (image : ConfigImage) (s : State) :
    (s.readied image).sched.statusPlace = some (s.readied image).statusReport ∧ (s.readied image).lampLaw := by
  have hready : ((s.started image).enterQuiet true).power.startUp = .ready := by simp [State.started]
  unfold State.readied
  rw [State.handOn_eq]
  exact ⟨if_pos hready, rfl, rfl, rfl⟩

/-- PRESSED is shown neither by the report nor by the lamps (R11, R13). -/
theorem State.pressed_handsOn {s : State} {hold : Timer} {trips : TripEngine} (he : s.emerg.state = .clear)
    (hplace : s.sched.statusPlace = some s.statusReport) (hlamps : s.lampLaw) :
    let t := { s with emerg := { s.emerg with state := .pressed, hold := hold }, trips := trips }
    t.sched.statusPlace = some t.statusReport ∧ t.lampLaw := by
  simp only [State.lampLaw, he] at hlamps
  simp only [State.statusReport, he] at hplace
  exact ⟨hplace, hlamps⟩

/-- Settles O19: READY block by block, and behind it the closing of a switch that is closed already. -/
theorem startUpReadyStartsTheWork : Obligations.StartUpReadyStartsTheWork := by
  intro s image hr hi hl hs hp
  have heq := State.readied_eq (image := image) hl hs
  obtain ⟨hplace, hlamps⟩ := State.readied_handsOn image s
  have hemerg : (s.readied image).emerg = s.emerg := by rw [heq]
  have hlines := State.readied_lines (image := image) hl hs
  obtain ⟨hclosed, -⟩ := id hlines
  have hexec : exec .startUpReady s = .next s.becomeReady := congrArg Host.Outcome.next (if_pos hr)
  rw [State.becomeReady_eq hi, hclosed, hemerg] at hexec
  by_cases hc : s.pins.emswClosed = true ∧ s.emerg.state = .clear
  · have hactive : (s.readied image).power.power = .active := by
      rw [heq]
      exact hp.resolve_right (by simp [hc.1])
    rw [if_pos (by simp [hc]), State.takeClosing_active hactive (hemerg ▸ hc.2)] at hexec
    obtain ⟨hplace', hlamps'⟩ := State.pressed_handsOn (hold := some 2) (trips := { (s.readied image).trips with
      trip := (s.readied image).trips.trip.map (fun o => { o with flags := { o.flags with emergency := true } }) })
      (hemerg ▸ hc.2) hplace hlamps
    refine ⟨_, hexec, ?_⟩
    rw [heq] at hplace' hlamps' hlines ⊢
    exact ⟨rfl, rfl, rfl, rfl, rfl, rfl, rfl, rfl, rfl, rfl, rfl, rfl, rfl, rfl, rfl, rfl, rfl, rfl, rfl, hplace', hlamps', rfl, rfl, hlines,
      fun _ => ⟨rfl, rfl⟩, fun h => (h.elim (fun h => absurd (hc.1.symm.trans h) (by simp)) (fun h => h hc.2)).elim⟩
  · rw [if_neg (by simpa using hc)] at hexec
    refine ⟨_, hexec, ?_⟩
    rw [heq] at hplace hlamps hlines ⊢
    exact ⟨rfl, rfl, rfl, rfl, rfl, rfl, rfl, rfl, rfl, rfl, rfl, rfl, rfl, rfl, rfl, rfl, rfl, rfl, rfl, hplace, hlamps, rfl, rfl, hlines,
      fun h => absurd h hc, fun _ => ⟨rfl, rfl⟩⟩

end Sys2Proof.Machine
end

section
/-! PROOFS. The soft reset applies every block's rule (R201). -/

namespace Sys2Proof.Machine

/-! ## The stages of a soft reset -/

/-- The link, the scheduler, the Memory Path, the deposit into TRIPLOG and the Emergency Unit after their rules. -/
def State.softResetBase (s : State) : State :=
  let s := s.enterQuiet false
  { s with
    sched := s.sched.softReset, radio := s.radio.forgetShort, path := s.path.softReset, trips := s.returnDeposit.trips,
    emerg := s.emerg.softReset, link := { s.link with clockUpper := 0#16 } }

/-- Every block after its rule, before the change is handed on. -/
def State.softResetBlocks (s : State) : State :=
  State.softResetStatus (State.softResetMessages (State.softResetTrips s.softResetBase.softResetOffers))

/-- The soft reset before the held cycles are handled. -/
def State.softResetDone (s : State) : State := State.softResetPage s.softResetBlocks.handOn

theorem State.softReset_eq (s : State) : s.softReset = s.softResetDone.service := rfl

/-! ## The record of a deposit under way -/

/-- A change of the totals for a trip of the open shift touches nothing else. -/
theorem State.changeTotalsFor_eq (r : TripRef) (f : Totals → Totals) (s : State) :
    s.changeTotalsFor r f = { s with trips := { s.trips with
      totals := if s.status.shiftOpen = true ∧ r.shift = s.status.shiftNumber then f s.trips.totals else s.trips.totals } } := by
  unfold State.changeTotalsFor State.ofOpenShift State.changeTotals
  by_cases h : s.status.shiftOpen = true ∧ r.shift = s.status.shiftNumber
  · rw [if_pos (by simpa using h), if_pos h]
  · rw [if_neg (by simpa using h), if_neg h]

theorem State.returnDeposit_none {s : State} (h : s.trips.deposit = none) : s.returnDeposit = s := by
  simp [State.returnDeposit, h]

/-- A deposit whose pointer write is complete has ended (R107). -/
theorem State.returnDeposit_written {s : State} {d : TripDeposit} (h : s.trips.deposit = some d)
    (hw : s.depositWritten .tripDeposit = true) : s.returnDeposit = { s with trips := { s.trips with deposit := none } } := by
  simp [State.returnDeposit, h, hw]

/-- With room the record joins the head of the pending-log list (R109). -/
theorem State.returnDeposit_room {s : State} {d : TripDeposit} (h : s.trips.deposit = some d)
    (hw : s.depositWritten .tripDeposit = false) (hl : s.trips.pendingLog.length < 2) :
    s.returnDeposit = { s with trips := { s.trips with deposit := none, pendingLog := d.record :: s.trips.pendingLog } } := by
  unfold State.returnDeposit
  cases hp : s.trips.pendingLog with
  | nil => simp [h, hw, hp]
  | cons old rest =>
    have hn : ¬2 ≤ (old :: rest).length := hp ▸ Nat.not_le.2 hl
    simp only [h, hw, hp, if_neg hn, Bool.false_eq_true, if_false]

/-- Without room the oldest pending record is given up for it (R108, R109). -/
theorem State.returnDeposit_full {s : State} {d : TripDeposit} {old : TripRecord} {rest : List TripRecord} (h : s.trips.deposit = some d)
    (hw : s.depositWritten .tripDeposit = false) (hp : s.trips.pendingLog = old :: rest) (hrest : rest ≠ []) :
    s.returnDeposit.trips = { s.trips with
      deposit := none, pendingLog := d.record :: rest,
      totals := if s.status.shiftOpen = true ∧ old.ref.shift = s.status.shiftNumber
        then { s.trips.totals with tripsNotLogged := satAdd s.trips.totals.tripsNotLogged 1#16 } else s.trips.totals } := by
  have hl : 2 ≤ (old :: rest).length := by
    cases rest with
    | nil => exact absurd rfl hrest
    | cons => simp
  unfold State.returnDeposit
  simp only [h, hw, hp, if_pos hl, Bool.false_eq_true, if_false, State.changeTotalsFor_eq]

theorem State.depositWritten_iff (k : OpKind) (s : State) :
    s.depositWritten k = true ↔ ∃ u, s.path.under = some u ∧ u.kind = k ∧ u.cycles = [] := by
  cases h : s.path.under <;> simp [State.depositWritten, h, List.isEmpty_iff]

/-! ## The blocks after their rules -/

theorem State.softResetBase_trips (s : State) : s.softResetBase.trips = s.returnDeposit.trips := by
  have h : (s.enterQuiet false).returnDeposit.trips = s.returnDeposit.trips := by
    cases hd : s.trips.deposit with
    | none => rw [State.returnDeposit_none hd, State.returnDeposit_none (by simpa using hd)]; simp
    | some d => simp [State.returnDeposit, State.depositWritten, State.changeTotalsFor_eq, hd]; (repeat' split) <;> simp_all
  simpa [State.softResetBase] using h

/-- The part that no rule of a soft reset touches, and the blocks whose rule is one assignment (R41, R67, R147, R167, R179). -/
theorem State.softResetBlocks_fields (s : State) :
    s.softResetBlocks.mem = s.mem ∧ s.softResetBlocks.pins.wake = s.pins.wake ∧
      s.softResetBlocks.link = { s.link.cleared .quiet with clockUpper := 0#16 } ∧ s.softResetBlocks.sched = s.sched.softReset ∧
      s.softResetBlocks.msgs = { MessageEngine.reset with
        pauseAt := s.msgs.pauseAt, resumeAt := s.msgs.resumeAt, stamp := s.msgs.stamp } ∧
      s.softResetBlocks.emerg = { s.emerg with raiseResult := Result.reset, causeWaits := false } ∧
      s.softResetBlocks.power = { s.power with power := .active, park := false, result := Result.reset } := by
  simp [State.softResetBlocks, State.softResetStatus, State.softResetMessages, State.softResetBase, State.enterQuiet_cleared,
    Scheduler.softReset, EmergencyUnit.softReset]

theorem State.softResetBlocks_trips (s : State) :
    s.softResetBlocks.trips =
      { s.returnDeposit.trips with meterCopy := [], totalsCopy := s.returnDeposit.trips.totals.image 0#32 } := by
  rw [← State.softResetBase_trips]
  simp [State.softResetBlocks, State.softResetStatus, State.softResetMessages, State.softResetTrips, State.loadTotalsCopy]

theorem State.softResetBlocks_path (s : State) :
    s.softResetBlocks.path = s.softResetBase.softResetOffers.path ∧ s.softResetBlocks.offers = s.softResetBase.softResetOffers.offers := by
  simp [State.softResetBlocks, State.softResetStatus, State.softResetMessages]

theorem State.softResetBase_fields (s : State) : s.softResetBase.path = s.path.softReset ∧ s.softResetBase.offers = s.offers := by
  simp [State.softResetBase]

/-- The trip that a deposit returns its record to is open as before. -/
theorem State.returnDeposit_trip (s : State) : s.returnDeposit.trips.trip = s.trips.trip := by
  simp

/-- The cab status follows what the other blocks keep (R15). -/
theorem State.softResetBlocks_status (s : State) :
    s.softResetBlocks.status = { s.status with
      status :=
        if s.status.shiftOpen = false then .offDuty else if s.trips.trip.isSome then .hired
        else if s.softResetBase.softResetOffers.offers.awarded.isSome then .assigned else .free
      statusResult := Result.reset, shiftResult := Result.reset } := by
  simp [State.softResetBlocks, State.softResetStatus, State.softResetMessages, State.recomputedStatus, State.softResetBase]

theorem OfferEngine.awarded_isSome_iff (t : OfferEngine) : t.awarded.isSome = true ↔ ∃ n, t.stateOf n = .awarded := by
  simp [OfferEngine.awarded, List.find?_isSome, mem_allEntries]

theorem State.softResetOffers_awarded (s : State) :
    s.softResetBase.softResetOffers.offers.awarded.isSome = true ↔ ∃ n, s.offers.stateOf n = .awarded := by
  rw [OfferEngine.awarded_isSome_iff]
  simp [State.softResetOffers_stateOf, State.softResetBase_fields]

/-! ## The Memory Path -/

theorem OpKind.kept_iff (k : OpKind) : k.kept = true ↔ (∃ n, k = .offerRewrite n) ∨ k = .emergencyRewrite ∨ k = .totalsSnapshot := by
  cases k <;> simp [OpKind.kept]

theorem State.softResetBase_kept (s : State) : ∀ o ∈ s.softResetBase.path.queue, o.kind.kept = true := by
  intro o ho
  rw [(State.softResetBase_fields s).1] at ho
  exact of_decide_eq_true (by simpa using (List.mem_filter.1 ho).2)

theorem State.softResetDone_path (s : State) : s.softResetDone.path = s.softResetBase.softResetOffers.path := by
  rw [← (State.softResetBlocks_path s).1]
  simp [State.softResetDone, State.softResetPage]

/-- Kept operations wait on, and no others (R201). -/
theorem State.softResetDone_queue (s : State) :
    (∀ o ∈ s.path.queue, o.kind.kept = true → o ∈ s.softResetDone.path.queue) ∧
      ∀ o ∈ s.softResetDone.path.queue, o.kind.kept = true := by
  rw [State.softResetDone_path]
  refine ⟨fun o ho hk => State.softResetOffers_keeps ?_, State.softResetOffers_queue (State.softResetBase_kept s)⟩
  rw [(State.softResetBase_fields s).1]
  exact List.mem_filter.2 ⟨ho, hk⟩

/-- The port after a soft reset: no posted write, and the held cycles wait on (R201). -/
theorem State.softResetDone_port (s : State) :
    s.softResetDone.path.buffer = [] ∧ s.softResetDone.path.fairness = 0 ∧ s.softResetDone.path.resetDrain = false ∧
      s.softResetDone.path.asel = s.path.asel ∧ s.softResetDone.path.held = s.path.held := by
  simp [State.softResetDone_path, State.softResetBase_fields, MemoryPath.softReset]

/-- The operation under way goes on, or stops after its memory cycle (R201). -/
theorem State.softResetDone_under (s : State) : s.softResetDone.path.under = s.path.underAfterReset := by
  simp [State.softResetDone_path, State.softResetBase, MemoryPath.softReset]

theorem MemoryPath.underAfterReset_spec (p : MemoryPath) :
    (p.under = none → p.underAfterReset = none) ∧
      ∀ u, p.under = some u →
        (u.kind.kept = true → p.underAfterReset = some { u with causes := [] }) ∧
        (¬u.kind.kept = true → p.internal = false → p.underAfterReset = none) ∧
        (¬u.kind.kept = true → p.internal = true → p.underAfterReset = some
          { u with kind := .abandoned, cycles := u.cycles.take 1, got := [], causes := [], carriesClear := false }) := by
  refine ⟨fun h => by simp [MemoryPath.underAfterReset, h], fun u h => ⟨fun hk => ?_, fun hk hi => ?_, fun hk hi => ?_⟩⟩
  · simp [MemoryPath.underAfterReset, h, hk]
  · simp [MemoryPath.underAfterReset, h, hk, hi]
  · simp [MemoryPath.underAfterReset, h, hk, hi]

/-! ## The change handed on -/

theorem State.softResetDone_eq (s : State) :
    s.softResetDone = { s.softResetBlocks with page := ControlPage.reset, sched := s.softResetDone.sched, pins := s.softResetDone.pins } := by
  unfold State.softResetDone
  generalize s.softResetBlocks = x
  rw [State.handOn_eq]
  rfl

theorem State.softResetDone_handsOn {s : State} (hr : s.power.startUp = .ready) :
    s.softResetDone.sched = { s.softResetBlocks.sched with statusPlace := some s.softResetDone.statusReport } ∧ s.softResetDone.lampLaw ∧
      s.softResetDone.pins.attn = false ∧ s.softResetDone.pins.wake = s.softResetBlocks.pins.wake := by
  have hready : s.softResetBlocks.power.startUp = .ready := by simp [State.softResetBlocks_fields, hr]
  unfold State.softResetDone
  generalize s.softResetBlocks = x at hready ⊢
  rw [State.handOn_eq, if_pos hready]
  exact ⟨rfl, ⟨rfl, rfl, rfl⟩, rfl, rfl⟩

/-- The Memory Path drives no lamp. -/
theorem State.lampLaw_path {s : State} (h : s.lampLaw) (p : MemoryPath) : State.lampLaw { s with path := p } := h

/-- The Memory Path holds no item of the report. -/
theorem State.statusPlace_path {s : State} (h : s.sched.statusPlace = some s.statusReport) (p : MemoryPath) :
    s.sched.statusPlace = some (State.statusReport { s with path := p }) := h

/-- A fairness count of 0 stays 0: a grant returns it to 0 (R198). -/
theorem MemoryPath.arbitrate_fairness {p : MemoryPath} (h : p.fairness = 0) : p.arbitrate.fairness = 0 := by
  unfold MemoryPath.arbitrate
  split
  · rfl
  · exact h

/-- An entry after the soft reset (R91). -/
theorem OfferEntry.softReset_eq (e : OfferEntry) :
    (e.state = .awarded → e.softReset = { e with causes := [] }) ∧
      (e.state ≠ .awarded → e.softReset = { OfferEntry.reset with
        seq := if e.state = .empty then e.seq else e.seq + 1#8, response := e.response, result := e.result }) := by
  refine ⟨fun h => ?_, fun h => ?_⟩
  · simp [OfferEntry.softReset, h]
  · by_cases he : e.state = .empty <;> simp [OfferEntry.softReset, OfferEntry.emptied, h, he, OfferEntry.reset]

/-- Every block after a soft reset (R15, R41, R67, R91, R121, R147, R167, R179, R213). -/
theorem State.softResetDone_fields {s : State} (hr : s.power.startUp = .ready) :
    s.softResetDone.page = ControlPage.reset ∧ s.softResetDone.mem = s.mem ∧
      s.softResetDone.link = { s.link.cleared .quiet with clockUpper := 0#16 } ∧
      s.softResetDone.sched = { s.sched.softReset with statusPlace := some s.softResetDone.statusReport } ∧
      s.softResetDone.msgs = { MessageEngine.reset with
        pauseAt := s.msgs.pauseAt, resumeAt := s.msgs.resumeAt, stamp := s.msgs.stamp } ∧
      s.softResetDone.emerg = { s.emerg with raiseResult := Result.reset, causeWaits := false } ∧
      s.softResetDone.power = { s.power with power := .active, park := false, result := Result.reset } ∧
      s.softResetDone.trips =
        { s.returnDeposit.trips with meterCopy := [], totalsCopy := s.returnDeposit.trips.totals.image 0#32 } ∧
      s.softResetDone.status = s.softResetBlocks.status ∧ s.softResetDone.offers = s.softResetBase.softResetOffers.offers := by
  obtain ⟨hmem, -, hlink, hsched, hmsgs, hemerg, hpower⟩ := State.softResetBlocks_fields s
  obtain ⟨hplace, -⟩ := State.softResetDone_handsOn hr
  rw [hsched] at hplace
  rw [← State.softResetBlocks_trips, ← (State.softResetBlocks_path s).2, ← hlink, ← hmsgs, ← hemerg, ← hpower, ← hmem]
  refine ⟨?_, ?_, ?_, hplace, ?_, ?_, ?_, ?_, ?_, ?_⟩ <;> rw [State.softResetDone_eq]

/-! ## The statement -/

/-- Settles O21: the rule of each block, for the state before the held cycles are served and for the state after it when none is held. -/
theorem softResetAppliesEveryBlocksRule : Obligations.SoftResetAppliesEveryBlocksRule := by
  intro s hdue kept written result
  have hready : s.power.startUp = .ready := by
    simp only [State.softResetDue, Bool.and_eq_true] at hdue
    exact ((State.ready_iff s).1 hdue.1.1.1).2
  have hkept : ∀ k, kept k ↔ k.kept = true := fun k => (OpKind.kept_iff k).symm
  have hwritten : written ↔ s.depositWritten .tripDeposit = true := (State.depositWritten_iff _ s).symm
  have hunwritten : ¬written → s.depositWritten .tripDeposit = false := fun h => Bool.eq_false_iff.2 (mt hwritten.2 h)
  obtain ⟨hpage, hmem, hlink, hsched, hmsgs, hemerg, hpower, htrips, hstatus, hoffers⟩ := State.softResetDone_fields hready
  obtain ⟨-, hlamps, hattn, hwake⟩ := State.softResetDone_handsOn hready
  obtain ⟨-, hwake', -⟩ := State.softResetBlocks_fields s
  rw [State.softResetBlocks_status] at hstatus
  have hawarded := State.softResetOffers_awarded s
  obtain ⟨hstays, hgone⟩ := State.softResetDone_queue s
  obtain ⟨hnone, hsome⟩ := MemoryPath.underAfterReset_spec s.path
  have hentry : ∀ n, s.softResetDone.offers.entry n = (s.offers.entry n).softReset := fun n => by
    rw [hoffers, State.softResetOffers_entry, (State.softResetBase_fields s).2]
  have hcab : s.softResetDone.status.status = _ := congrArg StatusUnit.status hstatus
  have hunder' := State.softResetDone_under s
  obtain ⟨hbuffer', hfairness', hdrain', hasel', hheld'⟩ := State.softResetDone_port s
  have hqueued : ∀ n, s.offers.stateOf n ≠ .awarded → s.softResetDone.path.queued (.offerRewrite n) = true := fun n hn => by
    rw [State.softResetDone_path]
    exact State.softResetOffers_queued (by rw [(State.softResetBase_fields s).2]; exact hn)
  have horder : ∀ n, s.offers.stateOf n = .awarded → (n ∈ s.softResetDone.offers.order ↔ n ∈ s.offers.order) := fun n hn => by
    rw [hoffers, State.softResetOffers_order (by rw [(State.softResetBase_fields s).2]; exact hn), (State.softResetBase_fields s).2]
  have hsoft := State.softReset_eq s
  clear hoffers
  generalize s.softResetDone = u at *
  -- The values do not depend on what the arbiter and the held cycles make of the port.
  have hresult : ∀ p : MemoryPath, p.buffer = [] → p.fairness = 0 → p.resetDrain = false → p.asel = s.path.asel →
      p.queue = u.path.queue → p.under = s.path.underAfterReset → result { u with path := p } := by
    intro p hbuffer hfairness hdrain hasel hqueue hunder
    refine ⟨hpage, hattn, hwake.trans hwake', State.lampLaw_path hlamps p, hbuffer, hfairness, hdrain, hasel, ?_, ?_, ?_, ?_,
      congrArg LinkController.state hlink, congrArg LinkController.site hlink, congrArg LinkController.candidates hlink,
      (congrArg LinkController.clock hlink).trans rfl, congrArg LinkController.clockUpper hlink, congrArg Scheduler.acks hsched,
      congrArg Scheduler.bids hsched, congrArg Scheduler.flowPlace hsched, (congrArg Scheduler.alertPlace hsched).trans rfl,
      congrArg Scheduler.alertAttempts hsched, congrArg Scheduler.contention hsched, congrArg Scheduler.grant hsched,
      congrArg Scheduler.joinPlace hsched, congrArg Scheduler.joinAttempts hsched, congrArg Scheduler.slotRequest hsched,
      congrArg Scheduler.long hsched, congrArg Scheduler.requests hsched, State.statusPlace_path (congrArg Scheduler.statusPlace hsched) p,
      (congrArg Scheduler.draws hsched).trans rfl, (congrArg Scheduler.seed hsched).trans rfl, congrArg MessageEngine.outbound hmsgs,
      congrArg MessageEngine.inbound hmsgs, congrArg MessageEngine.triplog hmsgs, congrArg MessageEngine.flight hmsgs,
      congrArg MessageEngine.buffer0 hmsgs, congrArg MessageEngine.buffer1 hmsgs, congrArg MessageEngine.deposit hmsgs,
      (congrArg MessageEngine.lastOut hmsgs).trans rfl, congrArg MessageEngine.delivered hmsgs, congrArg MessageEngine.paused hmsgs,
      (congrArg MessageEngine.pauseAt hmsgs).trans rfl, (congrArg MessageEngine.resumeAt hmsgs).trans rfl, ?_, ?_, ?_, ?_, hemerg, ?_, ?_, ?_, ?_, ?_, ?_, ?_,
      hpower, hmem⟩
    · exact fun o ho hk => hqueue ▸ hstays o ho ((hkept _).1 hk)
    · exact fun o ho => (hkept _).2 (hgone o (hqueue ▸ ho))
    · exact fun h => hunder.trans (hnone h)
    · intro u hu
      obtain ⟨hgoes, hends, hstops⟩ := hsome u hu
      exact ⟨fun hk => hunder.trans (hgoes ((hkept _).1 hk)), fun hk hi => hunder.trans (hends (mt (hkept _).2 hk) hi),
        fun hk hi => hunder.trans (hstops (mt (hkept _).2 hk) hi)⟩
    · intro hd
      rw [State.returnDeposit_none hd] at htrips
      exact htrips
    · intro d hd hw
      rw [State.returnDeposit_written hd (hwritten.1 hw)] at htrips
      exact htrips
    · intro d hd hw hl
      rw [State.returnDeposit_room hd (hunwritten hw) hl] at htrips
      exact htrips
    · intro d old rest hd hw hp hrest
      rw [State.returnDeposit_full hd (hunwritten hw) hp hrest] at htrips
      refine ⟨?_, congrArg TripEngine.totals htrips⟩
      dsimp only
      rw [htrips]
    · dsimp only
      rw [hstatus]
    · exact fun h => hcab.trans (if_pos h)
    · exact fun h ht => hcab.trans ((if_neg (by simp [h])).trans (if_pos ht))
    · intro h ht ha
      exact hcab.trans ((if_neg (by simp [h])).trans ((if_neg (by simp [ht])).trans (if_pos (hawarded.2 ha))))
    · intro h ht ha
      have hnot : ¬∃ n, s.offers.stateOf n = .awarded := fun ⟨n, hn⟩ => ha n hn
      exact hcab.trans ((if_neg (by simp [h])).trans ((if_neg (by simp [ht])).trans (if_neg (mt hawarded.1 hnot))))
    · intro n hn
      exact ⟨(hentry n).trans ((OfferEntry.softReset_eq _).1 hn), horder n hn⟩
    · intro n hn
      refine ⟨?_, (hentry n).trans ((OfferEntry.softReset_eq _).2 hn)⟩
      unfold MemoryPath.queued
      rw [hqueue]
      exact hqueued n hn
  have hnext : exec .softReset s = .next s.softReset := congrArg Host.Outcome.next (if_pos hdue)
  refine ⟨_, _, hnext, ?_, hsoft ▸ State.service_serves (x := u) hheld', fun hh => ?_⟩
  · exact hresult { u.path with held := [] } hbuffer' hfairness' hdrain' hasel' rfl hunder'
  · rw [hsoft, State.service_none (hheld'.trans hh)]
    exact hresult u.path.arbitrate (by simp [hbuffer']) (MemoryPath.arbitrate_fairness hfairness') (by simp [hdrain']) (by simp [hasel']) (by simp)
      (by simp [hunder'])

end Sys2Proof.Machine
end

section
/-! PROOFS. Processor writes: the lanes that are posted, the writes that are dropped and the cycles that wait (R188, R189, R194). -/

namespace Sys2Proof.Machine

/-! ## The post buffer -/

/-- A write to the word of the newest entry merges into it, unless that entry drains (R188). -/
theorem mergeNewest_newest {dr : Bool} {a : BitVec 19} (lo hi : Option Byte) :
    ∀ {xs : List PostEntry} {e : PostEntry}, xs.getLast? = some e → e.address = a → dr = false ∨ 2 ≤ xs.length →
      ∃ ys, mergeNewest dr a lo hi xs = some ys ∧ ys.length = xs.length
  | [], _, h, _, _ => by simp at h
  | [x], e, h, ha, hd => by
    obtain rfl : x = e := by simpa using h
    have hdr : dr = false := by simpa using hd
    exact ⟨_, if_pos ⟨ha, hdr⟩, rfl⟩
  | x :: y :: rest, e, h, ha, _ => by
    obtain ⟨ys, hm, hl⟩ := mergeNewest_newest (dr := false) lo hi (xs := y :: rest) (by simpa using h) ha (.inl rfl)
    exact ⟨x :: ys, by simp [mergeNewest, hm], by simp [hl]⟩

/-- A write changes only the post buffer of the Memory Path (R188). -/
theorem MemoryPath.post_eq_buffer {p q : MemoryPath} {a : BitVec 19} {l : Lanes} {d : Word} (h : p.post a l d = some q) :
    q = { p with buffer := q.buffer } := by
  unfold MemoryPath.post at h
  dsimp only at h
  split at h
  · cases h
    rfl
  · split at h
    · cases h
      rfl
    · cases h

/-- A merge takes no new entry (R188). -/
theorem MemoryPath.post_newest {p : MemoryPath} {a : BitVec 19} (l : Lanes) (d : Word) {e : PostEntry} (he : p.buffer.getLast? = some e)
    (ha : e.address = a) (hd : p.drain = .idle ∨ 2 ≤ p.buffer.length) :
    ∃ q, p.post a l d = some q ∧ q.buffer.length = p.buffer.length := by
  obtain ⟨ys, hm, hl⟩ := mergeNewest_newest (postLo l d) (postHi l d) he ha (dr := p.drain != .idle) (hd.imp (by simp [·]) id)
  exact ⟨{ p with buffer := ys }, by simp [MemoryPath.post, hm], hl⟩

/-- A write finds room, or merges (R188). -/
theorem MemoryPath.post_accepts {p : MemoryPath} {a : BitVec 19} (l : Lanes) (d : Word)
    (h : p.buffer.length < 4 ∨ ∃ e, p.buffer.getLast? = some e ∧ e.address = a) :
    ∃ q, p.post a l d = some q ∧
      ((∃ e, p.buffer.getLast? = some e ∧ e.address = a) → p.drain = .idle ∨ 2 ≤ p.buffer.length →
        q.buffer.length = p.buffer.length) := by
  by_cases hmerge : (∃ e, p.buffer.getLast? = some e ∧ e.address = a) ∧ (p.drain = .idle ∨ 2 ≤ p.buffer.length)
  · obtain ⟨⟨e, he, ha⟩, hd⟩ := hmerge
    obtain ⟨q, hq, hl⟩ := MemoryPath.post_newest l d he ha hd
    exact ⟨q, hq, fun _ _ => hl⟩
  · have hroom : p.buffer.length < 4 := by
      refine h.elim id fun hn => ?_
      have hlen : ¬2 ≤ p.buffer.length := fun h2 => hmerge ⟨hn, .inr h2⟩
      omega
    obtain ⟨b, hb⟩ := p.post_room a l d hroom
    exact ⟨_, hb, fun hn hd => absurd ⟨hn, hd⟩ hmerge⟩

/-! ## Lanes -/

theorem laneAny_iff (l : Lanes) : laneAny l = true ↔ l.lo = true ∨ l.hi = true := by
  simp [laneAny]

theorem laneAny_eq_false (l : Lanes) : laneAny l = false ↔ l.lo = false ∧ l.hi = false := by
  simp [laneAny]

/-- Before READY and in CONFIG_FAULT no lane is WATCHED (R199, R206). -/
theorem State.laneTreatment_ne_watched {s : State} (h : s.power.startUp ≠ .ready) (a : BitVec 19) (hi : Bool) :
    s.laneTreatment a hi ≠ .watched := by
  unfold State.laneTreatment
  split
  · unfold State.treatment
    rw [if_neg (by simpa using h)]
    split
    · simp
    · split <;> simp
    · simp
  · simp

/-- An accepted write that covers neither a GUARDED nor a WATCHED lane is only posted. -/
theorem State.acceptWrite_plain {a : BitVec 19} {l : Lanes} (d : Word) (p : MemoryPath) {s : State}
    (hg : laneAny (s.lanesOf .guarded a l) = false) (hw : laneAny (s.lanesOf .watched a l) = false) :
    s.acceptWrite a l d p = { s with path := p } := by
  unfold State.acceptWrite
  cases s.fieldOf a <;> simp [hg, hw]

theorem State.lanesOf_none {t : Treatment} {a : BitVec 19} {l : Lanes} {s : State} (hlo : l.lo = true → s.laneTreatment a false ≠ t)
    (hhi : l.hi = true → s.laneTreatment a true ≠ t) : laneAny (s.lanesOf t a l) = false := by
  simpa [laneAny, State.lanesOf] using ⟨hlo, hhi⟩

/-! ## The processor write -/

theorem exec_processorWrite_free {s t : State} {a : BitVec 19} {l : Lanes} {d : Word} (hr : s.running = true)
    (hd : s.path.resetDrain = false) (hh : s.path.held = []) (h : s.processorWrite? a l d = some t) :
    exec (.processorWrite a l d) s = .next t := by
  refine congrArg Host.Outcome.next ((State.processorCycle_free _ hr hd hh).trans ?_)
  simp [State.attempt, h]

/-- A write that posts no lane is accepted whatever the buffer holds. -/
theorem State.processorWrite?_none {s : State} {a : BitVec 19} {l : Lanes} (d : Word) (h : laneAny (s.postedLanes a l) = false) :
    s.processorWrite? a l d = some (s.acceptWrite a l d s.path) := by
  simp [State.processorWrite?, h]

theorem State.processorWrite?_posts {s : State} {a : BitVec 19} {l : Lanes} {d : Word} {p : MemoryPath}
    (h : laneAny (s.postedLanes a l) = true) (hp : s.path.post a (s.postedLanes a l) d = some p) :
    s.processorWrite? a l d = some (s.acceptWrite a l d p) := by
  simp [State.processorWrite?, h, hp]

/-- A lane is posted when the write covers it and it is not GUARDED (R188, R189). -/
theorem State.postedLanes_iff (s : State) (a : BitVec 19) (l : Lanes) (hi : Bool) :
    (if hi then (s.postedLanes a l).hi else (s.postedLanes a l).lo) = true ↔
      (if hi then l.hi else l.lo) = true ∧ s.laneTreatment a hi ≠ .guarded := by
  cases hi <;> simp [State.postedLanes]

/-- An accepted write: the path that it leaves differs from the one before in the post buffer at most (R188, R189). -/
theorem State.processorWrite?_accepts {s : State} {a : BitVec 19} (l : Lanes) (d : Word)
    (h : s.path.buffer.length < 4 ∨ ∃ e, s.path.buffer.getLast? = some e ∧ e.address = a) :
    ∃ p, s.processorWrite? a l d = some (s.acceptWrite a l d p) ∧ p = { s.path with buffer := p.buffer } ∧
      ((∃ e, s.path.buffer.getLast? = some e ∧ e.address = a) → s.path.drain = .idle ∨ 2 ≤ s.path.buffer.length →
        p.buffer.length = s.path.buffer.length) ∧
      ∀ (b : BitVec 19) (hi : Bool), posted b hi p.buffer =
        if b = a ∧ (if hi then l.hi else l.lo) = true ∧ s.laneTreatment a hi ≠ .guarded
        then some (if hi then Word.upper d else Word.lower d)
        else posted b hi s.path.buffer := by
  cases hany : laneAny (s.postedLanes a l) with
  | false =>
    refine ⟨s.path, State.processorWrite?_none d hany, rfl, fun _ _ => rfl, fun b hi => (if_neg ?_).symm⟩
    rw [← State.postedLanes_iff]
    rw [laneAny_eq_false] at hany
    cases hi <;> simp [hany]
  | true =>
    obtain ⟨p, hp, hl⟩ := MemoryPath.post_accepts (s.postedLanes a l) d h
    refine ⟨p, State.processorWrite?_posts hany hp, MemoryPath.post_eq_buffer hp, hl, fun b hi => ?_⟩
    rw [MemoryPath.post_posted hp]
    simp only [State.postedLanes_iff]

/-- Settles O23: the write is accepted, and its lanes that are not GUARDED are the ones posted. -/
theorem acceptedWritePostsItsLanes : Obligations.AcceptedWritePostsItsLanes := by
  intro s a l d hr hd hh newest hroom
  obtain ⟨p, hp, hbuffer, hlength, hposted⟩ := State.processorWrite?_accepts l d hroom
  obtain ⟨hb, hheld, hmem⟩ := State.acceptWrite_path a l d p s
  refine ⟨_, exec_processorWrite_free hr hd hh hp, hmem, ?_, ?_, ?_, ?_⟩
  · rw [hheld, hbuffer, hh]
  · rw [hb]
    exact hlength
  · intro hready hlo hhi
    have hplain := State.acceptWrite_plain d p (State.lanesOf_none hlo hhi)
      (State.lanesOf_none (fun _ => State.laneTreatment_ne_watched hready a false) (fun _ => State.laneTreatment_ne_watched hready a true))
    rw [hplain]
    exact congrArg (fun q => { s with path := q }) hbuffer
  · rw [hb]
    exact hposted

end Sys2Proof.Machine
end

section
/-! PROOFS. The GUARDED words of the cab area, and the writes that cover them (R3, R70, R123, R124, R130, R160, R185, R189). -/

namespace Sys2Proof.Machine

/-! ## Where the fields lie -/

/-- The field lies in the control page. -/
def Field.inControlPage : Field → Bool
  | .offer _ _ => false
  | .emergencyRecord => false
  | .totals _ => false
  | .ringSpace _ => false
  | _ => true

theorem controlField_inControlPage : ∀ o : Fin 0x100, (controlField o).inControlPage = true := by
  decide +kernel

theorem controlField_driverId : ∀ o : Fin 0x100, controlField o = .driverId ↔ o.val = 0x36 := by
  decide +kernel

theorem controlField_descriptor_list : ∀ o : Fin 0x100, ∀ r ∈ allRings, ∀ p ∈ [DescriptorWord.base, .size],
    (controlField o = .ringDescriptor r p ↔ o.val = descriptorOffset r p) := by
  decide +kernel

theorem mem_allRings (r : RingId) : r ∈ allRings := by
  cases r <;> simp [allRings]

theorem fieldAt_control {o : Nat} (h : o < 0x100) : fieldAt o = controlField o := if_pos h

theorem fieldAt_offer {o : Nat} (h : 0x100 ≤ o) (h' : o < 0x900) : ∃ n, fieldAt o = .offer n (o % 0x80) :=
  ⟨_, (if_neg (Nat.not_lt.2 h)).trans (if_pos h')⟩

theorem fieldAt_record {o : Nat} (h : 0x900 ≤ o) (h' : o < 0x980) : fieldAt o = .emergencyRecord := by
  simp [fieldAt, h', Nat.not_lt.2 h, show ¬o < 0x100 by omega]

theorem fieldAt_totals {o : Nat} (h : 0x980 ≤ o) (h' : o < 0xA00) : fieldAt o = .totals ((o - 0x980) / 2) := by
  simp [fieldAt, h', Nat.not_lt.2 h, show ¬o < 0x100 by omega, show ¬o < 0x900 by omega]

theorem fieldAt_ringSpace {o : Nat} (h : 0xA00 ≤ o) : fieldAt o = .ringSpace o := by
  simp [fieldAt, Nat.not_lt.2 h, show ¬o < 0x100 by omega, show ¬o < 0x900 by omega, show ¬o < 0x980 by omega]

theorem fieldAt_inControlPage {o : Nat} (h : o < 0x100) : (fieldAt o).inControlPage = true := by
  rw [fieldAt_control h]
  exact controlField_inControlPage ⟨o, h⟩

theorem fieldAt_driverId_iff (o : Nat) : fieldAt o = .driverId ↔ o = 0x36 := by
  refine ⟨fun h => ?_, fun h => h ▸ rfl⟩
  by_cases hc : o < 0x100
  · rw [fieldAt_control hc] at h
    exact (controlField_driverId ⟨o, hc⟩).1 h
  · simp only [fieldAt, if_neg hc] at h
    (repeat' split at h) <;> cases h

theorem fieldAt_descriptor_iff (o : Nat) (r : RingId) (p : DescriptorWord) :
    fieldAt o = .ringDescriptor r p ↔ o = descriptorOffset r p := by
  refine ⟨fun h => ?_, fun h => h ▸ by cases r <;> cases p <;> rfl⟩
  by_cases hc : o < 0x100
  · rw [fieldAt_control hc] at h
    exact (controlField_descriptor_list ⟨o, hc⟩ r (mem_allRings r) p (by cases p <;> simp)).1 h
  · simp only [fieldAt, if_neg hc] at h
    (repeat' split at h) <;> cases h

theorem fieldAt_offer_iff (o : Nat) : (∃ n k, fieldAt o = .offer n k ∧ k ≠ 0x18) ↔ 0x100 ≤ o ∧ o < 0x900 ∧ o % 0x80 ≠ 0x18 := by
  constructor
  · rintro ⟨n, k, h, hk⟩
    by_cases hc : o < 0x100
    · have hp := fieldAt_inControlPage hc
      rw [h] at hp
      cases hp
    · simp only [fieldAt, if_neg hc] at h
      split at h
      next h1 =>
        obtain ⟨-, rfl⟩ := Field.offer.inj h
        exact ⟨by omega, h1, hk⟩
      next => (repeat' split at h) <;> cases h
  · rintro ⟨h, h', hk⟩
    obtain ⟨n, hn⟩ := fieldAt_offer h h'
    exact ⟨n, _, hn, hk⟩

theorem fieldAt_record_iff (o : Nat) : fieldAt o = .emergencyRecord ↔ 0x900 ≤ o ∧ o < 0x980 := by
  refine ⟨fun h => ?_, fun ⟨h, h'⟩ => fieldAt_record h h'⟩
  by_cases hc : o < 0x100
  · have hp := fieldAt_inControlPage hc
    rw [h] at hp
    cases hp
  · simp only [fieldAt, if_neg hc] at h
    (repeat' split at h) <;> cases h
    omega

theorem fieldAt_ringSpace_iff (o k : Nat) : fieldAt o = .ringSpace k ↔ 0xA00 ≤ o ∧ k = o := by
  refine ⟨fun h => ?_, fun ⟨h, h'⟩ => by rw [h', fieldAt_ringSpace h]⟩
  by_cases hc : o < 0x100
  · have hp := fieldAt_inControlPage hc
    rw [h] at hp
    cases hp
  · simp only [fieldAt, if_neg hc] at h
    (repeat' split at h) <;> cases h
    exact ⟨by omega, rfl⟩

/-! ## The treatments -/

/-- The GUARDED fields of READY (R3, R70, R123, R124, R160). -/
theorem State.readyTreatment_guarded_iff (s : State) (f : Field) (hi : Bool) :
    s.readyTreatment f hi = .guarded ↔
      (f = .emergencyRecord ∧ s.recordGuarded = true) ∨ (f = .driverId ∧ s.driverWatched = false) ∨
        (∃ n k, f = .offer n k ∧ k ≠ 0x18) ∨ (∃ r p, f = .ringDescriptor r p ∧ (s.msgs.ring r).state ≠ .closed) ∨
        ∃ o, f = .ringSpace o ∧ s.ownPointerAt o = true := by
  cases f with
  | emergencyRecord => cases h : s.recordGuarded <;> simp [State.readyTreatment, h]
  | driverId => cases h : s.driverWatched <;> simp [State.readyTreatment, h]
  | offer n o =>
    by_cases h : o = 0x18
    · simp [State.readyTreatment, h]
    · exact ⟨fun _ => .inr (.inr (.inl ⟨n, o, rfl, h⟩)), fun _ => if_neg h⟩
  | ringDescriptor r p => by_cases h : (s.msgs.ring r).state = .closed <;> simp [State.readyTreatment, h]
  | ringSpace o =>
    cases h : s.ownPointerAt o <;> cases ho : (s.pointerRing o).isSome <;> simp [State.readyTreatment, h, ho]
  | zone => cases hi <;> simp [State.readyTreatment]
  | totals => cases h : s.totalsShadowed <;> simp [State.readyTreatment, h]
  | _ => simp [State.readyTreatment]

/-- The driver ID, an offer entry, a descriptor and the processor's pointer are WATCHED where they are not GUARDED (R3, R70, R123, R124). -/
theorem State.readyTreatment_watched {s : State} {f : Field} {hi : Bool} (h : s.readyTreatment f hi ≠ .guarded)
    (hf : f = .driverId ∨ (∃ n k, f = .offer n k) ∨ (∃ r p, f = .ringDescriptor r p) ∨ ∃ o, f = .ringSpace o ∧ (s.pointerRing o).isSome = true) :
    s.readyTreatment f hi = .watched := by
  obtain rfl | ⟨n, k, rfl⟩ | ⟨r, p, rfl⟩ | ⟨o, rfl, ho⟩ := hf
  · simp_all [State.readyTreatment]
  · simp_all [State.readyTreatment]
  · simp_all [State.readyTreatment]
  · simp_all [State.readyTreatment]

/-- Before READY and in CONFIG_FAULT the emergency record alone may be GUARDED (R199, R206). -/
theorem State.treatment_guarded_unready {s : State} (h : s.power.startUp ≠ .ready) (f : Field) (hi : Bool) :
    s.treatment f hi = .guarded ↔ f = .emergencyRecord ∧ s.recordGuarded = true := by
  unfold State.treatment
  rw [if_neg (by simpa using h)]
  cases f <;> simp

/-- Both lanes of a word are GUARDED or neither is. -/
theorem State.treatment_guarded_lanes (s : State) (f : Field) (hi lo : Bool) : s.treatment f hi = .guarded ↔ s.treatment f lo = .guarded := by
  by_cases h : s.power.startUp = .ready
  · rw [State.treatment_ready h, State.treatment_ready h, State.readyTreatment_guarded_iff, State.readyTreatment_guarded_iff]
  · rw [State.treatment_guarded_unready h, State.treatment_guarded_unready h]

theorem State.laneTreatment_guarded_lanes (s : State) (a : BitVec 19) (hi lo : Bool) :
    s.laneTreatment a hi = .guarded ↔ s.laneTreatment a lo = .guarded := by
  unfold State.laneTreatment
  split
  · exact State.treatment_guarded_lanes s _ hi lo
  · exact Iff.rfl

theorem State.driverWatched_eq_false (s : State) :
    s.driverWatched = false ↔ s.status.shiftOpen = true ∧ s.status.driverId ≠ 0#16 := by
  simp [State.driverWatched]

/-! ## The pointers -/

theorem Ring.pointerOffsets_eq (r : Ring) (id : RingId) :
    r.pointerOffsets id =
      (r.desc.base.toNat + (if id = .outbound then 0 else 2), r.desc.base.toNat + if id = .outbound then 2 else 0) := by
  cases id <;> rfl

/-- The pointer of the processor (R124). -/
theorem State.pointerRing_isSome_iff (s : State) (o : Nat) :
    (s.pointerRing o).isSome = true ↔
      ∃ id, (s.msgs.ring id).state ≠ .closed ∧ o = (s.msgs.ring id).desc.base.toNat + if id = .outbound then 0 else 2 := by
  simp only [State.pointerRing, Ring.pointerOffsets_eq, List.find?_isSome, mem_allRings, true_and]
  simp

theorem State.depositPlan_any_iff (s : State) (o : Nat) (id : RingId) :
    (s.depositPlan id).any (fun p => o == p.desc.base.toNat) = true ↔
      (id = .inbound ∧ s.depositWritten .inboundDeposit = false ∧ ∃ d, s.msgs.deposit = some d ∧ o = d.plan.desc.base.toNat) ∨
        id = .triplog ∧ s.depositWritten .tripDeposit = false ∧ ∃ d, s.trips.deposit = some d ∧ o = d.plan.desc.base.toNat := by
  cases id with
  | outbound => simp [State.depositPlan]
  | inbound => cases h : s.depositWritten .inboundDeposit <;> cases hd : s.msgs.deposit <;> simp [State.depositPlan, h, hd]
  | triplog => cases h : s.depositWritten .tripDeposit <;> cases hd : s.trips.deposit <;> simp [State.depositPlan, h, hd]

/-- The pointers of the part: of a ring that is not CLOSED, and of a deposit whose pointer write is to come (R124, R130). -/
theorem State.ownPointerAt_iff (s : State) (o : Nat) :
    s.ownPointerAt o = true ↔
      (∃ id, (s.msgs.ring id).state ≠ .closed ∧ o = (s.msgs.ring id).desc.base.toNat + if id = .outbound then 2 else 0) ∨
        (∃ d, s.msgs.deposit = some d ∧ s.depositWritten .inboundDeposit = false ∧ o = d.plan.desc.base.toNat) ∨
        ∃ d, s.trips.deposit = some d ∧ s.depositWritten .tripDeposit = false ∧ o = d.plan.desc.base.toNat := by
  simp only [State.ownPointerAt, List.any_eq_true, mem_allRings, true_and, Bool.or_eq_true, State.depositPlan_any_iff,
    Ring.pointerOffsets_eq, Bool.and_eq_true, bne_iff_ne, beq_iff_eq]
  constructor
  · rintro ⟨id, h | ⟨-, hw, d, hd, ho⟩ | ⟨-, hw, d, hd, ho⟩⟩
    · exact .inl ⟨id, h⟩
    · exact .inr (.inl ⟨d, hd, hw, ho⟩)
    · exact .inr (.inr ⟨d, hd, hw, ho⟩)
  · rintro (⟨id, h⟩ | ⟨d, hd, hw, ho⟩ | ⟨d, hd, hw, ho⟩)
    · exact ⟨id, .inl h⟩
    · exact ⟨.inbound, .inr (.inl ⟨rfl, hw, d, hd, ho⟩)⟩
    · exact ⟨.triplog, .inr (.inr ⟨rfl, hw, d, hd, ho⟩)⟩

/-! ## The statement -/

/-- A write that covers a GUARDED lane is accepted as a guard hit: no lane of the word is WATCHED (R189). -/
theorem State.acceptWrite_guarded {s : State} {a : BitVec 19} {l : Lanes} (d : Word) (p : MemoryPath)
    (hg : laneAny (s.lanesOf .guarded a l) = true) (ht : ∀ hi, s.laneTreatment a hi = .guarded) :
    s.acceptWrite a l d p = State.guardHit { s with path := p } := by
  have hw : laneAny (s.lanesOf .watched a l) = false :=
    State.lanesOf_none (fun _ => by rw [ht]; simp) (fun _ => by rw [ht]; simp)
  unfold State.acceptWrite
  cases s.fieldOf a <;> simp [hg, hw]

theorem State.postedLanes_eq (s : State) (a : BitVec 19) (l : Lanes) :
    s.postedLanes a l =
      ⟨l.lo && decide (s.laneTreatment a false ≠ .guarded), l.hi && decide (s.laneTreatment a true ≠ .guarded)⟩ := by
  cases h : s.laneTreatment a false <;> cases h' : s.laneTreatment a true <;> simp [State.postedLanes, h, h']

theorem State.guardHits_of_path (s : State) (p : MemoryPath) : s.guardHits (State.guardHit { s with path := p }) :=
  (State.guardHit_drops { s with path := p }).1

/-- A write over a GUARDED lane, with room in the post buffer (R189). -/
theorem State.processorWrite_overGuarded {s : State} {a : BitVec 19} {l : Lanes} (d : Word) (hr : s.running = true)
    (hd : s.path.resetDrain = false) (hh : s.path.held = []) (hroom : s.path.buffer.length < 4)
    (hg : (l.lo = true ∧ s.laneTreatment a false = .guarded) ∨ (l.hi = true ∧ s.laneTreatment a true = .guarded)) :
    ∃ t, exec (.processorWrite a l d) s = .next t ∧ s.guardHits t ∧
      (laneAny (s.postedLanes a l) = true → s.path.post a (s.postedLanes a l) d = some t.path) ∧
      (laneAny (s.postedLanes a l) = false → t.path = s.path) := by
  have ht : ∀ hi, s.laneTreatment a hi = .guarded := fun hi => by
    obtain ⟨-, h⟩ | ⟨-, h⟩ := hg
    · exact (State.laneTreatment_guarded_lanes s a hi false).2 h
    · exact (State.laneTreatment_guarded_lanes s a hi true).2 h
  have hany : laneAny (s.lanesOf .guarded a l) = true := by
    obtain ⟨h, -⟩ | ⟨h, -⟩ := hg <;> simp [laneAny, State.lanesOf, ht, h]
  cases hp : laneAny (s.postedLanes a l) with
  | false =>
    refine ⟨_, exec_processorWrite_free hr hd hh (State.processorWrite?_none d hp), ?_⟩
    rw [State.acceptWrite_guarded d _ hany ht]
    exact ⟨State.guardHits_of_path s s.path, by simp, fun _ => by simp [State.guardHit]⟩
  | true =>
    obtain ⟨b, hb⟩ := s.path.post_room a (s.postedLanes a l) d hroom
    refine ⟨_, exec_processorWrite_free hr hd hh (State.processorWrite?_posts hp hb), ?_⟩
    rw [State.acceptWrite_guarded d _ hany ht]
    exact ⟨State.guardHits_of_path s _, fun _ => hb.trans (by simp [State.guardHit]), by simp⟩

/-- Settles O24: the treatment of a word decides what its write does, and the GUARDED words are told field by field. -/
theorem guardedWriteIsDropped : Obligations.GuardedWriteIsDropped := by
  refine ⟨?_, ?_, ?_, ?_, ?_, ?_⟩
  · intro s a l d hr hd hh hl hlo hhi
    exact ⟨_, State.processorWrite_guarded d hr hd hh hl (Bool.rec hlo hhi), State.guardHit_drops s⟩
  · intro s a l d hr hd hh hroom hg others
    have h := State.processorWrite_overGuarded d hr hd hh hroom hg
    rw [State.postedLanes_eq] at h
    exact h
  · exact fun s a => State.laneTreatment_guarded_lanes s a false true
  · intro s o hi hs he ho
    have hready : s.power.startUp ≠ .ready := by obtain h | h := hs <;> simp [h]
    have hrecord : s.recordGuarded = true := by obtain h | h := hs <;> simp [State.recordGuarded, h]
    rw [State.laneTreatment_pageAddress he ho, State.treatment_guarded_unready hready, fieldAt_record_iff, hrecord]
    simp
  · intro s a hi hs
    unfold State.laneTreatment
    split
    · simp [State.treatment_guarded_unready (s := s) (by simp [hs]), State.recordGuarded, hs]
    · simp
  · intro s o hi hs he ho t completing base descriptor
    have ht : t = s.readyTreatment (fieldAt o) hi := by rw [← State.treatment_ready hs, ← State.laneTreatment_pageAddress he ho]
    have hdescriptor : ∀ id, descriptor id ↔ ∃ p, o = descriptorOffset id p := fun id =>
      ⟨fun h => h.elim (⟨.base, ·⟩) (⟨.size, ·⟩), fun ⟨p, h⟩ => by cases p <;> simp [descriptor, h, descriptorOffset]⟩
    constructor
    · rw [ht, State.readyTreatment_guarded_iff, fieldAt_record_iff, fieldAt_driverId_iff, fieldAt_offer_iff, State.driverWatched_eq_false]
      have hrecord : s.recordGuarded = true ↔ s.emerg.state ≠ .clear ∨ s.emerg.guardHeld = true := by simp [State.recordGuarded, hs]
      have hring : (∃ r p, fieldAt o = .ringDescriptor r p ∧ (s.msgs.ring r).state ≠ .closed) ↔
          ∃ id, (s.msgs.ring id).state ≠ .closed ∧ descriptor id := by
        simp only [fieldAt_descriptor_iff, hdescriptor]
        exact exists_congr fun r => ⟨fun ⟨p, h, hc⟩ => ⟨hc, p, h⟩, fun ⟨hc, p, h⟩ => ⟨p, h, hc⟩⟩
      have hspace : (∃ k, fieldAt o = .ringSpace k ∧ s.ownPointerAt k = true) ↔ 0xA00 ≤ o ∧ s.ownPointerAt o = true := by
        simp only [fieldAt_ringSpace_iff]
        exact ⟨fun ⟨k, ⟨h, hk⟩, hp⟩ => ⟨h, hk ▸ hp⟩, fun ⟨h, hp⟩ => ⟨o, ⟨h, rfl⟩, hp⟩⟩
      rw [hrecord, hring, hspace, State.ownPointerAt_iff, State.depositWritten_eq_false, State.depositWritten_eq_false, and_assoc]
    · intro hg hf
      rw [ht] at hg ⊢
      refine State.readyTreatment_watched hg ?_
      obtain h | ⟨h, h'⟩ | ⟨id, h⟩ | ⟨h, h'⟩ := hf
      · exact .inl ((fieldAt_driverId_iff o).2 h)
      · obtain ⟨n, hn⟩ := fieldAt_offer h h'
        exact .inr (.inl ⟨n, _, hn⟩)
      · obtain ⟨p, hp⟩ := (hdescriptor id).1 h
        exact .inr (.inr (.inl ⟨id, p, (fieldAt_descriptor_iff o id p).2 hp⟩))
      · exact .inr (.inr (.inr ⟨o, fieldAt_ringSpace h, (State.pointerRing_isSome_iff s o).2 h'⟩))

end Sys2Proof.Machine
end

section
/-! PROOFS. Cycles that wait with ready held, and the answer of a read (R188, R192 to R194, R197 to R201). -/

namespace Sys2Proof.Machine

/-! ## Cycles that wait -/

/-- A write to another word than that of the newest entry does not merge. -/
theorem mergeNewest_other {dr : Bool} {a : BitVec 19} (lo hi : Option Byte) :
    ∀ {xs : List PostEntry}, (∀ e, xs.getLast? = some e → e.address ≠ a) → mergeNewest dr a lo hi xs = none
  | [], _ => rfl
  | [x], h => if_neg fun hx => h x rfl hx.1
  | x :: y :: rest, h => by
    have hrest := mergeNewest_other (dr := false) lo hi (xs := y :: rest) (a := a) (fun e he => h e (by simpa using he))
    simp [mergeNewest, hrest]

/-- A write waits for room in a full buffer (R188). -/
theorem MemoryPath.post_waits {p : MemoryPath} {a : BitVec 19} (l : Lanes) (d : Word) (hfull : 4 ≤ p.buffer.length)
    (h : ∀ e, p.buffer.getLast? = some e → e.address ≠ a) : p.post a l d = none := by
  simp [MemoryPath.post, mergeNewest_other _ _ h, hfull]

/-- A cycle whose attempt waits is held (R188, R194). -/
theorem State.processorCycle_waits {c : BusCycle} {s : State} {h : HeldCycle} (hr : s.running = true) (hd : s.path.resetDrain = false)
    (hh : s.path.held = []) (ha : s.attempt ⟨c, false⟩ = .waits h) :
    s.processorCycle c = { s with path := { s.path with held := [h] } } := by
  rw [State.processorCycle_free c hr hd hh, ha]

/-- A cycle whose attempt is done. -/
theorem State.processorCycle_done {c : BusCycle} {s t : State} (hr : s.running = true) (hd : s.path.resetDrain = false)
    (hh : s.path.held = []) (ha : s.attempt ⟨c, false⟩ = .done t) : s.processorCycle c = t := by
  rw [State.processorCycle_free c hr hd hh, ha]

theorem MemoryPath.portIdle_iff (p : MemoryPath) : p.portIdle = true ↔ p.drain = .idle ∧ p.internal = false := by
  simp [MemoryPath.portIdle]

theorem MemoryPath.portForRead_iff (p : MemoryPath) :
    p.portForRead = true ↔ (p.drain = .idle ∧ p.internal = false) ∧ p.buffer.length < 4 ∧ p.internalTurn = false := by
  simp [MemoryPath.portForRead, MemoryPath.portIdle_iff, and_assoc]

/-- Settles O25: the attempt of each cycle waits. -/
theorem cyclesWaitWithReadyHeld : Obligations.CyclesWaitWithReadyHeld := by
  refine ⟨?_, ?_, ?_, ?_⟩
  · intro s a l d ⟨hr, hd, hh⟩ hfull hother hl
    refine congrArg Host.Outcome.next (State.processorCycle_waits hr hd hh ?_)
    simp [State.attempt, State.processorWrite?, hl, MemoryPath.post_waits _ d hfull hother]
  · intro s a l ⟨hr, hd, hh⟩ hs
    refine congrArg Host.Outcome.next (State.processorCycle_waits hr hd hh ?_)
    simp [State.attempt, hs]
  · intro s a l ⟨hr, hd, hh⟩ hs hm hp
    refine congrArg Host.Outcome.next (State.processorCycle_waits hr hd hh ?_)
    have hport : s.path.portForRead = false := by
      rw [Bool.eq_false_iff, ne_eq, MemoryPath.portForRead_iff]
      rintro ⟨⟨hdrain, hinternal⟩, hroom, hturn⟩
      obtain h | h | h | h := hp
      · exact h hdrain
      · simp [h] at hinternal
      · exact absurd hroom (Nat.not_lt.2 h)
      · simp [h] at hturn
    simp [State.attempt, hs, hm, hport]
  · exact fun s a l d h => ⟨exec_processorWrite_held a l d h, exec_processorRead_held a l h⟩

/-! ## The port after a read -/

/-- The port after a read: one that needed no memory cycle leaves it. -/
def State.pathAfterRead (a : BitVec 19) (l : Lanes) (s : State) : MemoryPath :=
  if s.needsMemory a l then s.path.processorGrant.giveTurn else s.path

theorem MemoryPath.processorGrant_turn (p : MemoryPath) :
    p.processorGrant.internalTurn = (p.internalReady && decide (15 ≤ p.fairness)) := by
  have hr : p.processorGrant.internalReady = p.internalReady := rfl
  have hf : p.processorGrant.fairness = if p.internalReady then p.fairness + 1 else 0 := rfl
  rw [MemoryPath.internalTurn, hr, hf]
  cases p.internalReady <;> simp

/-- A grant to a read that kept no internal cycle waiting (R198). -/
theorem MemoryPath.afterGrant_unready {p : MemoryPath} (h : p.internalReady = false) :
    p.processorGrant.giveTurn = { p with fairness := 0 } := by
  have ht : p.processorGrant.internalTurn = false := by simp [MemoryPath.processorGrant_turn, h]
  rw [MemoryPath.giveTurn, ht]
  simp [MemoryPath.processorGrant, h]

/-- A grant to a read that kept an internal cycle waiting (R198). -/
theorem MemoryPath.afterGrant_few {p : MemoryPath} (h : p.internalReady = true) (hf : p.fairness < 15) :
    p.processorGrant.giveTurn = { p with fairness := p.fairness + 1 } := by
  have ht : p.processorGrant.internalTurn = false := by simp [MemoryPath.processorGrant_turn, hf]
  rw [MemoryPath.giveTurn, ht]
  simp [MemoryPath.processorGrant, h]

/-- The sixteenth grant in a row that kept an internal cycle waiting gives that cycle the port (R198). -/
theorem MemoryPath.afterGrant_sixteenth {p : MemoryPath} (h : p.internalReady = true) (hi : p.portIdle = true) (hf : 15 ≤ p.fairness) :
    p.processorGrant.giveTurn = { p with internal := true, fairness := 0 } := by
  have ht : p.processorGrant.internalTurn = true := by simp [MemoryPath.processorGrant_turn, h, hf]
  have hr : p.processorGrant.internalReady = true := h
  have hidle : p.processorGrant.portIdle = true := hi
  rw [MemoryPath.giveTurn, if_pos ht, MemoryPath.arbitrate, hr, hidle, ht]
  simp [MemoryPath.processorGrant]

/-- Whatever a read makes of the port, it leaves the buffer and the operations. -/
theorem State.pathAfterRead_fields (a : BitVec 19) (l : Lanes) (s : State) :
    s.pathAfterRead a l = { s.path with fairness := (s.pathAfterRead a l).fairness, internal := (s.pathAfterRead a l).internal } := by
  unfold State.pathAfterRead MemoryPath.giveTurn MemoryPath.arbitrate MemoryPath.processorGrant
  (repeat' split) <;> rfl

theorem State.pathAfterRead_noMemory {a : BitVec 19} {l : Lanes} {s : State} (h : s.needsMemory a l = false) :
    s.pathAfterRead a l = s.path := by
  simp [State.pathAfterRead, h]

theorem State.pathAfterRead_memory {a : BitVec 19} {l : Lanes} {s : State} (h : s.needsMemory a l = true) :
    s.pathAfterRead a l = s.path.processorGrant.giveTurn := by
  simp [State.pathAfterRead, h]

/-! ## The answer -/

/-- The answer of a read (R192, R193). -/
def State.answerOf (a : BitVec 19) (l : Lanes) (s : State) : Answer :=
  ⟨a, if l.lo then some (s.readLane a false) else none, if l.hi then some (s.readLane a true) else none⟩

theorem State.answerRead_path (a : BitVec 19) (l : Lanes) (s : State) :
    (s.answerRead a l).path = { s.pathAfterRead a l with answer := some (s.answerOf a l) } ∧ (s.answerRead a l).mem = s.mem := by
  unfold State.answerRead
  dsimp only
  split
  · split
    · exact State.readEffect_path _ _
    · exact ⟨rfl, rfl⟩
  · exact ⟨rfl, rfl⟩

/-- A read of no SHADOWED lane changes nothing but the port (R192). -/
theorem State.answerRead_unshadowed {a : BitVec 19} {l : Lanes} {s : State} (h : laneAny (s.lanesOf .shadowed a l) = false) :
    s.answerRead a l = { s with path := { s.pathAfterRead a l with answer := some (s.answerOf a l) } } := by
  unfold State.answerRead
  dsimp only
  split
  · rw [if_neg (by simp [h])]
    rfl
  · rfl

theorem laneAddress_eq (a : BitVec 19) (hi : Bool) : laneAddress a hi = 2 * a.toNat + hi.toNat := by
  cases hi <;> rfl

/-- A lane that is not SHADOWED is answered with its newest posted byte, or else from memory (R192). -/
theorem State.readLane_unshadowed {a : BitVec 19} {hi : Bool} {s : State} (h : s.laneTreatment a hi ≠ .shadowed) :
    s.readLane a hi = (posted a hi s.path.buffer).getD (Memory.read s.mem (2 * a.toNat + hi.toNat)) := by
  unfold State.readLane
  split
  · rw [if_neg (by simpa using h), laneAddress_eq]
  · rw [laneAddress_eq]

/-- A SHADOWED lane is answered by its owner (R193). -/
theorem State.readLane_shadowed {a : BitVec 19} {hi : Bool} {s : State} {o : Nat} (ho : cabOffset s.path.asel a = some o)
    (h : s.treatment (fieldAt o) hi = .shadowed) :
    s.readLane a hi = if hi then Word.upper (s.shadowWord (fieldAt o)) else Word.lower (s.shadowWord (fieldAt o)) := by
  have hf : s.fieldOf a = some (fieldAt o) := by simp [State.fieldOf, ho]
  have ht : s.laneTreatment a hi = .shadowed := by simpa [State.laneTreatment, ho] using h
  simp [State.readLane, hf, ht]

/-! ## The start-up field -/

theorem Word.lower_ofBytes (upper lower : Byte) : Word.lower (Word.ofBytes upper lower) = lower := by
  simp only [Word.lower, Word.ofBytes]
  exact BitVec.setWidth_append_eq_right

/-- The field is the start-up field. -/
def Field.isStartUp : Field → Bool
  | .startUp _ => true
  | _ => false

theorem controlField_isStartUp : ∀ o : Fin 0x100, (controlField o).isStartUp = decide (o.val < 4) := by
  decide +kernel

theorem fieldAt_isStartUp (o : Nat) : (fieldAt o).isStartUp = decide (o < 4) := by
  by_cases h : o < 0x100
  · rw [fieldAt_control h]
    exact controlField_isStartUp ⟨o, h⟩
  · have hn : ¬o < 4 := by omega
    simp only [fieldAt, if_neg h, hn, decide_false]
    (repeat' split) <;> rfl

/-- Before READY and in CONFIG_FAULT only the start-up field is SHADOWED (R199, R206). -/
theorem State.treatment_shadowed_unready {s : State} (h : s.power.startUp ≠ .ready) (f : Field) (hi : Bool) :
    s.treatment f hi = .shadowed ↔ f.isStartUp = true := by
  unfold State.treatment
  rw [if_neg (by simpa using h)]
  cases f <;> simp [Field.isStartUp]
  split <;> simp

theorem State.laneTreatment_shadowed_unready {s : State} (h : s.power.startUp ≠ .ready) (a : BitVec 19) (hi : Bool) :
    s.laneTreatment a hi = .shadowed ↔ ∃ o, cabOffset s.path.asel a = some o ∧ o < 4 := by
  unfold State.laneTreatment
  cases ho : cabOffset s.path.asel a <;> simp [State.treatment_shadowed_unready h, fieldAt_isStartUp]

/-- The start-up state is answered in every one of the start-up states (R182, R206). -/
theorem State.readLane_startUp {a : BitVec 19} {s : State} (ho : cabOffset s.path.asel a = some 0) :
    s.readLane a false = s.power.startUp.code := by
  have ht : s.treatment (fieldAt 0) false = .shadowed := by
    by_cases h : s.power.startUp = .ready
    · rw [State.treatment_ready h]
      rfl
    · exact (State.treatment_shadowed_unready h _ _).2 rfl
  rw [State.readLane_shadowed ho ht]
  have hw : s.shadowWord (fieldAt 0) = Word.ofBytes s.power.faultReason.code s.power.startUp.code := rfl
  rw [hw]
  simp [Word.lower_ofBytes]

/-! ## The statement -/

/-- A read that is not stalled and finds the port free, or needs no memory cycle, is answered (R192). -/
theorem exec_processorRead_answered {s : State} {a : BitVec 19} {l : Lanes} (hr : s.running = true) (hd : s.path.resetDrain = false)
    (hh : s.path.held = []) (hs : s.stalled a = false) (hp : s.needsMemory a l = true → s.path.portForRead = true) :
    exec (.processorRead a l) s = .next (s.answerRead a l) := by
  refine congrArg Host.Outcome.next (State.processorCycle_done hr hd hh ?_)
  cases hm : s.needsMemory a l with
  | false => simp [State.attempt, hs, hm]
  | true => simp [State.attempt, hs, hm, hp hm]

/-- Settles O26: the answer lane by lane, and the port as the grant leaves it. -/
theorem readIsAnsweredLaneByLane : Obligations.ReadIsAnsweredLaneByLane := by
  intro s a l hr hd hh hs hp waits
  obtain ⟨hpath, hmem⟩ := State.answerRead_path a l s
  have hfields := State.pathAfterRead_fields a l s
  have hfair : (s.answerRead a l).path.fairness = (s.pathAfterRead a l).fairness := by rw [hpath]
  have hinternal : (s.answerRead a l).path.internal = (s.pathAfterRead a l).internal := by rw [hpath]
  have hidle : s.needsMemory a l = true → s.path.drain = .idle ∧ s.path.internal = false := fun h =>
    ((MemoryPath.portForRead_iff _).1 (hp h)).1
  refine ⟨_, s.answerOf a l, exec_processorRead_answered hr hd hh hs hp, by rw [hpath], rfl, hmem, ?_, ?_, ?_, ?_, ?_, ?_, ?_, ?_, ?_, ?_,
    ?_, ?_, ?_, ?_, ?_, ?_⟩
  · rw [hpath, hfields]
  · rw [hpath, hfields]
  · rw [hpath, hfields]
  · rw [hpath, hfields, ← hh]
  · exact fun h => if_neg (by simp [h])
  · exact fun h => if_neg (by simp [h])
  · exact fun h ht => (if_pos h).trans (congrArg some (State.readLane_unshadowed ht))
  · exact fun h ht => (if_pos h).trans (congrArg some (State.readLane_unshadowed ht))
  · exact fun o ho => ⟨fun h ht => (if_pos h).trans (congrArg some (State.readLane_shadowed ho ht)),
      fun h ht => (if_pos h).trans (congrArg some (State.readLane_shadowed ho ht))⟩
  · exact fun h k => State.laneTreatment_shadowed_unready h a k
  · intro ho hl
    have hans : (s.answerOf a l).lo = some s.power.startUp.code := (if_pos hl).trans (congrArg some (State.readLane_startUp ho))
    rw [hans]
    cases s.power.startUp <;> simp [StartUp.code]
  · intro h
    rw [hfair, hinternal, State.pathAfterRead_noMemory h]
    exact ⟨rfl, rfl⟩
  · intro h hw
    rw [hfair, hinternal, State.pathAfterRead_memory h, MemoryPath.afterGrant_unready hw]
    exact ⟨rfl, (hidle h).2⟩
  · intro h hw hf
    rw [hfair, hinternal, State.pathAfterRead_memory h, MemoryPath.afterGrant_few hw hf]
    exact ⟨rfl, (hidle h).2⟩
  · intro h hw hf
    rw [hfair, hinternal, State.pathAfterRead_memory h, MemoryPath.afterGrant_sixteenth hw ((MemoryPath.portIdle_iff _).2 (hidle h)) hf]
    exact ⟨rfl, rfl⟩
  · intro h
    rw [hfair, hinternal, State.answerRead_unshadowed h]
    exact congrArg (fun p => { s with path := { p with answer := some (s.answerOf a l) } }) hfields

end Sys2Proof.Machine
end

section
/-! PROOFS. The drain of the oldest posted entry (R191, R194, R196 to R198). -/

namespace Sys2Proof.Machine

/-! ## The grant to the internal requester -/

/-- The arbiter touches the grant and the fairness count alone (R197, R198). -/
theorem MemoryPath.arbitrate_eq (p : MemoryPath) :
    p.arbitrate = { p with internal := p.arbitrate.internal, fairness := p.arbitrate.fairness } := by
  unfold MemoryPath.arbitrate
  split <;> rfl

/-- What the arbiter makes of a port that no internal cycle has (R197, R198). -/
theorem MemoryPath.arbitrate_some {p : MemoryPath} {u : UnderWay} (h : p.under = some u) (hi : p.internal = false) :
    p.arbitrate.internal = decide (u.mark = 0 ∧ u.cycles ≠ [] ∧ p.drain = .idle ∧ (p.buffer = [] ∨ 16 ≤ p.fairness)) ∧
      p.arbitrate.fairness =
        if u.mark = 0 ∧ u.cycles ≠ [] ∧ p.drain = .idle ∧ (p.buffer = [] ∨ 16 ≤ p.fairness) then 0 else p.fairness := by
  have hready : p.internalReady = true ↔ u.mark = 0 ∧ u.cycles ≠ [] := by simp [MemoryPath.internalReady, h]
  have hgives : (p.internalReady && p.portIdle && (p.buffer.isEmpty || p.internalTurn)) = true ↔
      u.mark = 0 ∧ u.cycles ≠ [] ∧ p.drain = .idle ∧ (p.buffer = [] ∨ 16 ≤ p.fairness) := by
    simp only [Bool.and_eq_true, Bool.or_eq_true, MemoryPath.internalTurn, hready, MemoryPath.portIdle_iff, hi, List.isEmpty_iff,
      decide_eq_true_eq, and_true]
    exact ⟨fun ⟨⟨⟨hm, hc⟩, hd⟩, h⟩ => ⟨hm, hc, hd, h.imp id (·.2)⟩, fun ⟨hm, hc, hd, h⟩ => ⟨⟨⟨hm, hc⟩, hd⟩, h.imp id (⟨⟨hm, hc⟩, ·⟩)⟩⟩
  unfold MemoryPath.arbitrate
  by_cases hg : u.mark = 0 ∧ u.cycles ≠ [] ∧ p.drain = .idle ∧ (p.buffer = [] ∨ 16 ≤ p.fairness)
  · rw [if_pos (hgives.2 hg), if_pos hg]
    exact ⟨(decide_eq_true hg).symm, rfl⟩
  · rw [if_neg (mt hgives.1 hg), if_neg hg]
    exact ⟨hi.trans (decide_eq_false hg).symm, rfl⟩

/-! ## The path after a drain -/

/-- The Memory Path when the oldest entry has drained (R191, R196). -/
theorem MemoryPath.drained_eq {p : MemoryPath} {e : PostEntry} {rest : List PostEntry} (h : p.buffer = e :: rest) :
    p.drained = { p with
      buffer := rest, drain := .idle, under := p.under.map (fun o => { o with mark := o.mark - 1 }),
      queue := p.queue.map (fun o => ⟨o.kind, o.mark - 1⟩) } := by
  simp [MemoryPath.drained, unmark, h]

/-- What the arbiter makes of the port when the oldest entry has drained (R197, R198). -/
theorem MemoryPath.drained_arbitrate_none {p : MemoryPath} (h : p.under = none) : p.drained.arbitrate = p.drained :=
  MemoryPath.arbitrate_none (by simp [MemoryPath.drained, h])

theorem MemoryPath.drained_arbitrate_some {p : MemoryPath} {u : UnderWay} {e : PostEntry} {rest : List PostEntry}
    (hb : p.buffer = e :: rest) (hi : p.internal = false) (h : p.under = some u) :
    p.drained.arbitrate.internal = decide (u.mark ≤ 1 ∧ u.cycles ≠ [] ∧ (rest = [] ∨ 16 ≤ p.fairness)) ∧
      p.drained.arbitrate.fairness = if u.mark ≤ 1 ∧ u.cycles ≠ [] ∧ (rest = [] ∨ 16 ≤ p.fairness) then 0 else p.fairness := by
  have h' : p.drained.under = some { u with mark := u.mark - 1 } := by simp [MemoryPath.drained, h]
  obtain ⟨h1, h2⟩ := MemoryPath.arbitrate_some h' hi
  rw [h1, h2]
  simp [MemoryPath.drained_eq hb, Nat.sub_eq_zero_iff_le]

/-! ## SHADOWED lanes -/

/-- A field is SHADOWED by its kind, and a word of the totals block while a shift is open or its snapshot is to come (R116, R117). -/
theorem State.treatment_shadowed_congr {s t : State} (hpower : t.power = s.power) (htotals : t.totalsShadowed = s.totalsShadowed)
    (f : Field) (hi : Bool) : t.treatment f hi = .shadowed ↔ s.treatment f hi = .shadowed := by
  by_cases h : s.power.startUp = .ready
  · rw [State.treatment_ready h, State.treatment_ready (hpower ▸ h)]
    cases f <;> simp only [State.readyTreatment, htotals] <;> (repeat' split) <;> simp
  · rw [State.treatment_shadowed_unready h, State.treatment_shadowed_unready (hpower ▸ h)]

theorem State.laneTreatment_shadowed_congr {s t : State} (hasel : t.path.asel = s.path.asel) (hpower : t.power = s.power)
    (htotals : t.totalsShadowed = s.totalsShadowed) (a : BitVec 19) (hi : Bool) :
    t.laneTreatment a hi = .shadowed ↔ s.laneTreatment a hi = .shadowed := by
  unfold State.laneTreatment
  rw [hasel]
  split
  · exact State.treatment_shadowed_congr hpower htotals _ hi
  · exact Iff.rfl

theorem MemoryPath.drained_busyWith (p : MemoryPath) (k : OpKind) : p.drained.busyWith k = p.busyWith k := by
  cases h : p.under <;>
    simp [MemoryPath.busyWith, MemoryPath.queued, MemoryPath.underWay, MemoryPath.drained, unmark, h, List.any_map, Function.comp_def]

/-! ## The held read that the drain makes room for -/

/-- A read that already waited for its memory cycle is answered when the port is free (R194, R197). -/
theorem State.service_passedRead {x : State} {a : BitVec 19} {l : Lanes} (hheld : x.path.held = [⟨.read a l, true⟩])
    (hr : x.path.inReset = false) (hd : x.path.resetDrain = false) (hport : x.path.portForRead = true) :
    x.service = State.arbitrate (State.answerRead a l { x with path := { x.path with held := [] } }) := by
  have hall : x.path.holdsAll = false := by simp [MemoryPath.holdsAll, hr, hd]
  have hp : MemoryPath.portForRead { x.path with held := [] } = true := hport
  have hall' : MemoryPath.holdsAll { x.path with held := [] } = false := hall
  simp [State.service, hheld, State.serviceList, hall', State.attempt, hp]

/-- Its answer (R192). -/
theorem State.service_passedRead_answer {s x : State} {a : BitVec 19} {l : Lanes} (hheld : x.path.held = [⟨.read a l, true⟩])
    (hr : x.path.inReset = false) (hd : x.path.resetDrain = false) (hport : x.path.portForRead = true)
    (hasel : x.path.asel = s.path.asel) (hpower : x.power = s.power) (htotals : x.totalsShadowed = s.totalsShadowed) :
    ∃ ans, x.service.path.held = [] ∧ x.service.path.answer = some ans ∧ ans.address = a ∧
      (l.lo = true → s.laneTreatment a false ≠ .shadowed →
        ans.lo = some ((posted a false x.path.buffer).getD (Memory.read x.mem (2 * a.toNat)))) ∧
      (l.hi = true → s.laneTreatment a true ≠ .shadowed →
        ans.hi = some ((posted a true x.path.buffer).getD (Memory.read x.mem (2 * a.toNat + 1)))) := by
  have hlane : ∀ hi, s.laneTreatment a hi ≠ .shadowed → State.laneTreatment a hi { x with path := { x.path with held := [] } } ≠ .shadowed :=
    fun hi h => mt (State.laneTreatment_shadowed_congr (s := s) (t := { x with path := { x.path with held := [] } }) hasel hpower htotals a hi).1 h
  rw [State.service_passedRead hheld hr hd hport]
  obtain ⟨hpath, -⟩ := State.answerRead_path a l { x with path := { x.path with held := [] } }
  have hfields := State.pathAfterRead_fields a l { x with path := { x.path with held := [] } }
  refine ⟨State.answerOf a l { x with path := { x.path with held := [] } }, ?_, ?_, rfl, ?_, ?_⟩
  · rw [State.arbitrate, hpath]
    simp only [MemoryPath.arbitrate_fields]
    rw [hfields]
  · rw [State.arbitrate, hpath]
    simp only [MemoryPath.arbitrate_fields]
  · exact fun h ht => (if_pos h).trans (congrArg some (State.readLane_unshadowed (hlane false ht)))
  · exact fun h ht => (if_pos h).trans (congrArg some (State.readLane_unshadowed (hlane true ht)))

/-! ## The statement -/

theorem State.drainDrops_iff (s : State) (e : PostEntry) :
    s.drainDrops e = true ↔ s.fieldOf e.address = some .emergencyRecord ∧ s.recordGuarded = true := by
  simp [State.drainDrops]

/-- The drain starts: the entry of the GUARDED emergency record is dropped, another is written (R191). -/
theorem State.startDrain_spec {s : State} {e : PostEntry} {rest : List PostEntry} (hb : s.path.buffer = e :: rest)
    (hg : (s.running && s.path.portIdle && !s.path.internalTurn) = true) :
    s.startDrain = { s with
      path := { s.path.processorGrant with drain := if s.drainDrops e = true then .dropping else .writing }
      mem := if s.drainDrops e = true then s.mem else Memory.writeLanes s.mem e.address e.lo e.hi } := by
  by_cases hd : s.drainDrops e = true
  · rw [State.startDrain_drops hb hg hd, if_pos hd, if_pos hd]
  · rw [State.startDrain_writes hb hg (by simpa using hd), if_neg hd, if_neg hd]

/-- The state right after a drain, with the held cycles still to be handled (R191). -/
def State.afterDrain (s : State) : State :=
  if s.path.drain = .dropping then State.guardHit { s with path := s.path.drained } else { s with path := s.path.drained }

theorem State.afterDrain_writing {s : State} (h : s.path.drain = .writing) : s.afterDrain = { s with path := s.path.drained } :=
  if_neg (by simp [h])

theorem State.afterDrain_dropping {s : State} (h : s.path.drain = .dropping) :
    s.afterDrain = State.guardHit { s with path := s.path.drained } := if_pos h

theorem exec_drainComplete {s : State} {e : PostEntry} {rest : List PostEntry} (hb : s.path.buffer = e :: rest) (hr : s.running = true)
    (hd : s.path.drain ≠ .idle) : exec .drainComplete s = .next s.afterDrain.service := by
  refine congrArg Host.Outcome.next ((if_pos hr).trans ?_)
  cases h : s.path.drain with
  | idle => exact absurd h hd
  | writing => rw [State.completeDrain_writes hb h, State.afterDrain_writing h]
  | dropping => rw [State.completeDrain_drops hb h, State.afterDrain_dropping h]

/-- A drain leaves the selected page, the start-up state and the totals block's treatment. -/
theorem State.afterDrain_fields (s : State) :
    s.afterDrain.path = s.path.drained ∧ s.afterDrain.power = s.power ∧ s.afterDrain.totalsShadowed = s.totalsShadowed ∧
      s.afterDrain.mem = s.mem := by
  have hbusy := MemoryPath.drained_busyWith s.path .totalsSnapshot
  unfold State.afterDrain
  split <;> simp [State.totalsShadowed, State.guardHit, hbusy]

/-- Settles O27: the grant to the drain, its end, and the read that waited for it. -/
theorem drainWritesTheOldestEntry : Obligations.DrainWritesTheOldestEntry := by
  unfold Obligations.DrainWritesTheOldestEntry
  intro grants
  have hgrants : ∀ {s t : State} {e : PostEntry} {rest : List PostEntry}, s.path.buffer = e :: rest →
      t.path = s.path.drained.arbitrate → grants s t rest := by
    intro s t e rest hb ht
    have hdrained := MemoryPath.drained_eq hb
    refine ⟨?_, ?_, ?_, ?_, fun hi hu => ?_, fun u hi hu => ?_⟩
    · simp [ht, hdrained]
    · simp [ht, hdrained]
    · simp [ht, hdrained]
    · simp [ht, hdrained]
    · rw [ht, MemoryPath.drained_arbitrate_none hu]
      exact ⟨hi, rfl⟩
    · intro gives
      rw [ht]
      obtain ⟨h1, h2⟩ := MemoryPath.drained_arbitrate_some hb hi hu
      exact ⟨by rw [h1], h2⟩
  refine ⟨?_, ?_, ?_, ?_⟩
  · intro s e rest hb hr hd hi ht hm
    have hgrant : (s.running && s.path.portIdle && !s.path.internalTurn) = true := by
      simp [hr, (MemoryPath.portIdle_iff _).2 ⟨hd, hi⟩, ht]
    have hdrops := s.drainDrops_iff e
    refine ⟨_, congrArg Host.Outcome.next (State.startDrain_spec hb hgrant), ?_⟩
    intro drops
    refine ⟨?_, fun h => if_pos (hdrops.2 h), fun h b => ?_⟩
    · simp only [hdrops]
      rfl
    · rw [show (if s.drainDrops e = true then s.mem else Memory.writeLanes s.mem e.address e.lo e.hi) = _ from if_neg (mt hdrops.1 h),
        Memory.read_writeLanes _ _ _ hm]
      rfl
  · intro s e rest hb hr hd hh
    have hheld : s.afterDrain.path.held = [] := by simp [State.afterDrain_fields, MemoryPath.drained, hh]
    refine ⟨_, exec_drainComplete hb hr (by simp [hd]), ?_⟩
    rw [State.service_none hheld]
    refine ⟨hgrants hb (congrArg MemoryPath.arbitrate (State.afterDrain_fields s).1), ?_⟩
    rw [State.afterDrain_writing hd]
  · intro s e rest hb hr hd hh
    have hheld : s.afterDrain.path.held = [] := by simp [State.afterDrain_fields, MemoryPath.drained, hh]
    refine ⟨_, exec_drainComplete hb hr (by simp [hd]), ?_⟩
    rw [State.service_none hheld]
    refine ⟨hgrants hb (congrArg MemoryPath.arbitrate (State.afterDrain_fields s).1), ?_⟩
    rw [State.afterDrain_dropping hd]
    exact (State.guardHit_drops { s with path := s.path.drained }).1
  · intro s e rest hb hr hd
    obtain ⟨hpath, hpower, htotals, -⟩ := State.afterDrain_fields s
    have hdrained := MemoryPath.drained_eq hb
    have hheld : s.afterDrain.path.held = s.path.held := by simp [hpath, hdrained]
    refine ⟨_, _, exec_drainComplete hb hr hd, State.service_serves hheld, fun h => ?_, fun h => ?_, ?_, ?_⟩
    · rw [State.afterDrain_writing h]
    · rw [State.afterDrain_dropping h]
      exact (State.guardHit_drops { s with path := s.path.drained }).1
    · rw [hpath, hdrained]
    · intro a l hread hdrain hi hf hlen
      have hrun : s.path.inReset = false := by simpa [State.running] using hr
      have hturn : s.path.drained.internalTurn = false := by simp [MemoryPath.internalTurn, hdrained, Nat.not_le.2 hf]
      have hport : s.afterDrain.path.portForRead = true := by
        rw [hpath, MemoryPath.portForRead_iff]
        exact ⟨⟨rfl, hi⟩, by simpa [hdrained] using hlen, hturn⟩
      have h := State.service_passedRead_answer (s := s) (x := s.afterDrain) (hheld.trans hread) (by simp [hpath, hdrained, hrun])
        (by simp [hpath, hdrained, hdrain]) hport (by simp [hpath, hdrained]) hpower htotals
      rw [show s.afterDrain.path.buffer = rest by simp [hpath, hdrained]] at h
      exact h

end Sys2Proof.Machine
end

section
/-! PROOFS. The images of the records that the part keeps in memory, and the beginning of an operation (R195, R214, R216, R219 to R222). -/

namespace Sys2Proof.Machine

/-! ## Words and bytes -/

theorem setWidth_shiftRight_append {n m : Nat} (x : BitVec n) (y : BitVec m) : ((x ++ y) >>> m).setWidth n = x := by
  ext i hi
  simp [BitVec.getLsbD_append, BitVec.getLsbD_eq_getElem hi]

theorem setWidth_append_halves {n m : Nat} (d : BitVec (n + m)) : (d >>> m).setWidth n ++ d.setWidth m = d := by
  ext i hi
  rw [BitVec.getElem_append]
  split
  · simp [BitVec.getLsbD_eq_getElem hi]
  · have hm : m + (i - m) = i := by omega
    simp [hm, BitVec.getLsbD_eq_getElem hi]

theorem Word.upper_ofBytes (upper lower : Byte) : Word.upper (Word.ofBytes upper lower) = upper :=
  setWidth_shiftRight_append upper lower

theorem Word.ofBytes_halves (w : Word) : Word.ofBytes (Word.upper w) (Word.lower w) = w :=
  setWidth_append_halves (n := 8) (m := 8) w

theorem DWord.ofWords_halves (d : DWord) : DWord.ofWords (DWord.upper d) (DWord.lower d) = d :=
  setWidth_append_halves (n := 16) (m := 16) d

/-- The byte at an offset of a sequence of words in memory (R214). -/
def byteAt (ws : List Word) (i : Nat) : Byte := if i % 2 = 0 then Word.lower (wordAt ws i) else Word.upper (wordAt ws i)

theorem toWords_getD : ∀ (bs : List Byte) (k : Nat), (toWords bs).getD k 0#16 = Word.ofBytes (bs.getD (2 * k + 1) 0#8) (bs.getD (2 * k) 0#8)
  | [], _ => by simp [toWords]; rfl
  | [_], 0 => rfl
  | [_], _ + 1 => by simp [toWords]; rfl
  | _ :: _ :: _, 0 => rfl
  | b :: c :: rest, k + 1 => toWords_getD rest k

theorem length_toWords : ∀ bs : List Byte, (toWords bs).length = (bs.length + 1) / 2
  | [] => rfl
  | [_] => by simp [toWords]
  | _ :: _ :: rest => by
    simp only [toWords, List.length_cons, length_toWords rest]
    omega

/-- A 16-bit value is one word of memory (R214). -/
theorem toWords_le16 (w : Word) (rest : List Byte) : toWords (le16 w ++ rest) = w :: toWords rest :=
  congrArg (· :: toWords rest) (Word.ofBytes_halves w)

/-- A 32-bit value is two words of memory, the lower half first (R214). -/
theorem toWords_le32 (d : DWord) (rest : List Byte) : toWords (le32 d ++ rest) = DWord.lower d :: DWord.upper d :: toWords rest := by
  rw [le32, List.append_assoc, toWords_le16, toWords_le16]

theorem byteAt_toWords (bs : List Byte) (i : Nat) : byteAt (toWords bs) i = bs.getD i 0#8 := by
  unfold byteAt wordAt
  rw [toWords_getD]
  split
  · rw [Word.lower_ofBytes]
    congr 1
    omega
  · rw [Word.upper_ofBytes]
    congr 1
    omega

/-- Bytes of a sequence of words that more words follow. -/
theorem byteAt_append {ws us : List Word} {i : Nat} (h : i / 2 < ws.length) : byteAt (ws ++ us) i = byteAt ws i := by
  unfold byteAt wordAt
  rw [getD_append_of_lt h]

theorem length_padTo (n : Nat) (l : List Byte) : (padTo n l).length = n := by
  simp [padTo]
  omega

theorem padTo_getD {n i : Nat} (l : List Byte) (h : i < n) : (padTo n l).getD i 0#8 = l.getD i 0#8 := by
  simp only [padTo, List.getD_eq_getElem?_getD, List.getElem?_take, if_pos h, List.getElem?_append]
  split
  · rfl
  · next hl =>
    rw [List.getElem?_replicate, List.getElem?_eq_none (Nat.not_lt.1 hl)]
    split <;> rfl

theorem padTo_eq {n : Nat} {l : List Byte} (h : l.length ≤ n) : padTo n l = l ++ List.replicate (n - l.length) 0#8 :=
  List.take_of_length_le (by simp; omega)

/-- A record is followed by 0 bytes. -/
theorem padTo_getD_pad {n i : Nat} {l : List Byte} (hl : l.length ≤ i) (h : i < n) : (padTo n l).getD i 0#8 = 0#8 := by
  rw [padTo_getD l h, getD_of_length_le hl]

theorem length_le16 (w : Word) : (le16 w).length = 2 := rfl

theorem length_le32 (d : DWord) : (le32 d).length = 4 := rfl

/-! ## The offer entry (R220) -/

theorem OfferEntry.length_image (e : OfferEntry) : e.image.length = 64 := by
  simp [OfferEntry.image, OfferEntry.bytes, length_toWords, length_padTo]

/-- The words before the text. -/
theorem OfferEntry.image_words (e : OfferEntry) :
    ∃ text, e.image =
      Word.ofBytes e.seq e.state.code :: Word.ofBytes e.zone e.dest :: DWord.lower e.job :: DWord.upper e.job ::
        Word.ofBytes (flagBit 0 e.fare.isSome ||| flagBit 1 e.forced ||| flagBit 2 e.late) e.mask ::
        Word.ofBytes 0#8 (BitVec.ofNat 8 e.text.length) :: DWord.lower e.received :: DWord.upper e.received ::
        DWord.lower e.expires :: DWord.upper e.expires :: DWord.lower (e.fare.getD 0#32) :: DWord.upper (e.fare.getD 0#32) ::
        e.response :: Word.ofBytes e.result.token e.result.code :: Word.ofBytes 0#8 e.result.outcome.code :: 0#16 :: text := by
  rw [OfferEntry.image, OfferEntry.bytes, padTo_eq (by simp [le16, le32]; omega)]
  simp only [List.append_assoc, List.cons_append, List.nil_append, toWords, toWords_le16, toWords_le32]
  exact ⟨_, rfl⟩

theorem OfferEntry.flags_code (e : OfferEntry) : (flagBit 0 e.fare.isSome ||| flagBit 1 e.forced ||| flagBit 2 e.late : Byte) =
    BitVec.ofNat 8 (e.fare.isSome.toNat + 2 * e.forced.toNat + 4 * e.late.toNat) := by
  cases e.fare.isSome <;> cases e.forced <;> cases e.late <;> rfl

/-- The text of an entry's image. -/
theorem OfferEntry.image_text {e : OfferEntry} (h : e.text.length ≤ 64) {i : Nat} (hi : i < 64) :
    byteAt e.image (0x20 + i) = e.text.getD i 0#8 := by
  rw [OfferEntry.image, byteAt_toWords, OfferEntry.bytes, padTo_getD _ (by omega), List.take_of_length_le h,
    getD_append_of_le (by simp [le16, le32])]
  simp [le16, le32]

/-! ## The emergency record (R221) -/

/-- The bytes of the emergency record before its check word. -/
def emergencyBytes (e : EmergencyUnit) (zone : Byte) (position : Position) : List Byte :=
  le16 emergencyMarker ++ le16 (e.state.recorded.code.setWidth 16) ++ le16 e.number ++ le16 (e.source.code.setWidth 16) ++
    le32 e.raisedAt ++ le32 e.ackedAt ++ le32 e.cancelledAt ++ le16 e.sends ++
    [zone, flagBit 0 position.isSome] ++ le32 (position.getD (0#32, 0#32)).1 ++ le32 (position.getD (0#32, 0#32)).2

theorem emergencyImage_eq (e : EmergencyUnit) (zone : Byte) (position : Position) :
    emergencyImage e zone position =
      toWords (padTo 126 (emergencyBytes e zone position)) ++ [wordSum (toWords (padTo 126 (emergencyBytes e zone position)))] := rfl

theorem length_emergencyBody (e : EmergencyUnit) (zone : Byte) (position : Position) :
    (toWords (padTo 126 (emergencyBytes e zone position))).length = 63 := by
  rw [length_toWords, length_padTo]

theorem length_emergencyBytes (e : EmergencyUnit) (zone : Byte) (position : Position) : (emergencyBytes e zone position).length = 32 := by
  simp [emergencyBytes, le16, le32]

/-- The words of the fields. -/
theorem emergencyImage_words (e : EmergencyUnit) (zone : Byte) (position : Position) :
    ∃ rest, emergencyImage e zone position =
      emergencyMarker :: e.state.recorded.code.setWidth 16 :: e.number :: e.source.code.setWidth 16 :: DWord.lower e.raisedAt ::
        DWord.upper e.raisedAt :: DWord.lower e.ackedAt :: DWord.upper e.ackedAt :: DWord.lower e.cancelledAt ::
        DWord.upper e.cancelledAt :: e.sends :: Word.ofBytes (flagBit 0 position.isSome) zone ::
        DWord.lower (position.getD (0#32, 0#32)).1 :: DWord.upper (position.getD (0#32, 0#32)).1 ::
        DWord.lower (position.getD (0#32, 0#32)).2 :: DWord.upper (position.getD (0#32, 0#32)).2 :: rest := by
  rw [emergencyImage_eq, padTo_eq (by rw [length_emergencyBytes]; omega), emergencyBytes]
  simp only [List.append_assoc, List.cons_append, List.nil_append, toWords, toWords_le16, toWords_le32]
  exact ⟨_, rfl⟩

theorem length_emergencyImage (e : EmergencyUnit) (zone : Byte) (position : Position) : (emergencyImage e zone position).length = 64 := by
  rw [emergencyImage_eq, List.length_append, length_emergencyBody]
  rfl

/-- The words between the fields and the check word are 0. -/
theorem emergencyImage_pad (e : EmergencyUnit) (zone : Byte) (position : Position) {i : Nat} (h : 0x20 ≤ i) (h' : i < 0x7E) :
    byteAt (emergencyImage e zone position) i = 0#8 := by
  rw [emergencyImage_eq, byteAt_append (by rw [length_emergencyBody]; omega), byteAt_toWords,
    padTo_getD_pad (by rw [length_emergencyBytes]; exact h) h']

/-- The check word is the sum of the words before it (R216). -/
theorem emergencyImage_check (e : EmergencyUnit) (zone : Byte) (position : Position) :
    wordAt (emergencyImage e zone position) 0x7E = wordSum ((emergencyImage e zone position).take 63) := by
  rw [emergencyImage_eq]
  generalize hb : toWords (padTo 126 (emergencyBytes e zone position)) = body
  have hl : body.length = 63 := hb ▸ length_emergencyBody e zone position
  simp [wordAt, ← hl]

/-! ## The totals block (R222) -/

theorem Totals.length_bytes (a : Totals) (closeTime : DWord) : (a.bytes closeTime).length = 68 := by
  unfold Totals.bytes
  simp only [List.length_append, length_le16, length_le32, List.length_cons, List.length_nil]

theorem Totals.length_image (a : Totals) (closeTime : DWord) : (a.image closeTime).length = 64 := by
  simp [Totals.image, length_toWords, length_padTo]

/-- The words of the fields. -/
theorem Totals.image_words (a : Totals) (closeTime : DWord) :
    ∃ rest, a.image closeTime =
      a.shiftNumber :: a.driverId :: Word.ofBytes 0#8 (flagBit 0 a.meterOpened) :: 0#16 :: DWord.lower a.openTime :: DWord.upper a.openTime ::
        a.tripsClosed :: a.tripsWithJob :: a.tripsWithEmergency :: a.mismatches :: a.meterFaults :: a.reportsAcknowledged ::
        a.reportsInList :: a.reportsAbandoned :: a.tripsNotLogged :: 0#16 :: DWord.lower a.fareTotal :: DWord.upper a.fareTotal ::
        DWord.lower a.groupTotals.g0 :: DWord.upper a.groupTotals.g0 :: DWord.lower a.groupTotals.g1 :: DWord.upper a.groupTotals.g1 ::
        DWord.lower a.groupTotals.g2 :: DWord.upper a.groupTotals.g2 :: DWord.lower a.groupTotals.g3 :: DWord.upper a.groupTotals.g3 ::
        DWord.lower a.ungroupedTotal :: DWord.upper a.ungroupedTotal :: DWord.lower a.extrasTotal :: DWord.upper a.extrasTotal ::
        DWord.lower a.hiredSeconds :: DWord.upper a.hiredSeconds :: DWord.lower closeTime :: DWord.upper closeTime :: rest := by
  rw [Totals.image, padTo_eq (by rw [Totals.length_bytes]; omega)]
  unfold Totals.bytes
  simp only [List.append_assoc, List.cons_append, List.nil_append, toWords, toWords_le16, toWords_le32]
  exact ⟨_, rfl⟩

theorem Totals.image_pad (a : Totals) (closeTime : DWord) {i : Nat} (h : 0x44 ≤ i) (h' : i < 0x80) :
    byteAt (a.image closeTime) i = 0#8 := by
  rw [Totals.image, byteAt_toWords, padTo_getD_pad (by rw [Totals.length_bytes]; exact h) h']

/-! ## Cycles at rising offsets -/

theorem writeCycles_getElem? : ∀ (o : Nat) (ws : List Word) (k : Nat), (writeCycles o ws)[k]? = (ws[k]?).map (.write (o + 2 * k))
  | _, [], _ => by simp [writeCycles]
  | _, _ :: _, 0 => by simp [writeCycles]
  | o, _ :: rest, k + 1 => by
    have h := writeCycles_getElem? (o + 2) rest k
    simp only [writeCycles, List.getElem?_cons_succ, h]
    congr 2
    omega

theorem length_readCycles : ∀ o n : Nat, (readCycles o n).length = n
  | _, 0 => rfl
  | o, n + 1 => by simp [readCycles, length_readCycles (o + 2) n]

theorem readCycles_getElem? : ∀ (o : Nat) {n k : Nat}, k < n → (readCycles o n)[k]? = some (.read (o + 2 * k))
  | _, _ + 1, 0, _ => by simp [readCycles]
  | o, n + 1, k + 1, h => by
    have hk := readCycles_getElem? (o + 2) (n := n) (k := k) (by omega)
    simp only [readCycles, List.getElem?_cons_succ, hk]
    congr 2
    omega

/-! ## The beginning of an operation -/

/-- The operation under way that a waiting one becomes (R195, R196). -/
def State.begun (o : Operation) (s : State) : UnderWay :=
  ⟨o.kind, (s.content o.kind).cycles, [], (s.content o.kind).causes, (s.content o.kind).carriesClear, o.mark⟩

/-- The oldest waiting operation begins (R195). -/
theorem exec_internalOperationStart {s : State} {o : Operation} {rest : List Operation} (hr : s.running = true) (hu : s.path.under = none)
    (hq : s.path.queue = o :: rest) :
    exec .internalOperationStart s =
      .next (State.arbitrate (State.handOver o.kind { s with path := { s.path with under := some (s.begun o), queue := rest } })) := by
  refine congrArg Host.Outcome.next ?_
  unfold State.startOperation
  rw [hu, hq]
  dsimp only
  rw [if_pos hr]
  rfl

/-- The plan of a deposit that has not begun (R124). -/
theorem State.depositPlan_waiting {s : State} (hu : s.path.under = none) :
    s.depositPlan .inbound = s.msgs.deposit.map (·.plan) ∧ s.depositPlan .triplog = s.trips.deposit.map (·.plan) := by
  simp [State.depositPlan, State.depositWritten, hu]

/-- Settles O28: the content by the operation's kind, and the images word by word. -/
theorem operationBeginsWithItsOwnersContent : Obligations.OperationBeginsWithItsOwnersContent := by
  refine ⟨?_, writeCycles_getElem?, ?_⟩
  · intro s o rest hr hu hq
    obtain ⟨kind, mark⟩ := o
    obtain ⟨hin, htrip⟩ := State.depositPlan_waiting hu
    refine ⟨_, s.begun ⟨kind, mark⟩, exec_internalOperationStart hr hu hq, ?_, rfl, rfl, ?_, rfl, by simp, by simp, by simp, by simp, by simp,
      by simp, by simp, by simp, by simp, by simp, ?_, ?_, ?_, ?_, ⟨?_, ?_⟩, ?_, ?_, ?_⟩
    · rw [State.arbitrate]
      simp only [State.handOver_frame]
      exact MemoryPath.arbitrate_eq _
    · intro hi
      rw [State.arbitrate]
      simp only [State.handOver_frame]
      exact MemoryPath.arbitrate_some (p := { s.path with under := some (s.begun ⟨kind, mark⟩), queue := rest }) rfl hi
    · rintro n rfl
      exact ⟨rfl, rfl, rfl, rfl⟩
    · rintro rfl
      refine ⟨rfl, rfl, ?_, rfl, rfl, rfl⟩
      simp only [State.begun, State.content]
      cases s.emerg.state <;> simp [EmergencyState.recorded]
    · rintro c rfl hc
      simp [State.begun, State.content, hc, totalsOffset]
    · rintro c rfl hc
      simp [State.begun, State.content, hc, Ring.completionCycles, Descriptor.dataOffset]
      cases c.outcome <;> rfl
    · rintro d rfl hd
      simp [State.begun, State.content, hin, hd, Deposit.cycles, Descriptor.dataOffset, writeCycles]
    · rintro d rfl hd
      simp [State.begun, State.content, htrip, hd, Deposit.cycles, Descriptor.dataOffset, writeCycles]
    · rintro ring out rfl
      rfl
    · rintro r d rfl hd
      simp [State.begun, State.content, hd, readCycles]
    · rintro rfl
      exact ⟨length_readCycles _ _, fun k hk => readCycles_getElem? _ hk⟩
  · intro word byte long outcomes
    refine ⟨?_, ?_, ?_⟩
    · intro e he w
      have hlen : w.length = 64 := e.length_image
      have htext : ∀ i, i < 64 → byte w (0x20 + i) = e.text.getD i 0#8 := fun i hi => OfferEntry.image_text he hi
      obtain ⟨text, hw⟩ : ∃ text, w = _ := e.image_words
      rw [e.flags_code] at hw
      clear_value w
      subst hw
      refine ⟨hlen, ?_, Word.upper_ofBytes _ _, Word.lower_ofBytes _ _, Word.upper_ofBytes _ _, DWord.ofWords_halves _,
        Word.lower_ofBytes _ _, Word.upper_ofBytes _ _, Word.lower_ofBytes _ _, Word.upper_ofBytes _ _, DWord.ofWords_halves _,
        DWord.ofWords_halves _, DWord.ofWords_halves _, rfl, Word.lower_ofBytes _ _, Word.upper_ofBytes _ _, ?_, Word.upper_ofBytes _ _, rfl,
        htext⟩
      · simp only [byte, word, List.getD_cons_zero, Word.lower_ofBytes, Nat.zero_mod, Nat.zero_div, if_true]
        cases e.state <;> simp [OfferState.code]
      · simp only [byte, word, List.getD_cons_succ, List.getD_cons_zero, Word.lower_ofBytes, Nat.reduceMod, Nat.reduceDiv, if_true]
        cases e.result.outcome <;> simp [Outcome.code, outcomes]
    · intro e zone position w
      have hlen : w.length = 64 := length_emergencyImage e zone position
      have hpad : ∀ i, 0x20 ≤ i → i < 0x7E → byte w i = 0#8 := fun i h h' => emergencyImage_pad e zone position h h'
      have hcheck : word w 0x7E = (w.take 63).foldl (· + ·) 0#16 := emergencyImage_check e zone position
      obtain ⟨rest, hw⟩ : ∃ rest, w = _ := emergencyImage_words e zone position
      clear_value w
      subst hw
      have hflag : (flagBit 0 position.isSome : Byte) = BitVec.ofNat 8 position.isSome.toNat := by
        cases position.isSome <;> rfl
      refine ⟨hlen, ?_, ?_, ?_, ?_, ?_, ?_, ?_, ?_, ?_, ?_, ?_, ?_, hpad, hcheck⟩
      all_goals
        simp only [word, byte, long, Nat.reduceAdd, Nat.reduceDiv, Nat.reduceMod, List.getD_cons_succ, List.getD_cons_zero,
          DWord.ofWords_halves, Word.lower_ofBytes, Word.upper_ofBytes, hflag, if_true, Nat.one_ne_zero, if_false]
      · rfl
      · cases e.state <;> simp [EmergencyState.recorded, EmergencyState.code]
      · cases e.source <;> simp [Source.code]
      · cases position <;> rfl
      · cases position <;> rfl
    · intro a closeTime w
      have hlen : w.length = 64 := a.length_image closeTime
      have hpad : ∀ i, 0x44 ≤ i → i < 0x80 → byte w i = 0#8 := fun i h h' => a.image_pad closeTime h h'
      obtain ⟨rest, hw⟩ : ∃ rest, w = _ := a.image_words closeTime
      have hflag : Word.ofBytes 0#8 (flagBit 0 a.meterOpened) = BitVec.ofNat 16 a.meterOpened.toNat := by
        cases a.meterOpened <;> rfl
      rw [hflag] at hw
      clear_value w
      subst hw
      simp only [word, long, Nat.reduceAdd, Nat.reduceDiv, List.getD_cons_succ, List.getD_cons_zero, DWord.ofWords_halves, true_and]
      exact ⟨hlen, hpad⟩

end Sys2Proof.Machine
end

section
/-! PROOFS. The word cycles of an operation, and the steps of an outbound fetch (R126, R131, R132, R195, R197, R201, R223). -/

namespace Sys2Proof.Machine

/-! ## One word cycle -/

theorem State.runCycle_write (u : UnderWay) (o : Nat) (w : Word) (rest : List MemCycle) (s : State) :
    s.runCycle u (.write o w) rest =
      { s with
        path := { s.path with under := some { u with cycles := rest }, internal := false },
        mem := Memory.writeLanes s.mem (pageAddress s.path.asel o) (some (Word.lower w)) (some (Word.upper w)) } := rfl

theorem State.runCycle_read (u : UnderWay) (o : Nat) (rest : List MemCycle) (s : State) :
    s.runCycle u (.read o) rest =
      { s with path := { s.path with
          under := some { u with cycles := rest, got := u.got ++ [Memory.readWord s.mem (pageAddress s.path.asel o)] }, internal := false } } := rfl

theorem State.runCycle_blocks (u : UnderWay) (c : MemCycle) (rest : List MemCycle) (s : State) :
    (s.runCycle u c rest).page = s.page ∧ (s.runCycle u c rest).offers = s.offers ∧ (s.runCycle u c rest).emerg = s.emerg ∧
      (s.runCycle u c rest).trips = s.trips := by
  cases c <;> exact ⟨rfl, rfl, rfl, rfl⟩

/-- An abandoned operation stops (R201). -/
theorem State.afterCycle_abandoned {s : State} {u : UnderWay} (hu : s.path.under = some u) (hk : u.kind = .abandoned) :
    s.afterCycle = s.endOperation := by
  simp [State.afterCycle, hu, hk]

/-- A fetch whose ordered reads are made goes on (R131, R132). -/
theorem State.afterCycle_fetch {s : State} {u : UnderWay} (hu : s.path.under = some u) (hk : u.kind = .outboundFetch) (hc : u.cycles = []) :
    s.afterCycle = s.continueFetch u := by
  simp [State.afterCycle, hu, hk, hc]

/-- Any other operation keeps its further cycles (R195). -/
theorem State.afterCycle_goesOn {s : State} {u : UnderWay} (hu : s.path.under = some u) (hk : u.kind ≠ .abandoned)
    (hc : u.kind ≠ .outboundFetch ∨ u.cycles ≠ []) : s.afterCycle = s := by
  have hfetch : ¬(u.kind = .outboundFetch ∧ u.cycles = []) := fun ⟨h1, h2⟩ => hc.elim (· h1) (· h2)
  simp [State.afterCycle, hu, hk, hfetch]

/-- A word cycle with no cycle of the processor held (R195, R197). -/
theorem exec_internalCycle {s : State} {u : UnderWay} {c : MemCycle} {rest : List MemCycle} (hr : s.running = true)
    (hi : s.path.internal = true) (hu : s.path.under = some u) (hc : u.cycles = c :: rest) (hh : s.path.held = []) :
    exec .internalMemoryCycleComplete s = .next (State.arbitrate (s.runCycle u c rest).afterCycle) := by
  refine congrArg Host.Outcome.next ?_
  unfold State.internalCycle
  rw [if_pos (by simp [hr, hi]), hu]
  dsimp only
  rw [hc]
  refine State.service_none ?_
  have hrun : (s.runCycle u c rest).path.held = [] := by cases c <;> exact hh
  unfold State.afterCycle
  (repeat' split) <;> simp [State.endOperation, hrun]

/-- The state after a word cycle that the operation goes on from. -/
theorem State.arbitrate_path_eq {s x : State} {u : UnderWay} (hx : x.path = { s.path with under := some u, internal := false }) :
    (State.arbitrate x).path = { s.path with
      under := some u,
      internal := decide (u.mark = 0 ∧ u.cycles ≠ [] ∧ s.path.drain = .idle ∧ (s.path.buffer = [] ∨ 16 ≤ s.path.fairness)),
      fairness := if u.mark = 0 ∧ u.cycles ≠ [] ∧ s.path.drain = .idle ∧ (s.path.buffer = [] ∨ 16 ≤ s.path.fairness) then 0
        else s.path.fairness } := by
  obtain ⟨h1, h2⟩ := MemoryPath.arbitrate_some (p := x.path) (u := u) (by rw [hx]) (by rw [hx])
  rw [State.arbitrate]
  dsimp only
  rw [MemoryPath.arbitrate_eq, h1, h2, hx]

/-! ## The steps of a fetch -/

theorem State.closeIfClosing_eq (s : State) :
    s.closeIfClosing = { s with msgs := { s.msgs with
      outbound := if s.msgs.outbound.state = .closing then { s.msgs.outbound with state := .closed } else s.msgs.outbound } } := by
  unfold State.closeIfClosing
  by_cases h : s.msgs.outbound.state = .closing
  · rw [if_pos (by simp [h]), if_pos h]
    rfl
  · rw [if_neg (by simpa using h), if_neg h]

/-- What a fetch makes of its owner and of the operation under way, by its next step (R126, R131, R132). -/
theorem State.continueFetch_eq (u : UnderWay) (s : State) :
    (∀ cycles, s.msgs.outbound.fetchStep u.got = .more cycles →
      s.continueFetch u = { s with path := { s.path with under := some { u with cycles := cycles } } }) ∧
    (∀ cycles, s.msgs.outbound.fetchStep u.got = .wrapped cycles →
      s.continueFetch u = { s with
        path := { s.path with under := some { u with cycles := cycles, got := [] } },
        msgs := { s.msgs with outbound := { s.msgs.outbound with own := 0#16 } } }) ∧
    (s.msgs.outbound.fetchStep u.got = .incomplete →
      s.continueFetch u = { s with msgs := { s.msgs with
        flight := .none,
        outbound := if s.msgs.outbound.state = .closing then { s.msgs.outbound with state := .closed } else s.msgs.outbound } }) ∧
    ∀ v, s.msgs.outbound.fetchStep u.got = .done v →
      s.continueFetch u = { s with msgs := { s.msgs with flight := .fetching v } } := by
  refine ⟨fun cycles h => ?_, fun cycles h => ?_, fun h => ?_, fun v h => ?_⟩
  · simp [State.continueFetch, h]
  · simp [State.continueFetch, h]
    rfl
  · simp [State.continueFetch, h, State.closeIfClosing_eq]
  · simp [State.continueFetch, h]

theorem State.continueFetch_rest (u : UnderWay) (s : State) :
    s.continueFetch u = { s with path := (s.continueFetch u).path, msgs := (s.continueFetch u).msgs } ∧
      (s.continueFetch u).path = { s.path with under := (s.continueFetch u).path.under } := by
  obtain ⟨hmore, hwrapped, hincomplete, hdone⟩ := State.continueFetch_eq u s
  cases h : s.msgs.outbound.fetchStep u.got with
  | more cycles => rw [hmore cycles h]; exact ⟨rfl, rfl⟩
  | wrapped cycles => rw [hwrapped cycles h]; exact ⟨rfl, rfl⟩
  | incomplete => rw [hincomplete h]; exact ⟨rfl, rfl⟩
  | done v => rw [hdone v h]; exact ⟨rfl, rfl⟩

/-- The last ordered read of a fetch, by what it leads to (R126, R131, R132). -/
theorem exec_fetchCycle {s : State} {u : UnderWay} {o : Nat} (hr : s.running = true) (hi : s.path.internal = true)
    (hu : s.path.under = some u) (hk : u.kind = .outboundFetch) (hc : u.cycles = [.read o]) (hh : s.path.held = []) :
    let got := u.got ++ [Memory.readWord s.mem (pageAddress s.path.asel o)]
    ∃ t, exec .internalMemoryCycleComplete s = .next t ∧ t = { s with path := t.path, msgs := t.msgs } ∧
      t.path.queue = s.path.queue ∧ t.path.buffer = s.path.buffer ∧
      (∀ cycles, s.msgs.outbound.fetchStep got = .more cycles →
        t.path.under = some { u with cycles := cycles, got := got } ∧ t.msgs = s.msgs) ∧
      (∀ cycles, s.msgs.outbound.fetchStep got = .wrapped cycles →
        t.path.under = some { u with cycles := cycles, got := [] } ∧
          t.msgs = { s.msgs with outbound := { s.msgs.outbound with own := 0#16 } }) ∧
      (s.msgs.outbound.fetchStep got = .incomplete →
        t.path.under = some { u with cycles := [], got := got } ∧
          t.msgs = { s.msgs with
            flight := .none,
            outbound := if s.msgs.outbound.state = .closing then { s.msgs.outbound with state := .closed } else s.msgs.outbound }) ∧
      ∀ v, s.msgs.outbound.fetchStep got = .done v →
        t.path.under = some { u with cycles := [], got := got } ∧ t.msgs = { s.msgs with flight := .fetching v } := by
  intro got
  have hexec := exec_internalCycle hr hi hu hc hh
  have hstep : (s.runCycle u (.read o) []).afterCycle = (s.runCycle u (.read o) []).continueFetch { u with cycles := [], got := got } :=
    State.afterCycle_fetch rfl hk rfl
  rw [hstep, State.runCycle_read] at hexec
  obtain ⟨hmore, hwrapped, hincomplete, hdone⟩ := State.continueFetch_eq { u with cycles := [], got := got }
    { s with path := { s.path with under := some { u with cycles := [], got := got }, internal := false } }
  obtain ⟨hrest, hpath⟩ := State.continueFetch_rest { u with cycles := [], got := got }
    { s with path := { s.path with under := some { u with cycles := [], got := got }, internal := false } }
  refine ⟨_, hexec, ?_, ?_, ?_, ?_, ?_, ?_, ?_⟩
  · rw [State.arbitrate]
    dsimp only
    rw [hrest]
  · rw [State.arbitrate]
    simp only [MemoryPath.arbitrate_fields]
    rw [hpath]
  · rw [State.arbitrate]
    simp only [MemoryPath.arbitrate_fields]
    rw [hpath]
  · intro cycles h
    rw [hmore cycles h]
    exact ⟨by simp, rfl⟩
  · intro cycles h
    rw [hwrapped cycles h]
    exact ⟨by simp, rfl⟩
  · intro h
    rw [hincomplete h]
    exact ⟨by simp, rfl⟩
  · intro v h
    rw [hdone v h]
    exact ⟨by simp, rfl⟩

theorem ofWords_getD : ∀ (ws : List Word) (i : Nat), i < 2 * ws.length →
    (ofWords ws).getD i 0#8 = if i % 2 = 0 then Word.lower (ws.getD (i / 2) 0#16) else Word.upper (ws.getD (i / 2) 0#16)
  | [], _, h => absurd h (by simp)
  | _ :: _, 0, _ => rfl
  | _ :: _, 1, _ => rfl
  | w :: rest, i + 2, h => by
    have hi := ofWords_getD rest i (by simp only [List.length_cons] at h; omega)
    have h1 : (i + 2) % 2 = i % 2 := by omega
    have h2 : (i + 2) / 2 = i / 2 + 1 := by omega
    rw [h1, h2]
    exact hi

theorem length_ofWords : ∀ ws : List Word, (ofWords ws).length = 2 * ws.length
  | [] => rfl
  | _ :: rest => by
    simp only [ofWords, List.length_append, length_le16, length_ofWords rest, List.length_cons]
    omega

/-- The text of a record that passed, when its words are read (R132, R223). -/
theorem Ring.fetched_text {r : Ring} {got : List Word} (h : 4 + ((got.getD 2 0#16).toNat + 1) / 2 ≤ got.length) :
    (r.fetched got).text.length = (got.getD 2 0#16).toNat ∧
      ∀ i, i < (got.getD 2 0#16).toNat → (r.fetched got).text.getD i 0#8 =
        if i % 2 = 0 then Word.lower (got.getD (4 + i / 2) 0#16) else Word.upper (got.getD (4 + i / 2) 0#16) := by
  generalize hn : (got.getD 2 0#16).toNat = n at h
  have htext : (r.fetched got).text = (ofWords (got.drop 4)).take n := by simp [Ring.fetched, ← hn]
  have hlen : (ofWords (got.drop 4)).length = 2 * (got.length - 4) := by rw [length_ofWords, List.length_drop]
  rw [htext]
  refine ⟨by rw [List.length_take, hlen]; omega, fun i hi => ?_⟩
  rw [List.getD_eq_getElem?_getD, List.getElem?_take, if_pos hi, ← List.getD_eq_getElem?_getD,
    ofWords_getD _ _ (by rw [List.length_drop]; omega)]
  simp only [List.getD_eq_getElem?_getD, List.getElem?_drop]

theorem Ring.fetched_fragments (r : Ring) (got : List Word) :
    (r.fetched got).fragments = max 1 (((got.getD 2 0#16).toNat + 39) / 40) := by
  simp only [Ring.fetched]
  split
  · next h => rw [h]; rfl
  · omega

/-- The first 4 bytes of a record are read (R126, R131). -/
theorem Ring.fetchStep_first {got : List Word} (hl : got.length = 2) (r : Ring) :
    r.fetchStep got =
      if got = [0xFFFF#16, 0xFFFF#16] ∧ 4 ≤ filledBytes r.desc.dataSize r.theirs.toNat r.own.toNat then
        .wrapped (.write (r.desc.base.toNat + 2) 0#16 :: readCycles (r.desc.dataOffset 0) 2)
      else if filledBytes r.desc.dataSize r.theirs.toNat r.own.toNat < 8 then .incomplete
      else if r.desc.dataSize < r.own.toNat + 8 then
        .done (.rejected (r.rejection (got.getD 1 0#16) 0 (filledBytes r.desc.dataSize r.theirs.toNat r.own.toNat)))
      else .more (readCycles (r.desc.dataOffset (r.own.toNat + 4)) 2) := by
  match got, hl with
  | [a, b], _ => simp [Ring.fetchStep, Ring.afterFirst, and_assoc]

/-- The header of a record is read (R131, R132). -/
theorem Ring.fetchStep_header {got : List Word} (hl : got.length = 4) (r : Ring) :
    r.fetchStep got =
      if (Word.lower (got.getD 0 0#16) ≠ 1#8 ∧ Word.lower (got.getD 0 0#16) ≠ 2#8) ∨ 200 < (got.getD 2 0#16).toNat then
        .done (.rejected (r.rejection (got.getD 1 0#16) (got.getD 2 0#16).toNat
          (filledBytes r.desc.dataSize r.theirs.toNat r.own.toNat)))
      else if filledBytes r.desc.dataSize r.theirs.toNat r.own.toNat < 8 + roundUp4 (got.getD 2 0#16).toNat then .incomplete
      else if r.desc.dataSize < r.own.toNat + (8 + roundUp4 (got.getD 2 0#16).toNat) then
        .done (.rejected (r.rejection (got.getD 1 0#16) (got.getD 2 0#16).toNat
          (filledBytes r.desc.dataSize r.theirs.toNat r.own.toNat)))
      else if (got.getD 2 0#16).toNat = 0 then .done (.passed (r.fetched got))
      else .more (readCycles (r.desc.dataOffset (r.own.toNat + 8)) (roundUp4 (got.getD 2 0#16).toNat / 2)) := by
  have hbad : (!validKind (Word.lower (got.getD 0 0#16)) || decide (200 < (got.getD 2 0#16).toNat)) = true ↔
      (Word.lower (got.getD 0 0#16) ≠ 1#8 ∧ Word.lower (got.getD 0 0#16) ≠ 2#8) ∨ 200 < (got.getD 2 0#16).toNat := by
    simp [validKind]
  rw [Ring.fetchStep, if_neg (by omega), if_pos hl, Ring.afterHeader]
  simp only [hbad]

/-- The text of a record is read (R132). -/
theorem Ring.fetchStep_text {got : List Word} (hl : 4 < got.length) (r : Ring) : r.fetchStep got = .done (.passed (r.fetched got)) := by
  rw [Ring.fetchStep, if_neg (by omega), if_neg (by omega)]

/-- A record whose length does not lie before the end advances to the input pointer copy (R132). -/
theorem Ring.rejection_past {r : Ring} {tag : Word} {length filled : Nat} (h : r.desc.dataSize < r.own.toNat + (8 + roundUp4 length)) :
    r.rejection tag length filled =
      ⟨.rejected, tag, r.own.toNat, decide (r.own.toNat + 8 ≤ r.desc.dataSize), r.theirs.toNat⟩ := by
  simp only [Ring.rejection]
  rw [if_neg (by omega)]

/-- Settles O29: the word moved, the operation's next step, and the port. -/
theorem internalCycleReadsOrWritesOneWord : Obligations.InternalCycleReadsOrWritesOneWord := by
  refine ⟨?_, ?_⟩
  · intro s u c rest hr hi hu hc hh hm gives goesOn
    have hgoes : ∀ (x : State) (got : List Word), x = { s with mem := x.mem, path := x.path } →
        x.path = { s.path with under := some { u with cycles := rest, got := got }, internal := false } →
        goesOn (State.arbitrate x.afterCycle) got := by
      intro x got hx hpath
      have hunder : x.path.under = some { u with cycles := rest, got := got } := by rw [hpath]
      refine ⟨fun hk => ?_, fun hk hf => ?_⟩
      · rw [State.afterCycle_abandoned hunder hk, State.arbitrate, State.endOperation, MemoryPath.arbitrate_none rfl, hpath]
      · rw [State.afterCycle_goesOn hunder hk hf]
        refine ⟨?_, State.arbitrate_path_eq hpath⟩
        rw [State.arbitrate]
        dsimp only
        rw [hx]
    obtain ⟨hpage, hoffers, hemerg, htrips⟩ := State.runCycle_blocks u c rest s
    refine ⟨_, exec_internalCycle hr hi hu hc hh, by simp [hpage], by simp [hoffers], by simp [hemerg], by simp [htrips], ?_, ?_⟩
    · rintro o w rfl
      refine ⟨hgoes _ _ rfl rfl, fun b => ?_⟩
      have hmem : (State.arbitrate (s.runCycle u (.write o w) rest).afterCycle).mem =
          Memory.writeLanes s.mem (pageAddress s.path.asel o) (some (Word.lower w)) (some (Word.upper w)) := by
        simp [State.runCycle_write]
      rw [hmem, Memory.read_writeLanes _ _ _ hm]
      rfl
    · rintro o rfl
      exact ⟨by simp [State.runCycle_read], hgoes _ _ rfl rfl⟩
  · intro s u o hr hi hu hk hc hh got r size out filled data length n bad wrap
    obtain ⟨t, hexec, hrest, hqueue, hbuffer, hmore, hwrapped, hincomplete, hdone⟩ := exec_fetchCycle hr hi hu hk hc hh
    refine ⟨t, hexec, hrest, hqueue, hbuffer, ?_⟩
    intro reads rejected incomplete passed
    have hpassed : r.fetchStep got = .done (.passed (r.fetched got)) → passed := fun h =>
      ⟨(hdone _ h).1, r.fetched got, (hdone _ h).2, rfl, rfl, rfl, rfl, rfl, rfl, r.fetched_fragments got, rfl, rfl, Ring.fetched_text⟩
    refine ⟨fun hl => ?_, fun hl => ?_, fun hl => hpassed (Ring.fetchStep_text hl r)⟩
    · have hstep := Ring.fetchStep_first hl r
      refine ⟨fun hw => hwrapped _ (hstep.trans (if_pos hw)),
        fun hw hf => hincomplete (hstep.trans ((if_neg hw).trans (if_pos hf))), fun hw hf ho => ?_, fun hw hf ho => ?_⟩
      · have hpast := hstep.trans ((if_neg hw).trans ((if_neg (Nat.not_lt.2 hf)).trans (if_pos ho)))
        rw [Ring.rejection_past (length := 0) ho] at hpast
        exact hdone _ hpast
      · exact (hmore _ (hstep.trans ((if_neg hw).trans ((if_neg (Nat.not_lt.2 hf)).trans (if_neg (Nat.not_lt.2 ho)))))).symm
    · have hstep := Ring.fetchStep_header hl r
      refine ⟨fun hb => hdone _ (hstep.trans (if_pos hb)),
        fun hb hf => hincomplete (hstep.trans ((if_neg hb).trans (if_pos hf))), fun hb hf ho => ?_, fun hb hf ho hz => ?_, fun hb hf ho hz => ?_⟩
      · have hpast := hstep.trans ((if_neg hb).trans ((if_neg (Nat.not_lt.2 hf)).trans (if_pos ho)))
        rw [Ring.rejection_past ho] at hpast
        exact hdone _ hpast
      · exact hpassed (hstep.trans ((if_neg hb).trans ((if_neg (Nat.not_lt.2 hf)).trans ((if_neg (Nat.not_lt.2 ho)).trans (if_pos hz)))))
      · have hmoves := hstep.trans ((if_neg hb).trans ((if_neg (Nat.not_lt.2 hf)).trans ((if_neg (Nat.not_lt.2 ho)).trans (if_neg hz))))
        obtain ⟨hunder, hmsgs⟩ := hmore _ hmoves
        have hn : roundUp4 length / 2 = (n - 8) / 2 := by
          have hround : n = 8 + roundUp4 length := rfl
          rw [hround, Nat.add_sub_cancel_left]
        refine ⟨hmsgs, _, hunder, (length_readCycles _ _).trans hn, fun k hk => readCycles_getElem? _ (by rw [← hn] at hk; exact hk)⟩

end Sys2Proof.Machine
end

section
/-! PROOFS. The ends of the record rewrites and of the deposits (R70, R107, R117, R140 to R144, R159, R160). -/

namespace Sys2Proof.Machine

/-! ## Record rewrites -/

/-- At the end of an operation the held cycles are handled from the state that its owner leaves (R194, R195). -/
theorem State.complete_serves {k : OpKind} {owner : UnderWay → State → State} {s x : State} {u : UnderWay} (hr : s.running = true)
    (hu : s.path.under = some u) (hk : u.kind = k) (hc : u.cycles = []) (hx : owner u (State.raiseAll u.causes s.endOperation) = x)
    (hheld : x.path.held = s.path.held) (hunder : x.path.under = none) :
    s.serves { x with path := { x.path with held := [] } } (s.complete k owner) ∧
      (s.path.held = [] → s.complete k owner = { x with path := { x.path with held := [] } }) := by
  rw [State.complete_finished hr hu hk hc, hx]
  refine ⟨State.service_serves hheld, fun hh => ?_⟩
  rw [State.service_free (hheld.trans hh) hunder, ← hheld.trans hh]

/-- The end of an operation that carries no cause, when no cycle is held. -/
theorem State.complete_uncaused {k : OpKind} {owner : UnderWay → State → State} {s x : State} {u : UnderWay} (hr : s.running = true)
    (hu : s.path.under = some u) (hk : u.kind = k) (hc : u.cycles = []) (hcauses : u.causes = []) (hx : owner u s.endOperation = x)
    (hheld : x.path.held = []) (hunder : x.path.under = none) : s.complete k owner = x := by
  have hx' : owner u (State.raiseAll u.causes s.endOperation) = x := by rw [hcauses]; exact hx
  rw [State.complete_finished hr hu hk hc, hx', State.service_free hheld hunder]

/-- What is under way has no part in raising a cause (R208). -/
theorem State.raise_endOperation (c : Cause) (s : State) : s.endOperation.raise c = (s.raise c).endOperation := by
  unfold State.raise State.evaluateAttention State.endOperation
  dsimp only
  split <;> rfl

theorem State.raiseAll_endOperation (cs : List Cause) : ∀ s : State,
    State.raiseAll cs s.endOperation = { s with
      path := { s.path with under := none }, page := (State.raiseAll cs s).page,
      pins := { s.pins with attn := (State.raiseAll cs s).pins.attn } } := by
  have hcomm : ∀ s : State, State.raiseAll cs s.endOperation = (State.raiseAll cs s).endOperation := by
    induction cs with
    | nil => exact fun _ => rfl
    | cons c rest ih => exact fun s => (congrArg (State.raiseAll rest) (State.raise_endOperation c s)).trans (ih (s.raise c))
  intro s
  rw [hcomm, State.raiseAll_eq]
  rfl

/-- Settles O30: the owner of a record rewrite keeps its own bookkeeping alone. -/
theorem recordRewriteCompletes : Obligations.RecordRewriteCompletes := by
  intro s u hr hu hc ha
  have hraises := State.raiseAll_raises u.causes (s := s) ha
  have heq := State.raiseAll_endOperation u.causes s
  refine ⟨?_, ?_⟩
  · have hends : ∀ k, u.kind = k → ∃ v t, s.complete k (fun _ s => s) = v ∧ s.serves t v ∧ (s.path.held = [] → v = t) ∧
        t = { s with
          path := { s.path with under := none, held := [] }, page := (State.raiseAll u.causes s).page,
          pins := { s.pins with attn := (State.raiseAll u.causes s).pins.attn } } := by
      intro k hk
      obtain ⟨hserves, hnone⟩ := State.complete_serves (owner := fun _ s => s) hr hu hk hc heq rfl rfl
      exact ⟨_, _, rfl, hserves, hnone, rfl⟩
    rintro c (⟨n, hk, rfl⟩ | ⟨hk, rfl⟩)
    · obtain ⟨v, t, hv, hserves, hnone, rfl⟩ := hends _ hk
      have hn : s.finishedOffer = some n := by simp [State.finishedOffer, hu, hk]
      refine ⟨v, _, congrArg Host.Outcome.next ?_, hserves, hnone, hraises, ⟨rfl, rfl, rfl, rfl, rfl⟩, rfl, rfl, rfl, rfl, rfl, rfl, rfl, rfl,
        rfl, rfl, rfl, rfl, rfl⟩
      rw [hn]
      exact hv
    · obtain ⟨v, t, hv, hserves, hnone, rfl⟩ := hends _ hk
      exact ⟨v, _, congrArg Host.Outcome.next hv, hserves, hnone, hraises, ⟨rfl, rfl, rfl, rfl, rfl⟩, rfl, rfl, rfl, rfl, rfl, rfl, rfl, rfl,
        rfl, rfl, rfl, rfl, rfl⟩
  · intro hk
    have hx := congrArg (State.endRecordRewrite u.carriesClear) heq
    rw [State.endRecordRewrite_eq u.carriesClear { s with path := _, page := _, pins := _ }] at hx
    obtain ⟨hserves, hnone⟩ := State.complete_serves (owner := fun u => State.endRecordRewrite u.carriesClear) hr hu hk hc hx rfl rfl
    exact ⟨_, _, rfl, hserves, hnone, hraises, ⟨rfl, rfl, rfl, rfl, rfl⟩, rfl, rfl, rfl, rfl, rfl, rfl, rfl, rfl, rfl, rfl, rfl, rfl, rfl⟩

end Sys2Proof.Machine
end

section
/-! PROOFS. The ring records that the part writes, byte by byte (R107, R141, R214, R223). -/

namespace Sys2Proof.Machine

/-! ## The trip record -/

/-- The flags of a trip as a number (R219). -/
theorem TripFlags.code_eq : ∀ f : TripFlags, f.code = BitVec.ofNat 8 (f.emergency.toNat + 2 * f.meterFault.toNat +
    4 * f.interrupted.toNat + 8 * f.mismatch.toNat + 16 * f.forcedClose.toNat + 32 * f.overflow.toNat) := by
  rintro ⟨a, b, c, d, e, f⟩
  revert a b c d e f
  decide

/-- The origin byte of a trip record (R223). -/
theorem TripRecord.origin_eq (r : TripRecord) : (flagBit 0 r.job.isSome ||| flagBit 1 r.forced ||| flagBit 2 r.meterOpened : Byte) =
    BitVec.ofNat 8 (r.job.isSome.toNat + 2 * r.forced.toNat + 4 * r.meterOpened.toNat) := by
  cases r.job.isSome <;> cases r.forced <;> cases r.meterOpened <;> rfl

/-- The 8 bytes of a place of the tariff list, taken or not (R223). -/
def tariffEntryBytes : Option TariffEntry → List Byte
  | none => List.replicate 8 0#8
  | some e => [e.tariff, 0#8, 0#8, 0#8] ++ le32 e.time

theorem length_tariffEntryBytes (e : Option TariffEntry) : (tariffEntryBytes e).length = 8 := by
  cases e <;> rfl

theorem tariffBytes_succ (n : Nat) (l : List TariffEntry) :
    tariffBytes (n + 1) l = tariffEntryBytes l.head? ++ tariffBytes n l.tail := by
  cases l <;> simp [tariffBytes, tariffEntryBytes]

theorem length_tariffBytes : ∀ (n : Nat) (l : List TariffEntry), (tariffBytes n l).length = 8 * n
  | 0, _ => rfl
  | n + 1, l => by
    rw [tariffBytes_succ, List.length_append, length_tariffEntryBytes, length_tariffBytes n]
    omega

theorem tariffBytes_getD : ∀ (n : Nat) (l : List TariffEntry) (k j : Nat), k < n → j < 8 →
    (tariffBytes n l).getD (8 * k + j) 0#8 = (tariffEntryBytes l[k]?).getD j 0#8
  | n + 1, l, 0, j, _, hj => by
    rw [tariffBytes_succ, Nat.mul_zero, Nat.zero_add, getD_append_of_lt (by rw [length_tariffEntryBytes]; exact hj),
      List.head?_eq_getElem?]
  | n + 1, l, k + 1, j, hk, hj => by
    rw [tariffBytes_succ, getD_append_of_le (by rw [length_tariffEntryBytes]; omega), length_tariffEntryBytes]
    have h : 8 * (k + 1) + j - 8 = 8 * k + j := by omega
    rw [h, tariffBytes_getD n l.tail k j (by omega) hj, List.getElem?_tail]

/-- The bytes of a trip record before its tariff list. -/
def TripRecord.front (r : TripRecord) : List Byte :=
  [0x20#8, r.flags.code] ++ le16 r.ref.shift ++ le16 r.ref.trip ++ le16 r.driverId ++ le32 (r.job.getD 0#32) ++
    [flagBit 0 r.job.isSome ||| flagBit 1 r.forced ||| flagBit 2 r.meterOpened, r.faultCode] ++ le16 r.stepCount ++
    le32 r.startTime ++ le32 r.closeTime ++ le32 r.duration ++ [BitVec.ofNat 8 r.tariffs.length, 0#8, 0#8, 0#8]

/-- The bytes of a trip record after its tariff list. -/
def TripRecord.back (r : TripRecord) : List Byte :=
  le32 r.groups.g0 ++ le32 r.groups.g1 ++ le32 r.groups.g2 ++ le32 r.groups.g3 ++ le32 r.ungrouped ++ le32 r.stepSum ++ le32 r.fare ++
    le32 r.extras

theorem TripRecord.bytes_eq (r : TripRecord) : r.bytes = r.front ++ (tariffBytes 4 r.tariffs ++ r.back) := by
  unfold TripRecord.bytes TripRecord.front TripRecord.back
  simp only [List.append_assoc]

theorem TripRecord.length_front (r : TripRecord) : r.front.length = 32 := by
  unfold TripRecord.front
  simp only [List.length_append, length_le16, length_le32, List.length_cons, List.length_nil]

theorem TripRecord.length_back (r : TripRecord) : r.back.length = 32 := by
  unfold TripRecord.back
  simp only [List.length_append, length_le32]

theorem TripRecord.length_bytes (r : TripRecord) : r.bytes.length = 96 := by
  rw [TripRecord.bytes_eq, List.length_append, List.length_append, r.length_front, r.length_back, length_tariffBytes]

theorem TripRecord.bytes_front (r : TripRecord) {i : Nat} (h : i < 32) : r.bytes.getD i 0#8 = r.front.getD i 0#8 := by
  rw [TripRecord.bytes_eq, getD_append_of_lt (by rw [r.length_front]; exact h)]

theorem TripRecord.bytes_back (r : TripRecord) (i : Nat) : r.bytes.getD (64 + i) 0#8 = r.back.getD i 0#8 := by
  rw [TripRecord.bytes_eq, getD_append_of_le (by rw [r.length_front]; omega), r.length_front,
    getD_append_of_le (by rw [length_tariffBytes]; omega), length_tariffBytes]
  congr 1
  omega

theorem TripRecord.bytes_tariff (r : TripRecord) (k : Fin 4) {j : Nat} (h : j < 8) :
    r.bytes.getD (0x20 + 8 * k.val + j) 0#8 = (tariffEntryBytes r.tariffs[k.val]?).getD j 0#8 := by
  have hk := k.isLt
  rw [TripRecord.bytes_eq, getD_append_of_le (by rw [r.length_front]; omega), r.length_front,
    getD_append_of_lt (by rw [length_tariffBytes]; omega), ← tariffBytes_getD 4 r.tariffs k.val j hk h]
  congr 1
  omega

/-! ## Bytes read as words -/

/-- The word at an offset of a sequence of bytes (R214). -/
def bytesWord (b : List Byte) (i : Nat) : Word := Word.ofBytes (b.getD (i + 1) 0#8) (b.getD i 0#8)

/-- The 32-bit value at an offset of a sequence of bytes (R214). -/
def bytesLong (b : List Byte) (i : Nat) : DWord := DWord.ofWords (bytesWord b (i + 2)) (bytesWord b i)

theorem Word.ofBytes_zero : Word.ofBytes 0#8 0#8 = 0#16 := rfl

/-- A sequence of 32-bit values in memory (R214). -/
theorem bytesLong_flatMap : ∀ (l : List DWord) (k : Nat), k < l.length → bytesLong (l.flatMap le32) (4 * k) = l.getD k 0#32
  | d :: rest, 0, _ => by
    simp only [bytesLong, bytesWord, List.flatMap_cons, le32, le16, List.cons_append, List.nil_append, Nat.mul_zero, Nat.zero_add,
      Nat.reduceAdd, List.getD_cons_succ, List.getD_cons_zero, Word.ofBytes_halves, DWord.ofWords_halves]
  | d :: rest, k + 1, h => by
    have hk := bytesLong_flatMap rest k (by simpa using h)
    rw [← show bytesLong ((d :: rest).flatMap le32) (4 * (k + 1)) = bytesLong (rest.flatMap le32) (4 * k) from rfl] at hk
    exact hk

/-- The 32-bit values at the end of a trip record (R223). -/
theorem TripRecord.bytesLong_back (r : TripRecord) (k : Nat) (h : k < 8) :
    bytesLong r.bytes (64 + 4 * k) =
      [r.groups.g0, r.groups.g1, r.groups.g2, r.groups.g3, r.ungrouped, r.stepSum, r.fare, r.extras].getD k 0#32 := by
  have hback : r.back = [r.groups.g0, r.groups.g1, r.groups.g2, r.groups.g3, r.ungrouped, r.stepSum, r.fare, r.extras].flatMap le32 := rfl
  have hk : k < [r.groups.g0, r.groups.g1, r.groups.g2, r.groups.g3, r.ungrouped, r.stepSum, r.fare, r.extras].length := h
  rw [← bytesLong_flatMap _ k hk, ← hback]
  simp only [bytesLong, bytesWord, Nat.add_assoc, r.bytes_back]

/-- The bytes of a trip record before its tariff list, one by one. -/
theorem TripRecord.front_eq (r : TripRecord) :
    r.front = [0x20#8, r.flags.code, Word.lower r.ref.shift, Word.upper r.ref.shift, Word.lower r.ref.trip, Word.upper r.ref.trip,
      Word.lower r.driverId, Word.upper r.driverId, Word.lower (DWord.lower (r.job.getD 0#32)), Word.upper (DWord.lower (r.job.getD 0#32)),
      Word.lower (DWord.upper (r.job.getD 0#32)), Word.upper (DWord.upper (r.job.getD 0#32)),
      flagBit 0 r.job.isSome ||| flagBit 1 r.forced ||| flagBit 2 r.meterOpened, r.faultCode, Word.lower r.stepCount, Word.upper r.stepCount,
      Word.lower (DWord.lower r.startTime), Word.upper (DWord.lower r.startTime), Word.lower (DWord.upper r.startTime),
      Word.upper (DWord.upper r.startTime), Word.lower (DWord.lower r.closeTime), Word.upper (DWord.lower r.closeTime),
      Word.lower (DWord.upper r.closeTime), Word.upper (DWord.upper r.closeTime), Word.lower (DWord.lower r.duration),
      Word.upper (DWord.lower r.duration), Word.lower (DWord.upper r.duration), Word.upper (DWord.upper r.duration),
      BitVec.ofNat 8 r.tariffs.length, 0#8, 0#8, 0#8] := by
  unfold TripRecord.front le32 le16
  simp only [List.cons_append, List.nil_append]

theorem TripRecord.bytesWord_front (r : TripRecord) {i : Nat} (h : i + 1 < 32) : bytesWord r.bytes i = bytesWord r.front i := by
  rw [bytesWord, bytesWord, r.bytes_front h, r.bytes_front (by omega)]

theorem TripRecord.bytesLong_front (r : TripRecord) {i : Nat} (h : i + 3 < 32) : bytesLong r.bytes i = bytesLong r.front i := by
  rw [bytesLong, bytesLong, r.bytesWord_front (by omega), r.bytesWord_front (by omega)]

/-- A place of the tariff list (R223). -/
theorem TripRecord.bytes_place (r : TripRecord) (k : Fin 4) :
    r.bytes.getD (0x20 + 8 * k.val) 0#8 = ((r.tariffs[k.val]?).map (·.tariff)).getD 0#8 ∧ r.bytes.getD (0x21 + 8 * k.val) 0#8 = 0#8 ∧
      bytesWord r.bytes (0x22 + 8 * k.val) = 0#16 ∧ bytesLong r.bytes (0x24 + 8 * k.val) = ((r.tariffs[k.val]?).map (·.time)).getD 0#32 := by
  have hbyte : ∀ j, j < 8 → r.bytes.getD (0x20 + j + 8 * k.val) 0#8 = (tariffEntryBytes r.tariffs[k.val]?).getD j 0#8 := fun j hj => by
    rw [← r.bytes_tariff k hj]
    congr 1
    omega
  have h0 := hbyte 0 (by decide)
  have h1 := hbyte 1 (by decide)
  have hword : ∀ j, j < 7 → bytesWord r.bytes (0x20 + j + 8 * k.val) = bytesWord (tariffEntryBytes r.tariffs[k.val]?) j := fun j hj => by
    have hnext : 0x20 + j + 8 * k.val + 1 = 0x20 + (j + 1) + 8 * k.val := by omega
    rw [bytesWord, hnext, hbyte j (by omega), hbyte (j + 1) (by omega), bytesWord]
  have h2 := hword 2 (by decide)
  have h4 : bytesLong r.bytes (0x24 + 8 * k.val) = bytesLong (tariffEntryBytes r.tariffs[k.val]?) 4 := by
    have hnext : 0x24 + 8 * k.val + 2 = 0x20 + 6 + 8 * k.val := by omega
    rw [bytesLong, hnext, hword 6 (by decide), bytesLong]
    exact congrArg _ (hword 4 (by decide))
  refine ⟨h0.trans ?_, h1.trans ?_, h2.trans ?_, h4.trans ?_⟩ <;> cases r.tariffs[k.val]? with
  | none => rfl
  | some e =>
    simp [tariffEntryBytes, bytesLong, bytesWord, le32, le16, Word.ofBytes_halves, DWord.ofWords_halves, Word.ofBytes_zero]

/-! ## The inbound record -/

theorem joinParts_eq : ∀ parts : List (Option (List Byte)), joinParts parts = (parts.filterMap id).flatten
  | [] => rfl
  | some t :: rest => by simp [joinParts, joinParts_eq rest]
  | none :: rest => by simp [joinParts, joinParts_eq rest]

theorem flagBit_getLsbD {w : Nat} (n k : Nat) (b : Bool) : (flagBit n b : BitVec w).getLsbD k = (decide (k < w) && decide (k = n) && b) := by
  cases b
  · simp [flagBit]
  · simp only [flagBit, if_true, BitVec.getLsbD_shiftLeft, BitVec.getLsbD_one, Bool.and_true]
    by_cases hk : k < w
    · by_cases hn : k = n
      · subst hn
        simp [hk]
        omega
      · simp [hk, hn]
        omega
    · simp [hk]

/-- The received-index set has a bit for each fragment received (R223). -/
theorem partBits_getLsbD : ∀ (n : Nat) (parts : List (Option (List Byte))) (k : Nat),
    (partBits n parts).getLsbD k = (decide (k < 16) && decide (n ≤ k) && (parts.getD (k - n) none).isSome)
  | _, [], _ => by simp [partBits]
  | n, p :: rest, k => by
    rw [partBits, BitVec.getLsbD_or, flagBit_getLsbD, partBits_getLsbD (n + 1) rest k]
    obtain h | h | h := Nat.lt_trichotomy k n
    · have h1 : ¬k = n := by omega
      have h2 : ¬n + 1 ≤ k := by omega
      have h3 : ¬n ≤ k := by omega
      simp [h1, h2, h3]
    · subst h
      simp [Nat.not_succ_le_self]
    · have h1 : ¬k = n := by omega
      have h2 : n + 1 ≤ k := h
      have h3 : n ≤ k := by omega
      have h4 : k - n = (k - (n + 1)) + 1 := by omega
      simp [h1, h2, h3, h4]

theorem InMessage.flags_eq (m : InMessage) : (flagBit 0 m.urgent ||| flagBit 1 m.ackRequired ||| flagBit 2 m.truncated : Byte) =
    BitVec.ofNat 8 (m.urgent.toNat + 2 * m.ackRequired.toNat + 4 * m.truncated.toNat) := by
  cases m.urgent <;> cases m.ackRequired <;> cases m.truncated <;> rfl

/-- The bytes of an inbound record before its text. -/
def InMessage.front (m : InMessage) : List Byte :=
  [0x10#8, flagBit 0 m.urgent ||| flagBit 1 m.ackRequired ||| flagBit 2 m.truncated] ++ le16 m.tag ++ le16 (partBits 0 m.parts) ++
    le16 (BitVec.ofNat 16 (joinParts m.parts).length) ++ le32 m.closeTime ++ [0#8, 0#8, 0#8, 0#8]

theorem InMessage.length_front (m : InMessage) : m.front.length = 16 := by
  unfold InMessage.front
  simp only [List.length_append, length_le16, length_le32, List.length_cons, List.length_nil]

theorem le_roundUp4 (n : Nat) : n ≤ roundUp4 n := by
  unfold roundUp4
  omega

/-- The text follows the header, and 0 bytes fill the record to a 4-byte boundary (R141). -/
theorem InMessage.bytes_eq (m : InMessage) :
    m.bytes = m.front ++ (joinParts m.parts ++
      List.replicate (roundUp4 (joinParts m.parts).length - (joinParts m.parts).length) 0#8) := by
  have hlen : (m.front ++ joinParts m.parts).length = 16 + (joinParts m.parts).length := by rw [List.length_append, m.length_front]
  have hround := le_roundUp4 (joinParts m.parts).length
  have hb : m.bytes = padTo (16 + roundUp4 (joinParts m.parts).length) (m.front ++ joinParts m.parts) := rfl
  rw [hb, padTo_eq (by rw [hlen]; omega), hlen, List.append_assoc]
  congr 3
  omega

theorem InMessage.length_bytes (m : InMessage) : m.bytes.length = 16 + roundUp4 (joinParts m.parts).length :=
  length_padTo _ _

theorem InMessage.bytes_text (m : InMessage) (i : Nat) : m.bytes.getD (16 + i) 0#8 = (joinParts m.parts).getD i 0#8 := by
  rw [InMessage.bytes_eq, getD_append_of_le (by rw [m.length_front]; omega), m.length_front, Nat.add_sub_cancel_left]
  by_cases h : i < (joinParts m.parts).length
  · rw [getD_append_of_lt h]
  · rw [getD_append_of_le (Nat.not_lt.1 h), getD_of_length_le (Nat.not_lt.1 h)]
    simp [List.getD_eq_getElem?_getD, List.getElem?_replicate]
    split <;> rfl

/-- The bytes of an inbound record before its text, one by one. -/
theorem InMessage.front_eq (m : InMessage) :
    m.front = [0x10#8, flagBit 0 m.urgent ||| flagBit 1 m.ackRequired ||| flagBit 2 m.truncated, Word.lower m.tag, Word.upper m.tag,
      Word.lower (partBits 0 m.parts), Word.upper (partBits 0 m.parts), Word.lower (BitVec.ofNat 16 (joinParts m.parts).length),
      Word.upper (BitVec.ofNat 16 (joinParts m.parts).length), Word.lower (DWord.lower m.closeTime), Word.upper (DWord.lower m.closeTime),
      Word.lower (DWord.upper m.closeTime), Word.upper (DWord.upper m.closeTime), 0#8, 0#8, 0#8, 0#8] := by
  unfold InMessage.front le32 le16
  simp only [List.cons_append, List.nil_append]

theorem InMessage.bytes_front (m : InMessage) {i : Nat} (h : i < 16) : m.bytes.getD i 0#8 = m.front.getD i 0#8 := by
  rw [InMessage.bytes_eq, getD_append_of_lt (by rw [m.length_front]; exact h)]

theorem InMessage.bytesWord_front (m : InMessage) {i : Nat} (h : i + 1 < 16) : bytesWord m.bytes i = bytesWord m.front i := by
  rw [bytesWord, bytesWord, m.bytes_front h, m.bytes_front (by omega)]

theorem InMessage.bytesLong_front (m : InMessage) {i : Nat} (h : i + 3 < 16) : bytesLong m.bytes i = bytesLong m.front i := by
  rw [bytesLong, bytesLong, m.bytesWord_front (by omega), m.bytesWord_front (by omega)]

end Sys2Proof.Machine
end

section
/-! PROOFS. The ends of the deposits into TRIPLOG and INBOUND (R107, R108, R140 to R144, R214, R223). -/

namespace Sys2Proof.Machine

/-! ## The deposit into TRIPLOG -/

theorem State.servePending_eq {s : State} (hd : s.trips.deposit = none) :
    (s.trips.pendingLog = [] → s.servePending = s) ∧
      ∀ record rest, s.trips.pendingLog = record :: rest →
        (s.msgs.triplog.plan record.bytes = none → s.servePending = s) ∧
        ∀ plan, s.msgs.triplog.plan record.bytes = some plan →
          s.servePending = { s with
            trips := { s.trips with deposit := some ⟨record, plan⟩, pendingLog := rest },
            path := { s.path with queue := s.path.queue ++ [⟨.tripDeposit, 0⟩] } } := by
  refine ⟨fun h => ?_, fun record rest h => ⟨fun hp => ?_, fun plan hp => ?_⟩⟩
  · simp [State.servePending, hd, h]
  · simp [State.servePending, hd, h, hp]
  · simp [State.servePending, hd, h, hp]
    rfl

/-- The oldest record waits on while a deposit is under way and where it does not fit (R108). -/
theorem State.servePending_waits {s : State}
    (h : s.trips.deposit = none → ∀ record rest, s.trips.pendingLog = record :: rest → s.msgs.triplog.plan record.bytes = none) :
    s.servePending = s := by
  cases hd : s.trips.deposit with
  | some d => simp [State.servePending, hd]
  | none =>
    obtain ⟨hempty, hserve⟩ := State.servePending_eq hd
    cases hl : s.trips.pendingLog with
    | nil => exact hempty hl
    | cons record rest => exact (hserve record rest hl).1 (h hd record rest hl)

/-- The state in which the pending-log list is served (R107, R108). -/
def State.tripDeposited (d : TripDeposit) (s : State) : State :=
  State.raise .tripClosed (State.moveOwn .triplog d.plan.newPtr { s with trips := { s.trips with deposit := none } })

/-- Raising a cause reads and changes the Control Page and ATTN alone (R208, R211). -/
theorem State.raise_of_same {s t : State} (c : Cause) (hpage : t.page = s.page) (hattn : t.pins.attn = s.pins.attn) :
    t.raise c = { t with page := (s.raise c).page, pins := { t.pins with attn := (s.raise c).pins.attn } } := by
  unfold State.raise State.evaluateAttention
  rw [hpage]
  dsimp only
  split
  · rfl
  · rw [← hattn]

theorem State.tripDeposited_eq (d : TripDeposit) (s : State) :
    s.tripDeposited d = { s with
      msgs := { s.msgs with triplog := { s.msgs.triplog with own := BitVec.ofNat 16 d.plan.newPtr } },
      trips := { s.trips with deposit := none }, page := (s.raise .tripClosed).page,
      pins := { s.pins with attn := (s.raise .tripClosed).pins.attn } } :=
  State.raise_of_same .tripClosed rfl rfl

/-! ## The deposit into INBOUND -/

/-- The deposit's own end, before the flow state is evaluated and the waiting messages are judged (R141, R143). -/
def State.inboundEnded (d : InDeposit) (s : State) : State :=
  { s with
    msgs := { s.msgs with
      deposit := none, inbound := { s.msgs.inbound with own := BitVec.ofNat 16 d.plan.newPtr },
      delivered := lastFour (s.msgs.delivered ++ [d.message.tag]) }
    page := (s.raise .msgIn).page, pins := { s.pins with attn := (s.raise .msgIn).pins.attn } }

theorem State.endInboundDeposit_eq {d : InDeposit} {s : State} (h : s.msgs.deposit = some d) :
    s.endInboundDeposit = State.judgeAll (State.evaluateFlow (State.queueAck d.message (s.inboundEnded d))) := by
  have hraise := State.raise_of_same (s := s)
    (t := State.moveOwn .inbound d.plan.newPtr { s with msgs := { s.msgs with deposit := none } }) .msgIn rfl rfl
  simp only [State.endInboundDeposit, h]
  rw [hraise]
  rfl

theorem Scheduler.addAck_eq (u : Scheduler) (tag : Word) : u.addAck tag = { u with acks := (u.addAck tag).acks } := by
  unfold Scheduler.addAck
  split <;> rfl

/-- The ACK that a complete message asks for (R140, R141). -/
theorem State.queueAck_spec (m : InMessage) (s : State) :
    (s.queueAck m).sched = { s.sched with acks := (s.queueAck m).sched.acks } ∧
      (m.ackRequired = true ∧ m.truncated = false → m.tag ∈ (s.queueAck m).sched.acks) ∧
      (¬(m.ackRequired = true ∧ m.truncated = false) → (s.queueAck m).sched.acks = s.sched.acks) := by
  by_cases h : m.ackRequired = true ∧ m.truncated = false
  · have hq : s.queueAck m = s.addAck m.tag := if_pos (by simp [h])
    rw [hq, State.addAck_eq]
    exact ⟨Scheduler.addAck_eq _ _, fun _ => Scheduler.addAck_mem _ _, fun hn => absurd h hn⟩
  · have hq : s.queueAck m = s := if_neg (by simpa using h)
    rw [hq]
    exact ⟨rfl, fun hc => absurd hc h, fun _ => rfl⟩

/-- The evaluation of the flow state reads the pause mark, the thresholds and the two places alone. -/
theorem State.flows_of_same {s u t : State} {d : Nat} {own theirs : Word} (h : u.flows t d own theirs) (hp : u.msgs.paused = s.msgs.paused)
    (ha : u.msgs.pauseAt = s.msgs.pauseAt) (hr : u.msgs.resumeAt = s.msgs.resumeAt) (hf : u.sched.flowPlace = s.sched.flowPlace)
    (hs : u.sched.statusPlace = s.sched.statusPlace) (hpower : u.power = s.power) : s.flows t d own theirs := by
  unfold State.flows at h ⊢
  rwa [hp, ha, hr, hf, hs, hpower] at h

/-- The message of the deposit that ended is delivered (R141, R143, R144). -/
def State.deposited (s : State) (d : InDeposit) (v : State) : Prop :=
  let own := BitVec.ofNat 16 d.plan.newPtr
  let acks := d.message.ackRequired = true ∧ d.message.truncated = false
  s.raises v 0x04#13 ∧ v.path = { s.path with under := none } ∧
    v.msgs = { s.msgs with
      deposit := none, inbound := { s.msgs.inbound with own := own }, paused := v.msgs.paused,
      delivered := (s.msgs.delivered ++ [d.message.tag]).drop (s.msgs.delivered.length + 1 - 4) } ∧
    (acks → d.message.tag ∈ v.sched.acks) ∧ (¬acks → v.sched.acks = s.sched.acks) ∧
    (s.msgs.inbound.state = .open → s.flows v (s.msgs.inbound.desc.size.toNat - 4) own s.msgs.inbound.theirs) ∧
    (s.msgs.inbound.state ≠ .open → v.msgs.paused = s.msgs.paused ∧ v.sched = { s.sched with acks := v.sched.acks }) ∧
    v.mem = s.mem ∧ v.trips = s.trips ∧ v.emerg = s.emerg ∧ v.offers = s.offers ∧ v.link = s.link ∧ v.status = s.status ∧
    v.power = s.power

theorem State.inboundEnded_deposited (d : InDeposit) (s : State) :
    s.deposited d (State.evaluateFlow (State.queueAck d.message (s.endOperation.inboundEnded d))) := by
  obtain ⟨hsched, hacks, hnone⟩ := State.queueAck_spec d.message (s.endOperation.inboundEnded d)
  have hmsgs' : (State.queueAck d.message (s.endOperation.inboundEnded d)).msgs = (s.endOperation.inboundEnded d).msgs := by simp
  have hpage' : (State.queueAck d.message (s.endOperation.inboundEnded d)).page = (s.endOperation.inboundEnded d).page := by simp
  have hpins' : (State.queueAck d.message (s.endOperation.inboundEnded d)).pins = (s.endOperation.inboundEnded d).pins := by simp
  have hpower' : (State.queueAck d.message (s.endOperation.inboundEnded d)).power = s.power := by
    simp [State.inboundEnded, State.endOperation]
  have hpath' : (State.queueAck d.message (s.endOperation.inboundEnded d)).path = { s.path with under := none } := by
    simp [State.inboundEnded, State.endOperation]
  obtain ⟨hpage, hattn, hmsgs, hacks', hflows, hsame⟩ := State.evaluateFlow_spec (State.queueAck d.message (s.endOperation.inboundEnded d))
  have hraise := State.raise_endOperation .msgIn s
  have hraises : s.raises (s.endOperation.inboundEnded d) 0x04#13 :=
    State.raises_to (State.raise_raises .msgIn s) (show (s.endOperation.raise .msgIn).page = _ by rw [hraise]; rfl)
      (show (s.endOperation.raise .msgIn).pins.attn = _ by rw [hraise]; rfl)
  have hdelivered : lastFour (s.msgs.delivered ++ [d.message.tag]) =
      (s.msgs.delivered ++ [d.message.tag]).drop (s.msgs.delivered.length + 1 - 4) := by simp [lastFour]
  refine ⟨?_, ?_, ?_, ?_, ?_, ?_, ?_, by simp [State.inboundEnded, State.endOperation], by simp [State.inboundEnded, State.endOperation],
    by simp [State.inboundEnded, State.endOperation], by simp [State.inboundEnded, State.endOperation],
    by simp [State.inboundEnded, State.endOperation], by simp [State.inboundEnded, State.endOperation],
    by simp [State.inboundEnded, State.endOperation]⟩
  · exact State.raises_to hraises (hpage.trans hpage') (hattn.trans (by rw [hpins']))
  · simpa using hpath'
  · rw [hmsgs, hmsgs']
    simp only [State.inboundEnded, State.endOperation, hdelivered]
  · rw [hacks']
    exact hacks
  · rw [hacks']
    exact hnone
  · intro ho
    rw [hmsgs'] at hflows
    exact State.flows_of_same (hflows ho) (by rw [hmsgs']; rfl) (by rw [hmsgs']; rfl) (by rw [hmsgs']; rfl) (by rw [hsched]; rfl)
      (by rw [hsched]; rfl) hpower'
  · intro hn
    rw [hsame (by rw [hmsgs']; exact hn)]
    exact ⟨by rw [hmsgs']; rfl, hsched⟩

/-- With no CLOSED buffer nothing is judged (R140). -/
theorem State.judgeAll_none {s : State} (h : ∀ k, (s.msgs.buffer k).message? = none) : s.judgeAll = s := by
  have h0 : s.msgs.buffer0.message? = none := h .buffer0
  have h1 : s.msgs.buffer1.message? = none := h .buffer1
  have hnext : s.judgeNext = s := by
    unfold State.judgeNext MessageEngine.earliestClosed
    rw [h0, h1]
    cases s.msgs.deposit <;> rfl
  rw [State.judgeAll, hnext, hnext]

/-- The end of an INBOUND deposit: its own end, and the judging of what waits (R140, R141). -/
theorem exec_inboundDepositComplete {s : State} {u : UnderWay} {d : InDeposit} (hr : s.running = true) (hh : s.path.held = [])
    (hu : s.path.under = some u) (hc : u.cycles = []) (hcauses : u.causes = []) (hk : u.kind = .inboundDeposit)
    (hd : s.msgs.deposit = some d) :
    ∃ v, s.deposited d v ∧ exec .inboundDepositComplete s = .next v.judgeAll := by
  have hv := State.inboundEnded_deposited d s
  refine ⟨_, hv, congrArg Host.Outcome.next ?_⟩
  have hend : State.endInboundDeposit s.endOperation = _ := State.endInboundDeposit_eq (s := s.endOperation) hd
  exact State.complete_uncaused hr hu hk hc hcauses hend (by simp [State.inboundEnded, State.endOperation, hh])
    (by simp [State.inboundEnded, State.endOperation])

/-! ## The statement -/

/-- Settles O31: the two deposits' ends, and the bytes of the two records. -/
theorem depositCompletes : Obligations.DepositCompletes := by
  refine ⟨?_, ?_, ?_⟩
  · intro s u d hr hh hu hc hcauses hk hd ring
    have hx := State.tripDeposited_eq d s.endOperation
    rw [State.raise_endOperation] at hx
    have hend : State.endTripDeposit s.endOperation = (s.endOperation.tripDeposited d).servePending := by
      simp [State.endTripDeposit, State.tripDeposited, State.endOperation, hd]
    have hpath : (s.endOperation.tripDeposited d).path = { s.path with under := none } := by rw [hx]; rfl
    have hexec : exec .tripLogDepositComplete s = .next (s.endOperation.tripDeposited d).servePending :=
      congrArg Host.Outcome.next (State.complete_uncaused (owner := fun _ => State.endTripDeposit) hr hu hk hc hcauses hend
        (by simp [hpath, hh]) (by simp [hpath]))
    have hraises : s.raises (s.endOperation.tripDeposited d) 0x10#13 :=
      State.raises_to (State.raise_raises .tripClosed s) (by rw [hx]; rfl) (by rw [hx]; rfl)
    obtain ⟨hempty, hserve⟩ := State.servePending_eq (s := s.endOperation.tripDeposited d) (by rw [hx])
    have hlog : (s.endOperation.tripDeposited d).trips.pendingLog = s.trips.pendingLog := by rw [hx]; rfl
    have htriplog : (s.endOperation.tripDeposited d).msgs.triplog = ring := by rw [hx]; rfl
    rw [hlog] at hempty hserve
    rw [htriplog] at hserve
    refine ⟨_, hexec, State.raises_to hraises (by simp) (by simp), ?_, ?_, ?_, ?_, ?_, fun h => ?_, fun record rest h => ⟨fun hp => ?_, fun plan hp => ?_⟩⟩
    · simp only [State.servePending_frame, hx]
      rfl
    · simp only [State.servePending_frame, hx]
      rfl
    · simp only [State.servePending_frame, hx]
      rfl
    · simp only [State.servePending_frame, hx]
      rfl
    · simp only [State.servePending_frame, hx]
      rfl
    · rw [hempty h, hx]
      exact ⟨rfl, rfl⟩
    · rw [(hserve record rest h).1 hp, hx]
      exact ⟨rfl, rfl⟩
    · rw [(hserve record rest h).2 plan hp, hx]
      exact ⟨rfl, rfl⟩
  · intro s u d hr hh hu hc hcauses hk hd own acks ended
    obtain ⟨v, hv, hexec⟩ := exec_inboundDepositComplete hr hh hu hc hcauses hk hd
    have hbuffer : ∀ k, v.msgs.buffer k = s.msgs.buffer k := by
      obtain ⟨-, -, hmsgs, -⟩ := hv
      intro k
      rw [hmsgs]
      cases k <;> rfl
    have hdeposit : v.msgs.deposit = none := by
      obtain ⟨-, -, hmsgs, -⟩ := hv
      rw [hmsgs]
    refine ⟨fun h => ⟨v, ?_, hv⟩, fun k j m hkj hm ho => ?_⟩
    · rw [hexec, State.judgeAll_none (fun k => by rw [hbuffer]; exact h k)]
    · obtain ⟨t, hjudges, hone, htwo⟩ := State.judgeAll_two hkj (by rw [hbuffer]; exact hm) hdeposit (by rw [hbuffer]; exact ho)
      rw [hbuffer] at hone htwo
      refine ⟨v, t, hv, hjudges, fun h => by rw [hexec, hone h], fun x hx hn => ?_⟩
      obtain ⟨w, hw, hjudge⟩ := htwo x hx hn
      exact ⟨w, by rw [hexec, hjudge], hw⟩
  · intro word long
    constructor
    · intro r hr b f
      have hword : ∀ i, i + 1 < 32 → word b i = bytesWord r.front i := fun i h => r.bytesWord_front h
      have hlong : ∀ i, i + 3 < 32 → long b i = bytesLong r.front i := fun i h => r.bytesLong_front h
      have hbyte : ∀ i, i < 32 → b.getD i 0#8 = r.front.getD i 0#8 := fun i h => r.bytes_front h
      refine ⟨r.length_bytes, ?_, ?_, ?_, ?_, ?_, ?_, ?_, ?_, ?_, ?_, ?_, ?_, ?_, ?_, ?_, r.bytes_place, r.bytesLong_back 0 (by decide),
        r.bytesLong_back 1 (by decide), r.bytesLong_back 2 (by decide), r.bytesLong_back 3 (by decide), r.bytesLong_back 4 (by decide),
        r.bytesLong_back 5 (by decide), r.bytesLong_back 6 (by decide), r.bytesLong_back 7 (by decide)⟩
      all_goals
        simp only [hword, hlong, hbyte, Nat.reduceAdd, Nat.reduceLT]
        simp only [r.front_eq, bytesLong, bytesWord, Nat.reduceAdd, List.getD_cons_succ, List.getD_cons_zero, Word.ofBytes_halves,
          DWord.ofWords_halves, Word.ofBytes_zero, TripFlags.code_eq, r.origin_eq, f]
    · intro m hm b text
      have htext : joinParts m.parts = text := joinParts_eq m.parts
      have hword : ∀ i, i + 1 < 16 → word b i = bytesWord m.front i := fun i h => m.bytesWord_front h
      have hlong : ∀ i, i + 3 < 16 → long b i = bytesLong m.front i := fun i h => m.bytesLong_front h
      have hbyte : ∀ i, i < 16 → b.getD i 0#8 = m.front.getD i 0#8 := fun i h => m.bytes_front h
      have hset : word b 4 = partBits 0 m.parts := by
        simp only [hword, Nat.reduceAdd, Nat.reduceLT]
        simp only [m.front_eq, bytesWord, Nat.reduceAdd, List.getD_cons_succ, List.getD_cons_zero, Word.ofBytes_halves]
      refine ⟨?_, ?_, ?_, ?_, fun k hk => ?_, ?_, ?_, ?_, fun i => ?_⟩
      · rw [m.length_bytes, htext]
        rfl
      case refine_5 =>
        rw [hset, partBits_getLsbD]
        simp [hk]
      case refine_9 => rw [m.bytes_text, htext]
      all_goals
        simp only [hword, hlong, hbyte, Nat.reduceAdd, Nat.reduceLT]
        simp only [m.front_eq, bytesLong, bytesWord, Nat.reduceAdd, List.getD_cons_succ, List.getD_cons_zero, Word.ofBytes_halves,
          DWord.ofWords_halves, Word.ofBytes_zero, m.flags_eq, htext]
      rfl

end Sys2Proof.Machine
end

section
/-! PROOFS. The ends of an outbound fetch, of an outbound completion and of an OPEN check (R108, R128, R131, R132, R136, R144, R203). -/

namespace Sys2Proof.Machine

/-! ## What the events of an OPEN ring start -/

/-- The fetch that an event of R131 begins, if any. -/
theorem State.lookForRecord_eq (s : State) :
    (s.msgs.outbound.state = .open ∧ s.msgs.flight = .none ∧ s.msgs.outbound.theirs ≠ s.msgs.outbound.own →
      s.lookForRecord = { s with
        msgs := { s.msgs with flight := .fetching .reading },
        path := { s.path with queue := s.path.queue ++ [⟨.outboundFetch, s.path.buffer.length⟩] } }) ∧
    (¬(s.msgs.outbound.state = .open ∧ s.msgs.flight = .none ∧ s.msgs.outbound.theirs ≠ s.msgs.outbound.own) → s.lookForRecord = s) := by
  have hcond : (s.msgs.outbound.state == .open && s.msgs.flight == .none && s.msgs.outbound.theirs != s.msgs.outbound.own) = true ↔
      s.msgs.outbound.state = .open ∧ s.msgs.flight = .none ∧ s.msgs.outbound.theirs ≠ s.msgs.outbound.own := by
    simp [and_assoc]
  exact ⟨fun h => if_pos (hcond.2 h), fun h => if_neg (mt hcond.1 h)⟩

/-! ## The end of a fetch and of a completion -/

/-- The state in which the next record is looked for (R136). -/
def State.completionWritten (c : OutCompletion) (s : State) : State :=
  { s with
    msgs := { s.msgs with
      flight := .none, lastOut := ⟨c.outcome, c.tag⟩
      outbound := { s.msgs.outbound with
        own := BitVec.ofNat 16 c.after
        state := if s.msgs.outbound.state = .closing then .closed else s.msgs.outbound.state } }
    page := (s.raise .msgOutDone).page, pins := { s.pins with attn := (s.raise .msgOutDone).pins.attn } }

theorem State.endCompletion_eq {s : State} {c : OutCompletion} (h : s.msgs.flight = .completing c) :
    s.endCompletion = (s.completionWritten c).lookForRecord := by
  have hraise := State.raise_of_same (s := s) (t := State.moveOwn .outbound c.after
    { s with msgs := { s.msgs with flight := .none, lastOut := ⟨c.outcome, c.tag⟩ } }) .msgOutDone rfl rfl
  have hend : s.endCompletion = State.lookForRecord (State.closeIfClosing (State.raise .msgOutDone
      (State.moveOwn .outbound c.after { s with msgs := { s.msgs with flight := .none, lastOut := ⟨c.outcome, c.tag⟩ } }))) := by
    simp [State.endCompletion, h]
  rw [hend, hraise, State.closeIfClosing_eq]
  congr 1
  unfold State.completionWritten State.moveOwn State.setRing MessageEngine.setRing MessageEngine.ring
  dsimp only
  split <;> rfl

/-- Settles O32: each end of the fetch, and of the completion. -/
theorem fetchAndCompletionEnd : Obligations.FetchAndCompletionEnd := by
  refine ⟨?_, ?_, ?_⟩
  · intro s u v hr hh hu hc hcauses hk hf hv
    cases v with
    | reading => exact absurd rfl hv
    | rejected c =>
      have hend : State.endFetch s.endOperation = State.completeOutbound c s.endOperation := by
        simp [State.endFetch, State.endOperation, hf]
      obtain ⟨sc, ra, hlong⟩ := State.settleLong_eq (State.requestWrite .outboundCompletion
        { s.endOperation with msgs := { s.msgs with flight := .completing c }, radio := s.radio.leaveText })
      have hx := hend.trans hlong
      refine ⟨_, congrArg Host.Outcome.next (State.complete_uncaused hr hu hk hc hcauses hx hh rfl), rfl, rfl, rfl, rfl, rfl, rfl, rfl, rfl,
        fun c' h => ?_, fun m h => ?_⟩
      · cases h
        exact ⟨rfl, rfl⟩
      · cases h
    | passed m =>
      have hend : State.endFetch s.endOperation = State.settleLong { s.endOperation with msgs := { s.msgs with flight := .flight m } } := by
        simp [State.endFetch, State.endOperation, hf]
      obtain ⟨sc, ra, hlong⟩ := State.settleLong_eq { s.endOperation with msgs := { s.msgs with flight := .flight m } }
      have hx := hend.trans hlong
      refine ⟨_, congrArg Host.Outcome.next (State.complete_uncaused hr hu hk hc hcauses hx hh rfl), rfl, rfl, rfl, rfl, rfl, rfl, rfl, rfl,
        fun c h => ?_, fun m' h => ?_⟩
      · cases h
      · cases h
        exact ⟨rfl, rfl⟩
  · intro s u hr hh hu hc hcauses hk hf
    have hend : State.endFetch s.endOperation = s.endOperation := by
      simp [State.endFetch, State.endOperation, hf]
    exact congrArg Host.Outcome.next (State.complete_uncaused hr hu hk hc hcauses hend hh rfl)
  · intro s u c hr hh hu hc hcauses hk hf
    have hend : State.endCompletion s.endOperation = State.lookForRecord (s.endOperation.completionWritten c) :=
      State.endCompletion_eq (s := s.endOperation) hf
    have hraise := State.raise_endOperation .msgOutDone s
    have hraises : s.raises (s.endOperation.completionWritten c) 0x08#13 :=
      State.raises_to (State.raise_raises .msgOutDone s) (show (s.endOperation.raise .msgOutDone).page = _ by rw [hraise]; rfl)
        (show (s.endOperation.raise .msgOutDone).pins.attn = _ by rw [hraise]; rfl)
    obtain ⟨hlooks, hstays⟩ := State.lookForRecord_eq (s.endOperation.completionWritten c)
    have hstate : ∀ st : RingState, (if st = .closing then .closed else st) = .open ↔ st = .open := fun st => by
      cases st <;> simp
    have hcond : ((s.endOperation.completionWritten c).msgs.outbound.state = .open ∧ (s.endOperation.completionWritten c).msgs.flight = .none ∧
          (s.endOperation.completionWritten c).msgs.outbound.theirs ≠ (s.endOperation.completionWritten c).msgs.outbound.own) ↔
        s.msgs.outbound.state = .open ∧ s.msgs.outbound.theirs ≠ BitVec.ofNat 16 c.after :=
      ⟨fun ⟨h1, _, h2⟩ => ⟨(hstate _).1 h1, h2⟩, fun ⟨h1, h2⟩ => ⟨(hstate _).2 h1, rfl, h2⟩⟩
    rw [hcond] at hlooks hstays
    by_cases hnext : s.msgs.outbound.state = .open ∧ s.msgs.outbound.theirs ≠ BitVec.ofNat 16 c.after
    · have hx := hend.trans (hlooks hnext)
      exact ⟨_, congrArg Host.Outcome.next (State.complete_uncaused hr hu hk hc hcauses hx hh rfl), hraises, rfl, rfl, rfl, rfl,
        (if_pos hnext).symm, rfl, rfl, rfl, rfl, rfl⟩
    · have hx := hend.trans (hstays hnext)
      exact ⟨_, congrArg Host.Outcome.next (State.complete_uncaused hr hu hk hc hcauses hx hh rfl), hraises, rfl, rfl, rfl, rfl,
        (if_neg hnext).symm, rfl, rfl, rfl, rfl, rfl⟩

/-! ## The OPEN check (R128) -/

/-- Two rings share a byte. -/
theorem Descriptor.overlaps_iff (a b : Descriptor) :
    a.overlaps b = true ↔ ∃ x, (a.base.toNat ≤ x ∧ x < a.base.toNat + a.size.toNat) ∧
      b.base.toNat ≤ x ∧ x < b.base.toNat + b.size.toNat := by
  simp only [Descriptor.overlaps, decide_eq_true_eq]
  exact ⟨fun h => ⟨max a.base.toNat b.base.toNat, by omega⟩, fun ⟨x, h⟩ => by omega⟩

theorem State.claims_overlap_iff (id : RingId) (d : Descriptor) (s : State) :
    allRings.any (fun k => k != id && (s.ringClaims k).any d.overlaps) = true ↔
      ∃ k, k ≠ id ∧ ∃ e ∈ s.ringClaims k, ∃ x, (d.base.toNat ≤ x ∧ x < d.base.toNat + d.size.toNat) ∧
        e.base.toNat ≤ x ∧ x < e.base.toNat + e.size.toNat := by
  simp only [List.any_eq_true, mem_allRings, true_and, Bool.and_eq_true, bne_iff_ne, Descriptor.overlaps_iff]

theorem validPointer_iff (d p : Nat) : validPointer d p = true ↔ p % 4 = 0 ∧ p < d := by
  simp [validPointer]

/-- The pointers of the header are not those of a ring that may open. -/
theorem pointersBad_iff (id : RingId) (d : Nat) (input output : Word) :
    (!(validPointer d input.toNat && validPointer d output.toNat && (id == .outbound || input == output))) = true ↔
      ¬((input.toNat % 4 = 0 ∧ input.toNat < d) ∧ (output.toNat % 4 = 0 ∧ output.toNat < d) ∧ (id = .outbound ∨ input = output)) := by
  rw [Bool.not_eq_true', Bool.eq_false_iff, ne_eq, Bool.and_eq_true, Bool.and_eq_true, validPointer_iff, validPointer_iff, Bool.or_eq_true,
    beq_iff_eq, beq_iff_eq, and_assoc]

/-- The first check that fails gives the outcome (R128). -/
theorem State.openOutcome_first (id : RingId) (d : Descriptor) (h : HeaderWords) (s : State) :
    let size := d.size.toNat
    let sizeBad := size < 256 ∨ 8192 < size ∨ size % 16 ≠ 0
    let alignBad := d.base.toNat % 16 ≠ 0
    let outside := d.base.toNat < 0x0A00 ∨ 0x4000 < d.base.toNat + size
    let overlap := ∃ k, k ≠ id ∧ ∃ e ∈ s.ringClaims k, ∃ x, (d.base.toNat ≤ x ∧ x < d.base.toNat + size) ∧
      e.base.toNat ≤ x ∧ x < e.base.toNat + e.size.toNat
    let pointersBad := ¬((h.input.toNat % 4 = 0 ∧ h.input.toNat < size - 4) ∧ (h.output.toNat % 4 = 0 ∧ h.output.toNat < size - 4) ∧
      (id = .outbound ∨ h.input = h.output))
    let o := s.openOutcome id d h
    (sizeBad → o = .size) ∧ (¬sizeBad ∧ alignBad → o = .align) ∧ (¬sizeBad ∧ ¬alignBad ∧ outside → o = .outside) ∧
      (¬sizeBad ∧ ¬alignBad ∧ ¬outside ∧ overlap → o = .overlap) ∧
      (¬sizeBad ∧ ¬alignBad ∧ ¬outside ∧ ¬overlap ∧ pointersBad → o = .pointers) ∧
      (¬sizeBad ∧ ¬alignBad ∧ ¬outside ∧ ¬overlap ∧ ¬pointersBad → o = .taken) := by
  intro size sizeBad alignBad outside overlap pointersBad o
  have hoverlap := State.claims_overlap_iff id d s
  have hpointers := pointersBad_iff id d.dataSize h.input h.output
  refine ⟨fun h1 => if_pos h1, fun ⟨h1, h2⟩ => (if_neg h1).trans (if_pos h2),
    fun ⟨h1, h2, h3⟩ => (if_neg h1).trans ((if_neg h2).trans (if_pos h3)),
    fun ⟨h1, h2, h3, h4⟩ => (if_neg h1).trans ((if_neg h2).trans ((if_neg h3).trans (if_pos (hoverlap.2 h4)))),
    fun ⟨h1, h2, h3, h4, h5⟩ => (if_neg h1).trans ((if_neg h2).trans ((if_neg h3).trans ((if_neg (mt hoverlap.1 h4)).trans
      (if_pos (hpointers.2 h5))))),
    fun ⟨h1, h2, h3, h4, h5⟩ => (if_neg h1).trans ((if_neg h2).trans ((if_neg h3).trans ((if_neg (mt hoverlap.1 h4)).trans
      (if_neg (mt hpointers.1 h5)))))⟩

/-- A header read has no part in what the rings claim. -/
theorem State.ringClaims_endOperation {s : State} {u : UnderWay} {id : RingId} (hu : s.path.under = some u) (hk : u.kind = .headerRead id)
    (k : RingId) : s.endOperation.ringClaims k = s.ringClaims k := by
  cases k <;> simp [State.ringClaims, State.depositPlan, State.depositWritten, State.endOperation, hu, hk]

theorem State.openOutcome_of_claims {s t : State} (id : RingId) (d : Descriptor) (h : HeaderWords)
    (hc : ∀ k, t.ringClaims k = s.ringClaims k) : t.openOutcome id d h = s.openOutcome id d h := by
  simp only [State.openOutcome, hc]

theorem exec_headerRead {s x : State} {u : UnderWay} {id : RingId} (hr : s.running = true) (hu : s.path.under = some u)
    (hc : u.cycles = []) (hcauses : u.causes = []) (hk : u.kind = .headerRead id)
    (hx : State.endOpenCheck id (headerWords u.got) s.endOperation = x) (hheld : x.path.held = []) (hunder : x.path.under = none) :
    exec .openCheckHeaderReadComplete s = .next x := by
  have hid : s.finishedHeader = some id := by simp [State.finishedHeader, hu, hk]
  refine congrArg Host.Outcome.next ?_
  rw [hid]
  exact State.complete_uncaused hr hu hk hc hcauses hx hheld hunder

theorem State.setRing_ring (id : RingId) (r : Ring) (s : State) : (s.setRing id r).msgs.ring id = r :=
  MessageEngine.ring_set s.msgs id r

/-- Settles O33: the check that fails, or what the OPEN ring starts. -/
theorem openCheckJudgesTheRing : Obligations.OpenCheckJudgesTheRing := by
  intro s u id d hr hh hu hc hcauses hk hd hclosed size input output sizeBad alignBad outside overlap pointersBad stops
  have hfirst := State.openOutcome_first id d (headerWords u.got) s
  have hclaims := State.openOutcome_of_claims id d (headerWords u.got) (State.ringClaims_endOperation hu hk)
  obtain ⟨h1, h2, h3, h4, h5, h6⟩ := hfirst
  by_cases ho : s.openOutcome id d (headerWords u.got) = .taken
  · have hend : State.endOpenCheck id (headerWords u.got) s.endOperation =
        State.pointerMoved id (s.endOperation.setRing id ((s.msgs.ring id).opened id d (headerWords u.got))) := by
      have hd' : (s.endOperation.msgs.ring id).check = some d := hd
      simp only [State.endOpenCheck, hd', hclaims, if_pos ho]
      rfl
    cases id with
    | outbound =>
      obtain ⟨hlooks, hstays⟩ := State.lookForRecord_eq
        (s.endOperation.setRing .outbound ((s.msgs.ring .outbound).opened .outbound d (headerWords u.got)))
      by_cases hnext : s.msgs.flight = .none ∧ input ≠ output
      · have hx := hend.trans (hlooks ⟨rfl, hnext⟩)
        exact ⟨_, _, exec_headerRead hr hu hc hcauses hk hx hh rfl, rfl, rfl, rfl, rfl, rfl, rfl, congrArg (Result.mk 1#16) ho.symm, rfl,
          h1, h2, h3, h4, h5, h6, fun hn => absurd ho hn, fun _ => ⟨rfl, rfl, rfl, fun hn => absurd rfl hn, fun _ => ⟨rfl, rfl⟩⟩,
          fun _ hi => absurd hi (by decide), fun _ _ => ⟨rfl, rfl, rfl, fun _ => ⟨rfl, rfl⟩, fun hn => absurd hnext hn⟩, fun _ hi => absurd hi (by decide)⟩
      · have hx := hend.trans (hstays fun hn => hnext hn.2)
        exact ⟨_, _, exec_headerRead hr hu hc hcauses hk hx hh rfl, rfl, rfl, rfl, rfl, rfl, rfl, congrArg (Result.mk 1#16) ho.symm, rfl,
          h1, h2, h3, h4, h5, h6, fun hn => absurd ho hn, fun _ => ⟨rfl, rfl, rfl, fun hn => absurd rfl hn, fun _ => ⟨rfl, rfl⟩⟩,
          fun _ hi => absurd hi (by decide), fun _ _ => ⟨rfl, rfl, rfl, fun hn => absurd hn hnext, fun _ => ⟨rfl, rfl⟩⟩, fun _ hi => absurd hi (by decide)⟩
    | inbound =>
      generalize hq : s.endOperation.setRing .inbound ((s.msgs.ring .inbound).opened .inbound d (headerWords u.got)) = x at hend
      obtain ⟨hpage, hattn, hmsgs, -, hflows, -⟩ := State.evaluateFlow_spec x
      have hring : x.msgs.inbound = (s.msgs.ring .inbound).opened .inbound d (headerWords u.got) := by rw [← hq]; rfl
      have hpath : x.evaluateFlow.path = { s.path with under := none } := by rw [← hq]; simp [State.endOperation, State.setRing]
      rw [hring] at hflows
      have ht : x.evaluateFlow.msgs.ring .inbound = (s.msgs.ring .inbound).opened .inbound d (headerWords u.got) := by
        rw [hmsgs]
        exact hring
      refine ⟨_, _, exec_headerRead hr hu hc hcauses hk hend (by rw [State.pointerMoved, hpath]; exact hh)
        (by rw [State.pointerMoved, hpath]), ?_, ?_, ?_, ?_, ?_, ?_, ?_, ?_,
        h1, h2, h3, h4, h5, h6, fun hn => absurd ho hn, fun _ => ⟨?_, ?_, ?_, fun _ => ⟨?_, ?_⟩, fun hi => absurd hi (by decide)⟩,
        fun _ _ => ⟨?_, ?_, hpath, ?_⟩, fun _ hi => absurd hi (by decide), fun _ hi => absurd hi (by decide)⟩
      all_goals rw [State.pointerMoved]
      · simp [← hq, State.endOperation, State.setRing]
      · simp [← hq, State.endOperation, State.setRing]
      · simp [← hq, State.endOperation, State.setRing]
      · simp [← hq, State.endOperation, State.setRing]
      · simp [← hq, State.endOperation, State.setRing]
      · simp [← hq, State.endOperation, State.setRing]
      · rw [ht]
        exact congrArg (Result.mk 1#16) ho.symm
      · rw [ht]
        rfl
      · rw [ht]
        rfl
      · rw [ht]
        rfl
      · rw [hpage, ← hq]
        rfl
      · rw [ht]
        rfl
      · rw [ht]
        rfl
      · exact State.flows_of_same (hflows rfl) (by rw [← hq]; rfl) (by rw [← hq]; rfl) (by rw [← hq]; rfl) (by rw [← hq]; rfl)
          (by rw [← hq]; rfl) (by rw [← hq]; rfl)
      · rw [ht, hmsgs, ← hq]
        rfl
      · simp [← hq, State.endOperation, State.setRing]
    | triplog =>
      by_cases hserves : ∃ record rest plan, s.trips.deposit = none ∧ s.trips.pendingLog = record :: rest ∧
          ((s.msgs.ring .triplog).opened .triplog d (headerWords u.got)).plan record.bytes = some plan
      · obtain ⟨record, rest, plan, hdeposit, hlog, hplan⟩ := hserves
        obtain ⟨-, hserve⟩ := State.servePending_eq
          (s := s.endOperation.setRing .triplog ((s.msgs.ring .triplog).opened .triplog d (headerWords u.got))) hdeposit
        have hx := hend.trans ((hserve record rest hlog).2 plan hplan)
        refine ⟨_, _, exec_headerRead hr hu hc hcauses hk hx hh rfl, rfl, rfl, rfl, rfl, rfl, rfl, congrArg (Result.mk 1#16) ho.symm, rfl,
          h1, h2, h3, h4, h5, h6, fun hn => absurd ho hn, fun _ => ⟨rfl, rfl, rfl, fun _ => ⟨rfl, rfl⟩, fun hi => absurd hi (by decide)⟩,
          fun _ hi => absurd hi (by decide), fun _ hi => absurd hi (by decide), fun _ _ => ⟨rfl, rfl, ?_, fun hn => ?_⟩⟩
        · intro record' rest' plan' _ hlog' hplan'
          obtain ⟨rfl, rfl⟩ := List.cons.inj (hlog.symm.trans hlog')
          obtain rfl := Option.some.inj (hplan.symm.trans hplan')
          exact ⟨rfl, rfl⟩
        · exact absurd (hplan.symm.trans (hn hdeposit record rest hlog)) (by simp)
      · have hstays : State.servePending (s.endOperation.setRing .triplog ((s.msgs.ring .triplog).opened .triplog d (headerWords u.got))) =
            s.endOperation.setRing .triplog ((s.msgs.ring .triplog).opened .triplog d (headerWords u.got)) := by
          refine State.servePending_waits fun hdeposit record rest hlog => ?_
          refine Option.eq_none_iff_forall_ne_some.2 fun plan hplan => hserves ⟨record, rest, plan, hdeposit, hlog, hplan⟩
        have hx := hend.trans hstays
        exact ⟨_, _, exec_headerRead hr hu hc hcauses hk hx hh rfl, rfl, rfl, rfl, rfl, rfl, rfl, congrArg (Result.mk 1#16) ho.symm, rfl,
          h1, h2, h3, h4, h5, h6, fun hn => absurd ho hn, fun _ => ⟨rfl, rfl, rfl, fun _ => ⟨rfl, rfl⟩, fun hi => absurd hi (by decide)⟩,
          fun _ hi => absurd hi (by decide), fun _ hi => absurd hi (by decide), fun _ _ => ⟨rfl, rfl,
            fun record rest plan hdeposit hlog hplan => absurd ⟨record, rest, plan, hdeposit, hlog, hplan⟩ hserves, fun _ => ⟨rfl, rfl⟩⟩⟩
  · have hd' : (s.endOperation.msgs.ring id).check = some d := hd
    have hend : State.endOpenCheck id (headerWords u.got) s.endOperation =
        State.raise .illegal (s.endOperation.setRing id
          { s.msgs.ring id with check := none, result := ⟨codeRingOpen, s.openOutcome id d (headerWords u.got)⟩ }) := by
      simp only [State.endOpenCheck, hd', hclaims, if_neg ho]
      rfl
    have hx := hend.trans (State.raise_of_same (s := s) .illegal rfl rfl)
    have hring := State.setRing_ring id
      { s.msgs.ring id with check := none, result := ⟨codeRingOpen, s.openOutcome id d (headerWords u.got)⟩ } s.endOperation
    refine ⟨_, s.openOutcome id d (headerWords u.got), exec_headerRead hr hu hc hcauses hk hx hh rfl, rfl, rfl, rfl, rfl, rfl, rfl, ?_, ?_,
      h1, h2, h3, h4, h5, h6, fun _ => ⟨?_, State.raises_to (State.raise_raises .illegal s) rfl rfl, ?_, rfl, rfl, rfl⟩,
      fun h => absurd h ho, fun h => absurd h ho, fun h => absurd h ho, fun h => absurd h ho⟩
    · exact congrArg Ring.result hring
    · exact congrArg Ring.check hring
    · exact (congrArg Ring.state hring).trans hclosed
    · exact (congrArg (s.msgs.setRing id) hring).symm

end Sys2Proof.Machine
end

section
/-! PROOFS. Logon, shift control, zone and position (R2, R3, R7 to R11, R84, R87, R114, R117, R118). -/

namespace Sys2Proof.Machine

/-! ## A field of the processor -/

/-- A write of a WATCHED field that is taken at once is posted and handed to the field's owner (R188, R190). -/
theorem State.writeAt_owner {s : State} {o : Nat} {l : Lanes} (d : Word) (hs : s.writesFree = true) (he : o % 2 = 0) (ho : o < 0x4000)
    (hl : laneAny l = true) (ht : ∀ hi, s.readyTreatment (fieldAt o) hi = .watched) :
    ∃ b, s.path.post (pageAddress s.path.asel o) l d = some { s.path with buffer := b } ∧
      s.writeAt o l d = State.takeWatched (fieldAt o) l d { s with path := { s.path with buffer := b } } := by
  have hw : ∀ hi, s.treatment (fieldAt o) hi = .watched := fun hi => by
    rw [State.treatment_ready (State.writesFree_ready hs)]
    exact ht hi
  exact State.writeAt_watched hs he ho hl (fun _ => hw _) (fun _ => hw _)

theorem State.handOn_handsOn {s t : State} (hsched : t.sched = s.sched) (hpower : t.power = s.power) : s.handsOn t.handOn := by
  rw [State.handOn_eq]
  refine ⟨?_, rfl, rfl, rfl⟩
  rw [← hsched, ← hpower]
  rfl

theorem State.cyclesFree_running {s : State} (h : s.cyclesFree = true) :
    s.running = true ∧ s.path.resetDrain = false ∧ s.path.held = [] ∧ s.power.startUp = .ready := by
  obtain ⟨hready, hdrain, hheld⟩ := (State.cyclesFree_iff s).1 h
  obtain ⟨hreset, hstart⟩ := (State.ready_iff s).1 hready
  exact ⟨by simp [State.running, hreset], hdrain, hheld, hstart⟩

/-- A write of a GUARDED word of the cab area is dropped (R189). -/
theorem exec_processorWrite_guarded {s : State} {o : Nat} {l : Lanes} (d : Word) (hs : s.cyclesFree = true) (he : o % 2 = 0) (ho : o < 0x4000)
    (hl : laneAny l = true) (ht : ∀ hi, s.readyTreatment (fieldAt o) hi = .guarded) :
    ∃ t, exec (.processorWrite (pageAddress s.path.asel o) l d) s = .next t ∧ s.dropsWrite t := by
  obtain ⟨hr, hd, hh, hstart⟩ := State.cyclesFree_running hs
  refine ⟨_, State.processorWrite_guarded d hr hd hh hl (fun hi _ => ?_), State.guardHit_drops s⟩
  rw [State.laneTreatment_pageAddress he ho, State.treatment_ready hstart]
  exact ht hi

/-! ## Logon (R3) -/

/-- Settles O34: the driver ID field is GUARDED, or the write opens or joins the shift. -/
theorem logonOpensOrJoinsTheShift : Obligations.LogonOpensOrJoinsTheShift := by
  constructor
  · intro s l d hs hl hopen hid
    have ht : ∀ hi, s.readyTreatment (fieldAt 0x36) hi = .guarded := fun _ =>
      if_neg (by rw [(State.driverWatched_eq_false s).2 ⟨hopen, hid⟩]; simp)
    exact exec_processorWrite_guarded d hs rfl (by decide) hl ht
  · intro s l d hs hl hnone w totals
    have hwatched : s.driverWatched = true := by
      obtain h | h := hnone <;> simp [State.driverWatched, h]
    obtain ⟨b, hp, hw⟩ := State.writeAt_owner d hs rfl (by decide) hl (o := 0x36) fun _ => if_pos hwatched
    have hexec : exec (.logon l d) s = .next (State.driverWrite l d { s with path := { s.path with buffer := b } }) :=
      congrArg Host.Outcome.next hw
    have hwrite : State.driverWrite l d { s with path := { s.path with buffer := b } } =
        if w = 0#16 then { s with path := { s.path with buffer := b }, status := { s.status with driverCopy := w } }
        else if s.status.shiftOpen = true then
          State.attachDriver w { s with path := { s.path with buffer := b }, status := { s.status with driverCopy := w } }
        else State.setStatus .free
          (State.openShift w false { s with path := { s.path with buffer := b }, status := { s.status with driverCopy := w } }) := rfl
    by_cases h0 : w = 0#16
    · rw [if_pos h0] at hwrite
      rw [hwrite] at hexec
      exact ⟨_, hexec, hp, rfl, rfl, rfl, ⟨rfl, rfl, rfl, rfl⟩, rfl, rfl, rfl, rfl, rfl, rfl, fun _ => ⟨rfl, rfl, rfl, rfl⟩,
        fun h => absurd h0 h, fun h => absurd h0 h, fun h => absurd h0 h⟩
    · by_cases hopen : s.status.shiftOpen = true
      · rw [if_neg h0, if_pos hopen, State.attachDriver, State.handOn_eq] at hwrite
        rw [hwrite] at hexec
        exact ⟨_, hexec, hp, rfl, rfl, rfl, ⟨rfl, rfl, rfl, rfl⟩, rfl, rfl, rfl, rfl, rfl, rfl, fun h => absurd h h0,
          fun _ => ⟨rfl, rfl, rfl, rfl⟩, fun _ h => absurd hopen (by simp [h]), fun _ _ => ⟨rfl, rfl⟩⟩
      · rw [if_neg h0, if_neg hopen, State.setStatus, State.handOn_eq] at hwrite
        rw [hwrite] at hexec
        exact ⟨_, hexec, hp, rfl, rfl, rfl, ⟨rfl, rfl, rfl, rfl⟩, rfl, rfl, rfl, rfl, rfl, rfl, fun h => absurd h h0,
          fun _ => ⟨rfl, rfl, rfl, rfl⟩, fun _ _ => ⟨rfl, rfl⟩, fun _ h => absurd h hopen⟩

/-! ## Zone and position (R9, R10) -/

/-- Settles O37: each of the five writes. -/
theorem zoneAndPositionTakeEffect : Obligations.ZoneAndPositionTakeEffect := by
  intro s l d hs hl rest first second
  refine ⟨fun hlo => ?_, fun hlo => ?_, ?_, ?_, ?_, ?_⟩
  · have hzone : s.treatment (fieldAt 0x60) false = .watched := State.treatment_ready (State.writesFree_ready hs) _ _
    have hbeside : s.treatment (fieldAt 0x60) true = .plain := State.treatment_ready (State.writesFree_ready hs) _ _
    obtain ⟨b, hp, hw⟩ := State.writeAt_posted (d := d) hs rfl (by decide) hl (o := 0x60) (fun _ => by rw [hzone]; decide)
      (fun _ => by rw [hbeside]; decide)
    have hany : laneAny (s.lanesOf .watched (pageAddress s.path.asel 0x60) l) = true := by
      simp [laneAny, State.lanesOf, State.laneTreatment_pageAddress, hzone, hlo]
    rw [if_pos hany, show State.takeWatched (fieldAt 0x60) _ d _ = State.zoneByte d _ from rfl, State.zoneByte, State.handOn_eq] at hw
    exact ⟨_, congrArg Host.Outcome.next hw, hp, ⟨rfl, rfl, rfl, rfl, rfl, rfl, rfl, rfl, rfl, rfl, rfl, rfl, rfl, rfl⟩,
      ⟨rfl, rfl, rfl, rfl⟩, rfl⟩
  · have hzone : s.treatment (fieldAt 0x60) false = .watched := State.treatment_ready (State.writesFree_ready hs) _ _
    have hbeside : s.treatment (fieldAt 0x60) true = .plain := State.treatment_ready (State.writesFree_ready hs) _ _
    obtain ⟨b, hp, hw⟩ := State.writeAt_posted (d := d) hs rfl (by decide) hl (o := 0x60) (fun _ => by rw [hzone]; decide)
      (fun _ => by rw [hbeside]; decide)
    have hany : laneAny (s.lanesOf .watched (pageAddress s.path.asel 0x60) l) = false := by
      simp [laneAny, State.lanesOf, State.laneTreatment_pageAddress, hbeside, hlo]
    rw [if_neg (by simp [hany])] at hw
    exact ⟨_, congrArg Host.Outcome.next hw, hp, ⟨rfl, rfl, rfl, rfl, rfl, rfl, rfl, rfl, rfl, rfl, rfl, rfl, rfl, rfl⟩, rfl, rfl, rfl⟩
  · obtain ⟨b, hp, hw⟩ := State.writeAt_owner d hs rfl (by decide) hl (o := 0x64) fun _ => rfl
    exact ⟨_, congrArg Host.Outcome.next hw, hp, ⟨rfl, rfl, rfl, rfl, rfl, rfl, rfl, rfl, rfl, rfl, rfl, rfl, rfl, rfl⟩, rfl, rfl, rfl⟩
  · obtain ⟨b, hp, hw⟩ := State.writeAt_owner d hs rfl (by decide) hl (o := 0x68) fun _ => rfl
    exact ⟨_, congrArg Host.Outcome.next hw, hp, ⟨rfl, rfl, rfl, rfl, rfl, rfl, rfl, rfl, rfl, rfl, rfl, rfl, rfl, rfl⟩, rfl, rfl, rfl⟩
  · obtain ⟨b, hp, hw⟩ := State.writeAt_owner d hs rfl (by decide) hl (o := 0x66) fun _ => rfl
    exact ⟨_, congrArg Host.Outcome.next hw, hp, ⟨rfl, rfl, rfl, rfl, rfl, rfl, rfl, rfl, rfl, rfl, rfl, rfl, rfl, rfl⟩, rfl, rfl, rfl⟩
  · obtain ⟨b, hp, hw⟩ := State.writeAt_owner d hs rfl (by decide) hl (o := 0x6A) fun _ => rfl
    rw [show State.takeWatched (fieldAt 0x6A) l d _ = State.coordinateHigher .second l d _ from rfl, State.coordinateHigher,
      State.handOn_eq] at hw
    exact ⟨_, congrArg Host.Outcome.next hw, hp, ⟨rfl, rfl, rfl, rfl, rfl, rfl, rfl, rfl, rfl, rfl, rfl, rfl, rfl, rfl⟩,
      ⟨rfl, rfl, rfl, rfl⟩, rfl⟩

/-! ## Shift control (R7, R8) -/

/-- The order in which R7 has a request checked. -/
theorem State.shiftOutcome_eq (w : Word) (s : State) :
    s.shiftOutcome w =
      if w = 1#16 then
        (if s.status.shiftOpen = false then .noShift else if s.emerg.state ≠ .clear then .emergency
         else if s.trips.trip.isSome then .openTrip else .taken)
      else if w = 2#16 then
        (if s.status.shiftOpen = false then .noShift
         else if s.trips.trip.any (fun t => t.flags.meterFault) then .taken else .notAllowed)
      else .notValid := by
  simp only [State.shiftOutcome, codeClose, codeCloseTrip, bne_iff_ne, Bool.not_eq_true']

theorem exec_shiftControl {l : Lanes} {d : Word} {c : Instr}
    (hc : (c = .close l ∧ d = 1#16) ∨ (c = .closeTrip l ∧ d = 2#16) ∨ c = .shiftControlOtherValue l d) (s : State) :
    exec c s = .next (s.writeAt 0x3E l d) := by
  rcases hc with ⟨rfl, rfl⟩ | ⟨rfl, rfl⟩ | rfl <;> rfl

/-- The part of a taken CLOSE in the Trip Engine and on the air (R117, R118). -/
theorem State.closeTotals_spec (s : State) :
    s.closeTotals.trips = { s.trips with
      captured := some ⟨s.trips.totals, s.link.clock⟩, shiftReport := some ⟨⟨s.trips.totals, s.link.clock⟩, 0, 0, false⟩ } ∧
    s.closeTotals.path = s.path.requestRewrite .totalsSnapshot ∧ s.closeTotals.offers = s.offers ∧ s.closeTotals.status = s.status ∧
    s.closeTotals.sched.bids = s.sched.bids ∧
    s.closeTotals.page.causes = s.page.causes ||| (if s.trips.shiftReport.isSome then 0x20#13 else 0#13) := by
  cases h : s.trips.shiftReport with
  | none => simp [State.closeTotals, h, State.requestRewrite]
  | some r => simp [State.closeTotals, h, State.requestRewrite, State.raise_causes, Cause.mask, Cause.bit]

/-- The bid that the closing of the table makes (R84, R87). -/
theorem State.closeOffers_bids (s : State) :
    (∀ n, s.offers.awarded = some n → ⟨(s.offers.entry n).job, .return, 0⟩ ∈ s.closeOffers.sched.bids) ∧
      ∀ n, s.offers.awarded = none → s.offers.bidding = some n → ⟨(s.offers.entry n).job, .decline, 0⟩ ∈ s.closeOffers.sched.bids := by
  refine ⟨fun n ha => ?_, fun n ha hb => ?_⟩
  · simp only [State.closeOffers, ha]
    split <;> simpa using State.addBid_mem _ _ s
  · simp only [State.closeOffers, ha, hb]
    split <;> simpa using State.addBid_mem _ _ s

/-- A taken CLOSE ends the shift (R8, R87, R117, R118). -/
theorem State.closeShift_spec (s : State) :
    s.closeShift.status = { s.status with shiftOpen := false, driverId := 0#16, meterOpened := false, status := .offDuty } ∧
    s.closeShift.trips = { s.trips with
      captured := some ⟨s.trips.totals, s.link.clock⟩, shiftReport := some ⟨⟨s.trips.totals, s.link.clock⟩, 0, 0, false⟩ } ∧
    s.closeShift.offers = s.closeOffers.offers ∧ s.closeShift.path = s.closeOffers.path.requestRewrite .totalsSnapshot ∧
    s.closeShift.sched.bids = s.closeOffers.sched.bids ∧
    s.closeShift.page.causes = s.page.causes ||| (if s.trips.shiftReport.isSome then 0x20#13 else 0#13) ∧ s.closeShift.lampLaw := by
  obtain ⟨htrips, hpath, hoffers, hstatus, hbids, hcauses⟩ := State.closeTotals_spec s.closeOffers
  have hst : s.closeOffers.status = s.status := by simp
  have htr : s.closeOffers.trips = s.trips := by simp
  have hlk : s.closeOffers.link = s.link := by simp
  have hpg : s.closeOffers.page = s.page := by simp
  rw [htr, hlk] at htrips
  rw [htr, hpg] at hcauses
  unfold State.closeShift
  rw [State.handOn_eq]
  refine ⟨?_, htrips, hoffers, hpath, hbids, hcauses, rfl, rfl, rfl⟩
  dsimp only
  rw [hstatus, hst]

/-- Settles O36: the outcome, and what a taken request does. -/
theorem shiftControlIsJudgedAndCloseEndsTheShift : Obligations.ShiftControlIsJudgedAndCloseEndsTheShift := by
  intro s l d c hc hs hl w o
  obtain ⟨b, hp, hw⟩ := State.writeAt_owner d hs rfl (by decide) hl (o := 0x3E) fun _ => rfl
  have hexec := (exec_shiftControl hc s).trans (congrArg Host.Outcome.next hw)
  have ho : o = State.shiftOutcome w { s with path := { s.path with buffer := b } } := (State.shiftOutcome_eq w _).symm
  generalize hx : ({ s with
      path := { s.path with buffer := b }, page := { s.page with shiftCopy := w }
      status := { s.status with shiftResult := ⟨w, o⟩ } } : State) = x
  have hwrite : State.takeWatched (fieldAt 0x3E) l d { s with path := { s.path with buffer := b } } =
      if o = .taken then (if w = 1#16 then x.closeShift else x.forceClose) else x.raise .refused := by
    rw [← hx, ho]
    rfl
  rw [hwrite] at hexec
  refine ⟨_, hexec, ?_, ?_, ?_, ?_, ?_, ?_, ?_, ?_, ?_⟩
  · (repeat' split) <;> simp [← hx]
  · (repeat' split) <;> simp [← hx]
  · (repeat' split) <;> simp [← hx]
  · (repeat' split) <;> simp [← hx]
  · (repeat' split) <;> simp [← hx]
  · (repeat' split) <;> simp [← hx]
  · (repeat' split) <;> simp [← hx]
  · intro hn
    rw [if_neg hn]
    refine ⟨State.posts_of hp (by simp [← hx]), by simp [← hx], by simp [← hx], by simp [← hx], by simp [← hx], by simp [← hx],
      by simp [← hx], State.raises_of (State.raise_raises .refused x) (by rw [← hx]) (by rw [← hx]), ?_, ?_⟩
    · rw [State.raise_eq, ← hx]
      exact ⟨rfl, rfl, rfl, rfl, rfl⟩
    · rw [State.raise_eq, ← hx]
  · intro htaken h1
    rw [if_pos htaken, if_pos h1]
    obtain ⟨hstatus, htrips, hoffers, hpath, hbids, hcauses, hlamps⟩ := State.closeShift_spec x
    obtain ⟨hreturn, hdecline⟩ := State.closeOffers_bids x
    obtain ⟨hempty, hfull, hone⟩ := State.closeOffers_entries x
    have hqueued : ∀ k, x.closeShift.path.queued k = (x.closeOffers.path.queued k || .totalsSnapshot == k) := fun k => by
      rw [hpath, MemoryPath.queued_requestRewrite]
    have hxo : x.offers = s.offers := by rw [← hx]
    have hxt : x.trips = s.trips := by rw [← hx]
    rw [hxo] at hreturn hdecline hempty hfull hone
    rw [hxt] at htrips hcauses
    refine ⟨?_, fun n => ?_, ?_, fun n ha => ?_, fun n ha hb => ?_, fun n hn => ?_, fun n hn => ⟨?_, ?_⟩, fun h => ?_, ?_, hlamps, ?_⟩
    · rw [hstatus, ← hx]
    · rw [hoffers]
      exact x.closeOffers_stateOf n
    · rw [htrips, ← hx]
    · rw [hbids]
      exact hreturn n ha
    · rw [hbids]
      exact hdecline n ha hb
    · rw [hoffers]
      exact hempty n hn
    · rw [hqueued, (hfull n hn).1, Bool.true_or]
    · rw [hoffers]
      exact (hfull n hn).2
    · rw [hoffers]
      exact hone h
    · rw [hcauses, ← hx]
    · rw [hqueued]
      simp

end Sys2Proof.Machine
end

section
/-! PROOFS. Power requests (R64, R135, R169, R170, R173, R174, R178). -/

namespace Sys2Proof.Machine

/-! ## The transceiver's orders -/

theorem Transceiver.apply_output (r : Transceiver) (o : Order) : (r.apply o).output = r.output := by
  cases o <;> rfl

/-- An order goes out on serial data out when it is given. -/
theorem Transceiver.give_output (r : Transceiver) (o : Order) : (r.give o).output = r.output ++ [.order o] := by
  unfold Transceiver.give
  dsimp only
  split
  · rfl
  · rw [Transceiver.apply_output]

/-- An order given while nothing is sent takes effect at once. -/
theorem Transceiver.give_idle {r : Transceiver} (o : Order) (h : r.sending = none) :
    r.give o = Transceiver.apply { r with output := r.output ++ [.order o] } o := by
  simp [Transceiver.give, h]

theorem Transceiver.leave_idle {r : Transceiver} (n : FrameName) (h : r.sending = none) : r.leave n = r := by
  simp [Transceiver.leave, h]

/-! ## Leaving the link state -/

/-- The exit from JOINED (R32, R64, R135). -/
theorem State.exitJoined_spec (s : State) :
    s.exitJoined.sched = s.sched.clearWorking ∧ s.exitJoined.page.causes = s.page.causes ||| 0x80#13 ∧ s.exitJoined.page.linkUp = false ∧
      s.exitJoined.radio = s.radio.leave .slotRequest ∧
      (∀ m, s.msgs.flight = .flight m → s.exitJoined.msgs = { s.msgs with flight := .flight { m with next := 0 } }) ∧
      ((∀ m, s.msgs.flight ≠ .flight m) → s.exitJoined.msgs = s.msgs) := by
  unfold State.exitJoined
  refine ⟨by simp, ?_, by simp, by simp, fun m h => ?_, fun h => ?_⟩
  · rw [State.raise_causes]
    simp [Cause.mask, Cause.bit]
  · simp [State.exitToMessages, State.restartMessage, State.changeFlight, h]
  · cases hf : s.msgs.flight <;> simp_all [State.exitToMessages, State.restartMessage, State.changeFlight]

/-- What the exit of each link state does besides the link itself (R32, R64). -/
theorem State.exitLink_of (s : State) :
    (s.link.state = .joined → s.exitLink = s.exitJoined) ∧ (s.link.state = .join → s.exitLink = s.leaveJoin) ∧
      (s.link.state ≠ .joined → s.link.state ≠ .join → s.exitLink = s) := by
  unfold State.exitLink
  cases s.link.state <;> simp

theorem State.exitLink_radio (s : State) :
    s.exitLink.radio.output = s.radio.output ∧ (s.radio.sending = none → s.exitLink.radio = s.radio) := by
  obtain ⟨hjoined, hjoin, hother⟩ := State.exitLink_of s
  obtain ⟨-, -, -, hradio, -⟩ := State.exitJoined_spec s
  by_cases h1 : s.link.state = .joined
  · rw [hjoined h1, hradio]
    exact ⟨by simp, Transceiver.leave_idle _⟩
  · by_cases h2 : s.link.state = .join
    · rw [hjoin h2]
      exact ⟨by simp [State.leaveJoin], Transceiver.leave_idle _⟩
    · rw [hother h1 h2]
      exact ⟨rfl, fun _ => rfl⟩

theorem State.exitLink_page (s : State) :
    s.exitLink.page.causes = s.page.causes ||| (if s.link.state = .joined then 0x80#13 else 0#13) ∧
      s.exitLink.page.linkUp = (if s.link.state = .joined then false else s.page.linkUp) := by
  obtain ⟨hjoined, hjoin, hother⟩ := State.exitLink_of s
  obtain ⟨-, hcauses, hlink, -⟩ := State.exitJoined_spec s
  by_cases h1 : s.link.state = .joined
  · rw [hjoined h1, if_pos h1, if_pos h1]
    exact ⟨hcauses, hlink⟩
  · rw [if_neg h1, if_neg h1]
    by_cases h2 : s.link.state = .join
    · rw [hjoin h2]
      exact ⟨by simp, by simp⟩
    · rw [hother h1 h2]
      exact ⟨by simp, rfl⟩

theorem State.raise_wake (c : Cause) (s : State) :
    (s.raise c).pins.wake = s.pins.wake ∧ (s.raise c).pins.emswClosed = s.pins.emswClosed ∧ (s.raise c).pins.ign = s.pins.ign := by
  rw [State.raise_eq]
  exact ⟨rfl, rfl, rfl⟩

/-- The exit of a link state leaves WAKE and the inputs. -/
theorem State.exitLink_pins (s : State) :
    s.exitLink.pins.wake = s.pins.wake ∧ s.exitLink.pins.emswClosed = s.pins.emswClosed ∧ s.exitLink.pins.ign = s.pins.ign := by
  obtain ⟨hjoined, hjoin, hother⟩ := State.exitLink_of s
  by_cases h1 : s.link.state = .joined
  · rw [hjoined h1, State.exitJoined]
    obtain ⟨hw, he, hi⟩ := State.raise_wake .link (State.exitToMessages
      { s with sched := s.sched.clearWorking, radio := s.radio.leave .slotRequest, page := { s.page with linkUp := false } })
    rw [hw, he, hi]
    simp
  · by_cases h2 : s.link.state = .join
    · rw [hjoin h2]
      simp
    · rw [hother h1 h2]
      exact ⟨rfl, rfl, rfl⟩

/-! ## Coming up and going down -/

/-- The link off, as SLEEP leaves it (R21, R173). -/
theorem State.enterOff_spec (s : State) :
    s.enterOff.link = s.link.cleared .off ∧ s.enterOff.sched = s.exitLink.sched ∧ s.enterOff.msgs = s.exitLink.msgs ∧
      s.enterOff.page = s.exitLink.page ∧ s.enterOff.pins = s.exitLink.pins ∧
      s.enterOff.radio.output = s.radio.output ++ [.order .off] ∧ (s.radio.sending = none → s.enterOff.radio.receiverOn = false) := by
  obtain ⟨hout, hidle⟩ := State.exitLink_radio s
  refine ⟨State.enterOff_cleared s, rfl, rfl, rfl, rfl, ?_, fun h => ?_⟩
  · show (s.exitLink.radio.give .off).output = _
    rw [Transceiver.give_output, hout]
  · show (s.exitLink.radio.give .off).receiverOn = _
    rw [hidle h, Transceiver.give_idle .off h]
    rfl

/-- From OFF the link enters QUIET on the first listed channel (R22, R174). -/
theorem State.enterQuiet_fromOff {s : State} (h : s.link.state = .off) :
    s.enterQuiet true = { s with
      link := s.link.cleared .quiet, radio := (s.radio.give (.tune (s.link.channels.headD 0#16))).give .listen } := by
  simp [State.enterQuiet, State.exitLink, h, State.give, LinkController.firstChannel]

theorem State.enterActive_awake {s : State} (h : s.power.power ≠ .sleep) :
    s.enterActive = State.handOn { s with power := { s.power with power := .active, park := false } } := by
  simp [State.enterActive, h]

theorem State.enterActive_asleep {s : State} (h : s.power.power = .sleep) :
    s.enterActive = State.handOn { s.enterQuiet true with power := { s.power with power := .active, park := false } } := by
  simp [State.enterActive, h]

/-- Entry into ACTIVE (R174). -/
theorem State.enterActive_spec (s : State) :
    s.enterActive.power = { s.power with power := .active, park := false } ∧ s.enterActive.lampLaw ∧
    (s.enterActive.pins.wake = s.pins.wake ∧ s.enterActive.pins.emswClosed = s.pins.emswClosed ∧ s.enterActive.pins.ign = s.pins.ign) ∧
    (s.power.power ≠ .sleep → s.handsOn s.enterActive ∧ s.enterActive.page = s.page ∧ s.enterActive.link = s.link ∧
      s.enterActive.radio = s.radio ∧ s.enterActive.msgs = s.msgs) ∧
    (s.power.power = .sleep → s.link.state = .off →
      s.enterActive.page = s.page ∧ s.enterActive.link = s.link.cleared .quiet ∧ s.enterActive.msgs = s.msgs ∧
      s.enterActive.radio.output = s.radio.output ++ [.order (.tune (s.link.channels.headD 0#16)), .order .listen] ∧
      (s.radio.sending = none → s.enterActive.radio.channel = s.link.channels.headD 0#16 ∧ s.enterActive.radio.receiverOn = true)) := by
  refine ⟨State.enterActive_power s, ?_, ?_, fun h => ?_, fun h hl => ?_⟩
  · unfold State.enterActive
    rw [State.handOn_eq]
    exact ⟨rfl, rfl, rfl⟩
  · by_cases h : s.power.power = .sleep
    · rw [State.enterActive_asleep h, State.handOn_eq]
      have hpins : (s.enterQuiet true).pins = s.exitLink.pins := by
        unfold State.enterQuiet
        dsimp only
        (repeat' split) <;> rfl
      show (s.enterQuiet true).pins.wake = _ ∧ (s.enterQuiet true).pins.emswClosed = _ ∧ (s.enterQuiet true).pins.ign = _
      rw [hpins]
      exact State.exitLink_pins s
    · rw [State.enterActive_awake h, State.handOn_eq]
      exact ⟨rfl, rfl, rfl⟩
  · rw [State.enterActive_awake h, State.handOn_eq]
    exact ⟨⟨rfl, rfl, rfl, rfl⟩, rfl, rfl, rfl, rfl⟩
  · rw [State.enterActive_asleep h, State.enterQuiet_fromOff hl, State.handOn_eq]
    refine ⟨rfl, rfl, rfl, ?_, fun hs => ?_⟩
    · dsimp only
      rw [Transceiver.give_output, Transceiver.give_output, List.append_assoc]
      rfl
    · dsimp only
      rw [Transceiver.give_idle (.tune (s.link.channels.headD 0#16)) hs, Transceiver.give_idle .listen]
      · exact ⟨rfl, rfl⟩
      · exact hs

/-- Entry into SLEEP (R173). -/
theorem State.enterSleep_spec {s : State} (hr : s.power.startUp = .ready) :
    s.enterSleep.power = { s.power with power := .sleep } ∧ s.enterSleep.lampLaw ∧
    (s.enterSleep.pins.wake = s.pins.wake ∧ s.enterSleep.pins.emswClosed = s.pins.emswClosed ∧ s.enterSleep.pins.ign = s.pins.ign) ∧
    s.enterSleep.link = s.link.cleared .off ∧ s.enterSleep.radio.output = s.radio.output ++ [.order .off] ∧
    (s.radio.sending = none → s.enterSleep.radio.receiverOn = false) ∧ s.enterSleep.page = s.exitLink.page ∧
    s.enterSleep.msgs = s.exitLink.msgs ∧
    s.enterSleep.sched = { s.exitLink.sched with
      contention := s.exitLink.sched.contention.rest, statusPlace := some s.enterSleep.statusReport } := by
  obtain ⟨hlink, hsched, hmsgs, hpage, hpins, hout, hidle⟩ := State.enterOff_spec s
  have hpower : s.enterOff.power = s.power := by simp
  have hpins' := State.exitLink_pins s
  have hstart : s.enterOff.power.startUp = .ready := by rw [hpower, hr]
  unfold State.enterSleep
  rw [State.handOn_eq]
  refine ⟨congrArg (fun p => { p with power := .sleep }) hpower, ⟨rfl, rfl, rfl⟩, ?_, hlink, hout, hidle, hpage, hmsgs, ?_⟩
  · show s.enterOff.pins.wake = _ ∧ s.enterOff.pins.emswClosed = _ ∧ s.enterOff.pins.ign = _
    rw [hpins]
    exact hpins'
  · dsimp only
    rw [if_pos hstart, hsched]
    rfl

/-- The order in which R169 has a request checked. -/
theorem State.powerOutcome_eq (w : Word) (s : State) :
    s.powerOutcome w =
      if w = 0#16 then .taken
      else if w = 2#16 then
        (if s.power.power = .active then
          (if s.trips.trip.isSome then .hired else if s.emerg.state ≠ .clear then .emergency else .taken) else .notValid)
      else if w = 3#16 then
        (if s.power.power = .sleep then .notValid
         else if s.trips.trip.isSome then .hired else if s.emerg.state ≠ .clear then .emergency else .taken)
      else .notValid := by
  simp only [State.powerOutcome, State.downOutcome, codeActive, codeStandby, codeSleep, beq_iff_eq, bne_iff_ne]

theorem exec_powerRequest {l : Lanes} {d : Word} {c : Instr}
    (hc : (c = .powerRequestActive l ∧ d = 0#16) ∨ (c = .powerRequestStandby l ∧ d = 2#16) ∨ (c = .powerRequestSleep l ∧ d = 3#16) ∨
      c = .powerRequestOtherValue l d) (s : State) : exec c s = .next (s.writeAt 0x44 l d) := by
  rcases hc with ⟨rfl, rfl⟩ | ⟨rfl, rfl⟩ | ⟨rfl, rfl⟩ | rfl <;> rfl

/-- Settles O38: the outcome, and the power state that a taken request enters. -/
theorem powerRequestIsJudged : Obligations.PowerRequestIsJudged := by
  intro s l d c hc hs hl w down o
  have hready := State.writesFree_ready hs
  obtain ⟨b, hp, hw⟩ := State.writeAt_owner d hs rfl (by decide) hl (o := 0x44) fun _ => rfl
  have hexec := (exec_powerRequest hc s).trans (congrArg Host.Outcome.next hw)
  have ho : o = State.powerOutcome w { s with path := { s.path with buffer := b } } := (State.powerOutcome_eq w _).symm
  generalize hx : ({ s with
      path := { s.path with buffer := b }, page := { s.page with powerCopy := w }, pins := { s.pins with wake := false }
      power := { s.power with result := ⟨w, o⟩ } } : State) = x
  have hwrite : State.takeWatched (fieldAt 0x44) l d { s with path := { s.path with buffer := b } } =
      if o = .taken then (if w = 0#16 then x.enterActive else if w = 2#16 then x.enterParking else x.enterSleep) else x.raise .refused := by
    rw [← hx, ho]
    rfl
  rw [hwrite] at hexec
  have hpath : x.path = { s.path with buffer := b } := by rw [← hx]
  by_cases htaken : o = .taken
  · rw [if_pos htaken] at hexec
    by_cases h0 : w = 0#16
    · rw [if_pos h0] at hexec
      have h2 : w ≠ 2#16 := by rw [h0]; decide
      have h3 : w ≠ 3#16 := by rw [h0]; decide
      obtain ⟨hpower, hlamps, ⟨hwake, hemsw, hign⟩, hawake, hasleep⟩ := State.enterActive_spec x
      refine ⟨_, hexec, State.posts_of hp (by simp [hpath]), by simp [← hx], by simp [← hx], by simp [← hx], by simp [← hx], by simp [← hx],
        by simp [← hx], hwake.trans (by rw [← hx]), hemsw.trans (by rw [← hx]), hign.trans (by rw [← hx]), fun h => absurd htaken h,
        fun _ _ => ⟨hpower.trans (by rw [← hx]), hlamps, fun hn => ?_, fun hq hoff => ?_⟩, fun _ h => absurd h h2, fun _ h => absurd h h3⟩
      · obtain ⟨hhands, hpage, hlink, hradio, hmsgs⟩ := hawake (by rw [← hx]; exact hn)
        rw [← hx] at hhands hpage hlink hradio hmsgs ⊢
        exact ⟨hhands, hpage, hlink, hradio, hmsgs⟩
      · obtain ⟨hpage, hlink, hmsgs, hout, hidle⟩ := hasleep (by rw [← hx]; exact hq) (by rw [← hx]; exact hoff)
        rw [← hx] at hpage hlink hmsgs hout hidle ⊢
        rw [hlink]
        exact ⟨hpage, rfl, rfl, rfl, rfl, hmsgs, hout, hidle⟩
    · rw [if_neg h0] at hexec
      by_cases h2 : w = 2#16
      · have h3 : w ≠ 3#16 := by rw [h2]; decide
        rw [if_pos h2, State.enterParking, State.handOn_eq, ← hx] at hexec
        exact ⟨_, hexec, hp, rfl, rfl, rfl, rfl, rfl, rfl, rfl, rfl, rfl, fun h => absurd htaken h, fun _ h => absurd h h0,
          fun _ _ => ⟨rfl, ⟨rfl, rfl, rfl, rfl⟩, rfl, rfl, rfl, rfl⟩, fun _ h => absurd h h3⟩
      · rw [if_neg h2] at hexec
        obtain ⟨hpower, hlamps, ⟨hwake, hemsw, hign⟩, hlink, hout, hidle, hpage, hmsgs, hsched⟩ :=
          State.enterSleep_spec (s := x) (by rw [← hx]; exact hready)
        obtain ⟨hjoined, hjoin, hother⟩ := State.exitLink_of x
        obtain ⟨hjsched, -, -, -, hflight, hnoflight⟩ := State.exitJoined_spec x
        obtain ⟨hcauses, hup⟩ := State.exitLink_page x
        refine ⟨_, hexec, State.posts_of hp (by simp [hpath]), by simp [← hx], by simp [← hx], by simp [← hx], by simp [← hx],
          by simp [← hx], by simp [← hx], hwake.trans (by rw [← hx]), hemsw.trans (by rw [← hx]), hign.trans (by rw [← hx]),
          fun h => absurd htaken h, fun _ h => absurd h h0, fun _ h => absurd h h2, fun _ _ => ⟨hpower.trans (by rw [← hx]), hlamps, ?_, ?_,
            ?_, ?_, ?_, hout.trans (by rw [← hx]), fun h => hidle (by rw [← hx]; exact h), ?_, ?_, ?_, fun h => ⟨?_, ?_, ?_⟩, fun h => ⟨?_, ?_⟩,
            fun h h' => ⟨?_, ?_⟩⟩⟩
        · rw [hlink]
          rfl
        · rw [hlink]
          rfl
        · rw [hlink]
          rfl
        · rw [hlink]
          rfl
        · rw [hlink]
          rfl
        · rw [hpage, hcauses, ← hx]
        · rw [hpage, hup, ← hx]
        · rw [hsched]
        · have hj : x.link.state = .joined := by rw [← hx]; exact h
          rw [hsched, hjoined hj, hjsched, ← hx]
          rfl
        · intro m hm
          have hj : x.link.state = .joined := by rw [← hx]; exact h
          rw [hmsgs, hjoined hj, hflight m (by rw [← hx]; exact hm), ← hx]
        · intro hm
          have hj : x.link.state = .joined := by rw [← hx]; exact h
          rw [hmsgs, hjoined hj, hnoflight (by rw [← hx]; exact hm), ← hx]
        · have hj : x.link.state = .join := by rw [← hx]; exact h
          rw [hsched, hjoin hj, ← hx]
          rfl
        · have hj : x.link.state = .join := by rw [← hx]; exact h
          rw [hmsgs, hjoin hj, ← hx]
          rfl
        · have hj : x.exitLink = x := hother (by rw [← hx]; exact h) (by rw [← hx]; exact h')
          rw [hsched, hj, ← hx]
        · have hj : x.exitLink = x := hother (by rw [← hx]; exact h) (by rw [← hx]; exact h')
          rw [hmsgs, hj, ← hx]
  · rw [if_neg htaken] at hexec
    refine ⟨_, hexec, State.posts_of hp (by simp [hpath]), by simp [← hx], by simp [← hx], by simp [← hx], by simp [← hx], by simp [← hx],
      by simp [← hx], ?_, ?_, ?_, fun _ => ⟨by simp [← hx], by simp [← hx], by simp [← hx], by simp [← hx], by simp [← hx],
        State.raises_of (State.raise_raises .refused x) (by rw [← hx]) (by rw [← hx]), ?_⟩, fun h => absurd h htaken,
      fun h => absurd h htaken, fun h => absurd h htaken⟩
    · rw [State.raise_eq, ← hx]
    · rw [State.raise_eq, ← hx]
    · rw [State.raise_eq, ← hx]
    · rw [State.raise_eq, ← hx]
      exact ⟨rfl, rfl, rfl, rfl, rfl⟩

end Sys2Proof.Machine
end

section
/-! PROOFS. Ring requests and pointer writes (R108, R123, R124, R127 to R131, R142, R144). -/

namespace Sys2Proof.Machine

/-! ## The request (R128 to R130) -/

theorem State.setRing_setRing (id : RingId) (r q : Ring) (s : State) : (s.setRing id r).setRing id q = s.setRing id q :=
  congrArg (fun m => { s with msgs := m }) (MessageEngine.set_set s.msgs id r q)

/-- The state in which a ring request is judged. -/
def State.ringAsked (id : RingId) (w : Word) (s : State) : State := s.setRing id { s.msgs.ring id with controlCopy := w }

/-- The request that the combined word makes (R129). -/
theorem State.ringControl_eq (id : RingId) (l : Lanes) (d : Word) (s : State) {w : Word}
    (hw : laneCombine l (s.msgs.ring id).controlCopy d = w) :
    s.ringControl id l d = if w = 1#16 then (s.ringAsked id w).ringOpen id w
      else if w = 2#16 then (s.ringAsked id w).ringClose id w else (s.ringAsked id w).ringNotValid id w := by
  subst hw
  rfl

theorem State.ringAsked_ring (id : RingId) (w : Word) (s : State) :
    (s.ringAsked id w).msgs.ring id = { s.msgs.ring id with controlCopy := w } := State.setRing_ring id _ s

/-- A request is judged against the ring as it was before. -/
theorem State.ringAsked_judged (id : RingId) (w : Word) (s : State) :
    ((s.ringAsked id w).msgs.ring id).state = (s.msgs.ring id).state ∧
      ((s.ringAsked id w).msgs.ring id).check = (s.msgs.ring id).check := by
  rw [State.ringAsked_ring]
  exact ⟨rfl, rfl⟩

theorem State.ringAsked_setRing (id : RingId) (w : Word) (r : Ring) (s : State) : (s.ringAsked id w).setRing id r = s.setRing id r :=
  State.setRing_setRing id _ r s

/-- OPEN on a CLOSED ring with no check under way (R128). -/
theorem State.ringOpen_starts {s : State} {id : RingId} (w : Word) (hclosed : (s.msgs.ring id).state = .closed)
    (hcheck : (s.msgs.ring id).check = none) :
    (s.ringAsked id w).ringOpen id w = State.requestRead (.headerRead id) (s.setRing id
      { s.msgs.ring id with controlCopy := w, check := some (s.msgs.ring id).copies, result := ⟨w, .pending⟩ }) := by
  obtain ⟨hstate, hnone⟩ := State.ringAsked_judged id w s
  refine (if_pos (by simp [hstate, hnone, hclosed, hcheck])).trans ?_
  rw [State.ringAsked_setRing, State.ringAsked_ring]

/-- A request that R129 refuses. -/
theorem State.ringControl_refused {s : State} {id : RingId} {l : Lanes} {d w : Word}
    (hw : laneCombine l (s.msgs.ring id).controlCopy d = w)
    (hn : (w = 1#16 ∧ ¬((s.msgs.ring id).state = .closed ∧ (s.msgs.ring id).check = none)) ∨
      (w = 2#16 ∧ (s.msgs.ring id).state = .closed) ∨ (w ≠ 1#16 ∧ w ≠ 2#16)) :
    s.ringControl id l d = (s.ringAsked id w).ringNotValid id w := by
  obtain ⟨hstate, hnone⟩ := State.ringAsked_judged id w s
  rw [State.ringControl_eq id l d s hw]
  rcases hn with ⟨h1, hn⟩ | ⟨h2, hclosed⟩ | ⟨h1, h2⟩
  · rw [if_pos h1]
    exact if_neg (by simpa [hstate, hnone] using hn)
  · rw [if_neg (by rw [h2]; decide), if_pos h2]
    simp only [State.ringClose, hstate, hclosed]
  · rw [if_neg h1, if_neg h2]

/-- The ring records and the causes after a refused request. -/
theorem State.ringAsked_notValid (id : RingId) (w : Word) (s : State) :
    (s.ringAsked id w).ringNotValid id w = { s with
      msgs := s.msgs.setRing id { s.msgs.ring id with controlCopy := w, result := ⟨w, .notValid⟩ }, page := (s.raise .illegal).page,
      pins := { s.pins with attn := (s.raise .illegal).pins.attn } } := by
  rw [State.ringNotValid, State.ringResult, State.ringAsked_setRing, State.ringAsked_ring]
  exact State.raise_of_same .illegal rfl rfl

/-- CLOSE on a CLOSING ring and on an OPEN one (R130). -/
theorem State.ringControl_taken {s : State} {id : RingId} {l : Lanes} {d : Word}
    (hw : laneCombine l (s.msgs.ring id).controlCopy d = 2#16) :
    let x := s.setRing id { s.msgs.ring id with controlCopy := 2#16, result := ⟨2#16, .taken⟩ }
    ((s.msgs.ring id).state = .closing → s.ringControl id l d = x) ∧
      ((s.msgs.ring id).state = .open → s.ringControl id l d = x.closeRing id) := by
  have hx : (s.ringAsked id 2#16).ringResult id ⟨2#16, .taken⟩ =
      s.setRing id { s.msgs.ring id with controlCopy := 2#16, result := ⟨2#16, .taken⟩ } := by
    rw [State.ringResult, State.ringAsked_setRing, State.ringAsked_ring]
  obtain ⟨hstate, -⟩ := State.ringAsked_judged id 2#16 s
  constructor
  · intro h
    rw [← hx, State.ringControl_eq id l d s hw, if_neg (by decide), if_pos rfl]
    simp only [State.ringClose, hstate, h]
  · intro h
    rw [← hx, State.ringControl_eq id l d s hw, if_neg (by decide), if_pos rfl]
    simp only [State.ringClose, hstate, h]

/-! ## The closing of a ring (R130, R142, R144) -/

/-- The waiting message of a buffer is dropped, and nothing else changes but the count (R130, R142). -/
theorem State.dropWaiting_spec (b : BufferId) (s : State) :
    ((s.dropWaiting b).msgs.buffer b).message? = none ∧ (s.dropWaiting b).sched = s.sched ∧
      (s.dropWaiting b).msgs.paused = s.msgs.paused ∧ (s.dropWaiting b).msgs.inbound = s.msgs.inbound ∧
      (s.dropWaiting b).page.causes = s.page.causes ∧ ∀ k, k ≠ b → (s.dropWaiting b).msgs.buffer k = s.msgs.buffer k := by
  cases h : s.msgs.buffer b with
  | empty => simp [State.dropWaiting, h, Buffer.message?]
  | assembling a => simp [State.dropWaiting, h, Buffer.message?]
  | closed m =>
    have he : s.dropWaiting b = State.dropMessage (s.setBuffer b .empty) := by simp [State.dropWaiting, h]
    rw [he]
    cases b with
    | buffer0 =>
      refine ⟨rfl, rfl, rfl, rfl, rfl, fun k hk => ?_⟩
      cases k with
      | buffer0 => exact absurd rfl hk
      | buffer1 => rfl
    | buffer1 =>
      refine ⟨rfl, rfl, rfl, rfl, rfl, fun k hk => ?_⟩
      cases k with
      | buffer0 => rfl
      | buffer1 => exact absurd rfl hk

/-- INBOUND is closed and the two buffers are relieved. -/
def State.inboundClosed (s : State) : State :=
  State.dropWaiting .buffer1 (State.dropWaiting .buffer0 (s.setRing .inbound { s.msgs.inbound with state := .closed }))

theorem State.inboundClosed_spec (s : State) :
    s.inboundClosed.msgs.inbound = { s.msgs.inbound with state := .closed } ∧ s.inboundClosed.msgs.paused = s.msgs.paused ∧
      s.inboundClosed.msgs.buffer0.message? = none ∧ s.inboundClosed.msgs.buffer1.message? = none ∧
      s.inboundClosed.sched = s.sched ∧ s.inboundClosed.page.causes = s.page.causes := by
  obtain ⟨hm0, hs0, hp0, hi0, hc0, -⟩ :=
    State.dropWaiting_spec .buffer0 (s.setRing .inbound { s.msgs.inbound with state := .closed })
  obtain ⟨hm1, hs1, hp1, hi1, hc1, ho1⟩ :=
    State.dropWaiting_spec .buffer1 (State.dropWaiting .buffer0 (s.setRing .inbound { s.msgs.inbound with state := .closed }))
  exact ⟨hi1.trans hi0, hp1.trans hp0, (congrArg Buffer.message? (ho1 .buffer0 (by decide))).trans hm0, hm1, hs1.trans hs0, hc1.trans hc0⟩

/-- The closing of INBOUND (R130, R144). -/
theorem State.closeRing_inbound (s : State) :
    (s.closeRing .inbound).msgs.inbound = { s.msgs.inbound with state := .closed } ∧ (s.closeRing .inbound).msgs.paused = true ∧
      (s.closeRing .inbound).msgs.buffer0.message? = none ∧ (s.closeRing .inbound).msgs.buffer1.message? = none ∧
      (s.msgs.paused = false → (s.closeRing .inbound).sched.flowPlace = some .pause) ∧
      (s.msgs.paused = true → (s.closeRing .inbound).sched = s.sched) ∧ (s.closeRing .inbound).page.causes = s.page.causes := by
  obtain ⟨hring, hpaused, h0, h1, hsched, hcauses⟩ := State.inboundClosed_spec s
  have heq : s.closeRing .inbound = if s.inboundClosed.msgs.paused then s.inboundClosed else s.inboundClosed.changeFlow true := rfl
  rw [heq, hpaused]
  cases hp : s.msgs.paused with
  | true => exact ⟨hring, hpaused.trans hp, h0, h1, fun h => absurd h (by decide), fun _ => hsched, hcauses⟩
  | false =>
    obtain ⟨hpage, -, hmsgs, hplace, -, -⟩ := State.changeFlow_spec true s.inboundClosed
    rw [if_neg (by decide)]
    rw [hmsgs, hpage]
    exact ⟨hring, rfl, h0, h1, fun _ => hplace, fun h => absurd h (by decide), hcauses⟩

/-! ## The writes of the ring fields -/

theorem exec_ringControl {id : RingId} {l : Lanes} {d : Word} {c : Instr}
    (hc : (c = .ringControlOpen id l ∧ d = 1#16) ∨ (c = .ringControlClose id l ∧ d = 2#16) ∨ c = .ringControlOtherValue id l d) (s : State) :
    exec c s = .next (s.writeAt (ringOffset id + 4) l d) := by
  rcases hc with ⟨rfl, rfl⟩ | ⟨rfl, rfl⟩ | rfl <;> rfl

theorem fieldAt_descriptorOffset (id : RingId) (part : DescriptorWord) :
    fieldAt (descriptorOffset id part) = .ringDescriptor id part := (fieldAt_descriptor_iff _ id part).2 rfl

theorem descriptorOffset_even (id : RingId) (part : DescriptorWord) :
    descriptorOffset id part % 2 = 0 ∧ descriptorOffset id part < 0x4000 := by cases id <;> cases part <;> decide

/-- A descriptor word of a ring that is not CLOSED is GUARDED (R123). -/
theorem exec_ringDescriptorWrite_guarded {s : State} {id : RingId} {l : Lanes} (part : DescriptorWord) (d : Word)
    (hs : s.writesFree = true) (hl : laneAny l = true) (hn : (s.msgs.ring id).state ≠ .closed) :
    ∃ t, exec (.ringDescriptorWrite id part l d) s = .next t ∧ s.dropsWrite t := by
  obtain ⟨heven, hlt⟩ := descriptorOffset_even id part
  refine exec_processorWrite_guarded d (by simp [State.writesFree] at hs; exact hs.1) heven hlt hl fun hi => ?_
  rw [fieldAt_descriptorOffset]
  exact if_neg (by simpa using hn)

/-- A descriptor word of a CLOSED ring is taken into the part's copy (R123). -/
theorem exec_ringDescriptorWrite_taken {s : State} {id : RingId} {l : Lanes} (part : DescriptorWord) (d : Word)
    (hs : s.writesFree = true) (hl : laneAny l = true) (hclosed : (s.msgs.ring id).state = .closed) :
    ∃ b, s.path.post (pageAddress s.path.asel (descriptorOffset id part)) l d = some { s.path with buffer := b } ∧
      exec (.ringDescriptorWrite id part l d) s = .next (State.descriptorWrite id part l d { s with path := { s.path with buffer := b } }) := by
  obtain ⟨heven, hlt⟩ := descriptorOffset_even id part
  obtain ⟨b, hp, hw⟩ := State.writeAt_owner d hs heven hlt hl fun hi => by
    rw [fieldAt_descriptorOffset]
    exact if_pos (by simpa using hclosed)
  rw [fieldAt_descriptorOffset] at hw
  exact ⟨b, hp, congrArg Host.Outcome.next hw⟩

/-- Settles O39: the descriptor words, and each request by its combined word and the state of the ring. -/
theorem ringRequestsAreJudged : Obligations.RingRequestsAreJudged := by
  intro s id l d hs hl rest r w
  refine ⟨fun hn part => exec_ringDescriptorWrite_guarded part d hs hl hn, fun hclosed => ⟨?_, ?_⟩, fun c hc => ?_⟩
  · obtain ⟨b, hp, hexec⟩ := exec_ringDescriptorWrite_taken .base d hs hl hclosed
    exact ⟨_, hexec, hp, ⟨rfl, rfl, rfl, rfl, rfl, rfl, rfl, rfl⟩, rfl, rfl, rfl, rfl, rfl⟩
  · obtain ⟨b, hp, hexec⟩ := exec_ringDescriptorWrite_taken .size d hs hl hclosed
    exact ⟨_, hexec, hp, ⟨rfl, rfl, rfl, rfl, rfl, rfl, rfl, rfl⟩, rfl, rfl, rfl, rfl, rfl⟩
  · obtain ⟨b, hp, hw⟩ := State.writeAt_owner d hs (o := ringOffset id + 4) (by cases id <;> rfl) (by cases id <;> decide) hl fun hi => by
      rw [(fieldAt_ring id).2.2]
      rfl
    rw [(fieldAt_ring id).2.2] at hw
    have hexec := (exec_ringControl hc s).trans (congrArg Host.Outcome.next hw)
    generalize hx : ({ s with path := { s.path with buffer := b } } : State) = x at hexec
    have hmsgs : x.msgs = s.msgs := by rw [← hx]
    have hcontrol := State.ringControl_eq id l d x (w := w) (by rw [hmsgs])
    refine ⟨x.ringControl id l d, hexec, ?_, fun h1 hclosed hcheck => ?_, fun hn => ?_, fun h2 hclosing => ?_, fun h2 hopen => ?_⟩
    · simp only [rest, State.ringControl_frame, ← hx, and_self]
    · rw [hcontrol, if_pos h1, State.ringOpen_starts w (by rw [hmsgs]; exact hclosed) (by rw [hmsgs]; exact hcheck), ← hx]
      exact ⟨⟨_, hp, rfl⟩, rfl, rfl, rfl, rfl, rfl⟩
    · rw [State.ringControl_refused (w := w) (by rw [hmsgs]) (by rw [hmsgs]; exact hn), State.ringAsked_notValid]
      have hraises := State.raises_of (s := s) (State.raise_raises .illegal x) (by rw [← hx]) (by rw [← hx])
      rw [← hx]
      exact ⟨hp, State.raises_to hraises (by rw [← hx]) (by rw [← hx]), ⟨rfl, rfl, rfl, rfl, rfl⟩, rfl, rfl, rfl, rfl⟩
    · rw [(State.ringControl_taken (s := x) (by rw [hmsgs]; exact h2)).1 (by rw [hmsgs]; exact hclosing), ← hx, h2]
      exact ⟨hp, rfl, rfl, rfl⟩
    · rw [(State.ringControl_taken (s := x) (by rw [hmsgs]; exact h2)).2 (by rw [hmsgs]; exact hopen), ← hx, h2]
      refine ⟨State.posts_of hp (by simp [State.setRing]), ?_, fun hi => ?_, fun hi => ?_, fun hi => ?_⟩
      · cases id with
        | outbound => rfl
        | inbound =>
          obtain ⟨hring, -⟩ := State.closeRing_inbound (({ s with path := { s.path with buffer := b } } : State).setRing .inbound
            { s.msgs.inbound with controlCopy := 2#16, result := ⟨2#16, .taken⟩ })
          exact congrArg Ring.result hring
        | triplog => rfl
      · subst hi
        refine ⟨?_, rfl, rfl, rfl⟩
        cases hf : s.msgs.flight <;> simp [State.closeRing, State.setRing, MessageEngine.setRing, hf]
      · subst hi
        exact ⟨rfl, rfl, rfl⟩
      · subst hi
        obtain ⟨hring, hpaused, h0, h1, hpause, hkeep, hcauses⟩ :=
          State.closeRing_inbound (({ s with path := { s.path with buffer := b } } : State).setRing .inbound
            { s.msgs.inbound with controlCopy := 2#16, result := ⟨2#16, .taken⟩ })
        exact ⟨congrArg Ring.state hring, hpaused, h0, h1, hpause, hkeep, hcauses⟩

end Sys2Proof.Machine
end

section
/-! PROOFS. A write of the processor's pointer (R108, R124, R127, R131, R144). -/

namespace Sys2Proof.Machine

theorem State.pointerMoved_ring (id k : RingId) (s : State) : (State.pointerMoved id s).msgs.ring k = s.msgs.ring k := by
  cases k <;> simp [MessageEngine.ring]

/-- The two outcomes of a pointer write (R127). -/
theorem State.pointerWrite_eq {id : RingId} {l : Lanes} {d w : Word} {s : State} (hw : laneCombine l (s.msgs.ring id).theirs d = w) :
    s.pointerWrite id l d =
      if w.toNat % 4 = 0 ∧ w.toNat < (s.msgs.ring id).desc.size.toNat - 4 then
        State.pointerMoved id (s.setRing id { s.msgs.ring id with theirs := w })
      else State.raise .illegal (s.ringResult id ⟨0#16, .pointers⟩) := by
  subst hw
  exact ite_congr (propext (validPointer_iff _ _)) (fun _ => rfl) fun _ => rfl

/-- A data-area word at which the part's own pointer of a ring in use lies is GUARDED (R124). -/
theorem State.readyTreatment_ownPointer {s : State} {id : RingId} {o : Nat} (hopen : (s.msgs.ring id).state ≠ .closed)
    (ho : o = ((s.msgs.ring id).pointerOffsets id).2) (hlow : 0x0A00 ≤ o) (hi : Bool) :
    s.readyTreatment (fieldAt o) hi = .guarded := by
  rw [fieldAt_ringSpace hlow]
  refine if_pos (List.any_eq_true.2 ⟨id, mem_allRings id, ?_⟩)
  simp [hopen, ho]

/-- A write of the processor's pointer reaches the Message Engine (R127, R190). -/
theorem exec_ringPointerWrite {s : State} {id : RingId} {l : Lanes} (d : Word) (hs : s.writesFree = true) (hl : laneAny l = true)
    (hring : s.pointerRing (s.pointerOffset id) = some id) (hown : s.ownPointerAt (s.pointerOffset id) = false)
    (heven : s.pointerOffset id % 2 = 0) (hlow : 0x0A00 ≤ s.pointerOffset id) (hhigh : s.pointerOffset id < 0x4000) :
    ∃ b, s.path.post (pageAddress s.path.asel (s.pointerOffset id)) l d = some { s.path with buffer := b } ∧
      exec (.ringPointerWrite id l d) s = .next (State.pointerWrite id l d { s with path := { s.path with buffer := b } }) := by
  obtain ⟨b, hp, hw⟩ := State.writeAt_owner d hs heven hhigh hl fun hi => by
    rw [fieldAt_ringSpace hlow]
    exact (if_neg (by simp [hown])).trans (if_pos (by simp [hring]))
  have htake : State.takeWatched (.ringSpace (s.pointerOffset id)) l d { s with path := { s.path with buffer := b } } =
      State.pointerWrite id l d { s with path := { s.path with buffer := b } } := by
    have hring' : State.pointerRing (s.pointerOffset id) { s with path := { s.path with buffer := b } } = some id := hring
    simp only [State.takeWatched, hring']
  rw [fieldAt_ringSpace hlow, htake] at hw
  exact ⟨b, hp, congrArg Host.Outcome.next hw⟩

/-- What an acted-on pointer of OUTBOUND starts (R131). -/
theorem State.lookForRecord_flight (s : State) :
    s.lookForRecord.msgs.flight =
      if s.msgs.outbound.state = .open ∧ s.msgs.flight = .none ∧ s.msgs.outbound.theirs ≠ s.msgs.outbound.own then .fetching .reading
      else s.msgs.flight := by
  obtain ⟨hlooks, hstays⟩ := State.lookForRecord_eq s
  split
  next h => rw [hlooks h]
  next h => rw [hstays h]

/-- What the evaluation of the flow state leaves (R144). -/
theorem State.flows_paused {s t : State} {d : Nat} {own theirs : Word} (h : s.flows t d own theirs) :
    (t.msgs.paused ≠ s.msgs.paused → t.sched.flowPlace = some (if t.msgs.paused then .pause else .resume)) ∧
      t.msgs.paused = (if freeBytes d own.toNat theirs.toNat < s.msgs.pauseAt ∧ s.msgs.paused = false then true
        else if s.msgs.resumeAt ≤ freeBytes d own.toNat theirs.toNat ∧ s.msgs.paused = true then false else s.msgs.paused) := by
  obtain ⟨hpauses, hresumes, -, hstays⟩ := h
  by_cases hp : s.msgs.paused = false ∧ freeBytes d own.toNat theirs.toNat < s.msgs.pauseAt
  · obtain ⟨hpaused, hplace⟩ := hpauses hp
    rw [if_pos hp.symm, hpaused]
    exact ⟨fun _ => hplace, rfl⟩
  · by_cases hr : s.msgs.paused = true ∧ s.msgs.resumeAt ≤ freeBytes d own.toNat theirs.toNat
    · obtain ⟨hpaused, hplace⟩ := hresumes hr
      rw [if_neg (mt And.symm hp), if_pos hr.symm, hpaused]
      exact ⟨fun _ => hplace, rfl⟩
    · obtain ⟨hpaused, -, -⟩ := hstays hp hr
      rw [if_neg (mt And.symm hp), if_neg (mt And.symm hr)]
      exact ⟨fun hn => absurd hpaused hn, hpaused⟩

/-- Settles O40: the part's own pointer is GUARDED; a write of the other is refused, or acted on ring by ring. -/
theorem pointerWriteIsTakenOrRefused : Obligations.PointerWriteIsTakenOrRefused := by
  constructor
  · intro s id l d hs hl hopen o heven hlow hhigh
    have ho : o = ((s.msgs.ring id).pointerOffsets id).2 := by cases id <;> rfl
    exact exec_processorWrite_guarded d hs heven hhigh hl (State.readyTreatment_ownPointer hopen ho hlow)
  · intro s id l d hs hl r o w hring hown heven hlow hhigh
    obtain ⟨b, hp, hexec⟩ := exec_ringPointerWrite d hs hl hring hown heven hlow hhigh
    generalize hx : ({ s with path := { s.path with buffer := b } } : State) = x at hexec
    have hmsgs : x.msgs = s.msgs := by rw [← hx]
    have hwrite := State.pointerWrite_eq (s := x) (id := id) (l := l) (d := d) (w := w) (by rw [hmsgs])
    rw [hwrite, hmsgs] at hexec
    by_cases hw : w.toNat % 4 = 0 ∧ w.toNat < r.desc.size.toNat - 4
    · rw [if_pos hw] at hexec
      generalize hy : x.setRing id { s.msgs.ring id with theirs := w } = y at hexec
      have hyring : y.msgs.ring id = { r with theirs := w } := by
        rw [← hy]
        exact State.setRing_ring id _ x
      have hflight : y.msgs.flight = s.msgs.flight := by
        rw [← hy, ← hx]
        cases id <;> rfl
      have hpaused : y.msgs.paused = s.msgs.paused ∧ y.msgs.pauseAt = s.msgs.pauseAt ∧ y.msgs.resumeAt = s.msgs.resumeAt := by
        rw [← hy, ← hx]
        cases id <;> exact ⟨rfl, rfl, rfl⟩
      have hblocks : y.pending = s.pending ∧ y.mem = s.mem ∧ y.link = s.link ∧ y.radio = s.radio ∧ y.offers = s.offers ∧
          y.emerg = s.emerg ∧ y.status = s.status ∧ y.power = s.power ∧ y.page = s.page ∧ y.trips = s.trips ∧ y.sched = s.sched := by
        rw [← hy, ← hx]
        exact ⟨rfl, rfl, rfl, rfl, rfl, rfl, rfl, rfl, rfl, rfl, rfl⟩
      obtain ⟨hpending, hmem, hlink, hradio, hoffers, hemerg, hstatus, hpower, hpage, htrips, hsched⟩ := hblocks
      refine ⟨_, hexec, by simp [hpending], by simp [hmem], by simp [hlink], by simp [hradio], by simp [hoffers], by simp [hemerg],
        by simp [hstatus], by simp [hpower], fun hn => absurd hw hn, fun _ => ⟨by simp [hpage],
          (State.pointerMoved_ring id id y).trans hyring, fun hi => ?_, fun hi hropen => ?_, fun hi => ?_⟩⟩
      · subst hi
        have hout : y.msgs.outbound = { r with theirs := w } := hyring
        refine ⟨by simp [State.pointerMoved, hsched], by simp [State.pointerMoved, htrips], ?_⟩
        rw [State.pointerMoved, State.lookForRecord_flight, hout, hflight]
      · subst hi
        have hin : y.msgs.inbound = { r with theirs := w } := hyring
        obtain ⟨-, -, -, -, hflows, -⟩ := State.evaluateFlow_spec y
        obtain ⟨hplace, hpause⟩ := State.flows_paused (hflows (by rw [hin]; exact hropen))
        rw [hpaused.1, hpaused.2.1, hpaused.2.2, hin] at hpause
        rw [hpaused.1] at hplace
        exact ⟨by simp [State.pointerMoved, htrips], by simp [State.pointerMoved, hflight], hplace, hpause⟩
      · subst hi
        refine ⟨by simp [State.pointerMoved, hflight], by simp [State.pointerMoved, hpaused], by simp [State.pointerMoved, hsched],
          fun record rest plan hd hl hplan => ?_⟩
        have htri : y.msgs.triplog = { r with theirs := w } := hyring
        have hserves := ((State.servePending_eq (s := y) (by rw [htrips]; exact hd)).2 record rest (by rw [htrips]; exact hl)).2 plan
          (by rw [htri]; exact hplan)
        rw [State.pointerMoved, hserves, htrips]
    · rw [if_neg hw] at hexec
      have hraises := State.raises_of (s := s) (State.raise_raises .illegal (x.ringResult id ⟨0#16, .pointers⟩)) (by rw [← hx]; rfl)
        (by rw [← hx]; rfl)
      refine ⟨_, hexec, ?_, ?_, ?_, ?_, ?_, ?_, ?_, ?_, fun _ => ⟨?_, hraises, ?_, ?_, ?_, ?_, ?_⟩, fun h => absurd h hw⟩
      all_goals rw [State.raise_eq, ← hx]
      · rfl
      · rfl
      · rfl
      · rfl
      · rfl
      · rfl
      · rfl
      · rfl
      · exact hp
      · exact ⟨rfl, rfl, rfl, rfl, rfl⟩
      · rfl
      · rfl
      · rfl
      · rfl

end Sys2Proof.Machine
end

section
/-! PROOFS. The emergency raise field and the attention fields (R84, R86, R101, R151, R152, R162, R208 to R212). -/

namespace Sys2Proof.Machine

/-! ## The emergency raise field (R151) -/

theorem EmergencyState.raiseOutcome_refused {e : EmergencyState} {w : Word} (h : w = 0#16 ∨ e = .alerting ∨ e = .acked) :
    e.raiseOutcome w = if w = 0#16 then .notValid else .notAllowed := by
  unfold EmergencyState.raiseOutcome
  by_cases h0 : w = 0#16
  · rw [if_pos h0, if_pos h0]
  · have hr : e.raised = true := by
      obtain h | rfl | rfl := h
      · exact absurd h h0
      · rfl
      · rfl
    rw [if_neg h0, if_neg h0, if_pos hr]

theorem EmergencyState.raiseOutcome_taken {e : EmergencyState} {w : Word} (h0 : w ≠ 0#16) (h : e = .clear ∨ e = .pressed) :
    e.raiseOutcome w = .taken := by
  obtain rfl | rfl := h <;> simp [EmergencyState.raiseOutcome, h0, EmergencyState.raised]

/-- Settles O41: the refused write, and the entry into ALERTING. -/
theorem emergencyRaiseEntersAlerting : Obligations.EmergencyRaiseEntersAlerting := by
  intro s l d hs hl hoffers w
  obtain ⟨b, hp, hw⟩ := State.writeAt_emergencyRaise d hs hl
  have hexec : exec (.emergencyRaise l d) s = .next (State.emergencyRaiseWrite l d { s with path := { s.path with buffer := b } }) :=
    congrArg Host.Outcome.next hw
  generalize hx : ({ s with
      path := { s.path with buffer := b }, emerg := { s.emerg with raiseResult := ⟨w, s.emerg.state.raiseOutcome w⟩ } } : State) = x
  have hwrite : State.emergencyRaiseWrite l d { s with path := { s.path with buffer := b } } =
      if s.emerg.state.raiseOutcome w = .taken then x.enterAlerting .terminal else x.raise .refused := by
    rw [← hx]
    rfl
  refine ⟨_, hexec, by simp, by simp, by simp, by simp, by simp, fun hrefused => ?_, fun h0 hstate => ?_⟩
  · have ho := EmergencyState.raiseOutcome_refused hrefused
    rw [hwrite, if_neg (by rw [ho]; split <;> decide)]
    rw [ho] at hx
    have hraises := State.raises_of (s := s) (State.raise_raises .refused x) (by rw [← hx]) (by rw [← hx])
    rw [State.raise_eq] at hraises ⊢
    subst hx
    exact ⟨rfl, hp, hraises, ⟨rfl, rfl, rfl, rfl, rfl⟩, rfl, rfl, rfl, rfl, rfl, rfl⟩
  · have ho := EmergencyState.raiseOutcome_taken h0 hstate
    rw [hwrite, if_pos ho]
    rw [ho] at hx
    obtain ⟨hem, hplace, hattempts, hreport, hlamps, hpage, hlines, hstatus, hbidding, hqueue, htrips, -, -, -, -, -, -, -, hnoAward, hothers⟩ :=
      State.enterAlerting_spec .terminal (s := x)
        ((congrArg (fun u => u.power.startUp) hx).symm.trans (State.writesFree_ready hs)) (by rw [← hx]; exact hoffers) rfl
    subst hx
    refine ⟨hem, hplace, hattempts, hreport, hlamps, hpage, hlines, hstatus, hbidding, hnoAward, hothers, hqueue, fun hc => ?_, fun hc => ?_⟩
    · rw [htrips, if_pos hc]
    · rw [htrips, if_neg (by rw [show _ = EmergencyState.pressed from hc]; decide)]

/-! ## The attention fields (R208 to R212) -/

/-- The evaluation of attention, as one state. -/
theorem State.evaluateAttention_eq (s : State) :
    let fires := !s.page.busy && (s.page.causes &&& s.page.enables) != 0#13
    s.evaluateAttention = { s with
      page := { s.page with busy := s.page.busy || fires, assertions := s.page.assertions + fires.toNat }
      pins := { s.pins with attn := s.pins.attn || fires } } := by
  intro fires
  cases h : fires
  · simp only [Bool.or_false, Bool.toNat_false, Nat.add_zero]
    exact if_neg (Bool.eq_false_iff.1 h)
  · simp only [Bool.or_true, Bool.toNat_true]
    exact if_pos h

/-- The attention-busy flag after an evaluation follows the causes, where ATTN was right before it (R211). -/
theorem attn_after (busy due : Bool) : (busy || (!busy && due)) = (busy || due) := by cases busy <;> rfl

/-- Settles O42: the three fields, each posted and handed to the Control Page. -/
theorem attentionFieldsActAsDescribed : Obligations.AttentionFieldsActAsDescribed := by
  intro s l d hs hl hlaw
  refine ⟨?_, ?_, ?_⟩
  · obtain ⟨b, hp, hw⟩ := State.writeAt_owner d hs rfl (by decide) hl (o := 0x0C) fun _ => rfl
    exact ⟨_, congrArg Host.Outcome.next hw, hp, ⟨rfl, rfl, rfl, rfl, rfl, rfl, rfl, rfl, rfl, rfl, rfl⟩, rfl, rfl⟩
  · obtain ⟨b, hp, hw⟩ := State.writeAt_owner d hs rfl (by decide) hl (o := 0x0E) fun _ => rfl
    have htake : State.takeWatched (fieldAt 0x0E) l d { s with path := { s.path with buffer := b } } =
        State.enableCauses l d { s with path := { s.path with buffer := b } } := rfl
    rw [htake, State.enableCauses, State.evaluateAttention_eq] at hw
    refine ⟨_, congrArg Host.Outcome.next hw, hp, ⟨rfl, rfl, rfl, rfl, rfl, rfl, rfl, rfl, rfl, rfl, rfl⟩, ⟨rfl, rfl, rfl, rfl, rfl⟩,
      rfl, rfl, rfl, rfl, rfl, ?_, ?_⟩
    · dsimp only
      rw [hlaw.1, attn_after]
    · dsimp only
      rw [hlaw.1]
  · obtain ⟨b, hp, hw⟩ := State.writeAt_owner d hs rfl (by decide) hl (o := 0x06) fun _ => rfl
    have htake : State.takeWatched (fieldAt 0x06) l d { s with path := { s.path with buffer := b } } =
        State.attentionDone { s with path := { s.path with buffer := b } } := rfl
    rw [htake] at hw
    cases hbusy : s.page.busy with
    | false =>
      rw [State.attentionDone, if_neg (by simp [hbusy])] at hw
      exact ⟨_, congrArg Host.Outcome.next hw, hp, ⟨rfl, rfl, rfl, rfl, rfl, rfl, rfl, rfl, rfl, rfl, rfl⟩, ⟨rfl, rfl, rfl, rfl, rfl⟩,
        rfl, rfl, rfl, rfl, fun _ => ⟨rfl, rfl⟩, fun h => absurd h (by decide)⟩
    | true =>
      rw [State.attentionDone, if_pos hbusy, State.evaluateAttention_eq] at hw
      exact ⟨_, congrArg Host.Outcome.next hw, hp, ⟨rfl, rfl, rfl, rfl, rfl, rfl, rfl, rfl, rfl, rfl, rfl⟩, ⟨rfl, rfl, rfl, rfl, rfl⟩,
        rfl, rfl, rfl, rfl, fun h => absurd h (by decide), fun _ => ⟨rfl, rfl, rfl⟩⟩

end Sys2Proof.Machine
end

section
/-! PROOFS. Responses (R5, R74 to R77, R84). -/

namespace Sys2Proof.Machine

/-! ## Updates of the table (R70) -/

theorem joinCauses_mem {c : Cause} {old new : List Cause} (h : c ∈ new) : c ∈ joinCauses old new := by
  by_cases ho : c ∈ old <;> simp [joinCauses, h, ho]

theorem State.updateEntry_entry (n k : Fin 16) (f : OfferEntry → OfferEntry) (cs : List Cause) (s : State) :
    (s.updateEntry n f cs).offers.entry k =
      if k = n then { f (s.offers.entry n) with
        seq := (f (s.offers.entry n)).seq + 1#8, causes := joinCauses (f (s.offers.entry n)).causes cs }
      else s.offers.entry k := OfferEngine.entry_update s.offers n k f cs

/-- The entry that an update changes. -/
theorem State.updateEntry_self (n : Fin 16) (f : OfferEntry → OfferEntry) (cs : List Cause) (s : State) :
    (s.updateEntry n f cs).offers.entry n = { f (s.offers.entry n) with
      seq := (f (s.offers.entry n)).seq + 1#8, causes := joinCauses (f (s.offers.entry n)).causes cs } := by
  rw [State.updateEntry_entry, if_pos rfl]

theorem State.updateEntry_other {n k : Fin 16} (h : k ≠ n) (f : OfferEntry → OfferEntry) (cs : List Cause) (s : State) :
    (s.updateEntry n f cs).offers.entry k = s.offers.entry k := by
  rw [State.updateEntry_entry, if_neg h]

theorem State.updateEntry_queued (n : Fin 16) (f : OfferEntry → OfferEntry) (cs : List Cause) (s : State) :
    (s.updateEntry n f cs).path.queued (.offerRewrite n) = true := MemoryPath.requestRewrite_queued _ _

/-! ## What the Status Unit is handed (R5) -/

theorem State.leftAwarded_status (s : State) :
    s.leftAwarded.status = { s.status with status := if s.status.status = .assigned then .free else s.status.status } := by
  unfold State.leftAwarded
  by_cases h : s.status.status = .assigned
  · rw [if_pos (by simp [h]), if_pos h, State.setStatus_status]
  · rw [if_neg (by simp [h]), if_neg h]

/-! ## The outcome (R74 to R77) -/

theorem State.acceptOutcome_eq (n : Fin 16) (s : State) :
    s.acceptOutcome n =
      if (s.offers.entry n).state = .live then
        (if s.offers.otherClaims n then .busy else if s.emerg.state ≠ .clear then .emergency
         else if s.status.status = .free ∨ (s.status.status = .hired ∧ (s.offers.entry n).dest = 1#8) then .taken else .notAllowed)
      else if (s.offers.entry n).state = .lapsed then .tooLate else .notValid := by
  cases h : (s.offers.entry n).state <;> simp [State.acceptOutcome, h, destCab]

theorem OfferState.releaseOutcome_eq (st : OfferState) :
    st.releaseOutcome = if st = .empty ∨ st = .live ∨ st = .bidding then .notValid else .taken := by
  cases st <;> rfl

theorem State.responseOutcome_eq (n : Fin 16) (code : Byte) (s : State) :
    s.responseOutcome n code =
      if code = 1#8 then
        (if (s.offers.entry n).state = .live then
          (if s.offers.otherClaims n then .busy else if s.emerg.state ≠ .clear then .emergency
           else if s.status.status = .free ∨ (s.status.status = .hired ∧ (s.offers.entry n).dest = 1#8) then .taken else .notAllowed)
         else if (s.offers.entry n).state = .lapsed then .tooLate else .notValid)
      else if code = 2#8 then
        (if (s.offers.entry n).state = .live ∨ (s.offers.entry n).state = .bidding then .taken else .notValid)
      else if code = 3#8 then
        (if (s.offers.entry n).state = .empty ∨ (s.offers.entry n).state = .live ∨ (s.offers.entry n).state = .bidding then .notValid
         else .taken)
      else .notValid := by
  rw [← State.acceptOutcome_eq, ← OfferState.releaseOutcome_eq]
  have hdecline : (s.offers.stateOf n).declineOutcome =
      if (s.offers.entry n).state = .live ∨ (s.offers.entry n).state = .bidding then .taken else .notValid := by
    simp [OfferState.declineOutcome, OfferEngine.stateOf]
  rw [← hdecline]
  rfl

/-- A taken response has one of the three codes (R74). -/
theorem State.responseOutcome_taken {n : Fin 16} {code : Byte} {s : State} (h : s.responseOutcome n code = .taken) :
    code = 1#8 ∨ code = 2#8 ∨ code = 3#8 := by
  rw [State.responseOutcome_eq] at h
  by_cases h1 : code = 1#8
  · exact .inl h1
  · by_cases h2 : code = 2#8
    · exact .inr (.inl h2)
    · by_cases h3 : code = 3#8
      · exact .inr (.inr h3)
      · rw [if_neg h1, if_neg h2, if_neg h3] at h
        exact absurd h (by decide)

/-! ## The response at the Offer Engine -/

/-- What a response that is not taken, and each of the three taken ones, make of the table. -/
theorem State.takeResponse_eq (n : Fin 16) (l : Lanes) (d : Word) (s : State) {resp : Word}
    (hresp : laneCombine l (s.offers.entry n).response d = resp) :
    s.takeResponse n l d =
      if s.responseOutcome n (Word.lower resp) ≠ .taken then
        s.updateEntry n (OfferEntry.answered resp (s.responseOutcome n (Word.lower resp))) [.refused]
      else if Word.lower resp = 1#8 then
        State.addBid (s.offers.entry n).job .accept (s.updateEntry n (fun e =>
          { OfferEntry.answered resp (s.responseOutcome n (Word.lower resp)) (e.become .bidding) with timer := some 8 }) [])
      else if Word.lower resp = 2#8 then
        State.addBid (s.offers.entry n).job .decline (s.updateEntry n (fun e =>
          OfferEntry.answered resp (s.responseOutcome n (Word.lower resp)) (e.become .declined)) [])
      else
        (fun t => if (s.offers.entry n).state == .awarded then State.leftAwarded (State.addBid (s.offers.entry n).job .return t) else t)
          { s.updateEntry n (fun e => OfferEntry.answered resp (s.responseOutcome n (Word.lower resp)) e.emptied) [] with
            offers := (s.updateEntry n (fun e =>
              OfferEntry.answered resp (s.responseOutcome n (Word.lower resp)) e.emptied) []).offers.forget n } := by
  subst hresp
  rfl

/-- The fields of an answered entry after the update, whatever else the response did to it. -/
theorem State.answered_update (n : Fin 16) (resp : Word) (o : Outcome) (g : OfferEntry → OfferEntry) (cs : List Cause) (s : State)
    (hseq : ∀ e, (g e).seq = e.seq) (hg : ∀ e, (g e).response = resp ∧ (g e).result = ⟨Word.lower resp, Word.upper resp, o⟩) :
    let t := s.updateEntry n g cs
    (t.offers.entry n).response = resp ∧ (t.offers.entry n).result = ⟨Word.lower resp, Word.upper resp, o⟩ ∧
      (t.offers.entry n).seq = (s.offers.entry n).seq + 1#8 ∧ t.path.queued (.offerRewrite n) = true ∧
      ∀ k, k ≠ n → t.offers.entry k = s.offers.entry k := by
  intro t
  rw [State.updateEntry_self]
  obtain ⟨hresponse, hresult⟩ := hg (s.offers.entry n)
  exact ⟨hresponse, hresult, congrArg (· + 1#8) (hseq _), State.updateEntry_queued n g cs s, fun k hk => State.updateEntry_other hk g cs s⟩

theorem exec_response {n : Fin 16} {l : Lanes} {token : Byte} {d : Word} {c : Instr}
    (hc : (c = .responseAccept n l token ∧ d = Word.ofBytes token 1#8) ∨ (c = .responseDecline n l token ∧ d = Word.ofBytes token 2#8) ∨
      (c = .responseRelease n l token ∧ d = Word.ofBytes token 3#8) ∨ c = .responseOtherCode n l d) (s : State) :
    exec c s = .next (s.writeAt (responseOffset n) l d) := by
  rcases hc with ⟨rfl, rfl⟩ | ⟨rfl, rfl⟩ | ⟨rfl, rfl⟩ | rfl <;> rfl

/-- Settles O43: the refusal, and the three taken responses. -/
theorem responseIsJudgedByItsEntry : Obligations.ResponseIsJudgedByItsEntry := by
  intro s n l token d c hc hs hl e resp code o
  have hoffset := responseOffset_eq n
  obtain ⟨b, hp, hw⟩ := State.writeAt_owner d hs (o := responseOffset n) (by omega) (by omega) hl fun hi => by
    rw [fieldAt_response]
    rfl
  rw [fieldAt_response] at hw
  have hexec := (exec_response hc s).trans (congrArg Host.Outcome.next hw)
  have htake : State.takeWatched (.offer n 0x18) l d { s with path := { s.path with buffer := b } } =
      State.takeResponse n l d { s with path := { s.path with buffer := b } } := rfl
  rw [htake] at hexec
  generalize hx : ({ s with path := { s.path with buffer := b } } : State) = x at hexec
  have hxo : x.offers = s.offers := by rw [← hx]
  have ho : x.responseOutcome n (Word.lower resp) = o := by
    rw [State.responseOutcome_eq, ← hx]
  have heq := State.takeResponse_eq n l d x (resp := resp) (by rw [hxo])
  rw [ho, hxo] at heq
  refine ⟨_, hexec, by simp [← hx], by simp [← hx], by simp [← hx], by simp [← hx], by simp [← hx], by simp [← hx], by simp [← hx],
    by simp [← hx], by simp [State.linesStay, ← hx], ?_⟩
  rw [heq]
  by_cases htaken : o = .taken
  · rw [if_neg (by simp [htaken])]
    by_cases h1 : code = 1#8
    · rw [if_pos h1]
      have hupdate := State.answered_update n resp o (fun e => { OfferEntry.answered resp o (e.become .bidding) with timer := some 8 }) [] x
        (fun _ => rfl) (fun _ => ⟨rfl, rfl⟩)
      rw [hxo] at hupdate
      obtain ⟨hresponse, hresult, hseq, hqueued, hothers⟩ := hupdate
      simp only [State.addBid_frame]
      refine ⟨hothers, hresponse, hresult, hseq, hqueued, fun hn => absurd htaken hn, fun _ _ => ⟨?_, ?_, ?_, State.addBid_mem _ _ _, ?_⟩,
        fun _ h2 => absurd (h1.symm.trans h2) (by decide), fun _ h3 => absurd (h1.symm.trans h3) (by decide)⟩
      · rw [State.updateEntry_self]
        rfl
      · rw [State.updateEntry_self]
      · rw [State.updateEntry_self, hxo]
        rfl
      · rw [← hx]
        rfl
    · by_cases h2 : code = 2#8
      · rw [if_neg h1, if_pos h2]
        have hupdate := State.answered_update n resp o (fun e => OfferEntry.answered resp o (e.become .declined)) [] x
          (fun _ => rfl) (fun _ => ⟨rfl, rfl⟩)
        rw [hxo] at hupdate
        obtain ⟨hresponse, hresult, hseq, hqueued, hothers⟩ := hupdate
        simp only [State.addBid_frame]
        refine ⟨hothers, hresponse, hresult, hseq, hqueued, fun hn => absurd htaken hn, fun _ h1' => absurd h1' h1,
          fun _ _ => ⟨?_, ?_, ?_, State.addBid_mem _ _ _, ?_⟩, fun _ h3 => absurd (h2.symm.trans h3) (by decide)⟩
        · rw [State.updateEntry_self]
          rfl
        · rw [State.updateEntry_self]
          rfl
        · rw [State.updateEntry_self, hxo]
          rfl
        · rw [← hx]
          rfl
      · rw [if_neg h1, if_neg h2]
        have hupdate := State.answered_update n resp o (fun e => OfferEntry.answered resp o e.emptied) [] x (fun _ => rfl)
          (fun _ => ⟨rfl, rfl⟩)
        rw [hxo] at hupdate
        obtain ⟨hresponse, hresult, hseq, hqueued, hothers⟩ := hupdate
        have hstate : ((x.updateEntry n (fun e => OfferEntry.answered resp o e.emptied) []).offers.entry n).state = .empty := by
          rw [State.updateEntry_self]
          rfl
        have hsame : (x.updateEntry n (fun e => OfferEntry.answered resp o e.emptied) []).sched = s.sched ∧
            (x.updateEntry n (fun e => OfferEntry.answered resp o e.emptied) []).status = s.status := by
          rw [← hx]
          exact ⟨rfl, rfl⟩
        obtain ⟨hsched, hstatus⟩ := hsame
        generalize x.updateEntry n (fun e => OfferEntry.answered resp o e.emptied) [] = t at *
        by_cases hawarded : e.state = .awarded
        · simp only [show (s.offers.entry n).state = .awarded from hawarded, beq_self_eq_true, if_true, State.leftAwarded_frame,
            State.addBid_frame, State.leftAwarded_fields, State.leftAwarded_status, OfferEngine.entry_forget, hstatus]
          exact ⟨hothers, hresponse, hresult, hseq, hqueued, fun hn => absurd htaken hn, fun _ h => absurd h h1, fun _ h => absurd h h2,
            fun _ _ => ⟨hstate, fun hn => absurd hawarded hn, fun _ => ⟨State.addBid_mem _ _ _, trivial⟩⟩⟩
        · simp only [show ((s.offers.entry n).state == .awarded) = false by simpa using hawarded, Bool.false_eq_true, if_false,
            OfferEngine.entry_forget]
          exact ⟨hothers, hresponse, hresult, hseq, hqueued, fun hn => absurd htaken hn, fun _ h => absurd h h1, fun _ h => absurd h h2,
            fun _ _ => ⟨hstate, fun _ => ⟨hsched, hstatus⟩, fun h => absurd h hawarded⟩⟩
  · rw [if_pos htaken]
    have hupdate := State.answered_update n resp o (OfferEntry.answered resp o) [.refused] x (fun _ => rfl) (fun _ => ⟨rfl, rfl⟩)
    rw [hxo] at hupdate
    obtain ⟨hresponse, hresult, hseq, hqueued, hothers⟩ := hupdate
    refine ⟨hothers, hresponse, hresult, hseq, hqueued, fun _ => ?_, fun h => absurd h htaken, fun h => absurd h htaken,
      fun h => absurd h htaken⟩
    rw [State.updateEntry_self, hxo]
    exact ⟨by rw [← hx]; rfl, by rw [← hx]; rfl, by rw [← hx]; rfl, rfl, rfl, rfl, joinCauses_mem (by simp)⟩

end Sys2Proof.Machine
end

section
/-! PROOFS. The reads that have an effect (R37, R38, R97, R116, R178, R207). -/

namespace Sys2Proof.Machine

/-- A read of a field that is SHADOWED in READY (R192, R193). -/
theorem State.answered_ready {s : State} {o : Nat} {l : Lanes} (hs : s.cyclesFree = true) (he : o % 2 = 0) (ho : o < 0x4000)
    (hl : laneAny l = true) (hu : s.path.under = none) (ht : ∀ hi, s.readyTreatment (fieldAt o) hi = .shadowed) :
    Host.Outcome.next (φ := Fault) (ρ := Refusal) (s.readAt o l) = .next (State.readEffect (fieldAt o)
      { s with
        path := { s.path with
          answer := some
            ⟨pageAddress s.path.asel o, if l.lo then some (Word.lower (s.shadowWord (fieldAt o))) else none,
              if l.hi then some (Word.upper (s.shadowWord (fieldAt o))) else none⟩ } }) := by
  obtain ⟨-, -, -, hstart⟩ := State.cyclesFree_running hs
  exact State.answered hs he ho hl (fun hi => (State.treatment_ready hstart _ hi).trans (ht hi)) hu

theorem fieldAt_counterOffset (k : Counter) : fieldAt (counterOffset k) = .counter k := by cases k <;> rfl

theorem counterOffset_even (k : Counter) : counterOffset k % 2 = 0 ∧ counterOffset k < 0x4000 := by cases k <;> decide

theorem fieldAt_linkStatus (k : Fin 5) : fieldAt (0x20 + 2 * k.val) = .linkStatus k.val := by
  revert k
  decide

/-- Settles O44: each read is answered by its owner, and has its effect there. -/
theorem readsHaveTheirEffects : Obligations.ReadsHaveTheirEffects := by
  intro s l hs hl hu answered rest
  refine ⟨fun k => ?_, ?_, fun k => ?_, ?_, ?_, fun hopen => ?_⟩
  · obtain ⟨heven, hlt⟩ := counterOffset_even k
    have hread := State.answered_ready hs heven hlt hl hu fun hi => by rw [fieldAt_counterOffset]; rfl
    rw [fieldAt_counterOffset] at hread
    exact ⟨_, hread, rfl, ⟨rfl, rfl, rfl, rfl, rfl, rfl, rfl, rfl, rfl⟩, rfl, rfl, rfl, rfl⟩
  · exact ⟨_, State.answered_ready hs rfl (by decide) hl hu (o := 0x4E) fun _ => rfl, rfl,
      ⟨rfl, rfl, rfl, rfl, rfl, rfl, rfl, rfl, rfl⟩, rfl, rfl, rfl, rfl⟩
  · have hread := State.answered_ready hs (o := 0x20 + 2 * k.val) (by omega) (by omega) hl hu fun hi => by
      rw [fieldAt_linkStatus]
      rfl
    rw [fieldAt_linkStatus] at hread
    exact ⟨_, hread, rfl, ⟨rfl, rfl, rfl, rfl, rfl, rfl, rfl, rfl, rfl⟩, rfl, rfl, rfl, rfl⟩
  · exact ⟨_, State.answered_ready hs rfl (by decide) hl hu (o := 0x1C) fun _ => rfl, rfl,
      ⟨rfl, rfl, rfl, rfl, rfl, rfl, rfl, rfl, rfl⟩, rfl, rfl, rfl, rfl⟩
  · exact ⟨_, State.answered_ready hs rfl (by decide) hl hu (o := 0x70) fun _ => rfl, rfl,
      ⟨rfl, rfl, rfl, rfl, rfl, rfl, rfl, rfl, rfl⟩, rfl, rfl, rfl, rfl⟩
  · exact ⟨_, State.answered_ready hs rfl (by decide) hl hu (o := 0x980) fun _ => if_pos (by simp [State.totalsShadowed, hopen]), rfl,
      ⟨rfl, rfl, rfl, rfl, rfl, rfl, rfl, rfl, rfl⟩, rfl, rfl, rfl, rfl⟩

end Sys2Proof.Machine
end

section
/-! PROOFS. A HIRE (R2, R5, R85, R98, R104, R175, R177). -/

namespace Sys2Proof.Machine

/-! ## The state in which a trip opens -/

/-- A HIRE first closes an open trip as interrupted, or opens a shift where none is open (R98, R104). -/
def State.hirePrepared (s : State) : State :=
  if s.trips.trip.isSome then s.closeTrip ⟨s.trips.openSum, true, false⟩
  else if s.status.shiftOpen then s else s.openShift 0#16 true

theorem State.takeHire_eq (k : Byte) (s : State) : s.takeHire k = s.hirePrepared.openTrip k := by
  unfold State.takeHire State.hirePrepared
  split <;> rfl

theorem State.hirePrepared_stays (s : State) :
    s.hirePrepared.pending = s.pending ∧ s.hirePrepared.mem = s.mem ∧ s.hirePrepared.link = s.link ∧ s.hirePrepared.offers = s.offers ∧
      s.hirePrepared.msgs = s.msgs ∧ s.hirePrepared.emerg = s.emerg ∧ s.hirePrepared.power = s.power ∧
      s.hirePrepared.pins.wake = s.pins.wake ∧ s.hirePrepared.pins.emswClosed = s.pins.emswClosed ∧
      s.hirePrepared.pins.ign = s.pins.ign := by
  unfold State.hirePrepared
  (repeat' split) <;> simp

theorem State.hirePrepared_none {s : State} (h : s.trips.trip = none) :
    s.hirePrepared = if s.status.shiftOpen then s else s.openShift 0#16 true := if_neg (by simp [h])

theorem State.hirePrepared_some {s : State} {old : OpenTrip} (h : s.trips.trip = some old) :
    s.hirePrepared = s.closeTrip ⟨old.stepSum, true, false⟩ := by
  rw [State.hirePrepared, if_pos (by simp [h]), TripEngine.openSum, h]
  rfl

theorem State.loadTotalsCopy_copy (s : State) : s.loadTotalsCopy.trips.totalsCopy = s.loadTotalsCopy.trips.totals.image 0#32 := by
  simp only [State.loadTotalsCopy]

/-- The opening of a shift (R2, R114, R116). -/
theorem State.openShift_spec (driver : Word) (opened : Bool) (s : State) :
    let number := nextSkippingZero s.status.shiftNumber
    let t := s.openShift driver opened
    t.status = { s.status with shiftOpen := true, shiftNumber := number, driverId := driver, meterOpened := opened } ∧
      t.trips.counter = 1#16 ∧
      t.trips.totals = { Totals.zero with
        shiftNumber := number, driverId := driver, meterOpened := opened, openTime := s.link.clock } ∧
      t.trips.totalsCopy = t.trips.totals.image 0#32 := ⟨rfl, rfl, rfl, State.loadTotalsCopy_copy _⟩

/-- An interrupted close does not reach the status (R104). -/
theorem State.closeTrip_interrupted_status (fare : DWord) (forced : Bool) (s : State) :
    (s.closeTrip ⟨fare, true, forced⟩).status = s.status := by
  unfold State.closeTrip
  split
  · simp [State.changeTotals]
  · rfl

/-- A cause that is set stays set when a trip closes or a shift opens. -/
theorem State.hirePrepared_keeps {m : BitVec 13} {s : State} (h : s.page.causes &&& m = m) : s.hirePrepared.page.causes &&& m = m := by
  unfold State.hirePrepared
  (repeat' split)
  · exact State.closeTrip_keeps h
  · exact h
  · simpa using h

/-- Outside ACTIVE every source but the radio wakes the part (R175). -/
theorem WakeSource.wakesIn_down {w : WakeSource} {p : PowerState} (hw : w ≠ .radio) (h : p ≠ .active) : w.wakesIn p = true := by
  cases p <;> simp_all [WakeSource.wakesIn]

/-- Settles O46: the wake event, what a HIRE does before its trip opens, and the trip. -/
theorem hireOpensATrip : Obligations.HireOpensATrip := by
  intro s k hr h1 h8 number
  have hexec : exec (.hire k) s = .next ((s.wakeEvent .meter).hirePrepared.openTrip k) := by
    rw [← State.takeHire_eq]
    show Host.Outcome.next (if s.ready && (MeterMessage.hire k).inRange then s.meterMessage (.hire k) else s) = _
    rw [if_pos (by simp [hr, MeterMessage.inRange, h1, h8])]
    rfl
  have hstart := ((State.ready_iff s).1 hr).2
  have hwake : (s.wakeEvent .meter).trips = s.trips ∧ (s.wakeEvent .meter).status = s.status := by simp
  have hwclock : (s.wakeEvent .meter).link.clock = s.link.clock ∧ (s.wakeEvent .meter).link.seconds = s.link.seconds := by simp
  have hwblocks : (s.wakeEvent .meter).pending = s.pending ∧ (s.wakeEvent .meter).mem = s.mem ∧ (s.wakeEvent .meter).emerg = s.emerg ∧
      (s.wakeEvent .meter).offers = s.offers ∧ (s.wakeEvent .meter).power.startUp = .ready := by simp [hstart]
  have hactive : s.power.power = .active → s.wakeEvent .meter = s := State.wakeEvent_active
  have hother := fun hn : s.power.power ≠ .active => State.wakeEvent_spec (w := .meter) (WakeSource.wakesIn_down (by decide) hn)
  generalize s.wakeEvent .meter = w at *
  obtain ⟨htrips, hstatus⟩ := hwake
  obtain ⟨hclock, hseconds⟩ := hwclock
  obtain ⟨hpending, hmem, hemerg, hoffers, hready⟩ := hwblocks
  obtain ⟨upending, umem, ulink, uoffers, umsgs, uemerg, upower, uwake, uswitch, uign⟩ := State.hirePrepared_stays w
  obtain ⟨o, htrip, hstartTime, hmark, htariffs, hgroups, hungrouped, hsum, hcount, hflags, hsilence, hjob, hforced, hempty, hsame, hreport,
    hlamps, href, hst, htr⟩ := State.openTrip_spec k w.hirePrepared _ (by rw [upower]; exact hready) rfl
  rw [ulink, hclock] at hstartTime htariffs
  rw [ulink, hseconds] at hmark
  rw [uemerg, hemerg] at hflags
  rw [uoffers, hoffers] at hjob hforced hempty hsame
  refine ⟨_, o, hexec, htrip, by simp [upending, hpending], by simp [umem, hmem], by simp [uemerg, hemerg], hstartTime, hmark, htariffs,
    hgroups, hungrouped, hsum, hcount, hflags, hsilence, hjob, hforced, hempty, hsame, hreport, hlamps, fun hnone hopen => ?_,
    fun hnone hclosed => ?_, fun old hold => ?_, fun hact => ?_, fun hn => ?_⟩
  · have hu := State.hirePrepared_none (s := w) (by rw [htrips]; exact hnone)
    rw [if_pos (by rw [hstatus]; exact hopen)] at hu
    rw [hst, htr, href, hu, htrips, hstatus]
    exact ⟨rfl, rfl, rfl⟩
  · have hu := State.hirePrepared_none (s := w) (by rw [htrips]; exact hnone)
    rw [if_neg (by rw [hstatus, hclosed]; decide)] at hu
    obtain ⟨ust, ucounter, utotals, ucopy⟩ := State.openShift_spec 0#16 true w
    rw [hst, htr, href, hu, ust, hstatus]
    dsimp only
    rw [ucounter, utotals, ucopy, utotals, hstatus, hclock]
    exact ⟨rfl, rfl, rfl, rfl, rfl⟩
  · have hu := State.hirePrepared_some (s := w) (by rw [htrips]; exact hold)
    obtain ⟨-, -, hlast, hlisted, -, htotals, -, -⟩ := State.closeTrip_spec (e := ⟨old.stepSum, true, false⟩)
      (by rw [htrips]; exact hold) rfl
    rw [hst, htr, href, hu]
    refine ⟨?_, ?_, hlast, ?_, ⟨w.closedRecord old ⟨old.stepSum, true, false⟩, 0, 0, false⟩, List.mem_of_getLast? hlisted, rfl, rfl, rfl, rfl,
      hclock⟩
    · rw [State.closeTrip_interrupted_status, hstatus]
      simp [htrips]
    · rw [State.closeTrip_interrupted_status, hstatus]
    · rw [Totals.sameButFates] at htotals
      dsimp only
      rw [htotals, Totals.take, htrips]
  · rw [hactive hact] at *
    refine ⟨by simp [upower], by simp [ulink], by simp [umsgs], ?_, fun hnone => ?_⟩
    · simp [State.linesStay, uwake, uswitch, uign]
    · have hu := State.hirePrepared_none hnone
      rw [hu]
      split <;> simp [State.linesStay]
  · obtain ⟨hpower, hpin, hcause⟩ := hother hn
    refine ⟨by simp [upower, hpower, WakeReason.add], by simp [uwake, hpin], ?_⟩
    simpa using State.hirePrepared_keeps hcause

end Sys2Proof.Machine
end

section
/-! PROOFS. The close of a trip (R5, R93, R102, R103, R105 to R107, R110, R115). -/

namespace Sys2Proof.Machine

/-- The record of a close that was not an interruption (R102, R105, R106). -/
def State.endedRecord (s : State) (o : OpenTrip) (fare : DWord) (forced : Bool) : TripRecord :=
  { ref := o.ref, driverId := s.status.driverId, meterOpened := s.status.meterOpened, job := o.job, forced := o.forced,
    startTime := o.startTime, closeTime := s.link.clock, duration := BitVec.ofNat 32 (s.link.seconds - o.startMark),
    tariffs := o.tariffs, groups := o.groups, ungrouped := o.ungrouped, stepSum := o.stepSum, stepCount := o.stepCount,
    fare := fare, extras := satSub fare o.stepSum,
    flags := { o.flags with interrupted := false, forcedClose := forced, mismatch := decide (fare ≠ o.stepSum) },
    faultCode := if o.flags.meterFault then s.trips.lastFault else 0#8 }

theorem State.closedRecord_ended (s : State) (o : OpenTrip) (fare : DWord) (forced : Bool) :
    s.closedRecord o ⟨fare, false, forced⟩ = s.endedRecord o fare forced := by
  have hmismatch : (fare != o.stepSum) = decide (fare ≠ o.stepSum) := by
    by_cases h : fare = o.stepSum <;> simp [h]
  simp only [State.closedRecord, State.endedRecord, hmismatch]

/-- The totals with a closed trip taken, but for its fates (R115). -/
def Totals.withTrip (a : Totals) (o : OpenTrip) (r : TripRecord) : Totals :=
  { a with
    tripsClosed := satAdd a.tripsClosed 1#16,
    tripsWithJob := (if o.job.isSome then satAdd a.tripsWithJob 1#16 else a.tripsWithJob),
    tripsWithEmergency := (if o.flags.emergency then satAdd a.tripsWithEmergency 1#16 else a.tripsWithEmergency),
    mismatches := (if r.fare ≠ o.stepSum then satAdd a.mismatches 1#16 else a.mismatches),
    meterFaults := (if o.flags.meterFault then satAdd a.meterFaults 1#16 else a.meterFaults),
    fareTotal := satAdd a.fareTotal r.fare,
    groupTotals := ⟨satAdd a.groupTotals.g0 o.groups.g0, satAdd a.groupTotals.g1 o.groups.g1,
      satAdd a.groupTotals.g2 o.groups.g2, satAdd a.groupTotals.g3 o.groups.g3⟩,
    ungroupedTotal := satAdd a.ungroupedTotal o.ungrouped, extrasTotal := satAdd a.extrasTotal r.extras,
    hiredSeconds := satAdd a.hiredSeconds r.duration }

theorem Totals.take_ended (a : Totals) (s : State) (o : OpenTrip) (fare : DWord) (forced : Bool) :
    a.take (s.endedRecord o fare forced) = a.withTrip o (s.endedRecord o fare forced) := by
  by_cases h : fare = o.stepSum <;> simp [Totals.take, Totals.withTrip, State.endedRecord, countIf, Groups.addAll, h]

/-- What the close of a trip leaves: the record, the lists and totals that take it, and the status (R103, R106, R107, R110, R115). -/
def State.closesTrip (s t : State) (o : OpenTrip) (fare : DWord) (forced : Bool) : Prop :=
  let r := s.endedRecord o fare forced
  let a := s.trips.totals
  t.trips.trip = none ∧ t.trips.silence = none ∧ t.trips.lastRef = o.ref ∧ t.trips.counter = s.trips.counter ∧
    t.trips.lastFault = s.trips.lastFault ∧ t.trips.shiftReport = s.trips.shiftReport ∧ t.trips.captured = s.trips.captured ∧
    t.trips.reports.getLast? = some ⟨r, 0, 0, false⟩ ∧
    (t.trips.deposit.map (·.record) = some r ∨ r ∈ t.trips.pendingLog) ∧
    t.trips.totals = { a.withTrip o r with
      reportsInList := t.trips.totals.reportsInList, reportsAbandoned := t.trips.totals.reportsAbandoned
      tripsNotLogged := t.trips.totals.tripsNotLogged } ∧
    (s.trips.reports.length < 8 → (∀ e ∈ s.trips.reports, e.record.ref ≠ o.ref) →
      t.trips.reports = s.trips.reports ++ [⟨r, 0, 0, false⟩] ∧ t.trips.totals.reportsAbandoned = a.reportsAbandoned ∧
      (s.status.shiftOpen = true → o.ref.shift = s.status.shiftNumber →
        t.trips.totals.reportsInList = satAdd a.reportsInList 1#16)) ∧
    t.status.status =
      (if s.status.status = .hired then (if s.offers.awarded.isSome then .assigned else .free) else s.status.status) ∧
    t.status.shiftNumber = s.status.shiftNumber ∧ t.status.driverId = s.status.driverId ∧
    t.pending = s.pending ∧ t.mem = s.mem ∧ t.offers = s.offers ∧ t.msgs = s.msgs ∧ t.link = s.link ∧ t.emerg = s.emerg ∧
    t.power = s.power

theorem State.closeTrip_closes {s : State} {o : OpenTrip} (h : s.trips.trip = some o) (fare : DWord) (forced : Bool) :
    s.closesTrip (s.closeTrip ⟨fare, false, forced⟩) o fare forced := by
  obtain ⟨htrip, hsilence, hlast, hlisted, hlogged, htotals, hroom, hstatus⟩ := State.closeTrip_spec (e := ⟨fare, false, forced⟩) h rfl
  rw [State.closedRecord_ended] at hlisted hlogged htotals hroom
  rw [Totals.take_ended, Totals.sameButFates] at htotals
  refine ⟨htrip, hsilence, hlast, by simp, by simp, by simp, by simp, hlisted, hlogged, htotals, fun hlt hne => ?_, ?_, by simp, by simp,
    by simp, by simp, by simp, by simp, by simp, by simp, by simp⟩
  · obtain ⟨hreports, habandoned, -, hcounted⟩ := hroom hlt hne
    exact ⟨hreports, habandoned, hcounted⟩
  · simpa using hstatus

/-- Settles O47: STOP, and CLOSE_TRIP after a meter fault. -/
theorem tripClosesWithItsRecord : Obligations.TripClosesWithItsRecord := by
  constructor
  · intro s fare hr hnone
    have hstop : s.takeStop fare = s := by simp [State.takeStop, State.closeTrip, hnone]
    show Host.Outcome.next (if s.ready && (MeterMessage.stop fare).inRange then s.takeStop fare else s) = _
    rw [hstop, ite_self]
  · intro s o h closes
    constructor
    · intro fare hr
      refine ⟨s.closeTrip ⟨fare, false, false⟩, ?_, State.closeTrip_closes h fare false⟩
      show Host.Outcome.next (if s.ready && (MeterMessage.stop fare).inRange then s.takeStop fare else s) = _
      rw [if_pos (by simp [hr, MeterMessage.inRange])]
      rfl
    · intro l hs hl hw hopen hfault
      obtain ⟨b, -, htake⟩ := State.writeAt_owner 2#16 hs rfl (by decide) hl (o := 0x3E) fun _ => rfl
      generalize hx : ({ s with
          path := { s.path with buffer := b }, page := { s.page with shiftCopy := 2#16 }
          status := { s.status with shiftResult := ⟨2#16, .taken⟩ } } : State) = x
      have houtcome : State.shiftOutcome 2#16 { s with path := { s.path with buffer := b } } = .taken := by
        rw [State.shiftOutcome_eq]
        simp [h, hopen, hfault]
      have hwrite : State.takeWatched (fieldAt 0x3E) l 2#16 { s with path := { s.path with buffer := b } } =
          x.closeTrip ⟨o.stepSum, false, true⟩ := by
        have hsum : x.trips.openSum = o.stepSum := by
          rw [← hx, TripEngine.openSum, h]
          rfl
        rw [← hsum, ← hx, ← State.forceClose]
        show State.shiftControl l 2#16 _ = _
        simp only [State.shiftControl, hw, houtcome]
        rfl
      rw [hwrite] at htake
      have hcloses := State.closeTrip_closes (s := x) (by rw [← hx]; exact h) o.stepSum true
      refine ⟨_, congrArg Host.Outcome.next htake, ?_, by simp [← hx]⟩
      subst hx
      exact hcloses

end Sys2Proof.Machine
end

section
/-! PROOFS. The ends of reports (R111 to R113, R118). -/

namespace Sys2Proof.Machine

theorem retransmitComes_of {now sends retransmit : Nat} {come : Bool} (h1 : 1 ≤ sends) (hc : come = false) (ht : retransmit ≤ now) :
    retransmitComes now sends retransmit come = true := by
  simp [retransmitComes, h1, hc, ht]

/-- The list without the report of a trip. -/
theorem TripEngine.unlist_reports (t : TripEngine) (r : TripRef) :
    (t.unlist r).reports = t.reports.filter (fun e => decide (e.record.ref ≠ r)) := by
  refine List.filter_congr fun e _ => ?_
  by_cases h : e.record.ref = r <;> simp [h]

/-- A report that ends raises REPORT_DONE, also where long slots are then asked for (R59, R112, R113). -/
theorem State.raises_reportDone {s x : State} (hpage : x.page = s.page) (hattn : x.pins.attn = s.pins.attn) :
    s.raises (x.raise .reportDone) 0x20#13 ∧ s.raises (x.raise .reportDone).settleLong 0x20#13 := by
  have h := State.raises_of (State.raise_raises .reportDone x) hpage hattn
  exact ⟨h, State.raises_to h (by simp) (by simp)⟩

/-- The retransmit time of a listed report (R111, R112). -/
theorem State.fareRetransmit_comes {s : State} {e : FareReport}
    (hfind : s.trips.reports.find? (fun x => x.record.ref == e.record.ref) = some e) (h1 : 1 ≤ e.sends) (hc : e.come = false)
    (ht : e.retransmit ≤ s.link.seconds) :
    s.fareRetransmit e.record.ref = State.settleLong (if 5 ≤ e.sends then s.abandonReport e.record.ref
      else { s with trips := { s.trips with
        reports := s.trips.reports.map (fun x => if x.record.ref = e.record.ref then { x with come := true } else x) } }) := by
  simp only [State.fareRetransmit, hfind, retransmitComes_of h1 hc ht, if_true]

/-- The retransmit time of the shift report (R118). -/
theorem State.shiftRetransmit_comes {s : State} {e : ShiftReport} (hreport : s.trips.shiftReport = some e) (h1 : 1 ≤ e.sends)
    (hc : e.come = false) (ht : e.retransmit ≤ s.link.seconds) :
    s.shiftRetransmit = State.settleLong (if 5 ≤ e.sends then State.raise .reportDone { s with trips := { s.trips with shiftReport := none } }
      else { s with trips := { s.trips with shiftReport := some { e with come := true } } }) := by
  simp only [State.shiftRetransmit, hreport, retransmitComes_of h1 hc ht, if_true]

/-- The three cases of an ACK of kind FARE (R113). -/
theorem State.ackFare_eq (r : TripRef) (s : State) :
    ((∃ e ∈ s.trips.reports, e.record.ref = r) → s.ackFare r = State.settleLong (State.raise .reportDone
      (State.changeTotalsFor r Totals.listedToAcknowledged { s with trips := s.trips.unlist r, radio := s.radio.leave (.fare r) }))) ∧
    ((∀ e ∈ s.trips.reports, e.record.ref ≠ r) → r ∈ s.trips.abandoned → s.ackFare r = State.raise .reportDone
      (State.changeTotalsFor r Totals.abandonedToAcknowledged
        { s with trips := { s.trips with abandoned := s.trips.abandoned.erase r } })) ∧
    ((∀ e ∈ s.trips.reports, e.record.ref ≠ r) → r ∉ s.trips.abandoned → s.ackFare r = s) := by
  have hlisted : s.trips.reports.any (fun e => e.record.ref == r) = true ↔ ∃ e ∈ s.trips.reports, e.record.ref = r := by simp
  have hnot : (∀ e ∈ s.trips.reports, e.record.ref ≠ r) → ¬s.trips.reports.any (fun e => e.record.ref == r) = true := fun h hn =>
    let ⟨e, he, heq⟩ := hlisted.1 hn
    h e he heq
  refine ⟨fun h => if_pos (hlisted.2 h), fun h ha => (if_neg (hnot h)).trans (if_pos (by simpa using ha)),
    fun h ha => (if_neg (hnot h)).trans (if_neg (by simpa using ha))⟩

/-- An ACK of kind SHIFT (R118). -/
theorem State.ackShift_eq (n : Word) (s : State) :
    (s.trips.shiftReport.any (fun e => e.content.totals.shiftNumber == n) = true →
      s.ackShift n = State.settleLong (State.raise .reportDone
        { s with trips := { s.trips with shiftReport := none }, radio := s.radio.leave (.shift n) })) ∧
    (s.trips.shiftReport.any (fun e => e.content.totals.shiftNumber == n) = false → s.ackShift n = s) := by
  cases h : s.trips.shiftReport with
  | none => simp [State.ackShift, h]
  | some e =>
    by_cases hn : e.content.totals.shiftNumber = n
    · simp [State.ackShift, h, hn]
    · simp [State.ackShift, h, hn]

/-- Settles O48: the two retransmit times and the two acknowledgments. -/
theorem reportsAreRepeatedAndEnded : Obligations.ReportsAreRepeatedAndEnded := by
  intro s rest counts without
  refine ⟨fun hr e hfind h1 hc ht => ?_, fun hr e hreport h1 hc ht => ?_, fun h r hh => ?_, fun h n hh => ?_⟩
  · refine ⟨s.fareRetransmit e.record.ref, congrArg Host.Outcome.next (if_pos hr), ?_, fun hsends => ?_, fun hsends => ?_⟩
    · simp [rest, State.lampsStay]
    · rw [State.fareRetransmit_comes hfind h1 hc ht, if_neg (by omega)]
      simp
    · rw [State.fareRetransmit_comes hfind h1 hc ht, if_pos hsends]
      obtain ⟨hraises, hreports, habandoned, htotals⟩ := State.abandonReport_spec e.record.ref s
      refine ⟨State.raises_to hraises (by simp) (by simp), ?_, by simpa using habandoned, ?_⟩
      · simp only [State.settleLong_frame]
        exact hreports.trans (TripEngine.unlist_reports s.trips e.record.ref)
      · simp only [counts, State.settleLong_frame]
        exact htotals
  · refine ⟨s.shiftRetransmit, congrArg Host.Outcome.next (if_pos hr), ?_, fun hsends => ?_, fun hsends => ?_⟩
    · simp [rest, State.lampsStay]
    · rw [State.shiftRetransmit_comes hreport h1 hc ht, if_neg (by omega)]
      simp
    · rw [State.shiftRetransmit_comes hreport h1 hc ht, if_pos hsends]
      exact ⟨(State.raises_reportDone rfl rfl).2, by simp⟩
  · obtain ⟨hlisted, habandoned, hnone⟩ := State.ackFare_eq r s
    refine ⟨s.ackFare r, congrArg Host.Outcome.next (State.receive_heard hh), ?_, fun hin => ?_, fun hn ha => ?_, hnone⟩
    · simp [rest, State.lampsStay]
    · rw [hlisted hin]
      refine ⟨(State.raises_reportDone (by simp) (by simp)).2, ?_, by simp [TripEngine.unlist], ?_⟩
      · simp only [State.settleLong_frame, State.raise_frame, State.changeTotalsFor_fields]
        exact TripEngine.unlist_reports s.trips r
      · simp only [counts, State.settleLong_frame, State.raise_frame]
        exact State.changeTotalsFor_totals r _ _
    · rw [habandoned hn ha]
      refine ⟨(State.raises_reportDone (by simp) (by simp)).1, by simp, by simp, ?_⟩
      simp only [counts, State.raise_frame]
      exact State.changeTotalsFor_totals r _ _
  · obtain ⟨htaken, hother⟩ := State.ackShift_eq n s
    refine ⟨s.ackShift n, congrArg Host.Outcome.next (State.receive_heard hh), ?_, fun hin => ?_, hother⟩
    · simp [rest, State.lampsStay]
    · rw [htaken hin]
      exact ⟨(State.raises_reportDone rfl rfl).2, by simp⟩

end Sys2Proof.Machine
end

section
/-! PROOFS. The emergency switch, the ignition, and the timers in seconds (R12, R13, R20, R84, R86, R101, R149, R150, R152, R156, R175, R179). -/

namespace Sys2Proof.Machine

/-! ## The switch (R149, R150) -/

/-- The open trip with its emergency flag set (R101). -/
def TripEngine.marked (t : TripEngine) : TripEngine :=
  { t with trip := t.trip.map (fun o => { o with flags := { o.flags with emergency := true } }) }

/-- A closing: the wake event, and then the Emergency Unit (R149). -/
theorem State.takeClosing_eq (s : State) :
    s.takeClosing = if s.emerg.state = .clear then
      { s.wakeEvent .switch with emerg := { s.emerg with state := .pressed, hold := some 2 }, trips := s.trips.marked }
    else s.wakeEvent .switch := by
  have hem : (s.wakeEvent .switch).emerg = s.emerg := by simp
  have htr : (s.wakeEvent .switch).trips = s.trips := by simp
  unfold State.takeClosing
  dsimp only
  rw [hem]
  by_cases h : s.emerg.state = .clear
  · rw [if_pos (by simp [h]), if_pos h, State.markTripEmergency, State.changeTrip]
    dsimp only
    rw [htr]
    rfl
  · rw [if_neg (by simp [h]), if_neg h]

theorem exec_emswClosing_ready {s : State} (hopen : s.pins.emswClosed = false) (hr : s.ready = true) :
    exec .emswClosing s = .next (State.takeClosing { s with pins := { s.pins with emswClosed := true } }) := by
  have hready : State.ready { s with pins := { s.pins with emswClosed := true } } = true := hr
  exact congrArg Host.Outcome.next ((if_neg (by simp [hopen])).trans (if_pos hready))

/-- Settles O49: the closing and the opening, and the two timers of the Emergency Unit. -/
theorem switchAndEmergencyTimersAct : Obligations.SwitchAndEmergencyTimersAct := by
  intro s marked
  refine ⟨fun h => congrArg Host.Outcome.next (if_pos h), fun h => congrArg Host.Outcome.next (if_neg (by simp [h])),
    fun hopen hr => ?_, fun hclosed hr => ?_, fun hr hpressed hhold hoffers => ?_, fun hr hacked hrepeat => ?_⟩
  · refine ⟨_, exec_emswClosing_ready hopen hr, by simp, by simp, by simp, by simp, by simp, by simp, by simp, ?_, ?_, fun hact => ?_, fun hn => ?_⟩
    all_goals rw [State.takeClosing_eq]
    · (repeat' split) <;> simp
    · (repeat' split) <;> simp [TripEngine.marked, marked]
    · rw [State.wakeEvent_active (s := { s with pins := { s.pins with emswClosed := true } }) hact]
      (repeat' split) <;> exact ⟨rfl, rfl, rfl, rfl, rfl, rfl, rfl⟩
    · obtain ⟨hpower, hpin, hcause⟩ := State.wakeEvent_spec (w := .switch) (s := { s with pins := { s.pins with emswClosed := true } })
        (WakeSource.wakesIn_down (by decide) hn)
      (repeat' split) <;> exact ⟨hpower, hpin, hcause⟩
  · have hready : State.ready { s with pins := { s.pins with emswClosed := false } } = true := hr
    refine congrArg Host.Outcome.next ((if_pos hclosed).trans ((if_pos hready).trans ?_))
    by_cases h : s.emerg.state = .pressed <;> simp [State.takeOpening, h]
  · have hends : s.holdEnds = s.enterAlerting .switch := by simp [State.holdEnds, hpressed, hhold, Timer.due]
    obtain ⟨hem, hplace, hattempts, hreport, hlamps, hpage, hlines, hstatus, hbidding, hqueue, htrips, hpending, hmem, hlink, hmsgs, hpower, -, -,
      hnoAward, hothers⟩ := State.enterAlerting_spec .switch ((State.ready_iff s).1 hr).2 hoffers rfl
    refine ⟨s.enterAlerting .switch, congrArg Host.Outcome.next ((if_pos hr).trans hends), hpending, hmem, hlink, hmsgs, hpower, ?_, hpage, hlines,
      hem, hplace, hattempts, hreport, hlamps, hstatus, hbidding, hnoAward, hothers, hqueue⟩
    rw [htrips, if_neg (by rw [hpressed]; decide)]
  · exact congrArg Host.Outcome.next ((if_pos hr).trans (if_pos (by simp [hacked, hrepeat])))

/-! ## The ignition (R175, R179) -/

theorem State.setIgnition_ready {s : State} (on : Bool) (hr : s.ready = true) :
    s.setIgnition on = { s with pins := { s.pins with ign := on }, power := { s.power with ignition := on } } := by
  obtain ⟨hreset, hstart⟩ := (State.ready_iff s).1 hr
  exact if_pos (by simp [State.running, hreset, hstart])

/-! ## A second (R20) -/

/-- A second on the timers of some entries of the table, each once. -/
theorem OfferEngine.tick_fold (ns : List (Fin 16)) (hns : ns.Nodup) (t : OfferEngine) :
    let u := ns.foldl (fun t n => t.setEntry n { t.entry n with timer := (t.entry n).timer.tick }) t
    u.order = t.order ∧ ∀ k, u.entry k = if k ∈ ns then { t.entry k with timer := (t.entry k).timer.tick } else t.entry k := by
  induction ns generalizing t with
  | nil => simp
  | cons n ns ih =>
    obtain ⟨hn, hrest⟩ := List.nodup_cons.1 hns
    obtain ⟨horder, hentry⟩ := ih hrest (t.setEntry n { t.entry n with timer := (t.entry n).timer.tick })
    refine ⟨horder, fun k => ?_⟩
    rw [List.foldl_cons, hentry, OfferEngine.entry_setEntry]
    by_cases hk : k = n
    · subst hk
      simp [hn]
    · simp [hk]

theorem Timer.tick_eq (t : Timer) : t.tick = t.map (· - 1) := by cases t <;> rfl

theorem OfferEngine.tick_spec (t : OfferEngine) :
    t.tick.order = t.order ∧ ∀ k, t.tick.entry k = { t.entry k with timer := (t.entry k).timer.map (· - 1) } := by
  obtain ⟨horder, hentry⟩ := OfferEngine.tick_fold allEntries (by decide) t
  refine ⟨horder, fun k => (hentry k).trans ?_⟩
  rw [if_pos (by revert k; decide), Timer.tick_eq]

/-- A second passes on the timers (R20). -/
theorem State.second_spec (s : State) :
    s.second = { s with link := s.second.link, trips := s.second.trips, emerg := s.second.emerg, offers := s.second.offers
                        msgs := s.second.msgs } ∧
      s.second.link = { s.link with clock := s.link.clock + 1#32, seconds := s.link.seconds + 1 } ∧
      s.second.trips = { s.trips with silence := s.trips.silence.map (· - 1) } ∧
      s.second.emerg = { s.emerg with hold := s.emerg.hold.map (· - 1) } ∧ s.second.offers = s.offers.tick ∧
      s.second.msgs = s.msgs.tick := by
  refine ⟨rfl, rfl, ?_, ?_, rfl, rfl⟩
  · rw [← Timer.tick_eq]
    rfl
  · rw [← Timer.tick_eq]
    rfl

/-! ## The lamps (R12, R13) -/

theorem State.driveLamps_lampLaw (s : State) : s.driveLamps.lampLaw := ⟨rfl, rfl, rfl⟩

/-- Settles O50: the ignition, the second and the two lamp timers. -/
theorem ignitionAndSecondsAct : Obligations.IgnitionAndSecondsAct := by
  intro s
  refine ⟨fun h => congrArg Host.Outcome.next (if_pos h), fun h => congrArg Host.Outcome.next (if_neg (by simp [h])),
    fun hon hr => congrArg Host.Outcome.next ((if_pos hon).trans (State.setIgnition_ready false hr)), fun hoff hr => ?_, fun hrun => ?_,
    fun hrun => ?_, fun hr halert => ?_⟩
  · generalize hx : ({ s with pins := { s.pins with ign := true }, power := { s.power with ignition := true } } : State) = x
    have hready : x.ready = true := by
      rw [← hx]
      exact hr
    have hexec : exec .ignitionOn s = .next (x.wakeEvent .ignition) := by
      refine congrArg Host.Outcome.next ((if_neg (by simp [hoff])).trans ?_)
      rw [State.setIgnition_ready true hr, hx]
      exact if_pos hready
    refine ⟨_, hexec, by simp [← hx], by simp [← hx], by simp [← hx], by simp [← hx], by simp [← hx], by simp [← hx], by simp [← hx],
      by simp [← hx], by simp [← hx], fun hact => ?_, fun hn => ?_⟩
    · exact State.wakeEvent_active (by rw [← hx]; exact hact)
    · obtain ⟨hpower, hpin, hcause⟩ := State.wakeEvent_spec (w := .ignition) (s := x)
        (WakeSource.wakesIn_down (by decide) (by rw [← hx]; exact hn))
      refine ⟨?_, hpin, hcause⟩
      rw [hpower, ← hx]
      rfl
  · obtain ⟨hframe, hlink, htrips, hemerg, hoffers, hmsgs⟩ := State.second_spec s
    obtain ⟨horder, hentry⟩ := OfferEngine.tick_spec s.offers
    refine ⟨s.second, congrArg Host.Outcome.next (if_pos hrun), hframe, hlink, htrips, hemerg, by rw [hoffers, horder], fun n => ?_, ?_,
      fun m hm => ?_, fun b a hb => ?_⟩
    · rw [hoffers, hentry]
    · rw [hmsgs]
      rfl
    · rw [hmsgs, ← Timer.tick_eq]
      simp only [MessageEngine.tick, hm, Outbound.tick]
    · rw [hmsgs, ← Timer.tick_eq]
      have htick : s.msgs.tick.buffer b = (s.msgs.buffer b).tick := by cases b <;> rfl
      rw [htick, hb]
      rfl
  · exact ⟨_, congrArg Host.Outcome.next (if_pos hrun), State.driveLamps_lampLaw _, rfl, rfl, rfl, rfl, rfl⟩
  · have hraised : s.emerg.state.raised = true := by
      obtain h | h := halert <;> rw [h] <;> rfl
    exact ⟨_, congrArg Host.Outcome.next (if_pos (by simp [hr, hraised])), State.driveLamps_lampLaw _, rfl, rfl, rfl, rfl, rfl⟩

end Sys2Proof.Machine
end

section
/-! PROOFS. The timers of the offer table and of the messages (R70, R73, R83, R134, R139 to R142). -/

namespace Sys2Proof.Machine

/-- The message that an assembly becomes when it is truncated (R139). -/
def State.truncated (a : Assembly) (s : State) : InMessage := ⟨a.tag, a.urgent, a.ackRequired, true, a.parts, s.link.clock, s.msgs.stamp⟩

theorem State.closeBuffer_buffer (b k : BufferId) (a : Assembly) (s : State) :
    (s.closeBuffer b a true).msgs.buffer k = if k = b then .closed (s.truncated a) else s.msgs.buffer k := by
  cases b <;> cases k <;> rfl

/-- The closing of a buffer changes the Message Engine alone. -/
theorem State.closeBuffer_stays (b : BufferId) (a : Assembly) (s : State) :
    s.closeBuffer b a true = { s with msgs := (s.closeBuffer b a true).msgs } ∧
      (s.closeBuffer b a true).msgs.deposit = s.msgs.deposit ∧ (s.closeBuffer b a true).msgs.delivered = s.msgs.delivered ∧
      (s.closeBuffer b a true).msgs.inbound = s.msgs.inbound := by
  cases b <;> exact ⟨rfl, rfl, rfl, rfl⟩

/-- An acknowledgment wait that has run out (R134). -/
theorem State.ackWaitEnds_due {s : State} {m : OutMessage} (hm : s.msgs.flight = .flight m) (hw : m.ackWait = some 0) :
    (m.sends < 3 → s.ackWaitEnds = State.settleLong
      { s with msgs := { s.msgs with flight := .flight { m with sends := m.sends + 1, ackWait := none, next := 0 } } }) ∧
    (3 ≤ m.sends → s.ackWaitEnds = State.settleLong { s with
      msgs := { s.msgs with flight := .completing ⟨.failed, m.tag, m.at_, true, m.after⟩ }
      path := { s.path with queue := s.path.queue ++ [⟨.outboundCompletion, 0⟩] }, radio := s.radio.leaveText }) := by
  constructor
  · intro h
    simp [State.ackWaitEnds, hm, hw, Timer.due, Nat.not_le.2 h, State.restartMessage, State.changeFlight]
  · intro h
    simp [State.ackWaitEnds, hm, hw, Timer.due, h, State.completeOutbound, State.requestWrite, MemoryPath.requestWrite, OutMessage.completion]

/-- Settles O51: the two timers of an entry, the acknowledgment wait and the inter-fragment timer. -/
theorem offerAndMessageTimersAct : Obligations.OfferAndMessageTimersAct := by
  intro s hr offersOnly updated messagesOnly
  refine ⟨fun n hlive ht => ?_, fun n hbid ht => ?_, fun m hm hw => ?_, fun b a hb ht hothers => ?_⟩
  · have hlive' : (s.offers.entry n).state = .live := hlive
    exact ⟨_, congrArg Host.Outcome.next ((if_pos hr).trans (if_pos (by simp [hlive', ht, Timer.due]))),
      State.updateEntry_become n .lapsed s⟩
  · have hbid' : (s.offers.entry n).state = .bidding := hbid
    exact ⟨_, congrArg Host.Outcome.next ((if_pos hr).trans (if_pos (by simp [hbid', ht, Timer.due]))),
      State.updateEntry_become n .noAward s⟩
  · obtain ⟨hagain, hfails⟩ := State.ackWaitEnds_due hm hw
    by_cases hsends : m.sends < 3
    · obtain ⟨sc, ra, hlong⟩ := State.settleLong_eq
        { s with msgs := { s.msgs with flight := .flight { m with sends := m.sends + 1, ackWait := none, next := 0 } } }
      exact ⟨_, congrArg Host.Outcome.next ((if_pos hr).trans ((hagain hsends).trans hlong)), ⟨rfl, rfl, rfl⟩, rfl,
        fun _ => ⟨rfl, rfl⟩, fun h => absurd h (Nat.not_le.2 hsends)⟩
    · obtain ⟨sc, ra, hlong⟩ := State.settleLong_eq { s with
        msgs := { s.msgs with flight := .completing ⟨.failed, m.tag, m.at_, true, m.after⟩ }
        path := { s.path with queue := s.path.queue ++ [⟨.outboundCompletion, 0⟩] }, radio := s.radio.leaveText }
      exact ⟨_, congrArg Host.Outcome.next ((if_pos hr).trans ((hfails (Nat.le_of_not_lt hsends)).trans hlong)), ⟨rfl, rfl, rfl⟩, rfl,
        fun h => absurd h hsends, fun _ => ⟨rfl, rfl⟩⟩
  · intro m
    have hends : s.interFragmentEnds b = (s.closeBuffer b a true).judgeAll := by
      simp [State.interFragmentEnds, hb, ht, Timer.due]
    have hexec : exec (.interFragmentTimerExpiry b) s = .next (s.closeBuffer b a true).judgeAll :=
      congrArg Host.Outcome.next ((if_pos hr).trans hends)
    have hbuffer := fun k => State.closeBuffer_buffer b k a s
    obtain ⟨hframe, hdeposit, hdelivered, hinbound⟩ := State.closeBuffer_stays b a s
    generalize s.closeBuffer b a true = x at hexec hbuffer hframe hdeposit hdelivered hinbound
    by_cases hd : s.msgs.deposit = none
    · have hjudge := State.judgeAll_one (s := x) (k := b) (m := m) ((hbuffer b).trans (if_pos rfl)) (hdeposit.trans hd) fun k hk => by
        rw [hbuffer k, if_neg hk]
        exact hothers hd k hk
      rw [hjudge] at hexec
      obtain ⟨hstays, hmsgs, hpath, hunder, -, -⟩ := State.judge_spec (k := b) (m := m) (hdeposit.trans hd) rfl
      obtain ⟨-, -, hrepeat, hnew⟩ := State.judge_judges (k := b) (m := m) (hdeposit.trans hd)
      generalize x.judge b m = t at hexec hstays hmsgs hpath hunder hrepeat hnew
      rw [hframe] at hstays hpath hunder
      rw [hdelivered, hinbound] at *
      have hquiet : t.sched = s.sched ∧ t.radio = s.radio := by
        rw [hframe] at hrepeat hnew
        by_cases hmem : m.tag ∈ s.msgs.delivered
        · obtain ⟨-, -, -, -, -, hsame⟩ := hrepeat hmem
          exact hsame (by simp [m])
        · obtain ⟨hsched, hradio, -⟩ := hnew hmem
          exact ⟨hsched, hradio⟩
      refine ⟨t, hexec, ⟨hstays, hpath, hunder⟩, hquiet.1, hquiet.2, fun h => absurd h (by simp [hd]), fun _ => ⟨?_, fun hmem => ?_, fun hmem => ?_⟩⟩
      · rw [hmsgs]
        cases b <;> rfl
      · obtain ⟨hnone, hpage, hpath', -⟩ := hrepeat hmem
        rw [hframe] at hpage hpath'
        exact ⟨hnone, hpage, hpath'⟩
      · obtain ⟨-, -, hfits, hdrops⟩ := hnew hmem
        rw [hframe] at hfits hdrops
        exact ⟨hfits, hdrops⟩
    · have hwaits := State.judgeAll_waits (s := x) (by rw [hdeposit]; exact hd)
      rw [hwaits] at hexec
      refine ⟨x, hexec, ?_, ?_, ?_, fun _ => ⟨(hbuffer b).trans (if_pos rfl), hdeposit, ?_, ?_⟩, fun h => absurd h hd⟩
      · rw [hframe]
        exact ⟨rfl, rfl, rfl⟩
      all_goals rw [hframe]

end Sys2Proof.Machine
end

section
/-! PROOFS. Facts about long slots, the outcome of a contention transmission and the failure of a candidate (R26 to R30, R56, R57, R59, R62). -/

namespace Sys2Proof.Machine

/-! ## Long slots (R59, R62) -/

/-- Asking for long slots in NONE (R59). -/
theorem State.settleLong_none {s : State} (h : s.sched.long = .none) :
    s.settleLong = { s with sched :=
      if s.link.state = .joined ∧ 0 < s.sendable then { s.sched with slotRequest := some ⟨0, false⟩, long := .request } else s.sched } := by
  by_cases hc : s.link.state = .joined ∧ 0 < s.sendable
  · simp [State.settleLong, h, hc]
  · have hc' : ¬(s.link.state == .joined && decide (0 < s.sendable)) = true := by simpa using hc
    rw [if_neg hc]
    simp only [State.settleLong, h, if_neg hc']

/-- What the end of a grant leaves in the scheduler (R62). -/
theorem State.endGrant_eq (s : State) :
    s.endGrant = { s with sched :=
      if s.link.state = .joined ∧ 0 < s.sendable then { s.sched with grant := none, slotRequest := some ⟨0, false⟩, long := .request }
      else { s.sched with grant := none, long := .none } } := by
  have h := State.settleLong_none (s := { s with sched := { s.sched with grant := none, long := .none } }) rfl
  exact h

/-- The scheduler after the end of a grant, as an update of the scheduler (R59, R62). -/
theorem State.endGrant_spec (s : State) :
    s.endGrant = { s with sched := s.endGrant.sched } ∧
      s.endGrant.sched = { s.sched with grant := none, long := s.endGrant.sched.long, slotRequest := s.endGrant.sched.slotRequest } ∧
      (s.link.state = .joined → 0 < s.sendable →
        s.endGrant.sched.long = .request ∧ s.endGrant.sched.slotRequest = some ⟨0, false⟩) ∧
      (s.link.state ≠ .joined ∨ s.sendable = 0 → s.endGrant.sched.long = .none ∧ s.endGrant.sched.slotRequest = s.sched.slotRequest) := by
  rw [State.endGrant_eq]
  by_cases h : s.link.state = .joined ∧ 0 < s.sendable
  · rw [if_pos h]
    refine ⟨rfl, rfl, fun _ _ => ⟨rfl, rfl⟩, fun hn => ?_⟩
    obtain hn | hn := hn
    · exact absurd h.1 hn
    · exact absurd h.2 (by omega)
  · rw [if_neg h]
    exact ⟨rfl, rfl, fun h1 h2 => absurd ⟨h1, h2⟩ h, fun _ => ⟨rfl, rfl⟩⟩

/-- A grant whose last slot has passed (R62). -/
theorem State.endPassedGrant_eq (s : State) :
    (∀ g, s.sched.grant = some g → g.seen = true ∧ g.start + 3 * g.count ≤ s.link.nextSlot → s.endPassedGrant = s.endGrant) ∧
      ((∀ g, s.sched.grant = some g → ¬(g.seen = true ∧ g.start + 3 * g.count ≤ s.link.nextSlot)) → s.endPassedGrant = s) := by
  unfold State.endPassedGrant
  cases hg : s.sched.grant with
  | none => exact ⟨fun g h => (by cases h), fun _ => rfl⟩
  | some g =>
    have hiff : (g.seen && decide (g.stop ≤ s.link.nextSlot)) = true ↔ g.seen = true ∧ g.start + 3 * g.count ≤ s.link.nextSlot := by
      rw [Bool.and_eq_true, decide_eq_true_eq]
      rfl
    refine ⟨fun k hk h => ?_, fun h => if_neg (mt hiff.1 (h g rfl))⟩
    cases hk
    exact if_pos (hiff.2 h)

/-! ## The outcome of a contention transmission (R56, R57) -/

/-- The outstanding transmission has failed and is counted. -/
def State.contentionFailed (s : State) : State := State.count .contentionFails { s with sched := { s.sched with contention := .idle } }

theorem State.contentionFailed_spec (s : State) :
    s.contentionFailed = { s with
      sched := { s.sched with contention := .idle }
      page := { s.page with counters := { s.page.counters with
        contentionFails := satAdd s.page.counters.contentionFails 1#16 } } } := rfl

/-- A beacon that does not answer, by the state of contention (R56). -/
theorem State.contentionOutcome_failed (s : State) :
    ((∀ d, s.sched.contention ≠ .outstanding d) → s.contentionOutcome false = s) ∧
      (s.sched.contention = .outstanding none → s.contentionOutcome false = s.contentionFailed) ∧
      ∀ c, s.sched.contention = .outstanding (some c) → s.contentionOutcome false = State.contenderFails c s.contentionFailed := by
  refine ⟨fun h => ?_, fun h => ?_, fun c h => ?_⟩
  · cases hc : s.sched.contention with
    | outstanding d => exact absurd hc (h d)
    | idle => simp [State.contentionOutcome, hc]
    | waiting c w => simp [State.contentionOutcome, hc]
    | slotted c d => simp [State.contentionOutcome, hc]
  · simp [State.contentionOutcome, h, State.contentionFailed]
  · simp [State.contentionOutcome, h, State.contentionFailed]

/-- CONTENTION_FAILS counts a transmission that was outstanding, and nothing else (R56). -/
theorem State.contentionOutcome_counts (s : State) :
    (∀ d, s.sched.contention = .outstanding d → (s.contentionOutcome false).page.counters = { s.page.counters with
        contentionFails := satAdd s.page.counters.contentionFails 1#16 }) ∧
      ((∀ d, s.sched.contention ≠ .outstanding d) → (s.contentionOutcome false).page.counters = s.page.counters) := by
  obtain ⟨hquiet, hnone, hsome⟩ := State.contentionOutcome_failed s
  refine ⟨fun d h => ?_, fun h => by rw [hquiet h]⟩
  cases d with
  | none => rw [hnone h, State.contentionFailed_spec]
  | some c => simp only [hsome c h, State.contenderFails_fields, State.contentionFailed_spec]

/-- A failed transmission of a frame other than JOIN changes the scheduler alone (R57). -/
theorem State.contenderFails_sched {c : Contender} (h : c ≠ .join) (s : State) :
    s.contenderFails c = { s with sched := (s.contenderFails c).sched } ∧
      (s.contenderFails c).sched.contention = s.sched.contention := by
  cases c with
  | alert => exact ⟨rfl, rfl⟩
  | join => exact absurd rfl h
  | bid job => exact ⟨rfl, rfl⟩
  | slotRequest => exact ⟨rfl, rfl⟩

/-! ## The failure of a candidate (R26 to R28) -/

/-- The link is QUIET again, with no candidate (R22, R26). -/
def State.quietAgain (t : State) : Prop :=
  t.link.state = .quiet ∧ t.link.candidates = [] ∧ t.link.quiet = 0 ∧ t.link.joining = none ∧
    t.link.grantWait = none ∧ t.sched.joinPlace = false ∧ t.sched.contention = .idle

/-- The link is in JOIN on a candidate, afresh (R27). -/
def State.joinsAfresh (t : State) (c : Candidate) : Prop :=
  t.link.state = .join ∧ t.link.joining = some c ∧ t.link.attempts = 0 ∧
    t.link.loss = 0 ∧ t.link.grantWait = none ∧ t.sched.joinPlace = true ∧ t.sched.joinAttempts = 0 ∧ t.sched.contention = .idle

/-- The candidate fails: the best one left is joined, or the link is QUIET (R28). -/
def State.losesCandidate (t : State) (rest : List Candidate) : Prop :=
  (rest = [] → t.quietAgain) ∧ (rest ≠ [] → ∃ d : Candidate, d.selectedFrom rest ∧ t.joinsAfresh d)

theorem State.candidateFails_loses {s : State} (hj : s.link.state = .join) {c : Candidate} (hc : s.link.joining = some c) :
    s.candidateFails = { s with link := s.candidateFails.link, radio := s.candidateFails.radio, sched := s.candidateFails.sched } ∧
      s.candidateFails.losesCandidate (s.link.candidates.erase c) ∧
      ¬(s.candidateFails.link.state = .join ∧ 5 ≤ s.candidateFails.link.loss) := by
  obtain ⟨hnone, hsome⟩ := State.candidateFails_spec hj hc
  by_cases h : s.link.candidates.erase c = []
  · have heq := hnone h
    generalize s.candidateFails = t at heq ⊢
    refine ⟨?_, ⟨fun _ => ?_, fun hn => absurd h hn⟩, ?_⟩
    · rw [heq]
    · rw [heq]
      exact ⟨rfl, rfl, rfl, rfl, rfl, rfl, rfl⟩
    · rw [heq]
      rintro ⟨hs, -⟩
      exact absurd hs (by simp [LinkController.cleared])
  · obtain ⟨d, hbest, hframe, hlink, hsched⟩ := hsome h
    refine ⟨hframe, ⟨fun hn => absurd hn h, fun _ => ⟨d, hbest, ?_⟩⟩, ?_⟩
    · rw [State.joinsAfresh, hlink, hsched]
      exact ⟨hj, rfl, rfl, rfl, rfl, rfl, rfl, rfl⟩
    · rw [hlink]
      rintro ⟨-, hloss⟩
      exact absurd hloss (by simp)

end Sys2Proof.Machine
end

section
/-! PROOFS. Cycle starts and the waits in cycles (R18, R22, R24, R26 to R30, R32, R56, R57, R59, R60, R62, R64, R171, R172). -/

namespace Sys2Proof.Machine

/-! ## A missed beacon (R18, R24, R29, R30) -/

/-- The window has closed on a miss, which is counted (R29, R30). -/
def State.missed (s : State) : State :=
  State.count .beaconsMissed { s with link := { s.link with window := false, loss := s.link.loss + 1 } }

theorem State.missed_spec (s : State) :
    s.missed = { s with
      link := { s.link with window := false, loss := s.link.loss + 1 }
      page := { s.page with counters := { s.page.counters with
        beaconsMissed := satAdd s.page.counters.beaconsMissed 1#16 } } } := rfl

/-- The window closed on a miss, in each link state (R18, R24, R29, R30). -/
theorem State.missBeacon_eq (s : State) :
    s.missBeacon = match s.link.state with
      | .hunt => { s with link := { s.link with window := false, hunt := s.link.hunt.map (fun h => { h with run := none }) } }
      | .join =>
        if (s.missed.contentionOutcome false).link.state == .join && decide (5 ≤ (s.missed.contentionOutcome false).link.loss) then
          (s.missed.contentionOutcome false).candidateFails else s.missed.contentionOutcome false
      | .joined =>
        if 5 ≤ (s.missed.contentionOutcome false).link.loss then (s.missed.contentionOutcome false).enterQuiet false
        else s.missed.contentionOutcome false
      | .off => { s with link := { s.link with window := false } }
      | .quiet => { s with link := { s.link with window := false } } := rfl

theorem State.missBeacon_join {s : State} (h : s.link.state = .join) :
    s.missBeacon = if (s.missed.contentionOutcome false).link.state = .join ∧ 5 ≤ (s.missed.contentionOutcome false).link.loss then
      (s.missed.contentionOutcome false).candidateFails else s.missed.contentionOutcome false := by
  rw [State.missBeacon_eq, h]
  exact ite_congr (by rw [Bool.and_eq_true, beq_iff_eq, decide_eq_true_eq]) (fun _ => rfl) fun _ => rfl

theorem State.missBeacon_joined {s : State} (h : s.link.state = .joined) :
    s.missBeacon = if 5 ≤ (s.missed.contentionOutcome false).link.loss then (s.missed.contentionOutcome false).enterQuiet false
      else s.missed.contentionOutcome false := by
  rw [State.missBeacon_eq, h]

/-- The outcome of a failed transmission other than a candidate's last (R27, R57). -/
theorem State.contentionOutcome_stays {s : State}
    (h : ¬(s.sched.contention = .outstanding (some .join) ∧ 4 ≤ s.link.attempts)) :
    s.contentionOutcome false = { s with
        link := (s.contentionOutcome false).link, sched := (s.contentionOutcome false).sched
        page := { s.page with counters := (s.contentionOutcome false).page.counters } } ∧
      (s.contentionOutcome false).link = { s.link with grantWait := (s.contentionOutcome false).link.grantWait } ∧
      (s.sched.contention ≠ .outstanding (some .join) → (s.contentionOutcome false).link = s.link) ∧
      (s.sched.contention = .outstanding (some .join) →
        (s.contentionOutcome false).sched = { s.sched with contention := .idle, joinAttempts := min 4 (s.sched.joinAttempts + 1) } ∧
        (s.contentionOutcome false).link = { s.link with grantWait := none }) ∧
      (∀ d, s.sched.contention = .outstanding d → (s.contentionOutcome false).sched.contention = .idle) := by
  obtain ⟨hquiet, hnone, hsome⟩ := State.contentionOutcome_failed s
  cases hc : s.sched.contention with
  | outstanding d =>
    cases d with
    | none =>
      rw [hnone hc, State.contentionFailed_spec]
      exact ⟨rfl, rfl, fun _ => rfl, fun hn => absurd hn (by decide), fun _ _ => rfl⟩
    | some c =>
      rw [hsome c hc]
      by_cases hj : c = .join
      · subst hj
        have hfew : ¬4 ≤ s.contentionFailed.link.attempts := fun hn => h ⟨hc, hn⟩
        have hfails : State.contenderFails .join s.contentionFailed = { s.contentionFailed with
            sched := { s.contentionFailed.sched with joinAttempts := min 4 (s.sched.joinAttempts + 1) }
            link := { s.link with grantWait := none } } := if_neg hfew
        rw [hfails, State.contentionFailed_spec]
        exact ⟨rfl, rfl, fun hn => absurd rfl hn, fun _ => ⟨rfl, rfl⟩, fun _ _ => rfl⟩
      · obtain ⟨hframe, hidle⟩ := State.contenderFails_sched hj s.contentionFailed
        rw [hframe]
        exact ⟨rfl, rfl, fun _ => rfl, fun hn => absurd (by simpa using hn) hj, fun _ _ => hidle⟩
  | idle =>
    rw [hquiet (by simp [hc])]
    exact ⟨rfl, rfl, fun _ => rfl, fun hn => absurd hn (by decide), fun _ hn => absurd hn (by simp)⟩
  | waiting c w =>
    rw [hquiet (by simp [hc])]
    exact ⟨rfl, rfl, fun _ => rfl, fun hn => absurd hn (by simp), fun _ hn => absurd hn (by simp)⟩
  | slotted c d =>
    rw [hquiet (by simp [hc])]
    exact ⟨rfl, rfl, fun _ => rfl, fun hn => absurd hn (by simp), fun _ hn => absurd hn (by simp)⟩

/-- A miss in JOIN: the candidate stays, or it is lost by its fourth attempt or by the fifth miss (R27, R28, R30). -/
theorem State.missBeacon_join_spec {s : State} (hj : s.link.state = .join) {c : Candidate} (hc : s.link.joining = some c) :
    let y := s.missed.contentionOutcome false
    (4 ≤ s.link.loss ∨ (s.sched.contention = .outstanding (some .join) ∧ 4 ≤ s.link.attempts) →
      s.missBeacon = { s.missed with
          link := s.missBeacon.link, radio := s.missBeacon.radio, sched := s.missBeacon.sched
          page := { s.page with counters := y.page.counters } } ∧
        s.missBeacon.losesCandidate (s.link.candidates.erase c)) ∧
    (¬(4 ≤ s.link.loss ∨ (s.sched.contention = .outstanding (some .join) ∧ 4 ≤ s.link.attempts)) → s.missBeacon = y) := by
  intro y
  have hmiss := State.missBeacon_join hj
  by_cases hlast : s.sched.contention = .outstanding (some .join) ∧ 4 ≤ s.link.attempts
  · refine ⟨fun _ => ?_, fun hn => absurd (.inr hlast) hn⟩
    have hy : y = State.candidateFails { s.missed.contentionFailed with
        sched := { s.missed.contentionFailed.sched with joinAttempts := min 4 (s.sched.joinAttempts + 1) } } :=
      ((State.contentionOutcome_failed s.missed).2.2 .join hlast.1).trans (if_pos hlast.2)
    obtain ⟨hframe, hloses, hstays⟩ := State.candidateFails_loses (s := { s.missed.contentionFailed with
        sched := { s.missed.contentionFailed.sched with joinAttempts := min 4 (s.sched.joinAttempts + 1) } }) hj hc
    rw [← hy] at hframe hloses hstays
    rw [hmiss, if_neg hstays]
    refine ⟨?_, hloses⟩
    show y = { s.missed with link := y.link, radio := y.radio, sched := y.sched, page := { s.page with counters := y.page.counters } }
    rw [hframe]
    rfl
  · obtain ⟨hframe, hlink, -⟩ := State.contentionOutcome_stays (s := s.missed) hlast
    have hstate : y.link.state = .join := by
      show (s.missed.contentionOutcome false).link.state = .join
      rw [hlink]
      exact hj
    have hjoining : y.link.joining = some c := by
      show (s.missed.contentionOutcome false).link.joining = some c
      rw [hlink]
      exact hc
    have hcandidates : y.link.candidates = s.link.candidates := by
      show (s.missed.contentionOutcome false).link.candidates = _
      rw [hlink]
      rfl
    have hloss : y.link.loss = s.link.loss + 1 := by
      show (s.missed.contentionOutcome false).link.loss = _
      rw [hlink]
      rfl
    have hmiss' : s.missBeacon = if y.link.state = .join ∧ 5 ≤ y.link.loss then y.candidateFails else y := hmiss
    rw [hstate, hloss] at hmiss'
    refine ⟨fun h => ?_, fun h => ?_⟩
    · have hfifth : 4 ≤ s.link.loss := h.resolve_right hlast
      rw [if_pos ⟨rfl, by omega⟩] at hmiss'
      obtain ⟨hfails, hloses, -⟩ := State.candidateFails_loses hstate hjoining
      rw [hcandidates] at hloses
      rw [hmiss']
      refine ⟨?_, hloses⟩
      rw [hfails]
      have hy : y = { s.missed with link := y.link, sched := y.sched, page := { s.page with counters := y.page.counters } } := hframe
      generalize y.candidateFails = t at *
      rw [hy]
    · rw [hmiss', if_neg]
      rintro ⟨-, hge⟩
      exact h (.inl (by omega))

/-- A failed transmission of another frame than JOIN, frame by frame (R57). -/
theorem State.contentionOutcome_sched (s : State) :
    ((∀ d, s.sched.contention ≠ .outstanding d) → (s.contentionOutcome false).sched = s.sched) ∧
      (s.sched.contention = .outstanding none → (s.contentionOutcome false).sched = { s.sched with contention := .idle }) ∧
      (s.sched.contention = .outstanding (some .alert) → (s.contentionOutcome false).sched = { s.sched with
        contention := .idle, alertAttempts := min 4 (s.sched.alertAttempts + 1) }) ∧
      (∀ job, s.sched.contention = .outstanding (some (.bid job)) → (s.contentionOutcome false).sched = { s.sched with
        contention := .idle,
        bids := s.sched.bids.filterMap (fun x =>
          if x.job = job then (if 7 ≤ x.attempts then none else some { x with attempts := x.attempts + 1 }) else some x) }) ∧
      (s.sched.contention = .outstanding (some .slotRequest) → (s.contentionOutcome false).sched = { s.sched with
        contention := .idle,
        slotRequest := s.sched.slotRequest.map (fun r => ⟨r.attempts + 1, r.fellBack || decide (8 ≤ r.attempts + 1)⟩) }) := by
  obtain ⟨hquiet, hnone, hsome⟩ := State.contentionOutcome_failed s
  refine ⟨fun h => by rw [hquiet h], fun h => by rw [hnone h]; rfl, fun h => by rw [hsome _ h]; rfl, fun job h => ?_,
    fun h => by rw [hsome _ h]; rfl⟩
  have hbids := Scheduler.bidFails_bids s.contentionFailed.sched job
  have hfails : s.contentionFailed.sched.bidFails job =
      { s.contentionFailed.sched with bids := (s.contentionFailed.sched.bidFails job).bids } := rfl
  rw [hsome _ h]
  show s.contentionFailed.sched.bidFails job = _
  rw [hfails, hbids]
  rfl

/-- The two counters that a miss may move (R29, R30, R56). -/
theorem State.missed_counters (s : State) :
    (s.missed.contentionOutcome false).page.counters = { s.page.counters with
        beaconsMissed := satAdd s.page.counters.beaconsMissed 1#16
        contentionFails := (s.missed.contentionOutcome false).page.counters.contentionFails } ∧
      (∀ d, s.sched.contention = .outstanding d → (s.missed.contentionOutcome false).page.counters.contentionFails =
        satAdd s.page.counters.contentionFails 1#16) ∧
      ((∀ d, s.sched.contention ≠ .outstanding d) →
        (s.missed.contentionOutcome false).page.counters.contentionFails = s.page.counters.contentionFails) := by
  obtain ⟨hcounts, hstill⟩ := State.contentionOutcome_counts s.missed
  refine ⟨?_, fun d h => by rw [hcounts d h]; rfl, fun h => by rw [hstill h]; rfl⟩
  by_cases h : ∃ d, s.sched.contention = .outstanding d
  · obtain ⟨d, hd⟩ := h
    rw [hcounts d hd]
    rfl
  · rw [hstill fun d hd => h ⟨d, hd⟩]
    rfl

/-- A miss in JOIN, but for what becomes of the candidate. -/
theorem State.missBeacon_join_frame {s : State} (hj : s.link.state = .join) {c : Candidate} (hc : s.link.joining = some c) :
    s.missBeacon = { s with
      link := s.missBeacon.link, radio := s.missBeacon.radio, sched := s.missBeacon.sched
      page := { s.page with counters := (s.missed.contentionOutcome false).page.counters } } := by
  obtain ⟨hlost, hkept⟩ := State.missBeacon_join_spec hj hc
  by_cases h : 4 ≤ s.link.loss ∨ (s.sched.contention = .outstanding (some .join) ∧ 4 ≤ s.link.attempts)
  · exact (hlost h).1
  · obtain ⟨hframe, -⟩ := State.contentionOutcome_stays (s := s.missed) fun hn => h (.inr hn)
    rw [hkept h]
    generalize s.missed.contentionOutcome false = y at hframe
    rw [hframe]
    rfl

/-- A beacon loss: from JOINED the link is QUIET (R22, R30, R32, R64). -/
theorem State.enterQuiet_fromJoined {s : State} (h : s.link.state = .joined) :
    (s.enterQuiet false).link = s.link.cleared .quiet ∧ (s.enterQuiet false).sched = s.sched.clearWorking ∧
      (s.enterQuiet false).page.causes = s.page.causes ||| 0x80#13 ∧ (s.enterQuiet false).page.linkUp = false ∧
      (s.enterQuiet false).page.counters = s.page.counters := by
  obtain ⟨hsched, hcauses, hlink, -⟩ := State.exitJoined_spec s
  have hexit := (State.exitLink_of s).1 h
  have heq : s.enterQuiet false = { s.exitJoined with link := s.link.cleared .quiet } := by
    simp [State.enterQuiet, hexit, h]
  rw [heq]
  exact ⟨rfl, hsched, hcauses, hlink, by simp⟩

/-! ## The beacon window (R18) -/

theorem State.closeWindow_closed {s : State} (h : s.link.window = false) : s.closeWindow = s := if_neg (by simp [h])

theorem State.closeWindow_heard {s : State} (hw : s.link.window = true) (hb : s.link.beaconIn = true) :
    s.closeWindow = { s with link := { s.link with window := false } } := (if_pos hw).trans (if_pos hb)

theorem State.closeWindow_missed {s : State} (hw : s.link.window = true) (hb : s.link.beaconIn = false) :
    s.closeWindow = s.missBeacon := (if_pos hw).trans (if_neg (by simp [hb]))

theorem State.missBeacon_window (s : State) : s.missBeacon.link.window = false := by
  have hmissed : s.missed.link.window = false := rfl
  rw [State.missBeacon_eq]
  cases s.link.state with
  | off => rfl
  | quiet => rfl
  | hunt => rfl
  | join =>
    dsimp only
    split <;> simp [hmissed]
  | joined =>
    dsimp only
    split <;> simp [hmissed]

theorem State.closeWindow_window (s : State) : s.closeWindow.link.window = false := by
  cases hw : s.link.window with
  | false => rw [State.closeWindow_closed hw, hw]
  | true =>
    cases hb : s.link.beaconIn with
    | true => rw [State.closeWindow_heard hw hb]
    | false => rw [State.closeWindow_missed hw hb, State.missBeacon_window]

theorem State.closeWindow_ready (s : State) : s.closeWindow.ready = s.ready := by simp [State.ready, State.running]

theorem State.endGrant_ready (s : State) : s.endGrant.ready = s.ready := by
  rw [State.endGrant_eq]
  rfl

theorem exec_beaconWindowClose {s : State} (hr : s.ready = true) : exec .beaconWindowClose s = .next s.closeWindow :=
  congrArg Host.Outcome.next (if_pos hr)

theorem exec_cycleStart {s : State} (hr : s.ready = true) : exec .cycleStart s = .next s.startCycle :=
  congrArg Host.Outcome.next (if_pos hr)

/-! ## Cycle starts (R18, R60, R62) -/

/-- The next cycle begins (R18). -/
theorem State.startCycle_eq (s : State) :
    s.startCycle = { s.closeWindow.countCycleStart with
      link := { s.closeWindow.countCycleStart.link with
        cycle := s.closeWindow.countCycleStart.link.cycle + 1#16, nextSlot := 0, window := true, beaconIn := false } } := rfl

theorem cycleTick_eq (w : Option Nat) : cycleTick w = w.map (· - 1) := by cases w <;> rfl

/-- A cycle start that finds no passed grant counts the waits (R18, R22, R27, R60, R62, R171). -/
theorem State.countCycleStart_eq {s : State} (h : s.endPassedGrant = s) :
    s.countCycleStart = { s with
      link := { s.link with
        quiet := if s.link.state = .quiet then s.link.quiet + 1 else s.link.quiet, grantWait := s.link.grantWait.map (· - 1) }
      sched := { s.sched with long := s.sched.long.tick, grant := s.sched.grant.map (fun g => { g with since := g.since + 1 }) }
      emerg := { s.emerg with repeatLeft := s.emerg.repeatLeft.map (· - 1) }
      power := { s.power with parking := if s.power.power = .parking then s.power.parking - 1 else s.power.parking } } := by
  unfold State.countCycleStart
  rw [h, ← cycleTick_eq, ← cycleTick_eq]
  simp only [beq_iff_eq]

/-- A cycle start in which a grant has ended begins as one after its end (R62). -/
theorem State.startCycle_ended {s : State} {g : Grant} (hw : s.link.window = false) (hg : s.sched.grant = some g)
    (he : g.seen = true ∧ g.start + 3 * g.count ≤ s.link.nextSlot) : s.startCycle = s.endGrant.startCycle := by
  obtain ⟨hframe, hsched, -⟩ := State.endGrant_spec s
  have hends := (State.endPassedGrant_eq s).1 g hg he
  have hwindow : s.endGrant.link.window = false := by
    rw [hframe]
    exact hw
  have hagain : s.endGrant.endPassedGrant = s.endGrant := (State.endPassedGrant_eq s.endGrant).2 fun k hk => by
    rw [hsched] at hk
    cases hk
  rw [State.startCycle_eq, State.startCycle_eq, State.closeWindow_closed hw, State.closeWindow_closed hwindow]
  have hcount : s.countCycleStart = s.endGrant.countCycleStart := by
    unfold State.countCycleStart
    rw [hends, hagain]
  rw [hcount]

/-- What a cycle start makes of the state when no window closes on a miss and no grant ends (R18, R22, R27, R60, R62, R156, R171). -/
theorem State.startCycle_counts {s : State} (hw : s.link.window = false ∨ s.link.beaconIn = true)
    (hg : ∀ g, s.sched.grant = some g → ¬(g.seen = true ∧ g.start + 3 * g.count ≤ s.link.nextSlot)) :
    s.startCycle = { s with
      link := { s.link with
        quiet := (if s.link.state = .quiet then s.link.quiet + 1 else s.link.quiet), grantWait := s.link.grantWait.map (· - 1),
        cycle := s.link.cycle + 1#16, nextSlot := 0, window := true, beaconIn := false }
      sched := { s.sched with long := s.sched.long.tick, grant := s.sched.grant.map (fun g => { g with since := g.since + 1 }) }
      emerg := { s.emerg with repeatLeft := s.emerg.repeatLeft.map (· - 1) }
      power := { s.power with parking := if s.power.power = .parking then s.power.parking - 1 else s.power.parking } } := by
  have hclose : s.closeWindow = { s with link := { s.link with window := false } } := by
    cases hwin : s.link.window with
    | false =>
      rw [State.closeWindow_closed hwin, ← hwin]
    | true => exact State.closeWindow_heard hwin (hw.resolve_left (by simp [hwin]))
  rw [State.startCycle_eq, hclose, State.countCycleStart_eq ((State.endPassedGrant_eq { s with link := { s.link with window := false } }).2 hg)]

end Sys2Proof.Machine
end

section
/-! PROOFS. What a cycle start, the close of the window and the waits in cycles do: the statement. -/

namespace Sys2Proof.Machine

/-- The long-slot state is NONE, and long slots are asked for again if a frame is sendable (R59, R60, R62). -/
def State.asksAgain (s t : State) : Prop :=
  t.link = s.link ∧ t.path = s.path ∧ t.page = s.page ∧ t.pins = s.pins ∧ t.mem = s.mem ∧
    (s.link.state = .joined → 0 < s.sendable → t.sched.slotRequest = some ⟨0, false⟩ ∧ t.sched.long = .request) ∧
    (s.link.state ≠ .joined ∨ s.sendable = 0 → t.sched.slotRequest = s.sched.slotRequest ∧ t.sched.long = .none)

theorem State.endGrant_asks (s : State) : s.asksAgain s.endGrant ∧ s.endGrant.sched.grant = none := by
  obtain ⟨hframe, hsched, hsend, hnone⟩ := State.endGrant_spec s
  refine ⟨⟨?_, ?_, ?_, ?_, ?_, fun h1 h2 => (hsend h1 h2).symm, fun h => (hnone h).symm⟩, ?_⟩
  · rw [hframe]
  · rw [hframe]
  · rw [hframe]
  · rw [hframe]
  · rw [hframe]
  · rw [hsched]

/-- The rest has run out (R60). -/
theorem State.restEnds_asks (s : State) :
    s.asksAgain (State.settleLong { s with sched := { s.sched with long := .none } }) ∧
      (State.settleLong { s with sched := { s.sched with long := .none } }).sched.grant = s.sched.grant := by
  have heq := State.settleLong_none (s := { s with sched := { s.sched with long := .none } }) rfl
  have hsendable : State.sendable { s with sched := { s.sched with long := .none } } = s.sendable := rfl
  rw [hsendable] at heq
  rw [heq]
  by_cases h : s.link.state = .joined ∧ 0 < s.sendable
  · rw [if_pos h]
    refine ⟨⟨rfl, rfl, rfl, rfl, rfl, fun _ _ => ⟨rfl, rfl⟩, fun hn => ?_⟩, rfl⟩
    obtain hn | hn := hn
    · exact absurd h.1 hn
    · exact absurd h.2 (by omega)
  · rw [if_neg h]
    exact ⟨⟨rfl, rfl, rfl, rfl, rfl, fun h1 h2 => absurd ⟨h1, h2⟩ h, fun _ => ⟨rfl, rfl⟩⟩, rfl⟩

/-- The parking count has run out (R65, R171, R172). -/
theorem State.endParking_spec {s : State} (hr : s.power.startUp = .ready) (hp : s.power.power = .parking) :
    s.endParking.link = s.link ∧ s.endParking.radio = s.radio ∧ s.raises s.endParking 0x100#13 ∧ s.endParking.lampLaw ∧
      s.endParking.sched.statusPlace = some s.endParking.statusReport ∧
      (s.emerg.state = .clear → s.endParking.power = { s.power with power := .standby, parking := 0 } ∧
        s.endParking.sched.contention = (match s.sched.contention with | .outstanding c => .outstanding c | _ => .idle)) ∧
      (s.emerg.state ≠ .clear → s.endParking.power = { s.power with power := .active, park := false }) := by
  have hends : s.endParking = if s.emerg.state = .clear then s.enterStandby else State.raise .power s.enterActive := by
    simp only [State.endParking, hp, beq_iff_eq, if_true]
  by_cases hc : s.emerg.state = .clear
  · rw [hends, if_pos hc]
    have hrest : s.sched.contention.rest = (match s.sched.contention with | .outstanding c => .outstanding c | _ => .idle) := by
      cases s.sched.contention <;> rfl
    have hraises := State.raises_of (s := s) (State.raise_raises .power (State.handOn
      { s with power := { s.power with power := .standby, parking := 0 }, sched := { s.sched with contention := s.sched.contention.rest } }))
      (by simp) (by simp)
    unfold State.enterStandby
    rw [State.raise_eq, State.handOn_eq] at hraises ⊢
    exact ⟨rfl, rfl, hraises, ⟨rfl, rfl, rfl⟩, if_pos hr, fun _ => ⟨rfl, hrest⟩, fun hn => absurd hc hn⟩
  · rw [hends, if_neg hc]
    have hactive := State.enterActive_awake (s := s) (by rw [hp]; decide)
    have hraises := State.raises_of (s := s) (State.raise_raises .power (State.handOn
      { s with power := { s.power with power := .active, park := false } })) (by simp) (by simp)
    rw [hactive, State.raise_eq, State.handOn_eq] at *
    exact ⟨rfl, rfl, hraises, ⟨rfl, rfl, rfl⟩, if_pos hr, fun h => absurd h hc, fun _ => rfl⟩

/-- Settles O52: cycle starts, the beacon window in each link state, and the waits in cycles. -/
theorem cycleStartsAndCycleWaitsAct : Obligations.CycleStartsAndCycleWaitsAct := by
  intro s hr asks best joins quiet fails ended
  refine ⟨?_, fun hw => ?_, fun g hw hg he => ?_, fun hw => ?_, fun hw hb => ?_, fun hw hb hh => ?_, fun c hw hb hj hc => ?_,
    fun hw hb hj hn => ?_, fun hl => ?_, fun hl => ?_, fun g hg hs hc => ?_, fun hp h0 => ?_⟩
  · refine ⟨s.startCycle, exec_cycleStart hr, ?_, rfl, rfl, rfl, ?_, ?_, ?_, fun hw hg => ?_⟩
    · rw [State.startCycle_eq]
      simp
    · rw [State.startCycle_eq]
      simp
    · rw [State.startCycle_eq]
      simp
    · rw [State.startCycle_eq]
      simp
    · rw [State.startCycle_counts hw hg]
      refine ⟨rfl, rfl, rfl, fun n h => ?_, fun n h => ?_, fun h => ?_, rfl, rfl⟩
      · dsimp only
        rw [h]
        rfl
      · dsimp only
        rw [h]
        rfl
      · dsimp only
        obtain h | h | h := h <;> rw [h] <;> rfl
  · refine ⟨s.closeWindow, exec_beaconWindowClose hr, State.closeWindow_window s, ?_⟩
    rw [exec_cycleStart hr, exec_cycleStart (by rw [State.closeWindow_ready, hr]), State.startCycle_eq, State.startCycle_eq s.closeWindow,
      State.closeWindow_closed (State.closeWindow_window s)]
  · obtain ⟨hframe, hsched, hsend, hnone⟩ := State.endGrant_spec s
    refine ⟨s.endGrant, hframe, hsched, hsend, hnone, ?_⟩
    rw [exec_cycleStart hr, exec_cycleStart (by rw [State.endGrant_ready, hr]), State.startCycle_ended hw hg he]
  · rw [exec_beaconWindowClose hr, State.closeWindow_closed hw]
  · rw [exec_beaconWindowClose hr]
    cases hin : s.link.beaconIn with
    | true => rw [State.closeWindow_heard hw hin]
    | false =>
      rw [State.closeWindow_missed hw hin, State.missBeacon_eq]
      obtain h | h | h := hb
      · rw [hin] at h
        exact absurd h (by decide)
      · rw [h]
      · rw [h]
  · rw [exec_beaconWindowClose hr, State.closeWindow_missed hw hb, State.missBeacon_eq, hh]
  · obtain ⟨hlost, hkept⟩ := State.missBeacon_join_spec hj hc
    obtain ⟨hcounters, hcounts, hstill⟩ := State.missed_counters s
    have hframe := State.missBeacon_join_frame hj hc
    have hpage := congrArg State.page hframe
    rw [exec_beaconWindowClose hr, State.closeWindow_missed hw hb]
    refine ⟨_, rfl, ?_, ?_, fun d hd => ?_, fun hd => ?_, fun h => (hlost h).2, fun h4 => ?_⟩
    · rw [hpage]
      exact hframe
    · rw [hpage]
      dsimp only
      rw [hcounters]
    · show _ = _
      rw [hpage]
      exact hcounts d hd
    · rw [hpage]
      exact hstill hd
    · obtain ⟨hnotOut, hgone, -⟩ := State.contentionOutcome_sched s.missed
      have hstays := fun h => State.contentionOutcome_stays (s := s.missed) h
      refine ⟨fun hd => ?_, fun hd => ?_, fun hd ha => ?_⟩
      · have hnot : ¬(s.sched.contention = .outstanding (some .join) ∧ 4 ≤ s.link.attempts) := fun h => hd _ h.1
        obtain ⟨hsame, -, hlink, -⟩ := hstays hnot
        rw [hkept fun h => h.elim (Nat.not_le.2 h4) hnot, hnotOut hd, hlink (hd _), hsame]
        exact ⟨rfl, rfl, rfl⟩
      · have hnot : ¬(s.sched.contention = .outstanding (some .join) ∧ 4 ≤ s.link.attempts) := fun h => by
          rw [hd] at h
          exact absurd h.1 (by decide)
        obtain ⟨hsame, -, hlink, -⟩ := hstays hnot
        rw [hkept fun h => h.elim (Nat.not_le.2 h4) hnot, hgone hd, hlink (by rw [show s.missed.sched.contention = _ from hd]; decide), hsame]
        exact ⟨rfl, rfl, rfl⟩
      · have hnot : ¬(s.sched.contention = .outstanding (some .join) ∧ 4 ≤ s.link.attempts) := fun h => absurd h.2 (Nat.not_le.2 ha)
        obtain ⟨hsame, -, -, hjoin, -⟩ := hstays hnot
        obtain ⟨hsched, hlink⟩ := hjoin hd
        rw [hkept fun h => h.elim (Nat.not_le.2 h4) hnot, hsched, hlink, hsame]
        exact ⟨rfl, rfl, rfl⟩
  · have hnot : ¬(s.sched.contention = .outstanding (some .join) ∧ 4 ≤ s.link.attempts) := fun h => hn h.1
    obtain ⟨hsame, -, hlink, -, -⟩ := State.contentionOutcome_stays (s := s.missed) hnot
    have hlink' := hlink hn
    obtain ⟨hcounters, hcounts, hstill⟩ := State.missed_counters s
    obtain ⟨hnotOut, hgone, halert, hbid, hrequest⟩ := State.contentionOutcome_sched s.missed
    have hmiss := State.missBeacon_joined hj
    rw [exec_beaconWindowClose hr, State.closeWindow_missed hw hb, hmiss, hlink']
    have hplaces : (s.missed.contentionOutcome false).sched.acks = s.sched.acks ∧
        (s.missed.contentionOutcome false).sched.alertPlace = s.sched.alertPlace := by simp [State.missed_spec]
    obtain ⟨hacks, hplace⟩ := hplaces
    generalize s.missed.contentionOutcome false = y at *
    have hmissed : y.page.counters.beaconsMissed = satAdd s.page.counters.beaconsMissed 1#16 := by rw [hcounters]
    have hblocks : y.pending = s.pending ∧ y.mem = s.mem ∧ y.path = s.path ∧ y.radio = s.radio ∧ y.msgs = s.msgs ∧ y.pins = s.pins ∧
        y.page.causes = s.page.causes := by
      rw [hsame]
      exact ⟨rfl, rfl, rfl, rfl, rfl, rfl, rfl⟩
    obtain ⟨hpending, hmem, hpath, hradio, hmsgs, hpins, hcauses⟩ := hblocks
    have hloss : s.missed.link.loss = s.link.loss + 1 := rfl
    rw [hloss]
    by_cases h5 : 5 ≤ s.link.loss + 1
    · rw [if_pos h5]
      obtain ⟨qlink, qsched, qcauses, qup, qcounters⟩ := State.enterQuiet_fromJoined (s := y) (by rw [hlink']; exact hj)
      refine ⟨_, rfl, by simp [hpending], by simp [hmem], by simp [hpath], by rw [qcounters, hmissed], fun h => by omega, fun _ =>
        ⟨?_, fun d hd => ?_, fun hd => ?_, ?_, qup, ?_, ?_, ?_, ?_, ?_, ?_, fun b hb => ?_, ?_, ?_⟩⟩
      · rw [qlink, hlink']
        rfl
      · show _ = _
        rw [qcounters]
        exact hcounts d hd
      · rw [qcounters]
        exact hstill hd
      · rw [qcauses, hcauses]
      all_goals rw [qsched] at *
      · rfl
      · rfl
      · rfl
      · rfl
      · rfl
      · rfl
      · obtain ⟨x, -, rfl⟩ := List.mem_map.1 hb
        rfl
      · exact hacks
      · exact hplace
    · rw [if_neg h5]
      refine ⟨y, rfl, hpending, hmem, hpath, hmissed, fun _ => ⟨hlink', hradio, hmsgs, hpins, hcauses, fun hd => ⟨hnotOut hd, hstill hd⟩,
        fun c hc => ⟨hcounts c hc, fun h => ?_, fun h => ?_, fun job h => ?_, fun h => ?_⟩⟩, fun h => by omega⟩
      · subst h
        exact hgone hc
      · subst h
        exact halert hc
      · subst h
        exact hbid job hc
      · subst h
        exact hrequest hc
  · rw [show exec .grantWaitExpiry s = .next s.grantWaitEnds from
      congrArg Host.Outcome.next (if_pos (by rw [hr, hl]; rfl)), State.grantWaitEnds]
    (repeat' split) <;> rfl
  · obtain ⟨hasks, hgrant⟩ := State.restEnds_asks s
    exact ⟨_, congrArg Host.Outcome.next (if_pos (by rw [hr, hl]; rfl)), hasks, hgrant⟩
  · obtain ⟨hasks, hgrant⟩ := State.endGrant_asks s
    exact ⟨_, congrArg Host.Outcome.next (if_pos (by simp [hr, hg, hs, hc])), hasks, hgrant⟩
  · obtain ⟨hlink, -, hraises, hlamps, hreport, hdown, hup⟩ := State.endParking_spec ((State.ready_iff s).1 hr).2 hp
    exact ⟨s.endParking, congrArg Host.Outcome.next (if_pos (by simp [hr, h0])), by simp, by simp, by simp, hlink, by simp, by simp, by simp,
      by simp, hraises, hlamps, hreport, hdown, hup⟩

end Sys2Proof.Machine
end

section
/-! PROOFS. The hunt, joining and the grant wait (R22, R23, R25 to R28). -/

namespace Sys2Proof.Machine

/-! ## The end of a pass (R26) -/

/-- The candidates decide the end of a pass. -/
theorem State.endPass_eq (s : State) :
    (s.link.candidates = [] → s.endPass = s.enterQuiet false) ∧
      (s.link.candidates ≠ [] → ∃ c : Candidate, c.selectedFrom s.link.candidates ∧ s.endPass = s.enterJoin c) := by
  unfold State.endPass
  cases h : selectCandidate s.link.candidates with
  | none =>
    have hnil := (selectCandidate_none_iff _).1 h
    exact ⟨fun _ => rfl, fun hn => absurd hnil hn⟩
  | some c =>
    refine ⟨fun hn => ?_, fun _ => ⟨c, selectCandidate_some h, rfl⟩⟩
    rw [(selectCandidate_none_iff _).2 hn] at h
    cases h

/-- The link is in JOIN on a candidate, to which the receiver is tuned (R27). -/
def State.joinsTuned (s t : State) (c : Candidate) : Prop :=
  t.link.state = .join ∧ t.link.joining = some c ∧ t.link.attempts = 0 ∧
    t.link.loss = 0 ∧ t.link.grantWait = none ∧ t.sched.joinPlace = true ∧ t.sched.joinAttempts = 0 ∧ t.sched.contention = .idle ∧
    (s.radio.sending = none → s.radio.deferred = [] → t.radio.channel = c.channel)

/-- The link is QUIET, and the hunt begins anew from there (R22, R26). -/
def State.quietAfterPass (s t : State) : Prop :=
  t.link.state = .quiet ∧ t.link.candidates = [] ∧ t.link.quiet = 0 ∧ t.link.joining = none ∧
    t.link.hunt = none ∧ t.link.channels = s.link.channels

/-- Only the link, the transceiver and the scheduler have changed. -/
def State.onlyLink (s t : State) : Prop := t = { s with link := t.link, radio := t.radio, sched := t.sched }

theorem State.enterJoin_joins (c : Candidate) (s : State) :
    s.joinsTuned (s.enterJoin c) c ∧ s.onlyLink (s.enterJoin c) ∧ (s.enterJoin c).link.clock = s.link.clock ∧
      (s.enterJoin c).link.candidates = s.link.candidates := by
  obtain ⟨hlink, hsched, hframe, hchannel⟩ := State.enterJoin_spec c s
  refine ⟨?_, hframe, by rw [hlink], by rw [hlink]⟩
  rw [State.joinsTuned, hlink, hsched]
  exact ⟨rfl, rfl, rfl, rfl, rfl, rfl, rfl, rfl, hchannel⟩

theorem State.enterQuiet_ends {s : State} (h : s.link.state ≠ .off) (hj : s.link.state ≠ .joined) :
    s.quietAfterPass (s.enterQuiet false) ∧ s.onlyLink (s.enterQuiet false) ∧ (s.enterQuiet false).link.clock = s.link.clock := by
  have heq := State.enterQuiet_from h hj
  refine ⟨?_, ?_, ?_⟩
  · rw [State.quietAfterPass, heq]
    exact ⟨rfl, rfl, rfl, rfl, rfl, rfl⟩
  · rw [State.onlyLink]
    generalize s.enterQuiet false = t at heq ⊢
    rw [heq]
  · rw [heq]
    rfl

/-- A pass that ends joins the best candidate, or the link is QUIET (R26). -/
theorem State.endPass_spec {s : State} (h : s.link.state = .hunt) :
    s.onlyLink s.endPass ∧ s.endPass.link.clock = s.link.clock ∧ (s.link.candidates = [] → s.quietAfterPass s.endPass) ∧
      (s.link.candidates ≠ [] → ∃ c : Candidate, c.selectedFrom s.link.candidates ∧ s.joinsTuned s.endPass c) := by
  obtain ⟨hnone, hsome⟩ := State.endPass_eq s
  by_cases hc : s.link.candidates = []
  · obtain ⟨hquiet, honly, hclock⟩ := State.enterQuiet_ends (s := s) (by rw [h]; decide) (by rw [h]; decide)
    rw [hnone hc]
    exact ⟨honly, hclock, fun _ => hquiet, fun hn => absurd hc hn⟩
  · obtain ⟨c, hbest, heq⟩ := hsome hc
    obtain ⟨hjoins, honly, hclock, -⟩ := State.enterJoin_joins c s
    rw [heq]
    exact ⟨honly, hclock, fun hn => absurd hn hc, fun _ => ⟨c, hbest, hjoins⟩⟩

/-! ## The next channel (R23, R25) -/

/-- The receiver listens on a channel (R23). -/
def State.listensOn (s t : State) (c : Word) (rest : List Word) : Prop :=
  (t.radio.output = s.radio.output ++ [.order (.tune c)] ∧ (s.radio.sending = none → t.radio.channel = c)) ∧ t.link.state = .hunt ∧
    t.link.hunt = some ⟨c, rest, none⟩ ∧ t.sched = s.sched ∧ t.page = s.page

theorem State.tuneNext_listens (c : Word) (rest : List Word) (s : State) :
    s.listensOn (s.tuneNext c rest) c rest ∧ s.onlyLink (s.tuneNext c rest) ∧ (s.tuneNext c rest).link.clock = s.link.clock ∧
      (s.tuneNext c rest).link.candidates = s.link.candidates := by
  obtain ⟨hframe, hout, hchannel⟩ := State.tuneNext_spec c rest s
  refine ⟨⟨⟨hout, hchannel⟩, ?_⟩, ?_, ?_, ?_⟩
  · rw [hframe]
    exact ⟨rfl, rfl, rfl, rfl⟩
  · rw [State.onlyLink]
    generalize s.tuneNext c rest = t at hframe ⊢
    rw [hframe]
  · rw [hframe]
  · rw [hframe]

theorem State.quickHunt_iff (s : State) : s.quickHunt = true ↔ s.emerg.state ≠ .clear := by simp [State.quickHunt]

/-- The end of a listen: the channel qualifies in a quick hunt, the pass ends, or the next channel is tuned (R23, R25). -/
theorem State.nextChannel_eq {s : State} {h : Hunt} (hh : s.link.hunt = some h) :
    (∀ r, s.emerg.state ≠ .clear → s.link.candidates = [] → h.run = some r → s.nextChannel = s.quickJoin h.channel r) ∧
      (h.rest = [] → (s.emerg.state = .clear ∨ s.link.candidates ≠ [] ∨ h.run = none) → s.nextChannel = s.endPass) ∧
      (s.emerg.state ≠ .clear → s.link.candidates ≠ [] → s.nextChannel = s.endPass) ∧
      ∀ d ds, h.rest = d :: ds → (s.emerg.state = .clear ∨ (s.link.candidates = [] ∧ h.run = none)) → s.nextChannel = s.tuneNext d ds := by
  have hrun : ∀ r, s.emerg.state ≠ .clear → s.link.candidates = [] → h.run = some r → s.quickRun h = some r := fun r he hc hr => by
    simp [State.quickRun, (State.quickHunt_iff s).2 he, hc, hr]
  have hnorun : (s.emerg.state = .clear ∨ s.link.candidates ≠ [] ∨ h.run = none) → s.quickRun h = none := fun hn => by
    obtain hn | hn | hn := hn <;> simp [State.quickRun, State.quickHunt, hn]
  refine ⟨fun r he hc hr => ?_, fun hrest hn => ?_, fun he hc => ?_, fun d ds hrest hn => ?_⟩
  · simp only [State.nextChannel, hh, hrun r he hc hr]
  · simp only [State.nextChannel, hh, hnorun hn, hrest]
  · have hq : (s.quickHunt && !s.link.candidates.isEmpty) = true := by simp [(State.quickHunt_iff s).2 he, hc]
    simp only [State.nextChannel, hh, hnorun (.inr (.inl hc))]
    cases h.rest with
    | nil => rfl
    | cons d ds => exact if_pos hq
  · have hq : (s.quickHunt && !s.link.candidates.isEmpty) = false := by
      obtain hn | ⟨hn, -⟩ := hn <;> simp [State.quickHunt, hn]
    have hno : s.quickRun h = none := hnorun (hn.imp_right fun ⟨_, hr⟩ => .inr hr)
    simp only [State.nextChannel, hh, hno, hrest, hq]
    rfl

/-- The three ways in which a listen ends. -/
theorem State.listen_cases (s : State) (h : Hunt) :
    (s.emerg.state ≠ .clear ∧ s.link.candidates = [] ∧ ∃ r, h.run = some r) ∨
      ((h.rest = [] ∧ (s.emerg.state = .clear ∨ s.link.candidates ≠ [] ∨ h.run = none)) ∨
        (s.emerg.state ≠ .clear ∧ s.link.candidates ≠ [])) ∨
      ∃ d ds, h.rest = d :: ds ∧ (s.emerg.state = .clear ∨ (s.link.candidates = [] ∧ h.run = none)) := by
  by_cases he : s.emerg.state = .clear
  · cases h.rest with
    | nil => exact .inr (.inl (.inl ⟨rfl, .inl he⟩))
    | cons d ds => exact .inr (.inr ⟨d, ds, rfl, .inl he⟩)
  · by_cases hc : s.link.candidates = []
    · cases hrun : h.run with
      | some r => exact .inl ⟨he, hc, r, rfl⟩
      | none =>
        cases h.rest with
        | nil => exact .inr (.inl (.inl ⟨rfl, .inr (.inr rfl)⟩))
        | cons d ds => exact .inr (.inr ⟨d, ds, rfl, .inr ⟨hc, rfl⟩⟩)
    · exact .inr (.inl (.inr ⟨he, hc⟩))

/-! ## The candidate that is given up (R27, R28) -/

/-- The receiver is tuned to the candidate that is joined in place of one that failed (R27, R28). -/
theorem State.candidateFails_channel {s : State} {c d : Candidate} (hc : s.link.joining = some c)
    (hd : s.candidateFails.link.state = .join ∧ s.candidateFails.link.joining = some d) (hs : s.radio.sending = none)
    (hdef : s.radio.deferred = []) : s.candidateFails.radio.channel = d.channel := by
  unfold State.candidateFails at hd ⊢
  rw [hc] at hd ⊢
  dsimp only at hd ⊢
  have hradio : s.leaveJoin.radio = s.radio := Transceiver.leave_idle .join hs
  cases h : selectCandidate (s.link.candidates.erase c) with
  | none =>
    rw [h] at hd
    exact absurd hd.1 (by simp [State.enterQuiet, LinkController.cleared])
  | some e =>
    rw [h] at hd
    obtain ⟨hlink, -, -, hchannel⟩ := State.enterJoin_spec e
      { s.leaveJoin with link := { s.leaveJoin.link with candidates := s.link.candidates.erase c } }
    have hde : e = d := by
      have hj := hd.2
      dsimp only at hj
      rw [hlink] at hj
      exact Option.some.inj hj
    rw [← hde]
    exact hchannel (by rw [← hs, ← hradio]) (by rw [← hdef, ← hradio])

/-- The failure of the candidate being joined, with the channel of the next one (R28). -/
theorem State.candidateFails_tunes {s : State} (hj : s.link.state = .join) {c : Candidate} (hc : s.link.joining = some c) :
    s.onlyLink s.candidateFails ∧
      (s.link.candidates.erase c = [] → s.quietAfterPass s.candidateFails ∧ s.candidateFails.sched.joinPlace = false) ∧
      (s.link.candidates.erase c ≠ [] → ∃ d : Candidate, d.selectedFrom (s.link.candidates.erase c) ∧ s.joinsTuned s.candidateFails d) := by
  obtain ⟨honly, hloses, -⟩ := State.candidateFails_loses hj hc
  obtain ⟨hnone, -⟩ := State.candidateFails_spec hj hc
  refine ⟨honly, fun h => ?_, fun h => ?_⟩
  · rw [hnone h]
    exact ⟨⟨rfl, rfl, rfl, rfl, rfl, rfl⟩, rfl⟩
  · obtain ⟨d, hbest, hstate, hjoining, hattempts, hloss, hwait, hplace, htries, hidle⟩ := hloses.2 h
    exact ⟨d, hbest, hstate, hjoining, hattempts, hloss, hwait, hplace, htries, hidle,
      State.candidateFails_channel hc ⟨hstate, hjoining⟩⟩

/-- Settles O53: the end of the QUIET wait, of a listen and of the grant wait. -/
theorem huntAndJoinProceed : Obligations.HuntAndJoinProceed := by
  intro s hr tunes listens joins quiet best only
  refine ⟨fun hq h2 c cs hch => ?_, fun hs h hh => ?_, fun hj hw => ⟨fun ha => ?_, fun ha c hc => ?_⟩⟩
  · have hstart : s.startHunt = State.tuneNext c ((dropRepeats cs).filter (fun d => d != c))
        { s with link := { s.link with candidates := [] } } := by
      simp only [State.startHunt, hch, dropRepeats]
    obtain ⟨hlistens, honly, -, hcandidates⟩ := State.tuneNext_listens c ((dropRepeats cs).filter (fun d => d != c))
      { s with link := { s.link with candidates := [] } }
    obtain ⟨hnodup, hmem⟩ := dropRepeats_spec cs
    refine ⟨_, _, congrArg Host.Outcome.next ((if_pos (by simp [hr, hq, h2])).trans hstart), honly, hlistens, hcandidates,
      hnodup.filter _, (dropRepeats_order cs).filter _, fun d => ?_⟩
    rw [List.mem_filter, hmem, bne_iff_ne]
  · obtain ⟨hjoin, hlast, hquick, hnext⟩ := State.nextChannel_eq hh
    have hexec : exec .listenEnd s = .next s.nextChannel := congrArg Host.Outcome.next (if_pos (by simp [hr, hs]))
    rcases State.listen_cases s h with ⟨he, hc, r, hrun⟩ | hends | ⟨d, ds, hrest, hn⟩
    · have heq := hjoin r he hc hrun
      obtain ⟨hjoins, honly, hclock, hcand⟩ := State.enterJoin_joins ⟨h.channel, r.site, r.abilities⟩
        { s with link := { s.link with candidates := [⟨h.channel, r.site, r.abilities⟩] } }
      refine ⟨_, hexec.trans (congrArg Host.Outcome.next heq), honly, hclock, fun d ds _ hclear => absurd hclear he, fun q _ _ hq => ?_,
        fun d ds _ _ _ hnone => ?_, fun hends => ?_⟩
      · rw [hrun] at hq
        cases hq
        exact ⟨hjoins, hcand⟩
      · rw [hrun] at hnone
        cases hnone
      · rcases hends with ⟨-, hclear | hne | hnone⟩ | ⟨-, hne⟩
        · exact absurd hclear he
        · exact absurd hc hne
        · rw [hrun] at hnone
          cases hnone
        · exact absurd hc hne
    · have heq : s.nextChannel = s.endPass := hends.elim (fun hn => hlast hn.1 hn.2) (fun hn => hquick hn.1 hn.2)
      obtain ⟨honly, hclock, hnone, hsome⟩ := State.endPass_spec hs
      refine ⟨_, hexec.trans (congrArg Host.Outcome.next heq), honly, hclock, fun d ds hrest hclear => ?_, fun r he hc hrun => ?_,
        fun d ds hrest he hc hrun => ?_, fun _ => ⟨hnone, hsome⟩⟩
      · rcases hends with ⟨hnil, -⟩ | ⟨he, -⟩
        · rw [hnil] at hrest
          cases hrest
        · exact absurd hclear he
      · rcases hends with ⟨-, hclear | hne | hno⟩ | ⟨-, hne⟩
        · exact absurd hclear he
        · exact absurd hc hne
        · rw [hno] at hrun
          cases hrun
        · exact absurd hc hne
      · rcases hends with ⟨hnil, -⟩ | ⟨-, hne⟩
        · rw [hnil] at hrest
          cases hrest
        · exact absurd hc hne
    · have heq := hnext d ds hrest hn
      obtain ⟨hlistens, honly, hclock, hcand⟩ := State.tuneNext_listens d ds s
      have hsame : ∀ e es, h.rest = e :: es → e = d ∧ es = ds := fun e es he => by
        rw [hrest] at he
        cases he
        exact ⟨rfl, rfl⟩
      refine ⟨_, hexec.trans (congrArg Host.Outcome.next heq), honly, hclock, fun e es he _ => ?_, fun r he hc hrun => ?_,
        fun e es he _ _ _ => ?_, fun hends => ?_⟩
      · obtain ⟨rfl, rfl⟩ := hsame e es he
        exact ⟨hlistens, hcand⟩
      · rcases hn with hclear | ⟨-, hno⟩
        · exact absurd hclear he
        · rw [hno] at hrun
          cases hrun
      · obtain ⟨rfl, rfl⟩ := hsame e es he
        exact hlistens
      · rcases hends with ⟨hnil, -⟩ | ⟨he, hne⟩
        · rw [hnil] at hrest
          cases hrest
        · rcases hn with hclear | ⟨hc, -⟩
          · exact absurd hclear he
          · exact absurd hc hne
  · refine congrArg Host.Outcome.next ((if_pos hr).trans ?_)
    simp [State.joinGrantWaitEnds, hj, hw, Nat.not_le.2 ha]
  · obtain ⟨honly, hnone, hsome⟩ := State.candidateFails_tunes hj hc
    have hends : s.joinGrantWaitEnds = s.candidateFails := by simp [State.joinGrantWaitEnds, hj, hw, ha]
    exact ⟨_, congrArg Host.Outcome.next ((if_pos hr).trans hends), honly, hnone, hsome⟩

end Sys2Proof.Machine
end

section
/-! PROOFS. The draw of a contention slot (R54). -/

namespace Sys2Proof.Machine

/-- A draw lies in its range (R54). -/
theorem Scheduler.draw_lt (u : Scheduler) {n : Nat} (h : 0 < n) : u.draw n < n := by
  unfold Scheduler.draw
  split
  · exact h
  · exact Nat.mod_lt _ h

theorem State.mem_drawableSlots (s : State) (d : Nat) :
    d ∈ s.drawableSlots ↔ d < 24 ∧ 24 - s.link.contention ≤ d ∧ s.reservedSlot ≠ some d ∧ s.inGrant d = false := by
  simp [State.drawableSlots, and_assoc]

/-- The slot is drawn from those that are left, if any (R54). -/
theorem State.drawSlot_spec {s : State} {c : Contender} (hc : s.sched.contention = .waiting c 0) :
    ((∀ d, d ∉ s.drawableSlots) → s.drawSlot = s) ∧
      ((∃ d, d ∈ s.drawableSlots) → ∃ d, d ∈ s.drawableSlots ∧ s.drawSlot = { s with
        sched := { s.sched with contention := .slotted c d, draws := s.sched.draws + 1 } }) := by
  cases h : s.drawableSlots with
  | nil =>
    refine ⟨fun _ => by simp [State.drawSlot, hc, h], fun ⟨d, hd⟩ => absurd hd List.not_mem_nil⟩
  | cons k rest =>
    refine ⟨fun hn => absurd List.mem_cons_self (hn k), fun _ => ?_⟩
    have hlt : s.sched.draw (k :: rest).length < (k :: rest).length := Scheduler.draw_lt _ (by simp)
    refine ⟨(k :: rest).getD (s.sched.draw (k :: rest).length) k, ?_, by simp [State.drawSlot, hc, h]⟩
    rw [← List.getElem_eq_getD (h := hlt)]
    exact List.getElem_mem hlt

/-- Settles O55: a wait of 0 at slot 0 draws a slot, if one is left. -/
theorem backoffDrawsAContentionSlot : Obligations.BackoffDrawsAContentionSlot := by
  intro s c hr hslot hc hlink hpower free
  have hmay : (s.mayTransmit || s.mayJoin) = true := by
    obtain hl | hl := hlink <;> obtain hp | hp := hpower <;>
      simp [State.mayTransmit, State.mayJoin, PowerState.transmits, hl, hp]
  have hexec : exec .backoffExpiry s = .next s.drawSlot := congrArg Host.Outcome.next ((if_pos hr).trans (if_pos ⟨hslot, hmay⟩))
  obtain ⟨hnone, hsome⟩ := State.drawSlot_spec hc
  simp only [State.mem_drawableSlots] at hnone hsome
  refine ⟨fun h => by rw [hexec, hnone h], fun h => ?_⟩
  obtain ⟨d, hd, heq⟩ := hsome h
  exact ⟨d, hd, by rw [hexec, heq]⟩

end Sys2Proof.Machine
end

section
/-! PROOFS. The ends of sending (R16, R27, R43, R46 to R49, R52, R55, R60, R62, R111, R118, R133, R154, R156, R171, R172). -/

namespace Sys2Proof.Machine

/-- The sending ends with no order deferred (R16). -/
theorem State.endSend_eq {s : State} (h : s.radio.deferred = []) : s.endSend = { s with radio := { s.radio with sending := none } } := by
  simp [State.endSend, Transceiver.endSend, h]

theorem exec_shortFrameSent {s : State} {f : Sending} (hr : s.ready = true) (hs : s.radio.sending = some f) (hd : s.radio.deferred = []) :
    (f.via = .reserved → exec .shortFrameSent s = .next (State.deliver f { s with radio := { s.radio with sending := none } })) ∧
      (f.via = .contention → exec .shortFrameSent s = .next (State.transmitted f { s with radio := { s.radio with sending := none } })) := by
  have hsent : exec .shortFrameSent s = .next s.shortSent := congrArg Host.Outcome.next (if_pos hr)
  rw [hsent, ← State.endSend_eq hd]
  constructor <;> intro h <;> simp only [State.shortSent, hs, h]

theorem exec_longFrameSent {s : State} {f : Sending} (hr : s.ready = true) (hs : s.radio.sending = some f) (hd : s.radio.deferred = [])
    (hv : f.via = .long) :
    exec .longFrameSent s = .next (State.settleLong (State.longDelivered f { s with radio := { s.radio with sending := none } })) := by
  have hsent : exec .longFrameSent s = .next s.longSent := congrArg Host.Outcome.next (if_pos hr)
  rw [hsent, ← State.endSend_eq hd]
  simp only [State.longSent, hs, hv]

/-- The bid of a job leaves the list (R47). -/
theorem Scheduler.dropBid_eq (u : Scheduler) (job : DWord) :
    u.dropBid job = { u with bids := u.bids.filter (fun b => b.job != job), contention := (u.dropBid job).contention } := by
  rw [← Scheduler.dropBid_bids]
  unfold Scheduler.dropBid
  split <;> rfl

/-! ## The ALERT (R49, R154, R156) -/

/-- A rewrite of the record is asked for (R159). -/
theorem State.rewriteRecord_spec (s : State) :
    s.rewriteRecord = { s with emerg := { s.emerg with owed := s.rewriteRecord.emerg.owed }, path := s.rewriteRecord.path } ∧
      (s.path.busyWith .emergencyRewrite = false → ⟨.emergencyRewrite, 0⟩ ∈ s.rewriteRecord.path.queue) := by
  constructor
  · unfold State.rewriteRecord
    split
    · rfl
    · split <;> rfl
  · intro h
    obtain ⟨hqueued, hunder⟩ := Bool.or_eq_false_iff.1 (show (s.path.queued .emergencyRewrite || s.path.underWay .emergencyRewrite) = false from h)
    simp [State.rewriteRecord, hqueued, hunder, State.requestWrite, MemoryPath.requestWrite]

/-- The send of an ALERT of the present call is counted (R154, R156). -/
theorem State.alertSent_eq {s : State} {n : Word} (hn : n = s.emerg.number) :
    (s.emerg.state = .alerting → s.alertSent n = State.rewriteRecord { s with
      emerg := { s.emerg with sends := satAdd s.emerg.sends 1#16 }
      sched := { s.sched with alertPlace := some ⟨s.emerg.number, s.emerg.source⟩ } }) ∧
    (s.emerg.state = .acked → s.alertSent n = State.rewriteRecord { s with
      emerg := { s.emerg with sends := satAdd s.emerg.sends 1#16, repeatLeft := some 10 } }) ∧
    (s.emerg.state ≠ .alerting → s.emerg.state ≠ .acked → s.alertSent n = s) := by
  unfold State.alertSent
  rw [if_pos hn]
  cases s.emerg.state with
  | clear => exact ⟨fun h => absurd h (by decide), fun h => absurd h (by decide), fun _ _ => rfl⟩
  | pressed => exact ⟨fun h => absurd h (by decide), fun h => absurd h (by decide), fun _ _ => rfl⟩
  | alerting => exact ⟨fun _ => rfl, fun h => absurd h (by decide), fun h => absurd rfl h⟩
  | acked => exact ⟨fun h => absurd h (by decide), fun _ => rfl, fun _ h => absurd rfl h⟩

/-- The ALERT place after a send of the number (R49). -/
def Scheduler.alertTaken (u : Scheduler) (n : Word) : Scheduler :=
  if u.alertPlace.any (fun a => a.number == n) then { u with alertPlace := none } else u

theorem Scheduler.alertTaken_spec (u : Scheduler) (n : Word) :
    (u.alertTaken n).contention = u.contention ∧
      (u.alertPlace.all (fun a => a.number == n) = true → (u.alertTaken n).alertPlace = none) := by
  unfold Scheduler.alertTaken
  cases h : u.alertPlace with
  | none => exact ⟨rfl, fun _ => h⟩
  | some a =>
    by_cases hn : a.number = n
    · simp [hn]
    · simp [hn]

theorem State.alertDelivered_eq (n : Word) (s : State) :
    s.alertDelivered n = State.alertSent n { s with sched := s.sched.alertTaken n } := by
  unfold State.alertDelivered Scheduler.alertTaken
  dsimp only
  split <;> rfl

/-- The Emergency Unit is told of the send of an ALERT (R49, R154, R156). -/
theorem State.alertDelivered_spec {s : State} {n : Word} (hn : n = s.emerg.number) :
    let t := s.alertDelivered n
    t = { s with sched := t.sched, emerg := t.emerg, path := t.path } ∧ t.sched.contention = s.sched.contention ∧
      (s.emerg.state = .alerting → t.emerg.sends = satAdd s.emerg.sends 1#16 ∧
        t.sched.alertPlace = some ⟨s.emerg.number, s.emerg.source⟩ ∧ t.emerg.repeatLeft = s.emerg.repeatLeft ∧
        (s.path.busyWith .emergencyRewrite = false → ⟨.emergencyRewrite, 0⟩ ∈ t.path.queue)) ∧
      (s.emerg.state = .acked → t.emerg.sends = satAdd s.emerg.sends 1#16 ∧ t.emerg.repeatLeft = some 10 ∧
        (s.sched.alertPlace.all (fun a => a.number == n) = true → t.sched.alertPlace = none)) := by
  intro t
  obtain ⟨hcontention, hplace⟩ := Scheduler.alertTaken_spec s.sched n
  obtain ⟨halerting, hacked, hother⟩ := State.alertSent_eq (s := { s with sched := s.sched.alertTaken n }) hn
  have ht : t = State.alertSent n { s with sched := s.sched.alertTaken n } := State.alertDelivered_eq n s
  by_cases ha : s.emerg.state = .alerting
  · rw [halerting ha] at ht
    obtain ⟨hrewrite, hqueue⟩ := State.rewriteRecord_spec { s with
      emerg := { s.emerg with sends := satAdd s.emerg.sends 1#16 }
      sched := { s.sched.alertTaken n with alertPlace := some ⟨s.emerg.number, s.emerg.source⟩ } }
    rw [hrewrite] at ht
    refine ⟨?_, ?_, fun _ => ⟨?_, ?_, ?_, fun h => ?_⟩, fun h => absurd (ha.symm.trans h) (by decide)⟩
    all_goals rw [ht]
    · exact hcontention
    · exact hqueue h
  · by_cases hk : s.emerg.state = .acked
    · rw [hacked hk] at ht
      obtain ⟨hrewrite, -⟩ := State.rewriteRecord_spec { s with
        emerg := { s.emerg with sends := satAdd s.emerg.sends 1#16, repeatLeft := some 10 }, sched := s.sched.alertTaken n }
      rw [hrewrite] at ht
      refine ⟨?_, ?_, fun h => absurd h ha, fun _ => ⟨?_, ?_, fun h => ?_⟩⟩
      all_goals rw [ht]
      · exact hcontention
      · exact hplace h
    · rw [hother ha hk] at ht
      refine ⟨?_, ?_, fun h => absurd h ha, fun h => absurd h hk⟩
      · rw [ht]
      · rw [ht]
        exact hcontention

/-! ## Long frames (R62) -/

/-- Asking for long slots touches no frame when none is on the air (R59). -/
theorem State.settleLong_sending {s : State} (h : s.radio.sending = none) : s.settleLong.radio = s.radio := by
  unfold State.settleLong
  cases s.sched.long with
  | none =>
    dsimp only
    split <;> rfl
  | request =>
    dsimp only
    split
    · exact Transceiver.leave_idle .slotRequest h
    · rfl
  | wait n => rfl
  | held => rfl
  | rest n => rfl

/-- The owner of a long frame counts its send (R62, R111, R118, R133). -/
theorem State.longDelivered_spec (f : Sending) (s : State) :
    State.longDelivered f s = { s with trips := (State.longDelivered f s).trips, msgs := (State.longDelivered f s).msgs } := by
  unfold State.longDelivered
  split
  · cases f.name with
    | text tag i =>
      dsimp only [State.textSent, State.changeFlight]
      split <;> rfl
    | _ => rfl
  · rfl

theorem State.longDelivered_dead {f : Sending} (h : f.live = false) (s : State) : State.longDelivered f s = s := if_neg (by simp [h])

theorem State.longDelivered_live {f : Sending} (h : f.live = true) (s : State) :
    (∀ r, f.name = .fare r → State.longDelivered f s = s.fareSent r) ∧
      (∀ n, f.name = .shift n → State.longDelivered f s = s.shiftSent n) ∧
      ∀ tag i, f.name = .text tag i → State.longDelivered f s = s.textSent tag i := by
  refine ⟨fun r hr => ?_, fun n hn => ?_, fun tag i ht => ?_⟩
  · simp only [State.longDelivered, h, hr, if_true]
  · simp only [State.longDelivered, h, hn, if_true]
  · simp only [State.longDelivered, h, ht, if_true]

/-- Settles O56: each frame name, sent in its kind of slot. -/
theorem sentFramesAreReported : Obligations.SentFramesAreReported := by
  intro s f hr hs hd idle
  obtain ⟨hreserved, hcontended⟩ := exec_shortFrameSent hr hs hd
  generalize hx : ({ s with radio := idle } : State) = x at hreserved hcontended
  refine ⟨fun hv hlive => ⟨fun tag hname => ?_, fun job hname => ?_, fun hname => ?_, fun hname => ?_⟩, fun hv hdead ha hst => ?_,
    fun hv hname => ?_, fun hv hname hp => ?_, fun n hv hname hn => ?_, fun hv ha => ?_, fun hv hlive => ?_, fun hv hdead => ?_⟩
  · rw [hreserved hv, State.deliver, hname]
    simp only [hlive, if_true, ← hx]
  · refine ⟨_, hreserved hv, ?_⟩
    have heq := Scheduler.dropBid_eq s.sched job
    rw [State.deliver, hname]
    simp only [hlive, if_true, ← hx]
    exact ⟨trivial, heq⟩
  · rw [hreserved hv, State.deliver, hname]
    simp only [hlive, if_true, ← hx]
  · refine ⟨_, hreserved hv, ?_⟩
    rw [State.deliver, hname]
    simp only [hlive, if_true, ← hx]
    exact ⟨trivial, rfl⟩
  · rw [hreserved hv, State.deliver]
    cases hname : f.name with
    | alert n => exact absurd hname (ha n)
    | status p => exact absurd hname (hst p)
    | ack tag => simp [hdead]
    | bid job => simp [hdead]
    | flow => simp [hdead]
    | slotRequest => simp [hdead]
    | join => rfl
    | fare r => rfl
    | shift n => rfl
    | text tag i => rfl
  · rw [hreserved hv, State.deliver]
    obtain hname | ⟨hname, hp⟩ := hname
    · rw [hname]
      rfl
    · have hxp : x.power = s.power := by rw [← hx]
      rw [hname]
      simp only [State.statusSent, State.endParking, if_true, hxp, beq_iff_eq, if_neg hp]
  · obtain ⟨-, hradio, hraises, -, -, hdown, hup⟩ := State.endParking_spec (s := x) (by rw [← hx]; exact ((State.ready_iff s).1 hr).2)
      (by rw [← hx]; exact hp)
    have hdeliver : State.deliver f x = x.endParking := by
      rw [State.deliver, hname]
      rfl
    refine ⟨x.endParking, by rw [hreserved hv, hdeliver], by rw [hradio, ← hx], ?_, ?_⟩
    · by_cases hc : s.emerg.state = .clear
      · rw [if_pos hc, (hdown (by rw [← hx]; exact hc)).1, ← hx]
      · rw [if_neg hc, hup (by rw [← hx]; exact hc), ← hx]
    · rw [hraises.1, ← hx]
  · have hem : x.emerg = s.emerg ∧ x.path = s.path ∧ x.sched = s.sched := by rw [← hx]; exact ⟨rfl, rfl, rfl⟩
    obtain ⟨hxem, hxpath, hxsched⟩ := hem
    cases hvia : f.via with
    | long => exact absurd hvia hv
    | reserved =>
      have hdeliver : State.deliver f x = State.alertDelivered n { x with
          sched := { x.sched with contention := x.sched.contention.yield .alert } } := by
        rw [State.deliver, hname]
      obtain ⟨hframe, -, halerting, hacked⟩ := State.alertDelivered_spec (s := { x with
        sched := { x.sched with contention := x.sched.contention.yield .alert } }) (n := n) (by rw [hxem]; exact hn)
      subst hx
      exact ⟨_, (hreserved hvia).trans (congrArg Host.Outcome.next hdeliver), hframe, halerting, hacked,
        fun h => absurd h (by decide)⟩
    | contention =>
      have hsent : State.transmitted f x = x.alertDelivered n := by
        rw [State.transmitted, hname]
      obtain ⟨hframe, hkeeps, halerting, hacked⟩ := State.alertDelivered_spec (s := x) (n := n) (by rw [hxem]; exact hn)
      rw [hxem, hxpath] at halerting
      rw [hxem, hxsched] at hacked
      refine ⟨_, (hcontended hvia).trans (congrArg Host.Outcome.next hsent), ?_, halerting, hacked, fun _ => by rw [hkeeps, hxsched]⟩
      rw [← hx] at hframe ⊢
      exact hframe
  · rw [hcontended hv, State.transmitted]
    cases hname : f.name with
    | alert n => exact absurd hname (ha n)
    | _ => rfl
  · have hexec := exec_longFrameSent hr hs hd hv
    rw [hx] at hexec
    have hframe := State.longDelivered_spec f x
    obtain ⟨hfare, hshift, htext⟩ := State.longDelivered_live hlive x
    have hnone : (State.longDelivered f x).radio.sending = none := by
      rw [hframe, ← hx]
    refine ⟨_, hexec, ?_, ?_, ?_, ?_, ?_, ?_, fun r hname => ?_, fun n e hname he hnum => ?_, fun tag i m hname hm => ?_⟩
    · rw [State.settleLong_sending hnone, hnone]
    · simp only [State.settleLong_frame]
      rw [hframe, ← hx]
    · simp only [State.settleLong_frame]
      rw [hframe, ← hx]
    · simp only [State.settleLong_frame]
      rw [hframe, ← hx]
    · simp only [State.settleLong_frame]
      rw [hframe, ← hx]
    · simp only [State.settleLong_frame]
      rw [hframe, ← hx]
    · simp only [State.settleLong_frame]
      rw [hfare r hname, ← hx]
      exact ⟨rfl, rfl⟩
    · simp only [State.settleLong_frame]
      rw [hshift n hname, ← hx]
      refine ⟨rfl, ?_⟩
      simp only [State.shiftSent, he, Option.map_some, if_pos hnum]
      rfl
    · simp only [State.settleLong_frame]
      rw [htext tag i hname, ← hx]
      refine ⟨?_, fun htag hi => ?_, fun hno => ?_⟩
      · simp [State.textSent, State.changeFlight, hm]
      · simp only [State.textSent, State.changeFlight, hm, if_pos (show m.tag = tag ∧ i < m.fragments from ⟨htag, hi⟩)]
        rfl
      · have hnot : ¬(m.tag = tag ∧ i < m.fragments) := fun h => hno.elim (fun hne => hne h.1) (fun hle => absurd h.2 (Nat.not_lt.2 hle))
        simp only [State.textSent, State.changeFlight, hm, if_neg hnot]
        rw [← hm]
  · have hexec := exec_longFrameSent hr hs hd hv
    rw [State.longDelivered_dead hdead] at hexec
    exact ⟨_, hexec, by rw [State.settleLong_sending rfl], by simp, by simp⟩

end Sys2Proof.Machine
end

section
/-! PROOFS. The check of a delivered frame and the filters that it passes before it is routed (O57). -/

namespace Sys2Proof.Machine

theorem decodeFrame_damaged_iff (bytes : List Byte) : decodeFrame bytes = .damaged ↔
    bytes.length < 12 ∨ airWord bytes (bytes.length - 2) ≠ crc (bytes.take (bytes.length - 2)) ∨
      (airWord bytes 8).toNat + 12 ≠ bytes.length := by
  unfold decodeFrame
  by_cases hshort : bytes.length < 12
  · simp [hshort]
  by_cases hcheck : airWord bytes (bytes.length - 2) ≠ crc (bytes.take (bytes.length - 2))
  · simp [hshort, hcheck]
  by_cases hcount : (airWord bytes 8).toNat + 12 ≠ bytes.length
  · simp [hshort, hcheck, hcount]
  · simp only [if_neg hshort, if_neg hcheck, if_neg hcount]
    refine iff_of_false ?_ (by simp [hshort, hcheck, hcount])
    cases decodeBody (bytes.getD 0 0#8) ((bytes.drop 10).take (bytes.length - 12)) <;> exact fun h => Received.noConfusion h

/-! ## The kinds of a frame -/

/-- The frame is a BEACON. -/
def DownBody.isBeacon (b : DownBody) : Prop := ∃ x, b = .beacon x

/-- The frame is a WAKE. -/
def DownBody.isWake (b : DownBody) : Prop := ∃ x, b = .wake x

/-- The frame is one that only a joining link takes: a GRANT of kind JOIN or a DENY. -/
def DownBody.forJoin (b : DownBody) : Prop := (∃ x y z, b = .grantJoin x y z) ∨ ∃ x, b = .deny x

/-- The frame is of a kind that is sent to one cab only (R35). -/
def DownBody.toCabOnly (b : DownBody) : Prop :=
  (∃ x y z, b = .grantJoin x y z) ∨ (∃ x y z, b = .grantLong x y z) ∨ (∃ x, b = .deny x) ∨ (∃ x, b = .award x) ∨
    (∃ x, b = .ackOfText x) ∨ (∃ x, b = .ackOfFare x) ∨ (∃ x, b = .ackOfShift x) ∨ (∃ x, b = .alertAck x) ∨
    (∃ x, b = .alertCancel x) ∨ b.isWake

theorem DownBody.accepts_eq_site_iff (b : DownBody) : b.accepts = .site ↔ b.isBeacon := by
  cases b <;> simp [DownBody.accepts, DownBody.isBeacon]

theorem DownBody.accepts_eq_cab_iff (b : DownBody) : b.accepts = .cab ↔ b.toCabOnly := by
  cases b <;> simp [DownBody.accepts, DownBody.toCabOnly, DownBody.isWake]

theorem DownBody.passesPower_iff (b : DownBody) (p : PowerState) :
    b.passesPower p = true ↔ p ≠ .sleep ∧ (p = .standby → b.isBeacon ∨ b.isWake) := by
  cases p with
  | active => simp [DownBody.passesPower]
  | parking => simp [DownBody.passesPower]
  | sleep => simp [DownBody.passesPower]
  | standby => cases b <;> simp [DownBody.passesPower, DownBody.isBeacon, DownBody.isWake]

/-- Where a frame that the link does not ignore is routed, by its kind (R35). -/
theorem DownBody.routedIn_iff (b : DownBody) (l : LinkState) :
    (l ≠ .off ∧ b.routedIn l = true) ↔
      (b.isBeacon ∧ l ≠ .off) ∨ (b.forJoin ∧ l = .join) ∨ (¬b.isBeacon ∧ ¬b.forJoin ∧ l = .joined) := by
  cases b <;> cases l <;> simp [DownBody.routedIn, DownBody.isBeacon, DownBody.forJoin]

/-! ## The filters -/

theorem State.trackedSite_eq (s : State) :
    s.trackedSite = match s.link.state with
      | .joined => s.link.site.map (·.site)
      | .join => s.link.joining.map (·.site)
      | _ => none := by
  unfold State.trackedSite
  cases s.link.state <;> rfl

theorem State.sitePasses_iff (s : State) (h : DownHeader) (b : DownBody) :
    s.sitePasses h b = true ↔
      (∀ n, s.trackedSite = some n → h.site = n) ∧ (¬b.isBeacon → s.trackedSite = some h.site) := by
  unfold State.sitePasses
  cases s.trackedSite with
  | some n =>
    have hsame : (some n = some h.site) ↔ h.site = n := ⟨fun e => (Option.some.inj e).symm, fun e => e ▸ rfl⟩
    simp only [beq_iff_eq, Option.some.injEq, forall_eq']
    exact ⟨fun e => ⟨e, fun _ => e.symm⟩, fun e => e.1⟩
  | none => cases b <;> simp [DownBody.isBeacon]

theorem State.classPasses_iff (s : State) (mask : Byte) :
    s.classPasses mask = true ↔ mask &&& ~~~((s.power.image.map (·.classFlags)).getD 0#8) = 0#8 := by
  rw [State.classPasses, beq_iff_eq]

/-- The destination names this cab by its own number. -/
def State.namesCab (s : State) (value : Word) : Prop :=
  value ≠ 0#16 ∧ value ≠ 0xFFFF#16 ∧ s.power.image.map (·.cab) = some value

/-- The destination of a frame that is sent to several cabs names this one. -/
def State.namesAny (s : State) (h : DownHeader) : Prop :=
  (h.dest = 1#8 ∧ (s.namesCab h.value ∨ h.value = 0xFFFF#16)) ∨
    (h.dest = 2#8 ∧ s.status.zone ≠ 0#8 ∧ h.value.toNat = s.status.zone.toNat ∧ s.classPasses h.mask = true) ∨
    (h.dest = 3#8 ∧ s.classPasses h.mask = true)

theorem zoneValue_iff (v : Word) (z : Byte) : v = z.setWidth 16 ↔ v.toNat = z.toNat := by
  bv_omega

theorem State.destinationPasses_site_iff (s : State) (h : DownHeader) : s.destinationPasses h .site = true ↔ h.dest = 4#8 := by
  unfold State.destinationPasses
  by_cases hc : h.dest = destCab
  · simp [hc, destCab]
  by_cases hz : h.dest = destZone
  · simp [hz, destCab, destZone]
  by_cases hf : h.dest = destFleet
  · simp [hf, destCab, destZone, destFleet]
  · simp [hc, hz, hf, destSite]

theorem State.destinationPasses_cab_iff (s : State) (h : DownHeader) :
    s.destinationPasses h .cab = true ↔ h.dest = 1#8 ∧ s.namesCab h.value := by
  unfold State.destinationPasses
  by_cases hc : h.dest = destCab
  · simp [hc, destCab, State.namesCab, eq_comm (a := some h.value), and_assoc]
  by_cases hz : h.dest = destZone
  · simp [hz, destCab, destZone]
  by_cases hf : h.dest = destFleet
  · simp [hf, destCab, destZone, destFleet]
  · have hne : h.dest ≠ 1#8 := hc
    simp [hc, hz, hf, hne]

theorem State.destinationPasses_any_iff (s : State) (h : DownHeader) : s.destinationPasses h .any = true ↔ s.namesAny h := by
  unfold State.destinationPasses State.namesAny
  by_cases hc : h.dest = destCab
  · by_cases hall : h.value = 0xFFFF#16
    · simp [hc, destCab, hall]
    · simp [hc, destCab, State.namesCab, eq_comm (a := some h.value), hall]
  by_cases hz : h.dest = destZone
  · simp [hz, destCab, destZone, zoneValue_iff, and_assoc]
  by_cases hf : h.dest = destFleet
  · simp [hf, destCab, destZone, destFleet]
  · have hne : h.dest ≠ 1#8 ∧ h.dest ≠ 2#8 ∧ h.dest ≠ 3#8 := ⟨hc, hz, hf⟩
    simp [hc, hz, hf, hne]

/-- The destination filter by the kind of the frame (R34, R35). -/
theorem State.destinationPasses_iff (s : State) (h : DownHeader) (b : DownBody) :
    s.destinationPasses h b.accepts = true ↔
      (b.isBeacon → h.dest = 4#8) ∧ (b.toCabOnly → h.dest = 1#8 ∧ s.namesCab h.value) ∧
        (¬b.isBeacon → ¬b.toCabOnly → s.namesAny h) := by
  rw [← b.accepts_eq_site_iff, ← b.accepts_eq_cab_iff]
  cases b.accepts with
  | site => simp [State.destinationPasses_site_iff]
  | cab => simp [State.destinationPasses_cab_iff]
  | any => simp [State.destinationPasses_any_iff]

/-- The filters that a frame passes, by its kind (R33 to R36). -/
theorem State.hears_iff (s : State) (h : DownHeader) (b : DownBody) :
    s.hears h b = true ↔
      s.ready = true ∧ s.power.image.map (·.fleet) = some h.fleet ∧ b.passesPower s.power.power = true ∧
        (s.link.state ≠ .off ∧ b.routedIn s.link.state = true) ∧ s.sitePasses h b = true ∧
        s.destinationPasses h b.accepts = true := by
  simp only [State.hears, Bool.and_eq_true, bne_iff_ne, beq_iff_eq, eq_comm (a := some h.fleet)]
  constructor
  · rintro ⟨⟨⟨⟨⟨⟨hready, hlink⟩, hfleet⟩, hpower⟩, hsite⟩, hdest⟩, hroute⟩
    exact ⟨hready, hfleet, hpower, ⟨hlink, hroute⟩, hsite, hdest⟩
  · rintro ⟨hready, hfleet, hpower, ⟨hlink, hroute⟩, hsite, hdest⟩
    exact ⟨⟨⟨⟨⟨⟨hready, hlink⟩, hfleet⟩, hpower⟩, hsite⟩, hdest⟩, hroute⟩

/-! ## A frame that is not heard -/

theorem State.receive_unheard {s : State} {h : DownHeader} {b : DownBody} (hh : s.hears h b = false) : s.receive h b = s := by
  rw [State.receive, hh]
  rfl

theorem exec_damagedFrame_off {s : State} (hl : s.link.state = .off) (bytes : List Byte) :
    exec (.damagedFrame bytes) s = .next s := by
  show execDamagedFrame bytes s = .next s
  simp [execDamagedFrame, hl]

theorem exec_damagedFrame_unknown {s : State} {bytes : List Byte} (hd : decodeFrame bytes = .unknown) :
    exec (.damagedFrame bytes) s = .next s := by
  show execDamagedFrame bytes s = .next s
  simp [execDamagedFrame, hd]

theorem exec_damagedFrame_damaged {s : State} {bytes : List Byte} (hd : decodeFrame bytes = .damaged) (hr : s.ready = true)
    (hl : s.link.state ≠ .off) : exec (.damagedFrame bytes) s = .next (s.count .checkErrors) := by
  show execDamagedFrame bytes s = _
  simp [execDamagedFrame, hd, hr, hl]

/-- A frame that the filters do not pass changes nothing, whichever its kind. -/
theorem exec_unheard {s : State} {h : DownHeader} {b : DownBody} (hh : s.hears h b = false) :
    (.next (s.receive h b) : Host.Outcome State Fault Refusal) = .next s := congrArg Host.Outcome.next (State.receive_unheard hh)

/-- Settles O57: the check, then the filters one by one. -/
theorem framesAreCheckedAndFiltered : Obligations.FramesAreCheckedAndFiltered := by
  refine ⟨decodeFrame_damaged_iff, fun s bytes hd => ⟨fun hr hl => exec_damagedFrame_damaged hd hr hl, fun hl => exec_damagedFrame_off hl bytes⟩,
    fun s bytes hd => exec_damagedFrame_unknown hd, fun s h => ?_, fun s h b => ?_⟩
  · exact ⟨fun _ => exec_unheard, fun _ _ _ => exec_unheard, fun _ => exec_unheard, exec_unheard, fun _ _ _ => exec_unheard,
      fun _ => exec_unheard, fun _ => exec_unheard, fun _ => exec_unheard, fun _ => exec_unheard, fun _ => exec_unheard,
      fun _ => exec_unheard, fun _ => exec_unheard, fun _ => exec_unheard, fun _ => exec_unheard, fun _ => exec_unheard,
      fun _ => exec_unheard⟩
  · intro tracked beacon wake toCabOnly routed thisCab inClass
    have htracked : s.trackedSite = tracked := s.trackedSite_eq
    have hsites := s.sitePasses_iff h b
    have hdest := s.destinationPasses_iff h b
    rw [htracked] at hsites
    unfold State.namesAny at hdest
    rw [s.classPasses_iff] at hdest
    rw [s.hears_iff, b.passesPower_iff, b.routedIn_iff, hsites, hdest]
    constructor
    · rintro ⟨hr, hfleet, ⟨hsleep, hstandby⟩, hrouted, ⟨hsite, hother⟩, hbeacon, hcab, hany⟩
      exact ⟨hr, hfleet, hsleep, hstandby, hrouted, hsite, hother, hbeacon, hcab, hany⟩
    · rintro ⟨hr, hfleet, hsleep, hstandby, hrouted, hsite, hother, hbeacon, hcab, hany⟩
      exact ⟨hr, hfleet, ⟨hsleep, hstandby⟩, hrouted, ⟨hsite, hother⟩, hbeacon, hcab, hany⟩

end Sys2Proof.Machine
end

section
/-! PROOFS. Offers and verdicts in the offer table (O59). -/

namespace Sys2Proof.Machine

/-- A frame that is heard is handed to its owner. -/
theorem exec_heard {s : State} {h : DownHeader} {b : DownBody} (hh : s.hears h b = true) :
    (.next (s.receive h b) : Host.Outcome State Fault Refusal) = .next (s.route h b) := congrArg Host.Outcome.next (State.receive_heard hh)

/-! ## Room in the table (R72) -/

/-- The entry that a search over all entries finds has no lower-numbered one of its kind. -/
theorem find_allEntries_some {p : Fin 16 → Bool} {n : Fin 16} (h : allEntries.find? p = some n) :
    p n = true ∧ ∀ k, k < n → p k = false := by
  obtain ⟨hn, before, after, hsplit, hbefore⟩ := List.find?_eq_some_iff_append.1 h
  refine ⟨hn, fun k hk => ?_⟩
  suffices hlower : k ∈ before by simpa using hbefore k hlower
  have hsorted : allEntries.Pairwise (· < ·) := by decide
  have hmem : k ∈ before ++ n :: after := hsplit ▸ mem_allEntries k
  rw [hsplit, List.pairwise_append, List.pairwise_cons] at hsorted
  obtain ⟨-, ⟨hafter, -⟩, -⟩ := hsorted
  rcases List.mem_append.1 hmem with hb | hrest
  · exact hb
  · rcases List.mem_cons.1 hrest with rfl | ha
    · exact absurd hk (Fin.lt_irrefl _)
    · exact absurd hk (Fin.lt_asymm (hafter k ha))

theorem OfferEngine.room_cases {t : OfferEngine} {n : Fin 16} (h : t.room = some n) :
    (t.stateOf n = .empty ∧ ∀ k, k < n → t.stateOf k ≠ .empty) ∨
      ((∀ k, t.stateOf k ≠ .empty) ∧ (t.stateOf n).terminal = true ∧
        ∃ older newer, t.order = older ++ n :: newer ∧ ∀ k ∈ older, (t.stateOf k).terminal = false) := by
  unfold OfferEngine.room at h
  cases hempty : allEntries.find? (fun n => t.stateOf n == .empty) with
  | some m =>
    rw [hempty] at h
    obtain rfl := Option.some.inj h
    obtain ⟨hm, hlower⟩ := find_allEntries_some hempty
    exact .inl ⟨by simpa using hm, fun k hk => by simpa using hlower k hk⟩
  | none =>
    rw [hempty] at h
    have hfull : ∀ k, t.stateOf k ≠ .empty := fun k => by simpa using List.find?_eq_none.1 hempty k (mem_allEntries k)
    obtain ⟨hn, older, newer, hsplit, holder⟩ := List.find?_eq_some_iff_append.1 h
    exact .inr ⟨hfull, hn, older, newer, hsplit, fun k hk => by simpa using holder k hk⟩

/-! ## An OFFER (R71, R72) -/

theorem takenHeader_dest (h : DownHeader) :
    (takenHeader h).dest = (if h.dest = 1#8 ∧ h.value = 0xFFFF#16 then 3#8 else h.dest) ∧
      (takenHeader h).mask = (if h.dest = 1#8 ∧ h.value = 0xFFFF#16 then 0#8 else h.mask) := by
  unfold takenHeader destCab
  by_cases hall : h.dest = 1#8 ∧ h.value = 0xFFFF#16
  · rw [if_pos hall, if_pos hall, if_pos hall]
    exact ⟨rfl, rfl⟩
  · rw [if_neg hall, if_neg hall, if_neg hall]
    exact ⟨rfl, rfl⟩

/-- The cab status suits an offer that is for this cab unless it is off duty, and any other offer only while it is free. -/
theorem CabStatus.suits_taken_iff (c : CabStatus) (h : DownHeader) :
    c.suits (takenHeader h).dest = true ↔
      ((h.dest = 1#8 ∧ h.value ≠ 0xFFFF#16) → c ≠ .offDuty) ∧ (¬(h.dest = 1#8 ∧ h.value ≠ 0xFFFF#16) → c = .free) := by
  rw [(takenHeader_dest h).1]
  unfold CabStatus.suits destCab
  by_cases hc : h.dest = 1#8
  · by_cases hall : h.value = 0xFFFF#16 <;> simp [hc, hall]
  · simp [hc]

theorem State.entersOffer_iff (h : DownHeader) (b : OfferBody) (s : State) :
    s.entersOffer (takenHeader h) b = true ↔
      b.job ≠ 0#32 ∧ 5 ≤ b.lifetime.toNat ∧ b.lifetime.toNat ≤ 120 ∧ b.text.length ≤ 64 ∧ s.power.power = .active ∧
        s.emerg.state = .clear ∧ ((h.dest = 1#8 ∧ h.value ≠ 0xFFFF#16) → s.status.status ≠ .offDuty) ∧
        (¬(h.dest = 1#8 ∧ h.value ≠ 0xFFFF#16) → s.status.status = .free) ∧ s.offers.find b.job = none := by
  simp only [State.entersOffer, Bool.and_eq_true, bne_iff_ne, decide_eq_true_eq, beq_iff_eq, Option.isNone_iff_eq_none,
    CabStatus.suits_taken_iff, and_assoc]

/-- A placed entry is rewritten and becomes the newest of the entry order; nothing else moves. -/
theorem State.placeEntry_spec (n : Fin 16) (f : OfferEntry → OfferEntry) (cs : List Cause) (s : State) :
    let t := s.placeEntry n f cs
    t = { s with offers := t.offers, path := t.path } ∧ (∀ k, k ≠ n → t.offers.entry k = s.offers.entry k) ∧
      t.path.queued (.offerRewrite n) = true ∧ t.offers.order = s.offers.order.erase n ++ [n] ∧
      t.offers.entry n = { f (s.offers.entry n) with seq := (f (s.offers.entry n)).seq + 1#8, causes := (t.offers.entry n).causes } ∧
      ∀ c ∈ cs, c ∈ (t.offers.entry n).causes := by
  intro t
  have hentry : ∀ k, t.offers.entry k = (s.updateEntry n f cs).offers.entry k := fun _ => rfl
  refine ⟨rfl, fun k hk => (hentry k).trans (State.updateEntry_other hk f cs s), State.updateEntry_queued n f cs s, rfl, ?_, fun c hc => ?_⟩
  · rw [hentry, State.updateEntry_self]
  · rw [hentry, State.updateEntry_self]
    exact joinCauses_mem hc

/-! ## A verdict on an entry (R78 to R82) -/

/-- The blocks that an offer or a verdict never touches stay. -/
def State.restStays (s t : State) : Prop :=
  t.pending = s.pending ∧ t.mem = s.mem ∧ t.link = s.link ∧ t.trips = s.trips ∧ t.msgs = s.msgs ∧
    t.emerg = s.emerg ∧ t.power = s.power ∧ s.linesStay t

/-- One entry has moved to a state, with its rewrite queued, and the rest of the table stays. -/
def State.entryMoved (s t : State) (n : Fin 16) (st : OfferState) (forced late : Bool) : Prop :=
  s.restStays t ∧ t.page = s.page ∧ (∀ k, k ≠ n → t.offers.entry k = s.offers.entry k) ∧
    t.offers.entry n = { s.offers.entry n with
      state := st, timer := none, forced := forced, late := late, seq := (s.offers.entry n).seq + 1#8,
      causes := (t.offers.entry n).causes } ∧
    .offerChange ∈ (t.offers.entry n).causes ∧ t.path.queued (.offerRewrite n) = true

/-- The award of a job is handed back by a bid with the code RETURN. -/
def State.handedBack (s t : State) (job : DWord) : Prop :=
  s.restStays t ∧ t.page = s.page ∧ t.offers = s.offers ∧ t.path = s.path ∧ t.status = s.status ∧ ⟨job, .return, 0⟩ ∈ t.sched.bids

theorem State.updateEntry_moves {s : State} {n : Fin 16} {f : OfferEntry → OfferEntry} {st : OfferState} {forced late : Bool}
    (hf : f (s.offers.entry n) = { s.offers.entry n with state := st, timer := none, forced := forced, late := late }) :
    s.entryMoved (s.updateEntry n f [.offerChange]) n st forced late := by
  refine ⟨⟨rfl, rfl, rfl, rfl, rfl, rfl, rfl, rfl, rfl, rfl, rfl⟩, rfl, fun k hk => State.updateEntry_other hk f _ s, ?_, ?_,
    State.updateEntry_queued n f _ s⟩
  · rw [State.updateEntry_self, hf]
  · rw [State.updateEntry_self]
    exact joinCauses_mem (by simp)

/-- A move is the same in two states that agree outside the status, the transmitter and the scheduler. -/
theorem State.entryMoved_of_same {s t u : State} {n : Fin 16} {st : OfferState} {forced late : Bool} (h : s.entryMoved t n st forced late)
    (hrest : t.restStays u) (hpage : u.page = t.page) (hoffers : u.offers = t.offers) (hpath : u.path = t.path) :
    s.entryMoved u n st forced late := by
  obtain ⟨⟨hpending, hmem, hlink, htrips, hmsgs, hemerg, hpower, hemsw, hign, hattn, hwake⟩, hrow⟩ := h
  obtain ⟨hpending', hmem', hlink', htrips', hmsgs', hemerg', hpower', hemsw', hign', hattn', hwake'⟩ := hrest
  refine ⟨⟨hpending'.trans hpending, hmem'.trans hmem, hlink'.trans hlink, htrips'.trans htrips, hmsgs'.trans hmsgs,
    hemerg'.trans hemerg, hpower'.trans hpower, hemsw'.trans hemsw, hign'.trans hign, hattn'.trans hattn, hwake'.trans hwake⟩, ?_⟩
  rw [hpage, hoffers, hpath]
  exact hrow

theorem State.becameAwarded_rest (s : State) : s.restStays s.becameAwarded := by
  simp [State.restStays, State.linesStay]

theorem State.leftAwarded_rest (s : State) : s.restStays s.leftAwarded := by
  simp [State.restStays, State.linesStay]

theorem State.removeBid_rest (job : DWord) (s : State) : s.restStays (s.removeBid job) := by
  simp [State.restStays, State.linesStay]

theorem State.becameAwarded_status (s : State) :
    s.becameAwarded.status = { s.status with status := if s.status.status = .free then .assigned else s.status.status } := by
  unfold State.becameAwarded
  by_cases h : s.status.status = .free
  · rw [if_pos (by simp [h]), if_pos h, State.setStatus_status]
  · rw [if_neg (by simp [h]), if_neg h]

/-- An AWARD moves the entry, and the Status Unit is told (R5). -/
theorem State.awardMoves {s : State} {n : Fin 16} {f : OfferEntry → OfferEntry} {forced late : Bool}
    (hf : f (s.offers.entry n) = { s.offers.entry n with state := .awarded, timer := none, forced := forced, late := late }) :
    let t := State.becameAwarded (s.updateEntry n f [.offerChange])
    s.entryMoved t n .awarded forced late ∧
      t.status = { s.status with status := if s.status.status = .free then .assigned else s.status.status } :=
  ⟨State.entryMoved_of_same (State.updateEntry_moves hf) (State.becameAwarded_rest _) (by simp) (by simp) (by simp),
    State.becameAwarded_status _⟩

theorem State.addBid_handedBack (job : DWord) (s : State) : s.handedBack (s.addBid job .return) job := by
  refine ⟨?_, by simp, by simp, by simp, by simp, State.addBid_mem _ _ _⟩
  simp [State.restStays, State.linesStay]

/-! ## An AWARD (R78 to R80) -/

theorem OfferEngine.otherClaims_iff (t : OfferEngine) (n : Fin 16) :
    t.otherClaims n = false ↔ ∀ k, k ≠ n → (t.stateOf k).claims = false := by
  simp [OfferEngine.otherClaims, mem_allEntries]

theorem OfferEngine.anyClaims_iff (t : OfferEngine) : t.anyClaims = false ↔ ∀ k, (t.stateOf k).claims = false := by
  simp [OfferEngine.anyClaims, mem_allEntries]

theorem State.eligible_iff (o : Option (Fin 16)) (s : State) :
    s.eligible o = true ↔ (∀ k, o ≠ some k → (s.offers.stateOf k).claims = false) ∧ s.emerg.state = .clear ∧
      (s.status.status = .free ∨ s.status.status = .hired) := by
  cases o with
  | some n =>
    simp only [State.eligible, Bool.and_eq_true, Bool.or_eq_true, Bool.not_eq_true', beq_iff_eq, OfferEngine.otherClaims_iff, and_assoc, ne_eq,
      Option.some.injEq, eq_comm (a := n)]
  | none =>
    simp only [State.eligible, Bool.and_eq_true, Bool.or_eq_true, Bool.not_eq_true', beq_iff_eq, OfferEngine.anyClaims_iff, and_assoc, ne_eq,
      reduceCtorEq, not_false_eq_true, true_imp_iff]

theorem State.takeAward_none {s : State} {b : OfferBody} (hj : b.job ≠ 0#32) (hl : b.text.length ≤ 64)
    (hf : s.offers.find b.job = none) :
    s.takeAward b = if s.eligible none then s.awardNoEntry b else s.addBid b.job .return := by
  unfold State.takeAward
  rw [if_neg (not_or.2 ⟨hj, Nat.not_lt.2 hl⟩), hf]

/-- What an AWARD for a job with an entry makes, by the entry's state. -/
theorem State.takeAward_some {s : State} {b : OfferBody} {n : Fin 16} (hj : b.job ≠ 0#32) (hl : b.text.length ≤ 64)
    (hf : s.offers.find b.job = some n) :
    (s.offers.stateOf n = .bidding →
      s.takeAward b = State.becameAwarded (s.updateEntry n (OfferEntry.become .awarded) [.offerChange])) ∧
    (s.offers.stateOf n = .awarded → s.takeAward b = s) ∧
    (s.offers.stateOf n = .live → s.takeAward b = if s.eligible (some n) then
        State.becameAwarded (s.updateEntry n (fun e => { e.become .awarded with forced := true }) [.offerChange])
      else s.addBid b.job .return) ∧
    (s.offers.stateOf n = .noAward → s.takeAward b = if s.eligible (some n) then
        State.becameAwarded (s.updateEntry n (fun e => { e.become .awarded with late := true }) [.offerChange])
      else s.addBid b.job .return) ∧
    (s.offers.stateOf n = .declined ∨ s.offers.stateOf n = .lapsed ∨ s.offers.stateOf n = .lost ∨ s.offers.stateOf n = .withdrawn →
      s.takeAward b = s.addBid b.job .return) := by
  unfold State.takeAward
  rw [if_neg (not_or.2 ⟨hj, Nat.not_lt.2 hl⟩), hf]
  dsimp only
  cases s.offers.stateOf n <;> simp

/-- An AWARD for a job with no entry takes a new one, of which it is the CAB offer. -/
theorem State.awardNoEntry_placed {s : State} {b : OfferBody} {n : Fin 16} (hr : s.offers.room = some n) :
    let t := s.awardNoEntry b
    s.restStays t ∧ t.page = s.page ∧ (∀ k, k ≠ n → t.offers.entry k = s.offers.entry k) ∧
      t.status = { s.status with status := if s.status.status = .free then .assigned else s.status.status } ∧
      t.offers.order = s.offers.order.erase n ++ [n] ∧
      t.offers.entry n = { s.offers.entry n with
        state := .awarded, seq := (s.offers.entry n).seq + 1#8, job := b.job, dest := 1#8, mask := 0#8, zone := b.zone,
        received := s.link.clock, expires := 0#32, fare := if b.farePresent.getLsbD 0 then some b.fare else none, text := b.text,
        forced := true, late := false, response := 0#16, result := ⟨0#8, 0#8, .none⟩, timer := none,
        causes := (t.offers.entry n).causes } ∧
      .offerChange ∈ (t.offers.entry n).causes ∧ t.path.queued (.offerRewrite n) = true := by
  intro t
  have ht : t = State.becameAwarded
      (s.placeEntry n (OfferEntry.filled .awarded destCab 0#8 b s.link.clock 0#32 true none) [.offerChange]) := by
    show s.awardNoEntry b = _
    rw [State.awardNoEntry, hr]
  obtain ⟨hframe, hothers, hqueued, horder, hentry, hcauses⟩ :=
    s.placeEntry_spec n (OfferEntry.filled .awarded destCab 0#8 b s.link.clock 0#32 true none) [.offerChange]
  generalize s.placeEntry n (OfferEntry.filled .awarded destCab 0#8 b s.link.clock 0#32 true none) [.offerChange] = x at *
  rw [ht]
  have hrest := x.becameAwarded_rest
  have hstatus := x.becameAwarded_status
  simp only [State.becameAwarded_frame]
  refine ⟨?_, ?_, hothers, ?_, horder, hentry, hcauses _ (by simp), hqueued⟩
  · generalize x.becameAwarded = u at hrest
    rw [hframe] at hrest
    exact hrest
  · rw [hframe]
  · rw [hstatus, hframe]

/-! ## The obligation -/

theorem State.takeLost_find {s : State} {job : DWord} {n : Fin 16} (hf : s.offers.find job = some n) :
    s.takeLost job = if s.offers.stateOf n = .live ∨ s.offers.stateOf n = .bidding then
      s.updateEntry n (OfferEntry.become .lost) [.offerChange] else s := by
  rw [State.takeLost, hf]
  simp

/-- What a WITHDRAW makes of an entry that is LIVE, BIDDING or AWARDED (R82). -/
theorem State.takeWithdraw_find {s : State} {job : DWord} {n : Fin 16} (hf : s.offers.find job = some n) :
    s.takeWithdraw job =
      if s.offers.stateOf n = .live ∨ s.offers.stateOf n = .bidding ∨ s.offers.stateOf n = .awarded then
        if s.offers.stateOf n = .awarded then
          (State.removeBid job (s.updateEntry n (OfferEntry.become .withdrawn) [.offerChange])).leftAwarded
        else State.removeBid job (s.updateEntry n (OfferEntry.become .withdrawn) [.offerChange])
      else s := by
  rw [State.takeWithdraw, hf]
  simp [OfferState.claims]

/-- A WITHDRAW moves the entry, removes the bid and tells the Status Unit of a job that was awarded. -/
theorem State.takeWithdraw_moves {s : State} {job : DWord} {n : Fin 16} (hf : s.offers.find job = some n)
    (hst : s.offers.stateOf n = .live ∨ s.offers.stateOf n = .bidding ∨ s.offers.stateOf n = .awarded) :
    let t := s.takeWithdraw job
    s.entryMoved t n .withdrawn (s.offers.entry n).forced (s.offers.entry n).late ∧ (∀ b ∈ t.sched.bids, b.job ≠ job) ∧
      t.status = { s.status with
        status := if s.offers.stateOf n = .awarded ∧ s.status.status = .assigned then .free else s.status.status } := by
  intro t
  have ht : t = _ := (State.takeWithdraw_find hf).trans (if_pos hst)
  have hmoved : s.entryMoved (s.updateEntry n (OfferEntry.become .withdrawn) [.offerChange]) n .withdrawn (s.offers.entry n).forced
      (s.offers.entry n).late := State.updateEntry_moves rfl
  have hremoved := State.entryMoved_of_same hmoved (State.removeBid_rest job _) (by simp) (by simp) (by simp)
  have hbids : ∀ x : State, ∀ b ∈ (x.removeBid job).sched.bids, b.job ≠ job := by
    intro x b hb
    have hdrop : (x.removeBid job).sched.bids = x.sched.bids.filter (fun b => b.job != job) := Scheduler.dropBid_bids x.sched job
    rw [hdrop] at hb
    simpa using (List.mem_filter.1 hb).2
  rw [ht]
  by_cases hawarded : s.offers.stateOf n = .awarded
  · rw [if_pos hawarded]
    refine ⟨State.entryMoved_of_same hremoved (State.leftAwarded_rest _) (by simp) (by simp) (by simp), ?_, ?_⟩
    · simp only [State.leftAwarded_fields]
      exact hbids _
    · rw [State.leftAwarded_status]
      simp only [State.removeBid_frame, hawarded, true_and]
      rfl
  · rw [if_neg hawarded]
    refine ⟨hremoved, hbids _, ?_⟩
    simp only [State.removeBid_frame, hawarded, false_and, if_false]
    rfl

/-- Settles O59: one frame after another. -/
theorem offersAndVerdictsChangeTheTable : Obligations.OffersAndVerdictsChangeTheTable := by
  intro s h rest others moved assigned returned eligible toCab
  have helig : ∀ o, s.eligible o = true ↔ eligible o := fun o => s.eligible_iff o
  refine ⟨fun b hh => ?_, fun n hroom => OfferEngine.room_cases hroom, fun b hh => ?_, fun job hh => ?_, fun job hh => ?_⟩
  · have hexec : exec (.offer h b) s = .next (s.takeOffer (takenHeader h) b) := exec_heard hh
    intro enters
    have henters : s.entersOffer (takenHeader h) b = true ↔ enters := s.entersOffer_iff h b
    refine ⟨fun hno => ?_, fun hin hroom => ?_, fun hin n hroom => ?_⟩
    · rw [hexec, State.takeOffer, if_neg fun hc => hno (henters.1 hc)]
    · rw [hexec, State.takeOffer, if_pos (henters.2 hin), hroom]
      rfl
    · obtain ⟨hdest, hmask⟩ := takenHeader_dest h
      rw [State.takeOffer, if_pos (henters.2 hin), hroom] at hexec
      obtain ⟨hframe, hothers, hqueued, horder, hentry, hcauses⟩ := s.placeEntry_spec n
        (OfferEntry.filled .live (takenHeader h).dest (takenHeader h).mask b s.link.clock (s.link.clock + b.lifetime.setWidth 32) false
          (some b.lifetime.toNat)) [.offerNew]
      refine ⟨_, hexec, hframe, hothers, hqueued, horder, ?_, hcauses _ (by simp)⟩
      rw [← hdest, ← hmask]
      exact hentry
  · have hexec : exec (.award h b) s = .next (s.takeAward b) := exec_heard hh
    refine ⟨fun hbad => ?_, fun hj hl => ⟨s.takeAward b, hexec, fun n hf => ?_, fun hf hno => ?_, fun hf hin hroom => ?_, fun n hf hin hroom => ?_⟩⟩
    · rw [hexec, State.takeAward, if_pos hbad]
    · obtain ⟨hbidding, hawarded, hlive, hnoAward, hover⟩ := State.takeAward_some hj hl hf
      refine ⟨fun hst => ?_, hawarded, fun hst hin => ?_, fun hst hin => ?_, fun hst hno => ?_, fun hst => ?_⟩
      · rw [hbidding hst]
        exact State.awardMoves rfl
      · rw [hlive hst, if_pos ((helig _).2 hin)]
        exact State.awardMoves rfl
      · rw [hnoAward hst, if_pos ((helig _).2 hin)]
        exact State.awardMoves rfl
      · have hback : s.takeAward b = s.addBid b.job .return := by
          rcases hst with hst | hst
          · rw [hlive hst, if_neg fun hc => hno ((helig _).1 hc)]
          · rw [hnoAward hst, if_neg fun hc => hno ((helig _).1 hc)]
        rw [hback]
        exact State.addBid_handedBack b.job s
      · rw [hover hst]
        exact State.addBid_handedBack b.job s
    · rw [State.takeAward_none hj hl hf, if_neg fun hc => hno ((helig _).1 hc)]
      exact State.addBid_handedBack b.job s
    · have hback : s.takeAward b = State.addBid b.job .return (s.count .offersMissed) := by
        rw [State.takeAward_none hj hl hf, if_pos ((helig _).2 hin), State.awardNoEntry, hroom]
      obtain ⟨hrest, hpage, hoffers, hpath, hstatus, hbid⟩ := State.addBid_handedBack b.job (s.count .offersMissed)
      rw [hback]
      exact ⟨hbid, hoffers, hstatus, hrest, hpage⟩
    · rw [State.takeAward_none hj hl hf, if_pos ((helig _).2 hin)]
      exact State.awardNoEntry_placed hroom
  · have hexec : exec (.lost h job) s = .next (s.takeLost job) := exec_heard hh
    refine ⟨fun n hf hst => ?_, fun hno => ?_⟩
    · rw [State.takeLost_find hf, if_pos hst] at hexec
      exact ⟨_, hexec, rfl, rfl, State.updateEntry_moves rfl⟩
    · rw [hexec]
      cases hf : s.offers.find job with
      | none => rw [State.takeLost, hf]
      | some n =>
        obtain ⟨hlive, hbidding⟩ := hno n hf
        rw [State.takeLost_find hf, if_neg (not_or.2 ⟨hlive, hbidding⟩)]
  · have hexec : exec (.withdraw h job) s = .next (s.takeWithdraw job) := exec_heard hh
    refine ⟨fun n hf hst => ⟨_, hexec, State.takeWithdraw_moves hf hst⟩, fun hno => ?_⟩
    rw [hexec]
    cases hf : s.offers.find job with
    | none => rw [State.takeWithdraw, hf]
    | some n =>
      obtain ⟨hlive, hbidding, hawarded⟩ := hno n hf
      rw [State.takeWithdraw_find hf, if_neg (not_or.2 ⟨hlive, not_or.2 ⟨hbidding, hawarded⟩⟩)]

end Sys2Proof.Machine
end

section
/-! PROOFS. ACKs of texts, the answers to an alert, and WAKE (R134, R155, R157, R160, R175 to R177). -/

namespace Sys2Proof.Machine

/-! ## What a frame may change -/

/-- Only the messages, the ACK list, the transmitter, the page and the queue of the memory path have changed. -/
def State.onlyMessages (s t : State) : Prop :=
  t = { s with msgs := t.msgs, path := t.path, sched := t.sched, radio := t.radio, page := t.page } ∧
    t.path.buffer = s.path.buffer ∧ t.path.under = s.path.under

/-- Only the Emergency Unit and the ALERT and STATUS places have changed, and a rewrite of the record is to come. -/
def State.onlyEmergency (s t : State) : Prop :=
  t.pending = s.pending ∧ t.mem = s.mem ∧ t.page = s.page ∧ t.link = s.link ∧ t.offers = s.offers ∧
    t.trips = s.trips ∧ t.msgs = s.msgs ∧ t.status = s.status ∧ t.power = s.power ∧ t.radio = s.radio ∧ s.linesStay t ∧
    t.sched.alertPlace = none ∧ (s.path.busyWith .emergencyRewrite = false → ⟨.emergencyRewrite, 0⟩ ∈ t.path.queue)

/-! ## An ACK of the message in flight (R134) -/

theorem State.ackText_tag {s : State} {m : OutMessage} (hm : s.msgs.flight = .flight m) :
    s.ackText m.tag = s.completeOutbound (m.completion .delivered) := by
  rw [State.ackText, hm]
  exact if_pos rfl

theorem State.ackText_other {s : State} {tag : Word} (h : ∀ m, s.msgs.flight = .flight m → m.tag ≠ tag) : s.ackText tag = s := by
  cases hf : s.msgs.flight with
  | flight m =>
    rw [State.ackText, hf]
    exact if_neg (h m hf)
  | _ => rw [State.ackText, hf]

/-- The message in flight completes, and its completion is queued (R136). -/
theorem State.completeOutbound_spec (c : OutCompletion) (s : State) :
    let t := s.completeOutbound c
    s.onlyMessages t ∧ t.page = s.page ∧ t.msgs = { s.msgs with flight := .completing c } ∧
      t.path = { s.path with queue := s.path.queue ++ [⟨.outboundCompletion, 0⟩] } := by
  intro t
  have hpath : t.path = { s.path with queue := s.path.queue ++ [⟨.outboundCompletion, 0⟩] } := by
    show (State.settleLong _).path = _
    simp only [State.settleLong_frame]
    rfl
  have hmsgs : t.msgs = { s.msgs with flight := .completing c } := by
    show (State.settleLong _).msgs = _
    simp only [State.settleLong_frame]
    rfl
  have hpage : t.page = s.page := by
    show (State.settleLong _).page = _
    simp only [State.settleLong_frame]
    rfl
  refine ⟨⟨?_, by rw [hpath], by rw [hpath]⟩, hpage, hmsgs, hpath⟩
  obtain ⟨sc, ra, heq⟩ := State.settleLong_eq
    (State.requestWrite .outboundCompletion { s with msgs := { s.msgs with flight := .completing c }, radio := s.radio.leaveText })
  have ht : t = State.settleLong
    (State.requestWrite .outboundCompletion { s with msgs := { s.msgs with flight := .completing c }, radio := s.radio.leaveText }) := rfl
  rw [← ht] at heq
  generalize t = u at heq ⊢
  rw [heq]
  rfl

/-! ## The answers to an alert (R155, R157, R160) -/

theorem State.rewriteRecord_owed (s : State) :
    s.rewriteRecord.emerg.owed = (s.emerg.owed || (!s.path.queued .emergencyRewrite && s.path.underWay .emergencyRewrite)) := by
  unfold State.rewriteRecord
  cases hq : s.path.queued .emergencyRewrite <;> cases hu : s.path.underWay .emergencyRewrite <;> simp [State.requestWrite]

/-- An answer to the alert: the ALERT place is emptied, the Emergency Unit changes, and the rewrite that carries the change is asked for. -/
theorem State.answersAlert (s : State) (u : Scheduler) (e : EmergencyUnit) (hplace : u.alertPlace = none) (howed : e.owed = s.emerg.owed) :
    let t := State.rewriteWithCause { s with sched := u, emerg := e }
    s.onlyEmergency t ∧ t.sched = u ∧
      t.emerg = { e with
        causeWaits := true
        owed := s.emerg.owed || (!s.path.queued .emergencyRewrite && s.path.underWay .emergencyRewrite) } := by
  intro t
  rw [← howed]
  obtain ⟨hframe, hqueue⟩ := State.rewriteRecord_spec { s with sched := u, emerg := { e with causeWaits := true } }
  have hbit := State.rewriteRecord_owed { s with sched := u, emerg := { e with causeWaits := true } }
  have ht : t = State.rewriteRecord { s with sched := u, emerg := { e with causeWaits := true } } := rfl
  rw [← ht] at hframe hqueue hbit
  generalize t = x at *
  refine ⟨?_, by rw [hframe], by rw [← hbit, hframe]⟩
  have hwaits : s.path.busyWith .emergencyRewrite = false → ⟨.emergencyRewrite, 0⟩ ∈ x.path.queue := hqueue
  rw [State.onlyEmergency]
  exact ⟨by rw [hframe], by rw [hframe], by rw [hframe], by rw [hframe], by rw [hframe], by rw [hframe], by rw [hframe], by rw [hframe],
    by rw [hframe], by rw [hframe], by rw [hframe]; exact ⟨rfl, rfl, rfl, rfl⟩, by rw [hframe]; exact hplace, hwaits⟩

theorem State.takeAlertAck_spec {s : State} (hst : s.emerg.state = .alerting) :
    let t := s.takeAlertAck s.emerg.number
    s.onlyEmergency t ∧ t.sched.statusPlace = s.sched.statusPlace ∧
      t.emerg = { s.emerg with
        state := .acked, repeatLeft := some 10, ackedAt := s.link.clock, causeWaits := true
        owed := s.emerg.owed || (!s.path.queued .emergencyRewrite && s.path.underWay .emergencyRewrite) } := by
  intro t
  obtain ⟨honly, hsched, hemerg⟩ := s.answersAlert s.emptyAlert.sched
    { s.emerg with state := .acked, repeatLeft := some repeatTime, ackedAt := s.link.clock } rfl rfl
  have ht : t = State.rewriteWithCause { s with
      sched := s.emptyAlert.sched, emerg := { s.emerg with state := .acked, repeatLeft := some repeatTime, ackedAt := s.link.clock } } :=
    if_pos (by simp [hst])
  rw [ht]
  exact ⟨honly, by rw [hsched]; rfl, hemerg⟩

theorem State.takeAlertAck_other {s : State} {n : Word} (h : s.emerg.state ≠ .alerting ∨ n ≠ s.emerg.number) : s.takeAlertAck n = s := by
  refine if_neg ?_
  rw [Bool.and_eq_true, beq_iff_eq, beq_iff_eq]
  rintro ⟨hst, hn⟩
  exact h.elim (fun h => h hst) fun h => h hn

theorem EmergencyState.raised_iff (e : EmergencyState) : e.raised = true ↔ e = .alerting ∨ e = .acked := by
  cases e <;> simp [EmergencyState.raised]

/-- Handing a change on touches the STATUS place and the lamps only. -/
theorem State.handOn_onlyEmergency {s t : State} (h : s.onlyEmergency t) : s.onlyEmergency t.handOn := by
  rw [State.handOn_eq]
  exact h

theorem State.takeAlertCancel_spec {s : State} (hr : s.ready = true) (hst : s.emerg.state = .alerting ∨ s.emerg.state = .acked) :
    let t := s.takeAlertCancel s.emerg.number
    s.onlyEmergency t ∧ t.sched.alertAttempts = 0 ∧ t.sched.statusPlace = some t.statusReport ∧ t.lampLaw ∧
      t.emerg = { s.emerg with
        state := .clear, repeatLeft := none, cancelledAt := s.link.clock, guardHeld := true, causeWaits := true
        owed := s.emerg.owed || (!s.path.queued .emergencyRewrite && s.path.underWay .emergencyRewrite) } := by
  intro t
  obtain ⟨honly, hsched, hemerg⟩ := s.answersAlert { s.emptyAlert.sched with alertAttempts := 0 }
    { s.emerg with state := .clear, repeatLeft := none, cancelledAt := s.link.clock, guardHeld := true } rfl rfl
  have ht : t = State.handOn (State.rewriteWithCause { s with
      sched := { s.emptyAlert.sched with alertAttempts := 0 },
      emerg := { s.emerg with state := .clear, repeatLeft := none, cancelledAt := s.link.clock, guardHeld := true } }) :=
    if_pos (by rw [Bool.and_eq_true, beq_iff_eq, EmergencyState.raised_iff]; exact ⟨hst, rfl⟩)
  generalize State.rewriteWithCause { s with
      sched := { s.emptyAlert.sched with alertAttempts := 0 },
      emerg := { s.emerg with state := .clear, repeatLeft := none, cancelledAt := s.link.clock, guardHeld := true } } = x at *
  have hpower : x.power = s.power := by
    obtain ⟨-, -, -, -, -, -, -, -, hpower, -⟩ := honly
    exact hpower
  obtain ⟨hplace, hlamps⟩ := State.handOn_handsOn (s := x) (t := x) rfl rfl
  rw [if_pos (by rw [hpower]; exact ((State.ready_iff s).1 hr).2)] at hplace
  rw [ht]
  exact ⟨State.handOn_onlyEmergency honly, by rw [hplace, hsched], by rw [hplace], hlamps, by simp [hemerg]⟩

theorem State.takeAlertCancel_other {s : State} {n : Word}
    (h : (s.emerg.state ≠ .alerting ∧ s.emerg.state ≠ .acked) ∨ n ≠ s.emerg.number) : s.takeAlertCancel n = s := by
  refine if_neg ?_
  rw [Bool.and_eq_true, beq_iff_eq, EmergencyState.raised_iff]
  rintro ⟨hst, hn⟩
  exact h.elim (fun h => hst.elim h.1 h.2) fun h => h hn

/-! ## WAKE (R175 to R177) -/

theorem State.wakeMatches_iff (cabs : List Word) (s : State) :
    s.wakeMatches cabs = true ↔ cabs.length = 6 ∧ ∀ c ∈ cabs, s.power.image.map (·.cab) = some c := by
  simp only [State.wakeMatches, Bool.and_eq_true, beq_iff_eq, List.all_eq_true, eq_comm (b := s.power.image.map (·.cab))]

theorem WakeSource.wakesIn_radio {p : PowerState} : WakeSource.radio.wakesIn p = true ↔ p = .standby := by
  cases p <;> simp [WakeSource.wakesIn]

/-- The end of STANDBY at a WAKE. -/
theorem State.wakeEvent_radio {s : State} (h : s.power.power = .standby) :
    let t := s.wakeEvent .radio
    t.power = { s.power with power := .active, park := false, reason := { s.power.reason with radio := true } } ∧ t.pins.wake = true ∧
      s.raises t 0x100#13 ∧ t.lampLaw ∧ t.mem = s.mem ∧ t.path = s.path ∧ t.link = s.link ∧ t.offers = s.offers ∧
      t.trips = s.trips ∧ t.msgs = s.msgs ∧ t.emerg = s.emerg ∧ t.status = s.status := by
  intro t
  have hwakes : WakeSource.radio.wakesIn s.power.power = true := WakeSource.wakesIn_radio.2 h
  obtain ⟨hpower, hpin, -⟩ := State.wakeEvent_spec (w := .radio) hwakes
  obtain ⟨-, hlamps, -, hawake, -⟩ := s.enterActive_spec
  obtain ⟨-, hpage, hlink, -, hmsgs⟩ := hawake (by rw [h]; decide)
  have hattn : s.enterActive.pins.attn = s.pins.attn := by
    rw [State.enterActive_awake (by rw [h]; decide), State.handOn_eq]
  generalize hx : ({ s.enterActive with
    power := { s.enterActive.power with reason := s.enterActive.power.reason.add .radio },
    pins := { s.enterActive.pins with wake := true } } : State) = x
  have ht : t = x.raise .power := by
    rw [← hx]
    exact if_pos hwakes
  have hraises : s.raises t 0x100#13 := by
    rw [ht]
    exact State.raises_of (State.raise_raises .power x) (by rw [← hx]; exact hpage) (by rw [← hx]; exact hattn)
  refine ⟨hpower, hpin, hraises, ?_, by simp [t], by simp [t], ?_, by simp [t], by simp [t], ?_, by simp [t], by simp [t]⟩
  · rw [ht, State.raise_eq, ← hx]
    obtain ⟨hhire, hcall, halarm⟩ := hlamps
    exact ⟨hhire, hcall, halarm⟩
  · rw [ht, State.raise_eq, ← hx]
    exact hlink
  · rw [ht, State.raise_eq, ← hx]
    exact hmsgs

theorem State.takeWake_spec {s : State} {cabs : List Word} (hours : s.wakeMatches cabs = true) : s.takeWake cabs = s.wakeEvent .radio :=
  if_pos hours

theorem State.takeWake_other {s : State} {cabs : List Word} (h : s.wakeMatches cabs = false ∨ s.power.power ≠ .standby) :
    s.takeWake cabs = s := by
  unfold State.takeWake
  by_cases hours : s.wakeMatches cabs = true
  · have hpower : s.power.power ≠ .standby := h.resolve_left (by simp [hours])
    rw [if_pos hours]
    exact if_neg fun hc => hpower (WakeSource.wakesIn_radio.1 hc)
  · rw [if_neg hours]

end Sys2Proof.Machine
end

section
/-! PROOFS. Fragments of inbound messages, and what a frame to the cab does (O60). -/

namespace Sys2Proof.Machine

/-! ## The buffers -/

theorem MessageEngine.setBuffer_buffer (m : MessageEngine) (k j : BufferId) (v : Buffer) :
    (m.setBuffer k v).buffer j = if j = k then v else m.buffer j := by
  cases k <;> cases j <;> rfl

/-- A buffer leaves the rest of the engine as it is. -/
theorem MessageEngine.setBuffer_rest (m : MessageEngine) (k : BufferId) (v : Buffer) :
    (m.setBuffer k v).delivered = m.delivered ∧ (m.setBuffer k v).inbound = m.inbound ∧ (m.setBuffer k v).deposit = m.deposit ∧
      (m.setBuffer k v).stamp = m.stamp := by
  cases k <;> exact ⟨rfl, rfl, rfl, rfl⟩

/-! ## The judging of a message (R140 to R142) -/

/-- A message was judged: acknowledged again, deposited or dropped. -/
def State.judged (s t : State) (m : InMessage) : Prop :=
  (m.tag ∈ s.msgs.delivered → t.msgs.deposit = none ∧ t.page = s.page ∧ t.path = s.path ∧
    (m.ackRequired = true → m.truncated = false → m.tag ∈ t.sched.acks) ∧
    (¬(m.ackRequired = true ∧ m.truncated = false) → t.sched = s.sched)) ∧
  (m.tag ∉ s.msgs.delivered → t.sched = s.sched ∧
    (∀ plan, s.msgs.inbound.plan m.bytes = some plan → t.msgs.deposit = some ⟨m, plan⟩ ∧ t.page = s.page ∧
      t.path = { s.path with queue := s.path.queue ++ [⟨.inboundDeposit, 0⟩] }) ∧
    (s.msgs.inbound.plan m.bytes = none → t.msgs.deposit = none ∧ t.path = s.path ∧
      t.page.counters.messagesDropped = satAdd s.page.counters.messagesDropped 1#16))

/-- The message that closes a buffer of a state in which nothing else is to be judged is judged at once, and its buffer is empty. -/
theorem State.closes_judged {s x : State} {k : BufferId} {m : InMessage} {stamp : Nat}
    (hx : x = { s with msgs := { s.msgs.setBuffer k (.closed m) with stamp := stamp } }) (hd : s.msgs.deposit = none)
    (ho : ∀ j, j ≠ k → (s.msgs.buffer j).message? = none) :
    let t := x.judgeAll
    s.onlyMessages t ∧ s.judged t m ∧ t.msgs.buffer k = .empty ∧ (∀ j, j ≠ k → t.msgs.buffer j = s.msgs.buffer j) ∧
      t.msgs.stamp = stamp := by
  intro t
  have hbuffer : ∀ j, x.msgs.buffer j = if j = k then .closed m else s.msgs.buffer j := fun j => by
    rw [← MessageEngine.setBuffer_buffer, hx]
    cases j <;> rfl
  obtain ⟨hdelivered, hinbound, hdeposit, -⟩ := s.msgs.setBuffer_rest k (.closed m)
  have hxd : x.msgs.deposit = none := by rw [hx]; exact hdeposit.trans hd
  have hone : t = x.judge k m := State.judgeAll_one (by rw [hbuffer, if_pos rfl]) hxd
    fun j hj => by rw [hbuffer, if_neg hj]; exact ho j hj
  obtain ⟨hframe, hmsgs, hbuf, hunder, hrepeat, hnew⟩ := State.judge_spec hxd hone.symm
  have hxdelivered : x.msgs.delivered = s.msgs.delivered := by rw [hx]; exact hdelivered
  have hxinbound : x.msgs.inbound = s.msgs.inbound := by rw [hx]; exact hinbound
  have hxrest : x.page = s.page ∧ x.path = s.path ∧ x.sched = s.sched := by rw [hx]; exact ⟨rfl, rfl, rfl⟩
  obtain ⟨hxpage, hxpath, hxsched⟩ := hxrest
  rw [hxdelivered, hxpage, hxpath, hxsched] at hrepeat
  rw [hxdelivered, hxinbound, hxpage, hxpath, hxsched] at hnew
  have hafter : ∀ j, t.msgs.buffer j = if j = k then .empty else x.msgs.buffer j := fun j => by
    rw [← MessageEngine.setBuffer_buffer, hmsgs]
    cases j <;> rfl
  refine ⟨⟨?_, by rw [hbuf, hxpath], by rw [hunder, hxpath]⟩, ⟨hrepeat, hnew⟩, by rw [hafter, if_pos rfl], fun j hj => ?_, ?_⟩
  · generalize t = u at hframe ⊢
    rw [hframe, hx]
  · rw [hafter, if_neg hj, hbuffer, if_neg hj]
  · rw [hmsgs]
    show (x.msgs.setBuffer k .empty).stamp = stamp
    rw [(x.msgs.setBuffer_rest k .empty).2.2.2, hx]

/-! ## A fragment of an assembly under way (R137) -/

theorem MessageEngine.assemblingTag_some {m : MessageEngine} {k : BufferId} {a : Assembly} {tag : Word} (hk : m.buffer k = .assembling a)
    (ha : a.tag = tag) (ho : ∀ j x, j ≠ k → m.buffer j = .assembling x → x.tag ≠ tag) : m.assemblingTag tag = some (k, a) := by
  unfold MessageEngine.assemblingTag
  cases k with
  | buffer0 =>
    rw [show m.buffer0 = .assembling a from hk]
    cases m.buffer1.assembly? <;> simp [Buffer.assembly?, ha]
  | buffer1 =>
    have hother := ho .buffer0
    rw [show m.buffer1 = .assembling a from hk]
    cases h0 : m.buffer0 with
    | assembling x => simp [Buffer.assembly?, ha, hother x (by decide) h0]
    | _ => simp [Buffer.assembly?, ha]

/-- What a sound fragment of a message that a buffer assembles does. -/
theorem State.takeText_known {s : State} {b : TextBody} {k : BufferId} {a : Assembly}
    (hb : ¬(b.count.toNat ≤ b.index.toNat ∨ b.count.toNat < 1 ∨ 5 < b.count.toNat ∨ 40 < b.text.length))
    (hk : s.msgs.buffer k = .assembling a) (ha : a.tag = b.tag)
    (ho : ∀ j x, j ≠ k → s.msgs.buffer j = .assembling x → x.tag ≠ b.tag) :
    s.takeText b = if a.count = b.count.toNat then s.assemble k (a.take b) else s := by
  rw [State.takeText, if_neg hb, MessageEngine.assemblingTag_some hk ha ho]

theorem State.assemble_incomplete {s : State} {k : BufferId} {a : Assembly} (h : a.complete = false) :
    s.assemble k a = { s with msgs := s.msgs.setBuffer k (.assembling a) } := if_neg (by simp [h])

theorem State.assemble_complete {s : State} {k : BufferId} {a : Assembly} (h : a.complete = true) :
    s.assemble k a = State.judgeAll (s.closeBuffer k a false) := if_pos h

/-! ## A fragment of a new message (R138) -/

/-- A new assembly begins in a buffer. -/
def State.begins (k : BufferId) (b : TextBody) (s : State) : State :=
  State.assemble k (newAssembly b (s.msgs.stamp + 1)) { s with msgs := { s.msgs with stamp := s.msgs.stamp + 1 } }

section
variable {s : State} {b : TextBody}
  (hb : ¬(b.count.toNat ≤ b.index.toNat ∨ b.count.toNat < 1 ∨ 5 < b.count.toNat ∨ 40 < b.text.length))
  (hf : ∀ (k : BufferId) a, s.msgs.buffer k = .assembling a → a.tag ≠ b.tag)
include hb hf

theorem State.takeText_empty {k : BufferId} (hk : s.msgs.bufferFor = some (k, none)) : s.takeText b = s.begins k b := by
  rw [State.takeText, if_neg hb, MessageEngine.assemblingTag_fresh hf, hk]
  rfl

theorem State.takeText_truncates {k : BufferId} {a : Assembly} (hk : s.msgs.bufferFor = some (k, some a)) :
    s.takeText b = (s.truncateFor k a).begins k b := by
  rw [State.takeText, if_neg hb, MessageEngine.assemblingTag_fresh hf, hk]
  rfl

theorem State.takeText_full (hk : s.msgs.bufferFor = none) : s.takeText b = s := by
  rw [State.takeText, if_neg hb, MessageEngine.assemblingTag_fresh hf, hk]

end

/-- A message of several fragments is not complete with its first one. -/
theorem newAssembly_incomplete {b : TextBody} (h2 : 2 ≤ b.count.toNat) (stamp : Nat) : (newAssembly b stamp).complete = false := by
  obtain ⟨i, hi, hne⟩ : ∃ i, i < b.count.toNat ∧ i ≠ b.index.toNat :=
    if h0 : b.index.toNat = 0 then ⟨1, by omega, by omega⟩ else ⟨0, by omega, fun h => h0 h.symm⟩
  rw [Assembly.complete, Bool.eq_false_iff]
  intro hall
  have hmem : none ∈ (newAssembly b stamp).parts := by
    refine List.mem_iff_getElem.2 ⟨i, by simpa [newAssembly] using hi, ?_⟩
    simp [newAssembly, hne.symm]
  exact absurd (List.all_eq_true.1 hall none hmem) (by decide)

theorem State.begins_many {b : TextBody} (h2 : 2 ≤ b.count.toNat) (k : BufferId) (s : State) :
    s.begins k b = { s with msgs := { s.msgs.setBuffer k (.assembling (newAssembly b (s.msgs.stamp + 1))) with
      stamp := s.msgs.stamp + 1 } } := by
  rw [State.begins, State.assemble_incomplete (newAssembly_incomplete h2 _)]
  cases k <;> rfl

/-- The buffer of a new message is the lower-numbered empty one. -/
theorem MessageEngine.bufferFor_empty {m : MessageEngine} {k : BufferId} (hk : m.buffer k = .empty)
    (hfirst : k = .buffer0 ∨ m.buffer0 ≠ .empty) : m.bufferFor = some (k, none) := by
  unfold MessageEngine.bufferFor
  cases k with
  | buffer0 => rw [show m.buffer0 = .empty from hk]
  | buffer1 =>
    have hfull : m.buffer0 ≠ .empty := hfirst.resolve_left (by decide)
    rw [show m.buffer1 = .empty from hk]
    cases h0 : m.buffer0 with
    | empty => exact absurd h0 hfull
    | _ => rfl

theorem MessageEngine.bufferFor_closed {m : MessageEngine} (h : ∀ k, (m.buffer k).message? ≠ none) : m.bufferFor = none := by
  have h0 := h .buffer0
  have h1 := h .buffer1
  unfold MessageEngine.bufferFor
  cases e0 : m.buffer0 <;> cases e1 : m.buffer1 <;> simp_all [MessageEngine.buffer, Buffer.message?]

/-- With no buffer empty the assembly that began earlier is truncated, or the only one (log entry 29). -/
theorem MessageEngine.bufferFor_truncates {m : MessageEngine} {k j : BufferId} {a : Assembly} (hkj : k ≠ j) (hk : m.buffer k = .assembling a)
    (hj : (m.buffer j).message? ≠ none ∨ ∃ x, m.buffer j = .assembling x ∧ a.begun < x.begun) : m.bufferFor = some (k, some a) := by
  obtain ⟨c, hc⟩ | ⟨x, hx, hlt⟩ : (∃ c, m.buffer j = .closed c) ∨ ∃ x, m.buffer j = .assembling x ∧ a.begun < x.begun :=
    hj.imp_left fun h => by
      cases hb : m.buffer j with
      | closed c => exact ⟨c, rfl⟩
      | _ => exact absurd (by rw [hb]; rfl) h
  · cases k <;> cases j
    · exact absurd rfl hkj
    · rw [MessageEngine.bufferFor, show m.buffer0 = _ from hk, show m.buffer1 = _ from hc]
    · rw [MessageEngine.bufferFor, show m.buffer1 = _ from hk, show m.buffer0 = _ from hc]
    · exact absurd rfl hkj
  · cases k <;> cases j
    · exact absurd rfl hkj
    · rw [MessageEngine.bufferFor, show m.buffer0 = _ from hk, show m.buffer1 = _ from hx]
      exact if_pos hlt
    · rw [MessageEngine.bufferFor, show m.buffer1 = _ from hk, show m.buffer0 = _ from hx]
      exact if_neg (by omega)
    · exact absurd rfl hkj

/-- The truncation of an assembly for a new one: its message is judged, or dropped behind a deposit under way. -/
theorem State.truncateFor_spec {s : State} {k j : BufferId} {a : Assembly} (hkj : k ≠ j)
    (hj : s.msgs.deposit = none → (s.msgs.buffer j).message? = none) :
    let t := s.truncateFor k a
    let m := s.truncated a
    s.onlyMessages t ∧ t.msgs.buffer k = .empty ∧ t.msgs.buffer j = s.msgs.buffer j ∧
      (s.msgs.deposit = none → s.judged t m) ∧
      (s.msgs.deposit ≠ none → t.msgs.deposit = s.msgs.deposit ∧ t.path = s.path ∧ t.sched = s.sched ∧
        (m.tag ∈ s.msgs.delivered → t.page = s.page) ∧
        (m.tag ∉ s.msgs.delivered → t.page.counters.messagesDropped = satAdd s.page.counters.messagesDropped 1#16)) := by
  intro t m
  by_cases hd : s.msgs.deposit = none
  · have ho : ∀ i, i ≠ k → (s.msgs.buffer i).message? = none := fun i hi => by
      obtain rfl : i = j := by cases i <;> cases k <;> cases j <;> simp_all
      exact hj hd
    obtain ⟨honly, hjudged, hempty, hothers, -⟩ := State.closes_judged (x := s.closeBuffer k a true) rfl hd ho
    have ht : t = (s.closeBuffer k a true).judgeAll := by
      show s.truncateFor k a = _
      rw [State.truncateFor]
      dsimp only
      rw [hempty]
    rw [ht]
    exact ⟨honly, hempty, hothers j hkj.symm, fun _ => hjudged, fun h => absurd hd h⟩
  · obtain ⟨hframe, hrepeat, hdropped⟩ := State.truncateFor_waits (k := k) (a := a) hd
    have hbuffer : ∀ i, t.msgs.buffer i = if i = k then .empty else s.msgs.buffer i := fun i => by
      rw [← MessageEngine.setBuffer_buffer, show t = _ from hframe]
      cases i <;> rfl
    have hpath : t.path = s.path ∧ t.sched = s.sched ∧ t.msgs.deposit = s.msgs.deposit := by
      rw [show t = _ from hframe]
      exact ⟨rfl, rfl, (s.msgs.setBuffer_rest k .empty).2.2.1⟩
    obtain ⟨hpath, hsched, hdeposit⟩ := hpath
    refine ⟨⟨?_, by rw [hpath], by rw [hpath]⟩, by rw [hbuffer, if_pos rfl], by rw [hbuffer, if_neg hkj.symm], fun h => absurd h hd,
      fun _ => ⟨hdeposit, hpath, hsched, hrepeat, hdropped⟩⟩
    have hpaged : t = { s with
        msgs := { s.msgs.setBuffer k .empty with stamp := s.msgs.stamp + 1 }, page := t.page } := hframe
    generalize t = u at hpaged ⊢
    rw [hpaged]

/-- What the verdict on a message says of a state, it says of every other one with the same deposit, page, path and scheduler. -/
theorem State.judged_of_same {s t u : State} {m : InMessage} (h : s.judged t m) (hdeposit : u.msgs.deposit = t.msgs.deposit)
    (hpage : u.page = t.page) (hpath : u.path = t.path) (hsched : u.sched = t.sched) : s.judged u m := by
  rw [State.judged, hdeposit, hpage, hpath, hsched]
  exact h

/-- The filters look at the link, the power state and the status of a ready part only. -/
theorem State.hears_of_same {s t : State} (hready : t.ready = s.ready) (hlink : t.link = s.link) (hpower : t.power = s.power)
    (hstatus : t.status = s.status) (h : DownHeader) (b : DownBody) : t.hears h b = s.hears h b := by
  simp only [State.hears, State.sitePasses, State.trackedSite, State.destinationPasses, State.classPasses, hready, hlink, hpower, hstatus]

theorem State.truncateFor_hears (k : BufferId) (a : Assembly) (s : State) (h : DownHeader) (b : DownBody) :
    (s.truncateFor k a).hears h b = s.hears h b := by
  refine State.hears_of_same ?_ (by simp) (by simp) (by simp) h b
  rw [Bool.eq_iff_iff, State.ready_iff, State.ready_iff]
  simp

/-- The buffer that the truncation is for is the only one with nothing in it, or the other one is empty as before. -/
theorem truncates_alone {s : State} {j : BufferId} {a : Assembly}
    (hj : (s.msgs.deposit ≠ none ∧ (s.msgs.buffer j).message? ≠ none) ∨ ∃ x, s.msgs.buffer j = .assembling x ∧ a.begun < x.begun) :
    (s.msgs.deposit = none → (s.msgs.buffer j).message? = none) ∧ s.msgs.buffer j ≠ .empty := by
  obtain ⟨hd, hm⟩ | ⟨x, hx, -⟩ := hj
  · exact ⟨fun h => absurd h hd, fun h => hm (by rw [h]; rfl)⟩
  · exact ⟨fun _ => by rw [hx]; rfl, by rw [hx]; exact Buffer.noConfusion⟩

/-! ## The obligation -/

/-- A fragment of an assembly under way: stored, or the last one. -/
theorem State.takeText_stores {s : State} {b : TextBody} {k : BufferId} {a : Assembly} {p : List (Option (List Byte))}
    (hb : ¬(b.count.toNat ≤ b.index.toNat ∨ b.count.toNat < 1 ∨ 5 < b.count.toNat ∨ 40 < b.text.length))
    (hk : s.msgs.buffer k = .assembling a) (ha : a.tag = b.tag)
    (ho : ∀ j x, j ≠ k → s.msgs.buffer j = .assembling x → x.tag ≠ b.tag) (hcount : a.count = b.count.toNat)
    (hp : p = (if (a.parts.getD b.index.toNat none).isSome then a.parts else a.parts.set b.index.toNat (some b.text))) :
    (p.all Option.isSome = false →
      s.takeText b = { s with msgs := s.msgs.setBuffer k (.assembling { a with parts := p, timer := some 10 }) }) ∧
    (p.all Option.isSome = true → s.takeText b = State.judgeAll { s with
      msgs := { s.msgs.setBuffer k (.closed ⟨a.tag, a.urgent, a.ackRequired, false, p, s.link.clock, s.msgs.stamp⟩) with
        stamp := s.msgs.stamp + 1 } }) := by
  subst hp
  have hknown := (State.takeText_known hb hk ha ho).trans (if_pos hcount)
  exact ⟨fun h => hknown.trans (State.assemble_incomplete h), fun h => hknown.trans (State.assemble_complete h)⟩

/-- Settles O60: the fragments of a message, the ACKs, the answers to an alert and WAKE. -/
theorem messagesAlertsAndWakeFramesAct : Obligations.MessagesAlertsAndWakeFramesAct := by
  intro s h messagesOnly emergencyOnly judged owed
  refine ⟨fun b hh => ?_, fun tag hh => ?_, fun n hh => ?_, fun n hh => ?_, fun cabs hh => ?_⟩
  · have hexec : exec (.text h b) s = .next (s.takeText b) := exec_heard hh
    intro bad fresh
    refine ⟨fun hbad => ?_, fun hb hf h2 h0 => ?_, fun hb hf h2 h0 h1 => ?_, fun k a hb hk ha ho => ⟨fun hcount => ?_, fun hcount p hp => ?_⟩,
      fun hb hf hfull => ?_, fun k j a hb hf h2 hkj hk hj => ?_, fun k hb hf h1 hk hfirst => ?_, fun k j a hb hf h1 hkj hk hj => ?_⟩
    · rw [hexec, State.takeText, if_pos hbad]
    · rw [hexec, State.takeText_empty hb hf (MessageEngine.bufferFor_empty (k := .buffer0) h0 (.inl rfl)), State.begins_many h2]
      rfl
    · rw [hexec, State.takeText_empty hb hf (MessageEngine.bufferFor_empty (k := .buffer1) h1 (.inr h0)), State.begins_many h2]
      rfl
    · rw [hexec, State.takeText_known hb hk ha ho, if_neg hcount]
    · obtain ⟨hstored, hlast⟩ := State.takeText_stores hb hk ha ho hcount hp
      refine ⟨fun hmore => by rw [hexec, hstored hmore], fun hall => ?_⟩
      rw [hexec, hlast hall]
      intro m
      refine ⟨fun hd => congrArg Host.Outcome.next (State.judgeAll_waits ?_), fun hd halone => ?_⟩
      · exact fun h => hd ((s.msgs.setBuffer_rest k _).2.2.1.symm.trans h)
      · obtain ⟨honly, hjudged, hempty, hothers, -⟩ := State.closes_judged (k := k) (m := m) (stamp := s.msgs.stamp + 1) rfl hd halone
        exact ⟨_, rfl, honly, hjudged, hempty, hothers⟩
    · rw [hexec, State.takeText_full hb hf (MessageEngine.bufferFor_closed hfull)]
    · intro m
      obtain ⟨hnone, -⟩ := truncates_alone hj
      obtain ⟨⟨hframe, hbuf, hunder⟩, -, hother, hjudged, hdropped⟩ := State.truncateFor_spec (a := a) hkj hnone
      rw [State.takeText_truncates hb hf (MessageEngine.bufferFor_truncates hkj hk (hj.imp_left And.right)), State.begins_many h2] at hexec
      generalize s.truncateFor k a = u at *
      obtain ⟨-, -, hdeposit, -⟩ := u.msgs.setBuffer_rest k (.assembling (newAssembly b (u.msgs.stamp + 1)))
      have hbuffer : ∀ c i, ({ u.msgs.setBuffer k (.assembling c) with stamp := u.msgs.stamp + 1 } : MessageEngine).buffer i =
          if i = k then .assembling c else u.msgs.buffer i := fun c i => by
        rw [← MessageEngine.setBuffer_buffer]
        cases i <;> rfl
      refine ⟨_, hexec, ⟨?_, hbuf, hunder⟩, ?_, ?_, fun hd => ?_, fun hd => ?_⟩
      · rw [hframe]
      · exact (hbuffer _ j).trans ((if_neg hkj.symm).trans hother)
      · exact (hbuffer _ k).trans (if_pos rfl)
      · exact State.judged_of_same (hjudged hd) hdeposit rfl rfl rfl
      · obtain ⟨hkeeps, hpath, hsched, hpage⟩ := hdropped hd
        exact ⟨hdeposit.trans hkeeps, hpath, hsched, hpage⟩
    · rw [hexec, State.takeText_one hb hf h1 hk hfirst]
      intro m
      refine ⟨fun hd => congrArg Host.Outcome.next (State.judgeAll_waits ?_), fun hd halone => ?_⟩
      · exact fun h => hd ((s.msgs.setBuffer_rest k _).2.2.1.symm.trans h)
      · obtain ⟨honly, hjudged, hempty, hothers, -⟩ := State.closes_judged (k := k) (m := m) (stamp := s.msgs.stamp + 2) rfl hd halone
        exact ⟨_, rfl, honly, hjudged, hempty, hothers⟩
    · intro m
      obtain ⟨hnone, hfull⟩ := truncates_alone hj
      obtain ⟨honly, hempty, hother, hjudged, hdropped⟩ := State.truncateFor_spec (a := a) hkj hnone
      have hagain : exec (.text h b) (s.truncateFor k a) = .next ((s.truncateFor k a).takeText b) :=
        exec_heard ((State.truncateFor_hears k a s h _).trans hh)
      have hfor := State.takeText_truncates hb hf (MessageEngine.bufferFor_truncates hkj hk (hj.imp_left And.right))
      generalize s.truncateFor k a = u at *
      have hbuffers : ∀ i x, u.msgs.buffer i = .assembling x → x.tag ≠ b.tag := fun i x hi => by
        by_cases hik : i = k
        · rw [hik, hempty] at hi
          exact absurd hi (by simp)
        · obtain rfl : i = j := by cases i <;> cases k <;> cases j <;> simp_all
          exact hf i x (hother.symm.trans hi)
      have hfirst : k = .buffer0 ∨ u.msgs.buffer0 ≠ .empty := by
        cases k with
        | buffer0 => exact .inl rfl
        | buffer1 =>
          cases j with
          | buffer1 => exact absurd rfl hkj
          | buffer0 => exact .inr fun h => hfull (hother.symm.trans h)
      refine ⟨u, ?_, hempty, hother, honly, hjudged, hdropped⟩
      rw [hexec, hagain, hfor, State.takeText_empty hb hbuffers (MessageEngine.bufferFor_empty hempty hfirst)]
  · have hexec : exec (.ackOfText h tag) s = .next (s.ackText tag) := exec_heard hh
    refine ⟨fun m hm htag => ?_, fun hno => by rw [hexec, State.ackText_other hno]⟩
    rw [← htag, State.ackText_tag hm] at hexec
    rw [← htag]
    exact ⟨_, hexec, State.completeOutbound_spec _ s⟩
  · have hexec : exec (.alertAck h n) s = .next (s.takeAlertAck n) := exec_heard hh
    refine ⟨fun hst hn => ?_, fun hno => by rw [hexec, State.takeAlertAck_other hno]⟩
    rw [hn] at hexec ⊢
    exact ⟨_, hexec, State.takeAlertAck_spec hst⟩
  · have hexec : exec (.alertCancel h n) s = .next (s.takeAlertCancel n) := exec_heard hh
    have hready : s.ready = true := ((s.hears_iff h _).1 hh).1
    refine ⟨fun hst hn => ?_, fun hno => by rw [hexec, State.takeAlertCancel_other hno]⟩
    rw [hn] at hexec ⊢
    exact ⟨_, hexec, State.takeAlertCancel_spec hready hst⟩
  · have hexec : exec (.wake h cabs) s = .next (s.takeWake cabs) := exec_heard hh
    intro ours
    refine ⟨fun hours hst => ?_, fun hno => ?_⟩
    · rw [State.takeWake_spec ((s.wakeMatches_iff cabs).2 hours)] at hexec
      exact ⟨_, hexec, State.wakeEvent_radio hst⟩
    · rw [hexec, State.takeWake_other (hno.imp_left fun h => Bool.eq_false_iff.2 fun hm => h ((s.wakeMatches_iff cabs).1 hm))]

end Sys2Proof.Machine
end

section
/-! PROOFS. A good beacon: the cycle that it aligns, and the transmission that it answers in JOINED and JOIN (R18 to R20, R29, R30, R56, R57). -/

namespace Sys2Proof.Machine

/-! ## The cycle (R18) -/

/-- A slot request outlives the alignment, and stays as it is unless a grant ends there (R59, R62). -/
theorem State.alignCycle_slotRequest {s : State} {r : SlotRequest} (b : BeaconBody) (hr : s.sched.slotRequest = some r) :
    ∃ q, (s.alignCycle b).sched.slotRequest = some q ∧
      ((s.link.window = true ∨ ∀ g, s.sched.grant = some g → g.seen = true → s.link.nextSlot < g.stop) →
        q = r ∧ (s.sched.long = .request → (s.alignCycle b).sched.long = .request)) := by
  cases hw : s.link.window with
  | true =>
    have hsched : (s.alignCycle b).sched = s.sched := by
      unfold State.alignCycle
      rw [if_pos hw]
    rw [hsched]
    exact ⟨r, hr, fun _ => ⟨rfl, fun h => h⟩⟩
  | false =>
    have hsched : (s.alignCycle b).sched = { s.endPassedGrant.sched with
        long := s.endPassedGrant.sched.long.tick,
        grant := s.endPassedGrant.sched.grant.map (fun g => { g with since := g.since + 1 }) } := by
      unfold State.alignCycle
      rw [if_neg (by simp [hw])]
      rfl
    rw [hsched]
    obtain ⟨hends, hstays⟩ := State.endPassedGrant_eq s
    by_cases hpassed : ∀ g, s.sched.grant = some g → ¬(g.seen = true ∧ g.start + 3 * g.count ≤ s.link.nextSlot)
    · rw [hstays hpassed]
      exact ⟨r, hr, fun _ => ⟨rfl, fun h => by rw [h]; rfl⟩⟩
    · obtain ⟨g, hg, hseen, hstop⟩ : ∃ g, s.sched.grant = some g ∧ g.seen = true ∧ g.start + 3 * g.count ≤ s.link.nextSlot := by
        simpa using hpassed
      rw [hends g hg ⟨hseen, hstop⟩]
      obtain ⟨-, -, hasks, hquiet⟩ := State.endGrant_spec s
      have hnot : ¬(false = true ∨ ∀ g, s.sched.grant = some g → g.seen = true → s.link.nextSlot < g.stop) := by
        rintro (hc | hc)
        · exact absurd hc (by decide)
        · exact absurd (hc g hg hseen) (Nat.not_lt.2 hstop)
      by_cases hc : s.link.state = .joined ∧ 0 < s.sendable
      · exact ⟨_, (hasks hc.1 hc.2).2, fun h => absurd h hnot⟩
      · exact ⟨r, (hquiet ((Classical.not_and_iff_not_or_not.1 hc).imp_right Nat.eq_zero_of_not_pos)).2.trans hr, fun h => absurd h hnot⟩

/-! ## The answer to a transmission (R56) -/

/-- A beacon that answers, by the state of contention (R56). -/
theorem State.contentionOutcome_heard (s : State) :
    ((∀ d, s.sched.contention ≠ .outstanding d) → s.contentionOutcome true = s) ∧
      (s.sched.contention = .outstanding none → s.contentionOutcome true = { s with sched := { s.sched with contention := .idle } }) ∧
      ∀ c, s.sched.contention = .outstanding (some c) →
        s.contentionOutcome true = { s with sched := Scheduler.heard { s.sched with contention := .idle } c } := by
  refine ⟨fun h => ?_, fun h => ?_, fun c h => ?_⟩
  · cases hc : s.sched.contention with
    | outstanding d => exact absurd hc (h d)
    | idle => simp [State.contentionOutcome, hc]
    | waiting c w => simp [State.contentionOutcome, hc]
    | slotted c d => simp [State.contentionOutcome, hc]
  · simp [State.contentionOutcome, h]
  · simp [State.contentionOutcome, h]

/-- A bid that leaves IDLE contention leaves it IDLE. -/
theorem Scheduler.dropBid_idle {u : Scheduler} (h : u.contention = .idle) (job : DWord) : (u.dropBid job).contention = .idle := by
  unfold Scheduler.dropBid
  split
  · rw [h]
    rfl
  · exact h

/-- The scheduler after the answer to a transmission, frame by frame (R56). -/
theorem State.contentionOutcome_heardSched (s : State) :
    (s.sched.contention = .outstanding none → (s.contentionOutcome true).sched = { s.sched with contention := .idle }) ∧
      (s.sched.contention = .outstanding (some .alert) →
        (s.contentionOutcome true).sched = { s.sched with contention := .idle, alertAttempts := 0 }) ∧
      (s.sched.contention = .outstanding (some .join) →
        (s.contentionOutcome true).sched = { s.sched with contention := .idle, joinPlace := false }) ∧
      (∀ job, s.sched.contention = .outstanding (some (.bid job)) → (s.contentionOutcome true).sched = { s.sched with
        contention := .idle, bids := s.sched.bids.filter (fun x => x.job != job) }) ∧
      (s.sched.contention = .outstanding (some .slotRequest) → (s.contentionOutcome true).sched =
        if s.sched.slotRequest.isSome then
          { s.sched with contention := .idle, slotRequest := none, requests := s.sched.requests + 1, long := .wait 4 }
        else { s.sched with contention := .idle }) := by
  obtain ⟨-, hnone, hsome⟩ := s.contentionOutcome_heard
  refine ⟨fun h => by rw [hnone h], fun h => by rw [hsome _ h]; rfl, fun h => by rw [hsome _ h]; rfl, fun job h => ?_,
    fun h => by rw [hsome _ h]; rfl⟩
  rw [hsome _ h]
  show Scheduler.dropBid { s.sched with contention := .idle } job = _
  have hidle := Scheduler.dropBid_idle (u := { s.sched with contention := .idle }) rfl job
  have heq := Scheduler.dropBid_eq { s.sched with contention := .idle } job
  rw [hidle] at heq
  exact heq

/-- What a beacon makes of an outstanding transmission other than of a JOIN (R56, R57). -/
def State.answersOther (s o : State) (heard : Prop) : Prop :=
  o = { s with sched := o.sched, page := o.page } ∧
  ((∀ c, s.sched.contention ≠ .outstanding c) → o = s) ∧
  (∀ c, s.sched.contention = .outstanding c →
    o.sched.contention = .idle ∧ (heard → o.page = s.page) ∧
    (¬heard → o.page = { s.page with counters := { s.page.counters with
      contentionFails := satAdd s.page.counters.contentionFails 1#16 } }) ∧
    (c ≠ some .alert → o.sched.alertAttempts = s.sched.alertAttempts) ∧
    ((∀ job, c ≠ some (.bid job)) → o.sched.bids = s.sched.bids) ∧
    (c ≠ some .slotRequest → o.sched.slotRequest = s.sched.slotRequest ∧ o.sched.long = s.sched.long ∧
      o.sched.requests = s.sched.requests)) ∧
  (s.sched.contention = .outstanding (some .alert) →
    (heard → o.sched.alertAttempts = 0) ∧ (¬heard → o.sched.alertAttempts = min 4 (s.sched.alertAttempts + 1))) ∧
  (∀ job, s.sched.contention = .outstanding (some (.bid job)) →
    (heard → o.sched.bids = s.sched.bids.filter (fun x => x.job != job)) ∧
    (¬heard → o.sched.bids = s.sched.bids.filterMap (fun x =>
      if x.job = job then (if 7 ≤ x.attempts then none else some { x with attempts := x.attempts + 1 }) else some x))) ∧
  (s.sched.contention = .outstanding (some .slotRequest) →
    (heard → s.sched.slotRequest.isSome = true →
      o.sched.slotRequest = none ∧ o.sched.requests = s.sched.requests + 1 ∧ o.sched.long = .wait 4) ∧
    (¬heard → o.sched.slotRequest = s.sched.slotRequest.map (fun r => ⟨r.attempts + 1, r.fellBack || decide (8 ≤ r.attempts + 1)⟩) ∧
      o.sched.long = s.sched.long ∧ o.sched.requests = s.sched.requests))

/-- A transmission whose frame the heard list names. -/
theorem State.contentionOutcome_answers {s : State} (hj : s.sched.contention ≠ .outstanding (some .join)) :
    s.answersOther (s.contentionOutcome true) True := by
  obtain ⟨hquiet, hnone, hsome⟩ := s.contentionOutcome_heard
  obtain ⟨hsnone, hsalert, -, hsbid, hsrequest⟩ := s.contentionOutcome_heardSched
  have hframe : s.contentionOutcome true = { s with sched := (s.contentionOutcome true).sched } := by
    cases hc : s.sched.contention with
    | outstanding d =>
      cases d with
      | none => rw [hnone hc]
      | some c => rw [hsome c hc]
    | _ => rw [hquiet (by simp [hc])]
  generalize s.contentionOutcome true = o at *
  have hpage : o.page = s.page := by rw [hframe]
  refine ⟨by rw [hframe], hquiet, fun c hc => ?_, fun h => ⟨fun _ => by rw [hsalert h], fun hn => absurd trivial hn⟩,
    fun job h => ⟨fun _ => by rw [hsbid job h], fun hn => absurd trivial hn⟩, fun h => ⟨fun _ hr => ?_, fun hn => absurd trivial hn⟩⟩
  · cases c with
    | none =>
      rw [hsnone hc]
      exact ⟨rfl, fun _ => hpage, fun hn => absurd trivial hn, fun _ => rfl, fun _ => rfl, fun _ => ⟨rfl, rfl, rfl⟩⟩
    | some c =>
      cases c with
      | alert =>
        rw [hsalert hc]
        exact ⟨rfl, fun _ => hpage, fun hn => absurd trivial hn, fun hn => absurd rfl hn, fun _ => rfl, fun _ => ⟨rfl, rfl, rfl⟩⟩
      | join => exact absurd hc hj
      | bid job =>
        rw [hsbid job hc]
        exact ⟨rfl, fun _ => hpage, fun hn => absurd trivial hn, fun _ => rfl, fun hn => absurd rfl (hn job), fun _ => ⟨rfl, rfl, rfl⟩⟩
      | slotRequest =>
        rw [hsrequest hc]
        refine ⟨?_, fun _ => hpage, fun hn => absurd trivial hn, fun _ => ?_, fun _ => ?_, fun hn => absurd rfl hn⟩ <;> split <;> rfl
  · rw [hsrequest h, if_pos hr]
    exact ⟨rfl, rfl, rfl⟩

/-- A transmission whose frame the heard list does not name. -/
theorem State.contentionOutcome_refuses {s : State} (hj : s.sched.contention ≠ .outstanding (some .join)) :
    s.answersOther (s.contentionOutcome false) False := by
  obtain ⟨hquiet, -⟩ := s.contentionOutcome_failed
  obtain ⟨-, hsnone, hsalert, hsbid, hsrequest⟩ := s.contentionOutcome_sched
  obtain ⟨hcounts, -⟩ := s.contentionOutcome_counts
  obtain ⟨hframe, -, hlink, -⟩ := State.contentionOutcome_stays (s := s) fun h => hj h.1
  have hlinked := hlink hj
  generalize s.contentionOutcome false = o at *
  have hpage : ∀ c, s.sched.contention = .outstanding c → o.page = { s.page with counters := { s.page.counters with
      contentionFails := satAdd s.page.counters.contentionFails 1#16 } } := fun c hc => by rw [← hcounts c hc, hframe]
  refine ⟨by rw [hframe, hlinked], hquiet, fun c hc => ?_, fun h => ⟨False.elim, fun _ => by rw [hsalert h]⟩,
    fun job h => ⟨False.elim, fun _ => by rw [hsbid job h]⟩, fun h => ⟨False.elim, fun _ => by rw [hsrequest h]; exact ⟨rfl, rfl, rfl⟩⟩⟩
  cases c with
  | none =>
    have hs := hsnone hc
    exact ⟨by rw [hs], False.elim, fun _ => hpage _ hc, fun _ => by rw [hs], fun _ => by rw [hs], fun _ => by rw [hs]; exact ⟨rfl, rfl, rfl⟩⟩
  | some c =>
    cases c with
    | alert =>
      have hs := hsalert hc
      exact ⟨by rw [hs], False.elim, fun _ => hpage _ hc, fun hn => absurd rfl hn, fun _ => by rw [hs],
        fun _ => by rw [hs]; exact ⟨rfl, rfl, rfl⟩⟩
    | join => exact absurd hc hj
    | bid job =>
      have hs := hsbid job hc
      exact ⟨by rw [hs], False.elim, fun _ => hpage _ hc, fun _ => by rw [hs], fun hn => absurd rfl (hn job),
        fun _ => by rw [hs]; exact ⟨rfl, rfl, rfl⟩⟩
    | slotRequest =>
      have hs := hsrequest hc
      exact ⟨by rw [hs], False.elim, fun _ => hpage _ hc, fun _ => by rw [hs], fun _ => by rw [hs], fun hn => absurd rfl hn⟩

/-- The heard list names the cab. -/
theorem State.heardIn_iff (heard : List Word) (s : State) :
    s.heardIn heard = true ↔ ∃ c ∈ heard, s.power.image.map (·.cab) = some c := by
  simp only [State.heardIn, List.any_eq_true, beq_iff_eq, eq_comm (b := s.power.image.map (·.cab))]

theorem State.contentionOutcome_answersOther {s : State} {heard : Bool} {named : Prop} (hnamed : heard = true ↔ named)
    (hj : s.sched.contention ≠ .outstanding (some .join)) : s.answersOther (s.contentionOutcome heard) named := by
  cases heard with
  | true =>
    rw [show named = True from propext ⟨fun _ => trivial, fun _ => hnamed.1 rfl⟩]
    exact State.contentionOutcome_answers hj
  | false =>
    rw [show named = False from propext ⟨fun h => absurd (hnamed.2 h) (by decide), False.elim⟩]
    exact State.contentionOutcome_refuses hj

/-! ## The answer to a JOIN (R27, R56) -/

/-- What a beacon makes of an outstanding JOIN. -/
theorem State.contentionOutcome_join {s : State} {c : Candidate} (hst : s.link.state = .join) (hc : s.link.joining = some c)
    (hj : s.sched.contention = .outstanding (some .join)) :
    s.contentionOutcome true = { s with sched := { s.sched with contention := .idle, joinPlace := false } } ∧
      (s.contentionOutcome false).page.counters.contentionFails = satAdd s.page.counters.contentionFails 1#16 ∧
      (s.link.attempts < 4 → (s.contentionOutcome false).link = { s.link with grantWait := none } ∧
        (s.contentionOutcome false).sched = { s.sched with contention := .idle, joinAttempts := min 4 (s.sched.joinAttempts + 1) }) ∧
      (4 ≤ s.link.attempts → (s.contentionOutcome false).losesCandidate (s.link.candidates.erase c)) := by
  obtain ⟨-, -, hheard⟩ := s.contentionOutcome_heard
  obtain ⟨hcounts, -⟩ := s.contentionOutcome_counts
  refine ⟨hheard _ hj, by rw [hcounts _ hj], fun hfew => ?_, fun hlast => ?_⟩
  · obtain ⟨-, -, -, hfails, -⟩ := State.contentionOutcome_stays (s := s) fun h => absurd h.2 (Nat.not_le.2 hfew)
    obtain ⟨hsched, hlink⟩ := hfails hj
    exact ⟨hlink, hsched⟩
  · have hfailed : s.contentionOutcome false = State.candidateFails { s.contentionFailed with
        sched := { s.contentionFailed.sched with joinAttempts := min 4 (s.sched.joinAttempts + 1) } } :=
      (s.contentionOutcome_failed.2.2 .join hj).trans (if_pos hlast)
    obtain ⟨-, hloses, -⟩ := State.candidateFails_loses (s := { s.contentionFailed with
        sched := { s.contentionFailed.sched with joinAttempts := min 4 (s.sched.joinAttempts + 1) } }) hst hc
    rw [hfailed]
    exact hloses

end Sys2Proof.Machine
end

section
/-! PROOFS. A good beacon in each link state (R18, R24, R25, R27, R30, R56, R57, R59). -/

namespace Sys2Proof.Machine

/-! ## The beacon by the link state -/

/-- A good beacon aligns the cycle first; the link state decides what else it does. -/
theorem State.takeBeacon_eq (site : Word) (b : BeaconBody) (s : State) :
    s.takeBeacon site b = match s.link.state with
      | .off => s.alignCycle b
      | .quiet => s.alignCycle b
      | .hunt => (s.alignCycle b).huntBeacon s.link.beaconAgain site (namedAbilities b.abilities)
      | .join => State.contentionOutcome ((s.alignCycle b).heardIn b.heard)
          { s.alignCycle b with link := { (s.alignCycle b).link with loss := 0 } }
      | .joined => State.settleLong (State.contentionOutcome ((s.alignCycle b).heardIn b.heard)
          { s.alignCycle b with link := { (s.alignCycle b).link with
            loss := 0, site := (s.alignCycle b).link.site.map (fun r => { r with abilities := namedAbilities b.abilities }) } }) := by
  have hstate : (s.alignCycle b).link.state = s.link.state := by simp
  unfold State.takeBeacon
  dsimp only
  generalize (s.alignCycle b).link.state = l at hstate ⊢
  subst hstate
  cases s.link.state <;> rfl

theorem State.alignCycle_heardIn (b : BeaconBody) (s : State) (heard : List Word) : (s.alignCycle b).heardIn heard = s.heardIn heard := by
  obtain ⟨-, -, -, -, himage, -⟩ := s.alignCycle_spec b
  rw [State.heardIn, State.heardIn, himage]

/-- A good beacon starts its cycle and opens its window, whatever it does beside (R18 to R20). -/
theorem State.takeBeacon_aligned (site : Word) (b : BeaconBody) (s : State) :
    let t := s.takeBeacon site b
    t.link.cycle = b.cycle ∧ t.link.nextSlot = 0 ∧ t.link.window = true ∧ t.link.beaconIn = true ∧
      t.link.clock = b.time ∧ t.link.contention = min 8 b.contention.toNat ∧ t.link.channels = s.link.channels ∧
      (s.link.window = true → t.emerg = s.emerg ∧ t.power = s.power) := by
  intro t
  obtain ⟨-, hlink, -, -, -, hwindow, -⟩ := s.alignCycle_spec b
  have hkeeps : t.link.cycle = (s.alignCycle b).link.cycle ∧ t.link.nextSlot = (s.alignCycle b).link.nextSlot ∧
      t.link.window = (s.alignCycle b).link.window ∧ t.link.beaconIn = (s.alignCycle b).link.beaconIn ∧
      t.link.clock = (s.alignCycle b).link.clock ∧ t.link.contention = (s.alignCycle b).link.contention ∧
      t.link.channels = (s.alignCycle b).link.channels ∧ t.emerg = (s.alignCycle b).emerg ∧ t.power = (s.alignCycle b).power := by
    show (s.takeBeacon site b).link.cycle = _ ∧ _
    rw [show t = s.takeBeacon site b from rfl, State.takeBeacon_eq]
    cases s.link.state with
    | off => exact ⟨rfl, rfl, rfl, rfl, rfl, rfl, rfl, rfl, rfl⟩
    | quiet => exact ⟨rfl, rfl, rfl, rfl, rfl, rfl, rfl, rfl, rfl⟩
    | hunt => simp only [State.huntBeacon_fields, State.huntBeacon_frame, and_self]
    | join => simp only [State.contentionOutcome_fields, State.contentionOutcome_frame, and_self]
    | joined => simp only [State.settleLong_frame, State.contentionOutcome_fields, State.contentionOutcome_frame, and_self]
  obtain ⟨hcycle, hslot, hwin, hin, hclock, hcontention, hchannels, hemerg, hpower⟩ := hkeeps
  rw [hcycle, hslot, hwin, hin, hclock, hcontention, hchannels, hemerg, hpower, hlink]
  exact ⟨rfl, rfl, rfl, rfl, rfl, rfl, rfl, fun hw => ⟨(hwindow hw).1, (hwindow hw).2.1⟩⟩

/-- A good beacon in QUIET. -/
theorem State.takeBeacon_quiet {s : State} (hst : s.link.state = .quiet) (site : Word) (b : BeaconBody) :
    let t := s.takeBeacon site b
    t.sched.contention = s.sched.contention ∧ t.page = s.page ∧ t.radio = s.radio ∧
      t.link.quiet = if s.link.window = true then s.link.quiet else s.link.quiet + 1 := by
  intro t
  obtain ⟨hframe, -, hsched, -, -, -, hquiet⟩ := s.alignCycle_spec b
  have ht : t = s.alignCycle b := by
    show s.takeBeacon site b = _
    rw [State.takeBeacon_eq, hst]
  rw [ht]
  exact ⟨by rw [hsched], by rw [hframe], by rw [hframe], hquiet hst⟩

/-! ## JOINED -/

theorem State.settleLong_waits {s : State} {n : Nat} (h : s.sched.long = .wait n) : s.settleLong = s := by
  simp [State.settleLong, h]

/-- The slot request after a beacon that answers or refuses it, or another transmission, or none (R57, R59, R60). -/
theorem State.answersOther_request {s o : State} {heard : Prop} {r : SlotRequest} (h : s.answersOther o heard)
    (hr : s.sched.slotRequest = some r) (hlong : s.sched.long = .request)
    (hno : s.sched.contention = .outstanding (some .slotRequest) → ¬heard) :
    o.sched.requests = s.sched.requests ∧ o.sched.long = .request ∧
      (s.sched.contention = .outstanding (some .slotRequest) →
        o.sched.slotRequest = some ⟨r.attempts + 1, r.fellBack || decide (8 ≤ r.attempts + 1)⟩) ∧
      (s.sched.contention ≠ .outstanding (some .slotRequest) → o.sched.slotRequest = some r) := by
  obtain ⟨-, hquiet, hout, -, -, hrequest⟩ := h
  by_cases hc : s.sched.contention = .outstanding (some .slotRequest)
  · obtain ⟨hslot, hkeep, hcount⟩ := (hrequest hc).2 (hno hc)
    exact ⟨hcount, hkeep.trans hlong, fun _ => by rw [hslot, hr]; rfl, fun hn => absurd hc hn⟩
  · by_cases hany : ∃ c, s.sched.contention = .outstanding c
    · obtain ⟨c, hcc⟩ := hany
      obtain ⟨-, -, -, -, -, hother⟩ := hout c hcc
      obtain ⟨hslot, hkeep, hcount⟩ := hother fun e => hc (by rw [hcc, e])
      exact ⟨hcount, hkeep.trans hlong, fun h => absurd h hc, fun _ => hslot.trans hr⟩
    · rw [hquiet fun c hcc => hany ⟨c, hcc⟩]
      exact ⟨rfl, hlong, fun h => absurd h hc, fun _ => hr⟩

/-- A good beacon in JOINED, when no JOIN is outstanding. -/
theorem State.takeBeacon_joined {s : State} {b : BeaconBody} {named : Prop} (hst : s.link.state = .joined)
    (hj : s.sched.contention ≠ .outstanding (some .join)) (hnamed : s.heardIn b.heard = true ↔ named) (site : Word) :
    let t := s.takeBeacon site b
    t.link.state = .joined ∧ t.link.loss = 0 ∧
    t.link.site = s.link.site.map (fun r => { r with abilities := b.abilities &&& 7#8 }) ∧
    ((∀ c, s.sched.contention ≠ .outstanding c) →
      t.page = s.page ∧ t.sched.bids = s.sched.bids ∧ t.sched.alertAttempts = s.sched.alertAttempts) ∧
    (∀ c, s.sched.contention = .outstanding c →
      t.sched.contention = .idle ∧ (named → t.page = s.page) ∧
      (¬named → t.page = { s.page with counters := { s.page.counters with
        contentionFails := satAdd s.page.counters.contentionFails 1#16 } }) ∧
      (c ≠ some .alert → t.sched.alertAttempts = s.sched.alertAttempts) ∧
      ((∀ job, c ≠ some (.bid job)) → t.sched.bids = s.sched.bids)) ∧
    (s.sched.contention = .outstanding (some .alert) →
      (named → t.sched.alertAttempts = 0) ∧ (¬named → t.sched.alertAttempts = min 4 (s.sched.alertAttempts + 1))) ∧
    (∀ job, s.sched.contention = .outstanding (some (.bid job)) →
      (named → t.sched.bids = s.sched.bids.filter (fun x => x.job != job)) ∧
      (¬named → t.sched.bids = s.sched.bids.filterMap (fun x =>
        if x.job = job then (if 7 ≤ x.attempts then none else some { x with attempts := x.attempts + 1 }) else some x))) ∧
    (∀ r, s.sched.slotRequest = some r →
      (s.sched.contention = .outstanding (some .slotRequest) → named →
        t.sched.slotRequest = none ∧ t.sched.requests = s.sched.requests + 1 ∧ t.sched.long = .wait 4) ∧
      (s.sched.long = .request → (s.link.window = true ∨ ∀ g, s.sched.grant = some g → g.seen = true → s.link.nextSlot < g.stop) →
        (s.sched.contention = .outstanding (some .slotRequest) → ¬named) →
        t.sched.requests = s.sched.requests ∧
        (t.sendable = 0 → t.sched.slotRequest = none ∧ t.sched.long = .none) ∧
        (0 < t.sendable → t.sched.long = .request ∧
          (s.sched.contention = .outstanding (some .slotRequest) →
            t.sched.slotRequest = some ⟨r.attempts + 1, r.fellBack || decide (8 ≤ r.attempts + 1)⟩) ∧
          (s.sched.contention ≠ .outstanding (some .slotRequest) → t.sched.slotRequest = some r)))) := by
  intro t
  obtain ⟨hframe, hlink, hsched, -⟩ := s.alignCycle_spec b
  have hrequest := fun r => State.alignCycle_slotRequest (s := s) (r := r) b
  have hnamed' : (s.alignCycle b).heardIn b.heard = true ↔ named := by rw [State.alignCycle_heardIn]; exact hnamed
  have ht : t = State.settleLong (State.contentionOutcome ((s.alignCycle b).heardIn b.heard)
      { s.alignCycle b with link := { (s.alignCycle b).link with
        loss := 0, site := (s.alignCycle b).link.site.map (fun r => { r with abilities := namedAbilities b.abilities }) } }) := by
    show s.takeBeacon site b = _
    rw [State.takeBeacon_eq, hst]
  generalize s.alignCycle b = x at *
  generalize hy : ({ x with link := { x.link with
    loss := 0, site := x.link.site.map (fun r => { r with abilities := namedAbilities b.abilities }) } } : State) = y at ht
  have hxpage : x.page = s.page := by rw [hframe]
  have hysched : y.sched = x.sched := by rw [← hy]
  have hypage : y.page = s.page := by rw [← hy]; exact hxpage
  have hycontention : y.sched.contention = s.sched.contention := by rw [hysched, hsched]
  have hybids : y.sched.bids = s.sched.bids := by rw [hysched, hsched]
  have hyalert : y.sched.alertAttempts = s.sched.alertAttempts := by rw [hysched, hsched]
  have hyrequests : y.sched.requests = s.sched.requests := by rw [hysched, hsched]
  have hanswers := State.contentionOutcome_answersOther hnamed' (s := y) (by rw [hycontention]; exact hj)
  have hall := hanswers
  obtain ⟨hoframe, hquiet, hout, halert, hbid, hslot⟩ := hanswers
  generalize State.contentionOutcome (x.heardIn b.heard) y = o at *
  rw [hycontention, hyalert] at halert
  rw [hycontention] at hquiet hslot
  simp only [hycontention, hypage, hyalert, hybids] at hout
  simp only [hycontention, hybids] at hbid
  have htlink : t.link = y.link := by
    rw [ht, show o.settleLong.link = o.link by simp, hoframe]
  have htpage : t.page = o.page := by rw [ht]; simp
  have htbids : t.sched.bids = o.sched.bids := by rw [ht]; simp
  have htalert : t.sched.alertAttempts = o.sched.alertAttempts := by rw [ht]; simp
  have htrequests : t.sched.requests = o.sched.requests := by rw [ht]; simp
  rw [htpage, htbids, htalert, htrequests, htlink]
  refine ⟨?_, by rw [← hy], ?_, fun hn => ?_, fun c hc => ?_, halert, hbid, fun r hr => ⟨fun hc hname => ?_, fun hlong hgrant hno => ?_⟩⟩
  · rw [← hy]
    show x.link.state = .joined
    rw [hlink]
    exact hst
  · rw [← hy]
    show x.link.site.map _ = _
    rw [hlink]
    rfl
  · rw [hquiet hn]
    exact ⟨hypage, hybids, hyalert⟩
  · obtain ⟨hidle, hpage, hfails, hkeepsAlert, hkeepsBids, -⟩ := hout c hc
    exact ⟨by rw [ht]; exact State.settleLong_idle hidle, hpage, hfails, hkeepsAlert, hkeepsBids⟩
  · obtain ⟨q, hq, -⟩ := hrequest r hr
    obtain ⟨hnone, hcount, hwait⟩ := (hslot hc).1 hname (by rw [hysched, hq]; rfl)
    rw [ht, State.settleLong_waits hwait]
    exact ⟨hnone, by rw [hcount, hyrequests], hwait⟩
  · obtain ⟨q, hq, hkeep⟩ := hrequest r hr
    obtain ⟨rfl, hxlong⟩ := hkeep hgrant
    obtain ⟨hcount, holong, hfailed, hkept⟩ := State.answersOther_request hall (by rw [hysched]; exact hq) (by rw [hysched]; exact hxlong hlong)
      (by rw [hycontention]; exact hno)
    rw [hycontention] at hfailed hkept
    have hwaiting : ∃ q, o.sched.slotRequest = some q := by
      by_cases hc : s.sched.contention = .outstanding (some .slotRequest)
      · exact ⟨_, hfailed hc⟩
      · exact ⟨_, hkept hc⟩
    obtain ⟨p, hp⟩ := hwaiting
    obtain ⟨hsendable, hnothing, hmore⟩ := State.settleLong_request holong hp
    rw [ht, hsendable]
    refine ⟨by rw [hcount, hyrequests], hnothing, fun hpos => ?_⟩
    rw [hmore hpos]
    exact ⟨holong, hfailed, hkept⟩

/-! ## JOIN -/

/-- A good beacon in JOIN. -/
theorem State.takeBeacon_join {s : State} {b : BeaconBody} {named : Prop} {c : Candidate} (hst : s.link.state = .join)
    (hc : s.link.joining = some c) (hnamed : s.heardIn b.heard = true ↔ named) (site : Word) :
    let t := s.takeBeacon site b
    ((∀ d, s.sched.contention ≠ .outstanding d) → t.sched.contention = s.sched.contention ∧ t.page = s.page ∧
      t.sched.joinPlace = s.sched.joinPlace ∧ t.link.state = .join ∧ t.link.joining = some c ∧ t.link.loss = 0 ∧
      t.link.attempts = s.link.attempts) ∧
    (s.sched.contention = .outstanding (some .join) →
      (named → t.sched.contention = .idle ∧ t.page = s.page ∧ t.sched.joinPlace = false ∧ t.link.state = .join ∧
        t.link.joining = some c ∧ t.link.loss = 0 ∧ t.link.attempts = s.link.attempts ∧
        (s.link.window = true → t.link.grantWait = s.link.grantWait)) ∧
      (¬named → t.page.counters.contentionFails = satAdd s.page.counters.contentionFails 1#16 ∧
        (s.link.attempts < 4 → t.sched.contention = .idle ∧ t.sched.joinPlace = s.sched.joinPlace ∧
          t.sched.joinAttempts = min 4 (s.sched.joinAttempts + 1) ∧ t.link.state = .join ∧ t.link.joining = some c ∧
          t.link.loss = 0 ∧ t.link.grantWait = none) ∧
        (4 ≤ s.link.attempts → t.losesCandidate (s.link.candidates.erase c)))) := by
  intro t
  obtain ⟨hframe, hlink, hsched, -, -, hwindow, -⟩ := s.alignCycle_spec b
  have hnamed' : (s.alignCycle b).heardIn b.heard = true ↔ named := by rw [State.alignCycle_heardIn]; exact hnamed
  have ht : t = State.contentionOutcome ((s.alignCycle b).heardIn b.heard)
      { s.alignCycle b with link := { (s.alignCycle b).link with loss := 0 } } := by
    show s.takeBeacon site b = _
    rw [State.takeBeacon_eq, hst]
  generalize s.alignCycle b = x at *
  generalize hy : ({ x with link := { x.link with loss := 0 } } : State) = y at ht
  have hylink : y.link = { x.link with loss := 0 } := by rw [← hy]
  have hysched : y.sched = x.sched := by rw [← hy]
  have hypage : y.page = s.page := by rw [← hy, hframe]
  have hycontention : y.sched.contention = s.sched.contention := by rw [hysched, hsched]
  have hystate : y.link.state = .join := by rw [hylink, hlink]; exact hst
  have hyjoining : y.link.joining = some c := by rw [hylink, hlink]; exact hc
  have hyattempts : y.link.attempts = s.link.attempts := by rw [hylink, hlink]
  have hyloss : y.link.loss = 0 := by rw [hylink]
  refine ⟨fun hn => ?_, fun hj => ?_⟩
  · have hstays : t = y := by
      rw [ht]
      cases x.heardIn b.heard with
      | true => exact y.contentionOutcome_heard.1 (by rw [hycontention]; exact hn)
      | false => exact y.contentionOutcome_failed.1 (by rw [hycontention]; exact hn)
    rw [hstays]
    exact ⟨hycontention, hypage, by rw [hysched, hsched], hystate, hyjoining, hyloss, hyattempts⟩
  · obtain ⟨hheard, hcount, hfew, hlast⟩ := State.contentionOutcome_join hystate hyjoining (by rw [hycontention]; exact hj)
    refine ⟨fun hname => ?_, fun hname => ?_⟩
    · rw [hnamed'.2 hname, hheard] at ht
      rw [ht]
      refine ⟨rfl, hypage, rfl, hystate, hyjoining, hyloss, hyattempts, fun hw => ?_⟩
      show y.link.grantWait = _
      rw [hylink]
      exact (hwindow hw).2.2
    · rw [Bool.eq_false_iff.2 (mt hnamed'.1 hname)] at ht
      rw [hyattempts] at hfew hlast
      rw [ht]
      refine ⟨by rw [hcount, hypage], fun hlt => ?_, fun hge => ?_⟩
      · obtain ⟨hflink, hfsched⟩ := hfew hlt
        rw [hflink, hfsched]
        exact ⟨rfl, by rw [hysched, hsched], by rw [hysched, hsched], hystate, hyjoining, hyloss, rfl⟩
      · have hcandidates : y.link.candidates = s.link.candidates := by rw [hylink, hlink]
        rw [← hcandidates]
        exact hlast hge

/-! ## HUNT -/

/-- The run after a good beacon (R24). -/
theorem nextRun_eq {again : Bool} {run : Option Run} {site : Word} {count : Nat} {A : Prop} (hagain : again = true ↔ A)
    (h : ((run = none ∨ ∃ r, run = some r ∧ r.site ≠ site) ∧ count = 1) ∨
      ∃ r, run = some r ∧ r.site = site ∧ (A → count = r.count) ∧ (¬A → count = r.count + 1)) (abilities : Byte) :
    nextRun again run site abilities = ⟨site, count, abilities⟩ := by
  obtain ⟨rfl | ⟨r, rfl, hr⟩, rfl⟩ | ⟨r, rfl, hr, hsame, hmore⟩ := h
  · rfl
  · exact if_neg hr
  · refine (if_pos hr).trans ?_
    cases again with
    | true => rw [hsame (hagain.1 rfl)]; rfl
    | false => rw [hmore fun h => absurd (hagain.2 h) (by decide)]; rfl

/-- A good beacon of a channel that is listened to, outside a quick hunt (R24). -/
theorem State.huntBeacon_clear {x : State} {h : Hunt} {r : Run} {again : Bool} {site : Word} {abilities : Byte} (hh : x.link.hunt = some h)
    (he : x.emerg.state = .clear) (hr : nextRun again h.run site abilities = r) :
    x.huntBeacon again site abilities = if 3 ≤ r.count then
        State.nextChannel { x with link := { x.link with
          candidates := x.link.candidates ++ [⟨h.channel, site, abilities⟩], hunt := some { h with run := some r } } }
      else { x with link := { x.link with hunt := some { h with run := some r } } } := by
  have hquick : x.quickHunt = false := Bool.eq_false_iff.2 fun hq => x.quickHunt_iff.1 hq he
  unfold State.huntBeacon
  rw [hh]
  dsimp only
  rw [hquick, hr]
  rfl

/-- A good beacon of a quick hunt ends the pass (R25). -/
theorem State.huntBeacon_quick {x : State} {h : Hunt} {again : Bool} {site : Word} {abilities : Byte} (hh : x.link.hunt = some h)
    (he : x.emerg.state ≠ .clear) :
    x.huntBeacon again site abilities = if x.link.candidates = [] then x.quickJoin h.channel (nextRun again h.run site abilities) else x.endPass := by
  unfold State.huntBeacon
  rw [hh]
  dsimp only
  rw [if_pos (x.quickHunt_iff.2 he)]
  cases x.link.candidates <;> rfl

theorem nextRun_site (again : Bool) (run : Option Run) (site : Word) (abilities : Byte) :
    (nextRun again run site abilities).site = site ∧ (nextRun again run site abilities).abilities = abilities := by
  unfold nextRun
  cases run with
  | none => exact ⟨rfl, rfl⟩
  | some r =>
    dsimp only
    split <;> exact ⟨rfl, rfl⟩

/-- The pass that a good beacon ends joins the best candidate, and the list stays. -/
theorem State.endPass_joins {s : State} (h : s.link.candidates ≠ []) :
    ∃ c : Candidate, c.selectedFrom s.link.candidates ∧ s.joinsTuned s.endPass c ∧ s.endPass.link.candidates = s.link.candidates := by
  obtain ⟨c, hbest, heq⟩ := s.endPass_eq.2 h
  obtain ⟨hjoins, -, -, hlist⟩ := State.enterJoin_joins c s
  rw [heq]
  exact ⟨c, hbest, hjoins, hlist⟩

/-- A good beacon in HUNT while the emergency state is CLEAR (R24). -/
theorem State.takeBeacon_hunt {s : State} {b : BeaconBody} {x : Hunt} {site : Word} {count : Nat} (hst : s.link.state = .hunt)
    (hx : s.link.hunt = some x) (he : s.emerg.state = .clear)
    (hcount : ((x.run = none ∨ ∃ r, x.run = some r ∧ r.site ≠ site) ∧ count = 1) ∨
      ∃ r, x.run = some r ∧ r.site = site ∧ (s.link.window = true ∧ s.link.beaconIn = true → count = r.count) ∧
        (¬(s.link.window = true ∧ s.link.beaconIn = true) → count = r.count + 1)) :
    let t := s.takeBeacon site b
    (count < 3 → t.link.state = .hunt ∧ t.link.hunt = some { x with run := some ⟨site, count, b.abilities &&& 7#8⟩ } ∧
      t.link.candidates = s.link.candidates) ∧
    (3 ≤ count → t.link.candidates = s.link.candidates ++ [⟨x.channel, site, b.abilities &&& 7#8⟩] ∧
      (∀ d ds, x.rest = d :: ds → t.link.state = .hunt ∧ t.link.hunt = some ⟨d, ds, none⟩) ∧
      (x.rest = [] → ∃ c : Candidate, c.selectedFrom (s.link.candidates ++ [⟨x.channel, site, b.abilities &&& 7#8⟩]) ∧ s.joinsTuned t c)) := by
  intro t
  obtain ⟨hframe, hlink, -, hemerg, -⟩ := s.alignCycle_spec b
  have hagain : s.link.beaconAgain = true ↔ s.link.window = true ∧ s.link.beaconIn = true := by
    rw [LinkController.beaconAgain, Bool.and_eq_true]
  have hrun := nextRun_eq hagain hcount (b.abilities &&& 7#8)
  have ht : t = (s.alignCycle b).huntBeacon s.link.beaconAgain site (b.abilities &&& 7#8) := by
    show s.takeBeacon site b = _
    rw [State.takeBeacon_eq, hst]
    rfl
  have hradio : (s.alignCycle b).radio = s.radio := by rw [hframe]
  generalize s.alignCycle b = y at *
  have hyhunt : y.link.hunt = some x := by rw [hlink]; exact hx
  have hystate : y.link.state = .hunt := by rw [hlink]; exact hst
  have hylist : y.link.candidates = s.link.candidates := by rw [hlink]
  have hyclear : y.emerg.state = .clear := hemerg.trans he
  rw [State.huntBeacon_clear hyhunt hyclear hrun] at ht
  refine ⟨fun hlt => ?_, fun hge => ?_⟩
  · rw [if_neg (Nat.not_le.2 hlt)] at ht
    rw [ht]
    exact ⟨hystate, rfl, hylist⟩
  · rw [if_pos hge, hylist] at ht
    generalize hz : ({ y with link := { y.link with
      candidates := s.link.candidates ++ [⟨x.channel, site, b.abilities &&& 7#8⟩],
      hunt := some { x with run := some ⟨site, count, b.abilities &&& 7#8⟩ } } } : State) = z at ht
    have hzlist : z.link.candidates = s.link.candidates ++ [⟨x.channel, site, b.abilities &&& 7#8⟩] := by rw [← hz]
    have hzclear : z.emerg.state = .clear := by rw [← hz]; exact hyclear
    have hzradio : z.radio = s.radio := by rw [← hz]; exact hradio
    obtain ⟨-, hlast, -, hnext⟩ := State.nextChannel_eq (s := z) (h := { x with run := some ⟨site, count, b.abilities &&& 7#8⟩ }) (by rw [← hz])
    have hcases : (∃ d ds, x.rest = d :: ds ∧ t = z.tuneNext d ds) ∨ (x.rest = [] ∧ t = z.endPass) := by
      cases hrest : x.rest with
      | nil => exact .inr ⟨rfl, ht.trans (hlast hrest (.inl hzclear))⟩
      | cons d ds => exact .inl ⟨d, ds, rfl, ht.trans (hnext d ds hrest (.inl hzclear))⟩
    obtain ⟨d, ds, hrest, htune⟩ | ⟨hrest, hend⟩ := hcases
    · obtain ⟨⟨-, hhunt, hset, -⟩, -, -, hlist⟩ := State.tuneNext_listens d ds z
      rw [htune]
      refine ⟨hlist.trans hzlist, fun e es hes => ?_, fun hnil => absurd (hrest.symm.trans hnil) (by simp)⟩
      rw [hrest] at hes
      cases hes
      exact ⟨hhunt, hset⟩
    · obtain ⟨c, hbest, hjoins, hlist⟩ := State.endPass_joins (s := z) (by rw [hzlist]; simp)
      rw [hzlist] at hbest hlist
      rw [hend]
      refine ⟨hlist, fun e es hes => absurd (hrest.symm.trans hes) (by simp), fun _ => ⟨c, hbest, ?_⟩⟩
      rw [State.joinsTuned, ← hzradio]
      exact hjoins

/-- A good beacon in HUNT while the emergency state is not CLEAR (R25). -/
theorem State.takeBeacon_quickHunt {s : State} {b : BeaconBody} {x : Hunt} {site : Word} (hst : s.link.state = .hunt)
    (hx : s.link.hunt = some x) (he : s.emerg.state ≠ .clear) :
    let t := s.takeBeacon site b
    (s.link.candidates = [] → s.joinsTuned t ⟨x.channel, site, b.abilities &&& 7#8⟩ ∧
      t.link.candidates = [⟨x.channel, site, b.abilities &&& 7#8⟩]) ∧
    (s.link.candidates ≠ [] → ∃ c : Candidate, c.selectedFrom s.link.candidates ∧ s.joinsTuned t c) := by
  intro t
  obtain ⟨hframe, hlink, -, hemerg, -⟩ := s.alignCycle_spec b
  have ht : t = (s.alignCycle b).huntBeacon s.link.beaconAgain site (b.abilities &&& 7#8) := by
    show s.takeBeacon site b = _
    rw [State.takeBeacon_eq, hst]
    rfl
  have hradio : (s.alignCycle b).radio = s.radio := by rw [hframe]
  generalize s.alignCycle b = y at *
  have hyhunt : y.link.hunt = some x := by rw [hlink]; exact hx
  have hylist : y.link.candidates = s.link.candidates := by rw [hlink]
  rw [State.huntBeacon_quick hyhunt (by rw [hemerg]; exact he), hylist] at ht
  refine ⟨fun hnil => ?_, fun hsome => ?_⟩
  · obtain ⟨hsite, habilities⟩ := nextRun_site s.link.beaconAgain x.run site (b.abilities &&& 7#8)
    rw [if_pos hnil, State.quickJoin, hsite, habilities] at ht
    obtain ⟨hjoins, -, -, hlist⟩ := State.enterJoin_joins ⟨x.channel, site, b.abilities &&& 7#8⟩
      { y with link := { y.link with candidates := [⟨x.channel, site, b.abilities &&& 7#8⟩] } }
    rw [ht]
    refine ⟨?_, hlist⟩
    rw [State.joinsTuned, ← hradio]
    exact hjoins
  · obtain ⟨c, hbest, hjoins, -⟩ := State.endPass_joins (s := y) (by rw [hylist]; exact hsome)
    rw [if_neg hsome] at ht
    rw [hylist] at hbest
    rw [ht]
    refine ⟨c, hbest, ?_⟩
    rw [State.joinsTuned, ← hradio]
    exact hjoins

end Sys2Proof.Machine
end

section
/-! PROOFS. Grants, DENY and REJOIN, and what the frames of the membership do (O58). -/

namespace Sys2Proof.Machine

/-! ## A GRANT of kind JOIN (R28, R29) -/

theorem grantJoinFits_iff (slot period phase : Byte) :
    grantJoinFits slot period phase = true ↔
      slot.toNat ≤ 23 ∧ 1 ≤ period.toNat ∧ period.toNat ≤ 8 ∧ phase.toNat < period.toNat := by
  simp only [grantJoinFits, Bool.and_eq_true, decide_eq_true_eq, and_assoc]

/-- The link after a GRANT of kind JOIN (R29). -/
def LinkController.joinedAs (l : LinkController) (c : Candidate) (slot period phase : Byte) : LinkController :=
  { l with
    state := .joined, site := some ⟨c.channel, c.site, c.abilities, slot, period, phase⟩, candidates := [], joining := none,
    grantWait := none }

/-- Entry into JOINED (R29, R32, R55). -/
theorem State.enterJoined_spec (c : Candidate) (slot period phase : Byte) (s : State) :
    let t := s.enterJoined c slot period phase
    t.link = s.link.joinedAs c slot period phase ∧ t.sched.joinPlace = false ∧ t.sched.contention = .idle ∧
      t.page.counters = s.page.counters ∧ s.raises t 0x80#13 ∧ s.lampsStay t := by
  intro t
  generalize hx : ({ s.leaveJoin with link := s.link.joinedAs c slot period phase } : State) = x
  have ht : t = State.settleLong (x.raise .link) := by
    rw [← hx]
    rfl
  have hxsched : x.sched = s.sched.clearJoin := by rw [← hx]; rfl
  have hraised : (x.raise .link).sched = s.sched.clearJoin ∧ (x.raise .link).link = s.link.joinedAs c slot period phase := by
    rw [State.raise_eq]
    exact ⟨hxsched, by rw [← hx]⟩
  obtain ⟨hrsched, hrlink⟩ := hraised
  have hraises : s.raises (x.raise .link) 0x80#13 :=
    State.raises_of (State.raise_raises .link x) (by rw [← hx]; rfl) (by rw [← hx]; rfl)
  refine ⟨?_, ?_, ?_, ?_, ?_, ?_⟩
  · rw [ht, ← hrlink]
    simp only [State.settleLong_frame]
  · rw [ht]
    simp only [State.settleLong_fields]
    rw [hrsched]
    rfl
  · rw [ht]
    exact State.settleLong_idle (by rw [hrsched]; rfl)
  · rw [ht]
    simp only [State.settleLong_frame]
    obtain ⟨hpage, -⟩ := hraises
    rw [hpage]
  · rw [ht]
    exact State.raises_to hraises (by simp only [State.settleLong_frame]) (by simp only [State.settleLong_frame])
  · rw [ht, State.lampsStay]
    simp only [State.settleLong_frame]
    rw [State.raise_eq, ← hx]
    exact ⟨rfl, rfl, rfl, rfl, rfl⟩

/-! ## A GRANT of kind LONG (R61) -/

theorem LongState.takesGrant_iff (l : LongState) : l.takesGrant = true ↔ l ≠ .none ∧ l ≠ .held := by
  cases l <;> simp [LongState.takesGrant]

theorem State.takeGrant_iff (cycle : Word) (start count : Byte) (s : State) :
    (grantFits s.link.cycle cycle start count && s.sched.long.takesGrant) = true ↔
      1 ≤ count.toNat ∧ count.toNat ≤ 4 ∧ start.toNat + 3 * count.toNat ≤ 24 ∧ 1 ≤ (cycle - s.link.cycle).toNat ∧
        (cycle - s.link.cycle).toNat ≤ 4 ∧ s.sched.long ≠ .none ∧ s.sched.long ≠ .held := by
  simp only [grantFits, Bool.and_eq_true, decide_eq_true_eq, LongState.takesGrant_iff, and_assoc]

theorem Scheduler.emptySlotRequest_eq (u : Scheduler) :
    u.emptySlotRequest = { u with slotRequest := none, contention := u.emptySlotRequest.contention } := by
  cases h : u.slotRequest with
  | none =>
    have hsame : u.emptySlotRequest = u := by rw [Scheduler.emptySlotRequest, h]
    rw [hsame]
    exact congrArg (fun q => { u with slotRequest := q }) h
  | some r =>
    rw [Scheduler.emptySlotRequest, h]

/-- A grant that is taken is held, and the slot request leaves its place (R58, R61). -/
theorem State.takeGrant_holds {cycle : Word} {start count : Byte} {s : State}
    (h : (grantFits s.link.cycle cycle start count && s.sched.long.takesGrant) = true) :
    let t := s.takeGrant cycle start count
    t = { s with sched := t.sched, radio := t.radio } ∧
      t.sched = { s.sched with
        grant := some ⟨cycle, start.toNat, count.toNat, 0, false⟩, requests := 0, long := .held, slotRequest := none,
        contention := t.sched.contention } := by
  intro t
  have ht : t = { s.emptySlotRequest with sched := { s.emptySlotRequest.sched with
      grant := some ⟨cycle, start.toNat, count.toNat, 0, false⟩, requests := 0, long := .held } } := if_pos h
  have hsched : s.emptySlotRequest.sched = { s.sched with slotRequest := none, contention := s.sched.emptySlotRequest.contention } :=
    s.sched.emptySlotRequest_eq
  rw [ht, hsched]
  exact ⟨rfl, rfl⟩

/-! ## REJOIN (R31) -/

/-- From JOINED the link is QUIET, and nothing is handed to the memory or the other blocks (R22, R31, R32, R135). -/
theorem State.rejoins {s : State} (h : s.link.state = .joined) {m : OutMessage} (hm : s.msgs.flight = .flight m) :
    (s.enterQuiet false).msgs = { s.msgs with flight := .flight { m with next := 0 } } := by
  have hexit := (State.exitLink_of s).1 h
  have hquiet : s.enterQuiet false = { s.exitJoined with link := s.link.cleared .quiet } := by
    simp [State.enterQuiet, hexit, h]
  have hmsgs : s.exitJoined.msgs = (State.exitToMessages
      { s with sched := s.sched.clearWorking, radio := s.radio.leave .slotRequest, page := { s.page with linkUp := false } }).msgs := by
    unfold State.exitJoined
    simp only [State.raise_frame]
  rw [hquiet]
  show s.exitJoined.msgs = _
  rw [hmsgs]
  simp only [State.exitToMessages, State.restartMessage, State.changeFlight, hm, id]

/-! ## The obligation -/

/-- Where a frame that is heard finds the link: in JOIN if only a joining link takes it, in JOINED if it is no BEACON either. -/
theorem State.hears_routed {s : State} {h : DownHeader} {b : DownBody} (hh : s.hears h b = true) :
    (b.forJoin → ¬b.isBeacon → s.link.state = .join) ∧ (¬b.forJoin → ¬b.isBeacon → s.link.state = .joined) := by
  obtain ⟨-, -, -, hrouted, -⟩ := (s.hears_iff h b).1 hh
  obtain ⟨hbeacon, -⟩ | ⟨hjoin, hst⟩ | ⟨-, hnot, hst⟩ := (b.routedIn_iff s.link.state).1 hrouted
  · exact ⟨fun _ hn => absurd hbeacon hn, fun _ hn => absurd hbeacon hn⟩
  · exact ⟨fun _ _ => hst, fun hn => absurd hjoin hn⟩
  · exact ⟨fun hj => absurd hj hnot, fun _ _ => hst⟩

/-- Settles O58: the beacon by link states, then the other frames. -/
theorem beaconsAndMembershipFramesAct : Obligations.BeaconsAndMembershipFramesAct := by
  intro s h joins best quiet heard fails again
  have hjoins : ∀ t c, s.joinsTuned t c → joins t c := fun t c ⟨hst, hjoining, hattempts, hloss, _, hplace, htries, hidle, _⟩ =>
    ⟨hst, hjoining, hattempts, hloss, hplace, htries, hidle⟩
  have hloses : ∀ (t : State) (rest : List Candidate), t.losesCandidate rest →
      (rest = [] → quiet t) ∧ (rest ≠ [] → ∃ d, best d rest ∧ joins t d) := by
    rintro t rest ⟨hnone, hsome⟩
    refine ⟨fun hn => ?_, fun hn => ?_⟩
    · obtain ⟨hst, hlist, hwait, -, -, hplace, -⟩ := hnone hn
      exact ⟨hst, hlist, hwait, hplace⟩
    · obtain ⟨d, hbest, hst, hjoining, hattempts, hloss, -, hplace, htries, hidle⟩ := hsome hn
      exact ⟨d, hbest, hst, hjoining, hattempts, hloss, hplace, htries, hidle⟩
  refine ⟨fun b hh => ?_, fun slot period phase hh => ?_, fun reason c hh hc => ?_, fun hh => ?_, fun cycle start count hh => ?_⟩
  · have hexec : exec (.beacon h b) s = .next (s.takeBeacon h.site b) := exec_heard hh
    have hheard : s.heardIn b.heard = true ↔ heard b := s.heardIn_iff b.heard
    obtain ⟨hcycle, hslot, hwindow, hin, hclock, hcontention, hchannels, hkeeps⟩ := s.takeBeacon_aligned h.site b
    refine ⟨_, hexec, by simp, by simp, by simp, by simp, by simp, hcycle, hslot, hwindow, hin, hclock, hcontention, hchannels, hkeeps,
      fun hst => State.takeBeacon_quiet hst h.site b, fun hst hj => State.takeBeacon_joined hst hj hheard h.site,
      fun c hst hc => ?_, fun x hst hx he count hcount => ?_, fun x hst hx he => ?_⟩
    · obtain ⟨hnone, hout⟩ := State.takeBeacon_join (b := b) hst hc hheard h.site
      refine ⟨hnone, fun hj => ⟨(hout hj).1, fun hno => ?_⟩⟩
      obtain ⟨hcount, hfew, hlast⟩ := (hout hj).2 hno
      exact ⟨hcount, hfew, fun hge => hloses _ _ (hlast hge)⟩
    · obtain ⟨hmore, hfull⟩ := State.takeBeacon_hunt (b := b) hst hx he hcount
      refine ⟨hmore, fun hge => ?_⟩
      obtain ⟨hlist, hnext, hend⟩ := hfull hge
      exact ⟨hlist, hnext, fun hrest => (hend hrest).imp fun c hc => ⟨hc.1, hjoins _ _ hc.2⟩⟩
    · obtain ⟨hnone, hsome⟩ := State.takeBeacon_quickHunt (b := b) (site := h.site) hst hx he
      exact ⟨fun hn => ⟨hjoins _ _ (hnone hn).1, (hnone hn).2⟩, fun hn => (hsome hn).imp fun c hc => ⟨hc.1, hjoins _ _ hc.2⟩⟩
  · have hexec : exec (.grantJoin h slot period phase) s = .next (s.takeGrantJoin slot period phase) := exec_heard hh
    refine ⟨fun hno => ?_, fun hfits c hc => ?_⟩
    · have hnot : ¬grantJoinFits slot period phase = true := mt (grantJoinFits_iff slot period phase).1 hno
      rw [hexec, State.takeGrantJoin]
      cases s.link.joining with
      | none => rfl
      | some c => exact congrArg Host.Outcome.next (if_neg hnot)
    · have heq : s.takeGrantJoin slot period phase = s.enterJoined c slot period phase := by
        rw [State.takeGrantJoin, hc]
        exact if_pos ((grantJoinFits_iff slot period phase).2 hfits)
      obtain ⟨hlink, hplace, hidle, hcounters, hraises, hlamps⟩ := s.enterJoined_spec c slot period phase
      rw [heq] at hexec
      exact ⟨_, hexec, hlink, hplace, hidle, hcounters, hraises, hlamps, by simp, by simp, by simp, by simp, by simp, by simp, by simp, by simp⟩
  · have hexec : exec (.deny h reason) s = .next s.candidateFails := exec_heard hh
    have hst : s.link.state = .join := (State.hears_routed hh).1 (by simp [DownBody.forJoin]) (by simp [DownBody.isBeacon])
    obtain ⟨hframe, hlost, -⟩ := State.candidateFails_loses hst hc
    exact ⟨_, hexec, hframe, hloses _ _ hlost⟩
  · have hexec : exec (.rejoin h) s = .next (s.enterQuiet false) := exec_heard hh
    have hst : s.link.state = .joined := (State.hears_routed hh).2 (by simp [DownBody.forJoin]) (by simp [DownBody.isBeacon])
    obtain ⟨hlink, hsched, hcauses, hup, -⟩ := State.enterQuiet_fromJoined hst
    refine ⟨_, hexec, by simp, by simp, by simp, by simp, by simp, by simp, by simp, hlink, hcauses, hup, ?_, ?_, ?_, ?_, ?_, fun m hm => State.rejoins hst hm⟩
    all_goals rw [hsched]; rfl
  · have hexec : exec (.grantLong h cycle start count) s = .next (s.takeGrant cycle start count) := exec_heard hh
    refine ⟨fun hno => ?_, fun hfits => ⟨_, hexec, State.takeGrant_holds ((s.takeGrant_iff cycle start count).2 hfits)⟩⟩
    rw [hexec]
    exact congrArg Host.Outcome.next (if_neg (mt (s.takeGrant_iff cycle start count).1 hno))

end Sys2Proof.Machine
end

section
/-! PROOFS. The start of a slot: the grant, the slot mark and the choice of the contender (R18, R43, R44, R53, R54, R62). -/

namespace Sys2Proof.Machine

/-! ## When the cab may transmit (R43) -/

/-- The link is in a state in a power state that transmits. -/
def State.transmitsIn (s : State) (l : LinkState) : Prop := s.link.state = l ∧ (s.power.power = .active ∨ s.power.power = .parking)

theorem PowerState.transmits_iff (p : PowerState) : p.transmits = true ↔ p = .active ∨ p = .parking := by
  cases p <;> simp [PowerState.transmits]

theorem State.mayTransmit_iff (s : State) : s.mayTransmit = true ↔ s.transmitsIn .joined := by
  rw [State.mayTransmit, Bool.and_eq_true, beq_iff_eq, PowerState.transmits_iff, and_comm]
  rfl

theorem State.mayJoin_iff (s : State) : s.mayJoin = true ↔ s.transmitsIn .join := by
  rw [State.mayJoin, Bool.and_eq_true, beq_iff_eq, PowerState.transmits_iff, and_comm]
  rfl

theorem State.mayEither_iff (s : State) : (s.mayTransmit || s.mayJoin) = true ↔ s.transmitsIn .joined ∨ s.transmitsIn .join := by
  rw [Bool.or_eq_true, State.mayTransmit_iff, State.mayJoin_iff]

/-! ## The contender (R53, R54) -/

/-- The frame that contends first, with its attempt count (R53). -/
def State.firstContender (s : State) (c : Contender) (attempts : Nat) : Prop :=
  (c = .alert ∧ s.transmitsIn .joined ∧ s.sched.alertPlace ≠ none ∧ attempts = s.sched.alertAttempts) ∨
  (c = .join ∧ s.transmitsIn .join ∧ s.sched.joinPlace = true ∧ attempts = s.sched.joinAttempts) ∨
  (s.transmitsIn .joined ∧ s.sched.alertPlace = none ∧ ∃ b bs, s.sched.bids = b :: bs ∧ c = .bid b.job ∧ attempts = b.attempts) ∨
  (c = .slotRequest ∧ s.transmitsIn .joined ∧ s.sched.alertPlace = none ∧ s.sched.bids = [] ∧
    ∃ r, s.sched.slotRequest = some r ∧ r.fellBack = false ∧ attempts = r.attempts)

theorem State.chooseContender_join {s : State} (hj : s.transmitsIn .join) :
    s.chooseContender = if s.sched.joinPlace = true then some .join else none := by
  have hmay : ¬s.mayTransmit = true := fun h => absurd (hj.1.symm.trans (s.mayTransmit_iff.1 h).1) (by decide)
  rw [State.chooseContender, if_neg hmay, s.mayJoin_iff.2 hj, Bool.true_and]

theorem State.chooseContender_of_first {s : State} {c : Contender} {n : Nat} (h : s.firstContender c n) :
    s.chooseContender = some c ∧ s.sched.attemptsOf c = n := by
  obtain ⟨rfl, hmay, halert, rfl⟩ | ⟨rfl, hjoin, hplace, rfl⟩ | ⟨hmay, halert, b, bs, hbids, rfl, rfl⟩ |
    ⟨rfl, hmay, halert, hbids, r, hr, hfell, rfl⟩ := h
  · obtain ⟨a, ha⟩ := Option.ne_none_iff_exists'.1 halert
    exact ⟨by rw [State.chooseContender, if_pos (s.mayTransmit_iff.2 hmay), ha]; rfl, rfl⟩
  · exact ⟨(State.chooseContender_join hjoin).trans (if_pos hplace), rfl⟩
  · refine ⟨by rw [State.chooseContender, if_pos (s.mayTransmit_iff.2 hmay), halert, hbids]; rfl, ?_⟩
    rw [Scheduler.attemptsOf, hbids]
    simp
  · refine ⟨?_, by rw [Scheduler.attemptsOf, hr]; rfl⟩
    rw [State.chooseContender, if_pos (s.mayTransmit_iff.2 hmay), halert, hbids, hr]
    simp [hfell]

theorem State.first_of_chooseContender {s : State} {c : Contender} (h : s.chooseContender = some c) : ∃ n, s.firstContender c n := by
  by_cases hmay : s.mayTransmit = true
  · have hjoined := s.mayTransmit_iff.1 hmay
    rw [State.chooseContender, if_pos hmay] at h
    cases halert : s.sched.alertPlace with
    | some a =>
      rw [halert] at h
      cases h
      exact ⟨_, .inl ⟨rfl, hjoined, by rw [halert]; exact Option.some_ne_none a, rfl⟩⟩
    | none =>
      rw [halert] at h
      cases hbids : s.sched.bids with
      | cons b bs =>
        rw [hbids] at h
        cases h
        exact ⟨_, .inr (.inr (.inl ⟨hjoined, halert, b, bs, hbids, rfl, rfl⟩))⟩
      | nil =>
        cases hr : s.sched.slotRequest with
        | none =>
          rw [hbids, hr] at h
          cases h
        | some r =>
          rw [hbids, hr] at h
          cases hfell : r.fellBack with
          | true =>
            simp [hfell] at h
          | false =>
            have hc : c = .slotRequest := by simpa [hfell, eq_comm] using h
            exact ⟨_, .inr (.inr (.inr ⟨hc, hjoined, halert, hbids, r, hr, hfell, rfl⟩))⟩
  · by_cases hj : s.mayJoin = true
    · have hjoin := s.mayJoin_iff.1 hj
      rw [State.chooseContender_join hjoin] at h
      by_cases hplace : s.sched.joinPlace = true
      · rw [if_pos hplace] at h
        cases h
        exact ⟨_, .inr (.inl ⟨rfl, hjoin, hplace, rfl⟩)⟩
      · rw [if_neg hplace] at h
        cases h
    · rw [State.chooseContender, if_neg hmay, if_neg (by simp [hj])] at h
      cases h

theorem State.chooseContender_none {s : State} (h : ∀ c n, ¬s.firstContender c n) : s.chooseContender = none := by
  cases hc : s.chooseContender with
  | none => rfl
  | some c =>
    obtain ⟨n, hn⟩ := State.first_of_chooseContender hc
    exact absurd hn (h c n)

/-- The choice of the contender changes contention and the random source only. -/
theorem State.contenderChoice_contention (s : State) :
    s.contenderChoice = { s with sched := { s.sched with
      contention := s.contenderChoice.sched.contention, draws := s.contenderChoice.sched.draws } } := by
  unfold State.contenderChoice
  split
  · split
    · rfl
    · rfl
    · rfl
    · split <;> rfl
    · split <;> rfl
  · rfl

/-- Nothing is chosen while the cab may not transmit, or while a transmission is outstanding. -/
theorem State.contenderChoice_stays {s : State}
    (h : ¬(s.transmitsIn .joined ∨ s.transmitsIn .join) ∨ ∃ d, s.sched.contention = .outstanding d) : s.contenderChoice = s := by
  unfold State.contenderChoice
  by_cases hmay : (s.mayTransmit || s.mayJoin) = true
  · obtain ⟨d, hd⟩ := h.resolve_left fun hn => hn (s.mayEither_iff.1 hmay)
    rw [if_pos hmay, hd]
  · rw [if_neg hmay]

/-- What the contention state and the random source are after the choice at slot 0 (R53, R54). -/
def State.chosenFrom (s : State) (held : Contention) (draws : Nat) : Prop :=
  ((∀ c n, ¬s.firstContender c n) → held = .idle ∧ draws = s.sched.draws) ∧
  ∀ c n, s.firstContender c n →
    (∀ d, s.sched.contention = .slotted c d → held = .slotted c d ∧ draws = s.sched.draws) ∧
    (∀ w, s.sched.contention = .waiting c w → held = .waiting c (w - 1) ∧ draws = s.sched.draws) ∧
    ((∀ d, s.sched.contention ≠ .slotted c d) → (∀ w, s.sched.contention ≠ .waiting c w) →
      ∃ w, w < 2 ^ min n 4 ∧ held = .waiting c w ∧ draws = s.sched.draws + 1)

theorem State.contenderChoice_new {s : State} {c : Contender} (hmay : (s.mayTransmit || s.mayJoin) = true)
    (hc : s.chooseContender = some c) (hout : ∀ d, s.sched.contention ≠ .outstanding d)
    (hslotted : ∀ d, s.sched.contention ≠ .slotted c d) (hwaiting : ∀ w, s.sched.contention ≠ .waiting c w) :
    s.contenderChoice = { s with sched := s.sched.newContender c } := by
  unfold State.contenderChoice
  rw [if_pos hmay, hc]
  cases hk : s.sched.contention with
  | outstanding d => exact absurd hk (hout d)
  | idle => rfl
  | waiting d w =>
    have hne : d ≠ c := fun e => hwaiting w (by rw [hk, e])
    simp [hne]
  | slotted d n =>
    have hne : d ≠ c := fun e => hslotted n (by rw [hk, e])
    simp [hne]

theorem State.contenderChoice_chosen {s : State} (hmay : s.transmitsIn .joined ∨ s.transmitsIn .join)
    (hout : ∀ d, s.sched.contention ≠ .outstanding d) :
    s.chosenFrom s.contenderChoice.sched.contention s.contenderChoice.sched.draws := by
  have hbit := s.mayEither_iff.2 hmay
  refine ⟨fun hnone => ?_, fun c n hfirst => ?_⟩
  · have hc := State.chooseContender_none hnone
    unfold State.contenderChoice
    rw [if_pos hbit, hc]
    cases hk : s.sched.contention with
    | outstanding d => exact absurd hk (hout d)
    | _ => exact ⟨rfl, rfl⟩
  · obtain ⟨hc, hn⟩ := State.chooseContender_of_first hfirst
    refine ⟨fun d hd => ?_, fun w hw => ?_, fun hslotted hwaiting => ?_⟩
    · have hsame : s.contenderChoice = s := by
        unfold State.contenderChoice
        rw [if_pos hbit, hc, hd]
        exact if_pos rfl
      rw [hsame]
      exact ⟨hd, rfl⟩
    · have hless : s.contenderChoice = { s with sched := { s.sched with contention := .waiting c (w - 1) } } := by
        unfold State.contenderChoice
        rw [if_pos hbit, hc, hw]
        exact if_pos rfl
      rw [hless]
      exact ⟨rfl, rfl⟩
    · rw [State.contenderChoice_new hbit hc hout hslotted hwaiting]
      refine ⟨_, ?_, rfl, rfl⟩
      rw [hn]
      exact Scheduler.draw_lt _ (Nat.two_pow_pos _)

/-! ## A slot begins (R18, R44, R62) -/

/-- The state in which a slot is used: marked, its grant seen, and the contender chosen. -/
def State.slotBegun (s : State) (k : Nat) (held : Contention) (draws : Nat) : State :=
  { s with
    link := { s.link with nextSlot := k + 1 }, radio := { s.radio with output := s.radio.output ++ [.slotMark k] },
    sched := { s.sched with
      contention := held, draws := draws, grant := s.sched.grant.map (fun g => { g with seen := g.seen || g.cycle == s.link.cycle }) } }

/-- What the start of slot `k` makes of contention. -/
def State.slotChoice (s : State) (k : Nat) (held : Contention) (draws : Nat) : Prop :=
  (k ≠ 0 ∨ ¬(s.transmitsIn .joined ∨ s.transmitsIn .join) ∨ (∃ d, s.sched.contention = .outstanding d) →
    held = s.sched.contention ∧ draws = s.sched.draws) ∧
  (k = 0 → s.transmitsIn .joined ∨ s.transmitsIn .join → (∀ d, s.sched.contention ≠ .outstanding d) → s.chosenFrom held draws)

theorem State.grantOver_iff (k : Nat) (s : State) :
    s.grantOver k = true ↔ ∃ g, s.sched.grant = some g ∧ g.seen = true ∧ (g.cycle ≠ s.link.cycle ∨ g.start + 3 * g.count ≤ k) := by
  simp only [State.grantOver, Option.any_eq_true, Bool.and_eq_true, Bool.or_eq_true, bne_iff_ne, decide_eq_true_eq]
  rfl

/-- With the window closed and no grant over, a slot begins and is used. -/
theorem State.startSlot_begins {s : State} {k : Nat} (hk : s.link.nextSlot = k) (hw : s.link.window = false) (hg : s.grantOver k = false) :
    ∃ held draws, s.slotChoice k held draws ∧ s.startSlot = (s.slotBegun k held draws).useSlot k := by
  have hstart : s.startSlot = State.useSlot k (if k = 0 then (s.slotBegun k s.sched.contention s.sched.draws).contenderChoice
      else s.slotBegun k s.sched.contention s.sched.draws) := by
    have hover : (s.markSlot k).grantOver k = false := hg
    unfold State.startSlot
    rw [State.closeWindow_closed hw]
    dsimp only
    rw [hk, State.grantAtSlot, hover]
    rfl
  by_cases h0 : k = 0
  · rw [if_pos h0] at hstart
    have hkeeps := (s.slotBegun k s.sched.contention s.sched.draws).contenderChoice_contention
    refine ⟨(s.slotBegun k s.sched.contention s.sched.draws).contenderChoice.sched.contention,
      (s.slotBegun k s.sched.contention s.sched.draws).contenderChoice.sched.draws, ⟨fun hn => ?_, fun _ hmay hout => ?_⟩, ?_⟩
    · have hstays := State.contenderChoice_stays (s := s.slotBegun k s.sched.contention s.sched.draws) (hn.resolve_left fun h => h h0)
      rw [hstays]
      exact ⟨rfl, rfl⟩
    · exact State.contenderChoice_chosen (s := s.slotBegun k s.sched.contention s.sched.draws) hmay hout
    · rw [hstart]
      exact congrArg (State.useSlot k) hkeeps
  · rw [if_neg h0] at hstart
    exact ⟨_, _, ⟨fun _ => ⟨rfl, rfl⟩, fun h => absurd h h0⟩, hstart⟩

/-- With the window still open the slot begins as it does after the window's close. -/
theorem State.startSlot_closes (s : State) : s.startSlot = s.closeWindow.startSlot := by
  have hclosed : s.closeWindow.closeWindow = s.closeWindow := State.closeWindow_closed s.closeWindow_window
  unfold State.startSlot
  rw [hclosed]

/-- With a grant that is over the slot begins as it does after the grant's end. -/
theorem State.startSlot_ends {s : State} {k : Nat} (hk : s.link.nextSlot = k) (hw : s.link.window = false) (hg : s.grantOver k = true) :
    s.startSlot = s.endGrant.startSlot := by
  obtain ⟨hframe, hsched, -⟩ := s.endGrant_spec
  have hwindow : s.endGrant.link.window = false := by rw [hframe]; exact hw
  have hslot : s.endGrant.link.nextSlot = k := by rw [hframe]; exact hk
  have hover : (s.endGrant.markSlot k).grantOver k = false := by
    show s.endGrant.sched.grant.any _ = false
    rw [hsched]
    rfl
  have hover' : (s.markSlot k).grantOver k = true := hg
  have hmark : (s.markSlot k).endGrant = s.endGrant.markSlot k := by
    rw [State.endGrant_eq, State.endGrant_eq]
    rfl
  unfold State.startSlot
  rw [State.closeWindow_closed hw, State.closeWindow_closed hwindow]
  dsimp only
  rw [hk, hslot, State.grantAtSlot, State.grantAtSlot, hover, hover', hmark]
  rfl

theorem exec_slotStart {s : State} (hr : s.ready = true) (hk : s.link.nextSlot < 24) : exec .slotStart s = .next s.startSlot :=
  congrArg Host.Outcome.next (if_pos (by simp [hr, hk]))

end Sys2Proof.Machine
end

section
/-! PROOFS. What a slot carries: the long frame, the reserved slot, and the drawn contention slot (R44, R51, R55, R62). -/

namespace Sys2Proof.Machine

/-! ## Long slots (R44, R62) -/

/-- The slot is the first one of a long slot of the granted cycle, and the cab may transmit in it. -/
def State.inLong (s : State) (k : Nat) : Prop :=
  s.transmitsIn .joined ∧ ∃ g, s.sched.grant = some g ∧ g.cycle = s.link.cycle ∧ g.start ≤ k ∧ k < g.start + 3 * g.count ∧
    (k - g.start) % 3 = 0

/-- The oldest fare report that is due, at a site that takes it. -/
def State.dueFare (s : State) (r : FareReport) : Prop := s.siteHasFare = true ∧ s.trips.reports.find? FareReport.due = some r

/-- The shift report that is due, at a site that takes it. -/
def State.dueShift (s : State) (r : ShiftReport) : Prop :=
  s.siteHasFare = true ∧ s.trips.shiftReport = some r ∧ reportDue r.sends r.come = true

/-- The message in flight has a fragment that is due, at a site that takes it. -/
def State.dueText (s : State) (m : OutMessage) : Prop := s.siteHasText = true ∧ s.msgs.flight = .flight m ∧ m.next < m.fragments

/-- A long frame begins in the slot. -/
def State.usesLong (s : State) (k : Nat) : Prop := s.inLong k ∧ ((∃ r, s.dueFare r) ∨ (∃ r, s.dueShift r) ∨ ∃ m, s.dueText m)

theorem State.fareChoice_iff (s : State) (r : FareReport) :
    (if s.siteHasFare then s.trips.reports.find? FareReport.due else none) = some r ↔ s.dueFare r := by
  unfold State.dueFare
  cases s.siteHasFare <;> simp

theorem State.shiftChoice_iff (s : State) (r : ShiftReport) :
    (if s.siteHasFare then s.trips.shiftReport.filter ShiftReport.due else none) = some r ↔ s.dueShift r := by
  unfold State.dueShift
  cases s.siteHasFare with
  | true => simp only [if_true, Option.filter_eq_some_iff, true_and]; rfl
  | false => simp

/-- The long frame that is chosen (R62). -/
theorem State.longFrame_spec (s : State) :
    (∀ r, s.dueFare r → s.longFrame = some ⟨.fare r.record.ref, s.fareFrame (r.sends + 1) r.record⟩) ∧
      ((∀ r, ¬s.dueFare r) →
        (∀ r, s.dueShift r → s.longFrame = some ⟨.shift r.content.totals.shiftNumber, s.shiftFrame (r.sends + 1) r.content⟩) ∧
        ((∀ r, ¬s.dueShift r) →
          (∀ m, s.dueText m → s.longFrame = some ⟨.text m.tag m.next, s.textFrame m m.next⟩) ∧
          ((∀ m, ¬s.dueText m) → s.longFrame = none))) := by
  refine ⟨fun r hr => ?_, fun hf => ⟨fun r hr => ?_, fun hs => ⟨fun m hm => ?_, fun ht => ?_⟩⟩⟩
  · rw [State.longFrame, (s.fareChoice_iff r).2 hr]
  · rw [State.longFrame, Option.eq_none_iff_forall_ne_some.2 fun r hr => hf r ((s.fareChoice_iff r).1 hr), (s.shiftChoice_iff r).2 hr]
  all_goals rw [State.longFrame, Option.eq_none_iff_forall_ne_some.2 fun r hr => hf r ((s.fareChoice_iff r).1 hr),
    Option.eq_none_iff_forall_ne_some.2 fun r hr => hs r ((s.shiftChoice_iff r).1 hr)]
  · obtain ⟨hsite, hflight, hnext⟩ := hm
    rw [hflight]
    exact if_pos (by simp [hsite, hnext])
  · cases hflight : s.msgs.flight with
    | flight m =>
      refine if_neg fun hc => ht m ?_
      rw [Bool.and_eq_true, decide_eq_true_eq] at hc
      exact ⟨hc.1, hflight, hc.2⟩
    | _ => rfl

/-! ## The reserved slot (R19, R44, R51) -/

/-- The slot is the cab's reserved slot of the cycle, and the cab may transmit in it. -/
def State.inReserved (s : State) (k : Nat) : Prop :=
  s.transmitsIn .joined ∧ ∃ r, s.link.site = some r ∧ s.link.cycle.toNat % r.period.toNat = r.phase.toNat ∧ r.slot.toNat = k

/-- A frame waits in a place or list that the reserved slot serves. -/
def State.waitsReserved (s : State) : Prop :=
  s.sched.alertPlace ≠ none ∨ s.sched.acks ≠ [] ∨ s.sched.bids ≠ [] ∨ s.sched.flowPlace ≠ none ∨
    s.sched.slotRequest ≠ none ∨ s.sched.statusPlace ≠ none

theorem State.reservedSlot_iff {s : State} (h : s.link.state = .joined) (k : Nat) :
    s.reservedSlot = some k ↔ ∃ r, s.link.site = some r ∧ s.link.cycle.toNat % r.period.toNat = r.phase.toNat ∧ r.slot.toNat = k := by
  unfold State.reservedSlot
  rw [if_pos (by simp [h])]
  cases s.link.site with
  | none => simp
  | some r =>
    by_cases hp : s.link.cycle.toNat % r.period.toNat = r.phase.toNat
    · simp [hp]
    · simp [hp]

theorem State.inReserved_iff (s : State) (k : Nat) : (s.mayTransmit && s.reservedSlot == some k) = true ↔ s.inReserved k := by
  rw [Bool.and_eq_true, State.mayTransmit_iff, beq_iff_eq]
  exact ⟨fun ⟨hmay, hslot⟩ => ⟨hmay, (State.reservedSlot_iff hmay.1 k).1 hslot⟩,
    fun ⟨hmay, hslot⟩ => ⟨hmay, (State.reservedSlot_iff hmay.1 k).2 hslot⟩⟩

/-- The arbiter finds a frame exactly when one waits. -/
theorem State.arbiterFrame_isSome_iff (s : State) : s.arbiterFrame.isSome = true ↔ s.waitsReserved := by
  unfold State.arbiterFrame State.waitsReserved
  cases s.sched.alertPlace with
  | some a => simp
  | none =>
    cases s.sched.acks with
    | cons t ts => simp
    | nil =>
      cases s.sched.bids with
      | cons b bs => simp
      | nil =>
        cases s.sched.flowPlace with
        | some c => simp
        | none =>
          cases s.sched.slotRequest with
          | some r => simp
          | none => cases s.sched.statusPlace <;> simp

/-! ## A slot that carries a frame, and one that does not (R16) -/

/-- The slot is marked and a frame goes on the air in it. -/
def State.slotSends (s t : State) (k : Nat) (name : FrameName) (via : Via) (bytes : List Byte) : Prop :=
  t.radio = { s.radio with
    sending := some ⟨name, via, true⟩,
    output := s.radio.output ++ [.slotMark k, .order (.send (BitVec.ofNat 8 k) bytes)] }

/-- The slot is marked, and nothing else goes to the transceiver. -/
def State.slotSilent (s t : State) (k : Nat) : Prop := t.radio = { s.radio with output := s.radio.output ++ [.slotMark k] }

theorem State.slotBegun_silent (s : State) (k : Nat) (held : Contention) (draws : Nat) : s.slotSilent (s.slotBegun k held draws) k := rfl

theorem State.send_sends {s x : State} {k : Nat} (hx : s.slotSilent x k) (via : Via) (f : Outgoing) :
    s.slotSends (x.send via k f) k f.name via f.bytes := by
  show x.radio.beginSend f.name via k f.bytes = _
  rw [show x.radio = _ from hx, Transceiver.beginSend]
  simp

/-! ## The use of a slot that has begun (R44) -/

section
variable (s : State) (k : Nat) (held : Contention) (draws : Nat)

/-- In a slot that has begun the long frame is that of before. -/
theorem State.slotBegun_longUse :
    (s.inLong k → (s.slotBegun k held draws).longUse k = s.longFrame) ∧ (¬s.inLong k → (s.slotBegun k held draws).longUse k = none) := by
  have hstarts : (s.slotBegun k held draws).longSlotStarts k = s.longSlotStarts k := by
    show (s.sched.grant.map _).any _ = s.sched.grant.any _
    cases s.sched.grant <;> rfl
  have hiff : ((s.slotBegun k held draws).mayTransmit && (s.slotBegun k held draws).longSlotStarts k) = true ↔ s.inLong k := by
    rw [hstarts, Bool.and_eq_true]
    refine and_congr s.mayTransmit_iff ?_
    simp only [State.longSlotStarts, Option.any_eq_true, Bool.and_eq_true, beq_iff_eq, decide_eq_true_eq, and_assoc]
    rfl
  exact ⟨fun h => if_pos (hiff.2 h), fun h => if_neg (mt hiff.1 h)⟩

theorem State.slotBegun_reservedUse :
    (s.inReserved k → (s.slotBegun k held draws).reservedUse k = s.arbiterFrame) ∧
      (¬s.inReserved k → (s.slotBegun k held draws).reservedUse k = none) :=
  ⟨fun h => if_pos ((s.inReserved_iff k).2 h), fun h => if_neg (mt (s.inReserved_iff k).1 h)⟩

/-- A long frame begins in the slot if and only if one is due in a long slot. -/
theorem State.slotBegun_longUse_none (h : ¬s.usesLong k) : (s.slotBegun k held draws).longUse k = none := by
  obtain ⟨hin, hout⟩ := s.slotBegun_longUse k held draws
  by_cases hlong : s.inLong k
  · obtain ⟨-, hrest⟩ := s.longFrame_spec
    rw [hin hlong]
    exact ((hrest fun r hr => h ⟨hlong, .inl ⟨r, hr⟩⟩).2 fun r hr => h ⟨hlong, .inr (.inl ⟨r, hr⟩)⟩).2
      fun m hm => h ⟨hlong, .inr (.inr ⟨m, hm⟩)⟩
  · exact hout hlong

theorem State.slotBegun_longUse_some (h : s.usesLong k) : ∃ f, (s.slotBegun k held draws).longUse k = some f := by
  obtain ⟨hlong, hdue⟩ := h
  obtain ⟨hfare, hrest⟩ := s.longFrame_spec
  rw [(s.slotBegun_longUse k held draws).1 hlong]
  by_cases hf : ∃ r, s.dueFare r
  · obtain ⟨r, hr⟩ := hf
    exact ⟨_, hfare r hr⟩
  · obtain ⟨hshift, htext⟩ := hrest fun r hr => hf ⟨r, hr⟩
    by_cases hs : ∃ r, s.dueShift r
    · obtain ⟨r, hr⟩ := hs
      exact ⟨_, hshift r hr⟩
    · obtain ⟨m, hm⟩ := (hdue.resolve_left hf).resolve_left hs
      exact ⟨_, (htext fun r hr => hs ⟨r, hr⟩).1 m hm⟩

theorem State.slotBegun_reservedUse_none (h : ¬(s.inReserved k ∧ s.waitsReserved)) : (s.slotBegun k held draws).reservedUse k = none := by
  obtain ⟨hin, hout⟩ := s.slotBegun_reservedUse k held draws
  by_cases hr : s.inReserved k
  · rw [hin hr]
    exact Option.not_isSome_iff_eq_none.1 fun hc => h ⟨hr, s.arbiterFrame_isSome_iff.1 hc⟩
  · exact hout hr

theorem State.slotBegun_reservedUse_some (h : s.inReserved k ∧ s.waitsReserved) :
    ∃ f, (s.slotBegun k held draws).reservedUse k = some f := by
  rw [(s.slotBegun_reservedUse k held draws).1 h.1]
  exact Option.isSome_iff_exists.1 (s.arbiterFrame_isSome_iff.2 h.2)

end

theorem State.useSlot_busy {x : State} (h : x.radio.sending ≠ none) (k : Nat) : x.useSlot k = x := if_pos (Option.isSome_iff_ne_none.2 h)

/-- On a free transmitter the long frame comes first, then that of the reserved slot, then the contender (R44). -/
theorem State.useSlot_free {x : State} {k : Nat} (h : x.radio.sending = none) :
    (∀ f, x.longUse k = some f → x.useSlot k = x.send .long k f) ∧
      (∀ f, x.longUse k = none → x.reservedUse k = some f → x.useSlot k = x.send .reserved k f) ∧
      (x.longUse k = none → x.reservedUse k = none → x.useSlot k = x.useDrawnSlot k) := by
  have hfree : ¬x.radio.sending.isSome = true := by simp [h]
  refine ⟨fun f hf => ?_, fun f hl hf => ?_, fun hl hr => ?_⟩
  · rw [State.useSlot, if_neg hfree, hf]
  · rw [State.useSlot, if_neg hfree, hl, hf]
  · rw [State.useSlot, if_neg hfree, hl, hr]

/-! ## The drawn slot (R55) -/

/-- The contender has left its place, or may not be transmitted. -/
def State.contenderGone (s : State) (c : Contender) : Prop :=
  (c = .alert ∧ (¬s.transmitsIn .joined ∨ s.sched.alertPlace = none)) ∨ (c = .join ∧ (¬s.transmitsIn .join ∨ s.sched.joinPlace = false)) ∨
    (∃ job, c = .bid job ∧ (¬s.transmitsIn .joined ∨ ∀ b ∈ s.sched.bids, b.job ≠ job)) ∨
    (c = .slotRequest ∧ (¬s.transmitsIn .joined ∨ s.sched.slotRequest = none))

theorem State.contenderFrame_none {s : State} {c : Contender} (h : s.contenderGone c) : s.contenderFrame c = none := by
  obtain ⟨rfl, h⟩ | ⟨rfl, h⟩ | ⟨job, rfl, h⟩ | ⟨rfl, h⟩ := h
  · cases ha : s.sched.alertPlace with
    | none => rw [State.contenderFrame, ha]
    | some a =>
      rw [State.contenderFrame, ha]
      exact if_neg fun hm => h.elim (fun hn => hn (s.mayTransmit_iff.1 hm)) fun hn => absurd (ha.symm.trans hn) (Option.some_ne_none a)
  · refine if_neg fun hc => ?_
    rw [Bool.and_eq_true, State.mayJoin_iff] at hc
    exact h.elim (fun hn => hn hc.1) fun hn => absurd (hc.2.symm.trans hn) (by decide)
  · cases hb : s.sched.bids.find? (fun b => b.job == job) with
    | none => rw [State.contenderFrame, hb]
    | some b =>
      rw [State.contenderFrame, hb]
      refine if_neg fun hm => h.elim (fun hn => hn (s.mayTransmit_iff.1 hm)) fun hn => hn b (List.mem_of_find?_eq_some hb) ?_
      simpa using List.find?_some hb
  · refine if_neg fun hc => ?_
    rw [Bool.and_eq_true, State.mayTransmit_iff] at hc
    exact h.elim (fun hn => hn hc.1) fun hn => by simp [hn] at hc

theorem State.contenderFrame_some (s : State) :
    (∀ a, s.transmitsIn .joined → s.sched.alertPlace = some a → s.contenderFrame .alert = some ⟨.alert a.number, s.alertFrame a⟩) ∧
      (∀ b, s.transmitsIn .joined → s.sched.bids.find? (fun d => d.job == b.job) = some b →
        s.contenderFrame (.bid b.job) = some ⟨.bid b.job, s.bidFrame b⟩) ∧
      (s.transmitsIn .joined → s.sched.slotRequest ≠ none → s.contenderFrame .slotRequest = some s.slotRequestOut) ∧
      (s.transmitsIn .join → s.sched.joinPlace = true → s.contenderFrame .join = some ⟨.join, s.joinFrame⟩) := by
  refine ⟨fun a hm ha => ?_, fun b hm hb => ?_, fun hm hr => ?_, fun hj hp => ?_⟩
  · rw [State.contenderFrame, ha]
    exact if_pos (s.mayTransmit_iff.2 hm)
  · rw [State.contenderFrame, hb]
    exact if_pos (s.mayTransmit_iff.2 hm)
  · exact if_pos (by rw [s.mayTransmit_iff.2 hm, Option.isSome_iff_ne_none.2 hr]; rfl)
  · exact if_pos (by rw [s.mayJoin_iff.2 hj, hp]; rfl)

/-- The use of the drawn slot by what contention holds. -/
theorem State.useDrawnSlot_eq (s : State) (k : Nat) (held : Contention) (draws : Nat) :
    ((∀ c, held ≠ .slotted c k) → (s.slotBegun k held draws).useDrawnSlot k = s.slotBegun k held draws) ∧
      (∀ c, held = .slotted c k → s.contenderFrame c = none →
        (s.slotBegun k held draws).useDrawnSlot k = s.slotBegun k .idle draws) ∧
      ∀ c f, held = .slotted c k → s.contenderFrame c = some f →
        (s.slotBegun k held draws).useDrawnSlot k =
          State.send .contention k f (State.contenderKeyed c (s.slotBegun k (.outstanding (some c)) draws)) := by
  refine ⟨fun h => ?_, fun c hc hf => ?_, fun c f hc hf => ?_⟩
  · cases held with
    | slotted c d => exact if_neg fun hd => h c (by rw [hd])
    | _ => rfl
  · subst hc
    have hnone : (s.slotBegun k (.slotted c k) draws).contenderFrame c = none := hf
    refine (if_pos rfl).trans ?_
    rw [hnone]
    rfl
  · subst hc
    have hsome : (s.slotBegun k (.slotted c k) draws).contenderFrame c = some f := hf
    refine (if_pos rfl).trans ?_
    rw [hsome]
    rfl

/-- The link hears of a JOIN transmission only (R27, R55). -/
theorem State.contenderKeyed_other {c : Contender} (h : c ≠ .join) (s : State) : s.contenderKeyed c = s := by
  cases c with
  | join => exact absurd rfl h
  | _ => rfl

theorem State.contenderKeyed_silent {s x : State} {k : Nat} (h : s.slotSilent x k) (c : Contender) : s.slotSilent (x.contenderKeyed c) k := by
  cases c <;> exact h

end Sys2Proof.Machine
end

section
/-! PROOFS. The start of a slot, as a whole (R44). -/

namespace Sys2Proof.Machine

/-! ## What the use of a slot may change -/

theorem State.contenderKeyed_keeps (c : Contender) (x : State) : x.contenderKeyed c = { x with link := (x.contenderKeyed c).link } := by
  cases c <;> rfl

/-- The drawn slot changes contention, the transceiver and, for a JOIN, the link. -/
theorem State.useDrawnSlot_keeps (k : Nat) (x : State) :
    x.useDrawnSlot k = { x with
      link := (x.useDrawnSlot k).link, radio := (x.useDrawnSlot k).radio,
      sched := { x.sched with contention := (x.useDrawnSlot k).sched.contention } } ∧
    (x.sched.contention ≠ .slotted .join k → (x.useDrawnSlot k).link = x.link) := by
  cases hc : x.sched.contention with
  | slotted c d =>
    by_cases hd : d = k
    · have heq : x.useDrawnSlot k = match x.contenderFrame c with
          | some f => State.send .contention k f
              (State.contenderKeyed c { x with sched := { x.sched with contention := .outstanding (some c) } })
          | none => { x with sched := { x.sched with contention := .idle } } := by
        rw [State.useDrawnSlot, hc]
        exact if_pos hd
      cases hf : x.contenderFrame c with
      | none =>
        rw [hf] at heq
        rw [heq]
        exact ⟨rfl, fun _ => rfl⟩
      | some f =>
        rw [hf] at heq
        rw [heq]
        refine ⟨?_, fun hn => ?_⟩
        · cases c <;> rfl
        · have hnot : c ≠ .join := fun e => hn (by rw [e, hd])
          rw [State.contenderKeyed_other hnot]
          rfl
    · have heq : x.useDrawnSlot k = x := by
        rw [State.useDrawnSlot, hc]
        exact if_neg hd
      rw [heq]
      exact ⟨rfl, fun _ => rfl⟩
  | _ =>
    have heq : x.useDrawnSlot k = x := by rw [State.useDrawnSlot, hc]
    rw [heq]
    exact ⟨rfl, fun _ => rfl⟩

theorem State.useSlot_keeps (k : Nat) (x : State) :
    x.useSlot k = { x with
      link := (x.useSlot k).link, radio := (x.useSlot k).radio,
      sched := { x.sched with contention := (x.useSlot k).sched.contention } } ∧
    (x.sched.contention ≠ .slotted .join k → (x.useSlot k).link = x.link) := by
  by_cases hs : x.radio.sending = none
  · obtain ⟨hlong, hreserved, hdrawn⟩ := State.useSlot_free (k := k) hs
    cases hl : x.longUse k with
    | some f =>
      rw [hlong f hl]
      exact ⟨rfl, fun _ => rfl⟩
    | none =>
      cases hr : x.reservedUse k with
      | some f =>
        rw [hreserved f hl hr]
        exact ⟨rfl, fun _ => rfl⟩
      | none =>
        rw [hdrawn hl hr]
        exact x.useDrawnSlot_keeps k
  · rw [State.useSlot_busy hs]
    exact ⟨rfl, fun _ => rfl⟩

/-! ## What a slot that has begun carries -/

section
variable {s t : State} {k : Nat} {held : Contention} {draws : Nat}
  (ht : t = (s.slotBegun k held draws).useSlot k)
include ht

/-- The frame of t is that of s, but for the link, the transceiver and the scheduler. -/
theorem State.slot_keeps :
    t = { s with link := t.link, radio := t.radio, sched := t.sched } ∧
      t.sched = { s.sched with
        contention := t.sched.contention, draws := draws,
        grant := s.sched.grant.map (fun g => { g with seen := g.seen || g.cycle == s.link.cycle }) } ∧
      (held ≠ .slotted .join k → t.link = { s.link with nextSlot := k + 1 }) := by
  obtain ⟨hframe, hlink⟩ := (s.slotBegun k held draws).useSlot_keeps k
  rw [← ht] at hframe hlink
  refine ⟨?_, ?_, hlink⟩
  · generalize t = u at hframe ⊢
    rw [hframe]
    rfl
  · have hsched : t.sched = { (s.slotBegun k held draws).sched with contention := t.sched.contention } := by
      generalize t = u at hframe ⊢
      rw [hframe]
    exact hsched

theorem State.slot_busy (hs : s.radio.sending ≠ none) : t = s.slotBegun k held draws := by
  rw [ht]
  exact State.useSlot_busy (x := s.slotBegun k held draws) hs k

theorem State.slot_long {f : Outgoing} (hs : s.radio.sending = none) (hin : s.inLong k) (hf : s.longFrame = some f) :
    t = (s.slotBegun k held draws).send .long k f := by
  rw [ht]
  exact (State.useSlot_free (x := s.slotBegun k held draws) hs).1 f (((s.slotBegun_longUse k held draws).1 hin).trans hf)

theorem State.slot_reserved {f : Outgoing} (hs : s.radio.sending = none) (hl : ¬s.usesLong k) (hin : s.inReserved k)
    (hf : s.arbiterFrame = some f) : t = (s.slotBegun k held draws).send .reserved k f := by
  rw [ht]
  exact (State.useSlot_free (x := s.slotBegun k held draws) hs).2.1 f (s.slotBegun_longUse_none k held draws hl)
    (((s.slotBegun_reservedUse k held draws).1 hin).trans hf)

theorem State.slot_drawn (hs : s.radio.sending = none) (hl : ¬s.usesLong k) (hr : ¬(s.inReserved k ∧ s.waitsReserved)) :
    t = (s.slotBegun k held draws).useDrawnSlot k := by
  rw [ht]
  exact (State.useSlot_free (x := s.slotBegun k held draws) hs).2.2 (s.slotBegun_longUse_none k held draws hl)
    (s.slotBegun_reservedUse_none k held draws hr)

/-- A busy transmitter, a long frame and the reserved slot leave contention and the link as they are. -/
theorem State.slot_keepsContention (h : s.radio.sending ≠ none ∨ s.usesLong k ∨ (s.inReserved k ∧ s.waitsReserved)) :
    t.sched.contention = held ∧ t.link = { s.link with nextSlot := k + 1 } := by
  by_cases hs : s.radio.sending = none
  · have huse := h.resolve_left fun hn => hn hs
    obtain ⟨hlong, hreserved, -⟩ := State.useSlot_free (x := s.slotBegun k held draws) (k := k) hs
    cases hl : (s.slotBegun k held draws).longUse k with
    | some f =>
      rw [ht, hlong f hl]
      exact ⟨rfl, rfl⟩
    | none =>
      have hnone : ¬s.usesLong k := fun hu => by
        obtain ⟨f, hf⟩ := s.slotBegun_longUse_some k held draws hu
        exact absurd (hl.symm.trans hf) (by simp)
      obtain ⟨f, hf⟩ := s.slotBegun_reservedUse_some k held draws (huse.resolve_left hnone)
      rw [ht, hreserved f hl hf]
      exact ⟨rfl, rfl⟩
  · rw [State.slot_busy ht hs]
    exact ⟨rfl, rfl⟩

/-- The long frames of a long slot (R62). -/
theorem State.slot_longFrames (hs : s.radio.sending = none) (hin : s.inLong k) :
    (∀ r, s.dueFare r → s.slotSends t k (.fare r.record.ref) .long (s.fareFrame (r.sends + 1) r.record)) ∧
      ((∀ r, ¬s.dueFare r) →
        (∀ r, s.dueShift r → s.slotSends t k (.shift r.content.totals.shiftNumber) .long (s.shiftFrame (r.sends + 1) r.content)) ∧
        ((∀ r, ¬s.dueShift r) → ∀ m, s.dueText m → s.slotSends t k (.text m.tag m.next) .long (s.textFrame m m.next))) := by
  have hsends : ∀ f, s.longFrame = some f → s.slotSends t k f.name .long f.bytes := fun f hf => by
    rw [State.slot_long ht hs hin hf]
    exact State.send_sends (s.slotBegun_silent k held draws) .long f
  obtain ⟨hfare, hrest⟩ := s.longFrame_spec
  refine ⟨fun r hr => hsends _ (hfare r hr), fun hnf => ?_⟩
  obtain ⟨hshift, hrest⟩ := hrest hnf
  exact ⟨fun r hr => hsends _ (hshift r hr), fun hns m hm => hsends _ ((hrest hns).1 m hm)⟩

/-- The frames of the reserved slot, in the order of the arbiter (R51). -/
theorem State.slot_reservedFrames (hs : s.radio.sending = none) (hl : ¬s.usesLong k) (hin : s.inReserved k) :
    (∀ a, s.sched.alertPlace = some a → s.slotSends t k (.alert a.number) .reserved (s.alertFrame a)) ∧
      (s.sched.alertPlace = none → (∀ a as', s.sched.acks = a :: as' → s.slotSends t k (.ack a) .reserved (s.ackFrame a)) ∧
        (s.sched.acks = [] → (∀ b bs, s.sched.bids = b :: bs → s.slotSends t k (.bid b.job) .reserved (s.bidFrame b)) ∧
          (s.sched.bids = [] → (∀ c, s.sched.flowPlace = some c → s.slotSends t k .flow .reserved (s.flowFrame c)) ∧
            (s.sched.flowPlace = none →
              (s.sched.slotRequest ≠ none → s.slotSends t k .slotRequest .reserved (s.slotRequestFrame (min 8 s.sendable))) ∧
              (s.sched.slotRequest = none → ∀ r, s.sched.statusPlace = some r →
                s.slotSends t k (.status r.park) .reserved (s.statusFrame r)))))) := by
  have hsends : ∀ f, s.arbiterFrame = some f → s.slotSends t k f.name .reserved f.bytes := fun f hf => by
    rw [State.slot_reserved ht hs hl hin hf]
    exact State.send_sends (s.slotBegun_silent k held draws) .reserved f
  refine ⟨fun a ha => ?_, fun ha => ⟨fun tag tags hk => ?_, fun hk => ⟨fun b bs hb => ?_, fun hb => ⟨fun c hc => ?_, fun hc =>
    ⟨fun hr => ?_, fun hr r hst => ?_⟩⟩⟩⟩⟩
  · exact hsends ⟨.alert a.number, s.alertFrame a⟩ (by rw [State.arbiterFrame, ha])
  · exact hsends ⟨.ack tag, s.ackFrame tag⟩ (by rw [State.arbiterFrame, ha, hk])
  · exact hsends ⟨.bid b.job, s.bidFrame b⟩ (by rw [State.arbiterFrame, ha, hk, hb])
  · exact hsends ⟨.flow, s.flowFrame c⟩ (by rw [State.arbiterFrame, ha, hk, hb, hc])
  · obtain ⟨r, hr⟩ := Option.ne_none_iff_exists'.1 hr
    exact hsends s.slotRequestOut (by rw [State.arbiterFrame, ha, hk, hb, hc, hr])
  · exact hsends ⟨.status r.park, s.statusFrame r⟩ (by rw [State.arbiterFrame, ha, hk, hb, hc, hr, hst])

/-- The contender goes on the air in its drawn slot (R55). -/
theorem State.slot_contends {c : Contender} {f : Outgoing} (hs : s.radio.sending = none) (hl : ¬s.usesLong k)
    (hr : ¬(s.inReserved k ∧ s.waitsReserved)) (hc : held = .slotted c k) (hf : s.contenderFrame c = some f) :
    s.slotSends t k f.name .contention f.bytes ∧ t.sched.contention = .outstanding (some c) ∧
      t.link = (State.contenderKeyed c (s.slotBegun k (.outstanding (some c)) draws)).link := by
  have hsend := (State.slot_drawn ht hs hl hr).trans ((s.useDrawnSlot_eq k held draws).2.2 c f hc hf)
  rw [hsend]
  refine ⟨State.send_sends (State.contenderKeyed_silent (s.slotBegun_silent k _ draws) c) .contention f, ?_, rfl⟩
  rw [State.contenderKeyed_keeps]
  rfl

/-- The drawn slot, used or not (R55). -/
theorem State.slot_drawnFrames (hs : s.radio.sending = none) (hl : ¬s.usesLong k) (hr : ¬(s.inReserved k ∧ s.waitsReserved)) :
    ((∀ c, held ≠ .slotted c k) → s.slotSilent t k ∧ t.sched.contention = held) ∧
      (∀ c, held = .slotted c k → s.contenderGone c →
        s.slotSilent t k ∧ t.sched.contention = .idle ∧ t.link = { s.link with nextSlot := k + 1 }) ∧
      (∀ a, held = .slotted .alert k → s.transmitsIn .joined → s.sched.alertPlace = some a →
        s.slotSends t k (.alert a.number) .contention (s.alertFrame a) ∧ t.sched.contention = .outstanding (some .alert)) ∧
      (∀ b, s.transmitsIn .joined → s.sched.bids.find? (fun d => d.job == b.job) = some b → held = .slotted (.bid b.job) k →
        s.slotSends t k (.bid b.job) .contention (s.bidFrame b) ∧ t.sched.contention = .outstanding (some (.bid b.job))) ∧
      (held = .slotted .slotRequest k → s.transmitsIn .joined → s.sched.slotRequest ≠ none →
        s.slotSends t k .slotRequest .contention (s.slotRequestFrame (min 8 s.sendable)) ∧
        t.sched.contention = .outstanding (some .slotRequest)) ∧
      (held = .slotted .join k → s.transmitsIn .join → s.sched.joinPlace = true →
        s.slotSends t k .join .contention s.joinFrame ∧ t.sched.contention = .outstanding (some .join) ∧
        t.link = { s.link with nextSlot := k + 1, attempts := s.link.attempts + 1, grantWait := some 4 }) := by
  obtain ⟨hunused, hgone, -⟩ := s.useDrawnSlot_eq k held draws
  obtain ⟨halert, hbid, hrequest, hjoin⟩ := s.contenderFrame_some
  have hdrawn := State.slot_drawn ht hs hl hr
  refine ⟨fun hc => ?_, fun c hc hno => ?_, fun a hc hm ha => ?_, fun b hm hb hc => ?_, fun hc hm hq => ?_, fun hc hj hp => ?_⟩
  · rw [hdrawn, hunused hc]
    exact ⟨rfl, rfl⟩
  · rw [hdrawn, hgone c hc (State.contenderFrame_none hno)]
    exact ⟨rfl, rfl, rfl⟩
  · obtain ⟨hsends, hout, -⟩ := State.slot_contends ht hs hl hr hc (halert a hm ha)
    exact ⟨hsends, hout⟩
  · obtain ⟨hsends, hout, -⟩ := State.slot_contends ht hs hl hr hc (hbid b hm hb)
    exact ⟨hsends, hout⟩
  · obtain ⟨hsends, hout, -⟩ := State.slot_contends ht hs hl hr hc (hrequest hm hq)
    exact ⟨hsends, hout⟩
  · exact State.slot_contends ht hs hl hr hc (hjoin hj hp)

end

end Sys2Proof.Machine
end

section
/-! PROOFS. The bytes of the uplink frames (R225). -/

namespace Sys2Proof.Machine

/-! ## A set of flags in a byte -/

/-- Flags in a byte, from position `n` on. -/
def flagByte : Nat → List Bool → Byte
  | _, [] => 0#8
  | n, b :: rest => flagBit n b ||| flagByte (n + 1) rest

theorem flagByte_getLsbD : ∀ (bits : List Bool) (n k : Nat), k < 8 → n ≤ k → (flagByte n bits).getLsbD k = bits.getD (k - n) false
  | [], n, k, _, _ => by simp [flagByte]
  | b :: rest, n, k, hk, hn => by
    rw [flagByte, BitVec.getLsbD_or, flagBit_getLsbD]
    by_cases he : k = n
    · subst he
      have hlow : ∀ (l : List Bool) (m : Nat), k < m → (flagByte m l).getLsbD k = false := by
        intro l
        induction l with
        | nil => intro m _; simp [flagByte]
        | cons c cs ih =>
          intro m hm
          rw [flagByte, BitVec.getLsbD_or, flagBit_getLsbD, ih (m + 1) (by omega)]
          have hne : ¬k = m := by omega
          simp [hne]
      rw [hlow rest (k + 1) (by omega)]
      simp [hk]
    · have hrest := flagByte_getLsbD rest (n + 1) k hk (by omega)
      obtain ⟨j, hj⟩ : ∃ j, k - n = j + 1 := ⟨k - n - 1, by omega⟩
      have hj' : k - (n + 1) = j := by omega
      rw [hrest, hj, hj']
      simp [he]

/-- A byte of flags holds them, and no other bit. -/
theorem flagByte_holds (bits : List Bool) : ∀ n, n < 8 → (flagByte 0 bits).getLsbD n = bits.getD n false := fun n hn =>
  flagByte_getLsbD bits 0 n hn (Nat.zero_le n)

/-! ## Values on the air -/

/-- A body on the air: its bytes from the offset 8 of the frame on. -/
def State.uplinkHead (s : State) (kind : Byte) (bodyLength : Nat) : List Byte :=
  [kind, (s.power.image.map (·.fleet)).getD 0#8] ++ be16 s.uplinkSite ++ be16 ((s.power.image.map (·.cab)).getD 0#16) ++
    be16 (BitVec.ofNat 16 bodyLength)

theorem State.uplinkFrame_eq (s : State) (kind : Byte) (body : List Byte) :
    s.uplinkFrame kind body = s.uplinkHead kind body.length ++ body ++ be16 (crc (s.uplinkHead kind body.length ++ body)) := rfl

theorem State.length_uplinkFrame (s : State) (kind : Byte) (body : List Byte) : (s.uplinkFrame kind body).length = body.length + 10 := by
  rw [State.uplinkFrame_eq]
  simp [State.uplinkHead, be16]

theorem State.uplinkFrame_head (s : State) (kind : Byte) (body : List Byte) {n : Nat} (h : n < 8) :
    (s.uplinkFrame kind body).getD n 0#8 = (s.uplinkHead kind body.length).getD n 0#8 := by
  rw [State.uplinkFrame_eq, List.append_assoc]
  exact getD_append_of_lt h _

theorem State.uplinkFrame_byte (s : State) (kind : Byte) {body : List Byte} {n : Nat} (h : n < body.length) :
    (s.uplinkFrame kind body).getD (8 + n) 0#8 = body.getD n 0#8 := by
  have hhead : (s.uplinkHead kind body.length).length = 8 := rfl
  rw [State.uplinkFrame_eq, List.append_assoc, getD_append_of_le (by omega), hhead, Nat.add_sub_cancel_left,
    getD_append_of_lt h]

theorem State.uplinkFrame_word (s : State) (kind : Byte) {body : List Byte} {n : Nat} (h : n + 1 < body.length) :
    airWord (s.uplinkFrame kind body) (8 + n) = airWord body n := by
  rw [airWord, airWord, Nat.add_assoc, s.uplinkFrame_byte kind h, s.uplinkFrame_byte kind (Nat.lt_of_succ_lt h)]

theorem State.uplinkFrame_dword (s : State) (kind : Byte) {body : List Byte} {n : Nat} (h : n + 3 < body.length) :
    airDWord (s.uplinkFrame kind body) (8 + n) = airDWord body n := by
  rw [airDWord, airDWord, Nat.add_assoc, s.uplinkFrame_word kind (n := n) (by omega), s.uplinkFrame_word kind (n := n + 2) (by omega)]

/-- A 32-bit value on the air is read as it was sent. -/
theorem DWord.ofBytes_quarters (d : DWord) :
    DWord.ofWords (Word.ofBytes (Word.upper (DWord.upper d)) (Word.lower (DWord.upper d)))
      (Word.ofBytes (Word.upper (DWord.lower d)) (Word.lower (DWord.lower d))) = d := by
  rw [Word.ofBytes_halves, Word.ofBytes_halves, DWord.ofWords_halves]

theorem toNat_byte {n : Nat} (h : n < 256) : (BitVec.ofNat 8 n).toNat = n := by
  rw [BitVec.toNat_ofNat]
  exact Nat.mod_eq_of_lt h

/-! ## The header (R225) -/

/-- The frame carries the header of its kind, the site, the cab, its body's length, and the check. -/
def State.headed (s : State) (i : ConfigImage) (f : List Byte) (kind : Byte) (bodyLength : Nat) : Prop :=
  f.length = bodyLength + 10 ∧ f.getD 0 0#8 = kind ∧
    f.getD 1 0#8 = i.fleet ∧ (∀ r, s.link.site = some r → airWord f 2 = r.site) ∧
    (∀ c, s.link.site = none → s.link.joining = some c → airWord f 2 = c.site) ∧ airWord f 4 = i.cab ∧
    (airWord f 6).toNat = bodyLength ∧ airWord f (bodyLength + 8) = crc (f.take (bodyLength + 8))

theorem State.uplinkFrame_headed {s : State} {i : ConfigImage} (hi : s.power.image = some i) (kind : Byte) {body : List Byte} {n : Nat}
    (hn : body.length = n) (hsmall : n < 65536) : s.headed i (s.uplinkFrame kind body) kind n := by
  subst hn
  have hword : ∀ m, m + 1 < 8 → airWord (s.uplinkFrame kind body) m = airWord (s.uplinkHead kind body.length) m := fun m hm => by
    rw [airWord, airWord, s.uplinkFrame_head kind body hm, s.uplinkFrame_head kind body (Nat.lt_of_succ_lt hm)]
  have hsite : airWord (s.uplinkFrame kind body) 2 = s.uplinkSite := (hword 2 (by omega)).trans (Word.ofBytes_halves _)
  refine ⟨s.length_uplinkFrame kind body, s.uplinkFrame_head kind body (by omega), ?_, fun r hr => ?_, fun c hnone hc => ?_, ?_, ?_, ?_⟩
  · rw [s.uplinkFrame_head kind body (by omega)]
    show (s.power.image.map (·.fleet)).getD 0#8 = _
    rw [hi]
    rfl
  · rw [hsite, State.uplinkSite, hr]
  · rw [hsite, State.uplinkSite, hnone, hc]
  · refine (hword 4 (by omega)).trans ((Word.ofBytes_halves _).trans ?_)
    rw [hi]
    rfl
  · rw [(hword 6 (by omega)).trans (Word.ofBytes_halves _), BitVec.toNat_ofNat]
    exact Nat.mod_eq_of_lt hsmall
  · have hlen : (s.uplinkHead kind body.length ++ body).length = body.length + 8 := by
      rw [List.length_append, Nat.add_comm]
      rfl
    have htake : (s.uplinkFrame kind body).take (body.length + 8) = s.uplinkHead kind body.length ++ body := by
      rw [State.uplinkFrame_eq]
      exact List.take_left' hlen
    have hbyte : ∀ j, (s.uplinkFrame kind body).getD (body.length + 8 + j) 0#8 =
        (be16 (crc (s.uplinkHead kind body.length ++ body))).getD j 0#8 := fun j => by
      rw [State.uplinkFrame_eq, getD_append_of_le (by omega), hlen, Nat.add_sub_cancel_left]
    rw [htake, airWord, hbyte 1, show body.length + 8 = body.length + 8 + 0 from rfl, hbyte 0]
    exact Word.ofBytes_halves _

/-! ## The tariffs of a trip (R106) -/

theorem tariffCodes_four (l : List TariffEntry) :
    tariffCodes 4 l = [(l[0]?.map (·.tariff)).getD 0#8, (l[1]?.map (·.tariff)).getD 0#8, (l[2]?.map (·.tariff)).getD 0#8,
      (l[3]?.map (·.tariff)).getD 0#8] := by
  rcases l with _ | ⟨a, _ | ⟨b, _ | ⟨c, _ | ⟨d, l⟩⟩⟩⟩ <;> rfl

end Sys2Proof.Machine
end

section
/-! PROOFS. The layout of each uplink frame (R11, R27, R46 to R49, R59, R84, R106, R118, R133, R153, R225), and what a slot carries (O54). -/

namespace Sys2Proof.Machine

/-! ## Reading a body in its frame -/

/-- A byte of the frame holds the flags. -/
def flagsAt (f : List Byte) (offset : Nat) (bits : List Bool) : Prop := ∀ n, n < 8 → (f.getD offset 0#8).getLsbD n = bits.getD n false

/-- The frame holds the coordinates of a position that is present. -/
def placedAt (f : List Byte) (offset : Nat) (p : Position) : Prop :=
  ∀ x y, p = some (x, y) → airDWord f offset = x ∧ airDWord f (offset + 4) = y

/-- The bytes that a position takes. -/
def positionLength (p : Position) : Nat := if p.isSome then 8 else 0

theorem length_positionBytes (p : Position) : (Position.bytes p).length = positionLength p := by
  cases p <;> rfl

/-- Bytes, words and 32-bit values of a body stand 8 bytes on in its frame. -/
theorem State.uplinkFrame_reads (s : State) (kind : Byte) {body : List Byte} {n : Nat} (h : body.length = n) :
    (∀ j, j < n → (s.uplinkFrame kind body).getD (8 + j) 0#8 = body.getD j 0#8) ∧
      (∀ j, j + 1 < n → airWord (s.uplinkFrame kind body) (8 + j) = airWord body j) ∧
      (∀ j, j + 3 < n → airDWord (s.uplinkFrame kind body) (8 + j) = airDWord body j) := by
  subst h
  exact ⟨fun _ hj => s.uplinkFrame_byte kind hj, fun _ hj => s.uplinkFrame_word kind hj, fun _ hj => s.uplinkFrame_dword kind hj⟩

theorem flagsAt_of {f : List Byte} {offset : Nat} {bits : List Bool} (h : f.getD offset 0#8 = flagByte 0 bits) : flagsAt f offset bits := by
  rw [flagsAt, h]
  exact flagByte_holds bits

/-- A position at the end of a body. -/
theorem State.uplinkFrame_placed (s : State) (kind : Byte) (front : List Byte) (p : Position) :
    placedAt (s.uplinkFrame kind (front ++ Position.bytes p)) (8 + front.length) p := by
  rintro x y rfl
  have hlen : (front ++ Position.bytes (some (x, y))).length = front.length + 8 := List.length_append
  have hbyte : ∀ j, (front ++ Position.bytes (some (x, y))).getD (front.length + j) 0#8 = (Position.bytes (some (x, y))).getD j 0#8 :=
    fun j => by rw [getD_append_of_le (Nat.le_add_right _ _), Nat.add_sub_cancel_left]
  obtain ⟨-, -, hd⟩ := s.uplinkFrame_reads kind hlen
  refine ⟨(hd _ (by omega)).trans ?_, ?_⟩
  · have h0 := hbyte 0
    rw [Nat.add_zero] at h0
    rw [airDWord, airWord, airWord, h0, hbyte 1, hbyte 2, Nat.add_assoc, hbyte 3]
    exact DWord.ofBytes_quarters x
  · rw [Nat.add_assoc]
    refine (hd _ (by omega)).trans ?_
    rw [airDWord, airWord, airWord, hbyte 4, Nat.add_assoc, hbyte 5, Nat.add_assoc, hbyte 6, Nat.add_assoc, hbyte 7]
    exact DWord.ofBytes_quarters y

/-! ## A body made of fields -/

/-- The offset of a field in a body, by the lengths of the fields. -/
def fieldStart (ls : List Nat) (k : Nat) : Nat := (ls.take k).sum

/-- A body holds each of its fields at its offset. -/
theorem flatten_getD : ∀ (fs : List (List Byte)) {k j : Nat} {x : List Byte}, fs[k]? = some x → j < x.length →
    fs.flatten.getD (fieldStart (fs.map List.length) k + j) 0#8 = x.getD j 0#8 ∧
      fieldStart (fs.map List.length) k + j < fs.flatten.length
  | [], k, j, x, hk, _ => by simp at hk
  | y :: ys, 0, j, x, hk, hj => by
    obtain rfl : y = x := by simpa using hk
    have hstart : fieldStart ((y :: ys).map List.length) 0 + j = j := by simp [fieldStart]
    rw [hstart, List.flatten_cons, getD_append_of_lt hj, List.length_append]
    exact ⟨rfl, by omega⟩
  | y :: ys, k + 1, j, x, hk, hj => by
    obtain ⟨hbyte, hlt⟩ := flatten_getD ys (k := k) (by simpa using hk) hj
    have hstart : fieldStart ((y :: ys).map List.length) (k + 1) + j = y.length + (fieldStart (ys.map List.length) k + j) := by
      simp [fieldStart, Nat.add_assoc]
    rw [hstart, List.flatten_cons, getD_append_of_le (Nat.le_add_right _ _), Nat.add_sub_cancel_left, List.length_append]
    exact ⟨hbyte, by omega⟩

section
variable {s : State} {kind : Byte} {fs : List (List Byte)} {ls : List Nat} (hls : fs.map List.length = ls)
  {k o : Nat} (ho : 8 + fieldStart ls k = o)
include hls ho

theorem State.fieldByte {x : List Byte} (hk : fs[k]? = some x) {j : Nat} (hj : j < x.length) :
    (s.uplinkFrame kind fs.flatten).getD (o + j) 0#8 = x.getD j 0#8 := by
  obtain ⟨hbyte, hlt⟩ := flatten_getD fs hk hj
  rw [hls] at hbyte hlt
  rw [← ho, Nat.add_assoc, s.uplinkFrame_byte kind hlt, hbyte]

theorem State.fieldOne {b : Byte} (hk : fs[k]? = some [b]) : (s.uplinkFrame kind fs.flatten).getD o 0#8 = b :=
  State.fieldByte hls ho hk (j := 0) (show 0 < 1 by decide)

theorem State.fieldNat {m : Nat} (hk : fs[k]? = some [BitVec.ofNat 8 m]) (hm : m < 256) :
    ((s.uplinkFrame kind fs.flatten).getD o 0#8).toNat = m := by
  rw [State.fieldOne hls ho hk, toNat_byte hm]

theorem State.fieldFlags {bits : List Bool} (hk : fs[k]? = some [flagByte 0 bits]) : flagsAt (s.uplinkFrame kind fs.flatten) o bits :=
  flagsAt_of (State.fieldOne hls ho hk)

theorem State.fieldWord {w : Word} (hk : fs[k]? = some (be16 w)) : airWord (s.uplinkFrame kind fs.flatten) o = w := by
  have hhigh := State.fieldByte (s := s) (kind := kind) hls ho hk (j := 0) (show 0 < 2 by decide)
  have hlow := State.fieldByte (s := s) (kind := kind) hls ho hk (j := 1) (show 1 < 2 by decide)
  rw [Nat.add_zero] at hhigh
  rw [airWord, hhigh, hlow]
  exact Word.ofBytes_halves w

theorem State.fieldDword {d : DWord} (hk : fs[k]? = some (be32 d)) : airDWord (s.uplinkFrame kind fs.flatten) o = d := by
  have hbyte := fun j => State.fieldByte (s := s) (kind := kind) hls ho hk (j := j)
  have h0 := hbyte 0 (show 0 < 4 by decide)
  rw [Nat.add_zero] at h0
  rw [airDWord, airWord, airWord, h0, hbyte 1 (show 1 < 4 by decide), hbyte 2 (show 2 < 4 by decide), hbyte 3 (show 3 < 4 by decide)]
  exact DWord.ofBytes_quarters d

end

/-! ## The short frames -/

section
variable {s : State} {i : ConfigImage} (hi : s.power.image = some i)
include hi

theorem State.joinFrame_layout :
    s.headed i s.joinFrame 0x21#8 5 ∧ s.joinFrame.getD 8 0#8 = i.classFlags ∧ s.joinFrame.getD 9 0#8 = s.status.status.code ∧
      airWord s.joinFrame 10 = s.status.driverId ∧ flagsAt s.joinFrame 12 [s.emerg.state.raised] := by
  have hlen : ([(s.power.image.map (fun c : ConfigImage => c.classFlags)).getD 0#8, s.status.status.code] ++ be16 s.status.driverId ++
      [flagBit 0 s.emerg.state.raised]).length = 5 := rfl
  obtain ⟨hb, hw, -⟩ := s.uplinkFrame_reads 0x21#8 hlen
  refine ⟨State.uplinkFrame_headed hi _ hlen (by decide), (hb 0 (by decide)).trans ?_, hb 1 (by decide),
    (hw 2 (by decide)).trans (Word.ofBytes_halves _), flagsAt_of ((hb 4 (by decide)).trans ?_)⟩
  · show (s.power.image.map (fun c : ConfigImage => c.classFlags)).getD 0#8 = _
    rw [hi]
    rfl
  · show flagBit 0 s.emerg.state.raised = flagBit 0 s.emerg.state.raised ||| 0#8
    rw [BitVec.or_zero]

theorem State.alertFrame_layout (a : AlertFrame) :
    s.headed i (s.alertFrame a) 0x22#8 (6 + positionLength s.status.position) ∧ airWord (s.alertFrame a) 8 = a.number ∧
      (s.alertFrame a).getD 10 0#8 = a.source.code ∧ (s.alertFrame a).getD 11 0#8 = s.status.status.code ∧
      flagsAt (s.alertFrame a) 12 [s.trips.trip.isSome, s.status.position.isSome] ∧ (s.alertFrame a).getD 13 0#8 = s.status.zone ∧
      placedAt (s.alertFrame a) 14 s.status.position := by
  have hlen : (be16 a.number ++ [a.source.code, s.status.status.code,
      flagBit 0 s.trips.trip.isSome ||| flagBit 1 s.status.position.isSome, s.status.zone] ++ Position.bytes s.status.position).length =
      6 + positionLength s.status.position := by
    rw [List.length_append, length_positionBytes]
    rfl
  have hsmall : positionLength s.status.position ≤ 8 := by
    unfold positionLength
    split <;> decide
  obtain ⟨hb, hw, -⟩ := s.uplinkFrame_reads 0x22#8 hlen
  refine ⟨State.uplinkFrame_headed hi _ hlen (by omega), (hw 0 (by omega)).trans (Word.ofBytes_halves _), hb 2 (by omega), hb 3 (by omega),
    flagsAt_of ((hb 4 (by omega)).trans ?_), hb 5 (by omega), s.uplinkFrame_placed _ _ _⟩
  show flagBit 0 s.trips.trip.isSome ||| flagBit 1 s.status.position.isSome =
    flagBit 0 s.trips.trip.isSome ||| (flagBit 1 s.status.position.isSome ||| 0#8)
  rw [BitVec.or_zero]

theorem State.ackFrame_layout (tag : Word) : s.headed i (s.ackFrame tag) 0x23#8 2 ∧ airWord (s.ackFrame tag) 8 = tag := by
  have hlen : (be16 tag).length = 2 := rfl
  obtain ⟨-, hw, -⟩ := s.uplinkFrame_reads 0x23#8 hlen
  exact ⟨State.uplinkFrame_headed hi _ hlen (by decide), (hw 0 (by decide)).trans (Word.ofBytes_halves _)⟩

theorem State.bidFrame_layout (b : Bid) :
    s.headed i (s.bidFrame b) 0x24#8 5 ∧ airDWord (s.bidFrame b) 8 = b.job ∧ (s.bidFrame b).getD 12 0#8 = b.code.code := by
  have hlen : (be32 b.job ++ [b.code.code]).length = 5 := rfl
  obtain ⟨hb, -, hd⟩ := s.uplinkFrame_reads 0x24#8 hlen
  exact ⟨State.uplinkFrame_headed hi _ hlen (by decide), (hd 0 (by decide)).trans (DWord.ofBytes_quarters _), hb 4 (by decide)⟩

theorem State.flowFrame_layout (c : FlowCode) : s.headed i (s.flowFrame c) 0x25#8 1 ∧ (s.flowFrame c).getD 8 0#8 = c.code := by
  have hlen : [c.code].length = 1 := rfl
  obtain ⟨hb, -⟩ := s.uplinkFrame_reads 0x25#8 hlen
  exact ⟨State.uplinkFrame_headed hi _ hlen (by decide), hb 0 (by decide)⟩

theorem State.slotRequestFrame_layout (n : Nat) :
    s.headed i (s.slotRequestFrame n) 0x26#8 1 ∧ (n < 256 → ((s.slotRequestFrame n).getD 8 0#8).toNat = n) := by
  have hlen : [BitVec.ofNat 8 n].length = 1 := rfl
  obtain ⟨hb, -⟩ := s.uplinkFrame_reads 0x26#8 hlen
  exact ⟨State.uplinkFrame_headed hi _ hlen (by decide), fun hn => (congrArg BitVec.toNat (hb 0 (by decide))).trans (toNat_byte hn)⟩

theorem State.statusFrame_layout (r : StatusReport) :
    s.headed i (s.statusFrame r) 0x27#8 (7 + positionLength r.position) ∧ (s.statusFrame r).getD 8 0#8 = r.status.code ∧
      flagsAt (s.statusFrame r) 9 [r.meterOpened, r.emergency, r.position.isSome, r.paused, r.park] ∧
      airWord (s.statusFrame r) 10 = r.shiftNumber ∧ airWord (s.statusFrame r) 12 = r.driverId ∧
      (s.statusFrame r).getD 14 0#8 = r.zone ∧ placedAt (s.statusFrame r) 15 r.position := by
  have hlen : ([r.status.code, flagBit 0 r.meterOpened ||| flagBit 1 r.emergency ||| flagBit 2 r.position.isSome |||
      flagBit 3 r.paused ||| flagBit 4 r.park] ++ be16 r.shiftNumber ++ be16 r.driverId ++ [r.zone] ++
      Position.bytes r.position).length = 7 + positionLength r.position := by
    rw [List.length_append, length_positionBytes]
    rfl
  have hsmall : positionLength r.position ≤ 8 := by
    unfold positionLength
    split <;> decide
  obtain ⟨hb, hw, -⟩ := s.uplinkFrame_reads 0x27#8 hlen
  refine ⟨State.uplinkFrame_headed hi _ hlen (by omega), hb 0 (by omega), flagsAt_of ((hb 1 (by omega)).trans ?_),
    (hw 2 (by omega)).trans (Word.ofBytes_halves _), (hw 4 (by omega)).trans (Word.ofBytes_halves _), hb 6 (by omega),
    s.uplinkFrame_placed _ _ _⟩
  show flagBit 0 r.meterOpened ||| flagBit 1 r.emergency ||| flagBit 2 r.position.isSome ||| flagBit 3 r.paused ||| flagBit 4 r.park = _
  simp only [flagByte, BitVec.or_zero, BitVec.or_assoc]

/-! ## The long frames -/

/-- The fields of a FARE frame's body. -/
def fareFields (n : Nat) (r : TripRecord) : List (List Byte) :=
  [[BitVec.ofNat 8 n], be16 r.ref.shift, be16 r.ref.trip, be16 r.driverId,
    [flagByte 0 [r.flags.emergency, r.flags.meterFault, r.flags.interrupted, r.flags.mismatch, r.flags.forcedClose, r.flags.overflow]],
    [flagByte 0 [r.job.isSome, r.forced, r.meterOpened]], be32 (r.job.getD 0#32),
    [r.faultCode], be32 r.startTime, be32 r.closeTime, be32 r.duration, [BitVec.ofNat 8 r.tariffs.length],
    [(r.tariffs[0]?.map (·.tariff)).getD 0#8, (r.tariffs[1]?.map (·.tariff)).getD 0#8, (r.tariffs[2]?.map (·.tariff)).getD 0#8,
      (r.tariffs[3]?.map (·.tariff)).getD 0#8],
    be32 r.groups.g0, be32 r.groups.g1, be32 r.groups.g2, be32 r.groups.g3, be32 r.ungrouped, be32 r.stepSum, be32 r.fare, be32 r.extras]

theorem State.fareFrame_layout {n : Nat} {r : TripRecord} (hn : n < 256) (hr : r.tariffs.length ≤ 4) :
    let f := s.fareFrame n r
    s.headed i f 0x28#8 63 ∧ (f.getD 8 0#8).toNat = n ∧ airWord f 9 = r.ref.shift ∧ airWord f 11 = r.ref.trip ∧ airWord f 13 = r.driverId ∧
      flagsAt f 15 [r.flags.emergency, r.flags.meterFault, r.flags.interrupted, r.flags.mismatch, r.flags.forcedClose,
        r.flags.overflow] ∧
      flagsAt f 16 [r.job.isSome, r.forced, r.meterOpened] ∧ airDWord f 17 = r.job.getD 0#32 ∧
      f.getD 21 0#8 = r.faultCode ∧ airDWord f 22 = r.startTime ∧ airDWord f 26 = r.closeTime ∧ airDWord f 30 = r.duration ∧
      (f.getD 34 0#8).toNat = r.tariffs.length ∧
      (∀ j, j < 4 → f.getD (35 + j) 0#8 = (r.tariffs[j]?.map (fun e => e.tariff)).getD 0#8) ∧ airDWord f 39 = r.groups.g0 ∧
      airDWord f 43 = r.groups.g1 ∧ airDWord f 47 = r.groups.g2 ∧ airDWord f 51 = r.groups.g3 ∧ airDWord f 55 = r.ungrouped ∧
      airDWord f 59 = r.stepSum ∧ airDWord f 63 = r.fare ∧ airDWord f 67 = r.extras := by
  intro f
  have hframe : f = s.uplinkFrame 0x28#8 (fareFields n r).flatten := by
    show s.fareFrame n r = _
    rw [State.fareFrame, tariffCodes_four]
    simp only [fareFields, TripFlags.code, flagByte, BitVec.or_zero, BitVec.or_assoc, List.flatten_cons, List.flatten_nil, List.append_nil,
      List.append_assoc, List.cons_append, List.nil_append]
  have hls : (fareFields n r).map List.length = [1, 2, 2, 2, 1, 1, 4, 1, 4, 4, 4, 1, 4, 4, 4, 4, 4, 4, 4, 4, 4] := rfl
  have hlen : (fareFields n r).flatten.length = 63 := by rw [List.length_flatten, hls]; decide
  have hheaded : s.headed i (s.uplinkFrame 0x28#8 (fareFields n r).flatten) 0x28#8 63 := State.uplinkFrame_headed hi _ hlen (by decide)
  rw [hframe]
  refine ⟨hheaded, State.fieldNat hls (k := 0) rfl rfl hn, State.fieldWord hls (k := 1) rfl rfl, State.fieldWord hls (k := 2) rfl rfl,
    State.fieldWord hls (k := 3) rfl rfl, State.fieldFlags hls (k := 4) rfl rfl, State.fieldFlags hls (k := 5) rfl rfl,
    State.fieldDword hls (k := 6) rfl rfl, State.fieldOne hls (k := 7) rfl rfl, State.fieldDword hls (k := 8) rfl rfl,
    State.fieldDword hls (k := 9) rfl rfl, State.fieldDword hls (k := 10) rfl rfl, State.fieldNat hls (k := 11) rfl rfl (by omega),
    fun j hj => ?_, State.fieldDword hls (k := 13) rfl rfl, State.fieldDword hls (k := 14) rfl rfl,
    State.fieldDword hls (k := 15) rfl rfl, State.fieldDword hls (k := 16) rfl rfl, State.fieldDword hls (k := 17) rfl rfl,
    State.fieldDword hls (k := 18) rfl rfl, State.fieldDword hls (k := 19) rfl rfl, State.fieldDword hls (k := 20) rfl rfl⟩
  refine (State.fieldByte hls (k := 12) rfl rfl (j := j) hj).trans ?_
  rcases j with _ | _ | _ | _ | j
  · rfl
  · rfl
  · rfl
  · rfl
  · omega

/-- The fields of a SHIFT frame's body. -/
def shiftFields (n : Nat) (c : ClosedTotals) : List (List Byte) :=
  let t := c.totals
  [[BitVec.ofNat 8 n], be16 t.shiftNumber, be16 t.driverId, [flagByte 0 [t.meterOpened]], be32 t.openTime,
    be16 t.tripsClosed, be16 t.tripsWithJob, be16 t.tripsWithEmergency, be16 t.mismatches, be16 t.meterFaults,
    be16 t.reportsAcknowledged, be16 t.reportsInList, be16 t.reportsAbandoned, be16 t.tripsNotLogged,
    be32 t.fareTotal, be32 t.groupTotals.g0, be32 t.groupTotals.g1, be32 t.groupTotals.g2,
    be32 t.groupTotals.g3, be32 t.ungroupedTotal, be32 t.extrasTotal, be32 t.hiredSeconds, be32 c.closeTime]

theorem State.shiftFrame_layout {n : Nat} (hn : n < 256) (c : ClosedTotals) :
    let f := s.shiftFrame n c
    let t := c.totals
    s.headed i f 0x29#8 64 ∧ (f.getD 8 0#8).toNat = n ∧ airWord f 9 = t.shiftNumber ∧ airWord f 11 = t.driverId ∧ flagsAt f 13 [t.meterOpened] ∧
      airDWord f 14 = t.openTime ∧ airWord f 18 = t.tripsClosed ∧ airWord f 20 = t.tripsWithJob ∧ airWord f 22 = t.tripsWithEmergency ∧
      airWord f 24 = t.mismatches ∧ airWord f 26 = t.meterFaults ∧ airWord f 28 = t.reportsAcknowledged ∧ airWord f 30 = t.reportsInList ∧
      airWord f 32 = t.reportsAbandoned ∧ airWord f 34 = t.tripsNotLogged ∧ airDWord f 36 = t.fareTotal ∧
      airDWord f 40 = t.groupTotals.g0 ∧ airDWord f 44 = t.groupTotals.g1 ∧ airDWord f 48 = t.groupTotals.g2 ∧
      airDWord f 52 = t.groupTotals.g3 ∧ airDWord f 56 = t.ungroupedTotal ∧ airDWord f 60 = t.extrasTotal ∧
      airDWord f 64 = t.hiredSeconds ∧ airDWord f 68 = c.closeTime := by
  intro f t
  have hframe : f = s.uplinkFrame 0x29#8 (shiftFields n c).flatten := by
    show s.shiftFrame n c = _
    rw [State.shiftFrame]
    simp only [shiftFields, flagByte, BitVec.or_zero, List.flatten_cons, List.flatten_nil, List.append_nil, List.append_assoc]
  have hls : (shiftFields n c).map List.length = [1, 2, 2, 1, 4, 2, 2, 2, 2, 2, 2, 2, 2, 2, 4, 4, 4, 4, 4, 4, 4, 4, 4] := rfl
  have hlen : (shiftFields n c).flatten.length = 64 := by rw [List.length_flatten, hls]; decide
  have hheaded : s.headed i (s.uplinkFrame 0x29#8 (shiftFields n c).flatten) 0x29#8 64 := State.uplinkFrame_headed hi _ hlen (by decide)
  rw [hframe]
  exact ⟨hheaded, State.fieldNat hls (k := 0) rfl rfl hn, State.fieldWord hls (k := 1) rfl rfl, State.fieldWord hls (k := 2) rfl rfl,
    State.fieldFlags hls (k := 3) rfl rfl, State.fieldDword hls (k := 4) rfl rfl, State.fieldWord hls (k := 5) rfl rfl,
    State.fieldWord hls (k := 6) rfl rfl, State.fieldWord hls (k := 7) rfl rfl, State.fieldWord hls (k := 8) rfl rfl,
    State.fieldWord hls (k := 9) rfl rfl, State.fieldWord hls (k := 10) rfl rfl, State.fieldWord hls (k := 11) rfl rfl,
    State.fieldWord hls (k := 12) rfl rfl, State.fieldWord hls (k := 13) rfl rfl, State.fieldDword hls (k := 14) rfl rfl,
    State.fieldDword hls (k := 15) rfl rfl, State.fieldDword hls (k := 16) rfl rfl, State.fieldDword hls (k := 17) rfl rfl,
    State.fieldDword hls (k := 18) rfl rfl, State.fieldDword hls (k := 19) rfl rfl, State.fieldDword hls (k := 20) rfl rfl,
    State.fieldDword hls (k := 21) rfl rfl, State.fieldDword hls (k := 22) rfl rfl⟩

theorem State.textFrame_layout {m : OutMessage} {n : Nat} (hn : n < m.fragments) (hm : m.fragments < 256) :
    let f := s.textFrame m n
    let part := (m.text.drop (40 * n)).take 40
    s.headed i f 0x2A#8 (7 + part.length) ∧ airWord f 8 = m.tag ∧ (f.getD 10 0#8).toNat = n ∧ (f.getD 11 0#8).toNat = m.fragments ∧
      f.getD 12 0#8 = m.kind ∧ flagsAt f 13 [m.urgent] ∧ (f.getD 14 0#8).toNat = part.length ∧
      ∀ j, j < part.length → f.getD (15 + j) 0#8 = part.getD j 0#8 := by
  intro f part
  have hpart : part.length ≤ 40 := List.length_take_le _ _
  have hlen : (be16 m.tag ++ [BitVec.ofNat 8 n, BitVec.ofNat 8 m.fragments, m.kind, flagBit 0 m.urgent,
      BitVec.ofNat 8 part.length] ++ part).length = 7 + part.length := List.length_append
  obtain ⟨hb, hw, -⟩ := s.uplinkFrame_reads 0x2A#8 hlen
  refine ⟨State.uplinkFrame_headed hi _ hlen (by omega), (hw 0 (by omega)).trans (Word.ofBytes_halves _),
    (congrArg BitVec.toNat (hb 2 (by omega))).trans (toNat_byte (by omega)),
    (congrArg BitVec.toNat (hb 3 (by omega))).trans (toNat_byte hm), hb 4 (by omega), flagsAt_of ((hb 5 (by omega)).trans ?_),
    (congrArg BitVec.toNat (hb 6 (by omega))).trans (toNat_byte (by omega)), fun j hj => ?_⟩
  · show flagBit 0 m.urgent = _
    simp only [flagByte, BitVec.or_zero]
  · have hbyte := hb (7 + j) (by omega)
    rw [← Nat.add_assoc] at hbyte
    refine hbyte.trans ?_
    rw [getD_append_of_le (Nat.le_add_right 7 j)]
    exact congrArg (fun x => part.getD x 0#8) (Nat.add_sub_cancel_left 7 j)

end

/-! ## The obligation -/

/-- The start of a slot, with the window open, with a grant that is over, and otherwise. -/
theorem exec_slotStart_first {s : State} {k : Nat} (hr : s.ready = true) (hk : s.link.nextSlot = k) (hlt : k < 24) :
    (s.link.window = true → ∃ u, exec .beaconWindowClose s = .next u ∧ u.link.window = false ∧ exec .slotStart s = exec .slotStart u) ∧
      (s.link.window = false → s.grantOver k = true → exec .slotStart s = exec .slotStart s.endGrant) ∧
      (s.link.window = false → s.grantOver k = false → ∃ held draws, s.slotChoice k held draws ∧
        exec .slotStart s = .next ((s.slotBegun k held draws).useSlot k)) := by
  have hexec := exec_slotStart hr (by rw [hk]; exact hlt)
  refine ⟨fun _ => ⟨s.closeWindow, exec_beaconWindowClose hr, s.closeWindow_window, ?_⟩, fun hw hg => ?_, fun hw hg => ?_⟩
  · rw [hexec, exec_slotStart (by rw [State.closeWindow_ready]; exact hr) (by simp only [State.closeWindow_fields]; rw [hk]; exact hlt),
      ← State.startSlot_closes]
  · obtain ⟨hframe, -⟩ := s.endGrant_spec
    rw [hexec, exec_slotStart (by rw [State.endGrant_ready]; exact hr) (by rw [hframe]; exact hk.symm ▸ hlt), State.startSlot_ends hk hw hg]
  · obtain ⟨held, draws, hchoice, hstart⟩ := State.startSlot_begins hk hw hg
    exact ⟨held, draws, hchoice, hexec.trans (congrArg Host.Outcome.next hstart)⟩

/-- Settles O54: the start of a slot, and the layout of the frames that it may carry. -/
theorem slotCarriesTheFirstUse : Obligations.SlotCarriesTheFirstUse := by
  constructor
  · intro s hr k hk hlt ended transmits may mayJoin fareDue shiftDue textDue inLong longUse inReserved waiting first sends silent
    obtain ⟨hwindow, hover, hbegins⟩ := exec_slotStart_first hr hk hlt
    have hended : s.grantOver k = true ↔ ∃ g, s.sched.grant = some g ∧ ended g := s.grantOver_iff k
    refine ⟨hwindow, fun g hw hg hend => ?_, fun hw hg => ?_⟩
    · obtain ⟨hframe, hsched, hasks, hquiet⟩ := s.endGrant_spec
      exact ⟨s.endGrant, hframe, hsched, hasks, hquiet, hover hw (hended.2 ⟨g, hg, hend⟩)⟩
    · have hnot : s.grantOver k = false := Bool.eq_false_iff.2 fun hc => by
        obtain ⟨g, hgrant, hend⟩ := hended.1 hc
        exact hg g hgrant hend
      obtain ⟨held, draws, ⟨hstays, hchosen⟩, hexec⟩ := hbegins hw hnot
      generalize ht : (s.slotBegun k held draws).useSlot k = t at hexec
      obtain ⟨hframe, hsched, hlink⟩ := State.slot_keeps ht.symm
      have hdraws : t.sched.draws = draws := by rw [hsched]
      refine ⟨t, held, hexec, hframe, by rw [hdraws]; exact hsched, hlink, ?_, ?_, fun hs => ?_, State.slot_keepsContention ht.symm,
        State.slot_longFrames ht.symm, State.slot_reservedFrames ht.symm, State.slot_drawnFrames ht.symm⟩
      · rw [hdraws]
        exact hstays
      · rw [hdraws]
        exact hchosen
      · rw [State.slot_busy ht.symm hs]
        rfl
  · intro s i hi header flags placed extra raised
    have hraised : s.emerg.state.raised = decide raised := by
      rw [Bool.eq_iff_iff, EmergencyState.raised_iff, decide_eq_true_iff]
    refine ⟨⟨rfl, rfl, rfl, rfl, rfl, rfl, rfl, rfl, rfl, rfl, rfl, rfl, rfl⟩, ?_, State.alertFrame_layout hi, State.ackFrame_layout hi,
      State.bidFrame_layout hi, State.flowFrame_layout hi, State.slotRequestFrame_layout hi, State.statusFrame_layout hi,
      fun n r hn hl => State.fareFrame_layout hi hn hl, fun n c hn => State.shiftFrame_layout hi hn c,
      fun m n hn hm => State.textFrame_layout hi hn hm⟩
    have hjoin := State.joinFrame_layout hi
    rw [hraised] at hjoin
    exact hjoin

end Sys2Proof.Machine
end
